-- ==== Sys2Proof/Word.lean ====
section
/-! DEFINITION. Word.lean: the word types of the manual (R10, R254) and their names. -/
namespace Sys2Proof

/-- A byte. -/
abbrev W8 := BitVec 8
/-- A 16-bit word: frame numbers, ring indices. -/
abbrev W16 := BitVec 16
/-- A register or descriptor word. -/
abbrev W32 := BitVec 32
/-- A map entry, a bus address or a monitor record. -/
abbrev W64 := BitVec 64
/-- A selector. -/
abbrev W128 := BitVec 128

end Sys2Proof
end

