-- ==== Sys2Proof/Syntax.lean ====
section
/-! DEFINITION. Syntax.lean: the commands, one constructor per row of spec/opcode_table.json.
The first operand `t` of every command is the tick (R9) at which it happens.
What the device cannot know before it happens (received frames, bytes of host memory, the outcome of a PCIe write,
bit upsets, measured values) stands in the command's operands. -/
namespace Sys2Proof

/-- A source of commands (R253). -/
inductive Src where
  | ring0 | ring1 | spi
  deriving DecidableEq, Repr

/-- What carries out one taken command: the tick, the source whose oldest such command it is, the bytes read from a
host-memory input buffer (`none`: the read failed), whether a host-memory output buffer write succeeds, and whether
the reply write succeeds (R257, R263). -/
structure Exe where
  t : Nat
  src : Src
  inp : Option (List W8)
  outOk : Bool
  rplOk : Bool
  deriving DecidableEq, Repr

/-- A line port (R31). -/
abbrev Port := Fin 48
/-- A matrix master M0 to M8 (R288, R289). -/
abbrev Master := Fin 9
/-- What a host reset is (R276). -/
inductive HostResetCause where
  | flr | hotReset | linkLoss | perstN
  deriving DecidableEq, Repr
/-- What the host has set in the PCIe configuration space: the MSI-X table size that it enabled, 0 while MSI-X is disabled, the vectors
it masks (R269), and whether it enabled the error message for an Unsupported Request (R296). -/
structure PcieCfg where
  vecs : Nat
  mask : W32
  msg : Bool
  deriving DecidableEq, Repr
/-- How an access reaches the device: a control-plane address from the matrix, or an offset in one of the host's BARs (R287). -/
inductive Via where
  | bus | bar0 | bar2 | bar4
  deriving DecidableEq, Repr
/-- The place of a write: how it reaches the device, and the address or offset there. -/
structure BusPlace where
  via : Via
  addr : W32
  deriving DecidableEq, Repr
/-- A read: its place, and for each byte from there on whether it is enabled (R285). -/
structure Reading where
  via : Via
  addr : W32
  be : List Bool
  deriving DecidableEq, Repr
/-- A query as ARB_Q shows it (R227): the samples of 1 in a row before its start bit, and its 16 bits. -/
structure Query where
  ones : Nat
  word : W16
  deriving DecidableEq, Repr
/-- Bits of stored words that flip at a frame mark: bits of selectors and of monitors that flipped before they were read, and scratchpad
words with a correctable (`false`) or uncorrectable (`true`) error from now on. -/
structure Upsets where
  sel : List (BitVec 20 × W128)
  mon : List (BitVec 21 × W64)
  scr : List (Fin 262144 × Bool)
  deriving DecidableEq, Repr
/-- An engine that looks for a grain, and the queues whose head it lost to a claim of the same handshake (R90). -/
structure Claim where
  eng : Fin 256
  lost : List (Fin 256)
  deriving DecidableEq, Repr
/-- The symbols of a frame period of a Ziuth lane; `half`: the frame begins on the second bit of the first symbol (R174, R175). -/
structure LaneSymbols where
  half : Bool
  symbols : List (Fin 4)
  deriving DecidableEq, Repr
/-- The holder's alignment: TMG_ALIGN, and the frame time since its last PPS pulse (R215). -/
structure Alignment where
  align : BitVec 21
  pps : Nat
  deriving DecidableEq, Repr
/-- What a RESYNC_DATA record carries (R234). -/
structure ResyncPiece where
  region : Fin 7
  off : W32
  data : List W8
  deriving DecidableEq, Repr
/-- The blocks with a LOCK bit. -/
inductive LockBlk where
  | sys | mtx | pwr | tally | map | core | prt (p : Port)
  deriving DecidableEq, Repr
/-- What the signal detector of a port sees (R190): signal detect lost, 20 us of zeros, 125 us of signal without them. -/
inductive LosEvent where
  | detectLost | zeros | signal
  deriving DecidableEq, Repr
/-- JTAG instructions (R369, R396): those of IEEE 1149.1 that stay open, and every other. -/
inductive Jtag where
  | bypass | idcode | sample | extest | clamp | highz | other
  deriving DecidableEq, Repr
/-- The header of a received mate-link record (R233): CRC, LAST, SEQ, FN and EPOCH; TYPE and LEN follow from the body. -/
structure RecHdr where
  crc : W32
  last : Bool
  seq : W32
  fn : W16
  epoch : W8
  deriving DecidableEq, Repr
/-- What a boot finds (R343, R345, R352): the tick at which each of steps 1 to 11 ends, whether the training margins of step 2 keep their
fused limits, and the data-store banks that fail the test of step 3's alternative. -/
structure BootEnv where
  ends : List Nat
  margins : Bool
  bad : List (Fin 2112)
  deriving DecidableEq, Repr
/-- Why the new firmware hands control back in the window (R362): the limit, its watchdog, a fatal error, its own self-check, or an item of
the settings that it could not read. -/
inductive RevertCause where
  | limit | watchdog | fatal | selfCheck | settings
  deriving DecidableEq, Repr

/-- A command: one constructor per row of the table; the rule that gives its effect stands beside it. -/
inductive Instr where
  /-- ECHO (R279) -/
  | echo (x : Exe)
  /-- GET_INFO (R280) -/
  | getInfo (x : Exe)
  /-- PORT_CONFIGURE (R158) -/
  | portConfigure (x : Exe)
  /-- PORT_ENABLE (R160) -/
  | portEnable (x : Exe)
  /-- PORT_DISABLE (R161) -/
  | portDisable (x : Exe)
  /-- PORT_STATUS (R163) -/
  | portStatus (x : Exe)
  /-- MAP_WRITE_RANGE (R64) -/
  | mapWriteRange (x : Exe)
  /-- MAP_COMMIT (R75) -/
  | mapCommit (x : Exe)
  /-- MAP_READBACK (R82) -/
  | mapReadback (x : Exe)
  /-- MAP_CHECK (R66) -/
  | mapCheck (x : Exe)
  /-- MAP_SNAPSHOT (R83) -/
  | mapSnapshot (x : Exe)
  /-- SEL_WRITE (R131) -/
  | selWrite (x : Exe)
  /-- SEL_COMMAND (R126) -/
  | selCommand (x : Exe)
  /-- SEL_STATUS (R130) -/
  | selStatus (x : Exe)
  /-- MON_CONFIGURE (R135) -/
  | monConfigure (x : Exe)
  /-- TIMING_CONFIGURE (R220) -/
  | timingConfigure (x : Exe)
  /-- TIMING_REALIGN (R219) -/
  | timingRealign (x : Exe)
  /-- TIMING_STATUS (R209) -/
  | timingStatus (x : Exe)
  /-- PAIR_CONFIGURE (R251) -/
  | pairConfigure (x : Exe)
  /-- PAIR_SWAP (R252) -/
  | pairSwap (x : Exe)
  /-- PAIR_STATUS (R20) -/
  | pairStatus (x : Exe)
  /-- POWER_BUDGET (R315) -/
  | powerBudget (x : Exe)
  /-- LATENCY_BUDGET (R312) -/
  | latencyBudget (x : Exe)
  /-- SELFTEST (R320) -/
  | selftest (x : Exe)
  /-- SELFTEST_RESULT (R320) -/
  | selftestResult (x : Exe)
  /-- FW_STAGE (R359) -/
  | fwStage (x : Exe)
  /-- FW_ACTIVATE (R360) -/
  | fwActivate (x : Exe)
  /-- FW_CONFIRM (R364) -/
  | fwConfirm (x : Exe)
  /-- FW_ABORT (R365) -/
  | fwAbort (x : Exe)
  /-- PERF_CONFIG (R339) -/
  | perfConfig (x : Exe)
  /-- PERF_DUMP_NOW (R332) -/
  | perfDumpNow (x : Exe)
  /-- MDC_ROUTE (R192) -/
  | mdcRoute (x : Exe)
  /-- MDC_STATUS (R192) -/
  | mdcStatus (x : Exe)
  /-- SETTINGS_SAVE (R366) -/
  | settingsSave (x : Exe)
  /-- SETTINGS_RESTORE (R367) -/
  | settingsRestore (x : Exe)
  /-- POLL (R230) -/
  | poll (t : Nat) (q : Query)
  /-- GRANT (R230) -/
  | grant (t : Nat) (q : Query) (rplOk : Bool)
  /-- RENEW (R230) -/
  | renew (t : Nat) (q : Query)
  /-- REVOKE (R230) -/
  | revoke (t : Nat) (q : Query)
  /-- HANDOVER (R243) -/
  | handover (t : Nat) (q : Query)
  /-- ARB_ABORT (R227) -/
  | arbAbort (t : Nat)
  /-- SPI_STATUS (R273) -/
  | spiStatus (t : Nat)
  /-- CMD_WRITE (R273) -/
  | cmdWrite (t : Nat) (d : List W32)
  /-- RPL_READ (R273) -/
  | rplRead (t : Nat)
  /-- MEM_WRITE (R273) -/
  | memWrite (t : Nat) (addr : W32) (data : List W8)
  /-- MEM_READ (R273) -/
  | memRead (t : Nat) (addr : W32) (n : Nat) (ce ue : List (Fin 262144))
  /-- I2C_WRITE (R379) -/
  | i2cWrite (t : Nat) (addr : BitVec 7) (data : List W8)
  /-- I2C_READ (R379) -/
  | i2cRead (t : Nat) (addr : BitVec 7)
  /-- FUSE_DBG (R370) -/
  | fuseDbg (t : Nat) (testEn : Bool)
  /-- JTAG_INSTRUCTION (R396) -/
  | jtagInstruction (t : Nat) (ir : Jtag)
  /-- GEN_CONST_WRITE (R38) -/
  | genConstWrite (t : Nat) (m : Master) (w : Fin 3240) (v : W32)
  /-- CONST_HOLD (R38) -/
  | constHold (t : Nat) (m : Master) (b : Bool)
  /-- PRBS_RESTART (R398) -/
  | prbsRestart (t : Nat) (m : Master)
  /-- PRT_IDLE_WRITE (R38) -/
  | prtIdleWrite (t : Nat) (m : Master) (p : Port) (b : W8)
  /-- REARM (R105) -/
  | rearm (t : Nat) (m : Master)
  /-- LINE_SEL_WRITE (R142) -/
  | lineSelWrite (t : Nat) (m : Master) (w : Port) (v : W32)
  /-- APS_TX_WRITE (R142) -/
  | apsTxWrite (t : Nat) (m : Master) (w : Port) (v : W32)
  /-- H2D_NOTICE_WRITE (R295) -/
  | h2dNoticeWrite (t : Nat) (m : Master) (ch : Fin 32) (w : Fin 4) (v : W32)
  /-- H2D_NOTICE_POST (R265) -/
  | h2dNoticePost (t : Nat) (m : Master) (v : W32)
  /-- D2H_NOTICE_TAKE (R265) -/
  | d2hNoticeTake (t : Nat) (m : Master) (v : W32)
  /-- RING_ENABLE (R261) -/
  | ringEnable (t : Nat) (m : Master) (r : Fin 2) (v : W32)
  /-- RING_DISABLE (R264) -/
  | ringDisable (t : Nat) (m : Master) (r : Fin 2) (v : W32)
  /-- RPL_CI_WRITE (R263) -/
  | rplCiWrite (t : Nat) (m : Master) (r : Fin 2) (v : W32)
  /-- MDC_RD_WRITE (R193) -/
  | mdcRdWrite (t : Nat) (m : Master) (c : Fin 256) (v : W32)
  /-- MDC_WR_WRITE (R193) -/
  | mdcWrWrite (t : Nat) (m : Master) (c : Fin 256) (v : W32)
  /-- TALLY_DUMP_CI_WRITE (R333) -/
  | tallyDumpCiWrite (t : Nat) (m : Master) (v : W32)
  /-- SEM_ACQ_READ (R302) -/
  | semAcqRead (t : Nat) (m : Master) (n : Fin 32)
  /-- SEM_ACQ_WRITE (R302) -/
  | semAcqWrite (t : Nat) (m : Master) (n : Fin 32)
  /-- SCR_OWN_WRITE (R300) -/
  | scrOwnWrite (t : Nat) (m : Master) (b : Fin 16) (v : W32)
  /-- SCR_OWN_HANDOVER_DONE (R300) -/
  | scrOwnHandoverDone (t : Nat) (b : Fin 16)
  /-- REMAP_WRITE (R286) -/
  | remapWrite (t : Nat) (m : Master) (v : W32)
  /-- LOCK_SET (R10) -/
  | lockSet (t : Nat) (m : Master) (b : LockBlk)
  /-- MTX_ROT_WRITE (R306) -/
  | mtxRotWrite (t : Nat) (m : Master) (v : W32)
  /-- REGISTER_WRITE (R10, R284, R287): bytes whose byte enable is 0 are `none` -/
  | registerWrite (t : Nat) (m : Master) (a : BusPlace) (data : List (Option W8))
  /-- READ_CLEAR (R10, R284, R287): `be`: the byte enables -/
  | readClear (t : Nat) (m : Master) (r : Reading)
  /-- DEFAULT_TARGET_ERROR (R296) -/
  | defaultTargetError (t : Nat) (m : Master) (addr : W32) (write : Bool) (cause : BitVec 3)
  /-- MAP_WINDOW_WRITE (R61) -/
  | mapWindowWrite (t : Nat) (off : BitVec 28) (data : List W8)
  /-- SELECTOR_WINDOW_WRITE (R113) -/
  | selectorWindowWrite (t : Nat) (off : BitVec 24) (data : List W8)
  /-- POR_N_LOW (R22) -/
  | porNLow (t : Nat)
  /-- SUPPLY_MONITOR_TRIP (R382) -/
  | supplyMonitorTrip (t : Nat)
  /-- BOOT_SEQUENCE (R343) -/
  | bootSequence (t : Nat) (n : Fin 12) (e : BootEnv)
  /-- BOOT_WATCHDOG (R344) -/
  | bootWatchdog (t : Nat) (fatal : Bool)
  /-- FAILCNT_CLEAR (R346) -/
  | failcntClear (t : Nat)
  /-- HOST_RESET (R276) -/
  | hostReset (t : Nat) (cause : HostResetCause) (gen : Fin 6) (width : Fin 8)
  /-- PERST_N_RISE (R353) -/
  | perstNRise (t : Nat) (gen : Fin 6) (width : Fin 8)
  /-- FIRMWARE_RESET (R274) -/
  | firmwareReset (t : Nat) (fatal rplOk : Bool)
  /-- FIRMWARE_RESTART (R274) -/
  | firmwareRestart (t : Nat) (d0 d1 : List (Option (List W32))) (rplOk : Bool)
  /-- FRAME_MARK (R13) -/
  | frameMark (t : Nat) (up : Upsets) (cfg : Option PcieCfg) (rd : List (Fin 256 × List W8)) (occ : List (Fin 64 × W32)) (rplOk evtOk : Bool)
  /-- GRAIN_START (R87): `lost`: queues whose head another engine won in the same handshake (R90) -/
  | grainStart (t : Nat) (e : Claim)
  /-- GRAIN_COMPLETE (R86) -/
  | grainComplete (t : Nat) (e : Fin 256) (ce ue : List (Nat × Nat)) (up : List (Nat × W64))
  /-- GRAIN_LATE (R109) -/
  | grainLate (t : Nat) (prev : Bool) (g : Fin 60750)
  /-- POSITION_TAKE (R86) -/
  | positionTake (t : Nat)
  /-- INPUT_WRITE_START (R96) -/
  | inputWriteStart (t : Nat)
  /-- CANDLE_RECORD_CLOSE (R105) -/
  | candleRecordClose (t : Nat) (retired wasted front back : W32)
  /-- MAP_CHECK_DONE (R399) -/
  | mapCheckDone (t : Nat) (up : List (Nat × W64)) (rplOk : Bool)
  /-- MAP_COMMIT_ARM (R77) -/
  | mapCommitArm (t : Nat)
  /-- COMMIT_DEADLINE (R75) -/
  | commitDeadline (t : Nat) (rplOk : Bool)
  /-- MAP_SWAP (R77) -/
  | mapSwap (t : Nat) (rplOk : Bool)
  /-- COPY_FORWARD_DONE (R79) -/
  | copyForwardDone (t : Nat) (rplOk : Bool)
  /-- MAP_SNAPSHOT_DONE (R83) -/
  | mapSnapshotDone (t : Nat) (rplOk : Bool)
  /-- BANK_ROTATION_STEP (R102) -/
  | bankRotationStep (t : Nat) (rplOk : Bool)
  /-- BANK_MOVE (R101) -/
  | bankMove (t : Nat) (b : Fin 2048)
  /-- MARCH_TEST_DONE (R102) -/
  | marchTestDone (t : Nat) (x : Fin 2112) (pass rplOk : Bool)
  /-- HOLDOFF_EXPIRY (R124) -/
  | holdoffExpiry (t : Nat) (grp : Bool) (n : BitVec 20)
  /-- WTR_EXPIRY (R125) -/
  | wtrExpiry (t : Nat) (grp : Bool) (n : BitVec 20)
  /-- CDR_LOCK_CHANGE (R170) -/
  | cdrLockChange (t : Nat) (lane : Port) (locked : Bool)
  /-- CANDIDATE_MATCH (R170) -/
  | candidateMatch (t : Nat) (lane : Port) (client : Bool) (pos : Nat) (word : BitVec 64) (ctr : W16)
  /-- CANDIDATE_VERIFY (R170) -/
  | candidateVerify (t : Nat) (lane : Port) (client : Bool) (pos : Nat) (word : BitVec 64) (ctr : W16)
  /-- ZIUTH_FRAME_RX (R176) -/
  | ziuthFrameRx (t : Nat) (p : Port) (half : Bool) (faw code pad : List (Fin 4))
  /-- SONET_FRAME_RX (R180) -/
  | sonetFrameRx (t : Nat) (p : Port) (starts : List Nat) (lanes : List (List W8))
  /-- OTN_FRAME_RX (R189) -/
  | otnFrameRx (t : Nat) (p : Port) (starts : List Nat) (l0 l1 l2 l3 : List W8) (ais : Bool)
  /-- LOF_TIMER (R190) -/
  | lofTimer (t : Nat) (p : Port) (client : Bool)
  /-- LOS_TIMER (R190) -/
  | losTimer (t : Nat) (p : Port) (ev : LosEvent)
  /-- RDI_HOLD_EXPIRY (R181) -/
  | rdiHoldExpiry (t : Nat) (p : Port)
  /-- PLL_LOCK (R160) -/
  | pllLock (t : Nat) (p : Port)
  /-- PORT_DISABLE_DONE (R162) -/
  | portDisableDone (t : Nat) (p : Port) (rplOk : Bool)
  /-- DEPTH_EVALUATION (R312) -/
  | depthEvaluation (t : Nat)
  /-- PORT_DEEPEN (R313) -/
  | portDeepen (t : Nat) (p : Port)
  /-- PORT_WAKE_DONE (R167) -/
  | portWakeDone (t : Nat) (p : Port)
  /-- MDC_DI_FRAME (R194) -/
  | mdcDiFrame (t : Nat) (port1 : Bool) (frame : List Bool)
  /-- MATE_FRAME_RX (R232) -/
  | mateFrameRx (t : Nat) (lane : Fin 2) (line : LaneSymbols) (al : Alignment)
  /-- MATE_LANE_DROP (R232) -/
  | mateLaneDrop (t : Nat) (lane : Fin 2)
  /-- HEARTBEAT (R234) -/
  | heartbeatRecord (t : Nat) (h : RecHdr) (body : W64)
  /-- STOP (R243) -/
  | stopRecord (t : Nat) (h : RecHdr) (lastFrame : W16) (cause : BitVec 3)
  /-- HANDOVER_RECORD (R243) -/
  | handoverRecord (t : Nat) (h : RecHdr) (mark : W16) (epoch : W8)
  /-- MAP_ENTRIES (R236) -/
  | mapEntries (t : Nat) (h : RecHdr) (entries : List (BitVec 25 × W64))
  /-- COMMIT_ARM (R236) -/
  | commitArm (t : Nat) (h : RecHdr) (target checkId : W16) (sent : W32)
  /-- COMMIT_CANCEL (R236) -/
  | commitCancel (t : Nat) (h : RecHdr) (target : W16)
  /-- SEL_STATE (R237) -/
  | selState (t : Nat) (h : RecHdr) (items : List W64)
  /-- HISTORY (R239) -/
  | historyRecord (t : Nat) (h : RecHdr) (offset : W32) (recorded : Bool) (fn : W16)
  /-- SETTINGS (R238) -/
  | settingsRecord (t : Nat) (h : RecHdr) (off total : W32) (d : List W32) (data : List W8)
  /-- RESYNC_BEGIN (R241) -/
  | resyncBegin (t : Nat) (h : RecHdr) (fn : W16)
  /-- RESYNC_DATA (R241) -/
  | resyncData (t : Nat) (h : RecHdr) (d : ResyncPiece)
  /-- RESYNC_END (R241) -/
  | resyncEnd (t : Nat) (h : RecHdr) (records : W32)
  /-- RESYNC_REQ (R241) -/
  | resyncReq (t : Nat) (h : RecHdr)
  /-- RESYNC_START (R241) -/
  | resyncStart (t : Nat)
  /-- RESYNC_SWAP (R241) -/
  | resyncSwap (t : Nat)
  /-- MIRRORED_SWAP (R236) -/
  | mirroredSwap (t : Nat)
  /-- LEASE_EXPIRY (R224) -/
  | leaseExpiry (t : Nat) (rplOk : Bool)
  /-- GUARD_END (R225) -/
  | guardEnd (t : Nat)
  /-- DRILL_TIMER (R242) -/
  | drillTimer (t : Nat)
  /-- HANDOVER_MARK (R243) -/
  | handoverMark (t : Nat) (rplOk : Bool)
  /-- NEW_HOLDER_ACTS (R243) -/
  | newHolderActs (t : Nat)
  /-- HANDOVER_LAPSE (R243) -/
  | handoverLapse (t : Nat) (rplOk : Bool)
  /-- OLD_HOLDER_TX_IDLE (R245) -/
  | oldHolderTxIdle (t : Nat)
  /-- PAIR_SWAP_TIMEOUT (R252) -/
  | pairSwapTimeout (t : Nat) (rplOk : Bool)
  /-- REF_LOSS (R199) -/
  | refLoss (t : Nat) (n : Fin 16) (present : Bool)
  /-- MONITOR_WINDOW_END (R204) -/
  | monitorWindowEnd (t : Nat) (freqs : List (Fin 16 × Int)) (out mate : Int)
  /-- REF_WTR_EXPIRY (R205) -/
  | refWtrExpiry (t : Nat) (n : Fin 16)
  /-- SELECTION (R207) -/
  | selection (t : Nat)
  /-- ACQUIRE_TIMEOUT (R209) -/
  | acquireTimeout (t : Nat)
  /-- TIMING_HOLDOFF_END (R210) -/
  | timingHoldoffEnd (t : Nat)
  /-- VERIFICATION_COMPLETE (R210) -/
  | verificationComplete (t : Nat) (phase df : Int)
  /-- SWITCH_COMMIT (R210) -/
  | switchCommit (t : Nat)
  /-- REALIGN_PULSE (R219) -/
  | realignPulse (t : Nat) (pps rplOk : Bool)
  /-- REALIGN_TIMEOUT (R219) -/
  | realignTimeout (t : Nat) (rplOk : Bool)
  /-- AVS_READBACK (R310) -/
  | avsReadback (t : Nat) (ok : Bool) (mv : BitVec 10)
  /-- POWER_ESTIMATE (R314) -/
  | powerEstimate (t : Nat) (base total : W16) (tj : BitVec 8)
  /-- SCRUB_UNIT (R318) -/
  | scrubUnit (t : Nat) (mapUp : List (BitVec 25 × W64)) (selUp : List (BitVec 20 × W128)) (monUp : List (BitVec 21 × W64)) (ce ue : Nat) (rplOk : Bool)
  /-- SPOT_CHECK (R319) -/
  | spotCheck (t : Nat) (bad : Option (Fin 256)) (rplOk : Bool)
  /-- EYE_SCAN_DONE (R320) -/
  | eyeScanDone (t : Nat) (width height : W16) (worst : Fin 4) (rplOk : Bool)
  /-- MRAM_CHECK_DONE (R320) -/
  | mramCheckDone (t : Nat) (rplOk : Bool)
  /-- LANE_PRBS_END (R322) -/
  | lanePrbsEnd (t : Nat) (p : Port) (errors : W32) (unlocked : BitVec 4) (rplOk : Bool)
  /-- STACK_MARCH_DONE (R323) -/
  | stackMarchDone (t : Nat) (failed first : W32) (rplOk : Bool)
  /-- H2D_NOTICE_TAKE (R262) -/
  | h2dNoticeTake (t : Nat) (ch : Fin 32)
  /-- DESCRIPTOR_TAKE (R272) -/
  | descriptorTake (t : Nat) (src : Src) (d : Option (List W32)) (rplOk : Bool)
  /-- NOTICE_TIMEOUT (R268) -/
  | noticeTimeout (t : Nat) (host : Bool) (ch : Fin 32)
  /-- DUMP_WRITE_DONE (R334) -/
  | dumpWriteDone (t : Nat)
  /-- DUMP_ERROR_STOP (R337) -/
  | dumpErrorStop (t : Nat)
  /-- PERF_DEFINITION_CHANGE (R336) -/
  | perfDefinitionChange (t : Nat) (rplOk : Bool)
  /-- STAGING_TIMEOUT (R358) -/
  | stagingTimeout (t : Nat)
  /-- FW_HANDOVER_MARK (R360) -/
  | fwHandoverMark (t : Nat)
  /-- FW_DRAIN_LIMIT (R360) -/
  | fwDrainLimit (t : Nat) (rplOk : Bool)
  /-- FW_REVERT (R362) -/
  | fwRevert (t : Nat) (cause : RevertCause) (rplOk : Bool)
  /-- TRIAL_EXPIRY (R363) -/
  | trialExpiry (t : Nat)
  /-- PLL_UNLOCK (R160) -/
  | pllUnlock (t : Nat) (p : Port)
  /-- FW_STAGE_CHUNK_WRITTEN (R359) -/
  | fwStageChunkWritten (t : Nat) (rplOk : Bool)
  /-- FW_IMAGE_COPIED (R360) -/
  | fwImageCopied (t : Nat) (rplOk : Bool)
  /-- NEW_FIRMWARE_STARTED (R360) -/
  | newFirmwareStarted (t : Nat) (rplOk : Bool)
  /-- SETTINGS_WRITTEN (R366) -/
  | settingsWritten (t : Nat) (outOk rplOk : Bool)
  deriving DecidableEq, Repr

end Sys2Proof
end

