-- ==== Sys2Proof/Decode.lean ====
section
/-! DEFINITION. Decode.lean: commands as table words. The rows of spec/opcode_table.json give no bits (the commands are
register accesses, records, events and descriptors, not words of one encoding), so no word spells a command. -/
namespace Sys2Proof

/-- The command that a table word spells: no row of the table gives bits, so none. -/
def decodeTableWord (_nbits _w : Nat) : Option Instr := none

end Sys2Proof
end

