-- ==== Sys2Proof/Config.lean ====
section
/-! DEFINITION. Config.lean: what the spec leaves to an implementation and the values it leaves free.
A free value is an opaque constant without a body: no proof can learn it, so a claim holds for every value. -/
namespace Sys2Proof.Config

/-- A byte whose value the spec does not state; the argument is the state's counter of free values (log entry 1). -/
opaque freeByte : Nat → W8
/-- A word whose value the spec does not state (log entry 1). -/
opaque freeWord : Nat → W32
/-- The sign of the tone sample at a zero crossing, by input frame modulo 2,000 (R398; log entry 1): true is the negative code. -/
opaque toneZero : Nat → Bool
/-- A byte of the MRAM that nothing has written since the device was made or since its image slot was last erased; the arguments are
the number of erasures and the offset (log entry 5). -/
opaque mramByte : Nat → Nat → W8
/-- The boots of Igalmet's production test, counted from 0 modulo 1,000 (R280; log entry 5). -/
opaque productionBoots : Nat
/-- A fuse word that the manual does not give: FUSE_KEYHASH words 0 to 11, FUSE_ID words 12 and 13 (log entry 3). -/
opaque fuseWord : Nat → W32
/-- Igalmet's manufacturer identity in IDCODE[11:1], which the manual leaves to the BSDL file (R396; log entry 1). -/
opaque jtagMaker : W32

end Sys2Proof.Config
end

