-- ==== Sys2Proof/Machine/Fields.lean ====
section
/-! DEFINITION. Machine/Fields.lean: every register field of the spec under the manual's name.
A field is an address (block base plus offset, per-port and per-path copies apart), a low bit and a width.
The numbers are those of the register tables of spec/02 to spec/14. -/
namespace Sys2Proof.Machine

/-- A register field: the register's address, the field's lowest bit and its width (R10). -/
structure Fld where
  addr : Nat
  lo : Nat
  w : Nat
  deriving DecidableEq, Repr

/-- The base of port p's PRT block (spec/01, table of blocks). -/
abbrev prtBase (p : Nat) : Nat := 0x40100000 + p * 0x1000

/-- The key of the copy that belongs to path k of a port of a register that PRT_PATH_IDX selects (spec/07):
the address plus (k + 1) times 2 to the 32. -/
abbrev pathKey (k : Nat) : Nat := 0x100000000 * (k + 1)

namespace F


/-! ### SYS (11_control_plane.md) -/

abbrev SYS_CTRL_REMAP : Fld := ⟨0x40000000, 0, 1⟩
abbrev SYS_CTRL_LOCK : Fld := ⟨0x40000000, 31, 1⟩

/-! ### MBX (10_command_interface.md) -/

abbrev MBX_CTRL_INTN_EN : Fld := ⟨0x40010000, 0, 1⟩
abbrev MBX_STATUS_FW_RUN : Fld := ⟨0x40010004, 0, 1⟩
abbrev MBX_STATUS_RPL0_FULL : Fld := ⟨0x40010004, 1, 1⟩
abbrev MBX_STATUS_RPL1_FULL : Fld := ⟨0x40010004, 2, 1⟩
abbrev MBX_STATUS_TMO_HOLD : Fld := ⟨0x40010004, 3, 1⟩
abbrev MBX_STATUS_FW_STARTS : Fld := ⟨0x40010004, 8, 8⟩
abbrev MBX_EPOCH_EPOCH : Fld := ⟨0x40010008, 0, 32⟩
abbrev MBX_TMO_CFG_MS : Fld := ⟨0x4001000C, 0, 10⟩
abbrev H2D_DB_DB : Fld := ⟨0x40010010, 0, 32⟩
abbrev H2D_MASK_MASK : Fld := ⟨0x40010014, 0, 32⟩
abbrev D2H_DB_DB : Fld := ⟨0x40010018, 0, 32⟩
abbrev D2H_MASK_MASK : Fld := ⟨0x4001001C, 0, 32⟩
abbrev H2D_TMO_TMO : Fld := ⟨0x40010020, 0, 32⟩
abbrev D2H_TMO_TMO : Fld := ⟨0x40010024, 0, 32⟩
abbrev MBX_STALE_STALE : Fld := ⟨0x40010028, 0, 32⟩
abbrev MBX_ERR_RING_MISMATCH0 : Fld := ⟨0x4001002C, 0, 1⟩
abbrev MBX_ERR_RING_MISMATCH1 : Fld := ⟨0x4001002C, 1, 1⟩
abbrev MBX_ERR_SLOT_BUSY : Fld := ⟨0x4001002C, 2, 1⟩
abbrev MBX_ERR_FETCH_ERR0 : Fld := ⟨0x4001002C, 3, 1⟩
abbrev MBX_ERR_FETCH_ERR1 : Fld := ⟨0x4001002C, 4, 1⟩
abbrev MBX_ERR_RPL_ERR0 : Fld := ⟨0x4001002C, 5, 1⟩
abbrev MBX_ERR_RPL_ERR1 : Fld := ⟨0x4001002C, 6, 1⟩
abbrev MBX_ERR_TMO_NEW : Fld := ⟨0x4001002C, 8, 1⟩
abbrev MBX_ERR_FW_RUN_CHG : Fld := ⟨0x4001002C, 9, 1⟩
abbrev MBX_RPL_DISCARD_COUNT : Fld := ⟨0x40010030, 0, 32⟩
abbrev MBX_STALE_CNT_COUNT : Fld := ⟨0x40010034, 0, 32⟩
abbrev MBX_INT_EN_RING_MISMATCH0 : Fld := ⟨0x40010038, 0, 1⟩
abbrev MBX_INT_EN_RING_MISMATCH1 : Fld := ⟨0x40010038, 1, 1⟩
abbrev MBX_INT_EN_SLOT_BUSY : Fld := ⟨0x40010038, 2, 1⟩
abbrev MBX_INT_EN_FETCH_ERR0 : Fld := ⟨0x40010038, 3, 1⟩
abbrev MBX_INT_EN_FETCH_ERR1 : Fld := ⟨0x40010038, 4, 1⟩
abbrev MBX_INT_EN_RPL_ERR0 : Fld := ⟨0x40010038, 5, 1⟩
abbrev MBX_INT_EN_RPL_ERR1 : Fld := ⟨0x40010038, 6, 1⟩
abbrev MBX_INT_EN_TMO_NEW : Fld := ⟨0x40010038, 8, 1⟩
abbrev MBX_INT_EN_FW_RUN_CHG : Fld := ⟨0x40010038, 9, 1⟩
abbrev CMD_BASE_LO_ADDR (n : Nat) : Fld := ⟨0x40010040 + n * 0x20, 0, 32⟩
abbrev CMD_BASE_HI_ADDR (n : Nat) : Fld := ⟨0x40010044 + n * 0x20, 0, 32⟩
abbrev RPL_BASE_LO_ADDR (n : Nat) : Fld := ⟨0x40010048 + n * 0x20, 0, 32⟩
abbrev RPL_BASE_HI_ADDR (n : Nat) : Fld := ⟨0x4001004C + n * 0x20, 0, 32⟩
abbrev MBX_RING_CTRL_EN (n : Nat) : Fld := ⟨0x40010050 + n * 0x20, 0, 1⟩
abbrev MBX_RING_CTRL_CK (n : Nat) : Fld := ⟨0x40010050 + n * 0x20, 4, 4⟩
abbrev MBX_RING_CTRL_RK (n : Nat) : Fld := ⟨0x40010050 + n * 0x20, 8, 4⟩
abbrev CMD_IDX_CMD_CI (n : Nat) : Fld := ⟨0x40010054 + n * 0x20, 0, 16⟩
abbrev CMD_IDX_STALE_PI (n : Nat) : Fld := ⟨0x40010054 + n * 0x20, 16, 16⟩
abbrev RPL_PI_PI (n : Nat) : Fld := ⟨0x40010058 + n * 0x20, 0, 16⟩
abbrev RPL_CI_CI (n : Nat) : Fld := ⟨0x4001005C + n * 0x20, 0, 16⟩
abbrev MBX_EVT_ADDR_LO_EN : Fld := ⟨0x40010080, 0, 1⟩
abbrev MBX_EVT_ADDR_LO_ADDR : Fld := ⟨0x40010080, 3, 29⟩
abbrev MBX_EVT_ADDR_HI_ADDR : Fld := ⟨0x40010084, 0, 32⟩
abbrev H2D_NOTICE_ADDR_LO_ADDR_LO (n : Nat) : Fld := ⟨0x40010100 + n * 0x10, 0, 32⟩
abbrev H2D_NOTICE_ADDR_HI_ADDR_HI (n : Nat) : Fld := ⟨0x40010104 + n * 0x10, 0, 32⟩
abbrev H2D_NOTICE_LEN_LEN (n : Nat) : Fld := ⟨0x40010108 + n * 0x10, 0, 32⟩
abbrev H2D_NOTICE_TAG_TAG (n : Nat) : Fld := ⟨0x4001010C + n * 0x10, 0, 32⟩
abbrev D2H_NOTICE_ADDR_LO_ADDR_LO (n : Nat) : Fld := ⟨0x40010300 + n * 0x10, 0, 32⟩
abbrev D2H_NOTICE_ADDR_HI_ADDR_HI (n : Nat) : Fld := ⟨0x40010304 + n * 0x10, 0, 32⟩
abbrev D2H_NOTICE_LEN_LEN (n : Nat) : Fld := ⟨0x40010308 + n * 0x10, 0, 32⟩
abbrev D2H_NOTICE_TAG_TAG (n : Nat) : Fld := ⟨0x4001030C + n * 0x10, 0, 32⟩

/-! ### MTX (11_control_plane.md) -/

abbrev MTX_CTRL_GUARD : Fld := ⟨0x40020000, 0, 4⟩
abbrev MTX_CTRL_LOCK : Fld := ⟨0x40020000, 31, 1⟩
abbrev MTX_ERR_ADDR_ADDR : Fld := ⟨0x40020010, 0, 32⟩
abbrev MTX_ERR_INFO_MASTER : Fld := ⟨0x40020014, 0, 4⟩
abbrev MTX_ERR_INFO_WRITE : Fld := ⟨0x40020014, 4, 1⟩
abbrev MTX_ERR_INFO_CAUSE : Fld := ⟨0x40020014, 5, 3⟩
abbrev MTX_ERR_INFO_VALID : Fld := ⟨0x40020014, 31, 1⟩
abbrev MTX_ERR_CNT_COUNT : Fld := ⟨0x40020018, 0, 32⟩
abbrev MTX_INT_ERR : Fld := ⟨0x40020020, 0, 1⟩
abbrev MTX_INT_RECLAIM : Fld := ⟨0x40020020, 1, 1⟩
abbrev MTX_INT_HANDOVER : Fld := ⟨0x40020020, 2, 1⟩
abbrev MTX_INT_SCR_CE : Fld := ⟨0x40020020, 3, 1⟩
abbrev MTX_INT_EN_ERR : Fld := ⟨0x40020024, 0, 1⟩
abbrev MTX_INT_EN_RECLAIM : Fld := ⟨0x40020024, 1, 1⟩
abbrev MTX_INT_EN_HANDOVER : Fld := ⟨0x40020024, 2, 1⟩
abbrev MTX_INT_EN_SCR_CE : Fld := ⟨0x40020024, 3, 1⟩
abbrev MTX_ROT_R0 : Fld := ⟨0x40020030, 0, 3⟩
abbrev MTX_ROT_R1 : Fld := ⟨0x40020030, 3, 3⟩
abbrev MTX_ROT_R2 : Fld := ⟨0x40020030, 6, 3⟩
abbrev MTX_ROT_R3 : Fld := ⟨0x40020030, 9, 3⟩
abbrev MTX_ROT_R4 : Fld := ⟨0x40020030, 12, 3⟩
abbrev MTX_ROT_R5 : Fld := ⟨0x40020030, 15, 3⟩
abbrev MTX_ROT_R6 : Fld := ⟨0x40020030, 18, 3⟩
abbrev MTX_ROT_R7 : Fld := ⟨0x40020030, 21, 3⟩
abbrev MTX_ROT_R8 : Fld := ⟨0x40020030, 24, 3⟩
abbrev SCR_CE_CNT_COUNT : Fld := ⟨0x40020034, 0, 32⟩
abbrev SCR_OWN_OWNER (n : Nat) : Fld := ⟨0x40020100 + n * 0x4, 0, 4⟩
abbrev SCR_OWN_GEN (n : Nat) : Fld := ⟨0x40020100 + n * 0x4, 4, 4⟩
abbrev SCR_OWN_RECLAIMED (n : Nat) : Fld := ⟨0x40020100 + n * 0x4, 8, 1⟩
abbrev SCR_OWN_NEXT (n : Nat) : Fld := ⟨0x40020100 + n * 0x4, 12, 4⟩
abbrev SCR_OWN_REL (n : Nat) : Fld := ⟨0x40020100 + n * 0x4, 16, 1⟩
abbrev MTX_LOSS_COUNT (n : Nat) : Fld := ⟨0x40020200 + n * 0x4, 0, 32⟩
abbrev MTX_HOLD_COUNT (n : Nat) : Fld := ⟨0x40020240 + n * 0x4, 0, 32⟩
abbrev MTX_WAIT_COUNT (n : Nat) : Fld := ⟨0x40020280 + n * 0x4, 0, 32⟩

/-! ### PWR (12_power_and_scheduling.md) -/

abbrev PWR_CTRL_RAIL : Fld := ⟨0x40030000, 0, 4⟩
abbrev PWR_CTRL_AVS_DIV : Fld := ⟨0x40030000, 4, 2⟩
abbrev PWR_CTRL_LOCK : Fld := ⟨0x40030000, 31, 1⟩
abbrev PWR_VCORE_CMD_MV : Fld := ⟨0x40030004, 0, 10⟩
abbrev PWR_VCORE_READ_MV : Fld := ⟨0x40030004, 16, 10⟩
abbrev PWR_EST_BASE : Fld := ⟨0x40030008, 0, 16⟩
abbrev PWR_EST_TOTAL : Fld := ⟨0x40030008, 16, 16⟩
abbrev PWR_TEMP_TJ : Fld := ⟨0x4003000C, 0, 8⟩
abbrev PWR_TEMP_TJ_MAX : Fld := ⟨0x4003000C, 8, 8⟩
abbrev PWR_BUDGET_PMAX : Fld := ⟨0x40030010, 0, 16⟩
abbrev PWR_BUDGET_TJ_LIMIT : Fld := ⟨0x40030010, 16, 8⟩
abbrev BG_CTRL_SCRUB_EN : Fld := ⟨0x40030014, 0, 1⟩
abbrev BG_CTRL_SPOT_EN : Fld := ⟨0x40030014, 1, 1⟩
abbrev BG_CTRL_SCRUB_MIN : Fld := ⟨0x40030014, 8, 8⟩
abbrev BG_CTRL_SPOT_PERIOD : Fld := ⟨0x40030014, 16, 16⟩
abbrev BG_STATUS_RELEASED : Fld := ⟨0x40030018, 0, 7⟩
abbrev BG_STATUS_STARVED : Fld := ⟨0x40030018, 8, 7⟩
abbrev BG_STATUS_OVER_BUDGET : Fld := ⟨0x40030018, 16, 1⟩
abbrev BG_STATUS_OVER_TEMP : Fld := ⟨0x40030018, 17, 1⟩
abbrev BG_STATUS_AVS_FAIL : Fld := ⟨0x40030018, 18, 1⟩
abbrev SCRUB_PASSES_COUNT : Fld := ⟨0x4003001C, 0, 32⟩
abbrev SCRUB_CE_CNT_COUNT : Fld := ⟨0x40030020, 0, 32⟩
abbrev SPOT_MISS_CNT_COUNT : Fld := ⟨0x40030024, 0, 32⟩
abbrev PWR_INT_OVER_BUDGET : Fld := ⟨0x40030030, 0, 1⟩
abbrev PWR_INT_OVER_TEMP : Fld := ⟨0x40030030, 1, 1⟩
abbrev PWR_INT_AVS_ERR : Fld := ⟨0x40030030, 2, 1⟩
abbrev PWR_INT_SPOT_FAIL : Fld := ⟨0x40030030, 3, 1⟩
abbrev PWR_INT_SCRUB_UE : Fld := ⟨0x40030030, 4, 1⟩
abbrev PWR_INT_BG_STARVED : Fld := ⟨0x40030030, 5, 1⟩
abbrev PWR_INT_SELFTEST_DONE : Fld := ⟨0x40030030, 6, 1⟩
abbrev PWR_INT_EN_OVER_BUDGET : Fld := ⟨0x40030034, 0, 1⟩
abbrev PWR_INT_EN_OVER_TEMP : Fld := ⟨0x40030034, 1, 1⟩
abbrev PWR_INT_EN_AVS_ERR : Fld := ⟨0x40030034, 2, 1⟩
abbrev PWR_INT_EN_SPOT_FAIL : Fld := ⟨0x40030034, 3, 1⟩
abbrev PWR_INT_EN_SCRUB_UE : Fld := ⟨0x40030034, 4, 1⟩
abbrev PWR_INT_EN_BG_STARVED : Fld := ⟨0x40030034, 5, 1⟩
abbrev PWR_INT_EN_SELFTEST_DONE : Fld := ⟨0x40030034, 6, 1⟩

/-! ### TALLY (13_performance_counters.md) -/

abbrev TALLY_CTRL_PERF_USER_EN : Fld := ⟨0x40040000, 0, 1⟩
abbrev TALLY_CTRL_LOCK : Fld := ⟨0x40040000, 31, 1⟩
abbrev TALLY_DUMP_CFG_EN : Fld := ⟨0x40040004, 0, 1⟩
abbrev TALLY_DUMP_CFG_DK : Fld := ⟨0x40040004, 1, 4⟩
abbrev TALLY_DUMP_CFG_PERIOD : Fld := ⟨0x40040004, 16, 16⟩
abbrev TALLY_BASE_LO_ADDR : Fld := ⟨0x40040008, 0, 32⟩
abbrev TALLY_BASE_HI_ADDR : Fld := ⟨0x4004000C, 0, 32⟩
abbrev TALLY_DUMP_PI_IDX : Fld := ⟨0x40040010, 0, 16⟩
abbrev TALLY_DUMP_CI_IDX : Fld := ⟨0x40040014, 0, 16⟩
abbrev TALLY_DUMP_DROP_COUNT : Fld := ⟨0x40040018, 0, 32⟩
abbrev TALLY_INT_DUMP : Fld := ⟨0x40040020, 0, 1⟩
abbrev TALLY_INT_SKIP : Fld := ⟨0x40040020, 1, 1⟩
abbrev TALLY_INT_DUMP_ERR : Fld := ⟨0x40040020, 2, 1⟩
abbrev TALLY_INT_LOST : Fld := ⟨0x40040020, 3, 1⟩
abbrev TALLY_INT_OVF : Fld := ⟨0x40040020, 4, 1⟩
abbrev TALLY_INT_EN_DUMP : Fld := ⟨0x40040024, 0, 1⟩
abbrev TALLY_INT_EN_SKIP : Fld := ⟨0x40040024, 1, 1⟩
abbrev TALLY_INT_EN_DUMP_ERR : Fld := ⟨0x40040024, 2, 1⟩
abbrev TALLY_INT_EN_LOST : Fld := ⟨0x40040024, 3, 1⟩
abbrev TALLY_INT_EN_OVF : Fld := ⟨0x40040024, 4, 1⟩
abbrev TALLY_ACCT_TICKS (n : Nat) : Fld := ⟨0x40040040 + n * 0x4, 0, 32⟩
abbrev TALLY_ACCT_FN_FN : Fld := ⟨0x40040050, 0, 16⟩
abbrev TALLY_EVT_EVENT (n : Nat) : Fld := ⟨0x40040100 + n * 0x8, 0, 8⟩
abbrev TALLY_EVT_ARG (n : Nat) : Fld := ⟨0x40040100 + n * 0x8, 8, 11⟩
abbrev TALLY_EVT_MODE (n : Nat) : Fld := ⟨0x40040100 + n * 0x8, 19, 2⟩
abbrev TALLY_EVT_USER (n : Nat) : Fld := ⟨0x40040100 + n * 0x8, 21, 1⟩
abbrev TALLY_EVT_EN (n : Nat) : Fld := ⟨0x40040100 + n * 0x8, 22, 1⟩
abbrev TALLY_THR_THRESH (n : Nat) : Fld := ⟨0x40040104 + n * 0x8, 0, 16⟩
abbrev TALLY_THR_DWELL (n : Nat) : Fld := ⟨0x40040104 + n * 0x8, 16, 16⟩
abbrev TALLY_CNT_COUNT (n : Nat) : Fld := ⟨0x40040400 + n * 0x4, 0, 32⟩
abbrev TALLY_CNT_ST_WRAPS (n : Nat) : Fld := ⟨0x40040500 + n * 0x4, 0, 4⟩
abbrev TALLY_CNT_ST_OVF (n : Nat) : Fld := ⟨0x40040500 + n * 0x4, 4, 1⟩

/-! ### TMG (08_timing.md) -/

abbrev TMG_CTRL_REGIME : Fld := ⟨0x40050000, 0, 1⟩
abbrev TMG_CTRL_QL_NET : Fld := ⟨0x40050000, 1, 1⟩
abbrev TMG_CTRL_BW : Fld := ⟨0x40050000, 2, 3⟩
abbrev TMG_CTRL_OWN_QL : Fld := ⟨0x40050000, 5, 4⟩
abbrev TMG_TIMERS_HOLDOFF : Fld := ⟨0x40050004, 0, 7⟩
abbrev TMG_TIMERS_VERIFY : Fld := ⟨0x40050004, 7, 7⟩
abbrev TMG_TIMERS_WTR : Fld := ⟨0x40050004, 14, 12⟩
abbrev TMG_DRIFT_SUS_PPB : Fld := ⟨0x40050008, 0, 10⟩
abbrev TMG_DRIFT_SUS_WIN : Fld := ⟨0x40050008, 10, 6⟩
abbrev TMG_DRIFT_HARD : Fld := ⟨0x40050008, 16, 9⟩
abbrev TMG_STATE_STATE : Fld := ⟨0x40050010, 0, 3⟩
abbrev TMG_STATE_SEL_VALID : Fld := ⟨0x40050010, 3, 1⟩
abbrev TMG_STATE_SEL_REF : Fld := ⟨0x40050010, 4, 4⟩
abbrev TMG_STATE_TGT_VALID : Fld := ⟨0x40050010, 8, 1⟩
abbrev TMG_STATE_TARGET : Fld := ⟨0x40050010, 9, 4⟩
abbrev TMG_STATE_MATE : Fld := ⟨0x40050010, 13, 1⟩
abbrev TMG_STATE_TX_QL : Fld := ⟨0x40050010, 14, 4⟩
abbrev TMG_STATE_FORCE_HO : Fld := ⟨0x40050010, 18, 1⟩
abbrev TMG_HIST_FREQ : Fld := ⟨0x40050014, 0, 31⟩
abbrev TMG_HIST_VALID : Fld := ⟨0x40050014, 31, 1⟩
abbrev TMG_OUTFREQ_FREQ : Fld := ⟨0x40050018, 0, 31⟩
abbrev TMG_OUTFREQ_VALID : Fld := ⟨0x40050018, 31, 1⟩
abbrev TMG_PHASE_BO : Fld := ⟨0x4005001C, 0, 32⟩
abbrev TMG_OUT_CFG_FREQ0 : Fld := ⟨0x40050020, 0, 4⟩
abbrev TMG_OUT_CFG_FREQ1 : Fld := ⟨0x40050020, 4, 4⟩
abbrev TMG_OUT_CFG_SQ0 : Fld := ⟨0x40050020, 8, 2⟩
abbrev TMG_OUT_CFG_SQ1 : Fld := ⟨0x40050020, 10, 2⟩
abbrev TMG_OUT_CFG_PPS_W : Fld := ⟨0x40050020, 12, 2⟩
abbrev TMG_ALIGN_FSYNC_OFS : Fld := ⟨0x40050024, 0, 17⟩
abbrev TMG_ALIGN_PPS_REF : Fld := ⟨0x40050024, 17, 4⟩
abbrev TMG_INT_STATE_CHG : Fld := ⟨0x40050030, 0, 1⟩
abbrev TMG_INT_SEL_CHG : Fld := ⟨0x40050030, 1, 1⟩
abbrev TMG_INT_REF_FAIL : Fld := ⟨0x40050030, 2, 1⟩
abbrev TMG_INT_REF_AVAIL : Fld := ⟨0x40050030, 3, 1⟩
abbrev TMG_INT_SUSPECT : Fld := ⟨0x40050030, 4, 1⟩
abbrev TMG_INT_RETARGET : Fld := ⟨0x40050030, 5, 1⟩
abbrev TMG_INT_REALIGNED : Fld := ⟨0x40050030, 6, 1⟩
abbrev TMG_INT_EN_STATE_CHG : Fld := ⟨0x40050034, 0, 1⟩
abbrev TMG_INT_EN_SEL_CHG : Fld := ⟨0x40050034, 1, 1⟩
abbrev TMG_INT_EN_REF_FAIL : Fld := ⟨0x40050034, 2, 1⟩
abbrev TMG_INT_EN_REF_AVAIL : Fld := ⟨0x40050034, 3, 1⟩
abbrev TMG_INT_EN_SUSPECT : Fld := ⟨0x40050034, 4, 1⟩
abbrev TMG_INT_EN_RETARGET : Fld := ⟨0x40050034, 5, 1⟩
abbrev TMG_INT_EN_REALIGNED : Fld := ⟨0x40050034, 6, 1⟩
abbrev TMG_REF_TYPE (n : Nat) : Fld := ⟨0x40050100 + n * 0x4, 0, 2⟩
abbrev TMG_REF_SRC (n : Nat) : Fld := ⟨0x40050100 + n * 0x4, 2, 6⟩
abbrev TMG_REF_FREQ (n : Nat) : Fld := ⟨0x40050100 + n * 0x4, 8, 3⟩
abbrev TMG_REF_PRIO (n : Nat) : Fld := ⟨0x40050100 + n * 0x4, 11, 4⟩
abbrev TMG_REF_REV (n : Nat) : Fld := ⟨0x40050100 + n * 0x4, 15, 1⟩
abbrev TMG_REF_QL_HOST (n : Nat) : Fld := ⟨0x40050100 + n * 0x4, 16, 1⟩
abbrev TMG_REF_QL (n : Nat) : Fld := ⟨0x40050100 + n * 0x4, 17, 4⟩
abbrev TMG_REF_STAT_AVAIL (n : Nat) : Fld := ⟨0x40050140 + n * 0x4, 0, 1⟩
abbrev TMG_REF_STAT_FAIL (n : Nat) : Fld := ⟨0x40050140 + n * 0x4, 1, 1⟩
abbrev TMG_REF_STAT_SUSPECT (n : Nat) : Fld := ⟨0x40050140 + n * 0x4, 2, 1⟩
abbrev TMG_REF_STAT_WTR_RUN (n : Nat) : Fld := ⟨0x40050140 + n * 0x4, 3, 1⟩
abbrev TMG_REF_STAT_LOCKOUT (n : Nat) : Fld := ⟨0x40050140 + n * 0x4, 4, 1⟩
abbrev TMG_REF_STAT_FORCED (n : Nat) : Fld := ⟨0x40050140 + n * 0x4, 5, 1⟩
abbrev TMG_REF_STAT_EFF_QL (n : Nat) : Fld := ⟨0x40050140 + n * 0x4, 6, 4⟩
abbrev TMG_REF_STAT_CAUSE (n : Nat) : Fld := ⟨0x40050140 + n * 0x4, 10, 3⟩
abbrev TMG_REF_STAT_WTR_LEFT (n : Nat) : Fld := ⟨0x40050140 + n * 0x4, 16, 12⟩
abbrev TMG_REF_FREQ_VALUE (n : Nat) : Fld := ⟨0x40050180 + n * 0x4, 0, 32⟩
abbrev TMG_REF_DEV_VALUE (n : Nat) : Fld := ⟨0x400501C0 + n * 0x4, 0, 32⟩

/-! ### PAIR (09_pairing_and_failover.md) -/

abbrev PAIR_CFG_MODE : Fld := ⟨0x40060000, 0, 2⟩
abbrev PAIR_CFG_SIDE : Fld := ⟨0x40060000, 2, 1⟩
abbrev PAIR_CFG_LEASE : Fld := ⟨0x40060000, 3, 8⟩
abbrev PAIR_CFG_DRILL_H : Fld := ⟨0x40060000, 11, 10⟩
abbrev PAIR_STAT_ACTING : Fld := ⟨0x40060004, 0, 1⟩
abbrev PAIR_STAT_GUARD : Fld := ⟨0x40060004, 1, 1⟩
abbrev PAIR_STAT_READY : Fld := ⟨0x40060004, 2, 1⟩
abbrev PAIR_STAT_STALE : Fld := ⟨0x40060004, 3, 1⟩
abbrev PAIR_STAT_RESYNC : Fld := ⟨0x40060004, 4, 1⟩
abbrev PAIR_STAT_FAULT : Fld := ⟨0x40060004, 5, 1⟩
abbrev PAIR_STAT_MATE_UP : Fld := ⟨0x40060004, 6, 1⟩
abbrev PAIR_STAT_SWAP_REQ : Fld := ⟨0x40060004, 7, 1⟩
abbrev PAIR_STAT_HO_PEND : Fld := ⟨0x40060004, 8, 1⟩
abbrev PAIR_STAT_EFF_DUPLEX : Fld := ⟨0x40060004, 9, 1⟩
abbrev PAIR_STAT_MATE_ACTING : Fld := ⟨0x40060004, 10, 1⟩
abbrev PAIR_STAT_EPOCH : Fld := ⟨0x40060004, 16, 8⟩
abbrev PAIR_LEASE_VALUE : Fld := ⟨0x40060008, 0, 16⟩
abbrev PAIR_LEASE_VALID : Fld := ⟨0x40060008, 16, 1⟩
abbrev PAIR_HO_VALUE : Fld := ⟨0x4006000C, 0, 16⟩
abbrev PAIR_HO_VALID : Fld := ⟨0x4006000C, 16, 1⟩
abbrev PAIR_DRILL_MIN_LEFT : Fld := ⟨0x40060010, 0, 16⟩
abbrev PAIR_DIS_CNT_COUNT : Fld := ⟨0x40060014, 0, 32⟩
abbrev PAIR_MIR_LATE_COUNT : Fld := ⟨0x40060018, 0, 32⟩
abbrev PAIR_WR_DROP_COUNT : Fld := ⟨0x4006001C, 0, 32⟩
abbrev PAIR_DIS_LAST_INDEX : Fld := ⟨0x40060020, 0, 20⟩
abbrev PAIR_DIS_LAST_KIND : Fld := ⟨0x40060020, 20, 1⟩
abbrev PAIR_DIS_LAST_VALID : Fld := ⟨0x40060020, 31, 1⟩
abbrev PAIR_SEQ_SEQ : Fld := ⟨0x40060024, 0, 32⟩
abbrev PAIR_SYNC_FN_FN : Fld := ⟨0x40060028, 0, 16⟩
abbrev PAIR_SYNC_FN_VALID : Fld := ⟨0x40060028, 16, 1⟩
abbrev PAIR_ARB_CNT_ACCEPTED : Fld := ⟨0x4006002C, 0, 16⟩
abbrev PAIR_ARB_CNT_REFUSED : Fld := ⟨0x4006002C, 16, 16⟩
abbrev PAIR_INT_LAMP_CHG : Fld := ⟨0x40060030, 0, 1⟩
abbrev PAIR_INT_MATE_DOWN : Fld := ⟨0x40060030, 1, 1⟩
abbrev PAIR_INT_MATE_UP : Fld := ⟨0x40060030, 2, 1⟩
abbrev PAIR_INT_STALE : Fld := ⟨0x40060030, 3, 1⟩
abbrev PAIR_INT_RESYNC_DONE : Fld := ⟨0x40060030, 4, 1⟩
abbrev PAIR_INT_DUAL : Fld := ⟨0x40060030, 5, 1⟩
abbrev PAIR_INT_DRILL_DUE : Fld := ⟨0x40060030, 6, 1⟩
abbrev PAIR_INT_DIS : Fld := ⟨0x40060030, 7, 1⟩
abbrev PAIR_INT_LEASE_LOST : Fld := ⟨0x40060030, 8, 1⟩
abbrev PAIR_INT_DIFF_DISCARD : Fld := ⟨0x40060030, 9, 1⟩
abbrev PAIR_INT_EN_LAMP_CHG : Fld := ⟨0x40060034, 0, 1⟩
abbrev PAIR_INT_EN_MATE_DOWN : Fld := ⟨0x40060034, 1, 1⟩
abbrev PAIR_INT_EN_MATE_UP : Fld := ⟨0x40060034, 2, 1⟩
abbrev PAIR_INT_EN_STALE : Fld := ⟨0x40060034, 3, 1⟩
abbrev PAIR_INT_EN_RESYNC_DONE : Fld := ⟨0x40060034, 4, 1⟩
abbrev PAIR_INT_EN_DUAL : Fld := ⟨0x40060034, 5, 1⟩
abbrev PAIR_INT_EN_DRILL_DUE : Fld := ⟨0x40060034, 6, 1⟩
abbrev PAIR_INT_EN_DIS : Fld := ⟨0x40060034, 7, 1⟩
abbrev PAIR_INT_EN_LEASE_LOST : Fld := ⟨0x40060034, 8, 1⟩
abbrev PAIR_INT_EN_DIFF_DISCARD : Fld := ⟨0x40060034, 9, 1⟩

/-! ### MAP (03_connection_map.md) -/

abbrev MAP_CTRL_ECC_GEN : Fld := ⟨0x40070000, 0, 1⟩
abbrev MAP_CTRL_LOCK : Fld := ⟨0x40070000, 31, 1⟩
abbrev MAP_STATUS_ACTIVE_PAGE : Fld := ⟨0x40070004, 0, 1⟩
abbrev MAP_STATUS_CHECK_VALID : Fld := ⟨0x40070004, 1, 1⟩
abbrev MAP_STATUS_STATE : Fld := ⟨0x40070004, 2, 3⟩
abbrev MAP_FN_TARGET_FN : Fld := ⟨0x40070008, 0, 16⟩
abbrev MAP_FN_LAST_SWAP_FN : Fld := ⟨0x40070008, 16, 16⟩
abbrev MAP_COMMIT_CNT_COUNT : Fld := ⟨0x4007000C, 0, 32⟩
abbrev MAP_HERD_CFG_HERD_FAN : Fld := ⟨0x40070010, 0, 16⟩
abbrev MAP_HERD_USE_IN_USE : Fld := ⟨0x40070014, 0, 22⟩
abbrev MAP_BANK_PEAK_LOAD : Fld := ⟨0x40070018, 0, 16⟩
abbrev MAP_BANK_PEAK_BANK : Fld := ⟨0x40070018, 16, 11⟩
abbrev MAP_DIRTY_COUNT : Fld := ⟨0x4007001C, 0, 26⟩
abbrev MAP_WR_DROP_COUNT : Fld := ⟨0x40070020, 0, 32⟩
abbrev MAP_CE_CNT_COUNT : Fld := ⟨0x40070024, 0, 32⟩
abbrev MAP_UE_CNT_COUNT : Fld := ⟨0x40070028, 0, 32⟩
abbrev MAP_UE_ADDR_SLOT : Fld := ⟨0x4007002C, 0, 25⟩
abbrev MAP_UE_ADDR_PAGE : Fld := ⟨0x4007002C, 25, 1⟩
abbrev MAP_UE_ADDR_REPAIRED : Fld := ⟨0x4007002C, 26, 1⟩
abbrev MAP_UE_ADDR_VALID : Fld := ⟨0x4007002C, 31, 1⟩
abbrev MAP_INT_CHECK_DONE : Fld := ⟨0x40070030, 0, 1⟩
abbrev MAP_INT_SWAP : Fld := ⟨0x40070030, 1, 1⟩
abbrev MAP_INT_COMMIT_DONE : Fld := ⟨0x40070030, 2, 1⟩
abbrev MAP_INT_UE : Fld := ⟨0x40070030, 3, 1⟩
abbrev MAP_INT_CE : Fld := ⟨0x40070030, 4, 1⟩
abbrev MAP_INT_WR_DROP : Fld := ⟨0x40070030, 5, 1⟩
abbrev MAP_INT_EN_CHECK_DONE : Fld := ⟨0x40070034, 0, 1⟩
abbrev MAP_INT_EN_SWAP : Fld := ⟨0x40070034, 1, 1⟩
abbrev MAP_INT_EN_COMMIT_DONE : Fld := ⟨0x40070034, 2, 1⟩
abbrev MAP_INT_EN_UE : Fld := ⟨0x40070034, 3, 1⟩
abbrev MAP_INT_EN_CE : Fld := ⟨0x40070034, 4, 1⟩
abbrev MAP_INT_EN_WR_DROP : Fld := ⟨0x40070034, 5, 1⟩
abbrev MAP_WIN_SEL_WIN : Fld := ⟨0x40070040, 0, 2⟩

/-! ### CORE (04_switch_core.md) -/

abbrev CORE_CTRL_STEAL_SPAN : Fld := ⟨0x40080000, 0, 5⟩
abbrev CORE_CTRL_PREBOOST_EN : Fld := ⟨0x40080000, 8, 1⟩
abbrev CORE_CTRL_LOCK : Fld := ⟨0x40080000, 31, 1⟩
abbrev CORE_STATUS_ENG_ACTIVE : Fld := ⟨0x40080004, 0, 9⟩
abbrev CORE_STATUS_LATE_PERSIST : Fld := ⟨0x40080004, 9, 1⟩
abbrev CORE_STATUS_BG_SUSPENDED : Fld := ⟨0x40080004, 10, 1⟩
abbrev CORE_STATUS_SPARES_FREE : Fld := ⟨0x40080004, 16, 7⟩
abbrev CANDLE_CFG_SLACK_TARGET : Fld := ⟨0x40080010, 0, 12⟩
abbrev CANDLE_CFG_SLACK_HYST : Fld := ⟨0x40080010, 12, 8⟩
abbrev CANDLE_CFG_SLACK_FLOOR : Fld := ⟨0x40080010, 20, 12⟩
abbrev CANDLE_LAST_MIN_SLACK : Fld := ⟨0x40080014, 0, 12⟩
abbrev CANDLE_LAST_MIN_POS : Fld := ⟨0x40080014, 12, 10⟩
abbrev CANDLE_LAST_LATE : Fld := ⟨0x40080014, 22, 1⟩
abbrev CANDLE_LAST_FN_FN : Fld := ⟨0x40080018, 0, 16⟩
abbrev CANDLE_LAST_FN_LATE_GRAINS : Fld := ⟨0x40080018, 16, 16⟩
abbrev CANDLE_WORST_MIN_SLACK : Fld := ⟨0x4008001C, 0, 12⟩
abbrev CANDLE_WORST_FN : Fld := ⟨0x4008001C, 12, 16⟩
abbrev CANDLE_WORST_REARM : Fld := ⟨0x4008001C, 31, 1⟩
abbrev LATE_GRAIN_CNT_COUNT : Fld := ⟨0x40080020, 0, 32⟩
abbrev LATE_SLOT_CNT_COUNT : Fld := ⟨0x40080024, 0, 32⟩
abbrev LATE_FRAME_CNT_COUNT : Fld := ⟨0x40080028, 0, 32⟩
abbrev DS_CE_CNT_COUNT : Fld := ⟨0x40080030, 0, 32⟩
abbrev DS_UE_CNT_COUNT : Fld := ⟨0x40080034, 0, 32⟩
abbrev DS_UE_ADDR_PHYS : Fld := ⟨0x40080038, 0, 12⟩
abbrev DS_UE_ADDR_WORD : Fld := ⟨0x40080038, 12, 11⟩
abbrev DS_UE_ADDR_PAGE : Fld := ⟨0x40080038, 23, 1⟩
abbrev DS_UE_ADDR_VALID : Fld := ⟨0x40080038, 31, 1⟩
abbrev BROT_CTRL_EN : Fld := ⟨0x40080040, 0, 1⟩
abbrev BROT_CTRL_PERIOD : Fld := ⟨0x40080040, 1, 16⟩
abbrev BROT_STATUS_LAST_PHYS : Fld := ⟨0x40080044, 0, 12⟩
abbrev BROT_STATUS_LAST_PASS : Fld := ⟨0x40080044, 12, 1⟩
abbrev BROT_STATUS_STEPS : Fld := ⟨0x40080044, 16, 16⟩
abbrev CORE_INT_LATE : Fld := ⟨0x40080050, 0, 1⟩
abbrev CORE_INT_SLACK_LOW : Fld := ⟨0x40080050, 1, 1⟩
abbrev CORE_INT_LATE_PERSIST : Fld := ⟨0x40080050, 2, 1⟩
abbrev CORE_INT_DS_CE : Fld := ⟨0x40080050, 3, 1⟩
abbrev CORE_INT_DS_UE : Fld := ⟨0x40080050, 4, 1⟩
abbrev CORE_INT_BANK_RETIRED : Fld := ⟨0x40080050, 5, 1⟩
abbrev CORE_INT_SPARES_OUT : Fld := ⟨0x40080050, 6, 1⟩
abbrev CORE_INT_BANK_MOVED : Fld := ⟨0x40080050, 7, 1⟩
abbrev CORE_INT_EN_LATE : Fld := ⟨0x40080054, 0, 1⟩
abbrev CORE_INT_EN_SLACK_LOW : Fld := ⟨0x40080054, 1, 1⟩
abbrev CORE_INT_EN_LATE_PERSIST : Fld := ⟨0x40080054, 2, 1⟩
abbrev CORE_INT_EN_DS_CE : Fld := ⟨0x40080054, 3, 1⟩
abbrev CORE_INT_EN_DS_UE : Fld := ⟨0x40080054, 4, 1⟩
abbrev CORE_INT_EN_BANK_RETIRED : Fld := ⟨0x40080054, 5, 1⟩
abbrev CORE_INT_EN_SPARES_OUT : Fld := ⟨0x40080054, 6, 1⟩
abbrev CORE_INT_EN_BANK_MOVED : Fld := ⟨0x40080054, 7, 1⟩
abbrev BANK_MAP_PHYS (n : Nat) : Fld := ⟨0x40081000 + n * 0x4, 0, 12⟩
abbrev BANK_STATE_STATE (n : Nat) : Fld := ⟨0x40083000 + n * 0x4, 0, 2⟩
abbrev BANK_STATE_LOGICAL (n : Nat) : Fld := ⟨0x40083000 + n * 0x4, 2, 11⟩
abbrev BANK_STATE_CE_CNT (n : Nat) : Fld := ⟨0x40083000 + n * 0x4, 16, 8⟩
abbrev FRAME_NUM_FN : Fld := ⟨0x40087000, 0, 16⟩
abbrev FRAME_NUM_MF_PHASE : Fld := ⟨0x40087000, 16, 2⟩
abbrev GEN_CTRL_CONST_HOLD : Fld := ⟨0x40087004, 0, 1⟩
abbrev GEN_CTRL_PRBS_RESTART : Fld := ⟨0x40087004, 1, 1⟩
abbrev GEN_CONST_CONST0 (n : Nat) : Fld := ⟨0x40088000 + n * 0x4, 0, 8⟩
abbrev GEN_CONST_CONST1 (n : Nat) : Fld := ⟨0x40088000 + n * 0x4, 8, 8⟩
abbrev GEN_CONST_CONST2 (n : Nat) : Fld := ⟨0x40088000 + n * 0x4, 16, 8⟩
abbrev GEN_CONST_CONST3 (n : Nat) : Fld := ⟨0x40088000 + n * 0x4, 24, 8⟩

/-! ### SEL (05_protection.md) -/

abbrev SEL_USE_COUNT : Fld := ⟨0x40090000, 0, 22⟩
abbrev MON_USE_COUNT : Fld := ⟨0x40090004, 0, 22⟩
abbrev SEL_SW_CNT_COUNT : Fld := ⟨0x40090008, 0, 32⟩
abbrev SEL_BURST_COUNT : Fld := ⟨0x4009000C, 0, 21⟩
abbrev SEL_BURST_T_TICKS : Fld := ⟨0x40090010, 0, 20⟩
abbrev SEL_UE_CNT_COUNT : Fld := ⟨0x40090014, 0, 32⟩
abbrev SEL_UE_IDX_INDEX : Fld := ⟨0x40090018, 0, 21⟩
abbrev SEL_UE_IDX_KIND : Fld := ⟨0x40090018, 21, 1⟩
abbrev SEL_UE_IDX_VALID : Fld := ⟨0x40090018, 31, 1⟩
abbrev SEL_INT_SW : Fld := ⟨0x40090020, 0, 1⟩
abbrev SEL_INT_UE : Fld := ⟨0x40090020, 1, 1⟩
abbrev SEL_INT_APS_RX : Fld := ⟨0x40090020, 2, 1⟩
abbrev SEL_INT_LINE_REQ : Fld := ⟨0x40090020, 3, 1⟩
abbrev SEL_INT_BURST_SLOW : Fld := ⟨0x40090020, 4, 1⟩
abbrev SEL_INT_EN_SW : Fld := ⟨0x40090024, 0, 1⟩
abbrev SEL_INT_EN_UE : Fld := ⟨0x40090024, 1, 1⟩
abbrev SEL_INT_EN_APS_RX : Fld := ⟨0x40090024, 2, 1⟩
abbrev SEL_INT_EN_LINE_REQ : Fld := ⟨0x40090024, 3, 1⟩
abbrev SEL_INT_EN_BURST_SLOW : Fld := ⟨0x40090024, 4, 1⟩
abbrev LINE_GRP_PROT_PORT (n : Nat) : Fld := ⟨0x40090100 + n * 0x4, 0, 6⟩
abbrev LINE_GRP_ARCH (n : Nat) : Fld := ⟨0x40090100 + n * 0x4, 6, 2⟩
abbrev LINE_GRP_REV (n : Nat) : Fld := ⟨0x40090100 + n * 0x4, 8, 1⟩
abbrev LINE_GRP_SEL (n : Nat) : Fld := ⟨0x40090100 + n * 0x4, 9, 1⟩
abbrev LINE_GRP_BR (n : Nat) : Fld := ⟨0x40090100 + n * 0x4, 10, 1⟩
abbrev LINE_GRP_HOLDOFF (n : Nat) : Fld := ⟨0x40090100 + n * 0x4, 11, 7⟩
abbrev LINE_GRP_WTR (n : Nat) : Fld := ⟨0x40090100 + n * 0x4, 18, 10⟩
abbrev LINE_STATE_REQ (n : Nat) : Fld := ⟨0x40090200 + n * 0x4, 0, 4⟩
abbrev LINE_STATE_CMD (n : Nat) : Fld := ⟨0x40090200 + n * 0x4, 4, 3⟩
abbrev LINE_STATE_TMR (n : Nat) : Fld := ⟨0x40090200 + n * 0x4, 7, 17⟩
abbrev LINE_STATE_TPH (n : Nat) : Fld := ⟨0x40090200 + n * 0x4, 24, 2⟩
abbrev LINE_STATE_COND (n : Nat) : Fld := ⟨0x40090200 + n * 0x4, 26, 4⟩
abbrev APS_TX_K1 (n : Nat) : Fld := ⟨0x40090300 + n * 0x4, 0, 8⟩
abbrev APS_TX_K2 (n : Nat) : Fld := ⟨0x40090300 + n * 0x4, 8, 8⟩
abbrev APS_RX_K1 (n : Nat) : Fld := ⟨0x40090400 + n * 0x4, 0, 8⟩
abbrev APS_RX_K2 (n : Nat) : Fld := ⟨0x40090400 + n * 0x4, 8, 8⟩

/-! ### SEM (11_control_plane.md) -/

abbrev SEM_ACQ_GOT (n : Nat) : Fld := ⟨0x400A0000 + n * 0x4, 0, 1⟩
abbrev SEM_ACQ_HELD (n : Nat) : Fld := ⟨0x400A0000 + n * 0x4, 1, 1⟩
abbrev SEM_ACQ_OWNER (n : Nat) : Fld := ⟨0x400A0000 + n * 0x4, 4, 4⟩
abbrev SEM_PEEK_GOT (n : Nat) : Fld := ⟨0x400A0100 + n * 0x4, 0, 1⟩
abbrev SEM_PEEK_HELD (n : Nat) : Fld := ⟨0x400A0100 + n * 0x4, 1, 1⟩
abbrev SEM_PEEK_OWNER (n : Nat) : Fld := ⟨0x400A0100 + n * 0x4, 4, 4⟩
abbrev SEM_STAT_HELD : Fld := ⟨0x400A0200, 0, 32⟩
abbrev SEM_RECL_RECL : Fld := ⟨0x400A0204, 0, 32⟩
abbrev SEM_BAD_REL_COUNT : Fld := ⟨0x400A0208, 0, 32⟩

/-! ### PRT (06_line_ports.md) -/

abbrev PRT_CFG_MODE (p : Nat) : Fld := ⟨prtBase p + 0x0, 0, 4⟩
abbrev PRT_CFG_ENABLED (p : Nat) : Fld := ⟨prtBase p + 0x0, 4, 1⟩
abbrev PRT_CFG_BOND_MEMBER (p : Nat) : Fld := ⟨prtBase p + 0x0, 5, 1⟩
abbrev PRT_CFG_LOOP (p : Nat) : Fld := ⟨prtBase p + 0x0, 6, 2⟩
abbrev PRT_CFG_TX_INV (p : Nat) : Fld := ⟨prtBase p + 0x0, 8, 4⟩
abbrev PRT_CFG_RX_INV (p : Nat) : Fld := ⟨prtBase p + 0x0, 12, 4⟩
abbrev PRT_CFG_LOCK (p : Nat) : Fld := ⟨prtBase p + 0x0, 31, 1⟩
abbrev PRT_STATUS_DEPTH (p : Nat) : Fld := ⟨prtBase p + 0x4, 0, 2⟩
abbrev PRT_STATUS_CDR_LOCK (p : Nat) : Fld := ⟨prtBase p + 0x4, 2, 4⟩
abbrev PRT_STATUS_PLL_LOCK (p : Nat) : Fld := ⟨prtBase p + 0x4, 6, 1⟩
abbrev PRT_STATUS_RX_FRAMED (p : Nat) : Fld := ⟨prtBase p + 0x4, 7, 1⟩
abbrev PRT_STATUS_CMD_BUSY (p : Nat) : Fld := ⟨prtBase p + 0x4, 8, 1⟩
abbrev PRT_STATUS_DISABLING (p : Nat) : Fld := ⟨prtBase p + 0x4, 9, 1⟩
abbrev PRT_STATUS_CLASS (p : Nat) : Fld := ⟨prtBase p + 0x4, 10, 3⟩
abbrev PRT_IDLE_IDLE (p : Nat) : Fld := ⟨prtBase p + 0x8, 0, 8⟩
abbrev PRT_BUDGET_TX_WAKE (p : Nat) : Fld := ⟨prtBase p + 0xC, 0, 16⟩
abbrev PRT_BUDGET_RX_WAKE (p : Nat) : Fld := ⟨prtBase p + 0xC, 16, 16⟩
abbrev PRT_SRC_REFS_COUNT (p : Nat) : Fld := ⟨prtBase p + 0x10, 0, 26⟩
abbrev PRT_SLIP_REP_COUNT (p : Nat) : Fld := ⟨prtBase p + 0x14, 0, 32⟩
abbrev PRT_SLIP_DEL_COUNT (p : Nat) : Fld := ⟨prtBase p + 0x18, 0, 32⟩
abbrev PRT_TXEQ_PRE1 (p : Nat) (n : Nat) : Fld := ⟨prtBase p + 0x20 + n * 0x4, 0, 6⟩
abbrev PRT_TXEQ_MAIN (p : Nat) (n : Nat) : Fld := ⟨prtBase p + 0x20 + n * 0x4, 6, 7⟩
abbrev PRT_TXEQ_POST1 (p : Nat) (n : Nat) : Fld := ⟨prtBase p + 0x20 + n * 0x4, 13, 6⟩
abbrev PRT_INT_ENABLE_DONE (p : Nat) : Fld := ⟨prtBase p + 0x40, 0, 1⟩
abbrev PRT_INT_DISABLE_DONE (p : Nat) : Fld := ⟨prtBase p + 0x40, 1, 1⟩
abbrev PRT_INT_DEPTH_CHG (p : Nat) : Fld := ⟨prtBase p + 0x40, 2, 1⟩
abbrev PRT_INT_PLL_UNLOCK (p : Nat) : Fld := ⟨prtBase p + 0x40, 3, 1⟩
abbrev PRT_INT_CDR_UNLOCK (p : Nat) : Fld := ⟨prtBase p + 0x40, 4, 1⟩
abbrev PRT_INT_SLIP (p : Nat) : Fld := ⟨prtBase p + 0x40, 5, 1⟩
abbrev PRT_INT_FRAMED_CHG (p : Nat) : Fld := ⟨prtBase p + 0x40, 6, 1⟩
abbrev PRT_INT_EN_ENABLE_DONE (p : Nat) : Fld := ⟨prtBase p + 0x44, 0, 1⟩
abbrev PRT_INT_EN_DISABLE_DONE (p : Nat) : Fld := ⟨prtBase p + 0x44, 1, 1⟩
abbrev PRT_INT_EN_DEPTH_CHG (p : Nat) : Fld := ⟨prtBase p + 0x44, 2, 1⟩
abbrev PRT_INT_EN_PLL_UNLOCK (p : Nat) : Fld := ⟨prtBase p + 0x44, 3, 1⟩
abbrev PRT_INT_EN_CDR_UNLOCK (p : Nat) : Fld := ⟨prtBase p + 0x44, 4, 1⟩
abbrev PRT_INT_EN_SLIP (p : Nat) : Fld := ⟨prtBase p + 0x44, 5, 1⟩
abbrev PRT_INT_EN_FRAMED_CHG (p : Nat) : Fld := ⟨prtBase p + 0x44, 6, 1⟩
abbrev PRT_FRM_STATE (p : Nat) : Fld := ⟨prtBase p + 0x100, 0, 1⟩
abbrev PRT_FRM_CAND (p : Nat) : Fld := ⟨prtBase p + 0x100, 1, 4⟩
abbrev PRT_FRM_LANE_IN (p : Nat) : Fld := ⟨prtBase p + 0x100, 5, 4⟩
abbrev PRT_FRM_CNT_CAND_DROP (p : Nat) : Fld := ⟨prtBase p + 0x104, 0, 16⟩
abbrev PRT_FRM_CNT_FALSE_LOCK (p : Nat) : Fld := ⟨prtBase p + 0x104, 16, 16⟩
abbrev PRT_OH_CFG_DCC_SRC (p : Nat) : Fld := ⟨prtBase p + 0x108, 0, 2⟩
abbrev PRT_OH_CFG_SS (p : Nat) : Fld := ⟨prtBase p + 0x108, 2, 2⟩
abbrev PRT_OH_CFG_J0 (p : Nat) : Fld := ⟨prtBase p + 0x108, 4, 8⟩
abbrev PRT_OH_CFG_OTN_BMP (p : Nat) : Fld := ⟨prtBase p + 0x108, 12, 1⟩
abbrev PRT_OH_CFG_FEC_TX (p : Nat) : Fld := ⟨prtBase p + 0x108, 13, 1⟩
abbrev PRT_OH_CFG_FEC_RX (p : Nat) : Fld := ⟨prtBase p + 0x108, 14, 1⟩
abbrev PRT_DEF_LOS (p : Nat) : Fld := ⟨prtBase p + 0x10C, 0, 1⟩
abbrev PRT_DEF_OOF (p : Nat) : Fld := ⟨prtBase p + 0x10C, 1, 1⟩
abbrev PRT_DEF_LOF (p : Nat) : Fld := ⟨prtBase p + 0x10C, 2, 1⟩
abbrev PRT_DEF_AIS_L (p : Nat) : Fld := ⟨prtBase p + 0x10C, 3, 1⟩
abbrev PRT_DEF_RDI_L (p : Nat) : Fld := ⟨prtBase p + 0x10C, 4, 1⟩
abbrev PRT_DEF_LOM (p : Nat) : Fld := ⟨prtBase p + 0x10C, 5, 1⟩
abbrev PRT_DEF_OTU_AIS (p : Nat) : Fld := ⟨prtBase p + 0x10C, 6, 1⟩
abbrev PRT_DEF_ODU_AIS (p : Nat) : Fld := ⟨prtBase p + 0x10C, 7, 1⟩
abbrev PRT_DEF_OCI (p : Nat) : Fld := ⟨prtBase p + 0x10C, 8, 1⟩
abbrev PRT_DEF_LCK (p : Nat) : Fld := ⟨prtBase p + 0x10C, 9, 1⟩
abbrev PRT_DEF_SM_BDI (p : Nat) : Fld := ⟨prtBase p + 0x10C, 10, 1⟩
abbrev PRT_DEF_PM_BDI (p : Nat) : Fld := ⟨prtBase p + 0x10C, 11, 1⟩
abbrev PRT_DEF_PLM_O (p : Nat) : Fld := ⟨prtBase p + 0x10C, 12, 1⟩
abbrev PRT_DEF_Z_RDI (p : Nat) : Fld := ⟨prtBase p + 0x10C, 13, 1⟩
abbrev PRT_DEF_SKEW (p : Nat) : Fld := ⟨prtBase p + 0x10C, 14, 1⟩
abbrev PRT_DEF_CLIENT_LOF (p : Nat) : Fld := ⟨prtBase p + 0x10C, 15, 1⟩
abbrev PRT_DEF_PATH (p : Nat) : Fld := ⟨prtBase p + 0x10C, 16, 1⟩
abbrev PRT_DEF_INT_LOS (p : Nat) : Fld := ⟨prtBase p + 0x110, 0, 1⟩
abbrev PRT_DEF_INT_OOF (p : Nat) : Fld := ⟨prtBase p + 0x110, 1, 1⟩
abbrev PRT_DEF_INT_LOF (p : Nat) : Fld := ⟨prtBase p + 0x110, 2, 1⟩
abbrev PRT_DEF_INT_AIS_L (p : Nat) : Fld := ⟨prtBase p + 0x110, 3, 1⟩
abbrev PRT_DEF_INT_RDI_L (p : Nat) : Fld := ⟨prtBase p + 0x110, 4, 1⟩
abbrev PRT_DEF_INT_LOM (p : Nat) : Fld := ⟨prtBase p + 0x110, 5, 1⟩
abbrev PRT_DEF_INT_OTU_AIS (p : Nat) : Fld := ⟨prtBase p + 0x110, 6, 1⟩
abbrev PRT_DEF_INT_ODU_AIS (p : Nat) : Fld := ⟨prtBase p + 0x110, 7, 1⟩
abbrev PRT_DEF_INT_OCI (p : Nat) : Fld := ⟨prtBase p + 0x110, 8, 1⟩
abbrev PRT_DEF_INT_LCK (p : Nat) : Fld := ⟨prtBase p + 0x110, 9, 1⟩
abbrev PRT_DEF_INT_SM_BDI (p : Nat) : Fld := ⟨prtBase p + 0x110, 10, 1⟩
abbrev PRT_DEF_INT_PM_BDI (p : Nat) : Fld := ⟨prtBase p + 0x110, 11, 1⟩
abbrev PRT_DEF_INT_PLM_O (p : Nat) : Fld := ⟨prtBase p + 0x110, 12, 1⟩
abbrev PRT_DEF_INT_Z_RDI (p : Nat) : Fld := ⟨prtBase p + 0x110, 13, 1⟩
abbrev PRT_DEF_INT_SKEW (p : Nat) : Fld := ⟨prtBase p + 0x110, 14, 1⟩
abbrev PRT_DEF_INT_CLIENT_LOF (p : Nat) : Fld := ⟨prtBase p + 0x110, 15, 1⟩
abbrev PRT_DEF_INT_PATH (p : Nat) : Fld := ⟨prtBase p + 0x110, 16, 1⟩
abbrev PRT_DEF_EN_LOS (p : Nat) : Fld := ⟨prtBase p + 0x114, 0, 1⟩
abbrev PRT_DEF_EN_OOF (p : Nat) : Fld := ⟨prtBase p + 0x114, 1, 1⟩
abbrev PRT_DEF_EN_LOF (p : Nat) : Fld := ⟨prtBase p + 0x114, 2, 1⟩
abbrev PRT_DEF_EN_AIS_L (p : Nat) : Fld := ⟨prtBase p + 0x114, 3, 1⟩
abbrev PRT_DEF_EN_RDI_L (p : Nat) : Fld := ⟨prtBase p + 0x114, 4, 1⟩
abbrev PRT_DEF_EN_LOM (p : Nat) : Fld := ⟨prtBase p + 0x114, 5, 1⟩
abbrev PRT_DEF_EN_OTU_AIS (p : Nat) : Fld := ⟨prtBase p + 0x114, 6, 1⟩
abbrev PRT_DEF_EN_ODU_AIS (p : Nat) : Fld := ⟨prtBase p + 0x114, 7, 1⟩
abbrev PRT_DEF_EN_OCI (p : Nat) : Fld := ⟨prtBase p + 0x114, 8, 1⟩
abbrev PRT_DEF_EN_LCK (p : Nat) : Fld := ⟨prtBase p + 0x114, 9, 1⟩
abbrev PRT_DEF_EN_SM_BDI (p : Nat) : Fld := ⟨prtBase p + 0x114, 10, 1⟩
abbrev PRT_DEF_EN_PM_BDI (p : Nat) : Fld := ⟨prtBase p + 0x114, 11, 1⟩
abbrev PRT_DEF_EN_PLM_O (p : Nat) : Fld := ⟨prtBase p + 0x114, 12, 1⟩
abbrev PRT_DEF_EN_Z_RDI (p : Nat) : Fld := ⟨prtBase p + 0x114, 13, 1⟩
abbrev PRT_DEF_EN_SKEW (p : Nat) : Fld := ⟨prtBase p + 0x114, 14, 1⟩
abbrev PRT_DEF_EN_CLIENT_LOF (p : Nat) : Fld := ⟨prtBase p + 0x114, 15, 1⟩
abbrev PRT_DEF_EN_PATH (p : Nat) : Fld := ⟨prtBase p + 0x114, 16, 1⟩
abbrev PRT_CNT_COUNT (p : Nat) (n : Nat) : Fld := ⟨prtBase p + 0x120 + n * 0x4, 0, 32⟩
abbrev PRT_QL_RX_QL (p : Nat) : Fld := ⟨prtBase p + 0x140, 0, 8⟩
abbrev PRT_QL_RX_VALID (p : Nat) : Fld := ⟨prtBase p + 0x140, 8, 1⟩
abbrev PRT_J0_RX_J0 (p : Nat) : Fld := ⟨prtBase p + 0x144, 0, 8⟩
abbrev PRT_BC_RX_CORR (p : Nat) : Fld := ⟨prtBase p + 0x148, 0, 16⟩
abbrev PRT_BC_RX_UNCORR (p : Nat) : Fld := ⟨prtBase p + 0x148, 16, 8⟩
abbrev PRT_BC_RX_CRC (p : Nat) : Fld := ⟨prtBase p + 0x148, 24, 1⟩
abbrev PRT_OTN_RX_PT (p : Nat) : Fld := ⟨prtBase p + 0x14C, 0, 8⟩
abbrev PRT_OTN_RX_STAT (p : Nat) : Fld := ⟨prtBase p + 0x14C, 8, 3⟩
abbrev PATH_IDX_CELL (p : Nat) : Fld := ⟨prtBase p + 0x180, 0, 10⟩
abbrev PATH_IDX_G (p : Nat) : Fld := ⟨prtBase p + 0x180, 10, 3⟩
abbrev PATH_IDX_V (p : Nat) : Fld := ⟨prtBase p + 0x180, 13, 2⟩
abbrev PATH_IDX_VT (p : Nat) : Fld := ⟨prtBase p + 0x180, 15, 1⟩
abbrev PATH_DEF_NOW (p k : Nat) : Fld := ⟨prtBase p + 0x184 + pathKey k, 0, 7⟩
abbrev PATH_DEF_SEEN (p k : Nat) : Fld := ⟨prtBase p + 0x184 + pathKey k, 8, 7⟩
abbrev PATH_PTR_OFFSET (p k : Nat) : Fld := ⟨prtBase p + 0x188 + pathKey k, 0, 10⟩
abbrev PATH_PTR_PSTATE (p k : Nat) : Fld := ⟨prtBase p + 0x188 + pathKey k, 10, 2⟩
abbrev PATH_BIP_COUNT (p k : Nat) : Fld := ⟨prtBase p + 0x18C + pathKey k, 0, 32⟩
abbrev PATH_REI_COUNT (p k : Nat) : Fld := ⟨prtBase p + 0x190 + pathKey k, 0, 32⟩
abbrev PATH_JUST_POS (p k : Nat) : Fld := ⟨prtBase p + 0x194 + pathKey k, 0, 16⟩
abbrev PATH_JUST_NEG (p k : Nat) : Fld := ⟨prtBase p + 0x194 + pathKey k, 16, 16⟩
abbrev PRT_STRUCT_DESC_EVEN (p : Nat) (n : Nat) : Fld := ⟨prtBase p + 0x400 + n * 0x4, 0, 16⟩
abbrev PRT_STRUCT_DESC_ODD (p : Nat) (n : Nat) : Fld := ⟨prtBase p + 0x400 + n * 0x4, 16, 16⟩
abbrev TTI_SEL_CELL (p : Nat) (n : Nat) : Fld := ⟨prtBase p + 0xA00 + n * 0x4, 0, 10⟩
abbrev TTI_SEL_G (p : Nat) (n : Nat) : Fld := ⟨prtBase p + 0xA00 + n * 0x4, 10, 3⟩
abbrev TTI_SEL_V (p : Nat) (n : Nat) : Fld := ⟨prtBase p + 0xA00 + n * 0x4, 13, 2⟩
abbrev TTI_SEL_KIND (p : Nat) (n : Nat) : Fld := ⟨prtBase p + 0xA00 + n * 0x4, 16, 3⟩
abbrev TTI_SEL_TIM (p : Nat) (n : Nat) : Fld := ⟨prtBase p + 0xA00 + n * 0x4, 24, 1⟩
abbrev TTI_EXP_CRC (p : Nat) (n : Nat) : Fld := ⟨prtBase p + 0xB00 + n * 0x4, 0, 32⟩
abbrev TTI_CAP_TRACE (p : Nat) (n : Nat) : Fld := ⟨prtBase p + 0xC00 + n * 0x4, 0, 32⟩

/-! ### MDC (07_framing_and_overhead.md) -/

abbrev MDC_CTRL_EN0 : Fld := ⟨0x40200000, 0, 1⟩
abbrev MDC_CTRL_DIV0 : Fld := ⟨0x40200000, 1, 2⟩
abbrev MDC_CTRL_EN1 : Fld := ⟨0x40200000, 8, 1⟩
abbrev MDC_CTRL_DIV1 : Fld := ⟨0x40200000, 9, 2⟩
abbrev MDC_PTR_BASE_LO_ADDR : Fld := ⟨0x40200008, 0, 32⟩
abbrev MDC_PTR_BASE_HI_ADDR : Fld := ⟨0x4020000C, 0, 32⟩
abbrev MDC_INT_RX_OVF : Fld := ⟨0x40200010, 0, 1⟩
abbrev MDC_INT_TX_SHORT : Fld := ⟨0x40200010, 1, 1⟩
abbrev MDC_INT_DI_SYNC : Fld := ⟨0x40200010, 2, 1⟩
abbrev MDC_INT_EN_RX_OVF : Fld := ⟨0x40200014, 0, 1⟩
abbrev MDC_INT_EN_TX_SHORT : Fld := ⟨0x40200014, 1, 1⟩
abbrev MDC_INT_EN_DI_SYNC : Fld := ⟨0x40200014, 2, 1⟩
abbrev MDC_RD_COUNT (n : Nat) : Fld := ⟨0x40201000 + n * 0x4, 0, 32⟩
abbrev MDC_WR_COUNT (n : Nat) : Fld := ⟨0x40201400 + n * 0x4, 0, 32⟩

/-! ### BOOT (14_boot_and_update.md) -/

abbrev BOOT_STATUS_STEP : Fld := ⟨0x40210000, 0, 4⟩
abbrev BOOT_STATUS_PHASE : Fld := ⟨0x40210000, 4, 3⟩
abbrev BOOT_STATUS_RUN_IMG : Fld := ⟨0x40210000, 7, 1⟩
abbrev BOOT_STATUS_CODE_SLOT : Fld := ⟨0x40210000, 8, 1⟩
abbrev BOOT_STATUS_TRIAL : Fld := ⟨0x40210000, 9, 1⟩
abbrev BOOT_STATUS_DEGRADED : Fld := ⟨0x40210000, 10, 1⟩
abbrev BOOT_STATUS_BOOTS : Fld := ⟨0x40210000, 16, 16⟩
abbrev BOOT_RESULT_RES1 : Fld := ⟨0x40210004, 0, 2⟩
abbrev BOOT_RESULT_RES2 : Fld := ⟨0x40210004, 2, 2⟩
abbrev BOOT_RESULT_RES3 : Fld := ⟨0x40210004, 4, 2⟩
abbrev BOOT_RESULT_RES4 : Fld := ⟨0x40210004, 6, 2⟩
abbrev BOOT_RESULT_RES5 : Fld := ⟨0x40210004, 8, 2⟩
abbrev BOOT_RESULT_RES6 : Fld := ⟨0x40210004, 10, 2⟩
abbrev BOOT_RESULT_RES7 : Fld := ⟨0x40210004, 12, 2⟩
abbrev BOOT_RESULT_RES8 : Fld := ⟨0x40210004, 14, 2⟩
abbrev BOOT_RESULT_RES9 : Fld := ⟨0x40210004, 16, 2⟩
abbrev BOOT_RESULT_RES10 : Fld := ⟨0x40210004, 18, 2⟩
abbrev BOOT_RESULT_RES11 : Fld := ⟨0x40210004, 20, 2⟩
abbrev BOOT_LASTFAIL_STEP : Fld := ⟨0x40210008, 0, 4⟩
abbrev BOOT_LASTFAIL_CAUSE : Fld := ⟨0x40210008, 4, 4⟩
abbrev BOOT_LASTFAIL_INTERRUPTED : Fld := ⟨0x40210008, 8, 1⟩
abbrev BOOT_FAILCNT0_CNT1 : Fld := ⟨0x4021000C, 0, 4⟩
abbrev BOOT_FAILCNT0_CNT2 : Fld := ⟨0x4021000C, 4, 4⟩
abbrev BOOT_FAILCNT0_CNT3 : Fld := ⟨0x4021000C, 8, 4⟩
abbrev BOOT_FAILCNT0_CNT4 : Fld := ⟨0x4021000C, 12, 4⟩
abbrev BOOT_FAILCNT0_CNT5 : Fld := ⟨0x4021000C, 16, 4⟩
abbrev BOOT_FAILCNT0_CNT6 : Fld := ⟨0x4021000C, 20, 4⟩
abbrev BOOT_FAILCNT0_CNT7 : Fld := ⟨0x4021000C, 24, 4⟩
abbrev BOOT_FAILCNT0_CNT8 : Fld := ⟨0x4021000C, 28, 4⟩
abbrev BOOT_FAILCNT1_CNT9 : Fld := ⟨0x40210010, 0, 4⟩
abbrev BOOT_FAILCNT1_CNT10 : Fld := ⟨0x40210010, 4, 4⟩
abbrev BOOT_FAILCNT1_CNT11 : Fld := ⟨0x40210010, 8, 4⟩
abbrev BOOT_IMG_STATE_A : Fld := ⟨0x40210014, 0, 4⟩
abbrev BOOT_IMG_STATE_B : Fld := ⟨0x40210014, 4, 4⟩
abbrev BOOT_IMG_PREF : Fld := ⟨0x40210014, 8, 1⟩
abbrev BOOT_VER_A_VERSION : Fld := ⟨0x40210018, 0, 32⟩
abbrev BOOT_VER_B_VERSION : Fld := ⟨0x4021001C, 0, 32⟩
abbrev BOOT_STAGE_SLOT : Fld := ⟨0x40210020, 0, 1⟩
abbrev BOOT_STAGE_SOURCE : Fld := ⟨0x40210020, 1, 2⟩
abbrev BOOT_STAGE_STAGING : Fld := ⟨0x40210020, 3, 1⟩
abbrev BOOT_STAGE_ACTIVATION : Fld := ⟨0x40210020, 4, 1⟩
abbrev BOOT_STAGE_SETTINGS : Fld := ⟨0x40210020, 5, 1⟩
abbrev BOOT_STAGE_OFFSET : Fld := ⟨0x40210020, 8, 19⟩
abbrev BOOT_TRIAL_LEFT : Fld := ⟨0x40210024, 0, 12⟩
abbrev BOOT_SET_FMT : Fld := ⟨0x40210028, 0, 16⟩
abbrev BOOT_SET_SLOT : Fld := ⟨0x40210028, 16, 3⟩
abbrev BOOT_SET_DEFAULTS : Fld := ⟨0x40210028, 19, 1⟩
abbrev BOOT_SET_PINNED : Fld := ⟨0x40210028, 20, 1⟩
abbrev BOOT_SET_PIN_SLOT : Fld := ⟨0x40210028, 21, 3⟩
abbrev BOOT_SET_GEN_GEN : Fld := ⟨0x4021002C, 0, 32⟩
abbrev BOOT_VEC_ADDR : Fld := ⟨0x40210040, 0, 32⟩
abbrev BOOT_INT_BOOT_DONE : Fld := ⟨0x40210050, 0, 1⟩
abbrev BOOT_INT_HANDOVER : Fld := ⟨0x40210050, 1, 1⟩
abbrev BOOT_INT_REVERTED : Fld := ⟨0x40210050, 2, 1⟩
abbrev BOOT_INT_TRIAL_EXPIRED : Fld := ⟨0x40210050, 3, 1⟩
abbrev BOOT_INT_CONFIRMED : Fld := ⟨0x40210050, 4, 1⟩
abbrev BOOT_INT_STAGED : Fld := ⟨0x40210050, 5, 1⟩
abbrev BOOT_INT_SETTINGS_WRITTEN : Fld := ⟨0x40210050, 6, 1⟩
abbrev BOOT_INT_EN_BOOT_DONE : Fld := ⟨0x40210054, 0, 1⟩
abbrev BOOT_INT_EN_HANDOVER : Fld := ⟨0x40210054, 1, 1⟩
abbrev BOOT_INT_EN_REVERTED : Fld := ⟨0x40210054, 2, 1⟩
abbrev BOOT_INT_EN_TRIAL_EXPIRED : Fld := ⟨0x40210054, 3, 1⟩
abbrev BOOT_INT_EN_CONFIRMED : Fld := ⟨0x40210054, 4, 1⟩
abbrev BOOT_INT_EN_STAGED : Fld := ⟨0x40210054, 5, 1⟩
abbrev BOOT_INT_EN_SETTINGS_WRITTEN : Fld := ⟨0x40210054, 6, 1⟩

/-! ### FUSE (14_boot_and_update.md) -/

abbrev FUSE_CFG_DEBUG_DISABLE : Fld := ⟨0x40220000, 0, 1⟩
abbrev FUSE_CFG_GRADE : Fld := ⟨0x40220000, 1, 1⟩
abbrev FUSE_SVN_SVN : Fld := ⟨0x40220004, 0, 6⟩
abbrev FUSE_KEYHASH_HASH (n : Nat) : Fld := ⟨0x40220010 + n * 0x4, 0, 32⟩
abbrev FUSE_ID_ID (n : Nat) : Fld := ⟨0x40220040 + n * 0x4, 0, 32⟩

end F
end Sys2Proof.Machine
end

