-- ==== Sys2Proof/Machine/RegTable.lean ====
section
/-! DEFINITION. Machine/RegTable.lean: the register tables of spec/02 to spec/14 as data.
One row per register: name, offset in its block, count, stride, and its fields (low bit, width, access code of R10,
reset value).
Reserved bits have no field: they read zero and ignore writes (R11). -/
namespace Sys2Proof.Machine

/-- The access codes of R10. -/
inductive Acc where
  | rw | ro | wo | w1c | w1s | rwl | rc
  deriving DecidableEq, Repr

/-- One field of a register table. -/
structure FieldRow where
  lo : Nat
  w : Nat
  acc : Acc
  rst : Nat
  deriving DecidableEq, Repr

/-- One register (or a window of `count` equal registers, `stride` bytes apart). -/
structure RegRow where
  name : String
  off : Nat
  count : Nat
  stride : Nat
  fields : List FieldRow
  deriving DecidableEq, Repr

namespace RegTable

def sysRegs : List RegRow := [
  ⟨"SYS_CTRL", 0x0, 1, 4, [⟨0, 1, .rwl, 0⟩, ⟨31, 1, .w1s, 0⟩]⟩]

def mbxRegs0 : List RegRow := [
  ⟨"MBX_CTRL", 0x0, 1, 4, [⟨0, 1, .rw, 0⟩]⟩,
  ⟨"MBX_STATUS", 0x4, 1, 4, [⟨0, 1, .ro, 0⟩, ⟨1, 1, .ro, 0⟩, ⟨2, 1, .ro, 0⟩, ⟨3, 1, .ro, 0⟩, ⟨8, 8, .ro, 0⟩]⟩,
  ⟨"MBX_EPOCH", 0x8, 1, 4, [⟨0, 32, .ro, 0⟩]⟩,
  ⟨"MBX_TMO_CFG", 0xC, 1, 4, [⟨0, 10, .rw, 50⟩]⟩,
  ⟨"H2D_DB", 0x10, 1, 4, [⟨0, 32, .w1s, 0⟩]⟩,
  ⟨"H2D_MASK", 0x14, 1, 4, [⟨0, 32, .ro, 4294967295⟩]⟩,
  ⟨"D2H_DB", 0x18, 1, 4, [⟨0, 32, .w1c, 0⟩]⟩,
  ⟨"D2H_MASK", 0x1C, 1, 4, [⟨0, 32, .rw, 4294967295⟩]⟩,
  ⟨"H2D_TMO", 0x20, 1, 4, [⟨0, 32, .w1c, 0⟩]⟩,
  ⟨"D2H_TMO", 0x24, 1, 4, [⟨0, 32, .ro, 0⟩]⟩,
  ⟨"MBX_STALE", 0x28, 1, 4, [⟨0, 32, .ro, 0⟩]⟩,
  ⟨"MBX_ERR", 0x2C, 1, 4, [⟨0, 1, .w1c, 0⟩, ⟨1, 1, .w1c, 0⟩, ⟨2, 1, .w1c, 0⟩, ⟨3, 1, .w1c, 0⟩, ⟨4, 1, .w1c, 0⟩, ⟨5, 1, .w1c, 0⟩, ⟨6, 1, .w1c, 0⟩, ⟨8, 1, .w1c, 0⟩, ⟨9, 1, .w1c, 0⟩]⟩,
  ⟨"MBX_RPL_DISCARD", 0x30, 1, 4, [⟨0, 32, .rc, 0⟩]⟩,
  ⟨"MBX_STALE_CNT", 0x34, 1, 4, [⟨0, 32, .rc, 0⟩]⟩,
  ⟨"MBX_INT_EN", 0x38, 1, 4, [⟨0, 1, .rw, 0⟩, ⟨1, 1, .rw, 0⟩, ⟨2, 1, .rw, 0⟩, ⟨3, 1, .rw, 0⟩, ⟨4, 1, .rw, 0⟩, ⟨5, 1, .rw, 0⟩, ⟨6, 1, .rw, 0⟩, ⟨8, 1, .rw, 0⟩, ⟨9, 1, .rw, 0⟩]⟩,
  ⟨"CMD_BASE_LO", 0x40, 2, 32, [⟨0, 32, .rw, 0⟩]⟩,
  ⟨"CMD_BASE_HI", 0x44, 2, 32, [⟨0, 32, .rw, 0⟩]⟩,
  ⟨"RPL_BASE_LO", 0x48, 2, 32, [⟨0, 32, .rw, 0⟩]⟩,
  ⟨"RPL_BASE_HI", 0x4C, 2, 32, [⟨0, 32, .rw, 0⟩]⟩,
  ⟨"MBX_RING_CTRL", 0x50, 2, 32, [⟨0, 1, .rw, 0⟩, ⟨4, 4, .rw, 4⟩, ⟨8, 4, .rw, 5⟩]⟩]

def mbxRegs1 : List RegRow := [
  ⟨"CMD_IDX", 0x54, 2, 32, [⟨0, 16, .ro, 0⟩, ⟨16, 16, .ro, 0⟩]⟩,
  ⟨"RPL_PI", 0x58, 2, 32, [⟨0, 16, .ro, 0⟩]⟩,
  ⟨"RPL_CI", 0x5C, 2, 32, [⟨0, 16, .rw, 0⟩]⟩,
  ⟨"MBX_EVT_ADDR_LO", 0x80, 1, 4, [⟨0, 1, .rw, 0⟩, ⟨3, 29, .rw, 0⟩]⟩,
  ⟨"MBX_EVT_ADDR_HI", 0x84, 1, 4, [⟨0, 32, .rw, 0⟩]⟩,
  ⟨"H2D_NOTICE_ADDR_LO", 0x100, 32, 16, [⟨0, 32, .rw, 0⟩]⟩,
  ⟨"H2D_NOTICE_ADDR_HI", 0x104, 32, 16, [⟨0, 32, .rw, 0⟩]⟩,
  ⟨"H2D_NOTICE_LEN", 0x108, 32, 16, [⟨0, 32, .rw, 0⟩]⟩,
  ⟨"H2D_NOTICE_TAG", 0x10C, 32, 16, [⟨0, 32, .rw, 0⟩]⟩,
  ⟨"D2H_NOTICE_ADDR_LO", 0x300, 32, 16, [⟨0, 32, .ro, 0⟩]⟩,
  ⟨"D2H_NOTICE_ADDR_HI", 0x304, 32, 16, [⟨0, 32, .ro, 0⟩]⟩,
  ⟨"D2H_NOTICE_LEN", 0x308, 32, 16, [⟨0, 32, .ro, 0⟩]⟩,
  ⟨"D2H_NOTICE_TAG", 0x30C, 32, 16, [⟨0, 32, .ro, 0⟩]⟩]

/-- The registers of block MBX. -/
def mbxRegs : List RegRow := mbxRegs0 ++ mbxRegs1

def mtxRegs : List RegRow := [
  ⟨"MTX_CTRL", 0x0, 1, 4, [⟨0, 4, .rwl, 0⟩, ⟨31, 1, .w1s, 0⟩]⟩,
  ⟨"MTX_ERR_ADDR", 0x10, 1, 4, [⟨0, 32, .ro, 0⟩]⟩,
  ⟨"MTX_ERR_INFO", 0x14, 1, 4, [⟨0, 4, .ro, 0⟩, ⟨4, 1, .ro, 0⟩, ⟨5, 3, .ro, 0⟩, ⟨31, 1, .w1c, 0⟩]⟩,
  ⟨"MTX_ERR_CNT", 0x18, 1, 4, [⟨0, 32, .rc, 0⟩]⟩,
  ⟨"MTX_INT", 0x20, 1, 4, [⟨0, 1, .w1c, 0⟩, ⟨1, 1, .w1c, 0⟩, ⟨2, 1, .w1c, 0⟩, ⟨3, 1, .w1c, 0⟩]⟩,
  ⟨"MTX_INT_EN", 0x24, 1, 4, [⟨0, 1, .rw, 0⟩, ⟨1, 1, .rw, 0⟩, ⟨2, 1, .rw, 0⟩, ⟨3, 1, .rw, 0⟩]⟩,
  ⟨"MTX_ROT", 0x30, 1, 4, [⟨0, 3, .rw, 0⟩, ⟨3, 3, .rw, 0⟩, ⟨6, 3, .rw, 0⟩, ⟨9, 3, .rw, 0⟩, ⟨12, 3, .rw, 0⟩, ⟨15, 3, .rw, 0⟩, ⟨18, 3, .rw, 0⟩, ⟨21, 3, .rw, 0⟩, ⟨24, 3, .rw, 0⟩]⟩,
  ⟨"SCR_CE_CNT", 0x34, 1, 4, [⟨0, 32, .rc, 0⟩]⟩,
  ⟨"SCR_OWN", 0x100, 16, 4, [⟨0, 4, .ro, 8⟩, ⟨4, 4, .ro, 0⟩, ⟨8, 1, .ro, 0⟩, ⟨12, 4, .wo, 0⟩, ⟨16, 1, .wo, 0⟩]⟩,
  ⟨"MTX_LOSS", 0x200, 9, 4, [⟨0, 32, .rc, 0⟩]⟩,
  ⟨"MTX_HOLD", 0x240, 9, 4, [⟨0, 32, .rc, 0⟩]⟩,
  ⟨"MTX_WAIT", 0x280, 9, 4, [⟨0, 32, .rc, 0⟩]⟩]

def pwrRegs : List RegRow := [
  ⟨"PWR_CTRL", 0x0, 1, 4, [⟨0, 4, .rwl, 0⟩, ⟨4, 2, .rwl, 0⟩, ⟨31, 1, .w1s, 0⟩]⟩,
  ⟨"PWR_VCORE", 0x4, 1, 4, [⟨0, 10, .ro, 800⟩, ⟨16, 10, .ro, 0⟩]⟩,
  ⟨"PWR_EST", 0x8, 1, 4, [⟨0, 16, .ro, 0⟩, ⟨16, 16, .ro, 0⟩]⟩,
  ⟨"PWR_TEMP", 0xC, 1, 4, [⟨0, 8, .ro, 0⟩, ⟨8, 8, .ro, 128⟩]⟩,
  ⟨"PWR_BUDGET", 0x10, 1, 4, [⟨0, 16, .ro, 0⟩, ⟨16, 8, .ro, 105⟩]⟩,
  ⟨"BG_CTRL", 0x14, 1, 4, [⟨0, 1, .rw, 1⟩, ⟨1, 1, .rw, 1⟩, ⟨8, 8, .rw, 10⟩, ⟨16, 16, .rw, 64⟩]⟩,
  ⟨"BG_STATUS", 0x18, 1, 4, [⟨0, 7, .ro, 0⟩, ⟨8, 7, .ro, 0⟩, ⟨16, 1, .ro, 0⟩, ⟨17, 1, .ro, 0⟩, ⟨18, 1, .ro, 0⟩]⟩,
  ⟨"SCRUB_PASSES", 0x1C, 1, 4, [⟨0, 32, .ro, 0⟩]⟩,
  ⟨"SCRUB_CE_CNT", 0x20, 1, 4, [⟨0, 32, .rc, 0⟩]⟩,
  ⟨"SPOT_MISS_CNT", 0x24, 1, 4, [⟨0, 32, .rc, 0⟩]⟩,
  ⟨"PWR_INT", 0x30, 1, 4, [⟨0, 1, .w1c, 0⟩, ⟨1, 1, .w1c, 0⟩, ⟨2, 1, .w1c, 0⟩, ⟨3, 1, .w1c, 0⟩, ⟨4, 1, .w1c, 0⟩, ⟨5, 1, .w1c, 0⟩, ⟨6, 1, .w1c, 0⟩]⟩,
  ⟨"PWR_INT_EN", 0x34, 1, 4, [⟨0, 1, .rw, 0⟩, ⟨1, 1, .rw, 0⟩, ⟨2, 1, .rw, 0⟩, ⟨3, 1, .rw, 0⟩, ⟨4, 1, .rw, 0⟩, ⟨5, 1, .rw, 0⟩, ⟨6, 1, .rw, 0⟩]⟩]

def tallyRegs : List RegRow := [
  ⟨"TALLY_CTRL", 0x0, 1, 4, [⟨0, 1, .rwl, 0⟩, ⟨31, 1, .w1s, 0⟩]⟩,
  ⟨"TALLY_DUMP_CFG", 0x4, 1, 4, [⟨0, 1, .ro, 0⟩, ⟨1, 4, .ro, 2⟩, ⟨16, 16, .ro, 8000⟩]⟩,
  ⟨"TALLY_BASE_LO", 0x8, 1, 4, [⟨0, 32, .ro, 0⟩]⟩,
  ⟨"TALLY_BASE_HI", 0xC, 1, 4, [⟨0, 32, .ro, 0⟩]⟩,
  ⟨"TALLY_DUMP_PI", 0x10, 1, 4, [⟨0, 16, .ro, 0⟩]⟩,
  ⟨"TALLY_DUMP_CI", 0x14, 1, 4, [⟨0, 16, .rw, 0⟩]⟩,
  ⟨"TALLY_DUMP_DROP", 0x18, 1, 4, [⟨0, 32, .rc, 0⟩]⟩,
  ⟨"TALLY_INT", 0x20, 1, 4, [⟨0, 1, .w1c, 0⟩, ⟨1, 1, .w1c, 0⟩, ⟨2, 1, .w1c, 0⟩, ⟨3, 1, .w1c, 0⟩, ⟨4, 1, .w1c, 0⟩]⟩,
  ⟨"TALLY_INT_EN", 0x24, 1, 4, [⟨0, 1, .rw, 0⟩, ⟨1, 1, .rw, 0⟩, ⟨2, 1, .rw, 0⟩, ⟨3, 1, .rw, 0⟩, ⟨4, 1, .rw, 0⟩]⟩,
  ⟨"TALLY_ACCT", 0x40, 4, 4, [⟨0, 32, .ro, 0⟩]⟩,
  ⟨"TALLY_ACCT_FN", 0x50, 1, 4, [⟨0, 16, .ro, 0⟩]⟩,
  ⟨"TALLY_EVT", 0x100, 64, 8, [⟨0, 8, .ro, 0⟩, ⟨8, 11, .ro, 0⟩, ⟨19, 2, .ro, 0⟩, ⟨21, 1, .ro, 0⟩, ⟨22, 1, .ro, 0⟩]⟩,
  ⟨"TALLY_THR", 0x104, 64, 8, [⟨0, 16, .ro, 0⟩, ⟨16, 16, .ro, 0⟩]⟩,
  ⟨"TALLY_CNT", 0x400, 64, 4, [⟨0, 32, .ro, 0⟩]⟩,
  ⟨"TALLY_CNT_ST", 0x500, 64, 4, [⟨0, 4, .ro, 0⟩, ⟨4, 1, .ro, 0⟩]⟩]

def tmgRegs : List RegRow := [
  ⟨"TMG_CTRL", 0x0, 1, 4, [⟨0, 1, .ro, 0⟩, ⟨1, 1, .ro, 0⟩, ⟨2, 3, .ro, 2⟩, ⟨5, 4, .ro, 11⟩]⟩,
  ⟨"TMG_TIMERS", 0x4, 1, 4, [⟨0, 7, .ro, 5⟩, ⟨7, 7, .ro, 10⟩, ⟨14, 12, .ro, 300⟩]⟩,
  ⟨"TMG_DRIFT", 0x8, 1, 4, [⟨0, 10, .ro, 50⟩, ⟨10, 6, .ro, 16⟩, ⟨16, 9, .ro, 92⟩]⟩,
  ⟨"TMG_STATE", 0x10, 1, 4, [⟨0, 3, .ro, 0⟩, ⟨3, 1, .ro, 0⟩, ⟨4, 4, .ro, 0⟩, ⟨8, 1, .ro, 0⟩, ⟨9, 4, .ro, 0⟩, ⟨13, 1, .ro, 0⟩, ⟨14, 4, .ro, 11⟩, ⟨18, 1, .ro, 0⟩]⟩,
  ⟨"TMG_HIST", 0x14, 1, 4, [⟨0, 31, .ro, 0⟩, ⟨31, 1, .ro, 0⟩]⟩,
  ⟨"TMG_OUTFREQ", 0x18, 1, 4, [⟨0, 31, .ro, 0⟩, ⟨31, 1, .ro, 1⟩]⟩,
  ⟨"TMG_PHASE", 0x1C, 1, 4, [⟨0, 32, .ro, 0⟩]⟩,
  ⟨"TMG_OUT_CFG", 0x20, 1, 4, [⟨0, 4, .ro, 0⟩, ⟨4, 4, .ro, 0⟩, ⟨8, 2, .ro, 1⟩, ⟨10, 2, .ro, 1⟩, ⟨12, 2, .ro, 0⟩]⟩,
  ⟨"TMG_ALIGN", 0x24, 1, 4, [⟨0, 17, .ro, 0⟩, ⟨17, 4, .ro, 15⟩]⟩,
  ⟨"TMG_INT", 0x30, 1, 4, [⟨0, 1, .w1c, 0⟩, ⟨1, 1, .w1c, 0⟩, ⟨2, 1, .w1c, 0⟩, ⟨3, 1, .w1c, 0⟩, ⟨4, 1, .w1c, 0⟩, ⟨5, 1, .w1c, 0⟩, ⟨6, 1, .w1c, 0⟩]⟩,
  ⟨"TMG_INT_EN", 0x34, 1, 4, [⟨0, 1, .rw, 0⟩, ⟨1, 1, .rw, 0⟩, ⟨2, 1, .rw, 0⟩, ⟨3, 1, .rw, 0⟩, ⟨4, 1, .rw, 0⟩, ⟨5, 1, .rw, 0⟩, ⟨6, 1, .rw, 0⟩]⟩,
  ⟨"TMG_REF", 0x100, 16, 4, [⟨0, 2, .ro, 0⟩, ⟨2, 6, .ro, 0⟩, ⟨8, 3, .ro, 0⟩, ⟨11, 4, .ro, 0⟩, ⟨15, 1, .ro, 0⟩, ⟨16, 1, .ro, 0⟩, ⟨17, 4, .ro, 15⟩]⟩,
  ⟨"TMG_REF_STAT", 0x140, 16, 4, [⟨0, 1, .ro, 0⟩, ⟨1, 1, .ro, 0⟩, ⟨2, 1, .ro, 0⟩, ⟨3, 1, .ro, 0⟩, ⟨4, 1, .ro, 0⟩, ⟨5, 1, .ro, 0⟩, ⟨6, 4, .ro, 15⟩, ⟨10, 3, .ro, 0⟩, ⟨16, 12, .ro, 0⟩]⟩,
  ⟨"TMG_REF_FREQ", 0x180, 16, 4, [⟨0, 32, .ro, 0⟩]⟩,
  ⟨"TMG_REF_DEV", 0x1C0, 16, 4, [⟨0, 32, .ro, 0⟩]⟩]

def pairRegs : List RegRow := [
  ⟨"PAIR_CFG", 0x0, 1, 4, [⟨0, 2, .ro, 1⟩, ⟨2, 1, .ro, 0⟩, ⟨3, 8, .ro, 20⟩, ⟨11, 10, .ro, 24⟩]⟩,
  ⟨"PAIR_STAT", 0x4, 1, 4, [⟨0, 1, .ro, 0⟩, ⟨1, 1, .ro, 0⟩, ⟨2, 1, .ro, 0⟩, ⟨3, 1, .ro, 0⟩, ⟨4, 1, .ro, 0⟩, ⟨5, 1, .ro, 0⟩, ⟨6, 1, .ro, 0⟩, ⟨7, 1, .ro, 0⟩, ⟨8, 1, .ro, 0⟩, ⟨9, 1, .ro, 0⟩, ⟨10, 1, .ro, 0⟩, ⟨16, 8, .ro, 0⟩]⟩,
  ⟨"PAIR_LEASE", 0x8, 1, 4, [⟨0, 16, .ro, 0⟩, ⟨16, 1, .ro, 0⟩]⟩,
  ⟨"PAIR_HO", 0xC, 1, 4, [⟨0, 16, .ro, 0⟩, ⟨16, 1, .ro, 0⟩]⟩,
  ⟨"PAIR_DRILL", 0x10, 1, 4, [⟨0, 16, .ro, 0⟩]⟩,
  ⟨"PAIR_DIS_CNT", 0x14, 1, 4, [⟨0, 32, .rc, 0⟩]⟩,
  ⟨"PAIR_MIR_LATE", 0x18, 1, 4, [⟨0, 32, .rc, 0⟩]⟩,
  ⟨"PAIR_WR_DROP", 0x1C, 1, 4, [⟨0, 32, .rc, 0⟩]⟩,
  ⟨"PAIR_DIS_LAST", 0x20, 1, 4, [⟨0, 20, .ro, 0⟩, ⟨20, 1, .ro, 0⟩, ⟨31, 1, .w1c, 0⟩]⟩,
  ⟨"PAIR_SEQ", 0x24, 1, 4, [⟨0, 32, .ro, 0⟩]⟩,
  ⟨"PAIR_SYNC_FN", 0x28, 1, 4, [⟨0, 16, .ro, 0⟩, ⟨16, 1, .ro, 0⟩]⟩,
  ⟨"PAIR_ARB_CNT", 0x2C, 1, 4, [⟨0, 16, .rc, 0⟩, ⟨16, 16, .rc, 0⟩]⟩,
  ⟨"PAIR_INT", 0x30, 1, 4, [⟨0, 1, .w1c, 0⟩, ⟨1, 1, .w1c, 0⟩, ⟨2, 1, .w1c, 0⟩, ⟨3, 1, .w1c, 0⟩, ⟨4, 1, .w1c, 0⟩, ⟨5, 1, .w1c, 0⟩, ⟨6, 1, .w1c, 0⟩, ⟨7, 1, .w1c, 0⟩, ⟨8, 1, .w1c, 0⟩, ⟨9, 1, .w1c, 0⟩]⟩,
  ⟨"PAIR_INT_EN", 0x34, 1, 4, [⟨0, 1, .rw, 0⟩, ⟨1, 1, .rw, 0⟩, ⟨2, 1, .rw, 0⟩, ⟨3, 1, .rw, 0⟩, ⟨4, 1, .rw, 0⟩, ⟨5, 1, .rw, 0⟩, ⟨6, 1, .rw, 0⟩, ⟨7, 1, .rw, 0⟩, ⟨8, 1, .rw, 0⟩, ⟨9, 1, .rw, 0⟩]⟩]

def mapRegs : List RegRow := [
  ⟨"MAP_CTRL", 0x0, 1, 4, [⟨0, 1, .rwl, 0⟩, ⟨31, 1, .w1s, 0⟩]⟩,
  ⟨"MAP_STATUS", 0x4, 1, 4, [⟨0, 1, .ro, 0⟩, ⟨1, 1, .ro, 0⟩, ⟨2, 3, .ro, 0⟩]⟩,
  ⟨"MAP_FN", 0x8, 1, 4, [⟨0, 16, .ro, 0⟩, ⟨16, 16, .ro, 0⟩]⟩,
  ⟨"MAP_COMMIT_CNT", 0xC, 1, 4, [⟨0, 32, .ro, 0⟩]⟩,
  ⟨"MAP_HERD_CFG", 0x10, 1, 4, [⟨0, 16, .rwl, 1024⟩]⟩,
  ⟨"MAP_HERD_USE", 0x14, 1, 4, [⟨0, 22, .ro, 0⟩]⟩,
  ⟨"MAP_BANK_PEAK", 0x18, 1, 4, [⟨0, 16, .ro, 0⟩, ⟨16, 11, .ro, 0⟩]⟩,
  ⟨"MAP_DIRTY", 0x1C, 1, 4, [⟨0, 26, .ro, 0⟩]⟩,
  ⟨"MAP_WR_DROP", 0x20, 1, 4, [⟨0, 32, .rc, 0⟩]⟩,
  ⟨"MAP_CE_CNT", 0x24, 1, 4, [⟨0, 32, .rc, 0⟩]⟩,
  ⟨"MAP_UE_CNT", 0x28, 1, 4, [⟨0, 32, .rc, 0⟩]⟩,
  ⟨"MAP_UE_ADDR", 0x2C, 1, 4, [⟨0, 25, .ro, 0⟩, ⟨25, 1, .ro, 0⟩, ⟨26, 1, .ro, 0⟩, ⟨31, 1, .w1c, 0⟩]⟩,
  ⟨"MAP_INT", 0x30, 1, 4, [⟨0, 1, .w1c, 0⟩, ⟨1, 1, .w1c, 0⟩, ⟨2, 1, .w1c, 0⟩, ⟨3, 1, .w1c, 0⟩, ⟨4, 1, .w1c, 0⟩, ⟨5, 1, .w1c, 0⟩]⟩,
  ⟨"MAP_INT_EN", 0x34, 1, 4, [⟨0, 1, .rw, 0⟩, ⟨1, 1, .rw, 0⟩, ⟨2, 1, .rw, 0⟩, ⟨3, 1, .rw, 0⟩, ⟨4, 1, .rw, 0⟩, ⟨5, 1, .rw, 0⟩]⟩,
  ⟨"MAP_WIN_SEL", 0x40, 1, 4, [⟨0, 2, .rw, 0⟩]⟩]

def coreRegs0 : List RegRow := [
  ⟨"CORE_CTRL", 0x0, 1, 4, [⟨0, 5, .rwl, 16⟩, ⟨8, 1, .rwl, 1⟩, ⟨31, 1, .w1s, 0⟩]⟩,
  ⟨"CORE_STATUS", 0x4, 1, 4, [⟨0, 9, .ro, 256⟩, ⟨9, 1, .ro, 0⟩, ⟨10, 1, .ro, 0⟩, ⟨16, 7, .ro, 64⟩]⟩,
  ⟨"CANDLE_CFG", 0x10, 1, 4, [⟨0, 12, .rw, 150⟩, ⟨12, 8, .rw, 40⟩, ⟨20, 12, .rw, 60⟩]⟩,
  ⟨"CANDLE_LAST", 0x14, 1, 4, [⟨0, 12, .ro, 0⟩, ⟨12, 10, .ro, 0⟩, ⟨22, 1, .ro, 0⟩]⟩,
  ⟨"CANDLE_LAST_FN", 0x18, 1, 4, [⟨0, 16, .ro, 0⟩, ⟨16, 16, .ro, 0⟩]⟩,
  ⟨"CANDLE_WORST", 0x1C, 1, 4, [⟨0, 12, .ro, 4095⟩, ⟨12, 16, .ro, 0⟩, ⟨31, 1, .wo, 0⟩]⟩,
  ⟨"LATE_GRAIN_CNT", 0x20, 1, 4, [⟨0, 32, .rc, 0⟩]⟩,
  ⟨"LATE_SLOT_CNT", 0x24, 1, 4, [⟨0, 32, .rc, 0⟩]⟩,
  ⟨"LATE_FRAME_CNT", 0x28, 1, 4, [⟨0, 32, .rc, 0⟩]⟩,
  ⟨"DS_CE_CNT", 0x30, 1, 4, [⟨0, 32, .rc, 0⟩]⟩,
  ⟨"DS_UE_CNT", 0x34, 1, 4, [⟨0, 32, .rc, 0⟩]⟩,
  ⟨"DS_UE_ADDR", 0x38, 1, 4, [⟨0, 12, .ro, 0⟩, ⟨12, 11, .ro, 0⟩, ⟨23, 1, .ro, 0⟩, ⟨31, 1, .w1c, 0⟩]⟩,
  ⟨"BROT_CTRL", 0x40, 1, 4, [⟨0, 1, .rw, 1⟩, ⟨1, 16, .rw, 800⟩]⟩,
  ⟨"BROT_STATUS", 0x44, 1, 4, [⟨0, 12, .ro, 0⟩, ⟨12, 1, .ro, 0⟩, ⟨16, 16, .ro, 0⟩]⟩,
  ⟨"CORE_INT", 0x50, 1, 4, [⟨0, 1, .w1c, 0⟩, ⟨1, 1, .w1c, 0⟩, ⟨2, 1, .w1c, 0⟩, ⟨3, 1, .w1c, 0⟩, ⟨4, 1, .w1c, 0⟩, ⟨5, 1, .w1c, 0⟩, ⟨6, 1, .w1c, 0⟩, ⟨7, 1, .w1c, 0⟩]⟩,
  ⟨"CORE_INT_EN", 0x54, 1, 4, [⟨0, 1, .rw, 0⟩, ⟨1, 1, .rw, 0⟩, ⟨2, 1, .rw, 0⟩, ⟨3, 1, .rw, 0⟩, ⟨4, 1, .rw, 0⟩, ⟨5, 1, .rw, 0⟩, ⟨6, 1, .rw, 0⟩, ⟨7, 1, .rw, 0⟩]⟩,
  ⟨"BANK_MAP", 0x1000, 2048, 4, [⟨0, 12, .ro, 0⟩]⟩,
  ⟨"BANK_STATE", 0x3000, 2112, 4, [⟨0, 2, .ro, 0⟩, ⟨2, 11, .ro, 0⟩, ⟨16, 8, .ro, 0⟩]⟩,
  ⟨"FRAME_NUM", 0x7000, 1, 4, [⟨0, 16, .ro, 0⟩, ⟨16, 2, .ro, 0⟩]⟩,
  ⟨"GEN_CTRL", 0x7004, 1, 4, [⟨0, 1, .rw, 0⟩, ⟨1, 1, .wo, 0⟩]⟩]

def coreRegs1 : List RegRow := [
  ⟨"GEN_CONST", 0x8000, 3240, 4, [⟨0, 8, .rw, 255⟩, ⟨8, 8, .rw, 255⟩, ⟨16, 8, .rw, 255⟩, ⟨24, 8, .rw, 255⟩]⟩]

/-- The registers of block CORE. -/
def coreRegs : List RegRow := coreRegs0 ++ coreRegs1

def selRegs : List RegRow := [
  ⟨"SEL_USE", 0x0, 1, 4, [⟨0, 22, .ro, 0⟩]⟩,
  ⟨"MON_USE", 0x4, 1, 4, [⟨0, 22, .ro, 0⟩]⟩,
  ⟨"SEL_SW_CNT", 0x8, 1, 4, [⟨0, 32, .rc, 0⟩]⟩,
  ⟨"SEL_BURST", 0xC, 1, 4, [⟨0, 21, .ro, 0⟩]⟩,
  ⟨"SEL_BURST_T", 0x10, 1, 4, [⟨0, 20, .ro, 0⟩]⟩,
  ⟨"SEL_UE_CNT", 0x14, 1, 4, [⟨0, 32, .rc, 0⟩]⟩,
  ⟨"SEL_UE_IDX", 0x18, 1, 4, [⟨0, 21, .ro, 0⟩, ⟨21, 1, .ro, 0⟩, ⟨31, 1, .w1c, 0⟩]⟩,
  ⟨"SEL_INT", 0x20, 1, 4, [⟨0, 1, .w1c, 0⟩, ⟨1, 1, .w1c, 0⟩, ⟨2, 1, .w1c, 0⟩, ⟨3, 1, .w1c, 0⟩, ⟨4, 1, .w1c, 0⟩]⟩,
  ⟨"SEL_INT_EN", 0x24, 1, 4, [⟨0, 1, .rw, 0⟩, ⟨1, 1, .rw, 0⟩, ⟨2, 1, .rw, 0⟩, ⟨3, 1, .rw, 0⟩, ⟨4, 1, .rw, 0⟩]⟩,
  ⟨"LINE_GRP", 0x100, 48, 4, [⟨0, 6, .ro, 0⟩, ⟨6, 2, .ro, 0⟩, ⟨8, 1, .ro, 0⟩, ⟨9, 1, .rw, 0⟩, ⟨10, 1, .rw, 0⟩, ⟨11, 7, .ro, 0⟩, ⟨18, 10, .ro, 0⟩]⟩,
  ⟨"LINE_STATE", 0x200, 48, 4, [⟨0, 4, .ro, 0⟩, ⟨4, 3, .ro, 0⟩, ⟨7, 17, .ro, 0⟩, ⟨24, 2, .ro, 0⟩, ⟨26, 4, .ro, 0⟩]⟩,
  ⟨"APS_TX", 0x300, 48, 4, [⟨0, 8, .rw, 0⟩, ⟨8, 8, .rw, 0⟩]⟩,
  ⟨"APS_RX", 0x400, 48, 4, [⟨0, 8, .ro, 0⟩, ⟨8, 8, .ro, 0⟩]⟩]

def semRegs : List RegRow := [
  ⟨"SEM_ACQ", 0x0, 32, 4, [⟨0, 1, .ro, 0⟩, ⟨1, 1, .ro, 0⟩, ⟨4, 4, .ro, 0⟩]⟩,
  ⟨"SEM_PEEK", 0x100, 32, 4, [⟨0, 1, .ro, 0⟩, ⟨1, 1, .ro, 0⟩, ⟨4, 4, .ro, 0⟩]⟩,
  ⟨"SEM_STAT", 0x200, 1, 4, [⟨0, 32, .ro, 0⟩]⟩,
  ⟨"SEM_RECL", 0x204, 1, 4, [⟨0, 32, .w1c, 0⟩]⟩,
  ⟨"SEM_BAD_REL", 0x208, 1, 4, [⟨0, 32, .rc, 0⟩]⟩]

def prtRegs0 : List RegRow := [
  ⟨"PRT_CFG", 0x0, 1, 4, [⟨0, 4, .ro, 0⟩, ⟨4, 1, .ro, 0⟩, ⟨5, 1, .ro, 0⟩, ⟨6, 2, .ro, 0⟩, ⟨8, 4, .ro, 0⟩, ⟨12, 4, .ro, 0⟩, ⟨31, 1, .w1s, 0⟩]⟩,
  ⟨"PRT_STATUS", 0x4, 1, 4, [⟨0, 2, .ro, 3⟩, ⟨2, 4, .ro, 0⟩, ⟨6, 1, .ro, 0⟩, ⟨7, 1, .ro, 0⟩, ⟨8, 1, .ro, 0⟩, ⟨9, 1, .ro, 0⟩, ⟨10, 3, .ro, 0⟩]⟩,
  ⟨"PRT_IDLE", 0x8, 1, 4, [⟨0, 8, .rw, 255⟩]⟩,
  ⟨"PRT_BUDGET", 0xC, 1, 4, [⟨0, 16, .ro, 0⟩, ⟨16, 16, .ro, 0⟩]⟩,
  ⟨"PRT_SRC_REFS", 0x10, 1, 4, [⟨0, 26, .ro, 0⟩]⟩,
  ⟨"PRT_SLIP_REP", 0x14, 1, 4, [⟨0, 32, .rc, 0⟩]⟩,
  ⟨"PRT_SLIP_DEL", 0x18, 1, 4, [⟨0, 32, .rc, 0⟩]⟩,
  ⟨"PRT_TXEQ", 0x20, 4, 4, [⟨0, 6, .rwl, 0⟩, ⟨6, 7, .rwl, 64⟩, ⟨13, 6, .rwl, 0⟩]⟩,
  ⟨"PRT_INT", 0x40, 1, 4, [⟨0, 1, .w1c, 0⟩, ⟨1, 1, .w1c, 0⟩, ⟨2, 1, .w1c, 0⟩, ⟨3, 1, .w1c, 0⟩, ⟨4, 1, .w1c, 0⟩, ⟨5, 1, .w1c, 0⟩, ⟨6, 1, .w1c, 0⟩]⟩,
  ⟨"PRT_INT_EN", 0x44, 1, 4, [⟨0, 1, .rw, 0⟩, ⟨1, 1, .rw, 0⟩, ⟨2, 1, .rw, 0⟩, ⟨3, 1, .rw, 0⟩, ⟨4, 1, .rw, 0⟩, ⟨5, 1, .rw, 0⟩, ⟨6, 1, .rw, 0⟩]⟩,
  ⟨"PRT_FRM", 0x100, 1, 4, [⟨0, 1, .ro, 0⟩, ⟨1, 4, .ro, 0⟩, ⟨5, 4, .ro, 0⟩]⟩,
  ⟨"PRT_FRM_CNT", 0x104, 1, 4, [⟨0, 16, .rc, 0⟩, ⟨16, 16, .rc, 0⟩]⟩,
  ⟨"PRT_OH_CFG", 0x108, 1, 4, [⟨0, 2, .rw, 0⟩, ⟨2, 2, .rw, 0⟩, ⟨4, 8, .rw, 1⟩, ⟨12, 1, .rw, 0⟩, ⟨13, 1, .rw, 1⟩, ⟨14, 1, .rw, 1⟩]⟩,
  ⟨"PRT_DEF", 0x10C, 1, 4, [⟨0, 1, .ro, 0⟩, ⟨1, 1, .ro, 1⟩, ⟨2, 1, .ro, 0⟩, ⟨3, 1, .ro, 0⟩, ⟨4, 1, .ro, 0⟩, ⟨5, 1, .ro, 0⟩, ⟨6, 1, .ro, 0⟩, ⟨7, 1, .ro, 0⟩, ⟨8, 1, .ro, 0⟩, ⟨9, 1, .ro, 0⟩, ⟨10, 1, .ro, 0⟩, ⟨11, 1, .ro, 0⟩, ⟨12, 1, .ro, 0⟩, ⟨13, 1, .ro, 0⟩, ⟨14, 1, .ro, 0⟩, ⟨15, 1, .ro, 0⟩, ⟨16, 1, .ro, 0⟩]⟩,
  ⟨"PRT_DEF_INT", 0x110, 1, 4, [⟨0, 1, .w1c, 0⟩, ⟨1, 1, .w1c, 0⟩, ⟨2, 1, .w1c, 0⟩, ⟨3, 1, .w1c, 0⟩, ⟨4, 1, .w1c, 0⟩, ⟨5, 1, .w1c, 0⟩, ⟨6, 1, .w1c, 0⟩, ⟨7, 1, .w1c, 0⟩, ⟨8, 1, .w1c, 0⟩, ⟨9, 1, .w1c, 0⟩, ⟨10, 1, .w1c, 0⟩, ⟨11, 1, .w1c, 0⟩, ⟨12, 1, .w1c, 0⟩, ⟨13, 1, .w1c, 0⟩, ⟨14, 1, .w1c, 0⟩, ⟨15, 1, .w1c, 0⟩, ⟨16, 1, .w1c, 0⟩]⟩,
  ⟨"PRT_DEF_EN", 0x114, 1, 4, [⟨0, 1, .rw, 0⟩, ⟨1, 1, .rw, 0⟩, ⟨2, 1, .rw, 0⟩, ⟨3, 1, .rw, 0⟩, ⟨4, 1, .rw, 0⟩, ⟨5, 1, .rw, 0⟩, ⟨6, 1, .rw, 0⟩, ⟨7, 1, .rw, 0⟩, ⟨8, 1, .rw, 0⟩, ⟨9, 1, .rw, 0⟩, ⟨10, 1, .rw, 0⟩, ⟨11, 1, .rw, 0⟩, ⟨12, 1, .rw, 0⟩, ⟨13, 1, .rw, 0⟩, ⟨14, 1, .rw, 0⟩, ⟨15, 1, .rw, 0⟩, ⟨16, 1, .rw, 0⟩]⟩,
  ⟨"PRT_CNT", 0x120, 8, 4, [⟨0, 32, .rc, 0⟩]⟩,
  ⟨"PRT_QL_RX", 0x140, 1, 4, [⟨0, 8, .ro, 0⟩, ⟨8, 1, .ro, 0⟩]⟩,
  ⟨"PRT_J0_RX", 0x144, 1, 4, [⟨0, 8, .ro, 0⟩]⟩,
  ⟨"PRT_BC_RX", 0x148, 1, 4, [⟨0, 16, .ro, 0⟩, ⟨16, 8, .ro, 0⟩, ⟨24, 1, .ro, 0⟩]⟩]

def prtRegs1 : List RegRow := [
  ⟨"PRT_OTN_RX", 0x14C, 1, 4, [⟨0, 8, .ro, 0⟩, ⟨8, 3, .ro, 0⟩]⟩,
  ⟨"PATH_IDX", 0x180, 1, 4, [⟨0, 10, .rw, 0⟩, ⟨10, 3, .rw, 0⟩, ⟨13, 2, .rw, 0⟩, ⟨15, 1, .rw, 0⟩]⟩,
  ⟨"PATH_DEF", 0x184, 1, 4, [⟨0, 7, .ro, 0⟩, ⟨8, 7, .w1c, 0⟩]⟩,
  ⟨"PATH_PTR", 0x188, 1, 4, [⟨0, 10, .ro, 0⟩, ⟨10, 2, .ro, 2⟩]⟩,
  ⟨"PATH_BIP", 0x18C, 1, 4, [⟨0, 32, .rc, 0⟩]⟩,
  ⟨"PATH_REI", 0x190, 1, 4, [⟨0, 32, .rc, 0⟩]⟩,
  ⟨"PATH_JUST", 0x194, 1, 4, [⟨0, 16, .rc, 0⟩, ⟨16, 16, .rc, 0⟩]⟩,
  ⟨"PRT_STRUCT", 0x400, 384, 4, [⟨0, 16, .ro, 0⟩, ⟨16, 16, .ro, 0⟩]⟩,
  ⟨"TTI_SEL", 0xA00, 64, 4, [⟨0, 10, .rw, 0⟩, ⟨10, 3, .rw, 0⟩, ⟨13, 2, .rw, 0⟩, ⟨16, 3, .rw, 0⟩, ⟨24, 1, .ro, 0⟩]⟩,
  ⟨"TTI_EXP", 0xB00, 64, 4, [⟨0, 32, .rw, 0⟩]⟩,
  ⟨"TTI_CAP", 0xC00, 256, 4, [⟨0, 32, .ro, 0⟩]⟩]

/-- The registers of block PRT. -/
def prtRegs : List RegRow := prtRegs0 ++ prtRegs1

def mdcRegs : List RegRow := [
  ⟨"MDC_CTRL", 0x0, 1, 4, [⟨0, 1, .rw, 0⟩, ⟨1, 2, .rw, 0⟩, ⟨8, 1, .rw, 0⟩, ⟨9, 2, .rw, 0⟩]⟩,
  ⟨"MDC_PTR_BASE_LO", 0x8, 1, 4, [⟨0, 32, .rw, 0⟩]⟩,
  ⟨"MDC_PTR_BASE_HI", 0xC, 1, 4, [⟨0, 32, .rw, 0⟩]⟩,
  ⟨"MDC_INT", 0x10, 1, 4, [⟨0, 1, .w1c, 0⟩, ⟨1, 1, .w1c, 0⟩, ⟨2, 1, .w1c, 0⟩]⟩,
  ⟨"MDC_INT_EN", 0x14, 1, 4, [⟨0, 1, .rw, 0⟩, ⟨1, 1, .rw, 0⟩, ⟨2, 1, .rw, 0⟩]⟩,
  ⟨"MDC_RD", 0x1000, 256, 4, [⟨0, 32, .rw, 0⟩]⟩,
  ⟨"MDC_WR", 0x1400, 256, 4, [⟨0, 32, .rw, 0⟩]⟩]

def bootRegs : List RegRow := [
  ⟨"BOOT_STATUS", 0x0, 1, 4, [⟨0, 4, .ro, 0⟩, ⟨4, 3, .ro, 0⟩, ⟨7, 1, .ro, 0⟩, ⟨8, 1, .ro, 0⟩, ⟨9, 1, .ro, 0⟩, ⟨10, 1, .ro, 0⟩, ⟨16, 16, .ro, 0⟩]⟩,
  ⟨"BOOT_RESULT", 0x4, 1, 4, [⟨0, 2, .ro, 3⟩, ⟨2, 2, .ro, 3⟩, ⟨4, 2, .ro, 3⟩, ⟨6, 2, .ro, 3⟩, ⟨8, 2, .ro, 3⟩, ⟨10, 2, .ro, 3⟩, ⟨12, 2, .ro, 3⟩, ⟨14, 2, .ro, 3⟩, ⟨16, 2, .ro, 3⟩, ⟨18, 2, .ro, 3⟩, ⟨20, 2, .ro, 3⟩]⟩,
  ⟨"BOOT_LASTFAIL", 0x8, 1, 4, [⟨0, 4, .ro, 0⟩, ⟨4, 4, .ro, 0⟩, ⟨8, 1, .ro, 0⟩]⟩,
  ⟨"BOOT_FAILCNT0", 0xC, 1, 4, [⟨0, 4, .ro, 0⟩, ⟨4, 4, .ro, 0⟩, ⟨8, 4, .ro, 0⟩, ⟨12, 4, .ro, 0⟩, ⟨16, 4, .ro, 0⟩, ⟨20, 4, .ro, 0⟩, ⟨24, 4, .ro, 0⟩, ⟨28, 4, .ro, 0⟩]⟩,
  ⟨"BOOT_FAILCNT1", 0x10, 1, 4, [⟨0, 4, .ro, 0⟩, ⟨4, 4, .ro, 0⟩, ⟨8, 4, .ro, 0⟩]⟩,
  ⟨"BOOT_IMG", 0x14, 1, 4, [⟨0, 4, .ro, 0⟩, ⟨4, 4, .ro, 0⟩, ⟨8, 1, .ro, 0⟩]⟩,
  ⟨"BOOT_VER_A", 0x18, 1, 4, [⟨0, 32, .ro, 0⟩]⟩,
  ⟨"BOOT_VER_B", 0x1C, 1, 4, [⟨0, 32, .ro, 0⟩]⟩,
  ⟨"BOOT_STAGE", 0x20, 1, 4, [⟨0, 1, .ro, 0⟩, ⟨1, 2, .ro, 0⟩, ⟨3, 1, .ro, 0⟩, ⟨4, 1, .ro, 0⟩, ⟨5, 1, .ro, 0⟩, ⟨8, 19, .ro, 0⟩]⟩,
  ⟨"BOOT_TRIAL", 0x24, 1, 4, [⟨0, 12, .ro, 0⟩]⟩,
  ⟨"BOOT_SET", 0x28, 1, 4, [⟨0, 16, .ro, 0⟩, ⟨16, 3, .ro, 0⟩, ⟨19, 1, .ro, 0⟩, ⟨20, 1, .ro, 0⟩, ⟨21, 3, .ro, 0⟩]⟩,
  ⟨"BOOT_SET_GEN", 0x2C, 1, 4, [⟨0, 32, .ro, 0⟩]⟩,
  ⟨"BOOT_VEC", 0x40, 1, 4, [⟨0, 32, .ro, 268435456⟩]⟩,
  ⟨"BOOT_INT", 0x50, 1, 4, [⟨0, 1, .rc, 0⟩, ⟨1, 1, .rc, 0⟩, ⟨2, 1, .rc, 0⟩, ⟨3, 1, .rc, 0⟩, ⟨4, 1, .rc, 0⟩, ⟨5, 1, .rc, 0⟩, ⟨6, 1, .rc, 0⟩]⟩,
  ⟨"BOOT_INT_EN", 0x54, 1, 4, [⟨0, 1, .ro, 1⟩, ⟨1, 1, .ro, 1⟩, ⟨2, 1, .ro, 1⟩, ⟨3, 1, .ro, 1⟩, ⟨4, 1, .ro, 1⟩, ⟨5, 1, .ro, 1⟩, ⟨6, 1, .ro, 1⟩]⟩]

def fuseRegs : List RegRow := [
  ⟨"FUSE_CFG", 0x0, 1, 4, [⟨0, 1, .ro, 0⟩, ⟨1, 1, .ro, 0⟩]⟩,
  ⟨"FUSE_SVN", 0x4, 1, 4, [⟨0, 6, .ro, 0⟩]⟩,
  ⟨"FUSE_KEYHASH", 0x10, 12, 4, [⟨0, 32, .ro, 0⟩]⟩,
  ⟨"FUSE_ID", 0x40, 2, 4, [⟨0, 32, .ro, 0⟩]⟩]


/-- The register blocks: base, size, table (spec/01, table of blocks; spec/11, the address map). -/
def blocks : List (Nat × Nat × List RegRow) := [
  (0x40000000, 0x10000, sysRegs), (0x40010000, 0x10000, mbxRegs), (0x40020000, 0x10000, mtxRegs),
  (0x40030000, 0x10000, pwrRegs), (0x40040000, 0x10000, tallyRegs), (0x40050000, 0x10000, tmgRegs),
  (0x40060000, 0x10000, pairRegs), (0x40070000, 0x10000, mapRegs)] ++ [
  (0x40080000, 0x10000, coreRegs), (0x40090000, 0x10000, selRegs), (0x400A0000, 0x10000, semRegs),
  (0x40100000, 0x30000, prtRegs), (0x40200000, 0x10000, mdcRegs), (0x40210000, 0x10000, bootRegs),
  (0x40220000, 0x10000, fuseRegs)]

/-- The row of a table that holds an offset. -/
def rowAt (rows : List RegRow) (off : Nat) : Option RegRow :=
  rows.find? fun r => decide (r.off ≤ off) && decide (off < r.off + r.count * r.stride) && ((off - r.off) % r.stride == 0)

/-- The register row at an address, with its block base; the copies of a path-banked register share one row. -/
def find (a : Nat) : Option (Nat × RegRow) :=
  let a := a % 0x100000000
  match blocks.find? fun b => decide (b.1 ≤ a) && decide (a < b.1 + b.2.1) with
  | none => none
  | some (base, _, rows) =>
    let base := if base = 0x40100000 then base + (a - base) / 0x1000 * 0x1000 else base
    (rowAt rows (a - base)).map fun r => (base, r)

/-- The reset word of a register's fields. -/
def rowReset (fs : List FieldRow) : W32 :=
  fs.foldl (fun x f => x ||| (BitVec.ofNat 32 f.rst <<< f.lo)) 0

/-- The reset value of the register at an address; an address without a register reads zero.
BANK_MAP and BANK_STATE depend on the bank (spec/04, their tables): 64 banks of each group of 66 are in service. -/
def reset (a : Nat) : W32 :=
  if 0x40081000 ≤ a ∧ a < 0x40083000 then
    let b := (a - 0x40081000) / 4
    BitVec.ofNat 32 (b / 64 * 66 + b % 64)
  else if 0x40083000 ≤ a ∧ a < 0x40085100 then
    let x := (a - 0x40083000) / 4
    if 64 ≤ x % 66 then 1 else BitVec.ofNat 32 ((x / 66 * 64 + x % 66) * 4)
  else if 0x40220010 ≤ a ∧ a < 0x40220040 ∧ a % 4 = 0 then Config.fuseWord ((a - 0x40220010) / 4)
  else if a = 0x40220040 ∨ a = 0x40220044 then Config.fuseWord (12 + (a - 0x40220040) / 4)
  else match find a with
    | none => 0
    | some (_, r) => rowReset r.fields

end RegTable
end Sys2Proof.Machine
end

