-- ==== Sys2Proof/Machine/Store.lean ====
section
/-! DEFINITION. Machine/Store.lean: sparse storage in one canonical form.
A store is a list of (key, value) pairs with strictly rising keys and no pair equal to what an unlisted key reads as,
so equal contents are equal data. -/
namespace Sys2Proof.Machine

namespace Store

variable {α : Type}

/-- What key `a` reads as; `d` says what an unlisted key reads as. -/
def get (d : Nat → α) : List (Nat × α) → Nat → α
  | [], a => d a
  | (k, v) :: m, a => if k = a then v else get d m a

/-- The store without key `a`. -/
def erase (m : List (Nat × α)) (a : Nat) : List (Nat × α) := m.filter fun e => e.1 != a

/-- `v` at key `a`, in key order. -/
def insert : List (Nat × α) → Nat → α → List (Nat × α)
  | [], a, v => [(a, v)]
  | (k, x) :: m, a, v =>
    if k < a then (k, x) :: insert m a v
    else if k = a then (a, v) :: m
    else (a, v) :: (k, x) :: m

/-- Write `v` at key `a`; a value equal to what an unlisted key reads as is not listed. -/
def put [DecidableEq α] (d : Nat → α) (m : List (Nat × α)) (a : Nat) (v : α) : List (Nat × α) :=
  if v = d a then erase m a else insert m a v

/-- Write a list of values at keys `a`, `a + 1`, … -/
def putAll [DecidableEq α] (d : Nat → α) (m : List (Nat × α)) (a : Nat) : List α → List (Nat × α)
  | [] => m
  | v :: vs => putAll d (put d m a v) (a + 1) vs

/-- `n` values from key `a`. -/
def getAll (d : Nat → α) (m : List (Nat × α)) (a : Nat) : Nat → List α
  | 0 => []
  | n + 1 => get d m a :: getAll d m (a + 1) n

/-- The canonical form: strictly rising keys, no default listed. -/
def wf [DecidableEq α] (d : Nat → α) : List (Nat × α) → Bool
  | [] => true
  | [(a, v)] => decide (v ≠ d a)
  | (a, v) :: (b, w) :: m => decide (v ≠ d a) && decide (a < b) && wf d ((b, w) :: m)

end Store
end Sys2Proof.Machine
end

