-- ==== Sys2Proof/Machine/State.lean ====
section
/-! DEFINITION. Machine/State.lean: everything the spec gives the device, as plain data.
Registers stand in one sparse store keyed by address (an unlisted register holds its reset value); what the spec gives
the device outside its registers stands in one structure per block. -/
namespace Sys2Proof.Machine

/-- Why a step stops with a fault. No meaning of this block raises one today: the manual reports every error in
registers and replies. -/
inductive Fault where
  /-- No command raises it; it stands for a stop of the whole device, which the manual never describes. Safe. -/
  | stopped
  deriving DecidableEq, Repr

/-- Why a step is refused. -/
inductive Refusal where
  /-- Raised by Dispatch for a command that has no meaning yet. Safe: nothing follows from a refused step. -/
  | notModelled (mnemonic : String)
  deriving DecidableEq, Repr

/-- Where a taken command stands (R260, R271): taken and not started; started without a reply yet; answered ACCEPTED. -/
inductive Phase where
  | waiting | working | accepted
  deriving DecidableEq, Repr

/-- The status codes of R281. -/
inductive Status where
  | ok | accepted | badOpcode | badParam | noResource | busy | busyOtherSource | notLampHolder | staleMirror | timeout
  | resetDiscarded | mapBankBudget | mapEcc | commitTooLate | settingsUnreadable | fwReverted | authFail
  | trialPending | selftestRefused
  deriving DecidableEq, Repr

/-- A command taken and without its final reply: source, the 16 descriptor words (R254), the host epoch at the taking
(R276), where it stands, whether its replies are discarded because its ring was disabled (R264), the outcome that waits for the
restarted firmware (R275), whether a firmware reset discarded it, and whether it was taken before one (R275). -/
structure Taken where
  src : Src
  d : List W32
  epoch : W32
  phase : Phase
  drop : Bool
  done : Option (Status × List W32)
  lost : Bool
  old : Bool
  deriving DecidableEq, Repr

/-- What the device sends over PCIe: a memory write, an MSI-X message by its vector (R269), and the error message for a posted write
that is an Unsupported Request (R296). -/
inductive Out where
  | pcie (addr : W64) (data : List W8)
  | msix (vector : Nat)
  | errMsg
  deriving DecidableEq, Repr

/-- A ring's state outside its registers: the producer index of the last accepted notice (R262), the TAG of the last
notice taken (R274), the first reply index the host has not been notified of (R267), whether a descriptor read failed
(R262), the replies that a stalled ring still needs (R263), and whether a stale range up to STALE_PI is left (R274). -/
structure Ring where
  prod : W16
  lastTag : W32
  ntf : W16
  stop : Bool
  need : Nat
  stale : Bool
  deriving DecidableEq, Repr

/-- The MBX block outside its registers: staged words of the atomic groups by master and address (R295), the taken
commands in the order taken, the rings, post ticks of the notices of both directions and the tick at which TMO_HOLD
stopped their time (R268), the summary sequence number, the interrupts it last saw raised and whether one has newly become raised in
this frame (R270), the source served next (R272), the SPI slot, overrun flag, reply FIFO and reply index (R273), what the host has set in
the PCIe configuration space, the pending bits of the MSI-X vectors (R269), and whether the PCIe error status records an Unsupported
Request (R296). -/
structure Mbx where
  staged : List (Nat × Option W32)
  taken : List Taken
  ring0 : Ring
  ring1 : Ring
  hPost : List (Nat × Option Nat)
  dPost : List (Nat × Option Nat)
  holdAt : Nat
  evtSeq : W16
  evtPrev : List (Nat × W32)
  evtNew : Bool
  turn : Nat
  spiSlot : Option (List W32)
  spiOver : Bool
  spiFifo : List (List W32)
  spiPi : W16
  cfg : PcieCfg
  msixPend : W32
  urSeen : Bool
  deriving DecidableEq, Repr

/-- The matrix outside its registers: the scratchpad bytes, the 64-bit words of it whose check bits show an error, true for an
uncorrectable one (R298), the banks being handed over and their new owners (R300), the holders of the semaphores (R302), the last word
read, the bytes that the last bus, SPI or I2C read returned, and whether the last access of the bus got an error: a bus error at a core,
Unsupported Request status at the host (R296). -/
structure Mtx where
  scr : List Host.Cell
  damage : List (Nat × Option Bool)
  hand : List (Nat × Option Nat)
  sem : List (Nat × Option Nat)
  rdData : W32
  rdBytes : List W8
  err : Bool
  deriving DecidableEq, Repr

/-- A running check (R66, R74, R75): over every line entry or the dirty ones, whether a host write reached the page, and HERD_FAN as
it stood when the check began. -/
structure CheckRun where
  full : Bool
  stale : Bool
  fan : Nat
  deriving DecidableEq, Repr

/-- A commit in flight (R75 to R80): its target if it is named already, and whether the page still has to pass its
check. -/
structure CommitRun where
  target : W16
  named : Bool
  unchecked : Bool
  deriving DecidableEq, Repr

/-- Copy-forward in progress (R79): the entries that the swap left different in the new shadow page (dirty ones, and those whose
SRC the checker changed), the swap frame and the number of entries changed. -/
structure CopyRun where
  slots : List (Nat × Bool)
  fn : W16
  changed : Nat
  deriving DecidableEq, Repr

/-- The MAP block outside its registers: the two physical pages as stored (R53, R55), the dirty entries of the shadow
page (R63), those whose SRC the checker redirected (R71, R72), line entries whose SRC a check has changed since the last swap (R79),
the stored entries before the host writes since the last passed check (R72), the check, commit, copy-forward and snapshot in progress, the last CHECK_ID, and the peak load and
its bank of the checked shadow page (R107). -/
structure MapSt where
  page0 : List (Nat × W64)
  page1 : List (Nat × W64)
  dirty : List (Nat × Bool)
  redir : List (Nat × Bool)
  moved : List (Nat × Bool)
  before : List (Nat × Option W64)
  check : Option CheckRun
  commit : Option CommitRun
  copy : Option CopyRun
  snap : Bool
  checkId : W16
  peakLoad : Nat
  peakBank : Nat
  deriving DecidableEq, Repr

/-- The content of a region of a resynchronisation (R234, R241). -/
inductive Region where
  | page (shadow : Bool) (entries : List (Nat × W64))
  | sels (l : List (Nat × W128))
  | mons (l : List (Nat × W64))
  | words (region : Nat) (l : List (Nat × W32))
  deriving DecidableEq, Repr

/-- The body of a mate-link record (R234); `resyncAll` stands in the send queue for all RESYNC_DATA records of a region. -/
inductive MateBody where
  | heartbeat (body : W64)
  | stop (lastFrame : W16) (cause : BitVec 3)
  | handover (h : W16) (epoch : W8)
  | mapEntries (entries : List (Nat × W64))
  | commitArm (target checkId : W16) (sent : W32)
  | commitCancel (target : W16)
  | selState (items : List W64)
  | history (offset : W32) (recorded : Bool) (fn : W16)
  | settings (off total : W32) (d : List W32) (data : List W8)
  | resyncBegin (fn : W16)
  | resyncData (region : Nat) (off : W32) (data : List W8)
  | resyncAll (d : Region)
  | resyncEnd (records : W32)
  | resyncReq
  deriving DecidableEq, Repr

/-- A record sent to the mate: body, LAST, SEQ, FN and EPOCH (R233). -/
structure MateRec where
  body : MateBody
  last : Bool
  seq : W32
  fn : W16
  epoch : W8
  deriving DecidableEq, Repr

/-- A lease: its epoch and the tick of its expiry (R223, R224). -/
structure Lease where
  epoch : W8
  exp : Nat
  deriving DecidableEq, Repr

/-- A pending handover (R243): the mark h, its tick, the new epoch, whether this device is the old holder, and whether
it accepted the grant. -/
structure Handover where
  h : W16
  tick : Nat
  epoch : W8
  old : Bool
  granted : Bool
  deriving DecidableEq, Repr

/-- The last heartbeat from the mate (R234): its tick, body, frame and epoch. -/
structure Beat where
  t : Nat
  body : W64
  fn : W16
  epoch : W8
  deriving DecidableEq, Repr

/-- A mate lane (R232): in frame, since when, and dropped; frames in a row without their alignment word, the back-channel values of the
last frame, and the tick until which STATUS[0] stays 1 after the lane came back in frame (R177, R179). -/
structure Lane where
  frame : Bool
  since : Nat
  dropped : Bool
  errRun : Nat
  corr : Nat
  uncorr : Nat
  bad : Bool
  rdiEnd : Nat
  deriving DecidableEq, Repr

/-- What a standby has received of a resynchronisation (R241): 8-byte words in order, each with its region and its place there, whether
RESYNC_END is applied, and the records that wait for the swap. -/
structure Resync where
  got : List (Nat × Nat × W64)
  ended : Bool
  later : List MateRec
  deriving DecidableEq, Repr

/-- A mirrored commit (R236): target and CHECK_ID. -/
structure MirrorCommit where
  target : W16
  id : W16
  deriving DecidableEq, Repr

/-- The PAIR block outside its registers (R223 to R252): lease, the tick of a grant whose guard runs, the cause of a stop
at the next mark, the pending handover and whether STOP was applied in it, drill and PAIR_SWAP times, the frame count at
which the old holder's transmitters idle and the frames that it sends from history (R245), whether the device has acted, and acted in the frame before the last mark,
the last answer on ARB_A and whether the last transaction was aborted (R227), the counts since the last PAIR_STATUS
(R251), and the selectors to be compared at a frame count (R240). -/
structure PairSt where
  lease : Option Lease
  guardAt : Option Nat
  stopCause : Option (BitVec 3)
  ho : Option Handover
  stopSeen : Bool
  drillAt : Nat
  swapAt : List Nat
  idleFn : Option Nat
  frozen : List Nat
  hasActed : Bool
  actedPrev : Bool
  answer : W16
  arbAborted : Bool
  disSince : Nat
  dropSince : Nat
  disPend : List (Nat × Nat)
  deriving DecidableEq, Repr

/-- The mate link and the mirror (R232 to R241): the mate's heartbeat, SEQ received, lanes, the tick at which the link
went down, whether an acting mate was seen and this device was synchronised since reset, a resynchronisation asked for
by the mate, one that this device wants, whether its RESYNC_REQ has left, the tick of the last heartbeat with ACTING = 1, what was received of one, the mirrored commit, changes and settings not yet applied,
entries sent since the last swap, the last SEQ sent, the records that had not wholly left at the last frame mark, and the bytes of the
first that had. -/
structure MateSt where
  hb : Option Beat
  seqIn : Option W32
  lane0 : Lane
  lane1 : Lane
  downAt : Nat
  seenMate : Bool
  synced : Bool
  reqPend : Bool
  reqSent : Bool
  reqOut : Bool
  actHb : Option Nat
  rs : Option Resync
  mcommit : Option MirrorCommit
  selQ : List W64
  parts : List (List W32 × Nat × Nat × List W8)
  sent : Nat
  seqOut : W32
  out : List MateRec
  skip : Nat
  deriving DecidableEq, Repr

/-- The running windows of a monitor's bit-error tests (R120): frames seen, violations counted and the condition, for SF
and for SD, and the bits per frame for which they run. -/
structure MonRun where
  sfFrames : Nat
  sfCount : Nat
  sf : Bool
  sdFrames : Nat
  sdCount : Nat
  sd : Bool
  b : Nat
  deriving DecidableEq, Repr

/-- An open burst (SEL_BURST): first tick, last evaluation, ACT changes. -/
structure Burst where
  first : Nat
  last : Nat
  changes : Nat
  deriving DecidableEq, Repr

/-- The SEL block outside its registers: the selector and monitor tables as stored (R114, R117), the running windows
(R120), the start tick of each running timer by selector, or by 2^20 + working port for a group (R124, R125), the last
EXER results (R123), ACT and DELTA held apart from an uncorrectable selector (R130), the open burst and whether an
evaluation took place since the last mark, and the standby's shadow values of selectors and groups (R226, R240). -/
structure SelSt where
  sels : List (Nat × W128)
  mons : List (Nat × W64)
  runs : List (Nat × MonRun)
  timers : List (Nat × Option Nat)
  exer : List (Nat × Bool)
  held : List (Nat × Option (Bool × Nat))
  burst : Option Burst
  evalSeen : Bool
  shadow : List (Nat × Option Nat)
  deriving DecidableEq, Repr

/-- What the generator block writes into one input frame (R37, R38, R398): the sampled constants and idle bytes, the
number of input frames since reset and the frame at which the PRBS cells started. -/
structure GenFrame where
  consts : List (Nat × W32)
  idle : List (Nat × W8)
  frame : Nat
  prbs0 : Nat
  deriving DecidableEq, Repr

/-- The state sampled at a frame mark (R13): frame number and count, map page, ACT and DELTA of the selectors, line
groups, and what the generator block writes into the input frame that the output frame reads. -/
structure Sample where
  fn : W16
  frame : Nat
  t : Nat
  pageNo : Nat
  page : List (Nat × W64)
  sels : List (Nat × W128)
  held : List (Nat × Option (Bool × Nat))
  groups : List (Nat × W32)
  idle : List (Nat × W8)
  deriving DecidableEq, Repr

/-- What one path wrote into an input frame (R42, R49): `n` cells from `cell` of a port, `cols` columns from column `lo`;
byte (row × cols + column − lo) × n + cell, `none` where nothing was written. `key`: the path. -/
structure Image where
  port : Nat
  key : Nat
  cell : Nat
  n : Nat
  lo : Nat
  cols : Nat
  bytes : List (Option W8)
  deriving DecidableEq, Repr

/-- One data-store page (R93, R95): the input frame it holds, what the paths wrote since its flags were cleared, the ports
whose COL 0–2 were written with their D bytes (R48), the herd set it is written with (R36) and its generator content. -/
structure DataPage where
  frame : Nat
  images : List Image
  toh : List (Nat × (Nat × List W8))
  herd : List (Nat × Nat)
  gen : GenFrame
  deriving DecidableEq, Repr

/-- Grains dealt to a home queue (R88): frame count, next grain and the distance to the one after. -/
structure Seg where
  frame : Nat
  next : Nat
  step : Nat
  deriving DecidableEq, Repr

/-- A grain in an engine or in the staging buffer: frame count and grain number. -/
structure Grain where
  frame : Nat
  g : Nat
  deriving DecidableEq, Repr

/-- A grain whose outcome is settled: its bytes, `none` where output history is sent instead (R98, R109). -/
structure Built where
  grain : Grain
  bytes : List (Option W8)
  deriving DecidableEq, Repr

/-- The open candle record of an output frame (R105): grains settled, late grains, the least slack and its position. -/
structure Candle where
  frame : Nat
  fn : W16
  settled : Nat
  late : Nat
  slack : Nat
  pos : Nat
  deriving DecidableEq, Repr

/-- A bank move (R101): logical bank, old and new physical bank, the frame whose writes go to the new bank (`none` until
its mark), and whether it is a move of R103. -/
structure Move where
  bank : Nat
  old : Nat
  new : Nat
  frame : Option Nat
  forced : Bool
  deriving DecidableEq, Repr

/-- The governor's candle rule (R106, R107, R112): the A commanded for the next mark, frames of suspended background work
left, records in a row that allow a down-step, records still to close before a down-step after a boosted commit and the target of
that commit, and late frames in a row at full speed, frames in a row without a late grain. -/
structure Governor where
  aNext : Option Nat
  suspend : Nat
  good : Nat
  boost : Option Nat
  boostFor : W16
  lateRun : Nat
  cleanRun : Nat
  deriving DecidableEq, Repr

/-- The generator, the samples and the data store: whether a frame mark has passed since reset, frame marks passed, the
tick of the last, live constants (R38), a PRBS restart asked for and its frame (R398), the samples of the current and the
previous output frame (R91), the two data-store pages (R93), the page of the coming input frame until its mark, and whether
its writes have begun (R96). -/
structure CoreSt where
  started : Bool
  frames : Nat
  markT : Nat
  gen : List (Nat × W32)
  prbsReq : Bool
  prbs0 : Nat
  samp : Sample
  sampPrev : Sample
  even : DataPage
  odd : DataPage
  next : DataPage
  inOpen : Bool
  deriving DecidableEq, Repr

/-- Engines, staging buffer, history, candle, governor and banks: home queues by engine (R88), the grain each engine
holds, the tick at which the head of each queue was last claimed (R90), settled grains not yet taken, positions taken by the transmit
side (R87), the grains of taken positions that were not there and whose lateness is still to be counted (R109, R111), output
history (R108), open candle records (R105), the governor, bank moves (R101), banks under test, the order of the last tests, tests done, frames
since the last rotation step (R102), and the banks with an uncorrectable word since the last mark (R103). -/
structure EngSt where
  queues : List (Nat × List Seg)
  work : List (Nat × Option Grain)
  claims : List (Nat × Option Nat)
  staged : List Built
  taken : Nat
  missing : List Grain
  hist : List (Nat × W8)
  candles : List Candle
  gov : Governor
  moves : List Move
  testing : List (Nat × Bool)
  lastTest : List (Nat × Nat)
  tests : Nat
  brot : Nat
  ueBanks : List (Nat × Bool)
  deriving DecidableEq, Repr

/-- A candidate of a framer (R170): its position, the tick of its verification, and the frame counter found with it. -/
structure Cand where
  pos : Nat
  due : Nat
  ctr : Nat
  deriving DecidableEq, Repr

/-- The framer of a lane, or of an OTN port's client (R169 to R172): in frame, candidates held, barred positions with the
tick until which they are barred, consecutive frames with an errored pattern, and the position, the start tick and the
frame counter of the frame it is aligned to. -/
structure Framer where
  inFrame : Bool
  cands : List Cand
  barred : List (Nat × Nat)
  errRun : Nat
  pos : Nat
  start : Nat
  ctr : Nat
  deriving DecidableEq, Repr

/-- What one t0 of a path brings (R49): t0 in 1/810 tick, the bytes received (`none`: none received), the stretches that
R173 keeps from being written (first byte, bytes), and the VT path-overhead bytes to be placed by the phase of the input
frame: byte index and the last received of each phase (R46). -/
structure Spe where
  t0 : Nat
  bytes : List (Option W8)
  shut : List (Nat × Nat)
  poh : List (Nat × List W8)
  deriving DecidableEq, Repr

/-- The receive side of a path (R49, R182 to R190): frames since the last pointer adjustment, the SPE being received, the
SPEs received and not yet in an input frame, whether the last input frame was written, the BIP-8 of the last whole SPE,
the last H4 phase (4: none) and the multiframe phase of the coming SPE. -/
structure PathRx where
  adj : Nat
  cur : Option Spe
  done : List Spe
  live : Bool
  par : Option W8
  h4 : Nat
  mf : Nat
  deriving DecidableEq, Repr

/-- The receive side of a VT or TU (R46, R182, R184): the V1 byte, multiframes since the last adjustment, the place of the
next payload byte in the VT's SPE, an adjustment due in this multiframe (1 positive, 2 negative), the last path-overhead
byte of each phase, and the exclusive OR of the VT SPE's bytes since V5. -/
structure VtRx where
  v1 : W8
  adj : Nat
  idx : Option Nat
  just : Nat
  poh : List W8
  acc : Option W8
  deriving DecidableEq, Repr

/-- The output side of a VT (R182, R186): the exclusive OR of the bytes of the VT SPE under way and of the one before,
whether this multiframe is AIS-V, and whether the next one will be. -/
structure VtTx where
  acc : W8
  prev : W8
  ais : Bool
  next : Bool
  deriving DecidableEq, Repr

/-- A LIVE change that waits for the next frame mark (R158). -/
structure LiveCfg where
  loop : Nat
  txInv : Nat
  rxInv : Nat
  struct : Option (List W32)
  deriving DecidableEq, Repr

/-- What a transmitter inserts into the output frame under way, taken at its mark: PRT_OH_CFG, K1 and K2, the quality
level, RDI, the line errors reported back, PM BDI, and the back channel of Ziuth (R177, R180, R189); `was`: LOOP and structure as
this frame sends them, where a LIVE change has replaced them since (R158, R168). -/
structure TxOh where
  cfg : W32
  k1 : W8
  k2 : W8
  ql : Nat
  rdi : Bool
  rei : Nat
  pmBdi : Bool
  bcCorr : Nat
  bcUncorr : Nat
  bcCrc : Bool
  was : Option LiveCfg
  deriving DecidableEq, Repr

/-- The OTU sender of a port (R189): client bytes that wait for a frame, MFAS of the next frame, the BIP-8 values of the last
two frames, newest first, for SM (over the OPU) and PM, the SM and PM violations of received frames that are still to be
reported back, oldest first, and the last frame sent with its FEC bytes, before scrambling. -/
structure OtuTx where
  buf : List W8
  mfas : Nat
  bip : List W8
  bei : List (Nat × Nat)
  last : List W8
  deriving DecidableEq, Repr

/-- The client stream of an OTN port (R169, R189): demapped bytes with the tick of each, from the first that no whole client
frame has taken, and the number of bytes demapped before them since the OTU came in frame, modulo the client's frame. -/
structure ClientRx where
  buf : List (W8 × Nat)
  ctr : Nat
  deriving DecidableEq, Repr

/-- A trace slot (R187): bytes being gathered, the last trace and how often it came in a row. -/
structure TtiRx where
  buf : List W8
  last : List W8
  n : Nat
  deriving DecidableEq, Repr

/-- The port command in flight (R157, R160, R162). Disabling: frame count of the taking, whether a burst began two marks
later, and FN and tick of T_e. -/
inductive PortCmd where
  | idle
  | enabling (locked : Bool)
  | disabling (c : Nat) (burst : Option Bool) (te : Option (W16 × Nat))
  deriving DecidableEq, Repr

/-- A port outside its registers: the command in flight, the LIVE change, the tick since which the port (and its OTN
client) is in or out of frame (R190), whether it has not been in frame since it was enabled (R198), RDI sent and the tick at which it stops (R179, R181), the transmitter (0 electrical
idle, 1 starts at the next mark, 2 sending, 3 the pattern of LANE_PRBS), a wake under way and its depth (R167), the ticks since which the governor's
rule gives D1, D2 and D3 or deeper (R313). -/
structure PortDyn where
  cmd : PortCmd
  live : Option LiveCfg
  since : Nat
  unframed : Bool
  clientSince : Nat
  rdi : Bool
  rdiEnd : Option Nat
  tx : Nat
  wake : Option Nat
  deep1 : Option Nat
  deep2 : Option Nat
  deep3 : Option Nat
  deriving DecidableEq, Repr

/-- What a port's receiver keeps from frame to frame: the B1 parity of the last frame, the B2 parities by STS-1, the B2
violations of the last frame (R180), the BIP-8 values of the last two OTU frames (R189), the last MFAS (256: none), whether MFAS is out of sequence and since when (R190), consecutive frames of all paths in LOP (R171), and
the back-channel values of the last Ziuth frame (R177). -/
structure PortRx where
  b1 : Option W8
  b2 : List W8
  rei : Nat
  bip : List W8
  mfas : Nat
  lomBad : Bool
  lomSince : Option Nat
  lopRun : Nat
  bcCorr : Nat
  bcUncorr : Nat
  bcCrc : Bool
  deriving DecidableEq, Repr

/-- The line ports outside their registers, by lane, port, or path key: framers (lane l, or 64 + p for the client of port
p), ports, receivers, paths (port × 65,536 + PATH_IDX code), VTs, counters of equal observations in a row, trace slots
(port × 64 + k), violations since the last mark, channel bytes received with their t0, channel bytes of the last input
frame, what each transmitter inserts into the output frame under way and into the one
before, the bytes of the last frame sent by each port before scrambling and FEC, the output
side of VTs, the OTU senders, the client streams of OTN ports, and the last depth evaluation. -/
structure LineSt where
  framers : List (Nat × Framer)
  ports : List (Nat × PortDyn)
  rx : List (Nat × PortRx)
  paths : List (Nat × PathRx)
  vts : List (Nat × VtRx)
  runs : List (Nat × (Nat × Nat))
  tti : List (Nat × TtiRx)
  viol : List (Nat × Nat)
  ohq : List (Nat × List (Nat × List W8))
  oh : List (Nat × List W8)
  txOh : List (Nat × Option TxOh)
  txOld : List (Nat × Option TxOh)
  tx : List (Nat × List W8)
  vtTx : List (Nat × VtTx)
  otu : List (Nat × OtuTx)
  clients : List (Nat × ClientRx)
  depthAt : Nat
  deriving DecidableEq, Repr


/-- A timing reference outside its registers (R198 to R206): the loss condition of its pin with the tick at which it last
ended, the end of its wait-to-restore, the end of an acquisition failure, whether a failure other than QL asks for a
wait-to-restore, the tick at which its monitor window began, and the frequencies of the last windows, newest first, in 0.01 ppb. -/
structure RefSt where
  winAt : Nat
  loss : Bool
  lossEnd : Option Nat
  wtr : Option Nat
  acqFail : Option Nat
  needWtr : Bool
  freqs : List Int
  deriving DecidableEq, Repr

/-- A realignment in flight (R218, R219, TIMING_REALIGN): the outputs named, the PPS source, the phase, its start tick, the new phase of
PPS_OUT in frame time with the tick since which it is known, and the FN at which each output took its new phase. -/
structure Realign where
  fs : Bool
  pps : Bool
  ref : Nat
  ofs : Nat
  start : Nat
  phase : Option (Nat × Nat)
  fsFn : Option W16
  ppsFn : Option W16
  deriving DecidableEq, Repr

/-- The timing block outside its registers (R207 to R219): references, the tick of the last selection and of the last
window, the start of an acquisition and its windows within 10 ppb, the end of a hold-off, the start of a verification,
its measured phase (0.1 ns) and frequency difference (0.01 ppb) with the tick, a switch back to the reference in use, the
output offset of each 1 s window while LOCKED, newest first, the holder's mirrored windows with the ticks of their arrival (R239) and accepted
QL (R202), whether TIMING_CONFIGURE was given since reset, the frame time from which FSYNC_OUT and PPS_OUT run and the phase of PPS_OUT in
frame time (R218), the ticks at which SYSCLK_OUT0 and SYSCLK_OUT1 last stopped (R217), and a realignment in flight. -/
structure TmgSt where
  refs : List (Nat × RefSt)
  selAt : Nat
  winAt : Nat
  acqAt : Nat
  inBand : Nat
  hold : Option Nat
  verify : Option Nat
  measured : Option (Int × Int × Nat)
  back : Bool
  hist : List (Option Int)
  mateHist : List (Nat × Int)
  mateQl : Option Nat
  configured : Bool
  outAt : Nat
  ppsPh : Nat
  clk0 : Option Nat
  clk1 : Option Nat
  realign : Option Realign
  deriving DecidableEq, Repr


/-- A management channel's route (R192): word 2 of MDC_ROUTE, RING_LOG2 and the two ring addresses. -/
structure Route where
  word : W32
  log2 : Nat
  rx : W64
  tx : W64
  deriving DecidableEq, Repr

/-- A channel's counters (R193, MDC_STATUS): RX write, TX read, dropped, bytes extracted, short frames, and the FN of the
last update. -/
structure ChanCnt where
  rxWr : W32
  txRd : W32
  dropped : W32
  extracted : W32
  short : W32
  fn : W16
  deriving DecidableEq, Repr

/-- The MDC block outside its registers (R192 to R196): routes in force, routes that take effect at the next mark,
counters, the bytes to insert into the next output frame by 8 × port + KIND, those of the current one and of the one
before, the DO frame that each serial port sends in this frame, and the routes that lay out the serial frames begun at the last
mark and at the one before, and the read counters of RX rings that a new route has set to 0 since the last mark. -/
structure MdcSt where
  routes : List (Nat × Route)
  next : List (Nat × Option Route)
  cnt : List (Nat × ChanCnt)
  ins : List (Nat × List W8)
  insNow : List (Nat × List W8)
  insOld : List (Nat × List W8)
  dOut : List (Nat × List Bool)
  layNow : List (Nat × Route)
  layOld : List (Nat × Route)
  rdOld : List (Nat × Option W32)
  deriving DecidableEq, Repr


/-- A self-test run (R320): RUN_ID, TEST, PORT, the result, units that are left, banks it moved, and whether it has
completed. -/
structure TestRun where
  id : Nat
  test : Nat
  port : Nat
  pass : Bool
  w2 : W32
  w3 : W32
  left : Nat
  done : Bool
  deriving DecidableEq, Repr

/-- The PWR block outside its registers (R309 to R324): readings in a row away from the command, since when BASE exceeds
PMAX, the tick of the last completed unit of each rank, the next unit of the scrub and the next engine to check, the checks
and the last charge of each engine, whether the firmware reports an unrecoverable self-test failure (R249), the last 16
runs, the last RUN_ID, the stack march (0 none, 1 accepted, 2 under way since a mark), the end of each port's PRBS test, and
the banks that a BANK_ROT test has moved and waits for. -/
structure PwrSt where
  misreads : Nat
  overSince : Option Nat
  last : List (Nat × Nat)
  scrubPos : Nat
  spotNext : Nat
  spots : List (Nat × (Nat × Nat))
  unrec : Bool
  runs : List TestRun
  runId : Nat
  march : Nat
  prbs : List (Nat × Option Nat)
  rotating : List Nat
  deriving DecidableEq, Repr


/-- A tally count with its wraps (R327). -/
structure CntVal where
  count : W32
  wraps : Nat
  ovf : Bool
  deriving DecidableEq, Repr

/-- A dump being written (R332, R337): its bytes, the counts and sums that return if it is cut, and the counters whose
definition changed at its mark. -/
structure Dump where
  bytes : List W8
  vals : List CntVal
  sums : List Nat
  changed : List Nat
  deriving DecidableEq, Repr

/-- The TALLY block outside its registers (R326 to R338): definitions and dump settings that wait for a mark, the dump in
flight, the frame count from which the periodic schedule counts, the SEQ of the last dump, the first frame of the interval,
marks skipped since the last dump, the five sums over the records closed in the interval, the FN of the last of them, the
first dump not yet notified, the interval number, and the tick up to which engine-ticks are summed with the sum. -/
structure TallySt where
  defs : List (Nat × (W32 × W32))
  cfg : Option (W32 × W64)
  flight : Option Dump
  base : Nat
  seq : W32
  startFn : W16
  skipped : Nat
  sums : List Nat
  recFn : Option W16
  ntf : W16
  interval : W32
  engAt : Nat
  engAcc : Nat
  deriving DecidableEq, Repr


/-- An accepted FW_STAGE chunk that is not yet in the MRAM: image slot, offset, bytes, LAST, and whether its staging session is still
open. -/
structure Chunk where
  slot : Nat
  off : Nat
  data : List W8
  last : Bool
  live : Bool
  deriving DecidableEq, Repr

/-- Where a handover stands (R360 to R363): none; the image is being copied; the old firmware drains; the window from W. -/
inductive ActPhase where
  | none | copy | drain | window
  deriving DecidableEq, Repr

/-- The activation in flight: its phase, the tick at which the phase began, the image slot, TRIAL_S, W, whether it leads back
to the old slot, and whether FW_ABORT asked for that. -/
structure Activation where
  phase : ActPhase
  since : Nat
  slot : Nat
  trial : Nat
  w : W16
  back : Bool
  abort : Bool
  deriving DecidableEq, Repr

/-- No activation. -/
def Activation.reset : Activation :=
  { phase := .none, since := 0, slot := 0, trial := 0, w := 0, back := false, abort := false }

/-- A settings record on its way into the MRAM: its bytes, its slot, the buffer to copy it to, and whether it was captured by
SETTINGS_SAVE. -/
structure PendRec where
  bytes : List W8
  slot : Nat
  buf : W64
  save : Bool
  deriving DecidableEq, Repr

/-- The BOOT block outside its registers (R340 to R368): the MRAM, how often each image slot was erased, the place of the next
step-log entry and the last entry (step, event), the next snapshot position, the tick at which the boot began, the tick at which the
step in progress or the run past step 11 began, the tick of the last FW_STAGE of the staging session, chunks under way, the
activation, a record under way, the end of the trial, the ports that the alternative of step 10 enables one quad a frame, the boot
options, and the image slot that each code slot holds. -/
structure BootSt where
  mram : List (Nat × W8)
  genA : Nat
  genB : Nat
  logPos : Nat
  lastLog : Option (Nat × Nat)
  snapK : Nat
  bootAt : Nat
  stepAt : Nat
  stageAt : Nat
  chunks : List Chunk
  act : Activation
  record : Option PendRec
  trialEnd : Nat
  slow : List Nat
  snapRestore : Bool
  portsEnable : Bool
  code0 : Option Nat
  code1 : Option Nat
  deriving DecidableEq, Repr

/-- The pins that hold state (R338, R378, R379, R396): the I2C register pointer, the JTAG instruction
in force and the data register it selects where the manual gives its content, the level of FAULT_N, the end of GPIO1's pulse, the trained PCIe generation and
width, and whether BAR4 is implemented. -/
structure PinSt where
  i2cPtr : Nat
  tapIr : Jtag
  tapDr : Option W32
  faultN : Bool
  gpio1End : Option Nat
  pcieGen : Nat
  pcieWidth : Nat
  bar4 : Bool
  deriving DecidableEq, Repr


/-- The state of the device: the current tick (R9), how many free values were taken, the waiting commands (first in,
first out), what was sent over PCIe, the registers, and one structure per block. -/
structure State where
  now : Nat
  fresh : Nat
  pending : List Instr
  out : List Out
  regs : List (Nat × W32)
  mbx : Mbx
  mtx : Mtx
  map : MapSt
  pair : PairSt
  mate : MateSt
  sel : SelSt
  core : CoreSt
  eng : EngSt
  line : LineSt
  tmg : TmgSt
  mdc : MdcSt
  pwr : PwrSt
  tally : TallySt
  boot : BootSt
  pins : PinSt
  deriving DecidableEq, Repr

/-- A ring at reset. -/
def Ring.reset : Ring := { prod := 0, lastTag := 0, ntf := 0, stop := false, need := 0, stale := false }

/-- The PCIe configuration after a reset of the function: MSI-X disabled, every vector masked, no error messages. -/
def PcieCfg.reset : PcieCfg := { vecs := 0, mask := 0xFFFFFFFF, msg := false }

/-- MBX outside its registers at reset. -/
def Mbx.reset : Mbx :=
  { staged := [], taken := [], ring0 := Ring.reset, ring1 := Ring.reset, hPost := [], dPost := [], holdAt := 0,
    evtSeq := 0, evtPrev := [], evtNew := false, turn := 0, spiSlot := none, spiOver := false, spiFifo := [], spiPi := 0,
    cfg := PcieCfg.reset, msixPend := 0, urSeen := false }

/-- The matrix outside its registers at reset. -/
def Mtx.reset : Mtx := { scr := [], damage := [], hand := [], sem := [], rdData := 0, rdBytes := [], err := false }

/-- MAP outside its registers at reset: every entry of both pages is empty (R55). -/
def MapSt.reset : MapSt :=
  { page0 := [], page1 := [], dirty := [], redir := [], moved := [], before := [], check := none, commit := none, copy := none,
    snap := false, checkId := 0, peakLoad := 0, peakBank := 0 }

/-- PAIR outside its registers at reset. -/
def PairSt.reset : PairSt :=
  { lease := none, guardAt := none, stopCause := none, ho := none, stopSeen := false, drillAt := 0, swapAt := [],
    idleFn := none, frozen := [], hasActed := false, actedPrev := false, answer := 0, arbAborted := false, disSince := 0,
    dropSince := 0, disPend := [] }

/-- A mate lane at reset: out of frame. -/
def Lane.reset : Lane :=
  { frame := false, since := 0, dropped := true, errRun := 0, corr := 0, uncorr := 0, bad := false, rdiEnd := 0 }

/-- The mate link at reset. -/
def MateSt.reset : MateSt :=
  { hb := none, seqIn := none, lane0 := Lane.reset, lane1 := Lane.reset, downAt := 0, seenMate := false, synced := false,
    reqPend := false, reqSent := false, reqOut := false, actHb := none, rs := none, mcommit := none, selQ := [], parts := [], sent := 0, seqOut := 0,
    out := [], skip := 0 }

/-- SEL outside its registers at reset: every selector all zeros, every monitor unused (R114, R117). -/
def SelSt.reset : SelSt :=
  { sels := [], mons := [], runs := [], timers := [], exer := [], held := [], burst := none, evalSeen := false,
    shadow := [] }

/-- A generator frame before the first mark. -/
def GenFrame.reset : GenFrame := { consts := [], idle := [], frame := 0, prbs0 := 0 }

/-- A sample before the first mark. -/
def Sample.reset : Sample :=
  { fn := 0, frame := 0, t := 0, pageNo := 0, page := [], sels := [], held := [], groups := [], idle := [] }

/-- A data-store page before the first mark. -/
def DataPage.reset : DataPage := { frame := 0, images := [], toh := [], herd := [], gen := GenFrame.reset }

/-- The governor at reset. -/
def Governor.reset : Governor :=
  { aNext := none, suspend := 0, good := 0, boost := none, boostFor := 0, lateRun := 0, cleanRun := 0 }

/-- Generator, samples and data store at reset. -/
def CoreSt.reset : CoreSt :=
  { started := false, frames := 0, markT := 0, gen := [], prbsReq := false, prbs0 := 0, samp := Sample.reset,
    sampPrev := Sample.reset, even := DataPage.reset, odd := DataPage.reset, next := DataPage.reset, inOpen := false }

/-- Engines, history, candle and banks at reset. -/
def EngSt.reset : EngSt :=
  { queues := [], work := [], claims := [], staged := [], taken := 0, missing := [], hist := [], candles := [], gov := Governor.reset, moves := [],
    testing := [], lastTest := [], tests := 0, brot := 0, ueBanks := [] }

/-- A framer with nothing held. -/
def Framer.reset : Framer :=
  { inFrame := false, cands := [], barred := [], errRun := 0, pos := 0, start := 0, ctr := 0 }

/-- A port outside its registers at reset. -/
def PortDyn.reset : PortDyn :=
  { cmd := .idle, live := none, since := 0, unframed := true, clientSince := 0, rdi := false, rdiEnd := none, tx := 0, wake := none,
    deep1 := none, deep2 := none, deep3 := none }

/-- A port's receiver before its first frame. -/
def PortRx.reset : PortRx :=
  { b1 := none, b2 := [], rei := 0, bip := [], mfas := 256, lomBad := false, lomSince := none,
    lopRun := 0, bcCorr := 0, bcUncorr := 0, bcCrc := false }

/-- A path before its first pointer. -/
def PathRx.reset : PathRx := { adj := 3, cur := none, done := [], live := false, par := none, h4 := 4, mf := 0 }

/-- A VT before its first pointer. A path-overhead byte of a phase of which none was received yet is 0x00 (DESIGN CHOICE, log entry
76): R46 places the last one received. -/
def VtRx.reset : VtRx := { v1 := 0, adj := 3, idx := none, just := 0, poh := [0, 0, 0, 0], acc := none }

/-- The output side of a VT before its first frame. -/
def VtTx.reset : VtTx := { acc := 0, prev := 0, ais := false, next := false }

/-- An OTU sender before its first frame. -/
def OtuTx.reset : OtuTx := { buf := [], mfas := 0, bip := [], bei := [], last := [] }

/-- A client stream before its first byte. -/
def ClientRx.reset : ClientRx := { buf := [], ctr := 0 }

/-- A trace slot without a trace. -/
def TtiRx.reset : TtiRx := { buf := [], last := [], n := 0 }

/-- The line ports outside their registers at reset. -/
def LineSt.reset : LineSt :=
  { framers := [], ports := [], rx := [], paths := [], vts := [], runs := [], tti := [], viol := [], ohq := [], oh := [],
    txOh := [], txOld := [], tx := [], vtTx := [], otu := [], clients := [], depthAt := 0 }

/-- A reference at reset. -/
def RefSt.reset : RefSt := { winAt := 0, loss := false, lossEnd := none, wtr := none, acqFail := none, needWtr := false, freqs := [] }

/-- The timing block outside its registers at reset. -/
def TmgSt.reset : TmgSt :=
  { refs := [], selAt := 0, winAt := 0, acqAt := 0, inBand := 0, hold := none, verify := none, measured := none,
    back := false, hist := [], mateHist := [], mateQl := none, configured := false, outAt := 0, ppsPh := 0, clk0 := none,
    clk1 := none, realign := none }

/-- A channel's counters at reset. -/
def ChanCnt.reset : ChanCnt := { rxWr := 0, txRd := 0, dropped := 0, extracted := 0, short := 0, fn := 0 }

/-- The MDC block outside its registers at reset. -/
def MdcSt.reset : MdcSt :=
  { routes := [], next := [], cnt := [], ins := [], insNow := [], insOld := [], dOut := [], layNow := [], layOld := [],
    rdOld := [] }

/-- The governor's background work at reset. -/
def PwrSt.reset : PwrSt :=
  { misreads := 0, overSince := none, last := [], scrubPos := 0, spotNext := 0, spots := [], unrec := false, runs := [],
    runId := 0, march := 0, prbs := [], rotating := [] }

/-- The tally outside its registers at reset. -/
def TallySt.reset : TallySt :=
  { defs := [], cfg := none, flight := none, base := 0, seq := 0, startFn := 0, skipped := 0, sums := [0, 0, 0, 0, 0],
    recFn := none, ntf := 0, interval := 0, engAt := 0, engAcc := 0 }

/-- The BOOT block outside its registers at reset. -/
def BootSt.reset : BootSt :=
  { mram := [], genA := 0, genB := 0, logPos := 0, lastLog := none, snapK := 0, bootAt := 0, stepAt := 0, stageAt := 0,
    chunks := [], act := Activation.reset, record := none, trialEnd := 0, slow := [], snapRestore := true,
    portsEnable := true, code0 := none, code1 := none }

/-- The pins at reset. -/
def PinSt.reset : PinSt :=
  { i2cPtr := 0, tapIr := .idcode, tapDr := none, faultN := false, gpio1End := none, pcieGen := 0, pcieWidth := 0, bar4 := false }

/-- The device right after reset, before its boot sequence. -/
def State.reset : State :=
  { now := 0, fresh := 0, pending := [], out := [], regs := [], mbx := Mbx.reset, mtx := Mtx.reset,
    map := MapSt.reset, pair := PairSt.reset, mate := MateSt.reset, sel := SelSt.reset, core := CoreSt.reset,
    eng := EngSt.reset, line := LineSt.reset, tmg := TmgSt.reset, mdc := MdcSt.reset, pwr := PwrSt.reset, tally := TallySt.reset, boot := BootSt.reset, pins := PinSt.reset }

end Sys2Proof.Machine
end

