-- ==== Sys2Proof/Machine/Ops.lean ====
section
/-! DEFINITION. Machine/Ops.lean: the named operations over registers, time, bits and bytes that every meaning shares. -/
namespace Sys2Proof.Machine

/-- The answer of a meaning. -/
abbrev Res := Host.Outcome State Fault Refusal

/-! ### Bits and bytes -/

/-- `w` bits of `x` from bit `lo`. -/
def bits (x lo w : Nat) : Nat := (x / 2 ^ lo) % 2 ^ w

/-- Bit `i` of `x`. -/
def bitOf (x i : Nat) : Bool := bits x i 1 == 1

/-- 1 or 0. -/
def b2n (b : Bool) : Nat := if b then 1 else 0

/-- The bits of a field's place in a register. -/
def maskOf (lo w : Nat) : W32 := BitVec.ofNat 32 ((2 ^ w - 1) * 2 ^ lo)

/-- A register with `v` in the field at `lo`, `w` bits wide; the other bits are kept. -/
def insertBits (x : W32) (lo w v : Nat) : W32 :=
  (x &&& ~~~maskOf lo w) ||| BitVec.ofNat 32 (v % 2 ^ w * 2 ^ lo)

/-- The `k` little-endian bytes of `n` (R254). -/
def leBytes (n : Nat) : Nat → List W8
  | 0 => []
  | k + 1 => BitVec.ofNat 8 n :: leBytes (n / 256) k

/-- The number that little-endian bytes spell. -/
def ofLe : List W8 → Nat
  | [] => 0
  | b :: bs => b.toNat + 256 * ofLe bs

/-- The bytes of a list of words (R254). -/
def wordsBytes (ws : List W32) : List W8 := ws.flatMap fun w => leBytes w.toNat 4

/-- Split bytes into groups of `n`; a short tail is dropped. -/
def chunks (n : Nat) : Nat → List W8 → List (List W8)
  | 0, _ => []
  | fuel + 1, bs => if bs.length < n ∨ n = 0 then [] else bs.take n :: chunks n fuel (bs.drop n)

/-- The words that little-endian bytes spell. -/
def bytesWords (bs : List W8) : List W32 :=
  (chunks 4 (bs.length / 4) bs).map fun c => BitVec.ofNat 32 (ofLe c)

/-- How far frame `a` is after frame `b` (R40). -/
def fnDist (a b : W16) : Nat := (a - b).toNat

/-- Frame `a` is in the future of frame `b` (R40). -/
def fnFuture (a b : W16) : Bool := decide (1 ≤ fnDist a b) && decide (fnDist a b ≤ 32767)

/-- Epoch `b` is newer than epoch `a` (R223). -/
def epochNewer (b a : W8) : Bool := decide (1 ≤ (b - a).toNat) && decide ((b - a).toNat ≤ 127)

/-- Ticks in a millisecond (R9). -/
def msTicks : Nat := 100000

/-- Ticks in a frame of 125 us (R9). -/
def frameTicks : Nat := 12500

/-! ### Time -/

/-- A command happens at tick `t`; time never runs backward. -/
def State.tick (s : State) (t : Nat) : State := { s with now := max s.now t }

/-! ### Registers -/

/-- The word stored for the register at an address. -/
def State.reg (s : State) (a : Nat) : W32 := Store.get RegTable.reset s.regs a

/-- Store a word for the register at an address. -/
def State.setReg (s : State) (a : Nat) (v : W32) : State := { s with regs := Store.put RegTable.reset s.regs a v }

/-- The value of a field. -/
def State.rd (s : State) (f : Fld) : Nat := bits (s.reg f.addr).toNat f.lo f.w

/-- Set a field. -/
def State.wr (s : State) (f : Fld) (v : Nat) : State := s.setReg f.addr (insertBits (s.reg f.addr) f.lo f.w v)

/-- A one-bit field as a truth value. -/
def State.flag (s : State) (f : Fld) : Bool := s.rd f == 1

/-- Set a one-bit field. -/
def State.setFlag (s : State) (f : Fld) (b : Bool) : State := s.wr f (b2n b)

/-- Set a one-bit field to 1: a status or interrupt bit is raised. -/
def State.raise (s : State) (f : Fld) : State := s.wr f 1

/-- Raise a bit if the condition holds. -/
def State.raiseIf (s : State) (c : Bool) (f : Fld) : State := if c then s.raise f else s

/-- A counter that saturates at its field's highest value. -/
def State.inc (s : State) (f : Fld) (n : Nat) : State := s.wr f (min (2 ^ f.w - 1) (s.rd f + n))

/-- A counter that wraps. -/
def State.bump (s : State) (f : Fld) (n : Nat) : State := s.wr f (s.rd f + n)

/-- Set bit `n` of a 32-bit register field. -/
def State.setBitAt (s : State) (f : Fld) (n : Nat) (b : Bool) : State := s.wr { addr := f.addr, lo := f.lo + n, w := 1 } (b2n b)

/-- Bit `n` of a register field. -/
def State.bitAt (s : State) (f : Fld) (n : Nat) : Bool := s.flag { addr := f.addr, lo := f.lo + n, w := 1 }

/-- The current frame number (R39). -/
def State.fn (s : State) : W16 := BitVec.ofNat 16 (s.rd F.FRAME_NUM_FN)

/-- The device acts (R221, R224). -/
def State.acting (s : State) : Bool := s.flag F.PAIR_STAT_ACTING

/-- Send a message over PCIe. -/
def State.emit (s : State) (o : Out) : State := { s with out := s.out ++ [o] }

/-- Do `f` if the condition holds. -/
def State.when (s : State) (c : Bool) (f : State → State) : State := if c then f s else s

/-- What a write of `v` makes of one field (R10); `locked`: the block's LOCK bit is set. -/
def writeField (locked : Bool) (v : W32) (x : W32) (f : FieldRow) : W32 :=
  let new := bits v.toNat f.lo f.w
  let old := bits x.toNat f.lo f.w
  match f.acc with
  | .rw => insertBits x f.lo f.w new
  | .ro | .rc | .wo => x
  | .w1c => insertBits x f.lo f.w (old &&& (2 ^ f.w - 1 - new))
  | .w1s => insertBits x f.lo f.w (old ||| new)
  | .rwl => if locked then x else insertBits x f.lo f.w new

/-- The register row at an address and whether its block's LOCK bit (bit 31 of the block's first register) is set. -/
def State.rowLocked (s : State) (a : Nat) : Option (RegRow × Bool) :=
  (RegTable.find a).map fun (base, r) => (r, bitOf (s.reg base).toNat 31 && (RegTable.find base).any fun p => p.2.fields.any fun f => f.lo == 31 && f.acc == .w1s)

/-- A write to a register under its fields' access codes (R10, R11); an address without a register is unchanged. -/
def State.plainWrite (s : State) (a : Nat) (v : W32) : State :=
  match s.rowLocked a with
  | none => s
  | some (r, locked) => s.setReg a (r.fields.foldl (writeField locked v) (s.reg a))

/-- What a read clears: the RC fields (R10). -/
def State.readClear (s : State) (a : Nat) : State :=
  match RegTable.find a with
  | none => s
  | some (_, r) =>
    s.setReg a (r.fields.foldl (fun x f => if f.acc = .rc then insertBits x f.lo f.w 0 else x) (s.reg a))

/-- What a read returns of the stored word: WO fields read zero (R10). -/
def State.readWord (s : State) (a : Nat) : W32 :=
  match RegTable.find a with
  | none => 0
  | some (_, r) => r.fields.foldl (fun x f => if f.acc = .wo then insertBits x f.lo f.w 0 else x) (s.reg a)

end Sys2Proof.Machine
end

