-- ==== Sys2Proof/Machine/Matrix.lean ====
section
/-! DEFINITION. Machine/Matrix.lean: scratchpad, bank ownership, semaphores, decode errors and the rotate alias
(spec/11). -/
namespace Sys2Proof.Machine

/-! ### Errors and ownership -/

/-- The owner of a scratchpad bank (R298). -/
def State.owner (s : State) (b : Nat) : Nat := s.rd (F.SCR_OWN_OWNER b)

/-- Change the matrix state outside its registers. -/
def State.mapMtx (s : State) (f : Mtx → Mtx) : State := { s with mtx := f s.mtx }

/-- What the host's PCIe error status notes of a posted write that is an Unsupported Request (R296). -/
def State.postedUr (s : State) : State :=
  let s := { s with mbx := { s.mbx with urSeen := true } }
  if s.mbx.cfg.msg then s.emit .errMsg else s

/-- How an error response reaches its master (R296): a posted write of the host is discarded and recorded; a read of the host gets
Unsupported Request status and a core a bus error, which `Mtx.err` holds; an engine tells the block that issued the transfer. -/
def State.tellMaster (s : State) (m : Nat) (write : Bool) : State :=
  if m = 0 ∧ write = true then s.postedUr
  else if m ≤ 4 then s.mapMtx fun x => { x with err := true, rdBytes := [] }
  else s

/-- The capture of an error response (R297). -/
def State.logError (s : State) (m addr : Nat) (write : Bool) (cause : Nat) : State :=
  if s.flag F.MTX_ERR_INFO_VALID then s.inc F.MTX_ERR_CNT_COUNT 1
  else
    ((((((s.wr F.MTX_ERR_ADDR_ADDR addr).wr F.MTX_ERR_INFO_MASTER m).wr F.MTX_ERR_INFO_WRITE (b2n write)).wr
      F.MTX_ERR_INFO_CAUSE cause).raise F.MTX_ERR_INFO_VALID).raise F.MTX_INT_ERR)

/-- The default target answers an access with an error and logs it (R296, R297). -/
def State.busError (s : State) (m addr : Nat) (write : Bool) (cause : Nat) : State := (s.logError m addr write cause).tellMaster m write

/-- Host requests complete as Unsupported Requests until boot step 5 has ended (R353); in recovery the boot ROM serves the host
(R347). -/
def State.barred (s : State) (m : Nat) : Bool :=
  decide (m = 0) && decide (s.rd F.BOOT_RESULT_RES5 = 3) && decide (s.rd F.BOOT_STATUS_PHASE ≠ 4)

/-- The register blocks, behind the bridges and in SEM (R284). -/
def inBlocks (a : Nat) : Bool :=
  (decide (0x40000000 ≤ a) && decide (a ≤ 0x400A0FFF)) || (decide (0x40100000 ≤ a) && decide (a ≤ 0x4012FFFF)) ||
    (decide (0x40200000 ≤ a) && decide (a ≤ 0x40220FFF))

/-- Why the default target refuses an access by master `m` (R60, R284, R299, R300); `none`: the access is served.
Causes are those of MTX_ERR_INFO.CAUSE. -/
def State.refusal (s : State) (m addr : Nat) (write : Bool) : Option Nat :=
  let inBlk := fun (lo hi : Nat) => decide (lo ≤ addr) && decide (addr ≤ hi)
  let bank := fun (x : Nat) =>
    let b := x / 0x20000
    if (Store.get (fun _ => none) s.mtx.hand b).isSome then some 2
    else if s.owner b = m then none else some 2
  let win := s.rd F.MAP_WIN_SEL_WIN
  if inBlk 0 0x1FFFF then
    if s.flag F.SYS_CTRL_REMAP then (if m = 0 then some 4 else bank 0)
    else if 0xFFFF < addr then some 0
    else if m = 0 then some 4
    else if write then some 1 else none
  else if inBlk 0x10000000 0x101FFFFF then bank (addr - 0x10000000)
  else if inBlk 0x18000000 0x181FFFFF then bank (addr - 0x18000000)
  else if inBlk 0x20000000 0x21FFFFFF then (if m = 0 then some 4 else if write then some 1 else none)
  else if inBlk 0x80000000 0x8FFFFFFF then
    if m = 0 then some 4
    else if win = 3 then some 0
    else if write = true ∧ win < 2 ∧ s.rd F.MAP_STATUS_ACTIVE_PAGE = win then some 1
    else none
  else if inBlocks addr then
    if m = 0 ∧ write = true ∧ (inBlk 0x40008000 0x4000FFFF || inBlk 0x40210000 0x4021FFFF || inBlk 0x40220000 0x40220FFF) = true then some 1
    else none
  else some 0

/-- Why a burst with these byte enables is refused: its size in the register blocks (R285), then its address. A burst lies in one
128-byte line, so its first byte decides (R288). -/
def State.denied (s : State) (m addr : Nat) (be : List Bool) (write : Bool) : Option Nat :=
  if inBlocks addr = true ∧ (addr % 4 ≠ 0 ∨ be ≠ [true, true, true, true]) then some 3 else s.refusal m addr write

/-- The bursts of an access (R288): pieces of the bytes that do not cross a 128-byte boundary, each with its address. -/
def bursts {α : Type} : Nat → Nat → List α → List (Nat × List α)
  | 0, _, _ => []
  | fuel + 1, a, bs =>
    if bs.isEmpty then []
    else
      let n := 128 - a % 128
      (a, bs.take n) :: bursts fuel (a + n) (bs.drop n)

/-- The bursts of an access, as many as its length asks for. -/
def burstsOf {α : Type} (a : Nat) (bs : List α) : List (Nat × List α) := bursts (bs.length / 128 + 2) a bs

/-! ### Scratchpad -/

/-- What a scratchpad byte that nothing has written reads as. DESIGN CHOICE (log entry 2): the manual gives no value. -/
def scrDefault : Nat → W8 := fun _ => 0

/-- A scratchpad byte, by its offset from 0x1000_0000. -/
def State.scrByte (s : State) (x : Nat) : W8 := Store.get scrDefault s.mtx.scr x

/-- Bytes of the scratchpad from an offset. -/
def State.scrRead (s : State) (x n : Nat) : List W8 := Store.getAll scrDefault s.mtx.scr x n

/-- The bytes of 64-bit word `w` all lie among the `n` bytes from `x`. -/
def wholeWord (x n w : Nat) : Bool := decide (x ≤ 8 * w) && decide (8 * w + 8 ≤ x + n)

/-- Some byte of 64-bit word `w` lies among the `n` bytes from `x`. -/
def partWord (x n w : Nat) : Bool := decide (n ≠ 0) && decide (x ≤ 8 * w + 7) && decide (8 * w < x + n)

/-- Words written whole get new check bits (R298). -/
def State.mend (s : State) (x n : Nat) : State := s.mapMtx fun m => { m with damage := m.damage.filter fun e => !wholeWord x n e.1 }

/-- Write bytes of the scratchpad from an offset. -/
def State.scrWrite (s : State) (x : Nat) (bs : List W8) : State :=
  (s.mapMtx fun m => { m with scr := Store.putAll scrDefault m.scr x bs }).mend x bs.length

/-- A read of the bytes finds an uncorrectable word (R298). -/
def State.scrUe (s : State) (x n : Nat) : Bool := s.mtx.damage.any fun e => e.2 == some true && partWord x n e.1

/-- Words that a read of the bytes corrects (R298). -/
def State.scrCe (s : State) (x n : Nat) : Nat := (s.mtx.damage.filter fun e => e.2 == some false && partWord x n e.1).length

/-- Corrected scratchpad words are counted (R298). -/
def State.corrected (s : State) (n : Nat) : State := if n = 0 then s else (s.inc F.SCR_CE_CNT_COUNT n).raise F.MTX_INT_SCR_CE

/-- A word's check bits show an error from now on; an uncorrectable word stays one (R298). -/
def State.upsetScr (s : State) (w : Nat) (ue : Bool) : State :=
  let worse := ue || Store.get (fun _ => none) s.mtx.damage w == some true
  s.mapMtx fun m => { m with damage := Store.put (fun _ => none) m.damage w (some worse) }

/-- Words of the scratchpad whose check bits show an error from now on. -/
def State.upsetWords (s : State) (l : List (Fin 262144 × Bool)) : State := l.foldl (fun s x => s.upsetScr x.1.val x.2) s

/-- Words with a correctable error and words with an uncorrectable one, as `State.upsetWords` takes them. -/
def struck (ce ue : List (Fin 262144)) : List (Fin 262144 × Bool) := ce.map (fun w => (w, false)) ++ ue.map fun w => (w, true)

/-- The scratchpad offset of an alias byte for a master's rotate amount (R307). -/
def rotated (r x : Nat) : Nat := 8 * (x / 8) + (x % 8 + r) % 8

/-- The rotate amount of master `m` (R306). -/
def State.rot (s : State) (m : Nat) : Nat := s.rd { addr := 0x40020030, lo := 3 * m, w := 3 }

/-- Store the enabled bytes of a write (R285), each at the place that `at_` gives its offset. -/
def State.scrBytes (s : State) (at_ : Nat → Nat) : Nat → List (Option W8) → State
  | _, [] => s
  | x, none :: bs => s.scrBytes at_ (x + 1) bs
  | x, some b :: bs => (s.mapMtx fun m => { m with scr := Store.put scrDefault m.scr (at_ x) b }).scrBytes at_ (x + 1) bs

/-- A write of bytes with byte enables to the scratchpad (R285), or through the alias with a rotate amount (R307). -/
def State.scrPatch (s : State) (at_ : Nat → Nat) (x : Nat) (bs : List (Option W8)) : State :=
  let s := s.scrBytes at_ x bs
  if bs.all Option.isSome then s.mend x bs.length else s

/-- Read bytes through the alias (R307). -/
def State.aliasRead (s : State) (r : Nat) : Nat → Nat → List W8
  | _, 0 => []
  | x, n + 1 => s.scrByte (rotated r x) :: s.aliasRead r (x + 1) n

/-- The bytes of an offset range lie in banks that master `m` owns and that are not being handed over (R299, R300). -/
def State.ownsRange (s : State) (m x n : Nat) : Bool :=
  decide (x + n ≤ 0x200000) &&
    (List.range 16).all fun b => decide (x + n ≤ b * 0x20000) || decide ((b + 1) * 0x20000 ≤ x) || n == 0 ||
      (decide (s.owner b = m) && (Store.get (fun _ => none) s.mtx.hand b).isNone)

/-! ### 64-bit addresses of R256 -/

/-- The second form of R256: a control-plane address. -/
def secondForm (a : W64) : Bool := decide (0x8000000000000000 ≤ a.toNat)

/-- The scratchpad offset that an address of the second form names. -/
def scrOf (a : W64) : Nat := bits a.toNat 0 32 - 0x10000000

/-- A 64-bit address that a command from a source may name, for `n` bytes (R256). -/
def State.addrOk (s : State) (src : Src) (a : W64) (n : Nat) : Bool :=
  if secondForm a then
    decide (bits a.toNat 32 31 = 0) && decide (0x10000000 ≤ bits a.toNat 0 32) &&
      decide (bits a.toNat 0 32 < 0x10200000) && s.ownsRange 0 (scrOf a) n
  else decide (src ≠ .spi)

/-- The default target refuses an engine's access to an address of the second form (R256, R296, R297). -/
def State.engineError (s : State) (m : Nat) (a : W64) (write : Bool) : State :=
  s.busError m (bits a.toNat 0 32) write ((s.refusal 0 (bits a.toNat 0 32) write).getD 2)

/-- Engine `m` reads `n` bytes at an address (R256, R298): host memory bytes come with the command, scratchpad bytes out of the state.
An error leaves the state that the failed read leaves. -/
def State.devRead (s : State) (m : Nat) (a : W64) (n : Nat) (host : Option (List W8)) : Except State (State × List W8) :=
  if secondForm a then
    if !s.addrOk .ring0 a n then .error (s.engineError m a false)
    else if s.scrUe (scrOf a) n then .error (s.busError m (bits a.toNat 0 32) false 5)
    else .ok (s.corrected (s.scrCe (scrOf a) n), s.scrRead (scrOf a) n)
  else match host with
    | none => .error s
    | some bs => if bs.length < n then .error s else .ok (s, bs.take n)

/-- Engine `m` writes bytes at an address: host memory, or a scratchpad bank that M0 owns (R256). -/
def State.devWrite (s : State) (m : Nat) (a : W64) (bs : List W8) (ok : Bool) : Except State State :=
  if secondForm a then
    if s.addrOk .ring0 a bs.length then .ok (s.scrWrite (scrOf a) bs) else .error (s.engineError m a true)
  else if ok then .ok (s.emit (.pcie a bs)) else .error s

/-! ### Semaphores -/

/-- The holder of semaphore `n` (R302). -/
def State.holder (s : State) (n : Nat) : Option Nat := Store.get (fun _ => none) s.mtx.sem n

/-- Set the holder of semaphore `n`; SEM_STAT and SEM_PEEK show it. -/
def State.setHolder (s : State) (n : Nat) (h : Option Nat) : State :=
  let s := { s with mtx := { s.mtx with sem := Store.put (fun _ => none) s.mtx.sem n h } }
  let w : W32 := match h with
    | none => 0
    | some m => BitVec.ofNat 32 (3 + 16 * m)
  (s.setReg (0x400A0100 + 4 * n) w).setBitAt F.SEM_STAT_HELD n h.isSome

/-- A read is answered with its bytes. -/
def State.answer (s : State) (bs : List W8) : State :=
  s.mapMtx fun x => { x with rdBytes := bs, rdData := BitVec.ofNat 32 (ofLe (bs.take 4)), err := false }

/-- A read of SEM_ACQ by a master (R302): a free semaphore is acquired; the word that the read returns. -/
def State.semRead (s : State) (m n : Nat) : State × Nat :=
  match s.holder n with
  | none => (s.setHolder n (some m), 3 + 16 * m)
  | some o => (s, b2n (decide (o = m)) + 2 + 16 * o)

/-- SEM_ACQ_READ (R302). -/
def execSemAcqRead (t : Nat) (m : Master) (n : Fin 32) (s : State) : Res :=
  if (s.tick t).barred m.val then .next ((s.tick t).tellMaster m.val false) else
  let r := (s.tick t).semRead m.val n.val
  .next (r.1.answer (leBytes r.2 4))

/-- A write of SEM_ACQ (R302). -/
def execSemAcqWrite (t : Nat) (m : Master) (n : Fin 32) (s : State) : Res :=
  if (s.tick t).barred m.val then .next (s.tick t).postedUr else
  let s := s.tick t
  if s.holder n.val = some m.val then .next (s.setHolder n.val none)
  else .next (s.inc F.SEM_BAD_REL_COUNT 1)

/-! ### Bank handover -/

/-- A bank changes its owner: step 3 of R300. -/
def State.giveBank (s : State) (b next : Nat) : State :=
  let s := { s with mtx := { s.mtx with hand := Store.put (fun _ => none) s.mtx.hand b none } }
  (((s.wr (F.SCR_OWN_OWNER b) next).bump (F.SCR_OWN_GEN b) 1).setFlag (F.SCR_OWN_RECLAIMED b) false).raise F.MTX_INT_HANDOVER

/-- A write of SCR_OWN (R300): step 1 starts when the writer owns the bank or is M1, REL is 1 and NEXT names a master. -/
def execScrOwnWrite (t : Nat) (m : Master) (b : Fin 16) (v : W32) (s : State) : Res :=
  if (s.tick t).barred m.val then .next (s.tick t).postedUr else
  let s := s.tick t
  let next := bits v.toNat 12 4
  if (s.owner b.val = m.val ∨ m.val = 1) ∧ bitOf v.toNat 16 = true ∧ next ≤ 8
      ∧ Store.get (fun _ => none) s.mtx.hand b.val = none then
    .next { s with mtx := { s.mtx with hand := Store.put (fun _ => none) s.mtx.hand b.val (some next) } }
  else .next s

/-- The old owner's accepted beats have completed (R300, steps 2 and 3). -/
def execScrOwnHandoverDone (t : Nat) (b : Fin 16) (s : State) : Res :=
  let s := s.tick t
  match Store.get (fun _ => none) s.mtx.hand b.val with
  | none => .next s
  | some next => .next (s.giveBank b.val next)

/-- A bank passes to M1 at a reset of its owner (R294); a bank already being handed over completes to its new owner
(R300). -/
def State.reclaimBank (m : Nat) (s : State) (b : Nat) : State :=
  match Store.get (fun _ => none) s.mtx.hand b with
  | some next => if s.owner b = m then s.giveBank b next else s
  | none =>
    if s.owner b = m then
      ((s.wr (F.SCR_OWN_OWNER b) 1).raise (F.SCR_OWN_RECLAIMED b)).raise F.MTX_INT_RECLAIM
    else s

/-- A semaphore passes to M1 at a reset of its holder (R294, R304). -/
def State.reclaimSem (m : Nat) (s : State) (n : Nat) : State :=
  if s.holder n = some m then
    ((s.setHolder n (some 1)).setBitAt F.SEM_RECL_RECL n true).raise F.MTX_INT_RECLAIM
  else s

/-- Staged words of a master's atomic groups are discarded (R294). -/
def State.dropStaged (s : State) (m : Nat) : State :=
  { s with mbx := { s.mbx with staged := s.mbx.staged.filter fun e => decide (e.1 / 0x100000000 ≠ m) } }

/-- A master other than M1 to M4 is reset (R294). -/
def State.resetMaster (s : State) (m : Nat) : State :=
  (List.range 32).foldl (State.reclaimSem m) ((List.range 16).foldl (State.reclaimBank m) (s.dropStaged m))

/-- A bank of M1 to M4 at a firmware reset (R294, R300): a handover under way completes, every other passes to M1. -/
def State.reclaimCoreBank (s : State) (b : Nat) : State :=
  let m := s.owner b
  if 1 ≤ m ∧ m ≤ 4 then s.reclaimBank m b else s

/-- The DMA engine M5 reads a command's input buffer of `n` bytes (R257); a transfer that fails is aborted, which resets M5 (R293). -/
def State.readBuf (s : State) (a : W64) (n : Nat) (x : Exe) : Except State (State × List W8) :=
  match s.devRead 5 a n x.inp with
  | .ok r => .ok r
  | .error u => .error (u.resetMaster 5)

/-- The DMA engine M5 writes a command's output buffer (R257); a transfer that fails is aborted, which resets M5 (R293). -/
def State.writeBuf (s : State) (a : W64) (bs : List W8) (x : Exe) : Except State State :=
  match s.devWrite 5 a bs x.outOk with
  | .ok u => .ok u
  | .error u => .error (u.resetMaster 5)

/-- The control cores' masters M1 to M4 are reset at a firmware reset (R294): their semaphores become free, their banks
pass to M1. -/
def State.resetCores (s : State) : State :=
  let s := (((s.dropStaged 1).dropStaged 2).dropStaged 3).dropStaged 4
  let s := (List.range 16).foldl State.reclaimCoreBank s
  (List.range 32).foldl (fun s n => match s.holder n with
    | some m => if 1 ≤ m ∧ m ≤ 4 then s.setHolder n none else s
    | none => s) s

/-! ### Registers with rows of their own -/

/-- A write of SYS_CTRL.REMAP (R286): only M1 to M4 and M8 can write it, and not once it is locked. -/
def execRemapWrite (t : Nat) (m : Master) (v : W32) (s : State) : Res :=
  if (s.tick t).barred m.val then .next (s.tick t).postedUr else
  let s := s.tick t
  if ((1 ≤ m.val ∧ m.val ≤ 4) ∨ m.val = 8) ∧ s.flag F.SYS_CTRL_LOCK = false then
    .next (s.wr F.SYS_CTRL_REMAP (bits v.toNat 0 1))
  else .next s

/-- The base of a block with a LOCK bit. -/
def lockBase : LockBlk → Nat
  | .sys => 0x40000000 | .mtx => 0x40020000 | .pwr => 0x40030000 | .tally => 0x40040000
  | .map => 0x40070000 | .core => 0x40080000 | .prt p => prtBase p.val

/-- A write of 1 to a block's LOCK bit (R10); SYS and MTX ignore it from M0 (their tables). -/
def execLockSet (t : Nat) (m : Master) (b : LockBlk) (s : State) : Res :=
  if (s.tick t).barred m.val then .next (s.tick t).postedUr else
  let s := s.tick t
  if m.val = 0 ∧ (b = .sys ∨ b = .mtx) then .next s
  else .next (s.wr { addr := lockBase b, lo := 31, w := 1 } 1)

/-- A write of MTX_ROT (R306): M0 writes only its own field. -/
def execMtxRotWrite (t : Nat) (m : Master) (v : W32) (s : State) : Res :=
  if (s.tick t).barred m.val then .next (s.tick t).postedUr else
  let s := s.tick t
  if m.val = 0 then .next (s.wr F.MTX_ROT_R0 (bits v.toNat 0 3))
  else .next (s.wr { addr := 0x40020030, lo := 0, w := 27 } (bits v.toNat 0 27))

/-- The default target answers an access with an error response (R296, R297). -/
def execDefaultTargetError (t : Nat) (m : Master) (addr : W32) (write : Bool) (cause : BitVec 3) (s : State) : Res :=
  if (s.tick t).barred m.val then .next ((s.tick t).tellMaster m.val write) else
  .next ((s.tick t).busError m.val addr.toNat write cause.toNat)

end Sys2Proof.Machine
end

