-- ==== Sys2Proof/Machine/Commands.lean ====
section
/-! DEFINITION. Machine/Commands.lean: the opcode table, descriptor checks, replies, notices and the one way a taken
command runs (spec/10, R253 to R283). -/
namespace Sys2Proof

/-- The ring number of a source; the SPI path counts as 2. -/
def Src.num : Src → Nat
  | .ring0 => 0 | .ring1 => 1 | .spi => 2

end Sys2Proof

namespace Sys2Proof.Machine

/-! ### The opcode table -/

/-- The classes of R271; PRT is one class per port, named by the port parameter. -/
inductive Cls where
  | sys | prt | map | sel | tmg | pair | pwr | test | boot | tally | mdc
  deriving DecidableEq, Repr

/-- The opcodes of R278. -/
inductive Opc where
  | echo | getInfo | portConfigure | portEnable | portDisable | portStatus
  | mapWriteRange | mapCommit | mapReadback | mapCheck | mapSnapshot
  | selWrite | selCommand | selStatus | monConfigure
  | timingConfigure | timingRealign | timingStatus
  | pairConfigure | pairSwap | pairStatus | powerBudget | latencyBudget
  | selftest | selftestResult | fwStage | fwActivate | fwConfirm | fwAbort
  | perfConfig | perfDumpNow | mdcRoute | mdcStatus | settingsSave | settingsRestore
  deriving DecidableEq, Repr

/-- One row of R278: code, PLEN (`none`: any multiple of 4 up to 56, R279), whether ACCEPTED comes first, class, whether
a device that does not act answers NOT_LAMP_HOLDER, and whether FLAGS bit 0 has a meaning (R255). -/
structure OpcRow where
  op : Opc
  code : Nat
  plen : Option Nat
  two : Bool
  cls : Cls
  holder : Bool
  opt : Bool
  deriving DecidableEq, Repr

/-- The opcode table (R278; PLEN values given elsewhere are those of spec/12, spec/13 and spec/14). -/
def opcTable : List OpcRow := [
  ⟨.echo, 0x01, none, false, .sys, false, false⟩,
  ⟨.getInfo, 0x02, some 0, false, .sys, false, false⟩,
  ⟨.portConfigure, 0x10, some 16, false, .prt, false, true⟩,
  ⟨.portEnable, 0x11, some 4, true, .prt, false, false⟩,
  ⟨.portDisable, 0x12, some 4, true, .prt, false, true⟩,
  ⟨.portStatus, 0x13, some 4, false, .prt, false, false⟩,
  ⟨.mapWriteRange, 0x20, some 20, false, .map, true, false⟩,
  ⟨.mapCommit, 0x21, some 4, true, .map, true, true⟩,
  ⟨.mapReadback, 0x22, some 20, false, .map, false, false⟩,
  ⟨.mapCheck, 0x23, some 4, true, .map, false, false⟩,
  ⟨.mapSnapshot, 0x24, some 0, false, .map, false, false⟩] ++ [
  ⟨.selWrite, 0x30, some 32, false, .sel, true, false⟩,
  ⟨.selCommand, 0x31, some 12, false, .sel, true, false⟩,
  ⟨.selStatus, 0x32, some 16, false, .sel, false, false⟩,
  ⟨.monConfigure, 0x33, some 16, false, .sel, true, false⟩,
  ⟨.timingConfigure, 0x40, some 16, false, .tmg, true, false⟩,
  ⟨.timingRealign, 0x41, some 8, true, .tmg, true, false⟩,
  ⟨.timingStatus, 0x42, some 0, false, .tmg, false, false⟩,
  ⟨.pairConfigure, 0x50, some 12, false, .pair, false, false⟩,
  ⟨.pairSwap, 0x51, some 0, true, .pair, true, false⟩,
  ⟨.pairStatus, 0x52, some 0, false, .pair, false, false⟩,
  ⟨.powerBudget, 0x60, some 4, false, .pwr, false, false⟩,
  ⟨.latencyBudget, 0x61, some 12, false, .pwr, false, false⟩] ++ [
  ⟨.selftest, 0x70, some 8, true, .test, false, false⟩,
  ⟨.selftestResult, 0x71, some 4, false, .test, false, false⟩,
  ⟨.fwStage, 0x80, some 20, true, .boot, false, false⟩,
  ⟨.fwActivate, 0x81, some 8, true, .boot, false, false⟩,
  ⟨.fwConfirm, 0x82, some 4, false, .boot, false, false⟩,
  ⟨.fwAbort, 0x83, some 4, false, .boot, false, false⟩,
  ⟨.perfConfig, 0x90, some 24, false, .tally, false, false⟩,
  ⟨.perfDumpNow, 0x91, some 0, false, .tally, false, false⟩,
  ⟨.mdcRoute, 0xA0, some 24, false, .mdc, false, false⟩,
  ⟨.mdcStatus, 0xA1, some 4, false, .mdc, false, false⟩,
  ⟨.settingsSave, 0xB0, some 8, true, .boot, false, false⟩,
  ⟨.settingsRestore, 0xB1, some 16, true, .boot, false, false⟩]

/-- The code of a status (R281). -/
def Status.code : Status → Nat
  | .ok => 0x00 | .accepted => 0x01 | .badOpcode => 0x10 | .badParam => 0x11 | .noResource => 0x12 | .busy => 0x13
  | .busyOtherSource => 0x14 | .notLampHolder => 0x15 | .staleMirror => 0x16 | .timeout => 0x17
  | .resetDiscarded => 0x18 | .mapBankBudget => 0x20 | .mapEcc => 0x21 | .commitTooLate => 0x22
  | .settingsUnreadable => 0x30 | .fwReverted => 0x31 | .authFail => 0x32 | .trialPending => 0x33
  | .selftestRefused => 0x40

/-! ### Descriptors (R254, R255) -/

/-- Word `i` of a descriptor or of a list of words; a missing word is zero. -/
def word (d : List W32) (i : Nat) : Nat := (d.getD i 0).toNat

/-- OPCODE of a descriptor. -/
def opcode (d : List W32) : Nat := bits (word d 0) 0 16
/-- TAG of a descriptor. -/
def tagOf (d : List W32) : Nat := bits (word d 0) 16 16
/-- FLAGS of a descriptor. -/
def flagsOf (d : List W32) : Nat := bits (word d 1) 0 16
/-- FLAGS bit 0: OPT. -/
def optOf (d : List W32) : Bool := bitOf (word d 1) 0
/-- FLAGS bit 15: FENCE. -/
def fenceOf (d : List W32) : Bool := bitOf (word d 1) 15
/-- PLEN of a descriptor. -/
def plenOf (d : List W32) : Nat := bits (word d 1) 16 16
/-- A 64-bit parameter in words `i` and `i + 1` (R254). -/
def word64 (d : List W32) (i : Nat) : W64 := BitVec.ofNat 64 (word d i + 0x100000000 * word d (i + 1))

/-- The row of an opcode code; the boot ROM in recovery knows five opcodes (R347). -/
def findOpc (c : Nat) : Option OpcRow := opcTable.find? fun r => r.code == c

/-- The row of an opcode; every opcode has one. -/
def Opc.row (o : Opc) : OpcRow := (opcTable.find? fun r => r.op == o).getD ⟨.echo, 0x01, none, false, .sys, false, false⟩

/-- The device is in recovery (R347). -/
def State.recovery (s : State) : Bool := decide (s.rd F.BOOT_STATUS_PHASE = 4)

/-- The opcodes that the boot ROM executes in recovery (R347). -/
def Opc.inRom : Opc → Bool
  | .echo | .getInfo | .fwStage | .fwActivate | .fwAbort => true
  | _ => false

/-- FLAGS and PLEN are as the opcode demands (R255; R258, step 2). -/
def formOk (r : OpcRow) (d : List W32) : Bool :=
  bits (flagsOf d) 1 14 == 0 && (r.opt || !optOf d) &&
    (match r.plen with
      | some n => plenOf d == n
      | none => plenOf d % 4 == 0 && decide (plenOf d ≤ 56))

/-- The replies that a command may still give (R263). -/
def Taken.repliesLeft (k : Taken) : Nat :=
  match k.phase, findOpc (opcode k.d) with
  | .accepted, _ => 1
  | _, some r => if r.two then 2 else 1
  | _, none => 1

/-! ### Notices (R265 to R269) -/

/-- MSI-X vector `v` is sent; while the host masks it, its pending bit is set instead (R269). -/
def State.sendVector (s : State) (v : Nat) : State :=
  if bitOf s.mbx.cfg.mask.toNat v then
    { s with mbx := { s.mbx with msixPend := insertBits s.mbx.msixPend v 1 1 } }
  else s.emit (.msix v)

/-- A device notice bit that is set becomes unmasked, or one that is unmasked becomes set: it sends vector n mod V (R269). -/
def State.notifyHost (s : State) (ch : Nat) : State :=
  if s.bitAt F.D2H_MASK_MASK ch = true ∨ s.mbx.cfg.vecs = 0 then s else s.sendVector (ch % s.mbx.cfg.vecs)

/-- The host sets up the PCIe configuration space; a pending vector that it unmasks is sent (R269). -/
def State.setPcie (s : State) (c : Option PcieCfg) : State :=
  match c with
  | none => s
  | some c =>
    let s := { s with mbx := { s.mbx with cfg := c } }
    (List.range 32).foldl (fun s v =>
      if bitOf s.mbx.msixPend.toNat v && !bitOf c.mask.toNat v then
        { s with mbx := { s.mbx with msixPend := insertBits s.mbx.msixPend v 1 0 } }.emit (.msix v)
      else s) s

/-- The device posts a notice on a channel (R265); the post tick of an untaken notice is kept (R268). -/
def State.postNotice (s : State) (ch : Nat) (a : W64) (len tag : Nat) : State :=
  let s := s.wr (F.D2H_NOTICE_ADDR_LO_ADDR_LO ch) (bits a.toNat 0 32)
  let s := s.wr (F.D2H_NOTICE_ADDR_HI_ADDR_HI ch) (bits a.toNat 32 32)
  let s := s.wr (F.D2H_NOTICE_LEN_LEN ch) len
  let s := s.wr (F.D2H_NOTICE_TAG_TAG ch) tag
  if s.bitAt F.D2H_DB_DB ch then s
  else
    let s := s.setBitAt F.D2H_DB_DB ch true
    let s := { s with mbx := { s.mbx with dPost := Store.put (fun _ => none) s.mbx.dPost ch (some s.now) } }
    s.notifyHost ch

/-! ### Rings -/

/-- A ring's state outside its registers. -/
def State.ring (s : State) (r : Nat) : Ring := if r = 0 then s.mbx.ring0 else s.mbx.ring1

/-- Set a ring's state outside its registers. -/
def State.setRing (s : State) (r : Nat) (x : Ring) : State :=
  if r = 0 then { s with mbx := { s.mbx with ring0 := x } } else { s with mbx := { s.mbx with ring1 := x } }

/-- The size of a command ring in descriptors (R261). -/
def State.cmdSize (s : State) (r : Nat) : Nat := 2 ^ s.rd (F.MBX_RING_CTRL_CK r)
/-- The size of a reply ring in replies (R261). -/
def State.rplSize (s : State) (r : Nat) : Nat := 2 ^ s.rd (F.MBX_RING_CTRL_RK r)
/-- The base of a command ring. -/
def State.cmdBase (s : State) (r : Nat) : Nat := s.rd (F.CMD_BASE_LO_ADDR r) + 0x100000000 * s.rd (F.CMD_BASE_HI_ADDR r)
/-- The base of a reply ring. -/
def State.rplBase (s : State) (r : Nat) : Nat := s.rd (F.RPL_BASE_LO_ADDR r) + 0x100000000 * s.rd (F.RPL_BASE_HI_ADDR r)

/-- Replies a source holds in reserve for commands without their final reply (R263). Replies that will be discarded
hold no ring space (R276). -/
def State.reserved (s : State) (src : Src) : Nat :=
  ((s.mbx.taken.filter fun k => decide (k.src = src) && (decide (src = .spi) ||
      (decide (k.epoch.toNat = s.rd F.MBX_EPOCH_EPOCH) && !k.drop))).map Taken.repliesLeft).sum

/-- Replies written and not yet consumed by the host (R263). -/
def State.rplUsed (s : State) (src : Src) : Nat :=
  match src with
  | .spi => s.mbx.spiFifo.length
  | _ => (BitVec.ofNat 16 (s.rd (F.RPL_PI_PI src.num)) - BitVec.ofNat 16 (s.rd (F.RPL_CI_CI src.num)) : W16).toNat

/-- The replies a source's reply path holds. -/
def State.rplRoom (s : State) (src : Src) : Nat :=
  match src with
  | .spi => 8
  | _ => s.rplSize src.num

/-- A source's reply path has room for `need` more replies beside those reserved (R263). -/
def State.hasRoom (s : State) (src : Src) (need : Nat) : Bool :=
  decide (s.rplUsed src + s.reserved src + need ≤ s.rplRoom src)

/-- MBX_STATUS.RPLn_FULL of a ring. -/
def rplFull (r : Nat) : Fld := { addr := 0x40010004, lo := 1 + r, w := 1 }

/-- A stalled ring starts again once it has room (R263). -/
def State.unstall (s : State) (r : Nat) : State :=
  let src := if r = 0 then Src.ring0 else Src.ring1
  if s.flag (rplFull r) && s.hasRoom src (s.ring r).need then s.setFlag (rplFull r) false else s

/-! ### Replies (R259 to R263, R267, R276, R277) -/

/-- PHASE of the reply at index `i` in a ring of `size` replies (R263). -/
def phaseOf (i size : Nat) : Nat := (i / size + 1) % 2

/-- The eight words of a reply (R259). -/
def replyWords (k : Taken) (st : Status) (final : Bool) (phase : Nat) (fn : W16) (ws : List W32) : List W32 :=
  [k.d.getD 0 0,
   BitVec.ofNat 32 (st.code + 0x100 * b2n final + 0x8000 * phase + 0x10000 * k.src.num),
   k.epoch, BitVec.ofNat 32 fn.toNat, ws.getD 0 0, ws.getD 1 0, ws.getD 2 0, ws.getD 3 0]

/-- A reply at RPL_PI stays inside the ring as RPL_CI stands (R263). -/
def State.rplFits (s : State) (r : Nat) : Bool :=
  decide ((BitVec.ofNat 16 (s.rd (F.RPL_PI_PI r)) - BitVec.ofNat 16 (s.rd (F.RPL_CI_CI r)) : W16).toNat < s.rplSize r)

/-- Write a reply to its source's reply path; `ok`: a host-memory write succeeds. A reply that finds no room, because the host moved
RPL_CI, is lost and counted (log entry 82). -/
def State.sendReply (s : State) (k : Taken) (st : Status) (final : Bool) (ws : List W32) (ok : Bool) : State :=
  match k.src with
  | .spi =>
    let w := replyWords k st final (phaseOf s.mbx.spiPi.toNat 8) s.fn ws
    { s with mbx := { s.mbx with spiFifo := s.mbx.spiFifo ++ [w], spiPi := s.mbx.spiPi + 1 } }
  | _ =>
    let r := k.src.num
    if k.drop || decide (k.epoch.toNat ≠ s.rd F.MBX_EPOCH_EPOCH) || !s.rplFits r then s.inc F.MBX_RPL_DISCARD_COUNT 1
    else
      let pi := s.rd (F.RPL_PI_PI r)
      let slot := fun (i : Nat) => BitVec.ofNat 64 (s.rplBase r + 32 * (i % s.rplSize r))
      let w := replyWords k st final (phaseOf pi (s.rplSize r)) s.fn ws
      match s.devWrite 5 (slot pi) (wordsBytes w) ok with
      | .error s => (s.inc F.MBX_RPL_DISCARD_COUNT 1).raise { addr := 0x4001002C, lo := 5 + r, w := 1 }
      | .ok s =>
        let s := s.bump (F.RPL_PI_PI r) 1
        let first := (s.ring r).ntf
        let new := BitVec.ofNat 16 (s.rd (F.RPL_PI_PI r))
        s.postNotice r (slot first.toNat) (32 * (new - first : W16).toNat) new.toNat

/-- Replace command number `i` of the taken list, or drop it. -/
def setTaken (l : List Taken) (i : Nat) (k : Option Taken) : List Taken :=
  match k with
  | some k => l.set i k
  | none => l.eraseIdx i

/-- Change one taken command. -/
def State.retake (s : State) (i : Nat) (k : Option Taken) : State :=
  { s with mbx := { s.mbx with taken := setTaken s.mbx.taken i k } }

/-- A final reply to taken command `i` (R260). -/
def State.finish (s : State) (i : Nat) (k : Taken) (st : Status) (ws : List W32) (ok : Bool) : State :=
  let s := (s.sendReply k st true ws ok).retake i none
  match k.src with
  | .spi => s
  | _ => s.unstall k.src.num

/-- The ACCEPTED reply to taken command `i` (R260). -/
def State.accept (s : State) (i : Nat) (k : Taken) (ws : List W32) (ok : Bool) : State :=
  (s.sendReply k .accepted false ws ok).retake i (some { k with phase := .accepted })

/-! ### Starting commands (R271, R272) -/

/-- The class of a command, with the port for PRT commands (R271); `lowest` maps a port to the lowest lane of its
bond. -/
def classOf (lowest : Nat → Nat) (d : List W32) : Option (Cls × Nat) :=
  (findOpc (opcode d)).map fun r => (r.cls, if r.cls = .prt then lowest (bits (word d 2) 0 6) else 0)

/-- The lowest lane of the bonded port that lane `p` belongs to (R150, R271). -/
def State.lowest (s : State) (p : Nat) : Nat :=
  if s.flag (F.PRT_CFG_BOND_MEMBER p) then p / 4 * 4 else p

/-- Command `k` answers BUSY while the earlier command `j` works, before `j` has given its reply (R76, R83): MAP_CHECK or MAP_COMMIT
during a MAP_SNAPSHOT. -/
def passes (j k : Taken) : Bool :=
  decide (j.phase = .working) && opcode j.d == Opc.mapSnapshot.row.code &&
    (opcode k.d == Opc.mapCommit.row.code || opcode k.d == Opc.mapCheck.row.code)

/-- What a command of another class changes as well (R272): 0 the map pages, selectors, monitors and groups, 1 + p a port. -/
def changes (lowest : Nat → Nat) (d : List W32) : List Nat :=
  match classOf lowest d with
  | some (.map, _) | some (.sel, _) => [0]
  | some (.prt, p) => [1 + p]
  | some (.test, _) =>
    let test := bits (word d 2) 0 8
    if test = 0x10 then [1 + lowest (bits (word d 2) 8 6)] else if test = 0x11 then List.range 49 else []
  | _ => []

/-- The earlier command `j`, not started yet, changes the same state as `k` (R272; log entry 83). -/
def clashes (lowest : Nat → Nat) (j k : Taken) : Bool :=
  decide (j.phase = .waiting) && (changes lowest j.d).any fun a => (changes lowest k.d).contains a

/-- Command `i` of the list may start: it is waiting, no earlier command of its class lacks its first reply, none that changes the same
state waits, and with FENCE no earlier command of its source lacks its final reply (R255, R271, R272; log entry 67). -/
def startable (lowest : Nat → Nat) (before : List Taken) (k : Taken) : Bool :=
  decide (k.phase = .waiting) && !k.lost &&
    before.all fun j => !(clashes lowest j k || (decide (classOf lowest j.d = classOf lowest k.d) && decide (j.phase ≠ .accepted) && !passes j k) ||
      (fenceOf k.d && decide (j.src = k.src)))

/-- The oldest startable command of an opcode and a source, with its place in the taken list. -/
def pickFrom (lowest : Nat → Nat) (code : Nat) (src : Src) : List Taken → List Taken → Option (Nat × Taken)
  | _, [] => none
  | before, k :: rest =>
    if decide (opcode k.d = code) && decide (k.src = src) && startable lowest before k then some (before.length, k)
    else pickFrom lowest code src (before ++ [k]) rest

/-- The command that a row of an opcode carries out. Firmware must be running (R253). -/
def State.pick (s : State) (o : Opc) (src : Src) : Option (Nat × Taken) :=
  if s.flag F.MBX_STATUS_FW_RUN then pickFrom s.lowest o.row.code src [] s.mbx.taken else none

/-- What the work of a command answers: a refusal, which applies nothing; one final reply; ACCEPTED; work whose
single reply comes later; or any of these after the read of its input buffer left a state. -/
inductive Ans where
  | refuse (st : Status)
  | refuseWith (st : Status) (ws : List W32)
  | ok (s : State) (ws : List W32)
  | accepted (s : State) (ws : List W32)
  | later (s : State)
  | since (s : State) (a : Ans)

/-- The reply and the state that an answer brings to taken command `i`. -/
def Ans.settle (i : Nat) (k : Taken) (ok : Bool) : Ans → State → State
  | .refuse st, s => s.finish i k st [] ok
  | .refuseWith st ws, s => s.finish i k st ws ok
  | .ok s' ws, _ => s'.finish i k .ok ws ok
  | .accepted s' ws, _ => s'.accept i k ws ok
  | .later s', _ => s'.retake i (some { k with phase := .working })
  | .since u a, _ => a.settle i k ok u

/-- The work that follows the read of a command's input buffer; a read that fails ends it with TIMEOUT (R257). -/
def Ans.reading {α : Type} (r : Except State (State × α)) (f : State → α → Ans) : Ans :=
  match r with
  | .error u => .since u (.refuse .timeout)
  | .ok (u, bs) => .since u (f u bs)

/-- The end of a command whose output buffer is written (R257). -/
def Ans.written (r : Except State State) (f : State → Ans) : Ans :=
  match r with
  | .error u => .since u (.refuse .timeout)
  | .ok u => f u

/-- Carry out the oldest startable command of an opcode (R258): FLAGS and PLEN, the parameters (step 2), a device that
does not act (step 3), then the work (step 4). Nothing waiting: nothing happens. -/
def State.run (s : State) (o : Opc) (x : Exe) (params : State → List W32 → Bool)
    (work : State → List W32 → Ans) : State :=
  let s := s.tick x.t
  match s.pick o x.src with
  | none => s
  | some (i, k) =>
    if !(formOk o.row k.d && params s k.d) then s.finish i k .badParam [] x.rplOk
    else if o.row.holder && !s.acting then s.finish i k .notLampHolder [] x.rplOk
    else (work s k.d).settle i k x.rplOk s

/-- The first command of the list that has an opcode, is past its start and is still without its outcome, with its
place. -/
def findRunning (code : Nat) : List Taken → Nat → Option (Nat × Taken)
  | [], _ => none
  | k :: rest, i =>
    if decide (opcode k.d = code) && decide (k.phase ≠ .waiting) && k.done.isNone && !k.lost then some (i, k)
    else findRunning code rest (i + 1)

/-- The outcome of started command `i`: the final reply now, or kept for the restarted firmware (R275). -/
def State.outcome (s : State) (i : Nat) (k : Taken) (st : Status) (ws : List W32) (ok : Bool) : State :=
  if s.flag F.MBX_STATUS_FW_RUN then s.finish i k st ws ok
  else s.retake i (some { k with done := some (st, ws) })

/-- The outcome of the oldest started command of an opcode (R260); nothing if there is none. -/
def State.complete (s : State) (o : Opc) (st : Status) (ws : List W32) (ok : Bool) : State :=
  match findRunning o.row.code s.mbx.taken 0 with
  | none => s
  | some (i, k) => s.outcome i k st ws ok

/-- The final reply of the started command of an opcode that names port `p`. -/
def State.completePort (s : State) (o : Opc) (p : Nat) (st : Status) (ws : List W32) (ok : Bool) : State :=
  match (s.mbx.taken.findIdx? fun k =>
      decide (opcode k.d = o.row.code) && decide (k.phase ≠ .waiting) && k.done.isNone && !k.lost
        && decide (bits (word k.d 2) 0 6 = p)) with
  | none => s
  | some i => match s.mbx.taken[i]? with
    | none => s
    | some k => s.outcome i k st ws ok

/-- A command of the opcode is past its start and without its final reply. -/
def State.running (s : State) (o : Opc) : Bool := (findRunning o.row.code s.mbx.taken 0).isSome

/-- The reserved bits of a parameter word are zero: only bits under the mask may be set (R12). -/
def onlyBits (w mask : Nat) : Bool := w &&& mask == w

end Sys2Proof.Machine
end

