-- ==== Sys2Proof/Machine/Count.lean ====
section
/-! DEFINITION. Machine/Count.lean: programmable counters of the tally count events (spec/13 R326 to R329). -/
namespace Sys2Proof.Machine

/-- The EVT word of tally counter `n`. -/
def State.tallyEvt (s : State) (n : Nat) : Nat := (s.reg (0x40040100 + 8 * n)).toNat
/-- EVENT of an EVT word. -/
def evEvent (e : Nat) : Nat := bits e 0 8
/-- ARG of an EVT word. -/
def evArg (e : Nat) : Nat := bits e 8 11
/-- MODE of an EVT word. -/
def evMode (e : Nat) : Nat := bits e 19 2
/-- EN of an EVT word. -/
def evEn (e : Nat) : Bool := bitOf e 22

/-- Tally counter `i` adds `n` (R327): a wrap sets OVF, and WRAPS saturates at 15. -/
def State.tallyAdd (s : State) (i n : Nat) : State :=
  let c := s.rd (F.TALLY_CNT_COUNT i) + n
  let s := s.wr (F.TALLY_CNT_COUNT i) c
  if c < 2 ^ 32 then s
  else ((s.wr (F.TALLY_CNT_ST_WRAPS i) (min 15 (s.rd (F.TALLY_CNT_ST_WRAPS i) + c / 2 ^ 32))).raise
    (F.TALLY_CNT_ST_OVF i)).raise F.TALLY_INT_OVF

/-- `n` count events of a code and argument happen (R328, R329): every counter in use that is defined by them counts. -/
def State.count (s : State) (code arg n : Nat) : State :=
  if n = 0 then s
  else (List.range 64).foldl (fun s i =>
    let e := s.tallyEvt i
    if evEn e && decide (evEvent e = code) && decide (evMode e = 0) && decide (evArg e = arg) then s.tallyAdd i n else s) s

end Sys2Proof.Machine
end

