-- ==== Sys2Proof/Machine/Mailbox.lean ====
section
/-! DEFINITION. Machine/Mailbox.lean: notices, rings, the SPI path, the event summary, host and firmware resets of the
MBX block (spec/10). -/
namespace Sys2Proof.Machine

/-- Change the MBX state outside its registers. -/
def State.mapMbx (s : State) (f : Mbx → Mbx) : State := { s with mbx := f s.mbx }

/-! ### ECHO (R279) -/

/-- ECHO returns parameter words 2 to 5 as far as PLEN reaches and changes nothing (R279). -/
def echoWords (d : List W32) : List W32 :=
  (List.range 4).map fun i => if 4 * i < plenOf d then d.getD (2 + i) 0 else 0

/-- ECHO (R279). -/
def execEcho (x : Exe) (s : State) : Res :=
  .next (s.run .echo x (fun _ _ => true) fun s d => .ok s (echoWords d))

/-! ### Host-to-device notices -/

/-- The H2D_NOTICE slot word `w` of channel `ch`. -/
def h2dWord (ch w : Nat) : Nat := 0x40010100 + 16 * ch + 4 * w

/-- What master `m` has staged for a register (R295). -/
def State.stagedAt (s : State) (m a : Nat) : Option W32 := Store.get (fun _ => none) s.mbx.staged (0x100000000 * m + a)

/-- Stage a word for an atomic group (R295). -/
def State.stage (s : State) (m a : Nat) (v : Option W32) : State :=
  s.mapMbx fun b => { b with staged := Store.put (fun _ => none) b.staged (0x100000000 * m + a) v }

/-- Apply the words that master `m` staged for the registers of a group (R295). -/
def State.applyStaged (s : State) (m : Nat) : List Nat → State
  | [] => s
  | a :: as =>
    match s.stagedAt m a with
    | none => s.applyStaged m as
    | some v => ((s.plainWrite a v).stage m a none).applyStaged m as

/-- A write of word `w` of H2D notice slot `ch` (R265, R295): staged until the TAG word, ignored with SLOT_BUSY on channels 2 to 31
while the doorbell bit is set. -/
def State.noticeWrite (s : State) (m ch w : Nat) (v : W32) : State :=
  if 2 ≤ ch ∧ s.bitAt F.H2D_DB_DB ch = true then s.raise F.MBX_ERR_SLOT_BUSY
  else
    let s := s.stage m (h2dWord ch w) (some v)
    if w = 3 then s.applyStaged m [h2dWord ch 0, h2dWord ch 1, h2dWord ch 2, h2dWord ch 3] else s

/-- H2D_NOTICE_WRITE (R265, R295). -/
def execH2dNoticeWrite (t : Nat) (m : Master) (ch : Fin 32) (w : Fin 4) (v : W32) (s : State) : Res :=
  if (s.tick t).barred m.val then .next (s.tick t).postedUr else .next ((s.tick t).noticeWrite m.val ch.val w.val v)

/-- One channel's doorbell bit is set: a notice is posted and its time starts unless it was posted already (R265, R268). -/
def State.postHost (s : State) (ch : Nat) : State :=
  if s.bitAt F.H2D_DB_DB ch then s
  else (s.setBitAt F.H2D_DB_DB ch true).mapMbx fun b =>
    { b with hPost := Store.put (fun _ => none) b.hPost ch (some s.now) }

/-- A write of H2D_DB sets the bits written as 1 (R265). A fetch that failed on a ring is tried again once a new notice
is posted (R262). -/
def execH2dNoticePost (t : Nat) (m : Master) (v : W32) (s : State) : Res :=
  if (s.tick t).barred m.val then .next (s.tick t).postedUr else
  .next ((List.range 32).foldl (fun s ch => if bitOf v.toNat ch then s.postHost ch else s) (s.tick t))

/-- The host takes one device notice (R265); the taken notice of a ring has told the host of all replies up to its TAG
(R267), that of channel 3 of all dumps (R332). -/
def State.takeD2h (s : State) (ch : Nat) : State :=
  if s.bitAt F.D2H_DB_DB ch then
    let s := (s.setBitAt F.D2H_DB_DB ch false).mapMbx fun b =>
      { b with dPost := Store.put (fun _ => none) b.dPost ch none }
    if ch < 2 then s.setRing ch { s.ring ch with ntf := BitVec.ofNat 16 (s.rd (F.D2H_NOTICE_TAG_TAG ch)) }
    else if ch = 3 then { s with tally := { s.tally with ntf := BitVec.ofNat 16 (s.rd (F.D2H_NOTICE_TAG_TAG ch)) } }
    else s
  else s

/-- A host write of D2H_DB takes the notices whose bits are written as 1 (R265). -/
def execD2hNoticeTake (t : Nat) (m : Master) (v : W32) (s : State) : Res :=
  if (s.tick t).barred m.val then .next (s.tick t).postedUr else
  .next ((List.range 32).foldl (fun s ch => if bitOf v.toNat ch then s.takeD2h ch else s) (s.tick t))

/-- The notice in H2D slot `r` matches the ring's CMD_CI (R262). -/
def State.noticeMatches (s : State) (r : Nat) : Bool :=
  let ci := s.rd (F.CMD_IDX_CMD_CI r)
  let tag := s.rd (F.H2D_NOTICE_TAG_TAG r)
  let len := s.rd (F.H2D_NOTICE_LEN_LEN r)
  let addr := s.rd (F.H2D_NOTICE_ADDR_LO_ADDR_LO r) + 0x100000000 * s.rd (F.H2D_NOTICE_ADDR_HI_ADDR_HI r)
  decide (len ≤ 64 * s.cmdSize r) && decide (addr = s.cmdBase r + 64 * (ci % s.cmdSize r)) &&
    decide (len = 64 * (BitVec.ofNat 16 tag - BitVec.ofNat 16 ci : W16).toNat)

/-- The bit of a host notice is cleared: it is taken (R265). -/
def State.clearHost (s : State) (ch : Nat) : State :=
  (s.setBitAt F.H2D_DB_DB ch false).mapMbx fun b => { b with hPost := Store.put (fun _ => none) b.hPost ch none }

/-- The device takes the notice of ring `r` and checks it (R262). -/
def State.takeRingNotice (s : State) (r : Nat) : State :=
  let tag := s.rd (F.H2D_NOTICE_TAG_TAG r)
  let s := s.clearHost r
  let s := s.setRing r { s.ring r with lastTag := BitVec.ofNat 32 tag }
  if s.noticeMatches r then s.setRing r { s.ring r with prod := BitVec.ofNat 16 tag, stop := false }
  else s.raise { addr := 0x4001002C, lo := r, w := 1 }

/-- The device takes a posted host notice (R262, R265, R266): a ring's notice while its EN is 1, the debug channel's
while the fuse is not blown; reserved channels are never taken. -/
def execH2dNoticeTake (t : Nat) (ch : Fin 32) (s : State) : Res :=
  let s := s.tick t
  if s.bitAt F.H2D_DB_DB ch.val = true ∧ s.flag F.MBX_STATUS_FW_RUN = true ∧ s.bitAt F.H2D_MASK_MASK ch.val = false then
    if ch.val < 2 then
      if s.flag (F.MBX_RING_CTRL_EN ch.val) then .next (s.takeRingNotice ch.val) else .next s
    else if ch.val = 31 ∧ s.flag F.FUSE_CFG_DEBUG_DISABLE = false then .next (s.clearHost 31)
    else .next s
  else .next s

/-! ### Notice timing (R268) -/

/-- MBX_STATUS.TMO_HOLD is set: the time of host notices stands still (R268). -/
def State.holdNotices (s : State) : State :=
  if s.flag F.MBX_STATUS_TMO_HOLD then s
  else (s.setFlag F.MBX_STATUS_TMO_HOLD true).mapMbx fun b => { b with holdAt := s.now }

/-- TMO_HOLD returns to 0: the time of host notices resumes where it stopped (R268). -/
def State.releaseNotices (s : State) : State :=
  if s.flag F.MBX_STATUS_TMO_HOLD then
    (s.setFlag F.MBX_STATUS_TMO_HOLD false).mapMbx fun b =>
      { b with hPost := b.hPost.map fun e => (e.1, e.2.map fun p => p + (s.now - max p b.holdAt)) }
  else s

/-- A notice that is not taken within MBX_TMO_CFG.MS milliseconds sets its sender's flag (R268). -/
def execNoticeTimeout (t : Nat) (host : Bool) (ch : Fin 32) (s : State) : Res :=
  let s := s.tick t
  let due : Option Nat → Bool := fun p => match p with
    | none => false
    | some p => decide (p + s.rd F.MBX_TMO_CFG_MS * msTicks ≤ s.now)
  if host then
    if s.flag F.MBX_STATUS_TMO_HOLD = false ∧ due (Store.get (fun _ => none) s.mbx.hPost ch.val) = true then
      let s := s.mapMbx fun b => { b with hPost := Store.put (fun _ => none) b.hPost ch.val none }
      if s.bitAt F.H2D_TMO_TMO ch.val then .next s
      else .next ((s.setBitAt F.H2D_TMO_TMO ch.val true).raise F.MBX_ERR_TMO_NEW)
    else .next s
  else if due (Store.get (fun _ => none) s.mbx.dPost ch.val) = true then
    .next ((s.mapMbx fun b => { b with dPost := Store.put (fun _ => none) b.dPost ch.val none }).setBitAt
      F.D2H_TMO_TMO ch.val true)
  else .next s

/-! ### Rings (R261 to R264) -/

/-- The size fields of MBX_RING_CTRL; a value outside its range is ignored. -/
def State.setRingSize (s : State) (r : Nat) (v : W32) : State :=
  let ck := bits v.toNat 4 4
  let rk := bits v.toNat 8 4
  let s := if 4 ≤ ck ∧ ck ≤ 12 then s.wr (F.MBX_RING_CTRL_CK r) ck else s
  if 5 ≤ rk ∧ rk ≤ 13 then s.wr (F.MBX_RING_CTRL_RK r) rk else s

/-- Setting EN (R261): the sizes are taken, then CMD_CI, RPL_PI and RPL_CI become 0, and no stale range is left. While EN is 1 the
sizes are ignored. -/
def State.ringEnable (s : State) (r : Nat) (v : W32) : State :=
  if s.flag (F.MBX_RING_CTRL_EN r) then s
  else
    let s := ((s.setRingSize r v).setRing r Ring.reset).setBitAt F.MBX_STALE_STALE r false
    (((s.wr (F.CMD_IDX_CMD_CI r) 0).wr (F.RPL_PI_PI r) 0).wr (F.RPL_CI_CI r) 0).raise (F.MBX_RING_CTRL_EN r)

/-- The firmware starts to hand a host bank that passed to M1 back to M0 (R350, R300). -/
def State.handBack (s : State) (b : Nat) : State :=
  if s.owner b = 1 ∧ Store.get (fun _ => none) s.mtx.hand b = none ∧ s.flag F.MBX_STATUS_FW_RUN = true ∧ s.recovery = false then
    { s with mtx := { s.mtx with hand := Store.put (fun _ => none) s.mtx.hand b (some 0) } }
  else s

/-- Write of a ring's control word with EN = 1; ring 0's also brings banks 12 and 13 back to M0 (R261, R350). -/
def State.writeRingOn (s : State) (r : Nat) (v : W32) : State :=
  let s := s.ringEnable r v
  if r = 0 then (s.handBack 12).handBack 13 else s

/-- RING_ENABLE (R261, R350). -/
def execRingEnable (t : Nat) (m : Master) (r : Fin 2) (v : W32) (s : State) : Res :=
  if (s.tick t).barred m.val then .next (s.tick t).postedUr else .next ((s.tick t).writeRingOn r.val v)

/-- The replies of a disabled ring's taken commands will be discarded (R264). -/
def dropOf (r : Nat) (k : Taken) : Taken := if k.src.num = r then { k with drop := true } else k

/-- Clearing EN (R264): no more descriptors, later replies discarded, pending notices on the ring's channels cleared with
their timeout flags. -/
def State.ringDisable (s : State) (r : Nat) (v : W32) : State :=
  if s.flag (F.MBX_RING_CTRL_EN r) then
    let s := (s.setFlag (F.MBX_RING_CTRL_EN r) false).setFlag (rplFull r) false
    let s := s.mapMbx fun b => { b with taken := b.taken.map (dropOf r), dPost := Store.put (fun _ => none) b.dPost r none }
    let s := (s.clearHost r).setBitAt F.D2H_DB_DB r false
    let s := ((s.setBitAt F.H2D_TMO_TMO r false).setBitAt F.D2H_TMO_TMO r false).setBitAt F.MBX_STALE_STALE r false
    s.setRing r { s.ring r with prod := BitVec.ofNat 16 (s.rd (F.CMD_IDX_CMD_CI r)), stale := false }
  else s.setRingSize r v

/-- RING_DISABLE (R264). -/
def execRingDisable (t : Nat) (m : Master) (r : Fin 2) (v : W32) (s : State) : Res :=
  if (s.tick t).barred m.val then .next (s.tick t).postedUr else .next ((s.tick t).ringDisable r.val v)

/-- RPL_CI_WRITE (R263): the host frees reply ring room. -/
def execRplCiWrite (t : Nat) (m : Master) (r : Fin 2) (v : W32) (s : State) : Res :=
  if (s.tick t).barred m.val then .next (s.tick t).postedUr else
  .next (((s.tick t).wr (F.RPL_CI_CI r.val) v.toNat).unstall r.val)

/-! ### Taking descriptors (R258, R262, R263, R272) -/

/-- The replies a descriptor may give (R263). -/
def needOf (d : List W32) : Nat :=
  match findOpc (opcode d) with
  | some r => if r.two then 2 else 1
  | none => 1

/-- A source has a descriptor ready (R272): a ring that has stalled has none, nor has a slot whose replies would find no room. -/
def State.srcReady (s : State) (src : Src) : Bool :=
  match src with
  | .spi => s.mbx.spiSlot.any fun d => s.hasRoom .spi (needOf d)
  | _ =>
    let r := src.num
    s.flag (F.MBX_RING_CTRL_EN r) && !(s.ring r).stop && !s.flag (rplFull r) &&
      decide (s.rd (F.CMD_IDX_CMD_CI r) ≠ (s.ring r).prod.toNat)

/-- The source whose turn it is (R272): from `turn` on, the first that has a descriptor ready. -/
def State.nextSrc (s : State) : Option Src :=
  let order : List Src := match s.mbx.turn % 3 with
    | 0 => [.ring0, .ring1, .spi]
    | 1 => [.ring1, .spi, .ring0]
    | _ => [.spi, .ring0, .ring1]
  order.find? s.srcReady

/-- The descriptor at CMD_CI of a ring (R256, R262): from host memory with the command, from the scratchpad out of the state. -/
def State.fetchDesc (s : State) (r : Nat) (d : Option (List W32)) : Except State (State × List W32) :=
  let a : W64 := BitVec.ofNat 64 (s.cmdBase r + 64 * (s.rd (F.CMD_IDX_CMD_CI r) % s.cmdSize r))
  (s.devRead 5 a 64 (d.map fun ws => ws.flatMap fun w => leBytes w.toNat 4)).map fun x => (x.1, bytesWords x.2)

/-- A descriptor that the device takes now. -/
def State.taken (s : State) (src : Src) (d : List W32) : Taken :=
  { src := src, d := d, epoch := s.reg 0x40010008, phase := .waiting, drop := false, done := none, lost := false, old := false }

/-- Take a descriptor: an unknown opcode is answered at once (R258, step 1), any other waits for its start. -/
def State.intake (s : State) (src : Src) (d : List W32) (ok : Bool) : State :=
  let k := s.taken src d
  match findOpc (opcode d) with
  | none => s.sendReply k .badOpcode true [] ok
  | some r =>
    if s.recovery && !r.op.inRom then s.sendReply k .badOpcode true [] ok
    else s.mapMbx fun b => { b with taken := b.taken ++ [k] }

/-- The descriptor at CMD_CI of ring `r` is inside the stale range of R274. -/
def State.staleHere (s : State) (r : Nat) : Bool :=
  (s.ring r).stale && decide (s.rd (F.CMD_IDX_CMD_CI r) ≠ s.rd (F.CMD_IDX_STALE_PI r))

/-- Descriptor `d` of ring `r` is taken, or the ring stalls; inside the stale range it is answered RESET_DISCARDED (R263, R274). -/
def State.takeDesc (s : State) (r : Nat) (src : Src) (d : List W32) (ok : Bool) : State :=
  if s.hasRoom src (needOf d) then
    let stale := s.staleHere r
    let s := (s.bump (F.CMD_IDX_CMD_CI r) 1).count 0x70 0 1
    let s := if stale then s.sendReply (s.taken src d) .resetDiscarded true [] ok else s.intake src d ok
    if s.staleHere r then s else s.setRing r { s.ring r with stale := false }
  else (s.raise (rplFull r)).setRing r { s.ring r with need := needOf d }

/-- Take the descriptor at CMD_CI of ring `r` (R262); a read that fails stops the ring. -/
def State.takeFromRing (s : State) (r : Nat) (src : Src) (d : Option (List W32)) (ok : Bool) : State :=
  match s.fetchDesc r d with
  | .error s => (s.raise { addr := 0x4001002C, lo := 3 + r, w := 1 }).setRing r { s.ring r with stop := true }
  | .ok (s, d) => s.takeDesc r src d ok

/-- A command taken before a firmware reset is still without its final reply (R275). -/
def State.oldLeft (s : State) : Bool := s.mbx.taken.any fun k => k.old

/-- DESCRIPTOR_TAKE: the firmware takes one descriptor from the source whose turn it is (R262, R263, R272),
none while an activation drains or hands over (R360) or a command of before a firmware reset runs on (R275). -/
def execDescriptorTake (t : Nat) (src : Src) (d : Option (List W32)) (rplOk : Bool) (s : State) : Res :=
  let s := s.tick t
  if s.flag F.MBX_STATUS_FW_RUN = true ∧ s.flag F.MBX_STATUS_TMO_HOLD = false ∧ s.oldLeft = false ∧ s.nextSrc = some src then
    match src with
    | .spi =>
      match s.mbx.spiSlot with
      | none => .next s
      | some d => .next (((s.count 0x70 0 1).mapMbx fun b => { b with spiSlot := none, turn := 0 }).intake .spi d rplOk)
    | src => .next ((s.mapMbx fun b => { b with turn := src.num + 1 }).takeFromRing src.num src d rplOk)
  else .next s

/-! ### The SPI path (R273) -/

/-- SPI STATUS: returns the flags and clears OVERRUN (R273). -/
def execSpiStatus (t : Nat) (s : State) : Res :=
  let s := s.tick t
  let v := b2n s.mbx.spiSlot.isSome + 2 * b2n (!s.mbx.spiFifo.isEmpty) + 4 * b2n s.mbx.spiOver
  let s := s.answer [BitVec.ofNat 8 v]
  .next (s.mapMbx fun b => { b with spiOver := false })

/-- SPI CMD_WRITE: fills the descriptor slot, or sets OVERRUN while it is full (R273). -/
def execCmdWrite (t : Nat) (d : List W32) (s : State) : Res :=
  let s := s.tick t
  if s.mbx.spiSlot.isSome then .next (s.mapMbx fun b => { b with spiOver := true })
  else .next (s.mapMbx fun b => { b with spiSlot := some d })

/-- SPI RPL_READ: pops the oldest reply, or returns zeros (R273). -/
def execRplRead (t : Nat) (s : State) : Res :=
  let s := s.tick t
  match s.mbx.spiFifo with
  | [] => .next (s.answer (List.replicate 32 0))
  | w :: rest => .next ((s.answer (wordsBytes w)).mapMbx fun b => { b with spiFifo := rest })

/-! ### The event summary (R270) -/

/-- The (status, enable) register pairs of the blocks, by summary bit (R270). -/
def blockInts : List (Nat × Nat × Nat) := [
  (1, 0x4001002C, 0x40010038), (2, 0x40020020, 0x40020024), (3, 0x40030030, 0x40030034), (4, 0x40040020, 0x40040024),
  (5, 0x40050030, 0x40050034), (6, 0x40060030, 0x40060034), (7, 0x40070030, 0x40070034), (8, 0x40080050, 0x40080054),
  (9, 0x40090020, 0x40090024), (10, 0x40200010, 0x40200014), (11, 0x40210050, 0x40210054)]

/-- The raised bits of a (status, enable) pair (R270). -/
def State.raised (s : State) (i e : Nat) : W32 := s.reg i &&& s.reg e

/-- Every raised interrupt, as (status register, raised bits), ports included (R270). -/
def State.raisedAll (s : State) : List (Nat × W32) :=
  ((blockInts.map fun b => (b.2.1, s.raised b.2.1 b.2.2)) ++
    ((List.range 48).flatMap fun p =>
      [(prtBase p + 0x40, s.raised (prtBase p + 0x40) (prtBase p + 0x44)),
       (prtBase p + 0x110, s.raised (prtBase p + 0x110) (prtBase p + 0x114))])).filter fun e => e.2 != 0

/-- Some interrupt is raised now that was not raised before (R270). -/
def newlyRaised (old new : List (Nat × W32)) : Bool :=
  new.any fun e => (e.2 &&& ~~~Store.get (fun _ => 0) old e.1) != 0

/-- The 16 bytes of an event summary (R270). -/
def State.summary (s : State) (seq : W16) : List W8 :=
  let blocks := (blockInts.map fun b => if s.raised b.2.1 b.2.2 = 0 then 0 else 2 ^ b.1).sum
  let ports := ((List.range 48).map fun p =>
    if s.raised (prtBase p + 0x40) (prtBase p + 0x44) = 0 ∧ s.raised (prtBase p + 0x110) (prtBase p + 0x114) = 0 then 0
    else 2 ^ p).sum
  leBytes blocks 4 ++ leBytes ports 6 ++ leBytes 0 2 ++ leBytes s.fn.toNat 2 ++ leBytes seq.toNat 2

/-- Look at the raised interrupts before and after a write that may clear or enable them: one that newly became raised in this frame is
kept for the summary (R270). -/
def State.noteRaised (s : State) : State :=
  let now := s.raisedAll
  s.mapMbx fun b => { b with evtPrev := now, evtNew := b.evtNew || newlyRaised b.evtPrev now }

/-- The address of a status or enable register of an interrupt (R270). -/
def isIntReg (a : Nat) : Bool :=
  (blockInts.any fun b => a == b.2.1 || a == b.2.2) ||
    (decide (0x40100000 ≤ a) && decide (a < 0x40130000) && [0x40, 0x44, 0x110, 0x114].contains (a % 0x1000))

/-- Once per frame: a summary and its channel 2 notice if an interrupt has newly become raised and EN is 1 (R270). -/
def State.eventSummary (s : State) (ok : Bool) : State :=
  let s := s.noteRaised
  let new := s.mbx.evtNew
  let s := s.mapMbx fun b => { b with evtNew := false }
  if new && s.flag F.MBX_EVT_ADDR_LO_EN then
    let a : W64 := BitVec.ofNat 64 (8 * s.rd F.MBX_EVT_ADDR_LO_ADDR + 0x100000000 * s.rd F.MBX_EVT_ADDR_HI_ADDR)
    let seq := s.mbx.evtSeq + 1
    match s.devWrite 5 a (s.summary seq) ok with
    | .error s => s
    | .ok s => (s.mapMbx fun b => { b with evtSeq := seq }).postNotice 2 a 16 seq.toNat
  else s

/-- INT_N is driven low (R269). -/
def State.intN (s : State) : Bool := s.flag F.MBX_CTRL_INTN_EN && (s.reg 0x40010018 &&& ~~~s.reg 0x4001001C) != 0

/-- Unmasking a posted device notice sends its MSI-X (R269). -/
def State.writeD2hMask (s : State) (v : W32) : State :=
  let old := s.reg 0x4001001C
  let s := s.setReg 0x4001001C v
  (List.range 32).foldl (fun s ch => if bitOf old.toNat ch && s.bitAt F.D2H_DB_DB ch then s.notifyHost ch else s) s

/-! ### Resets (R274 to R277) -/

/-- The MBX part of a host reset (R276); no stale range can follow it. -/
def State.mbxHostReset (s : State) : State :=
  let s := s.bump F.MBX_EPOCH_EPOCH 1
  let s := ((((s.wr F.H2D_DB_DB 0).wr F.D2H_DB_DB 0).wr F.H2D_TMO_TMO 0).wr F.D2H_TMO_TMO 0).wr F.MBX_STALE_STALE 0
  let s := ((s.setFlag (F.MBX_RING_CTRL_EN 0) false).setFlag (F.MBX_RING_CTRL_EN 1) false).setFlag F.MBX_EVT_ADDR_LO_EN false
  let s := (s.setFlag (rplFull 0) false).setFlag (rplFull 1) false
  let s := s.wr F.D2H_MASK_MASK 0xFFFFFFFF
  let gone := fun (x : Ring) (ci : Nat) =>
    { x with prod := BitVec.ofNat 16 ci, lastTag := BitVec.ofNat 32 ci, stop := false, stale := false }
  s.mapMbx fun b =>
    { b with hPost := [], dPost := [],
             ring0 := gone b.ring0 (s.rd (F.CMD_IDX_CMD_CI 0)), ring1 := gone b.ring1 (s.rd (F.CMD_IDX_CMD_CI 1)) }

/-- FW_RUN changes, which MBX_ERR records (R270). -/
def State.setFwRun (s : State) (b : Bool) : State :=
  if s.flag F.MBX_STATUS_FW_RUN = b then s else (s.setFlag F.MBX_STATUS_FW_RUN b).raise F.MBX_ERR_FW_RUN_CHG

/-- The stale mark of a ring channel at a firmware reset, and the stale range it names (R274). -/
def State.staleRing (s : State) (r : Nat) : State :=
  let posted := s.bitAt F.H2D_DB_DB r
  let pi := if posted then s.rd (F.H2D_NOTICE_TAG_TAG r) else (s.ring r).lastTag.toNat
  let s := s.wr (F.CMD_IDX_STALE_PI r) pi
  if posted || decide (s.rd (F.CMD_IDX_CMD_CI r) ≠ s.rd (F.CMD_IDX_STALE_PI r)) then
    (s.setBitAt F.MBX_STALE_STALE r true).setRing r { s.ring r with stale := true } else s

/-- Whether hardware carries on a started command through a firmware reset (R275). -/
def State.carried (s : State) (k : Taken) : Bool :=
  k.done.isSome || match findOpc (opcode k.d) with
  | none => false
  | some r => match r.op with
    | .mapCheck | .portEnable | .portDisable | .timingRealign | .pairSwap => decide (k.phase = .accepted)
    | .mapCommit => decide (k.phase = .accepted) && decide (3 ≤ s.rd F.MAP_STATUS_STATE)
    | .mapSnapshot => decide (k.phase = .working)
    | _ => false

/-- The MBX part of a firmware reset (R268, R269, R274, R275). -/
def State.mbxFirmwareReset (s : State) : State :=
  let s := s.wr F.MBX_STALE_STALE (s.rd F.MBX_STALE_STALE ||| s.rd F.H2D_DB_DB)
  let s := ((s.staleRing 0).staleRing 1).releaseNotices
  let s := (s.setFwRun false).wr F.H2D_MASK_MASK 0xFFFFFFFF
  s.mapMbx fun b => { b with taken := b.taken.map fun k => { k with old := true, lost := k.lost || !s.carried k } }

/-- H2D_MASK while firmware runs (R269). -/
def State.runMask (s : State) : Nat := if s.flag F.FUSE_CFG_DEBUG_DISABLE then 0xFFFFFFFC else 0x7FFFFFFC

/-- The replies that a restarted firmware owes (R275): kept outcomes and RESET_DISCARDED for the lost commands. -/
def State.oweReplies (ok : Bool) : Nat → State → State
  | 0, s => s
  | fuel + 1, s =>
    match s.mbx.taken.findIdx? (fun k => k.lost || k.done.isSome) with
    | none => s
    | some i => match s.mbx.taken[i]? with
      | none => s
      | some k => match k.done with
        | some (st, ws) => State.oweReplies ok fuel (s.finish i k st ws ok)
        | none => State.oweReplies ok fuel (s.finish i k .resetDiscarded [] ok)

/-- Descriptors of the stale range are answered RESET_DISCARDED while the reply ring has room (R274), after the replies of the commands
that run on (R275). -/
def State.discardStale (r : Nat) (ok : Bool) : List (Option (List W32)) → State → State
  | [], s => s
  | d :: ds, s =>
    if s.staleHere r && s.srcReady (if r = 0 then .ring0 else .ring1) && !s.oldLeft then
      State.discardStale r ok ds (s.takeFromRing r (if r = 0 then .ring0 else .ring1) d ok)
    else s

/-- The stale notice of ring `r` is taken at a restart, or its bit clears where none is posted; a disabled ring's notice stays posted
(R262, R274). -/
def State.restartRing (s : State) (r : Nat) (ds : List (Option (List W32))) (ok : Bool) : State :=
  if s.bitAt F.MBX_STALE_STALE r then
    let posted := s.bitAt F.H2D_DB_DB r
    let en := s.flag (F.MBX_RING_CTRL_EN r)
    let s := if posted && en then s.takeRingNotice r else s
    let s := if posted && !en then s else s.setBitAt F.MBX_STALE_STALE r false
    State.discardStale r ok ds s
  else s

/-- A stale notice on another channel is taken and dropped (R274). -/
def State.dropStale (s : State) (ch : Nat) : State :=
  if s.bitAt F.MBX_STALE_STALE ch && decide (2 ≤ ch) then
    ((s.clearHost ch).setBitAt F.MBX_STALE_STALE ch false).inc F.MBX_STALE_CNT_COUNT 1
  else s

/-- FIRMWARE_RESTART: the firmware runs again, sends the replies it owes, then answers the stale descriptors (R274,
R275); `d0`, `d1`: the stale descriptors as read from rings 0 and 1. -/
def execFirmwareRestart (t : Nat) (d0 d1 : List (Option (List W32))) (rplOk : Bool) (s : State) : Res :=
  let s := s.tick t
  if s.flag F.MBX_STATUS_FW_RUN = true ∨ s.rd F.BOOT_STATUS_PHASE ≠ 2 then .next s
  else
    let s := ((s.setFwRun true).bump F.MBX_STATUS_FW_STARTS 1).wr F.H2D_MASK_MASK s.runMask
    let s := s.oweReplies rplOk s.mbx.taken.length
    let s := (List.range 32).foldl State.dropStale s
    .next ((s.restartRing 0 d0 rplOk).restartRing 1 d1 rplOk)

end Sys2Proof.Machine
end

