-- ==== Sys2Proof/Machine/G711.lean ====
section
/-! DEFINITION. Machine/G711.lean: the code tables of ITU-T G.711 and the sequences of O.150 that the spec refers to
(R37, R79, R398). The spec names the two standards and does not print them: the tables are PRESUMED (log entry 6). -/
namespace Sys2Proof.Machine

/-- A-law level of each µ-law level, levels counted from 1 in the result (G.711 table 3; log entry 6). -/
def u2aTable : List Nat :=
  [1, 1, 2, 2, 3, 3, 4, 4, 5, 5, 6, 6, 7, 7, 8, 8, 9, 10, 11, 12, 13, 14, 15, 16, 17, 18, 19, 20, 21, 22, 23, 24,
   25, 27, 29, 31, 33, 34, 35, 36, 37, 38, 39, 40, 41, 42, 43, 44, 46, 48, 49, 50, 51, 52, 53, 54, 55, 56, 57, 58,
   59, 60, 61, 62, 64, 65, 66, 67, 68, 69, 70, 71, 72, 73, 74, 75, 76, 77, 78, 79, 81, 82, 83, 84, 85, 86, 87, 88,
   89, 90, 91, 92, 93, 94, 95, 96, 97, 98, 99, 100] ++
  [101, 102, 103, 104, 105, 106, 107, 108, 109, 110, 111, 112, 113, 114, 115, 116, 117, 118, 119, 120, 121, 122,
   123, 124, 125, 126, 127, 128]

/-- µ-law level of each A-law level (G.711 table 4; log entry 6). -/
def a2uTable : List Nat :=
  [1, 3, 5, 7, 9, 11, 13, 15, 16, 17, 18, 19, 20, 21, 22, 23, 24, 25, 26, 27, 28, 29, 30, 31, 32, 32, 33, 33, 34,
   34, 35, 35, 36, 37, 38, 39, 40, 41, 42, 43, 44, 45, 46, 47, 48, 48, 49, 49, 50, 51, 52, 53, 54, 55, 56, 57, 58,
   59, 60, 61, 62, 63, 64, 64, 65, 66, 67, 68, 69, 70, 71, 72, 73, 74, 75, 76, 77, 78, 79, 80, 80, 81, 82, 83, 84,
   85, 86, 87, 88, 89, 90, 91, 92, 93, 94, 95, 96, 97, 98, 99] ++
  [100, 101, 102, 103, 104, 105, 106, 107, 108, 109, 110, 111, 112, 113, 114, 115, 116, 117, 118, 119, 120, 121,
   122, 123, 124, 125, 126, 127]

/-- µ-law level of the tone of R398 over the first quarter of its period. -/
def toneU : List Nat :=
  [0, 2, 4, 6, 8, 10, 12, 14, 16, 17, 18, 19, 20, 21, 22, 23, 24, 25, 26, 27, 28, 29, 30, 31, 31, 32, 33, 33, 34,
   34, 35, 35, 36, 36, 37, 37, 38, 38, 39, 39, 39, 40, 40, 41, 41, 42, 42, 43, 43, 44, 44, 45, 45, 46, 46, 47, 47,
   48, 48, 48, 48, 49, 49, 49, 49, 50, 50, 50, 50, 51, 51, 51, 51, 52, 52, 52, 52, 53, 53, 53, 53, 54, 54, 54, 54,
   54, 55, 55, 55, 55, 56, 56, 56, 56, 57, 57, 57, 57, 58, 58] ++
  [58, 58, 59, 59, 59, 59, 59, 60, 60, 60, 60, 61, 61, 61, 61, 62, 62, 62, 62, 63, 63, 63, 63, 63, 63, 64, 64, 64,
   64, 64, 64, 64, 64, 65, 65, 65, 65, 65, 65, 65, 65, 66, 66, 66, 66, 66, 66, 66, 66, 66, 67, 67, 67, 67, 67, 67,
   67, 67, 67, 68, 68, 68, 68, 68, 68, 68, 68, 68, 68, 69, 69, 69, 69, 69, 69, 69, 69, 69, 70, 70, 70, 70, 70, 70,
   70, 70, 70, 70, 71, 71, 71, 71, 71, 71, 71, 71, 71, 72, 72, 72] ++
  [72, 72, 72, 72, 72, 72, 72, 73, 73, 73, 73, 73, 73, 73, 73, 73, 73, 74, 74, 74, 74, 74, 74, 74, 74, 74, 74, 74,
   75, 75, 75, 75, 75, 75, 75, 75, 75, 75, 75, 76, 76, 76, 76, 76, 76, 76, 76, 76, 76, 76, 77, 77, 77, 77, 77, 77,
   77, 77, 77, 77, 77, 78, 78, 78, 78, 78, 78, 78, 78, 78, 78, 78, 78, 79, 79, 79, 79, 79, 79, 79, 79, 79, 79, 79,
   79, 79, 79, 79, 79, 80, 80, 80, 80, 80, 80, 80, 80, 80, 80, 80] ++
  [80, 80, 80, 80, 80, 80, 80, 80, 80, 80, 80, 80, 80, 81, 81, 81, 81, 81, 81, 81, 81, 81, 81, 81, 81, 81, 81, 81,
   81, 81, 81, 81, 81, 81, 81, 81, 81, 81, 81, 81, 81, 81, 81, 81, 81, 82, 82, 82, 82, 82, 82, 82, 82, 82, 82, 82,
   82, 82, 82, 82, 82, 82, 82, 82, 82, 82, 82, 82, 82, 82, 82, 82, 82, 82, 82, 82, 82, 82, 82, 82, 82, 82, 82, 83,
   83, 83, 83, 83, 83, 83, 83, 83, 83, 83, 83, 83, 83, 83, 83, 83] ++
  [83, 83, 83, 83, 83, 83, 83, 83, 83, 83, 83, 83, 83, 83, 83, 83, 83, 83, 83, 83, 83, 83, 83, 83, 83, 83, 83, 83,
   83, 83, 83, 83, 83, 83, 83, 83, 83, 83, 83, 83, 83, 83, 84, 84, 84, 84, 84, 84, 84, 84, 84, 84, 84, 84, 84, 84,
   84, 84, 84, 84, 84, 84, 84, 84, 84, 84, 84, 84, 84, 84, 84, 84, 84, 84, 84, 84, 84, 84, 84, 84, 84, 84, 84, 84,
   84, 84, 84, 84, 84, 84, 84, 84, 84, 84, 84, 84, 84, 84, 84, 84] ++
  [84]

/-- A-law level of the tone of R398 over the first quarter of its period. -/
def toneA : List Nat :=
  [0, 1, 2, 3, 4, 5, 6, 7, 8, 9, 10, 11, 12, 13, 14, 15, 16, 17, 18, 19, 20, 21, 22, 23, 24, 25, 26, 27, 28, 29,
   30, 31, 31, 32, 33, 33, 34, 34, 35, 35, 36, 36, 37, 37, 38, 38, 38, 39, 39, 40, 40, 41, 41, 42, 42, 43, 43, 44,
   44, 45, 45, 46, 46, 47, 47, 48, 48, 48, 48, 49, 49, 49, 49, 50, 50, 50, 50, 51, 51, 51, 51, 52, 52, 52, 52, 53,
   53, 53, 53, 54, 54, 54, 54, 54, 55, 55, 55, 55, 56, 56] ++
  [56, 56, 57, 57, 57, 57, 58, 58, 58, 58, 59, 59, 59, 59, 59, 60, 60, 60, 60, 61, 61, 61, 61, 62, 62, 62, 62, 63,
   63, 63, 63, 63, 63, 64, 64, 64, 64, 64, 64, 64, 64, 65, 65, 65, 65, 65, 65, 65, 65, 66, 66, 66, 66, 66, 66, 66,
   66, 66, 67, 67, 67, 67, 67, 67, 67, 67, 67, 67, 68, 68, 68, 68, 68, 68, 68, 68, 68, 69, 69, 69, 69, 69, 69, 69,
   69, 69, 70, 70, 70, 70, 70, 70, 70, 70, 70, 70, 71, 71, 71, 71] ++
  [71, 71, 71, 71, 71, 71, 72, 72, 72, 72, 72, 72, 72, 72, 72, 72, 73, 73, 73, 73, 73, 73, 73, 73, 73, 73, 74, 74,
   74, 74, 74, 74, 74, 74, 74, 74, 74, 75, 75, 75, 75, 75, 75, 75, 75, 75, 75, 75, 76, 76, 76, 76, 76, 76, 76, 76,
   76, 76, 76, 77, 77, 77, 77, 77, 77, 77, 77, 77, 77, 77, 77, 78, 78, 78, 78, 78, 78, 78, 78, 78, 78, 78, 78, 79,
   79, 79, 79, 79, 79, 79, 79, 79, 79, 79, 79, 79, 79, 79, 79, 79] ++
  [80, 80, 80, 80, 80, 80, 80, 80, 80, 80, 80, 80, 80, 80, 80, 80, 80, 80, 80, 80, 80, 80, 80, 80, 80, 81, 81, 81,
   81, 81, 81, 81, 81, 81, 81, 81, 81, 81, 81, 81, 81, 81, 81, 81, 81, 81, 81, 81, 81, 81, 81, 81, 81, 81, 81, 81,
   81, 81, 82, 82, 82, 82, 82, 82, 82, 82, 82, 82, 82, 82, 82, 82, 82, 82, 82, 82, 82, 82, 82, 82, 82, 82, 82, 82,
   82, 82, 82, 82, 82, 82, 82, 82, 82, 82, 82, 82, 82, 82, 82, 82] ++
  [82, 83, 83, 83, 83, 83, 83, 83, 83, 83, 83, 83, 83, 83, 83, 83, 83, 83, 83, 83, 83, 83, 83, 83, 83, 83, 83, 83,
   83, 83, 83, 83, 83, 83, 83, 83, 83, 83, 83, 83, 83, 83, 83, 83, 83, 83, 83, 83, 83, 83, 83, 83, 83, 83, 83, 83,
   83, 83, 83, 83, 83, 83, 83, 83, 83, 83, 83, 83, 83, 83, 83, 83, 83, 83, 83, 83, 83, 83, 83, 83, 83, 83, 83, 83,
   83, 83, 83, 83, 83, 83, 83, 83, 83, 83, 83, 83, 83, 83, 83, 83] ++
  [83]

/-- µ-law to A-law (R79). -/
def ulawToAlaw (b : W8) : W8 :=
  if 128 ≤ b.toNat then 0xD5 ^^^ BitVec.ofNat 8 (u2aTable.getD (0xFF - b.toNat) 1 - 1)
  else 0x55 ^^^ BitVec.ofNat 8 (u2aTable.getD (0x7F - b.toNat) 1 - 1)

/-- A-law to µ-law (R79). -/
def alawToUlaw (b : W8) : W8 :=
  let x := b ^^^ 0xD5
  if x.toNat < 128 then BitVec.ofNat 8 (0xFF - a2uTable.getD x.toNat 0)
  else BitVec.ofNat 8 (0x7F - a2uTable.getD (b ^^^ 0x55).toNat 0)

/-- Place of input frame `f` in the tone's period of 2,000 steps: negative half, and index into the quarter (R398). -/
def tonePlace (f : Nat) : Bool × Nat :=
  let k := 251 * f % 2000
  let h := k % 1000
  (decide (1000 ≤ k), if h ≤ 500 then h else 1000 - h)

/-- Whether the tone sample of input frame `f` has the negative sign; at its zero crossings both signs are nearest and
the spec does not say which, so the sign there is a free value of the frame's place in the period of 2,000 frames (log entry 1). -/
def toneNegative (f : Nat) : Bool :=
  if (tonePlace f).2 = 0 then Config.toneZero (f % 2000) else (tonePlace f).1

/-- The µ-law tone byte of input frame `f` (R398). -/
def toneByteU (f : Nat) : W8 :=
  (if toneNegative f then 0x7F else 0xFF) ^^^ BitVec.ofNat 8 (toneU.getD (tonePlace f).2 0)

/-- The A-law tone byte of input frame `f` (R398). -/
def toneByteA (f : Nat) : W8 :=
  (if toneNegative f then 0x55 else 0xD5) ^^^ BitVec.ofNat 8 (toneA.getD (tonePlace f).2 0)

/-- The µ-law digital milliwatt (R398; log entry 6). -/
def milliwattU : List W8 := [0x1E, 0x0B, 0x0B, 0x1E, 0x9E, 0x8B, 0x8B, 0x9E]

/-- The A-law digital milliwatt (R398; log entry 6). -/
def milliwattA : List W8 := [0x34, 0x21, 0x21, 0x34, 0xB4, 0xA1, 0xA1, 0xB4]

/-- One shift of a shift register of `n` stages fed back from its last and its next-to-last tapped stage; bit `n - 1` is
the last stage, `tap` the other tapped bit. -/
def lfsrNext (n tap v : Nat) : Nat :=
  let fb := (v.testBit (n - 1) ^^ v.testBit tap).toNat
  (2 * v) % 2 ^ n + fb

/-- `k` shifts. -/
def lfsrRun (n tap : Nat) : Nat → Nat → Nat
  | 0, v => v
  | k + 1, v => lfsrRun n tap k (lfsrNext n tap v)

/-- Eight output bits, MSB first, from the register value `v`. DESIGN CHOICE (log entry 60): the output bit is that of the register's
last stage before each shift, so the first output bits after the all-ones start are those of the register itself. -/
def lfsrByte (n tap : Nat) (v : Nat) : Nat :=
  (List.range 8).foldl (fun acc i => 2 * acc + ((lfsrRun n tap i v).testBit (n - 1)).toNat) 0

/-- Byte of slot `j` of the PRBS 2^15 − 1 pair, `f` input frames after the start, inverted as O.150 says (R37, R398). -/
def prbs15 (j f : Nat) : W8 :=
  ~~~ BitVec.ofNat 8 (lfsrByte 15 13 (lfsrRun 15 13 (8 * (j + f) % 32767) 32767))

/-- Byte of slot `j` of the PRBS 2^11 − 1 pair, `f` input frames after the start (R37, R398). -/
def prbs11 (j f : Nat) : W8 :=
  BitVec.ofNat 8 (lfsrByte 11 8 (lfsrRun 11 8 (8 * (j + f) % 2047) 2047))

end Sys2Proof.Machine
end

