-- ==== Sys2Proof/Machine/LineCode.lean ====
section
/-! DEFINITION. Machine/LineCode.lean: Reed-Solomon codes, scramblers and lane formats of the lines (spec/06 R151; spec/07 R174, R175,
R189). The generator polynomials are those of IEEE 802.3 Clause 91 and ITU-T G.709 (PRESUMED, log entry 11); the lane order of OTL3.4 is
that of G.709 Annex C (PRESUMED, log entry 75). -/
namespace Sys2Proof.Machine

/-- Multiply by the field's generator: shift, and reduce by the primitive polynomial. -/
def gfShift (m poly a : Nat) : Nat := if 2 ^ m ≤ 2 * a then (2 * a) ^^^ poly else 2 * a

/-- Product in GF(2^m), over the low `k` bits of `b`. -/
def gfMul (m poly : Nat) : Nat → Nat → Nat → Nat
  | 0, _, _ => 0
  | k + 1, a, b => (if b % 2 = 1 then a else 0) ^^^ gfMul m poly k (gfShift m poly a) (b / 2)

/-- Multiply a polynomial, highest coefficient first, by (x + r). -/
def polyStep (m poly r : Nat) (g : List Nat) : List Nat :=
  (g ++ [0]).zipWith (· ^^^ ·) (0 :: g.map fun c => gfMul m poly m c r)

/-- The generator polynomial with roots 1, a, …, a^(k−1). -/
def rsGen (m poly : Nat) : Nat → Nat → List Nat → List Nat
  | 0, _, g => g
  | k + 1, r, g => rsGen m poly k (gfShift m poly r) (polyStep m poly r g)

/-- The `k` parity symbols of a message. -/
def rsParity (m poly k : Nat) (msg : List Nat) : List Nat :=
  let g := (rsGen m poly k 1 [1]).drop 1
  msg.foldl (fun reg c =>
    let fb := c ^^^ reg.headD 0
    (reg.drop 1 ++ [0]).zipWith (· ^^^ ·) (g.map fun x => gfMul m poly m x fb)) (List.replicate k 0)

/-- Bits of a number, most significant first. -/
def msbBits (w x : Nat) : List Bool := (List.range w).map fun j => bitOf x (w - 1 - j)

/-- The number that bits spell, most significant first. -/
def ofMsb (bs : List Bool) : Nat := bs.foldl (fun x b => 2 * x + b2n b) 0

/-- Split a list into groups of `n`. -/
def groupsOf {α : Type} (n : Nat) : Nat → List α → List (List α)
  | 0, _ => []
  | k + 1, l => l.take n :: groupsOf n k (l.drop n)

/-! ### Decoding (R175, R189) -/

/-- The inverse of a field element other than 0. -/
def gfInv (m poly a : Nat) : Nat :=
  ((List.range (m - 1)).foldl (fun (z : Nat × Nat) _ =>
    let q := gfMul m poly m z.1 z.1
    (q, gfMul m poly m z.2 q)) (a, 1)).2

/-- A power of a field element. -/
def gfPow (m poly a : Nat) : Nat → Nat
  | 0 => 1
  | k + 1 => gfMul m poly m a (gfPow m poly a k)

/-- The value of a polynomial, highest coefficient first. -/
def polyAt (m poly : Nat) (w : List Nat) (x : Nat) : Nat := w.foldl (fun a c => gfMul m poly m a x ^^^ c) 0

/-- Sum of two polynomials, lowest coefficient first. -/
def polyAdd (a b : List Nat) : List Nat := (List.range (max a.length b.length)).map fun i => a.getD i 0 ^^^ b.getD i 0

/-- The values of a received word at the code's roots 1, a, …, a^(k−1): all 0 for a codeword. -/
def syndromes (m poly k : Nat) (w : List Nat) : List Nat := (List.range k).map fun j => polyAt m poly w (gfPow m poly 2 j)

/-- A step of the search for the error locator: locator, the one before the last change of length, length, steps since that change, and
its discrepancy (the algorithm of Berlekamp and Massey). -/
def locatorStep (m poly : Nat) (s : List Nat) (z : List Nat × List Nat × Nat × Nat × Nat) (n : Nat) :
    List Nat × List Nat × Nat × Nat × Nat :=
  let (c, b, l, x, d0) := z
  let d := (List.range (l + 1)).foldl (fun a i => a ^^^ gfMul m poly m (c.getD i 0) (s.getD (n - i) 0)) 0
  if d = 0 then (c, b, l, x + 1, d0)
  else
    let f := gfMul m poly m d (gfInv m poly d0)
    let c' := polyAdd c (List.replicate x 0 ++ b.map fun y => gfMul m poly m f y)
    if 2 * l ≤ n then (c', c, n + 1 - l, 1, d) else (c', b, l, x + 1, d0)

/-- The error locator of `k` syndromes and its length. -/
def locator (m poly k : Nat) (s : List Nat) : List Nat × Nat :=
  let z := (List.range k).foldl (locatorStep m poly s) ([1], [1], 0, 1, 1)
  (z.1, z.2.2.1)

/-- The word with the errors removed that a locator finds (Chien and Forney). -/
def removeErrors (m poly k : Nat) (s lam w : List Nat) : List Nat :=
  let om := (List.range k).map fun i => (List.range (i + 1)).foldl (fun a j => a ^^^ gfMul m poly m (lam.getD j 0) (s.getD (i - j) 0)) 0
  let der := (List.range lam.length).drop 1 |>.map fun i => if i % 2 = 1 then lam.getD i 0 else 0
  ((List.range w.length).zip w).map fun e =>
    let x := gfPow m poly 2 (w.length - 1 - e.1)
    let y := gfInv m poly x
    if polyAt m poly lam.reverse y = 0 then
      e.2 ^^^ gfMul m poly m (gfMul m poly m x (polyAt m poly om.reverse y)) (gfInv m poly (polyAt m poly der.reverse y))
    else e.2

/-- The codeword within k / 2 symbols of a received word; `none`: there is none, the word is uncorrectable. -/
def rsDecode (m poly k : Nat) (w : List Nat) : Option (List Nat) :=
  let s := syndromes m poly k w
  if s.all (· == 0) then some w
  else
    let l := locator m poly k s
    let v := removeErrors m poly k s l.1 w
    if 2 * l.2 ≤ k ∧ (syndromes m poly k v).all (· == 0) = true then some v else none

/-- Bits in which two words differ. -/
def bitsApart (m : Nat) (v w : List Nat) : Nat := ((v.zip w).map fun e => ((List.range m).filter fun i => bitOf (e.1 ^^^ e.2) i).length).sum

/-- A codeword of RS(544,514) from its 5,140 data bits (R175). -/
def rs544 (bs : List Bool) : List Bool :=
  bs ++ (rsParity 10 0x409 30 ((groupsOf 10 514 bs).map ofMsb)).flatMap (msbBits 10)

/-- The 256 FEC bytes of a row of an OTU frame: 16 interleaved RS(255,239) codewords (R189). -/
def rs255 (row : List W8) : List W8 :=
  let words := (List.range 16).map fun j => rsParity 8 0x11D 16 ((List.range 239).map fun i => (row.getD (16 * i + j) 0).toNat)
  (List.range 256).map fun k => BitVec.ofNat 8 ((words.getD (k % 16) []).getD (k / 16) 0)

/-- A received codeword of RS(544,514): its 5,140 data bits, the bits corrected, and whether it is uncorrectable; it is then taken as
received (R175). -/
def fix544 (bs : List Bool) : List Bool × Nat × Bool :=
  let w := (groupsOf 10 544 bs).map ofMsb
  match rsDecode 10 0x409 30 w with
  | some v => ((v.take 514).flatMap (msbBits 10), bitsApart 10 v w, false)
  | none => (bs.take 5140, 0, true)

/-- A received row of an OTU frame, 3,824 bytes and 256 FEC bytes: the row corrected, and the symbols corrected; an uncorrectable codeword
is taken as received (R189). -/
def fix255 (row : List W8) : List W8 × Nat :=
  let words := (List.range 16).map fun j => (List.range 255).map fun i => (row.getD (16 * i + j) 0).toNat
  let fixed := words.map fun w => (w, (rsDecode 8 0x11D 16 w).getD w)
  ((List.range 3824).map fun k => BitVec.ofNat 8 (((fixed.getD (k % 16) ([], [])).2).getD (k / 16) 0),
    (fixed.map fun e => ((e.1.zip e.2).filter fun y => decide (y.1 ≠ y.2)).length).sum)

/-! ### Scramblers and lines -/

/-- One byte into the CRC-32 of IEEE 802.3. -/
def crcByte (c : W32) (b : W8) : W32 :=
  (List.range 8).foldl (fun c _ => if c.getLsbD 0 then (c >>> 1) ^^^ 0xEDB88320 else c >>> 1) (c ^^^ b.setWidth 32)

/-- CRC-32 of IEEE 802.3 (R176, R187, R233). -/
def crc32 (bs : List W8) : W32 := ~~~(bs.foldl crcByte 0xFFFFFFFF)

/-- Scramble bits by adding the output of a generator: taps count the bits back from the newest of the register `x`. -/
def addScramble (w : Nat) (taps : List Nat) : Nat → List Bool → List Bool
  | _, [] => []
  | x, b :: bs =>
    let o := taps.foldl (fun a k => a != bitOf x (k - 1)) false
    (b != o) :: addScramble w taps ((2 * x + b2n o) % 2 ^ w) bs

/-- The Ziuth scrambler 1 + x^39 + x^58 from all ones (R175). -/
def ziuthScramble (bs : List Bool) : List Bool := addScramble 58 [39, 58] (2 ^ 58 - 1) bs

/-- The output of the OTN scrambler 1 + x + x^3 + x^12 + x^16: the register's oldest bit. -/
def otnSeq : Nat → Nat → List Bool
  | 0, _ => []
  | n + 1, x =>
    let fb := [1, 3, 12, 16].foldl (fun a k => a != bitOf x (k - 1)) false
    bitOf x 15 :: otnSeq n ((2 * x + b2n fb) % 65536)

/-- The pattern that starts a Ziuth frame (R174). -/
def ziuthFaw : Nat := 0x1DF3A5C6E20C5A39

/-- Codewords of a Ziuth frame (R174). -/
def ziuthWords (mode : Nat) : Nat := if mode = 1 then 1220 else 610

/-- Pad bits of a Ziuth frame whose ZFC is odd or even (R174). -/
def ziuthPad (mode : Nat) (odd : Bool) : Nat := if mode = 1 then 3761 else if odd then 1849 else 1848

/-- The line bits of a Ziuth frame with a given data region (R174, R175). -/
def ziuthLine (mode : Nat) (data : List W8) : List Bool :=
  let bitsOf := data.flatMap fun x => msbBits 8 x.toNat
  let words := (groupsOf 5140 (ziuthWords mode) bitsOf).flatMap rs544
  msbBits 64 ziuthFaw ++ ziuthScramble (words ++ List.replicate (ziuthPad mode (bitOf (data.getD 1 0).toNat 0)) false)

/-- The number of line bits fits a frame of the mode (R174). -/
def ziuthFits (mode n : Nat) : Bool :=
  decide (n = 64 + 5440 * ziuthWords mode + ziuthPad mode false) || decide (n = 64 + 5440 * ziuthWords mode + ziuthPad mode true)

/-- A Ziuth frame decoded from its line bits (R175): data region, bits corrected, uncorrectable codewords. -/
def ziuthDecode (mode : Nat) (line : List Bool) : List W8 × Nat × Nat :=
  let words := (groupsOf 5440 (ziuthWords mode) (ziuthScramble (line.drop 64))).map fix544
  let data := words.flatMap Prod.fst
  ((groupsOf 8 (data.length / 8) data).map fun b => BitVec.ofNat 8 (ofMsb b), (words.map fun w => w.2.1).sum,
    (words.filter fun w => w.2.2).length)

/-- The bits of a PAM4 level, the first as MSB (R175): 00, 01, 11, 10 from the lowest to the highest level. -/
def pamBits (x : Fin 4) : List Bool := [decide (2 ≤ x.val), decide (x.val = 1) || decide (x.val = 2)]

/-- The PAM4 level of two bits (R175). -/
def pamLevel (a b : Bool) : Fin 4 := if a then (if b then 2 else 3) else (if b then 1 else 0)

/-- The symbols that carry line bits: PAM4 in ZL2, NRZ in ZL1; an odd last bit waits for the next frame's first (R175). -/
def ziuthSymbols (mode : Nat) (line : List Bool) : List (Fin 4) :=
  if mode = 1 then (groupsOf 2 (line.length / 2) line).map fun p => pamLevel (p.getD 0 false) (p.getD 1 false)
  else line.map fun b => if b then 1 else 0

/-- The line bits of received symbols; `half`: the frame begins on the second bit of the first symbol. The number of bits of a ZL2 frame
is odd, so one that begins on a first bit ends on the first bit of its last symbol (R174, R175). -/
def ziuthBits (mode : Nat) (half : Bool) (xs : List (Fin 4)) : List Bool :=
  if mode = 1 then (if half then (xs.flatMap pamBits).drop 1 else (xs.flatMap pamBits).dropLast) else xs.map fun x => decide (x.val ≠ 0)

/-- The OTN frame-synchronous scrambler, all ones at the first bit after FAS (G.709); it is its own inverse. -/
def otnScramble (bs : List Bool) : List Bool := bs.zipWith (fun a b => a != b) (otnSeq bs.length 0xFFFF)

/-- The bytes of an OTU frame as the line carries them, and back: FAS as it is, the rest scrambled (G.709). -/
def otuWire (d : List W8) : List W8 :=
  d.take 6 ++ (groupsOf 8 (d.length - 6) (otnScramble ((d.drop 6).flatMap fun x => msbBits 8 x.toNat))).map fun b => BitVec.ofNat 8 (ofMsb b)

/-- The FAS of an OTU frame (R169). -/
def otuFas : List W8 := [0xF6, 0xF6, 0xF6, 0x28, 0x28, 0x28]

/-- What logical lane `j` of OTL3.4 carries of the frame with a given MFAS (R151): every fourth block of 16 bytes; the frame's first block
is on the lane that the two low bits of MFAS name, which are the lane's marker. -/
def otlLane (mfas : Nat) (wire : List W8) (j : Nat) : List W8 :=
  (List.range 255).flatMap fun i => (wire.drop (16 * (4 * i + (j + 4 - mfas % 4) % 4))).take 16

/-- The frame that four lanes carry, by logical lane. -/
def otlJoin (mfas : Nat) (lane : Nat → List W8) : List W8 :=
  (List.range 1020).flatMap fun b => ((lane ((b + mfas) % 4)).drop (16 * (b / 4))).take 16

end Sys2Proof.Machine
end

