-- ==== Sys2Proof/Machine/Tables.lean ====
section
/-! DEFINITION. Machine/Tables.lean: map entries, selectors and monitors as words, their check bits, and the accessors of
the tables in State (spec/03 R53 to R55, spec/05 R114, R117). -/
namespace Sys2Proof.Machine

/-! ### Check bits -/

/-- The parity of the low `n` bits of `x`. -/
def parity (x : Nat) : Nat → Bool
  | 0 => false
  | n + 1 => bitOf x n ^^ parity x n

/-- The code positions from 3 to `hi` that are no power of two, in ascending order (R54, R114). -/
def codePositions (hi : Nat) : List Nat :=
  (List.range (hi + 1)).filter fun p => decide (3 ≤ p) && !([4, 8, 16, 32, 64].contains p)

/-- The XOR of the code positions of the data bits that are set; bit `i` of the data has the `i`-th position. -/
def codeXor (x : Nat) : List Nat → Nat → Nat
  | [], _ => 0
  | p :: ps, i => if bitOf x i then p ^^^ codeXor x ps (i + 1) else codeXor x ps (i + 1)

/-- What reading a coded word gives: as stored, corrected, or uncorrectable. -/
inductive Dec (α : Type) where
  | fine (v : α)
  | fixed (v : α)
  | bad
  deriving Repr

/-- The word of a readable record. -/
def Dec.get? {α : Type} : Dec α → Option α
  | .fine v => some v
  | .fixed v => some v
  | .bad => none

/-- The check bits of a map entry or a monitor over its 56 data bits (R54). -/
def ecc54 (data : Nat) : Nat :=
  let c := codeXor data (codePositions 62) 0
  let p := parity data 56 ^^ parity c 6
  c + 64 * b2n p + 128 * b2n (!p)

/-- A 64-bit word of 56 data bits with its check bits (R54). -/
def seal54 (data : Nat) : W64 := BitVec.ofNat 64 (data % 2 ^ 56 + ecc54 (data % 2 ^ 56) * 2 ^ 56)

/-- Flip the bit at a code position: a data bit, or check bit j at position 2^j. -/
def flipAt (positions : List Nat) (checkLo : Nat) (x s : Nat) : Nat :=
  match positions.findIdx? (· == s) with
  | some i => x ^^^ 2 ^ i
  | none => x ^^^ 2 ^ (checkLo + Nat.log2 s)

/-- Reading a map entry or a monitor (R54). -/
def decode54 (w : W64) : Dec W64 :=
  let x := w.toNat
  let data := x % 2 ^ 56
  let s := bits x 56 6 ^^^ codeXor data (codePositions 62) 0
  let p := parity data 56 ^^ parity (bits x 56 7) 7
  let e6 := bitOf x 62
  let e7 := bitOf x 63
  if x = 0 then .bad
  else if 1 ≤ s ∧ s ≤ 62 ∧ p = true ∧ e7 ≠ e6 then .fixed (BitVec.ofNat 64 (flipAt (codePositions 62) 56 x s))
  else if s = 0 ∧ p = true ∧ e7 = e6 then .fixed (BitVec.ofNat 64 (x ^^^ 2 ^ 62))
  else if s = 0 ∧ p = false ∧ e7 = e6 then .fixed (BitVec.ofNat 64 (x ^^^ 2 ^ 63))
  else if s = 0 ∧ p = false ∧ e7 ≠ e6 then .fine w
  else .bad

/-- The check bits of a selector over its 120 data bits (R114). -/
def ecc114 (data : Nat) : Nat :=
  let c := codeXor data (codePositions 127) 0
  c + 128 * b2n (parity data 120 ^^ parity c 7)

/-- A selector of 120 data bits with its check bits; the reserved bits [29] and [119] are stored as zero (R114). -/
def seal114 (data : Nat) : W128 :=
  let d := data % 2 ^ 119 - (if bitOf data 29 then 2 ^ 29 else 0)
  BitVec.ofNat 128 (d + ecc114 d * 2 ^ 120)

/-- Reading a selector (R114). -/
def decode114 (w : W128) : Dec W128 :=
  let x := w.toNat
  let data := x % 2 ^ 120
  let s := bits x 120 7 ^^^ codeXor data (codePositions 127) 0
  let p := parity x 128
  if s = 0 ∧ p = false then .fine w
  else if s = 0 then .fixed (BitVec.ofNat 128 (x ^^^ 2 ^ 127))
  else if p then .fixed (BitVec.ofNat 128 (flipAt (codePositions 127) 120 x s))
  else .bad

/-! ### Map entries (R53) -/

/-- SRC. -/
def eSrc (e : W64) : Nat := bits e.toNat 0 25
/-- SELIX. -/
def eSelix (e : W64) : Nat := bits e.toNat 25 20
/-- PROT. -/
def eProt (e : W64) : Bool := bitOf e.toNat 45
/-- FILL. -/
def eFill (e : W64) : Nat := bits e.toNat 46 3
/-- XCODE. -/
def eXcode (e : W64) : Nat := bits e.toNat 49 2
/-- The reserved bits. -/
def eRsv (e : W64) : Nat := bits e.toNat 51 5
/-- The entry with another SRC and its check bits recomputed (R82). -/
def eSetSrc (e : W64) (a : Nat) : W64 := seal54 (e.toNat % 2 ^ 56 - eSrc e + a % 2 ^ 25)

/-- The empty entry (R55). -/
def emptyEntry : W64 := 0x7600800000000000
/-- What an unlisted map entry reads as: empty (R55). -/
def entryDefault : Nat → W64 := fun _ => emptyEntry

/-- The number of line slots (R31). -/
def lineSlots : Nat := 31104000
/-- The first herd slot (R31). -/
def herdLo : Nat := 31104000
/-- The first generator slot (R31). -/
def genLo : Nat := 33534000
/-- The first tail slot (R31). -/
def tailLo : Nat := 33554250
/-- A herd slot (R31). -/
def isHerd (a : Nat) : Bool := decide (herdLo ≤ a) && decide (a < genLo)
/-- A tail slot (R31). -/
def isTail (a : Nat) : Bool := decide (tailLo ≤ a)
/-- The port that owns a line slot (R31). -/
def slotPort (a : Nat) : Nat := a / 648000

/-- The physical page named by a number. -/
def State.page (s : State) (n : Nat) : List (Nat × W64) := if n = 0 then s.map.page0 else s.map.page1
/-- The number of the active page (R60). -/
def State.activeNo (s : State) : Nat := s.rd F.MAP_STATUS_ACTIVE_PAGE
/-- The number of the shadow page (R60). -/
def State.shadowNo (s : State) : Nat := 1 - s.activeNo
/-- The active page. -/
def State.active (s : State) : List (Nat × W64) := s.page s.activeNo
/-- The shadow page. -/
def State.shadow (s : State) : List (Nat × W64) := s.page s.shadowNo
/-- Change the MAP state outside its registers. -/
def State.mapMap (s : State) (f : MapSt → MapSt) : State := { s with map := f s.map }
/-- Replace a physical page. -/
def State.setPage (s : State) (n : Nat) (p : List (Nat × W64)) : State :=
  s.mapMap fun m => if n = 0 then { m with page0 := p } else { m with page1 := p }
/-- Replace the shadow page. -/
def State.setShadow (s : State) (p : List (Nat × W64)) : State := s.setPage s.shadowNo p
/-- An entry of a page. -/
def entryAt (p : List (Nat × W64)) (a : Nat) : W64 := Store.get entryDefault p a
/-- A page with another entry at a slot. -/
def putEntry (p : List (Nat × W64)) (a : Nat) (e : W64) : List (Nat × W64) := Store.put entryDefault p a e

/-- The origin of a source in a page: a herd slot in use stands for the SRC of its own entry (R70). -/
def originOf (p : List (Nat × W64)) (a : Nat) : Nat := if isHerd a then eSrc (entryAt p a) else a
/-- The as-written view of an entry: a herd SRC is shown as its origin (R82). -/
def asWritten (p : List (Nat × W64)) (e : W64) : W64 := if isHerd (eSrc e) then eSetSrc e (originOf p (eSrc e)) else e

/-- The listed line entries of a page. -/
def lineEntries (p : List (Nat × W64)) : List (Nat × W64) := p.filter fun x => decide (x.1 < lineSlots)
/-- The herd slots that a page uses (R70). -/
def herdUsed (p : List (Nat × W64)) : List Nat := (p.filter fun x => isHerd x.1).map Prod.fst

/-- How many line entries of a page have PROT = 1 and name a selector (R57). -/
def selRefs (p : List (Nat × W64)) (i : Nat) : Nat :=
  ((lineEntries p).filter fun x => eProt x.2 && decide (eSelix x.2 = i)).length

/-! ### Selectors (R114) -/

/-- What an unlisted selector reads as. -/
def selDefault : Nat → W128 := fun _ => 0
/-- A selector as stored. -/
def State.selRaw (s : State) (i : Nat) : W128 := Store.get selDefault s.sel.sels i
/-- A selector as read: corrected; an uncorrectable one reads as all zeros here and is handled apart (R130). -/
def State.selAt (s : State) (i : Nat) : W128 := ((decode114 (s.selRaw i)).get?).getD 0
/-- A selector is uncorrectable (R130). -/
def State.selBad (s : State) (i : Nat) : Bool := (decode114 (s.selRaw i)).get?.isNone
/-- Change the SEL state outside its registers. -/
def State.mapSel (s : State) (f : SelSt → SelSt) : State := { s with sel := f s.sel }
/-- Store a selector. -/
def State.setSel (s : State) (i : Nat) (v : W128) : State := s.mapSel fun x => { x with sels := Store.put selDefault x.sels i v }
/-- A field of a selector. -/
def vGet (v : W128) (lo w : Nat) : Nat := bits v.toNat lo w
/-- A selector with another value in a field; check bits recomputed. -/
def vPut (v : W128) (lo w x : Nat) : W128 :=
  let d := v.toNat % 2 ^ 120
  seal114 (d - bits d lo w * 2 ^ lo + x % 2 ^ w * 2 ^ lo)

/-- DELTA. -/
def vDelta (v : W128) : Nat := vGet v 0 25
/-- ACT. -/
def vAct (v : W128) : Bool := bitOf v.toNat 25
/-- REV. -/
def vRev (v : W128) : Bool := bitOf v.toNat 26
/-- BIDIR. -/
def vBidir (v : W128) : Bool := bitOf v.toNat 27
/-- VALID. -/
def vValid (v : W128) : Bool := bitOf v.toNat 28
/-- REQ. -/
def vReq (v : W128) : Nat := vGet v 30 4
/-- CMD. -/
def vCmd (v : W128) : Nat := vGet v 34 3
/-- MON_W. -/
def vMonW (v : W128) : Nat := vGet v 37 21
/-- MON_P. -/
def vMonP (v : W128) : Nat := vGet v 58 21
/-- HOLDOFF. -/
def vHoldoff (v : W128) : Nat := vGet v 79 7
/-- WTR. -/
def vWtr (v : W128) : Nat := vGet v 86 10
/-- TMR. -/
def vTmr (v : W128) : Nat := vGet v 96 17
/-- TPH. -/
def vTph (v : W128) : Nat := vGet v 113 2
/-- COND. -/
def vCond (v : W128) : Nat := vGet v 115 4

/-- The source of a protected read on the protection side (R56). -/
def plusDelta (a delta : Nat) : Nat := (a + delta) % 2 ^ 25

/-! ### Monitors (R117) -/

/-- A monitor at reset and after a delete (R117). -/
def monReset : W64 := 0x8000000000000000
/-- What an unlisted monitor reads as. -/
def monDefault : Nat → W64 := fun _ => monReset
/-- A monitor as stored. -/
def State.monRaw (s : State) (i : Nat) : W64 := Store.get monDefault s.sel.mons i
/-- A monitor is uncorrectable (R130). -/
def State.monBad (s : State) (i : Nat) : Bool := (decode54 (s.monRaw i)).get?.isNone
/-- A monitor as read; an uncorrectable one shows effective SF (R130). -/
def State.monAt (s : State) (i : Nat) : W64 := ((decode54 (s.monRaw i)).get?).getD (BitVec.ofNat 64 (2 ^ 30))
/-- Store a monitor. -/
def State.setMon (s : State) (i : Nat) (v : W64) : State := s.mapSel fun x => { x with mons := Store.put monDefault x.mons i v }
/-- A field of a monitor. -/
def mGet (v : W64) (lo w : Nat) : Nat := bits v.toNat lo w
/-- A monitor with another value in a field; check bits recomputed. -/
def mPut (v : W64) (lo w x : Nat) : W64 :=
  let d := v.toNat % 2 ^ 56
  seal54 (d - bits d lo w * 2 ^ lo + x % 2 ^ w * 2 ^ lo)
/-- TYPE. -/
def mType (v : W64) : Nat := mGet v 0 4
/-- PORT. -/
def mPort (v : W64) : Nat := mGet v 4 6
/-- CELL. -/
def mCell (v : W64) : Nat := mGet v 10 10
/-- TRIB. -/
def mTrib (v : W64) : Nat := mGet v 20 5
/-- SD_EXP. -/
def mSdExp (v : W64) : Nat := mGet v 25 3
/-- SF_EXP. -/
def mSfExp (v : W64) : Nat := mGet v 28 2
/-- SF: effective signal fail. -/
def mSf (v : W64) : Bool := bitOf v.toNat 30
/-- SD: effective signal degrade. -/
def mSd (v : W64) : Bool := bitOf v.toNat 31
/-- EN. -/
def mEn (v : W64) : Bool := bitOf v.toNat 32
/-- TIM_SF. -/
def mTimSf (v : W64) : Bool := bitOf v.toNat 55

/-! ### Line groups (LINE_GRP, R137) -/

/-- The word of LINE_GRP for working port `w`. -/
def State.grp (s : State) (w : Nat) : W32 := s.reg (0x40090100 + w * 0x4)
/-- PROT_PORT of a group word. -/
def gProt (g : W32) : Nat := bits g.toNat 0 6
/-- ARCH of a group word. -/
def gArch (g : W32) : Nat := bits g.toNat 6 2
/-- REV of a group word. -/
def gRev (g : W32) : Bool := bitOf g.toNat 8
/-- SEL of a group word. -/
def gSel (g : W32) : Bool := bitOf g.toNat 9
/-- BR of a group word. -/
def gBr (g : W32) : Bool := bitOf g.toNat 10
/-- HOLDOFF of a group word. -/
def gHoldoff (g : W32) : Nat := bits g.toNat 11 7
/-- WTR of a group word. -/
def gWtr (g : W32) : Nat := bits g.toNat 18 10
/-- A working port whose group exists. -/
def gUsed (g : W32) : Bool := gArch g != 0

/-- The groups as a list of (working port, word); the port region alias table. -/
def State.groups (s : State) : List (Nat × W32) :=
  ((List.range 48).map fun w => (w, s.grp w)).filter fun x => gUsed x.2

/-- The other port of the group that port `q` is in (R139). -/
def groupMate (gs : List (Nat × W32)) (q : Nat) : Option Nat :=
  (gs.findSome? fun x => if x.1 = q then some (gProt x.2) else if gProt x.2 = q then some x.1 else none)

/-- Port `q` is in a group. -/
def grouped (gs : List (Nat × W32)) (q : Nat) : Bool := (groupMate gs q).isSome

/-- A slot in the region of a grouped port (R139, R140). -/
def inGroup (gs : List (Nat × W32)) (a : Nat) : Bool := decide (a < lineSlots) && grouped gs (slotPort a)

/-! ### Bank scramble (R94) -/

/-- The logical bank of a slot (R94). -/
def bankOf (a : Nat) : Nat := (a % 2048) ^^^ (a / 2048 * 1117 % 2048)
/-- The word of a slot within its page (R94). -/
def bankWord (a : Nat) : Nat := a / 2048 / 8
/-- The byte lane of a slot (R94). -/
def bankLane (a : Nat) : Nat := a / 2048 % 8
/-- The slot of bank `b` with upper bits `h` (R94): the inverse of the scramble. -/
def slotOf (b h : Nat) : Nat := h * 2048 + (b ^^^ (h * 1117 % 2048))

end Sys2Proof.Machine
end

