-- ==== Sys2Proof/Machine/Structure.lean ====
section
/-! DEFINITION. Machine/Structure.lean: port modes, cells and the path structure of a port (spec/02 R31, R35, R42 to
R45; spec/06 R147, R149, R153). -/
namespace Sys2Proof.Machine

/-- The cells a mode uses (R35). -/
def modeCells : Nat → Nat
  | 1 => 800 | 2 => 400 | 3 => 768 | 4 => 192 | 5 => 48 | 6 => 12 | 7 => 3 | 8 => 768 | 9 => 192 | 10 => 48 | _ => 0

/-- A defined mode code (R149). -/
def modeOk (m : Nat) : Bool := decide (m ≤ 10)
/-- A Ziuth mode. -/
def isZiuth (m : Nat) : Bool := m == 1 || m == 2
/-- A mode of four bonded lanes (R150). -/
def isBonded (m : Nat) : Bool := m == 3 || m == 8
/-- An OTN mode. -/
def isOtn (m : Nat) : Bool := m == 8 || m == 9 || m == 10
/-- A SONET/SDH mode. -/
def isSonet (m : Nat) : Bool := decide (3 ≤ m) && decide (m ≤ 7)
/-- The PLL class of a mode: 1 to 5 for A to E, 0 for OFF (R147, R149). -/
def modeClass : Nat → Nat
  | 1 => 1 | 2 => 1 | 3 => 2 | 4 => 2 | 5 => 2 | 6 => 2 | 7 => 2 | 8 => 4 | 9 => 3 | 10 => 5 | _ => 0

/-- The mode of port `p`. -/
def State.prtMode (s : State) (p : Nat) : Nat := s.rd (F.PRT_CFG_MODE p)
/-- Port `p` is enabled. -/
def State.enabled (s : State) (p : Nat) : Bool := s.flag (F.PRT_CFG_ENABLED p)
/-- Lane `p` belongs to a bonded port named by a lower lane (R150). -/
def State.member (s : State) (p : Nat) : Bool := s.flag (F.PRT_CFG_BOND_MEMBER p)
/-- The cells that port `p` uses. -/
def State.cells (s : State) (p : Nat) : Nat := if s.member p then 0 else modeCells (s.prtMode p)

/-- The structure descriptor of cell `c` of port `p`: a half-word of PRT_STRUCT (R153). -/
def State.descr (s : State) (p c : Nat) : Nat := bits (s.reg (prtBase p + 0x400 + 4 * (c / 2))).toNat (16 * (c % 2)) 16
/-- KIND of a descriptor. -/
def dKind (d : Nat) : Nat := bits d 0 4
/-- GRP of a descriptor. -/
def dGrp (d : Nat) : Nat := bits d 4 7
/-- N of a concatenation head (R153): KIND 0011 by its code, KIND 0100 an AU-4 of 3 cells. -/
def dN (d : Nat) : Nat :=
  if dKind d = 4 then 3
  else match bits d 4 3 with
  | 0 => 3 | 1 => 12 | 2 => 48 | 3 => 192 | 4 => 768 | _ => 0

/-- The first slot of a cell (R31). -/
def cellSlot (p c : Nat) : Nat := 648000 * p + 810 * c

/-- The column of byte `i` of VT or TU (g, v) (R44); `vt2`: 3 per group; `tug3`: the layout of a TUG-3. -/
def vtCol (vt2 tug3 : Bool) (g v i : Nat) : Nat :=
  let per := if vt2 then 3 else 4
  let ncol := 12 / per
  let p := (v + per * (i % ncol)) * 7 + g
  if tug3 then p + 6 else p + 4 + (if 28 ≤ p then 1 else 0) + (if 56 ≤ p then 1 else 0)

/-- The row of byte `i` of a VT or TU (R44). -/
def vtRow (vt2 : Bool) (i : Nat) : Nat := i / (if vt2 then 4 else 3)

/-- The slot of byte `i` of a VT or TU in a cell (R44). -/
def vtSlot (vt2 tug3 : Bool) (port cell g v i : Nat) : Nat :=
  cellSlot port cell + vtRow vt2 i * 90 + vtCol vt2 tug3 g v i

/-- The slot of SPE column `j`, row `r`, of a concatenation of N cells from cell `f` (R42). -/
def speSlot (port f n r j : Nat) : Nat := cellSlot port (f + j % n) + r * 90 + 3 + j / n

/-- The cell is VT-structured: KIND 0010, 0100 or 0110 (R153). -/
def vtKind (k : Nat) : Bool := k == 2 || k == 4 || k == 6

/-- The bits per frame of a monitored path as the port carries it (R118, R120); `none`: the port does not carry it. -/
def State.carriedBits (s : State) (v : W64) : Option Nat :=
  let p := mPort v
  let c := mCell v
  let m := if p < 48 ∧ s.member p = false then s.prtMode p else 0
  let d := s.descr p c
  let g := bits (mTrib v) 2 3
  let tv := bits (mTrib v) 0 2
  if m = 0 then none
  else match mType v with
    | 5 => some (if isZiuth m then modeCells m * 6480 else modeCells m * 6408)
    | 1 => if isZiuth m = false ∧ c < modeCells m ∧ (dKind d = 1 ∨ dKind d = 2) then some 6264 else none
    | 2 => if isZiuth m = false ∧ c < modeCells m ∧ (dKind d = 3 ∨ dKind d = 4) then some (dN d * 6264) else none
    | 3 => if isZiuth m = false ∧ c < modeCells m ∧ vtKind (dKind d) = true ∧ g < 7 ∧ bitOf (dGrp d) g = false then some 208 else none
    | 4 => if isZiuth m = false ∧ c < modeCells m ∧ vtKind (dKind d) = true ∧ g < 7 ∧ bitOf (dGrp d) g = true ∧ tv < 3 then some 280 else none
    | _ => none

/-- The smallest b of a TYPE (R120). -/
def smallestBits : Nat → Nat
  | 1 => 6264 | 2 => 18792 | 3 => 208 | 4 => 280 | 5 => 19224 | _ => 0

/-- The exponent N of an SD threshold; 0: no SD (R117). -/
def sdN (e : Nat) : Nat := if 1 ≤ e ∧ e ≤ 5 then e + 4 else 0
/-- The exponent N of a bit-error SF threshold; 0: none (R117). -/
def sfN (e : Nat) : Nat := if 1 ≤ e ∧ e ≤ 3 then e + 2 else 0

/-- A threshold 10^−N can be tested with `b` bits per frame (R120). -/
def testable (b n : Nat) : Bool := decide (10 * 10 ^ n ≤ b * 65536)

/-- The window length W (R120): the smallest power of two from 8 for which b × W × 10^−N is at least 10. -/
def windowLen (b n : Nat) : Nat :=
  (([8, 16, 32, 64, 128, 256, 512, 1024, 2048, 4096, 8192, 16384, 32768].find? fun w => decide (10 * 10 ^ n ≤ b * w)).getD 65536)

/-- The threshold count S (R120). -/
def windowCount (b n : Nat) : Nat := max 2 (b * windowLen b n / 10 ^ n / 4)

end Sys2Proof.Machine
end

