-- ==== Sys2Proof/Machine/Line.lean ====
section
/-! DEFINITION. Machine/Line.lean: framers, port defects and RDI (spec/07 R169 to R173, R179, R181, R190, R400). -/
namespace Sys2Proof.Machine

/-! ### The line state -/

/-- Change the line state. -/
def State.mapLine (s : State) (f : LineSt → LineSt) : State := { s with line := f s.line }

/-- A port outside its registers. -/
def State.dyn (s : State) (p : Nat) : PortDyn := Store.get (fun _ => PortDyn.reset) s.line.ports p
/-- Change a port outside its registers. -/
def State.mapDyn (s : State) (p : Nat) (f : PortDyn → PortDyn) : State :=
  s.mapLine fun l => { l with ports := Store.put (fun _ => PortDyn.reset) l.ports p (f (s.dyn p)) }
/-- A port's receiver. -/
def State.prx (s : State) (p : Nat) : PortRx := Store.get (fun _ => PortRx.reset) s.line.rx p
/-- Change a port's receiver. -/
def State.mapPrx (s : State) (p : Nat) (f : PortRx → PortRx) : State :=
  s.mapLine fun l => { l with rx := Store.put (fun _ => PortRx.reset) l.rx p (f (s.prx p)) }
/-- A framer: lane `k`, or 64 + p for the client of OTN port `p`. -/
def State.framer (s : State) (k : Nat) : Framer := Store.get (fun _ => Framer.reset) s.line.framers k
/-- Set a framer. -/
def State.setFramer (s : State) (k : Nat) (f : Framer) : State :=
  s.mapLine fun l => { l with framers := Store.put (fun _ => Framer.reset) l.framers k f }

/-- The code of a path as PATH_IDX spells it: CELL, G, V and VT. -/
def pathCode (cell g v : Nat) (vt : Bool) : Nat := cell + 1024 * g + 8192 * v + 32768 * b2n vt
/-- The code that stands for the whole port. -/
def portCode : Nat := 65535
/-- The key of a path among all ports. -/
def pathAt (p code : Nat) : Nat := p * 65536 + code

/-- The key of a run counter of a path. -/
def runKey (p code id : Nat) : Nat := pathAt p code * 64 + id

/-- Equal observations in a row: the new count (R184, R187 to R190). -/
def runNext (old : Nat × Nat) (v : Nat) : Nat × Nat := if old.2 ≠ 0 ∧ old.1 = v then (v, min (old.2 + 1) 65536) else (v, 1)

/-- The count of a run. -/
def State.runOf (s : State) (k : Nat) : Nat × Nat := Store.get (fun _ => (0, 0)) s.line.runs k

/-- Observe a value: it extends the run of its key or starts a new one. -/
def State.observe (s : State) (k v : Nat) : State :=
  s.mapLine fun l => { l with runs := Store.put (fun _ => (0, 0)) l.runs k (runNext (s.runOf k) v) }

/-- The last value of a run came at least `n` times in a row, and it is `v`. -/
def State.ran (s : State) (k v n : Nat) : Bool := decide ((s.runOf k).1 = v) && decide (n ≤ (s.runOf k).2)

/-! ### Port facts -/

/-- The lanes of the port named `p` (R150). -/
def State.lanes (s : State) (p : Nat) : List Nat := if isBonded (s.prtMode p) then [p, p + 1, p + 2, p + 3] else [p]
/-- Current depth of a port (R165). -/
def State.depth (s : State) (p : Nat) : Nat := s.rd (F.PRT_STATUS_DEPTH p)
/-- The receiver works: the port is enabled and at D0 or D1 (R165, R400). -/
def State.rxOn (s : State) (p : Nat) : Bool := s.enabled p && decide (s.depth p ≤ 1) && !s.member p
/-- The port is in frame (R170, R172). -/
def State.framed (s : State) (p : Nat) : Bool := s.flag (F.PRT_STATUS_RX_FRAMED p)
/-- The CDR of lane `j` of port `p` is locked. -/
def State.cdr (s : State) (p j : Nat) : Bool := s.bitAt (F.PRT_STATUS_CDR_LOCK p) j
/-- A port defect bit (R190). -/
def State.pdef (s : State) (p i : Nat) : Bool := s.bitAt ⟨prtBase p + 0x10C, 0, 32⟩ i

/-- Set or clear a port defect; PRT_DEF_INT records each change (PRT_DEF). -/
def State.setDef (s : State) (p i : Nat) (b : Bool) : State :=
  if s.pdef p i = b then s
  else (s.setBitAt ⟨prtBase p + 0x10C, 0, 32⟩ i b).setBitAt ⟨prtBase p + 0x110, 0, 32⟩ i true

/-- A line frame's length in ticks, rounded down (R169); the FAS of an OTU3x4 lane recurs after four OTU3 frames. -/
def frameLen (mode : Nat) : Nat :=
  match mode with
  | 8 => 522240 * 100000 / 43018412
  | 9 => 130560 * 100000 / 10709225
  | 10 => 130560 * 100000 / 2666057
  | _ => 12500

/-! ### Paths of a port -/

/-- The paths of a SONET/SDH or OTN port: first cell and number of cells (R153). -/
def State.pathHeads (s : State) (p : Nat) : List (Nat × Nat) :=
  if isZiuth (s.prtMode p) then []
  else (List.range (s.cells p)).filterMap fun c =>
    let d := s.descr p c
    match dKind d with
    | 1 => some (c, 1)
    | 2 => some (c, 1)
    | 3 => some (c, dN d)
    | 4 => some (c, 3)
    | _ => none

/-- The cells of a path that carry VTs (R153). -/
def State.vtCells (s : State) (p c n : Nat) : List Nat :=
  ((List.range n).map (c + ·)).filter fun x => vtKind (dKind (s.descr p x))

/-- The VTs of a cell: group, number, and whether it is a VT2 or TU-12 (R44, R153). -/
def State.vtsOf (s : State) (p cell : Nat) : List (Nat × Nat × Bool) :=
  (List.range 7).flatMap fun g =>
    let vt2 := bitOf (dGrp (s.descr p cell)) g
    (List.range (if vt2 then 3 else 4)).map fun v => (g, v, vt2)

/-- The codes of all paths and VTs of a port. -/
def State.pathCodes (s : State) (p : Nat) : List Nat :=
  (s.pathHeads p).flatMap fun x =>
    pathCode x.1 0 0 false :: ((s.vtCells p x.1 x.2).flatMap fun c => (s.vtsOf p c).map fun y => pathCode c y.1 y.2.1 true)

/-- PATH_DEF.NOW of a path. -/
def State.pathNow (s : State) (p code : Nat) : Nat := s.rd (F.PATH_DEF_NOW p code)

/-- Set PATH_DEF.NOW: SEEN collects set bits; PRT_DEF_INT.PATH records a change unless it is `silent` (R400). -/
def State.setPathNow (s : State) (p code v : Nat) (silent : Bool) : State :=
  if s.pathNow p code = v then s
  else
    let s := (s.wr (F.PATH_DEF_NOW p code) v).wr (F.PATH_DEF_SEEN p code) (s.rd (F.PATH_DEF_SEEN p code) ||| v)
    if silent then s else s.raise (F.PRT_DEF_INT_PATH p)

/-- Set one bit of PATH_DEF.NOW: 0 AIS, 1 LOP, 2 UNEQ, 3 PLM, 4 TIM, 5 RDI, 6 LOM-P. -/
def State.setPathDef (s : State) (p code i : Nat) (b : Bool) : State :=
  let now := s.pathNow p code
  s.setPathNow p code (now - bits now i 1 * 2 ^ i + b2n b * 2 ^ i) false

/-- The path or layer that trace slot `k` of a port names (R187): kind and path code; SM and PM name the port. -/
def State.ttiPath (s : State) (p k : Nat) : Option (Nat × Nat) :=
  let x := (s.reg (prtBase p + 0xA00 + 4 * k)).toNat
  match bits x 16 3 with
  | 1 => some (1, pathCode (bits x 0 10) 0 0 false)
  | 2 => some (2, pathCode (bits x 0 10) 0 0 false)
  | 3 => some (3, bits x 0 15 + 32768)
  | 4 => some (4, portCode)
  | 5 => some (5, portCode)
  | _ => none

/-- A trace slot forgets its acceptance and TIM (R187). -/
def State.clearTti (p : Nat) (s : State) (k : Nat) : State :=
  (s.setFlag (F.TTI_SEL_TIM p k) false).mapLine fun l =>
    { l with tti := Store.put (fun _ => TtiRx.reset) l.tti (p * 64 + k) TtiRx.reset }

/-- The trace slots of a path that hold an acceptance. -/
def State.ttiHeld (s : State) (p code : Nat) : List Nat :=
  (s.line.tti.filter fun e => decide (e.1 / 64 = p) && (s.ttiPath p (e.1 % 64)).any fun x => decide (x.2 = code)).map
    fun e => e.1 % 64

/-- The slots of one kind that name a path; of two with the same name the lower applies (R187). -/
def State.ttiSlots (s : State) (p kind code : Nat) : List Nat :=
  (((List.range 64).find? fun k => decide (s.ttiPath p k = some (kind, code))).toList)

/-- A trace slot stays idle: a lower one names the same path and kind (R187). -/
def State.ttiIdle (s : State) (p k : Nat) : Bool :=
  (s.ttiPath p k).any fun x => !(s.ttiSlots p x.1 x.2).contains k

/-- A path in acquisition: what it received stays for its input frame. -/
def PathRx.restart (x : PathRx) : PathRx := { PathRx.reset with done := x.done ++ x.cur.toList }

/-- A path returns to pointer acquisition and its defects clear (R173). -/
def State.acquirePath (silent : Bool) (p : Nat) (s : State) (code : Nat) : State :=
  let s := (s.setPathNow p code 0 silent).wr (F.PATH_PTR_PSTATE p code) 2
  let s := (s.ttiHeld p code).foldl (State.clearTti p) s
  s.mapLine fun l =>
    { l with paths := Store.put (fun _ => PathRx.reset) l.paths (pathAt p code)
               (Store.get (fun _ => PathRx.reset) l.paths (pathAt p code)).restart,
             vts := Store.put (fun _ => VtRx.reset) l.vts (pathAt p code) VtRx.reset,
             runs := l.runs.filter fun r => decide (r.1 / 64 ≠ pathAt p code) }

/-- Every path of a port returns to pointer acquisition (R173). -/
def State.acquire (s : State) (p : Nat) (silent : Bool) : State :=
  (s.pathCodes p).foldl (State.acquirePath silent p) s

/-! ### RDI (R179, R181) -/

/-- The defects for which a port sends RDI: LOS, LOF; AIS-L on SONET/SDH and OTN; LOM, OTU-AIS and CLIENT_LOF on OTN
(R173, R179, R181). -/
def State.rdiDefect (s : State) (p : Nat) : Bool :=
  let m := s.prtMode p
  s.pdef p 0 || s.pdef p 2 || (!isZiuth m && s.pdef p 3) || (isOtn m && (s.pdef p 5 || s.pdef p 6 || s.pdef p 15))

/-- RDI follows the defects; it is held for 20 line frames after the last of them clears. -/
def State.updateRdi (s : State) (p : Nat) : State :=
  if s.rdiDefect p then s.mapDyn p fun d => { d with rdi := true, rdiEnd := none }
  else s.mapDyn p fun d =>
    if d.rdi && d.rdiEnd.isNone then { d with rdiEnd := some (s.now + 20 * frameTicks) } else d

/-- RDI_HOLD_EXPIRY (R179, R181): 20 line frames after the last defect cleared, RDI stops. -/
def execRdiHoldExpiry (t : Nat) (p : Port) (s : State) : Res :=
  let s := s.tick t
  match (s.dyn p.val).rdiEnd with
  | none => .next s
  | some e =>
    if e ≤ s.now ∧ s.rdiDefect p.val = false then
      .next (s.mapDyn p.val fun d => { d with rdi := false, rdiEnd := none })
    else .next s

/-- LOS is declared or cleared (R190); with LOS every path returns to acquisition (R173). -/
def State.setLos (s : State) (p : Nat) (b : Bool) : State :=
  let s := s.setDef p 0 b
  let s := if b then s.acquire p false else s
  s.updateRdi p

/-! ### Frame alignment (R169 to R172) -/

/-- Two frame starts lie within 2 us of one another, modulo the frame length (R172). -/
def startsNear (len a b : Nat) : Bool :=
  let d := (max a b - min a b) % len
  decide (d ≤ 200) || decide (len - d ≤ 200)

/-- All lanes of a port are in IN_FRAME. -/
def State.lanesIn (s : State) (p : Nat) : Bool := (s.lanes p).all fun l => (s.framer l).inFrame

/-- The frame start of a lane, for comparison with others: of an OTU3x4 lane, whose FAS comes once in four frames, with the frames that
its marker puts it later than lane 0 taken off (R151, R169). -/
def State.laneTime (s : State) (p l : Nat) : Nat :=
  let f := s.framer l
  if s.prtMode p = 8 then f.start + frameLen 8 - f.ctr % 4 * frameLen 8 / 4 else f.start

/-- The lanes' frame starts are farther apart than 2 us (R172). -/
def State.skewed (s : State) (p : Nat) : Bool :=
  (s.lanes p).any fun a => (s.lanes p).any fun b =>
    !startsNear (frameLen (s.prtMode p)) (s.laneTime p a) (s.laneTime p b)

/-- Every logical lane of OTL3.4 is there once (R151). -/
def State.lanesDistinct (s : State) (p : Nat) : Bool :=
  s.prtMode p != 8 || (List.range 4).all fun j => (s.lanes p).any fun l => decide ((s.framer l).ctr % 4 = j)

/-- The client of an OTN port is lost with the OTU's frame (R169, R170). -/
def State.endClient (s : State) (p : Nat) : State :=
  let s := if (s.framer (64 + p)).inFrame then s.mapDyn p fun d => { d with clientSince := s.now } else s
  (s.setFramer (64 + p) Framer.reset).mapLine fun l => { l with clients := Store.put (fun _ => ClientRx.reset) l.clients p ClientRx.reset }

/-- The port's registers follow its framers (R170, R172, PRT_FRM); a change of alignment starts the times of LOF, and a loss
sends every path back to acquisition (R173). -/
def State.refreshFrame (s : State) (p : Nat) : State :=
  let all := s.lanesIn p
  let skew := isBonded (s.prtMode p) && all && s.skewed p
  let now := all && !skew && s.lanesDistinct p
  let s := (s.setFlag (F.PRT_FRM_STATE p) now).wr (F.PRT_FRM_CAND p) (s.framer p).cands.length
  let s := s.wr (F.PRT_FRM_LANE_IN p)
    (if isBonded (s.prtMode p) then ((s.lanes p).map fun l => b2n (s.framer l).inFrame * 2 ^ (l - p)).sum else 0)
  let s := s.setDef p 14 skew
  if s.framed p = now then s.setDef p 1 (!now)
  else
    let s := ((s.setFlag (F.PRT_STATUS_RX_FRAMED p) now).raise (F.PRT_INT_FRAMED_CHG p)).setDef p 1 (!now)
    let s := s.mapDyn p fun d => { d with since := s.now, unframed := d.unframed && !now }
    let s := if now then s.setFlag (F.PRT_QL_RX_VALID p) false else (s.endClient p).acquire p false
    s.updateRdi p

/-- The client framer of an OTN port gained or lost its frame (R173, R190). -/
def State.refreshClient (s : State) (p : Nat) (was : Bool) : State :=
  let now := (s.framer (64 + p)).inFrame
  if now = was then s
  else
    let s := s.mapDyn p fun d => { d with clientSince := s.now }
    if now then s else s.acquire p false

/-- After a framer of lane `lane` (or of the client) changed. -/
def State.afterFramer (s : State) (p : Nat) (client was : Bool) : State :=
  if client then s.refreshClient p was else s.refreshFrame p

/-- Patterns of R169. -/
def patternOk (mode : Nat) (word : BitVec 64) : Bool :=
  if isZiuth mode then word == 0x1DF3A5C6E20C5A39 else bits word.toNat 0 48 == 0xF6F6F6282828

/-- Bits set in a word. -/
def popcount (x : Nat) : Nat → Nat
  | 0 => 0
  | n + 1 => bits x n 1 + popcount x n

/-- Bit errors of the FAW at the head of a Ziuth frame (R169). -/
def fawErrors (line : List Bool) : Nat := popcount (ofMsb (line.take 64) ^^^ ziuthFaw) 64

/-- The verification of R169: pattern, and the frame counter of Ziuth and OTN frames. -/
def verifyOk (mode : Nat) (word : BitVec 64) (old new : Nat) : Bool :=
  if isZiuth mode then decide (popcount (word ^^^ 0x1DF3A5C6E20C5A39).toNat 64 ≤ 3) && decide (new = (old + 1) % 65536)
  else patternOk mode word &&
    (if isOtn mode then decide (new = (old + (if mode = 8 then 4 else 1)) % 256) else true)

/-- The mode by whose rule a framer works: the client of an OTN port follows the OC rule (R169). -/
def State.framerMode (s : State) (p : Nat) (client : Bool) : Nat := if client then 4 else s.prtMode p

/-- A framer scans: receiver on, CDR locked; a client framer scans while the OTU is in frame (R170). -/
def State.scanning (s : State) (lane : Nat) (client : Bool) : Bool :=
  let p := s.lowest lane
  s.rxOn p && (if client then isOtn (s.prtMode lane) && s.framed lane else s.cdr p (lane - p))

/-- A framer leaves IN_FRAME (R170): its position is the first candidate, verified at the next expected position. -/
def Framer.lose (f : Framer) (now len : Nat) : Framer :=
  { f with inFrame := false, errRun := 0, cands := [{ pos := f.pos, due := now + len, ctr := f.ctr }] }

/-- A framer returns to SEARCH with its position barred for 16 frames (R171). -/
def Framer.bar (f : Framer) (now : Nat) : Framer :=
  { f with inFrame := false, errRun := 0, cands := [], barred := [(f.pos, now + 16 * frameTicks)] }

/-! ### LOS and LOF (R190) -/

/-- 3 ms (R190). -/
def lofTicks : Nat := 300000

/-- The receiver of a port starts (R160, R190, R400): framers in SEARCH, CDR not locked, LOS, OOF and LOF set, every path in
acquisition. `silent`: PRT_DEF_INT records nothing. -/
def State.startRx (s : State) (p : Nat) (silent : Bool) : State :=
  let s := (s.lanes p).foldl (fun s l => s.setFramer l Framer.reset) (s.setFramer (64 + p) Framer.reset)
  let s := s.acquire p silent
  let was := s.reg (prtBase p + 0x110)
  let s := (((s.setDef p 0 true).setDef p 2 true).setDef p 1 true).setDef p 14 false
  let s := if isOtn (s.prtMode p) then s.setDef p 15 true else s
  let s := if silent then s.setReg (prtBase p + 0x110) was else s
  let s := ((s.wr (F.PRT_STATUS_CDR_LOCK p) 0).setFlag (F.PRT_FRM_STATE p) false).wr (F.PRT_FRM_CAND p) 0
  let s := (s.wr (F.PRT_FRM_LANE_IN p) 0).setFlag (F.PRT_STATUS_RX_FRAMED p) false
  let s := s.mapDyn p fun d => { d with since := s.now, clientSince := s.now }
  (s.mapPrx p fun _ => PortRx.reset).updateRdi p

/-- The receive side of a port is in service (R33, R162, R322, R323): enabled, at D0 or D1, before T_e of a disable, and no LANE_PRBS or
stack march. -/
def State.inService (s : State) (p : Nat) : Bool :=
  s.rxOn p && s.pwr.march != 2 && (s.dyn p).tx != 3 &&
    (match (s.dyn p).cmd with
      | .disabling _ _ (some _) => false
      | _ => true)

/-- The receive side writes a port's slots (R173): in service, in frame, without LOS, LOF, AIS-L, or on an OTN port LOM, OTU-AIS and
CLIENT_LOF. -/
def State.writes (s : State) (p : Nat) : Bool :=
  let m := s.prtMode p
  s.inService p && s.framed p && !s.pdef p 0 && !s.pdef p 2 && (isZiuth m || !s.pdef p 3) &&
    (!isOtn m || (!s.pdef p 5 && !s.pdef p 6 && !s.pdef p 15))

end Sys2Proof.Machine
end

