-- ==== Sys2Proof/Machine/Record.lean ====
section
/-! DEFINITION. Machine/Record.lean: the records of the mate link as bytes (spec/09 R233, R234). -/
namespace Sys2Proof.Machine

/-- Data of a RESYNC_DATA record as the model's sender cuts them: the longest record whose data are a whole number of 16-byte records.
DESIGN CHOICE (log entry 81): the spec names no cut. -/
def resyncPiece : Nat := 65504

/-- Number of a region (R234). -/
def Region.number : Region → Nat
  | .page false _ => 0
  | .page true _ => 1
  | .sels _ => 2
  | .mons _ => 3
  | .words r _ => r

/-- Bytes of a region: the active page, the selectors and the monitors go whole, so that these three are 301,989,888 bytes (R241); of the
others the entries, 16 bytes for a shadow entry and 8 for a word with its key (log entry 81). -/
def Region.size : Region → Nat
  | .page false _ => 2 ^ 28
  | .page true es => 16 * es.length
  | .sels _ => 2 ^ 24
  | .mons _ => 2 ^ 24
  | .words _ l => 8 * l.length

/-- RESYNC_DATA records of a region. -/
def Region.records (d : Region) : Nat := (d.size + (resyncPiece - 1)) / resyncPiece

/-- Bytes of a region from 16-byte record `k` on, `n` records. -/
def Region.bytes (d : Region) (k n : Nat) : List W8 :=
  let at8 := fun (l : List (Nat × BitVec 64)) (i : Nat) => ((l.find? fun e => decide (e.1 = i)).map fun e => e.2.toNat).getD 0
  match d with
  | .page false es => (List.range (2 * n)).flatMap fun i => leBytes (at8 es (2 * k + i)) 8
  | .page true es => ((es.drop k).take n).flatMap fun e => leBytes e.1 8 ++ leBytes e.2.toNat 8
  | .sels l => (List.range n).flatMap fun i => leBytes (((l.find? fun e => decide (e.1 = k + i)).map fun e => e.2.toNat).getD 0) 16
  | .mons l => (List.range (2 * n)).flatMap fun i => leBytes (at8 l (2 * k + i)) 8
  | .words _ l => ((l.drop (2 * k)).take (2 * n)).flatMap fun e => leBytes (e.1 + 2 ^ 32 * e.2.toNat) 8

/-- TYPE of a record (R234). -/
def MateBody.type : MateBody → Nat
  | .heartbeat _ => 0x01
  | .stop _ _ => 0x02
  | .handover _ _ => 0x03
  | .mapEntries _ => 0x10
  | .commitArm _ _ _ => 0x11
  | .commitCancel _ => 0x12
  | .selState _ => 0x20
  | .history _ _ _ => 0x30
  | .settings _ _ _ _ => 0x40
  | .resyncBegin _ => 0x50
  | .resyncData _ _ _ => 0x51
  | .resyncAll _ => 0x51
  | .resyncEnd _ => 0x52
  | .resyncReq => 0x60

/-- Bytes filled up to whole 8-byte words (R233). -/
def padWord (bs : List W8) : List W8 := bs ++ List.replicate ((8 - bs.length % 8) % 8) 0

/-- The body of a record as bytes, least significant byte first (R234). -/
def MateBody.data : MateBody → List W8
  | .heartbeat b => leBytes b.toNat 8
  | .stop f c => leBytes (f.toNat + 2 ^ 16 * c.toNat) 8
  | .handover h e => leBytes (h.toNat + 2 ^ 16 * e.toNat) 8
  | .mapEntries es => es.flatMap fun e => leBytes e.1 8 ++ leBytes e.2.toNat 8
  | .commitArm t id n => leBytes (t.toNat + 2 ^ 16 * id.toNat + 2 ^ 32 * n.toNat) 8
  | .commitCancel t => leBytes t.toNat 8
  | .selState items => items.flatMap fun x => leBytes x.toNat 8
  | .history o r fn => leBytes (o.toNat + 2 ^ 32 * r.toNat + 2 ^ 48 * fn.toNat) 8
  | .settings o n d bs =>
    leBytes (o.toNat + 2 ^ 32 * n.toNat) 8 ++ (List.range 16).flatMap (fun i => leBytes (d.getD i 0).toNat 4) ++ padWord bs
  | .resyncBegin fn => leBytes fn.toNat 8
  | .resyncData r o bs => leBytes (r + 2 ^ 32 * o.toNat) 8 ++ padWord bs
  | .resyncAll _ => []
  | .resyncEnd n => leBytes n.toNat 8
  | .resyncReq => []

/-- The header of a record with its CRC field `crc` (R233): TYPE, FLAGS, LEN in 8-byte words, SEQ, FN, EPOCH, zero, CRC. -/
def MateRec.header (r : MateRec) (words : Nat) (crc : W32) : List W8 :=
  leBytes r.body.type 1 ++ leBytes r.last.toNat 1 ++ leBytes words 2 ++ leBytes r.seq.toNat 4 ++ leBytes r.fn.toNat 2 ++
    leBytes r.epoch.toNat 1 ++ [0] ++ leBytes crc.toNat 4

/-- CRC-32 over a record with its CRC field zero (R233). -/
def MateRec.crc (r : MateRec) : W32 := crc32 (r.header (2 + r.body.data.length / 8) 0 ++ r.body.data)

/-- A record as bytes (R233). -/
def MateRec.bytes (r : MateRec) : List W8 := r.header (2 + r.body.data.length / 8) r.crc ++ r.body.data

/-- The records that one entry of the send queue stands for: `resyncAll` for all RESYNC_DATA records of a region in order. -/
def MateRec.records (r : MateRec) : List MateRec :=
  match r.body with
  | .resyncAll d => (List.range d.records).map fun k =>
      let data := (d.bytes (k * (resyncPiece / 16)) (resyncPiece / 16)).take (d.size - k * resyncPiece)
      { r with seq := r.seq + BitVec.ofNat 32 k, body := MateBody.resyncData d.number (BitVec.ofNat 32 (k * resyncPiece)) data }
  | _ => [r]

/-- Records that a body stands for. -/
def MateBody.count : MateBody → Nat
  | .resyncAll d => d.records
  | _ => 1

/-- Length of a body's records in bytes (R233, R234). -/
def MateBody.bytes : MateBody → Nat
  | .mapEntries es => 16 + 16 * es.length
  | .selState items => 16 + 8 * items.length
  | .settings _ _ _ data => 88 + (data.length + 7) / 8 * 8
  | .resyncData _ _ data => 24 + (data.length + 7) / 8 * 8
  | .resyncAll d => 24 * d.records + d.size
  | .resyncReq => 16
  | _ => 24

/-- A received record fits its CRC (R233, R235). -/
def recFits (h : RecHdr) (b : MateBody) : Bool :=
  decide (h.crc = MateRec.crc { body := b, last := h.last, seq := h.seq, fn := h.fn, epoch := h.epoch })

end Sys2Proof.Machine
end

