-- ==== Sys2Proof/Machine/Mirror.lean ====
section
/-! DEFINITION. Machine/Mirror.lean: records sent to the mate and the governor's boost (spec/09 R233 to R238, spec/04
R106, R107). -/
namespace Sys2Proof.Machine

/-- Change the PAIR state outside its registers. -/
def State.mapPair (s : State) (f : PairSt → PairSt) : State := { s with pair := f s.pair }
/-- Change the mate-link state. -/
def State.mapMate (s : State) (f : MateSt → MateSt) : State := { s with mate := f s.mate }
/-- Change the core state. -/
def State.mapCore (s : State) (f : CoreSt → CoreSt) : State := { s with core := f s.core }
/-- Change the engine state. -/
def State.mapEng (s : State) (f : EngSt → EngSt) : State := { s with eng := f s.eng }

/-- The pair mode (R221). -/
def State.mode (s : State) : Nat := s.rd F.PAIR_CFG_MODE
/-- The mate link is up (R232). -/
def State.mateUp (s : State) : Bool := s.flag F.PAIR_STAT_MATE_UP
/-- The known epoch (R223). -/
def State.epoch (s : State) : W8 := BitVec.ofNat 8 (s.rd F.PAIR_STAT_EPOCH)

/-- Send a record that describes frame `fn` to the mate (R233): SEQ counts every record; with the link down the record is
dropped, and the mate sees the gap (R235, R250). A device in MODE 00 ignores the mate link (R221). -/
def State.sendFor (s : State) (fn : W16) (b : MateBody) (last : Bool) : State :=
  if s.mode = 0 then s
  else
    let q := s.mate.seqOut + BitVec.ofNat 32 b.count
    let r : MateRec := { body := b, last := last, seq := s.mate.seqOut + 1, fn := fn, epoch := s.epoch }
    let s := s.mapMate fun m => { m with seqOut := q, out := if s.mateUp then m.out ++ [r] else m.out }
    if s.acting then (s.wr F.PAIR_SEQ_SEQ q.toNat).count 0x50 0 (if s.mateUp then b.bytes else 0) else s

/-- Send a record with the current FN. -/
def State.sendRec (s : State) (b : MateBody) (last : Bool) : State := s.sendFor s.fn b last

/-- The holder mirrors a change (R234 to R238). -/
def State.mirror (s : State) (b : MateBody) : State := if s.acting then s.sendRec b true else s

/-- Split a list into pieces of `n`. -/
def pieces {α : Type} (n : Nat) : Nat → List α → List (List α)
  | 0, _ => []
  | fuel + 1, l => if l.isEmpty then [] else l.take n :: pieces n fuel (l.drop n)

/-- Mirror map entries, 4,095 to a record (R233, R236). -/
def State.mirrorEntries (s : State) (es : List (Nat × W64)) : State :=
  if s.acting then
    let s := (pieces 4095 es.length es).foldl (fun s p => s.sendRec (.mapEntries p) true) s
    s.mapMate fun m => { m with sent := m.sent + es.length }
  else s

/-- Mirror an accepted command with its buffer data (R238): 65,448 bytes to a record, LAST in the last one. -/
def State.mirrorSettings (s : State) (d : List W32) (data : List W8) : State :=
  if s.acting then
    let ps := if data.isEmpty then [[]] else pieces 65448 data.length data
    (ps.foldl (fun (acc : State × Nat × Nat) p =>
      let (s, off, k) := acc
      (s.sendRec (.settings (BitVec.ofNat 32 off) (BitVec.ofNat 32 data.length) d p) (decide (k + 1 = ps.length)),
        off + p.length, k + 1)) (s, 0, 0)).1
  else s

/-- Command VDD_CORE to a voltage in mV (R106, R309); a change starts the run of records of R106 anew. -/
def State.commandV (s : State) (mv : Nat) : State :=
  (s.wr F.PWR_VCORE_CMD_MV mv).mapEng fun e =>
    { e with gov := { e.gov with good := if s.rd F.PWR_VCORE_CMD_MV = mv then e.gov.good else 0 } }

/-- Jump to VMAX now and to 256 engines at the next mark (R106). -/
def State.boost (s : State) : State :=
  (s.commandV 800).mapEng fun e => { e with gov := { e.gov with aNext := some 256, good := 0 } }

/-- The boost at the arming of a heavier commit for frame `target` (R107): A = 256 at once, and no down-step until 64 records have
closed after the swap. -/
def State.preboost (s : State) (newPeak : Nat) (target : W16) : State :=
  if s.flag F.CORE_CTRL_PREBOOST_EN && decide (s.rd F.MAP_BANK_PEAK_LOAD + 2048 < newPeak) then
    s.boost.mapEng fun e => { e with gov := { e.gov with boost := some 64, boostFor := target } }
  else s

end Sys2Proof.Machine
end

