-- ==== Sys2Proof/Machine/Demand.lean ====
section
/-! DEFINITION. Machine/Demand.lean: what demands a port's transmitter and receiver, and the wake that a demand starts (spec/06 R166,
R167; spec/12 R312). -/
namespace Sys2Proof.Machine

/-- TYPE of an entry (R197). -/
def State.refType (s : State) (n : Nat) : Nat := s.rd (F.TMG_REF_TYPE n)
/-- Source of an entry. -/
def State.refSrc (s : State) (n : Nat) : Nat := s.rd (F.TMG_REF_SRC n)

/-- The port is a nominated timing reference (R166, R198). -/
def State.nominated (s : State) (p : Nat) : Bool :=
  (List.range 16).any fun n => s.refType n == 1 && s.refSrc n == p

/-- The selectors that are VALID, as stored keys. -/
def State.validSels (s : State) : List Nat := (s.sel.sels.map Prod.fst).filter fun i => vValid (s.selAt i)

/-- The port's transmitter is demanded (R166, R222): by the holder (in the guard too), in duplex-hot mode, or by a
loopback. -/
def State.txDemand (s : State) (p : Nat) : Bool :=
  s.acting || s.flag F.PAIR_STAT_GUARD || s.mode == 1 || (s.mode == 2 && s.flag F.PAIR_STAT_EFF_DUPLEX) ||
    decide (s.rd (F.PRT_CFG_LOOP p) ≠ 0)

/-- A valid selector names a monitor on the port (R161). -/
def State.monSelectors (s : State) (p : Nat) : Nat :=
  (s.validSels.filter fun i =>
    let on := fun (m : Nat) => mEn (s.monAt m) && decide (mPort (s.monAt m) = p)
    on (vMonW (s.selAt i)) || on (vMonP (s.selAt i))).length

/-- A management channel of the port is routed (R166, R192). -/
def State.mdcRouted (s : State) (p : Nat) : Bool :=
  s.mdc.routes.any fun r => decide (bits r.2.word.toNat 8 6 = p) && decide (bits r.2.word.toNat 20 2 ≠ 0)

/-- The port's receiver is demanded (R166). -/
def State.rxDemand (s : State) (p : Nat) : Bool :=
  decide (s.rd (F.PRT_SRC_REFS_COUNT p) ≠ 0) || grouped s.groups p || decide (s.monSelectors p ≠ 0) || s.mdcRouted p ||
    s.nominated p || decide (s.rd (F.PRT_CFG_LOOP p) ≠ 0)

/-- The cap of R312. -/
def State.depthCap (s : State) (p : Nat) : Nat := if s.txDemand p then 0 else if s.rxDemand p then 1 else 3

/-- A depth shallower than the current one starts a wake at once; during a wake it is what that wake leads to, so that no second
wake lengthens it (R167, R313). -/
def State.wakeTo (s : State) (p d : Nat) : State :=
  if s.enabled p && !s.member p && decide (d < s.depth p) then
    s.mapDyn p fun y => { y with wake := some (min d (y.wake.getD d)), deep1 := none, deep2 := none, deep3 := none }
  else s

/-- A demand that a deeper port does not meet wakes it at once (R166, R167). -/
def State.wakeDemand (s : State) (p : Nat) : State := s.wakeTo p (s.depthCap p)

/-- Every port's demands (R167). -/
def State.wakeDemands (s : State) : State := (List.range 48).foldl State.wakeDemand s

end Sys2Proof.Machine
end

