-- ==== Sys2Proof/Machine/MapCheck.lean ====
section
/-! DEFINITION. Machine/MapCheck.lean: the map checker (spec/03 R66 to R74, R399).
A page lists only entries that are not empty; an empty entry passes every test and charges no bank. -/
namespace Sys2Proof.Machine

/-- What the checker answers (R66 to R73). -/
inductive CheckRes where
  | ok (page : List (Nat × W64)) (moved : List Nat) (peakLoad peakBank : Nat)
  | badParam (slot reason : Nat)
  | mapEcc (slot : Nat)
  | budget (bank load prot : Nat)
  | noResource (source free : Nat)
  deriving DecidableEq, Repr

/-- What the checker needs beside the page: selector DELTA and VALID as read, the groups, HERD_FAN, ECC_GEN. -/
structure CheckEnv where
  sels : List (Nat × W128)
  groups : List (Nat × W32)
  fan : Nat
  eccGen : Bool
  restore : Bool

/-- A selector as the checker reads it. -/
def CheckEnv.sel (c : CheckEnv) (i : Nat) : W128 := ((decode114 (Store.get selDefault c.sels i)).get?).getD 0

/-- FILL 000 or 100: the entry reads a source (R68). -/
def readsSource (e : W64) : Bool := eFill e == 0 || eFill e == 4

/-- The reason for which a host-written entry is refused (R66), the lowest first (R399); `herdOk`: the checker itself
wrote the SRC. -/
def badReason (c : CheckEnv) (herdOk : Bool) (e : W64) : Option Nat :=
  if eRsv e ≠ 0 then some 1
  else if eFill e = 6 ∨ eFill e = 7 then some 2
  else if eXcode e = 3 then some 3
  else if eXcode e ≠ 0 ∧ readsSource e = false then some 4
  else if (isHerd (eSrc e) && !herdOk) = true ∨ isTail (eSrc e) = true then some 5
  else if eFill e = 4 ∧ (eSrc e < genLo ∨ tailLo ≤ eSrc e) ∧ (isHerd (eSrc e) && herdOk) = false then some 6
  else if eProt e = true ∧ c.restore = false ∧ vValid (c.sel (eSelix e)) = false then some 7
  else none

/-- Test one entry (R67 before R66, R399). -/
def testEntry (c : CheckEnv) (herdOk : Bool) (slot : Nat) (e : W64) : Option CheckRes :=
  match decode54 e with
  | .bad => some (.mapEcc slot)
  | .fixed v => if c.eccGen then (badReason c herdOk v).map (CheckRes.badParam slot) else some (.mapEcc slot)
  | .fine v => (badReason c herdOk v).map (CheckRes.badParam slot)

/-- Test entries in ascending slot order; the first failure ends the check (R399). -/
def testAll (c : CheckEnv) (herdOk : Nat → Bool) : List (Nat × W64) → Option CheckRes
  | [] => none
  | (a, e) :: rest =>
    match testEntry c (herdOk a) a e with
    | some r => some r
    | none => testAll c herdOk rest

/-! ### Bank load (R68, R139) -/

/-- The read set of an entry (R68). -/
def readSet (c : CheckEnv) (e : W64) : List Nat :=
  if !readsSource e then []
  else
    let base := if eFill e = 0 ∧ eProt e = true then [eSrc e, plusDelta (eSrc e) (vDelta (c.sel (eSelix e)))] else [eSrc e]
    base ++ base.filterMap fun a =>
      if a < lineSlots then (groupMate c.groups (slotPort a)).map fun q => a % 648000 + 648000 * q else none

/-- The distinct banks that an entry charges (R68). -/
def chargedBanks (c : CheckEnv) (e : W64) : List Nat := ((readSet c e).map bankOf).dedup

/-- A read charged by an entry counts as protected (R68). -/
def protectedRead (c : CheckEnv) (e : W64) : Bool := eProt e || (readSet c e).any (inGroup c.groups)

/-- An entry that the checker may redirect (R71, R140). -/
def redirectable (c : CheckEnv) (origin : Nat) (e : W64) : Bool := readsSource e && !eProt e && !inGroup c.groups origin

/-- Bank loads: charges by bank. -/
abbrev Loads := List (Nat × Nat)
/-- The load of a bank. -/
def loadOf (l : Loads) (b : Nat) : Nat := Store.get (fun _ => 0) l b
/-- Charge a bank. -/
def charge (l : Loads) (b n : Nat) : Loads := Store.put (fun _ => 0) l b (loadOf l b + n)
/-- Take charges off a bank. -/
def uncharge (l : Loads) (b n : Nat) : Loads := Store.put (fun _ => 0) l b (loadOf l b - n)

/-- The loads of the line entries of a page (R68). -/
def pageLoads (c : CheckEnv) (p : List (Nat × W64)) : Loads :=
  (lineEntries p).foldl (fun l x => (chargedBanks c x.2).foldl (fun l b => charge l b 1) l) []

/-- The protected reads charged to a bank. -/
def protReads (c : CheckEnv) (p : List (Nat × W64)) (b : Nat) : Nat :=
  ((lineEntries p).filter fun x => protectedRead c x.2 && (chargedBanks c x.2).contains b).length

/-- The highest load and the lowest bank that has it. -/
def peak (l : Loads) : Nat × Nat :=
  l.foldl (fun best x => if best.1 < x.2 then (x.2, x.1) else best) (0, 0)

/-- The lowest bank above the ceiling of 40,960 reads (R69). -/
def overBudget (l : Loads) : Option Nat := (l.find? fun x => decide (40960 < x.2)).map Prod.fst

/-! ### Herd placement (R70 to R73) -/

/-- The placement at work: the page, the loads, and the slots whose SRC was changed. -/
structure Place where
  page : List (Nat × W64)
  loads : Loads
  moved : List Nat

/-- A herd slot is free for a page (R70). -/
def herdFree (p : List (Nat × W64)) (a : Nat) : Bool := isHerd a && decide (entryAt p a = emptyEntry)

/-- The lowest free herd slot of a bank. -/
def freeIn (p : List (Nat × W64)) (b : Nat) : Option Nat :=
  ((List.range 1187).map fun i => slotOf b (15187 + i)).find? (herdFree p)

/-- The banks that hold a free herd slot, `skip` left out, with that slot. -/
@[irreducible] def freeBanks (p : List (Nat × W64)) (skip : Option Nat) : List (Nat × Nat) :=
  (List.range 2048).filterMap fun b => if skip = some b then none else (freeIn p b).map fun a => (b, a)

/-- The placement rule of R72: the lowest free herd slot in the bank of least load among banks with a free herd slot,
the lowest bank on ties. -/
def chooseFree (w : Place) (skip : Option Nat) : Option (Nat × Nat) :=
  (freeBanks w.page skip).foldl (fun best x => match best with
    | none => some x
    | some y => if loadOf w.loads x.1 < loadOf w.loads y.1 then some x else some y) none

/-- The entry of a herd slot in use (R70). -/
def herdEntry (origin : Nat) : W64 := seal54 origin

/-- The copies of a source in ascending herd address. -/
def copiesOf (p : List (Nat × W64)) (s : Nat) : List Nat :=
  (p.filter fun x => isHerd x.1 && decide (eSrc x.2 = s)).map Prod.fst

/-- The unprotected readers of origin `s`, ascending, with their entries (R71). -/
def readersOf (c : CheckEnv) (p : List (Nat × W64)) (s : Nat) : List (Nat × W64) :=
  (lineEntries p).filter fun x => decide (originOf p (eSrc x.2) = s) && redirectable c s x.2

/-- Let a reader read slot `a`: its SRC and its charges move, that of a grouped region with its mate's (R68, R139). -/
def redirect (c : CheckEnv) (w : Place) (slot a : Nat) : Place :=
  let e := entryAt w.page slot
  if eSrc e = a then w
  else
    let n := eSetSrc e a
    { page := putEntry w.page slot n,
      loads := (chargedBanks c n).foldl (fun l b => charge l b 1) ((chargedBanks c e).foldl (fun l b => uncharge l b 1) w.loads),
      moved := slot :: w.moved }

/-- Deal readers in ascending order, `fan` to each copy, copy 0 being the source itself (R72). -/
def deal (c : CheckEnv) (fan : Nat) (targets : List Nat) : List Nat → Nat → Place → Place
  | [], _, w => w
  | r :: rs, k, w => deal c fan targets rs (k + 1) (redirect c w r (targets.getD (k / fan) (targets.getD 0 0)))

/-- Place copies of `s` until it has `n`; each new copy holds `fan` provisional reads (R72). -/
def placeCopies (fan s : Nat) : Nat → Place → List Nat → Option (Place × List Nat)
  | 0, w, banks => some (w, banks)
  | k + 1, w, banks =>
    match chooseFree w none with
    | none => none
    | some (b, a) =>
      placeCopies fan s k { w with page := putEntry w.page a (herdEntry s), loads := charge w.loads b fan } (b :: banks)

/-- Phase 1 for one source (R72). `none`: no herd slot is free (R73). -/
def phase1 (c : CheckEnv) (w : Place) (s : Nat) : Option Place :=
  let readers := readersOf c w.page s
  let n := (readers.length + c.fan - 1) / c.fan - 1
  let have_ := copiesOf w.page s
  let keep := have_.take n
  let gone := have_.drop n
  match placeCopies c.fan s (n - keep.length) w [] with
  | none => none
  | some (w, banks) =>
    let w := { w with loads := banks.foldl (fun l b => uncharge l b c.fan) w.loads }
    let targets := s :: ((copiesOf w.page s).filter fun a => !gone.contains a)
    let all := (lineEntries w.page).filter fun x => decide (originOf w.page (eSrc x.2) = s) && readsSource x.2 && !eProt x.2
    let w := if inGroup c.groups s then all.foldl (fun w x => redirect c w x.1 s) w
      else deal c c.fan targets (readers.map Prod.fst) 0 w
    some { w with page := gone.foldl (fun p a => putEntry p a emptyEntry) w.page }

/-- Phase 1 over the sources whose readers changed, in ascending order. -/
def phase1All (c : CheckEnv) : List Nat → Place → Except Nat Place
  | [], w => .ok w
  | s :: ss, w =>
    match phase1 c w s with
    | none => .error s
    | some w => phase1All c ss w

/-- The unprotected readers whose SRC names `x`, ascending. -/
def readersAt (c : CheckEnv) (p : List (Nat × W64)) (x : Nat) : List Nat :=
  ((lineEntries p).filter fun y => decide (eSrc y.2 = x) && redirectable c (originOf p x) y.2).map Prod.fst

/-- The slot in bank `b` with most unprotected readers, the lowest address on ties, with its readers. -/
def busiest (c : CheckEnv) (p : List (Nat × W64)) (b : Nat) : Option (Nat × List Nat) :=
  let slots := (((lineEntries p).filter fun y => decide (bankOf (eSrc y.2) = b) &&
    redirectable c (originOf p (eSrc y.2)) y.2).map fun y => eSrc y.2).dedup.mergeSort
  slots.foldl (fun best x =>
    let rs := readersAt c p x
    match best with
    | none => if rs.isEmpty then none else some (x, rs)
    | some y => if y.2.length < rs.length then some (x, rs) else some y) none

/-- Phase 2 for one bank (R72): while the ceiling is exceeded, halve the busiest slot's readers onto a new copy. With free herd slots
in the excluded bank alone the answer is NO_RESOURCE (R73; DESIGN CHOICE, log entry 68). -/
def phase2 (c : CheckEnv) (free b : Nat) : Nat → Place → Except CheckRes Place
  | 0, w => .ok w
  | fuel + 1, w =>
    if loadOf w.loads b ≤ 40960 then .ok w
    else match busiest c w.page b with
      | none => .error (.budget b (loadOf w.loads b) (protReads c w.page b))
      | some (x, rs) =>
        let o := originOf w.page x
        match chooseFree w (some b) with
        | none => .error (.noResource o free)
        | some (_, a) =>
          let half := (rs.length + 1) / 2
          let w := { w with page := putEntry w.page a (herdEntry o) }
          phase2 c free b fuel ((rs.drop (rs.length - half)).foldl (fun w r => redirect c w r a) w)

/-- Phase 2 over banks in ascending index. -/
def phase2All (c : CheckEnv) (free : Nat) : List Nat → Place → Except CheckRes Place
  | [], w => .ok w
  | b :: bs, w =>
    match phase2 c free b 2430001 w with
    | .error r => .error r
    | .ok w => phase2All c free bs w

/-- An entry as the checker reads it: corrected where it can be (R54). -/
def corrected (e : W64) : W64 := (decode54 e).get?.getD e

/-- A page whose correctable entries are corrected (R54). -/
def correctPage (p : List (Nat × W64)) : List (Nat × W64) :=
  p.foldl (fun q x => match decode54 x.2 with
    | .fixed v => putEntry q x.1 v
    | _ => q) p

/-- Sources whose reader set changed (R72): the origins that the dealt-out entries read before and read now, and the
origins that have copies although their region is now in a group (R140). -/
def changedSources (c : CheckEnv) (p : List (Nat × W64)) (before : List (Nat × Option W64)) : List Nat :=
  let src := fun (x : W64) => let e := corrected x; if readsSource e && !eProt e then [originOf p (eSrc e)] else []
  let l := before.flatMap fun x => (match x.2 with
    | some e => src e
    | none => []) ++ src (entryAt p x.1)
  let g := ((herdUsed p).map fun a => originOf p a).filter (inGroup c.groups)
  (l ++ g).dedup.mergeSort

/-- The whole check (R66 to R73, R399): `tested` the slots it tests. Placement reads corrected entries and leaves them corrected (log
entry 69); a bank above the ceiling at the end is refused whatever its index (R69). -/
def mapCheck (c : CheckEnv) (p : List (Nat × W64)) (herdOk : Nat → Bool) (tested : List (Nat × W64))
    (before : List (Nat × Option W64)) : CheckRes :=
  match testAll c herdOk tested with
  | some r => r
  | none =>
    let p := correctPage p
    let free := 2430000 - (herdUsed p).length
    match phase1All c (changedSources c p before) { page := p, loads := pageLoads c p, moved := [] } with
    | .error s => .noResource s free
    | .ok w =>
      match phase2All c free (List.range 2048) w with
      | .error r => r
      | .ok w =>
        match overBudget w.loads with
        | some b => .budget b (loadOf w.loads b) (protReads c w.page b)
        | none => .ok w.page w.moved (peak w.loads).1 (peak w.loads).2

/-- What the checker reads beside the page, from the state. -/
def State.checkEnv (s : State) : CheckEnv :=
  { sels := s.sel.sels, groups := s.groups, fan := s.rd F.MAP_HERD_CFG_HERD_FAN, eccGen := s.flag F.MAP_CTRL_ECC_GEN, restore := false }

end Sys2Proof.Machine
end

