-- ==== Sys2Proof/Machine/Map.lean ====
section
/-! DEFINITION. Machine/Map.lean: map writes, checks, commits, readback and snapshot (spec/03 R60 to R83). -/
namespace Sys2Proof.Machine

/-! ### Writes (R60 to R64) -/

/-- The shadow page is locked: from the taking of a commit to its swap or refusal (R76). -/
def State.shadowLocked (s : State) : Bool := s.map.commit.isSome

/-- A check, a commit or a snapshot is in progress; a commit is in flight until its final reply (R76). -/
def State.mapBusy (s : State) : Bool :=
  s.map.check.isSome || s.map.commit.isSome || s.map.copy.isSome || s.map.snap

/-- The number of dirty entries is shown in MAP_DIRTY (R63). -/
def State.showDirty (s : State) : State := s.wr F.MAP_DIRTY_COUNT s.map.dirty.length

/-- The shadow entry that a host write replaces, as in service when the readers were last dealt out (R72): while copy-forward runs, that
of the active page unless the host has written it since the swap (R79). -/
def State.oldEntry (s : State) (a : Nat) : W64 :=
  if s.map.copy.isSome && !Store.get (fun _ => false) s.map.dirty a then entryAt s.active a else entryAt s.shadow a

/-- Store one entry that a host write brings (R62, R63): `gen`: the device computes its check bits. -/
def State.hostEntry (gen : Bool) (s : State) (a : Nat) (e : W64) : State :=
  let e := if gen then seal54 e.toNat else e
  let old := s.oldEntry a
  let s := s.setShadow (putEntry s.shadow a e)
  s.mapMap fun m =>
    { m with dirty := Store.put (fun _ => false) m.dirty a true, redir := Store.put (fun _ => false) m.redir a false,
             before := if (Store.get (fun _ => none) m.before a).isSome then m.before
               else Store.put (fun _ => none) m.before a (some old) }

/-- Store entries from slot `a` upward. -/
def State.hostEntries (gen : Bool) : State → Nat → List W64 → State
  | s, _, [] => s
  | s, a, e :: es => State.hostEntries gen (s.hostEntry gen a e) (a + 1) es

/-- After a host write CHECK_VALID is 0, a running check is stale, and MAP_DIRTY shows the count (R63). -/
def State.wroteShadow (s : State) : State :=
  let s := s.mapMap fun m => { m with check := m.check.map fun c => { c with stale := true } }
  (s.setFlag F.MAP_STATUS_CHECK_VALID false).showDirty

/-- The 64-bit words that bytes spell. -/
def bytesW64 (bs : List W8) : List W64 := (chunks 8 (bs.length / 8) bs).map fun c => BitVec.ofNat 64 (ofLe c)

/-- A discarded map-window or selector-window write (R61, R113). -/
def State.dropWindow (s : State) : State := (s.inc F.MAP_WR_DROP_COUNT 1).raise F.MAP_INT_WR_DROP

/-- A map-window write that R61 does not take is dropped and counted; a device that does not act counts it under R20 as well. -/
def State.dropMapWindow (s : State) : State :=
  let s := s.dropWindow
  if s.acting then s else (s.inc F.PAIR_WR_DROP_COUNT 1).mapPair fun p => { p with dropSince := p.dropSince + 1 }

/-- A BAR2 write at offset `o` of the map window (R60, R61). -/
def State.mapWindow (s : State) (o : Nat) (data : List W8) : State :=
  if data ≠ [] ∧ o % 8 = 0 ∧ data.length % 8 = 0 ∧ o + data.length ≤ 8 * lineSlots ∧ s.acting = true
      ∧ s.shadowLocked = false then
    (State.hostEntries (s.flag F.MAP_CTRL_ECC_GEN) s (o / 8) (bytesW64 data)).wroteShadow
  else s.dropMapWindow

/-- MAP_WINDOW_WRITE (R60, R61): a BAR2 write at an offset of the map window, taken or dropped and counted. -/
def execMapWindowWrite (t : Nat) (off : BitVec 28) (data : List W8) (s : State) : Res :=
  if (s.tick t).barred 0 then .next (s.tick t).postedUr else .next ((s.tick t).mapWindow off.toNat data)

/-- SELECTOR_WINDOW_WRITE (R113): always discarded and counted in MAP_WR_DROP. -/
def execSelectorWindowWrite (t : Nat) (_off : BitVec 24) (_data : List W8) (s : State) : Res :=
  if (s.tick t).barred 0 then .next (s.tick t).postedUr else .next (s.tick t).dropWindow

/-- The entries that MODE 01 or 10 writes (R64). -/
def templateRun (mode tmpl : Nat) : Nat → Nat → List W64
  | _, 0 => []
  | k, n + 1 =>
    (if mode = 2 then seal54 (tmpl % 2 ^ 56 - tmpl % 2 ^ 25 + (tmpl % 2 ^ 25 + k)) else seal54 tmpl) :: templateRun mode tmpl (k + 1) n

/-- MAP_WRITE_RANGE's parameter checks (R258, step 2). -/
def mapWriteRangeOk (d : List W32) : Bool :=
  onlyBits (word d 2) 0x1FFFFFF && onlyBits (word d 3) 0x3FFFFFF && decide (word d 4 < 3) && decide (1 ≤ word d 3) &&
    decide (word d 2 + word d 3 ≤ lineSlots) && (word d 4 != 0 || decide ((word64 d 5).toNat % 8 = 0))

/-- The BAD_PARAM cases of MAP_WRITE_RANGE that its chapters give (R64, R256; R258, step 4). -/
def State.writeRangeCase (s : State) (src : Src) (d : List W32) : Bool :=
  (word d 4 != 0 || s.addrOk src (word64 d 5) (8 * word d 3)) &&
    (word d 4 != 2 || decide (word d 5 % 2 ^ 25 + word d 3 - 1 ≤ 33554431))

/-- MAP_WRITE_RANGE (R64). -/
def execMapWriteRange (x : Exe) (s : State) : Res :=
  .next (s.run .mapWriteRange x (fun _ d => mapWriteRangeOk d) fun s d =>
      if !s.writeRangeCase x.src d then .refuse .badParam
      else if s.shadowLocked then .refuse .busy
      else
        let done := fun (s : State) => Ans.ok s.wroteShadow [BitVec.ofNat 32 (word d 3)]
        if word d 4 = 0 then
          .reading (s.readBuf (word64 d 5) (8 * word d 3) x) fun s bs =>
            done (State.hostEntries (s.flag F.MAP_CTRL_ECC_GEN) s (word d 2) (bytesW64 bs))
        else done (State.hostEntries true s (word d 2) (templateRun (word d 4) (word64 d 5).toNat 0 (word d 3))))

/-! ### Checks (R65 to R73) -/

/-- MAP_CHECK (R66): starts the checker; BUSY while a check, a commit or a snapshot is in progress. -/
def execMapCheck (x : Exe) (s : State) : Res :=
  .next (s.run .mapCheck x (fun _ d => onlyBits (word d 2) 1) fun s d =>
    if s.mapBusy then .refuse .busy
    else .accepted ((s.wr F.MAP_STATUS_STATE 1).mapMap fun m =>
      { m with check := some { full := bitOf (word d 2) 0, stale := false, fan := s.rd F.MAP_HERD_CFG_HERD_FAN } }) [])

/-- Bits of a page that flipped before it was read: (slot, bits). -/
def upsetPage (p : List (Nat × W64)) (up : List (Nat × W64)) : List (Nat × W64) :=
  up.foldl (fun p x => putEntry p x.1 (entryAt p x.1 ^^^ x.2)) p

/-- The slots that a check tests (R65): every listed line entry, or the dirty ones. -/
def State.testedEntries (s : State) (full : Bool) : List (Nat × W64) :=
  if full then lineEntries s.shadow
  else s.map.dirty.map fun x => (x.1, entryAt s.shadow x.1)

/-- The SRC of a slot in the shadow page was written by the checker: the slot is not dirty, or the checker redirected it
since the host wrote it (R66). -/
def State.checkerWrote (s : State) (a : Nat) : Bool :=
  !Store.get (fun _ => false) s.map.dirty a || Store.get (fun _ => false) s.map.redir a

/-- The running check's result on the shadow page, with the HERD_FAN of its start (R74). -/
def State.runCheck (s : State) (k : CheckRun) : CheckRes :=
  mapCheck { s.checkEnv with fan := k.fan } s.shadow s.checkerWrote (s.testedEntries k.full) s.map.before

/-- The reply to a refused check (the table of MAP_CHECK). -/
def CheckRes.refusal : CheckRes → Status × List W32
  | .ok _ _ _ _ => (.ok, [])
  | .badParam a r => (.badParam, [BitVec.ofNat 32 a, BitVec.ofNat 32 r])
  | .mapEcc a => (.mapEcc, [BitVec.ofNat 32 a])
  | .budget b l n => (.mapBankBudget, [BitVec.ofNat 32 b, BitVec.ofNat 32 l, BitVec.ofNat 32 n])
  | .noResource x f => (.noResource, [BitVec.ofNat 32 x, BitVec.ofNat 32 f])

/-- A passed check: the page with its herd set, its peak load, and a new CHECK_ID (R72). The holder sends the entries that
the check accepted and the herd entries that it changed (R236). -/
def State.passCheck (s : State) (page : List (Nat × W64)) (moved : List Nat) (load bank : Nat) : State :=
  let old := s.shadow
  let herds := ((herdUsed page ++ herdUsed old).dedup.mergeSort).filter fun a => decide (entryAt page a ≠ entryAt old a)
  let slots := ((s.map.dirty.map Prod.fst) ++ moved).dedup.mergeSort
  let s := (s.setShadow page).mapMap fun m =>
    { m with redir := moved.foldl (fun r a => Store.put (fun _ => false) r a
               (Store.get (fun _ => false) m.dirty a && isHerd (eSrc (entryAt page a)))) m.redir,
             moved := moved.foldl (fun r a => Store.put (fun _ => false) r a true) m.moved,
             before := [], checkId := m.checkId + 1, peakLoad := load, peakBank := bank }
  s.mirrorEntries ((slots ++ herds).map fun a => (a, entryAt page a))

/-- The first frame that a NEXT commit can name (R75, R77): armed (at most 200 ticks from now, and 4,000 ticks earlier
with the mate link up) before T_{t−1}. -/
def State.pickTarget (s : State) : W16 :=
  let need := s.now + 200 + (if s.mateUp then 4000 else 0)
  let k := (need - s.core.markT) / frameTicks + 1
  s.fn + BitVec.ofNat 16 (k + 1)

/-- A commit in flight ends without a swap: the page unlocks and nothing is applied (R76). -/
def State.dropCommit (s : State) : State :=
  (s.wr F.MAP_STATUS_STATE 0).mapMap fun m => { m with commit := none, check := none }

/-- MAP_CHECK_DONE (R66 to R73, R75, R399): the checker finishes or stops at the first failing entry and reports. `up`:
bits of the shadow page that flipped before they were read. Suspended background work makes it pause (R318). -/
def execMapCheckDone (t : Nat) (up : List (Nat × W64)) (rplOk : Bool) (s : State) : Res :=
  let s := s.tick t
  match (if s.flag F.CORE_STATUS_BG_SUSPENDED then none else s.map.check) with
  | none => .next s
  | some c =>
    let s := s.setShadow (upsetPage s.shadow up)
    let count := if c.full then lineSlots else s.map.dirty.length
    match s.map.commit, s.runCheck c with
    | none, .ok page moved load bank =>
      let s := (s.passCheck page moved load bank).mapMap fun m => { m with check := none }
      let s := ((s.wr F.MAP_STATUS_STATE 0).setFlag F.MAP_STATUS_CHECK_VALID (!c.stale)).raise F.MAP_INT_CHECK_DONE
      .next (s.complete .mapCheck .ok [BitVec.ofNat 32 s.map.checkId.toNat,
        BitVec.ofNat 32 (count + b2n c.stale * 2 ^ 31), BitVec.ofNat 32 (herdUsed page).length,
        BitVec.ofNat 32 (load % 2 ^ 16 + bank * 2 ^ 16)] rplOk)
    | none, r =>
      let s := (s.mapMap fun m => { m with check := none }).wr F.MAP_STATUS_STATE 0
      .next ((s.raise F.MAP_INT_CHECK_DONE).complete .mapCheck r.refusal.1 r.refusal.2 rplOk)
    | some k, .ok page moved load bank =>
      let s := (s.passCheck page moved load bank).mapMap fun m => { m with check := none }
      let s := (s.setFlag F.MAP_STATUS_CHECK_VALID true).raise F.MAP_INT_CHECK_DONE
      if k.named then .next (s.mapMap fun m => { m with commit := some { k with unchecked := false } })
      else
        let target := s.pickTarget
        let s := s.mapMap fun m => { m with commit := some { target := target, named := true, unchecked := false } }
        let s := s.wr F.MAP_FN_TARGET_FN target.toNat
        match findRunning Opc.mapCommit.row.code s.mbx.taken 0 with
        | none => .next s
        | some (i, q) => .next (s.accept i q [BitVec.ofNat 32 target.toNat] rplOk)
    | some _, r => .next ((s.dropCommit.raise F.MAP_INT_CHECK_DONE).complete .mapCommit r.refusal.1 r.refusal.2 rplOk)

/-! ### Commits (R75 to R80) -/

/-- MAP_COMMIT (R75, R76, R77): BUSY before COMMIT_TOO_LATE; from the taking on the shadow page is locked. -/
def execMapCommit (x : Exe) (s : State) : Res :=
  .next (s.run .mapCommit x (fun _ d => onlyBits (word d 2) 0xFFFF) fun s d =>
    let next := optOf d
    let target := if next then s.pickTarget else BitVec.ofNat 16 (word d 2)
    let unchecked := !s.flag F.MAP_STATUS_CHECK_VALID
    let named := !next || !unchecked
    if s.mapBusy || s.flag F.PAIR_STAT_HO_PEND then .refuse .busy
    else if !next && (decide (fnDist target s.fn < 2) || decide (32768 ≤ fnDist target s.fn)) then
      .refuse .commitTooLate
    else
      let s := (s.wr F.MAP_STATUS_STATE 2).mapMap fun m =>
        { m with commit := some { target := target, named := named, unchecked := unchecked },
                 check := if unchecked then some { full := false, stale := false, fan := s.rd F.MAP_HERD_CFG_HERD_FAN } else none }
      if named then .accepted (s.wr F.MAP_FN_TARGET_FN target.toNat) [BitVec.ofNat 32 target.toNat]
      else .later s)

/-- MAP_COMMIT_ARM (R77, R107, R236): a commit whose page has passed becomes ARMED before T_{t−1}; the mirror gets
COMMIT_ARM and the governor compares the peaks. -/
def execMapCommitArm (t : Nat) (s : State) : Res :=
  let s := s.tick t
  match s.map.commit with
  | none => .next s
  | some c =>
    if c.named = true ∧ c.unchecked = false ∧ s.rd F.MAP_STATUS_STATE = 2 ∧ 2 ≤ fnDist c.target s.fn
        ∧ fnDist c.target s.fn < 32768 then
      let s := (s.wr F.MAP_STATUS_STATE 3).preboost s.map.peakLoad c.target
      .next (s.mirror (.commitArm c.target s.map.checkId (BitVec.ofNat 32 s.mate.sent)))
    else .next s

/-- COMMIT_DEADLINE (R75): a commit that is not armed by T_{t−1} completes COMMIT_TOO_LATE and the page unlocks. -/
def execCommitDeadline (t : Nat) (rplOk : Bool) (s : State) : Res :=
  let s := s.tick t
  match s.map.commit with
  | none => .next s
  | some c =>
    if c.named = true ∧ s.rd F.MAP_STATUS_STATE = 2 ∧ (fnDist c.target s.fn < 2 ∨ 32768 ≤ fnDist c.target s.fn) then
      .next (s.dropCommit.complete .mapCommit .commitTooLate [] rplOk)
    else .next s

/-- The entries of the active page that charge a read to port `p`'s region (R163). -/
def srcRefs (c : CheckEnv) (page : List (Nat × W64)) (p : Nat) : Nat :=
  ((lineEntries page).filter fun x => (readSet { c with groups := [] } x.2).any fun a =>
    decide (a < lineSlots) && decide (slotPort a = p)).length

/-- PRT_SRC_REFS of every port is counted anew (R163). -/
def State.countRefs (s : State) : State :=
  (List.range 48).foldl (fun s p => s.wr (F.PRT_SRC_REFS_COUNT p) (srcRefs s.checkEnv s.active p)) s

/-- How many line entries that were dirty at the swap differ, as written, between the old and the new active page (R75). -/
def changedEntries (old new : List (Nat × W64)) (dirty : List (Nat × Bool)) : Nat :=
  (dirty.filter fun x => decide (x.1 < lineSlots) &&
    decide (asWritten old (entryAt old x.1) ≠ asWritten new (entryAt new x.1))).length

/-- The herd set that the input side writes from this mark on (R36, R77, R236): the page in service, or from T_{t−1} the
page of an armed commit for t. -/
def State.herdSet (s : State) : List (Nat × Nat) :=
  let armed := match s.map.commit with
    | some c => decide (s.rd F.MAP_STATUS_STATE = 3) && decide (c.target = s.fn + 1)
    | none => match s.mate.mcommit with
      | some c => !s.acting && decide (c.target = s.fn + 1)
      | none => false
  let p := if armed then s.shadow else s.active
  (p.filter fun x => isHerd x.1).map fun x => (x.1, eSrc x.2 + 1)

/-- The input frame that begins now is written with the herd set of the page in service (R36, R77). -/
def State.reherd (s : State) : State :=
  let h := s.herdSet
  s.mapCore fun c =>
    if !c.inOpen then { c with next := { c.next with herd := h } }
    else if c.frames % 2 = 0 then { c with even := { c.even with herd := h } }
    else { c with odd := { c.odd with herd := h } }

/-- The pages exchange their roles at a frame mark (R77); the current output frame is built from the new page (R13) and the input frame
is written with its herd set. CHECK_VALID is 0 after a swap (DESIGN CHOICE, log entry 70). -/
def State.swapPages (s : State) : State :=
  let old := s.active
  let new := s.shadow
  let changed := changedEntries old new s.map.dirty
  let s := s.wr F.MAP_STATUS_ACTIVE_PAGE s.shadowNo
  let s := ((s.wr F.MAP_FN_LAST_SWAP_FN s.fn.toNat).raise F.MAP_INT_SWAP).bump F.MAP_COMMIT_CNT_COUNT 1
  let s := ((s.wr F.MAP_HERD_USE_IN_USE (herdUsed new).length).wr F.MAP_BANK_PEAK_LOAD s.map.peakLoad).wr
    F.MAP_BANK_PEAK_BANK s.map.peakBank
  let s := (s.setFlag F.MAP_STATUS_CHECK_VALID false).wr F.MAP_STATUS_STATE 4
  let s := s.mapMap fun m =>
    { m with commit := none, copy := some { slots := m.moved.foldl (fun d x => Store.put (fun _ => false) d x.1 true) m.dirty, fn := s.fn, changed := changed }, dirty := [], redir := [],
             moved := [], before := [] }
  let s := (s.mapCore fun c => { c with samp := { c.samp with page := s.active, pageNo := s.activeNo } }).mapMate
    fun m => { m with sent := 0 }
  s.showDirty.countRefs.reherd.wakeDemands

/-- MAP_SWAP (R77, R78, R80): at T_t an armed commit swaps if the device acted in frame t − 1; otherwise it is discarded. -/
def execMapSwap (t : Nat) (rplOk : Bool) (s : State) : Res :=
  let s := s.tick t
  match s.map.commit with
  | none => .next s
  | some c =>
    if s.rd F.MAP_STATUS_STATE = 3 ∧ c.target = s.fn ∧ s.core.started = true ∧ s.now = s.core.markT then
      if s.pair.actedPrev then .next s.swapPages
      else .next ((s.dropCommit.sendRec (.commitCancel c.target) true).complete .mapCommit .notLampHolder [] rplOk)
    else .next s

/-- The page that copy-forward leaves behind (R79): the entries that the swap left different and that the host has not written since, and
the herd entries, are those of the active page. -/
def copyForward (active shadow : List (Nat × W64)) (slots dirty : List (Nat × Bool)) : List (Nat × W64) :=
  let p := slots.foldl (fun p x => if Store.get (fun _ => false) dirty x.1 then p else putEntry p x.1 (entryAt active x.1)) shadow
  let p := (herdUsed p).foldl (fun p a => putEntry p a (entryAt active a)) p
  (herdUsed active).foldl (fun p a => putEntry p a (entryAt active a)) p

/-- COPY_FORWARD_DONE (R77, R79, R236, R318): copy-forward ends, COMMIT_DONE is set and the commit completes OK; it pauses while
background work is suspended. -/
def execCopyForwardDone (t : Nat) (rplOk : Bool) (s : State) : Res :=
  let s := s.tick t
  match (if s.flag F.CORE_STATUS_BG_SUSPENDED then none else s.map.copy) with
  | none => .next s
  | some c =>
    let p := copyForward s.active s.shadow c.slots s.map.dirty
    let slots := (c.slots.map Prod.fst ++ herdUsed s.active).filter fun a => decide (entryAt p a ≠ entryAt s.shadow a)
    let s := (s.setShadow p).mapMap fun m => { m with copy := none }
    let s := (s.wr F.MAP_STATUS_STATE 0).raise F.MAP_INT_COMMIT_DONE
    let s := s.mirrorEntries (slots.map fun a => (a, entryAt p a))
    .next (s.complete .mapCommit .ok [BitVec.ofNat 32 c.fn.toNat, BitVec.ofNat 32 c.changed,
      BitVec.ofNat 32 (herdUsed s.active).length] rplOk)

/-! ### Readback (R82) and snapshot (R83) -/

/-- The BAD_PARAM cases of MAP_READBACK (R82). -/
def mapReadbackOk (src : Src) (s : State) (d : List W32) : Bool :=
  let start := word d 2
  let count := word d 3
  let limit := if bitOf (word d 4) 1 then 33554432 else lineSlots
  onlyBits start 0x1FFFFFF && onlyBits count 0x3FFFFFF && onlyBits (word d 4) 3 && decide (1 ≤ count) &&
    decide (start + count ≤ limit) && decide ((word64 d 5).toNat % 8 = 0) && s.addrOk src (word64 d 5) (8 * count)

/-- MAP_READBACK (R79, R82); the readback is one step, so no swap occurs during it. -/
def execMapReadback (x : Exe) (s : State) : Res :=
  .next (s.run .mapReadback x (fun s d => mapReadbackOk x.src s d) fun s d =>
    let shadow := bitOf (word d 4) 0
    let p := if shadow then s.shadow else s.active
    let view := fun (e : W64) => if bitOf (word d 4) 1 then e else asWritten p e
    if shadow && s.map.copy.isSome then .refuse .busy
    else
      let bytes := (List.range (word d 3)).flatMap fun i => leBytes (view (entryAt p (word d 2 + i))).toNat 8
      .written (s.writeBuf (word64 d 5) bytes x) fun s => .ok s [BitVec.ofNat 32 (word d 3), BitVec.ofNat 32 s.fn.toNat, 0])

/-- A run of the snapshot (R83): first slot, length, STEP, and the entry of its first slot. -/
structure SnapRun where
  start : Nat
  len : Nat
  step : Bool
  first : Nat
  deriving DecidableEq, Repr

/-- Add `n` equal consecutive entries to the runs, newest run first. -/
def addEqual (runs : List SnapRun) (slot n data : Nat) : List SnapRun :=
  if n = 0 then runs
  else match runs with
  | [] => [{ start := slot, len := n, step := false, first := data }]
  | r :: rs =>
    let last := if r.step then r.first + (r.len - 1) else r.first
    if r.step = false ∧ last = data then { r with len := r.len + n } :: rs
    else if (r.step = true ∨ r.len = 1) ∧ data = last + 1 ∧ data % 2 ^ 25 ≠ 0 then
      let r := { r with len := r.len + 1, step := true }
      if n = 1 then r :: rs else { start := slot + 1, len := n - 1, step := false, first := data } :: r :: rs
    else { start := slot, len := n, step := false, first := data } :: r :: rs

/-- The runs of a page's line entries from slot `next`, over its listed entries (R83). -/
def snapRuns (p : List (Nat × W64)) : List (Nat × W64) → Nat → List SnapRun → List SnapRun
  | [], next, runs => (addEqual runs next (lineSlots - next) (emptyEntry.toNat % 2 ^ 56)).reverse
  | (a, e) :: rest, next, runs =>
    let runs := addEqual runs next (a - next) (emptyEntry.toNat % 2 ^ 56)
    snapRuns p rest (a + 1) (addEqual runs a 1 ((asWritten p e).toNat % 2 ^ 56))

/-- The bytes of a run record (R83). -/
def SnapRun.bytes (r : SnapRun) : List W8 :=
  leBytes r.start 4 ++ leBytes (r.len + b2n r.step * 2 ^ 31) 4 ++ leBytes r.first 8

end Sys2Proof.Machine
end

