-- ==== Sys2Proof/Machine/Sel.lean ====
section
/-! DEFINITION. Machine/Sel.lean: the evaluator of selectors and line groups, its timers, and the SEL commands (spec/05). -/
namespace Sys2Proof.Machine

/-- What the evaluator sees of a selector or a line group (R114, R124). -/
structure Pv where
  act : Bool
  rev : Bool
  req : Nat
  cmd : Nat
  holdoff : Nat
  wtr : Nat
  tmr : Nat
  tph : Nat
  cond : Nat
  deriving DecidableEq, Repr

/-- The effective conditions of the working and the protection monitor. -/
structure MonPair where
  wSf : Bool
  wSd : Bool
  pSf : Bool
  pSd : Bool
  deriving DecidableEq, Repr

/-- A condition bit of COND. -/
def Pv.has (p : Pv) (i : Nat) : Bool := bitOf p.cond i

/-- The highest request present, from LO down to EXER (the table of requests, R123). -/
def Pv.best (p : Pv) : Option Nat :=
  if p.cmd = 1 then some 15
  else if p.has 2 then some 14
  else if p.cmd = 2 then some 13
  else if p.has 0 then some 12
  else if p.has 3 then some 11
  else if p.has 1 then some 10
  else if p.cmd = 3 then some 8
  else if p.cmd = 4 then some 7
  else if p.tph = 2 then some 6
  else if p.cmd = 5 then some 4
  else none

/-- The ACT that a request sets; EXER leaves it unchanged. -/
def actOf (r : Nat) (act : Bool) : Bool :=
  if r = 4 then act else r == 13 || r == 12 || r == 10 || r == 8 || r == 6 || r == 1

/-- The code of an external command among the requests. -/
def cmdRank : Nat → Nat
  | 1 => 15 | 2 => 13 | 3 => 8 | 4 => 7 | 5 => 4 | _ => 0

/-- Accepting conditions (R124): those of the protection side and those that clear at once; a rise on the working side
with HOLDOFF > 0 and ACT = 0 starts the hold-off timer instead. The second result: the timer starts now. -/
def Pv.conditions (p : Pv) (m : MonPair) : Pv × Bool :=
  let rise := (m.wSf && !p.has 0) || (m.wSd && !p.has 1)
  let wait := decide (0 < p.holdoff) && !p.act
  let sfw := m.wSf && (p.has 0 || !wait)
  let sdw := m.wSd && (p.has 1 || !wait)
  let cond := b2n sfw + 2 * b2n sdw + 4 * b2n m.pSf + 8 * b2n m.pSd
  if rise && wait && p.tph == 0 then ({ p with cond := cond, tph := 1, tmr := 10 * p.holdoff }, true)
  else ({ p with cond := cond }, false)

/-- While the hold-off timer runs, REQ and ACT change only for LO, SF_P or FS (R124). -/
def Pv.waits (p : Pv) (r : Nat) : Bool := p.tph == 1 && decide (r < 13) && decide (p.req < 13)

/-- What the procedure of R123 finds before it looks at a partner: the request, and whether a wait-to-restore starts. -/
def Pv.base (p : Pv) : Nat × Bool :=
  match p.best with
  | some r => (r, false)
  | none =>
    if p.act && p.rev && (p.req == 12 || p.req == 10) then (6, true)
    else if p.act && !p.rev then (1, false)
    else (0, false)

/-- A stored MS, MS_W or EXER returns to clear when a request above it is present (R126). -/
def Pv.yield (p : Pv) (r : Nat) : Pv := if 3 ≤ p.cmd ∧ p.cmd ≤ 5 ∧ cmdRank p.cmd < r then { p with cmd := 0 } else p

/-- Settle a selector or group on its own request (R123): `start`: a wait-to-restore starts; `frozen`: FREEZE stands.
The second result: the timer starts now. -/
def Pv.settle (p : Pv) (r : Nat) (start frozen : Bool) : Pv × Bool :=
  if p.waits r then (p.yield r, false)
  else
    let act := if frozen then p.act else actOf r p.act
    let p := { p with req := r, act := act }
    let p := if start then { p with tph := 2, tmr := 100 * p.wtr } else p
    let p := if 6 < r ∧ p.tph = 2 then { p with tph := 0, tmr := 0 } else p
    let p := if r = 4 then { p with cmd := 0 } else p.yield r
    (p, start)

/-- The request with which a member of a pair is ranked against its partner: while its hold-off timer runs, the one it holds
(R124); RR is the partner's own and ranks lowest. -/
def Pv.rank (p : Pv) (r : Nat) : Nat := if p.waits r then (if p.req = 2 then 0 else p.req) else r

/-- Take RR and the ACT of a partner whose request ranks higher (R123, R127). A hold-off timer keeps running. -/
def Pv.takeRR (p : Pv) (r : Nat) (act : Bool) : Pv × Bool :=
  let p := { p with req := 2, act := act }
  let p := if p.tph = 2 then { p with tph := 0, tmr := 0 } else p
  (p.yield r, false)

/-! ### Reading and writing selectors and groups as `Pv` -/

/-- The key of a selector's or a group's timer and shadow values. -/
def protKey (grp : Bool) (i : Nat) : Nat := if grp then 2 ^ 20 + i else i

/-- ACT and REQ that a device which does not act evaluates in shadow (R226); they start from the stored values. -/
def State.shadowOf (s : State) (key : Nat) (act : Bool) (req : Nat) : Bool × Nat :=
  match Store.get (fun _ => none) s.sel.shadow key with
  | some x => (bitOf x 4, bits x 0 4)
  | none => (act, req)

/-- The evaluator's view of a selector. -/
def pvOfSel (v : W128) : Pv :=
  { act := vAct v, rev := vRev v, req := vReq v, cmd := vCmd v, holdoff := vHoldoff v, wtr := vWtr v, tmr := vTmr v,
    tph := vTph v, cond := vCond v }

/-- A selector with the evaluator's results. -/
def selWith (v : W128) (p : Pv) : W128 :=
  let v := vPut (vPut (vPut v 25 1 (b2n p.act)) 30 4 p.req) 34 3 p.cmd
  vPut (vPut (vPut v 96 17 p.tmr) 113 2 p.tph) 115 4 p.cond

/-- LINE_STATE of working port `w`. -/
def State.lineState (s : State) (w : Nat) : Nat := (s.reg (0x40090200 + w * 0x4)).toNat

/-- The evaluator's view of a line group. -/
def State.pvOfGrp (s : State) (w : Nat) : Pv :=
  let g := s.grp w
  let x := s.lineState w
  { act := gSel g, rev := gRev g, req := bits x 0 4, cmd := bits x 4 3, holdoff := gHoldoff g, wtr := gWtr g,
    tmr := bits x 7 17, tph := bits x 24 2, cond := bits x 26 4 }

/-- K1 and K2 of a request in an ARCH 01 group (R141). -/
def apsOf (req : Nat) : Nat :=
  let k1 := match req with
    | 15 => 0xF0 | 14 => 0xF0 | 13 => 0xE1 | 12 => 0xC1 | 11 => 0xA0 | 10 => 0xA1 | 8 => 0x81 | 7 => 0x80 | 6 => 0x61
    | 4 => 0x40 | 1 => 0x11 | _ => 0x00
  k1 + 256 * (16 * (k1 % 2) + 4)

/-- Start or keep a timer (R125): a timer that runs keeps its start tick. -/
def State.setTimer (s : State) (key : Nat) (start : Bool) (tph : Nat) : State :=
  s.mapSel fun x =>
    { x with timers :=
        if start then Store.put (fun _ => none) x.timers key (some s.now)
        else if tph = 0 then Store.put (fun _ => none) x.timers key none else x.timers }

/-- An ACT change is counted (SEL_SW_CNT, SEL_INT.SW, the open burst). -/
def State.countSwitch (s : State) (changed : Bool) : State :=
  let s := if changed then (s.inc F.SEL_SW_CNT_COUNT 1).raise F.SEL_INT_SW else s
  s.mapSel fun x =>
    { x with evalSeen := true, burst := x.burst.map fun b => { b with last := s.now, changes := b.changes + b2n changed } }

/-- The mark at which a change made now takes effect (R128). -/
def State.nextFn (s : State) : W16 := s.fn + 1

/-- A SEL_STATE item for a selector (R234, R237). -/
def selItem (i : Nat) (act : Bool) (req : Nat) (fn : W16) : W64 :=
  BitVec.ofNat 64 (i + b2n act * 2 ^ 21 + req * 2 ^ 23 + fn.toNat * 2 ^ 32)
/-- A SEL_STATE item for a line group (R234, R237). -/
def grpItem (w : Nat) (sel br : Bool) (req : Nat) (fn : W16) (aps : Nat) : W64 :=
  BitVec.ofNat 64 (w + 2 ^ 20 + b2n sel * 2 ^ 21 + b2n br * 2 ^ 22 + req * 2 ^ 23 + fn.toNat * 2 ^ 32 + aps * 2 ^ 48)

/-- The key of a SEL_STATE item. -/
def itemKey (x : W64) : Nat := if bitOf x.toNat 20 then protKey true (bits x.toNat 0 6) else bits x.toNat 0 20

/-- Store the evaluator's result for a selector: on an acting device into the table, mirrored when ACT or REQ changed; on
another device ACT and REQ go to the shadow values and only the rest is stored (R226, R237). -/
def State.storeSel (s : State) (i : Nat) (p : Pv) (start : Bool) : State :=
  let v := s.selAt i
  let s := s.setTimer i start p.tph
  if s.acting then
    let s := (s.setSel i (selWith v p)).countSwitch (p.act != vAct v)
    if p.act != vAct v || p.req != vReq v then s.mirror (.selState [selItem i p.act p.req s.nextFn]) else s
  else
    let old := s.shadowOf i (vAct v) (vReq v)
    let s := s.setSel i (selWith v { p with act := vAct v, req := vReq v })
    let s := s.mapSel fun x => { x with evalSeen := true, shadow := Store.put (fun _ => none) x.shadow i (some (p.req + 16 * b2n p.act)) }
    if old != (p.act, p.req) then s.mapPair fun q => { q with disPend := (i, s.core.frames + 2) :: q.disPend } else s

/-- LINE_STATE of working port `w` with the evaluator's results. -/
def State.setLineState (s : State) (w : Nat) (p : Pv) : State :=
  s.setReg (0x40090200 + w * 0x4) (BitVec.ofNat 32 (p.req + p.cmd * 2 ^ 4 + p.tmr * 2 ^ 7 + p.tph * 2 ^ 24 + p.cond * 2 ^ 26))

/-- ACT and REQ that a device which does not act has for a group (R226, R240). In ARCH 10 and 11 the evaluator sets REQ alone
(R142): SEL is then the mirrored one, as BR always is. -/
def State.grpShadow (s : State) (w : Nat) : Bool × Nat :=
  let p := s.pvOfGrp w
  let sh := s.shadowOf (protKey true w) p.act p.req
  if gArch (s.grp w) = 1 then sh else (p.act, sh.2)

/-- Store the evaluator's result for a line group (R141, R142): ARCH 01 sets SEL and APS_TX itself, ARCH 10 and 11 only
REQ, with SEL_INT.LINE_REQ. A change of SEL, REQ or APS_TX is mirrored (R237). -/
def State.storeGrp (s : State) (w : Nat) (p : Pv) (start : Bool) : State :=
  let g := s.grp w
  let old := s.pvOfGrp w
  let aps := bits (s.reg (0x40090300 + w * 0x4)).toNat 0 16
  let sh := s.grpShadow w
  let s := s.setTimer (protKey true w) start p.tph
  if s.acting then
    if gArch g = 1 then
      let s := ((s.setLineState w p).wr { addr := 0x40090100 + w * 0x4, lo := 9, w := 1 } (b2n p.act)).wr
        { addr := 0x40090300 + w * 0x4, lo := 0, w := 16 } (apsOf p.req)
      let s := s.countSwitch (p.act != gSel g)
      if p.act != old.act || p.req != old.req || aps != apsOf p.req then
        s.mirror (.selState [grpItem w p.act false p.req s.nextFn (apsOf p.req)]) else s
    else
      let s := (s.setLineState w p).countSwitch false
      if p.req != old.req then
        (s.raise F.SEL_INT_LINE_REQ).mirror (.selState [grpItem w (gSel g) (gBr g) p.req s.nextFn aps]) else s
  else
    let p := if gArch g = 1 then p else { p with act := old.act }
    let s := s.setLineState w { p with req := old.req }
    let s := s.mapSel fun x =>
      { x with evalSeen := true, shadow := Store.put (fun _ => none) x.shadow (protKey true w) (some (p.req + 16 * b2n p.act)) }
    if sh != (p.act, p.req) then s.mapPair fun q => { q with disPend := (protKey true w, s.core.frames + 2) :: q.disPend } else s

/-! ### Evaluation (R122, R123) -/

/-- The effective conditions of a pair of monitors. -/
def State.monPair (s : State) (w p : Nat) : MonPair :=
  { wSf := mSf (s.monAt w), wSd := mSd (s.monAt w), pSf := mSf (s.monAt p), pSd := mSd (s.monAt p) }

/-- EXER is evaluated once; its result is 1 when MON_P has neither SF nor SD (R123). -/
def State.exercise (s : State) (key : Nat) (p : Pv) (m : MonPair) : State :=
  if p.cmd = 5 ∧ p.best = some 4 then
    s.mapSel fun x => { x with exer := Store.put (fun _ => false) x.exer key (!m.pSf && !m.pSd) }
  else s

/-- The view of a selector that the evaluator works on: shadow ACT and REQ on a device that does not act. -/
def State.selView (s : State) (i : Nat) : Pv :=
  let p := pvOfSel (s.selAt i)
  if s.acting then p
  else
    let sh := s.shadowOf i p.act p.req
    { p with act := sh.1, req := sh.2 }

/-- The view of a group that the evaluator works on. -/
def State.grpView (s : State) (w : Nat) : Pv :=
  let p := s.pvOfGrp w
  if s.acting then p
  else
    let sh := s.grpShadow w
    { p with act := sh.1, req := sh.2 }

/-- A selector that the evaluator works on: readable and VALID (R130). -/
def State.selLive (s : State) (i : Nat) : Bool := !s.selBad i && vValid (s.selAt i)

/-- The partner of a selector (R127). -/
def partner (i : Nat) : Nat := i ^^^ 1

/-- Evaluate one selector without a partner. -/
def State.evalOne (s : State) (i : Nat) : State :=
  let v := s.selAt i
  let m := s.monPair (vMonW v) (vMonP v)
  let (p, h) := (s.selView i).conditions m
  let (r, w) := p.base
  let s := s.exercise i p m
  let (p, st) := p.settle r w (p.cmd == 6)
  s.storeSel i p (h || st)

/-- The single ACT of a pair whose members rank alike (R127): that of the lower index, or of the other member while only the
lower one waits for its hold-off timer. DESIGN CHOICE (log 72): the spec names no member whose ACT stands where EXER, FREEZE or a
first evaluation leaves two values. -/
def oneAct (a b : Pv) (aWaits bWaits : Bool) : Bool := if aWaits && !bWaits then b.act else a.act

/-- Evaluate a pair as one step (R123, R127): the lower-ranking member takes RR and the ACT of the other; FREEZE on either member
holds the ACT of both. -/
def State.evalPair (s : State) (i j : Nat) : State :=
  let vi := s.selAt i
  let vj := s.selAt j
  let mi := s.monPair (vMonW vi) (vMonP vi)
  let mj := s.monPair (vMonW vj) (vMonP vj)
  let (pi, hi) := (s.selView i).conditions mi
  let (pj, hj) := (s.selView j).conditions mj
  let (ri, wi) := pi.base
  let (rj, wj) := pj.base
  let frozen := pi.cmd == 6 || pj.cmd == 6
  let s := (s.exercise i pi mi).exercise j pj mj
  let a := pi.settle ri wi frozen
  let b := pj.settle rj wj frozen
  let ab :=
    if pi.rank ri < pj.rank rj then (pi.takeRR (pj.rank rj) b.1.act, b)
    else if pj.rank rj < pi.rank ri then (a, pj.takeRR (pi.rank ri) a.1.act)
    else
      let act := oneAct a.1 b.1 (pi.waits ri) (pj.waits rj)
      (({ a.1 with act := act }, a.2), ({ b.1 with act := act }, b.2))
  (s.storeSel i ab.1.1 (hi || ab.1.2)).storeSel j ab.2.1 (hj || ab.2.2)

/-- Evaluate selector `i`, with its partner if it has one (R122, R127). -/
def State.evalSel (s : State) (i : Nat) : State :=
  if s.selLive i then
    if vBidir (s.selAt i) && s.selLive (partner i) && vBidir (s.selAt (partner i)) then
      (s.count 0x21 0 2).evalPair (min i (partner i)) (max i (partner i))
    else (s.count 0x21 0 1).evalOne i
  else s

/-- Evaluate the line group of working port `w` (R124, R141, R142). -/
def State.evalGrp (s : State) (w : Nat) : State :=
  let g := s.grp w
  if gUsed g then
    let m := s.monPair w (gProt g)
    let (p, h) := (s.grpView w).conditions m
    let (r, st0) := p.base
    let s := s.exercise (protKey true w) p m
    let (p, st) := p.settle r st0 (p.cmd == 6)
    s.storeGrp w p (h || st)
  else s

/-- The valid selectors that name a monitor: its watch list (R121). -/
def State.watchers (s : State) (m : Nat) : List Nat :=
  (s.sel.sels.map Prod.fst).filter fun i => s.selLive i && (decide (vMonW (s.selAt i) = m) || decide (vMonP (s.selAt i) = m))

/-- The working ports of the groups that use monitor `m`. -/
def State.grpWatchers (s : State) (m : Nat) : List Nat :=
  (s.groups.filter fun x => decide (x.1 = m) || decide (gProt x.2 = m)).map Prod.fst

/-- A burst begins when there is something to evaluate and none is open (SEL_BURST). -/
def State.openBurst (s : State) (any : Bool) : State :=
  if any then s.mapSel fun x =>
    { x with evalSeen := true, burst := match x.burst with
        | some b => some b
        | none => some { first := s.now, last := s.now, changes := 0 } }
  else s

/-- Evaluate selectors and groups that were named once each. -/
def State.evalAll (s : State) (sels grps : List Nat) : State :=
  grps.foldl State.evalGrp (sels.foldl State.evalSel s)

/-! ### Timers (R124, R125) -/

/-- Ticks in a timer unit of 10 ms (R125). -/
def unitTicks : Nat := 1000000

/-- The timer of a key is due: `n` units have passed since its start. -/
def State.timerDue (s : State) (key n : Nat) : Bool :=
  match Store.get (fun _ => none) s.sel.timers key with
  | none => false
  | some t0 => decide (t0 + n * unitTicks ≤ s.now)

/-- HOLDOFF_EXPIRY (R124): the timer ends; a condition that the working monitor still shows is accepted, and the selector
or group is evaluated. -/
def execHoldoffExpiry (t : Nat) (grp : Bool) (n : BitVec 20) (s : State) : Res :=
  let s := s.tick t
  let k := n.toNat
  let key := protKey grp k
  if grp then
    if k < 48 ∧ (s.pvOfGrp k).tph = 1 ∧ s.timerDue key (s.pvOfGrp k).tmr = true then
      let m := s.monPair k (gProt (s.grp k))
      let p := s.pvOfGrp k
      let s := (s.setLineState k { p with tph := 0, tmr := 0, cond := b2n m.wSf + 2 * b2n m.wSd + 4 * b2n (p.has 2) + 8 * b2n (p.has 3) }).setTimer key false 0
      .next ((s.openBurst true).evalGrp k)
    else .next s
  else if s.selLive k = true ∧ vTph (s.selAt k) = 1 ∧ s.timerDue key (vTmr (s.selAt k)) = true then
    let v := s.selAt k
    let m := s.monPair (vMonW v) (vMonP v)
    let p := pvOfSel v
    let p := { p with tph := 0, tmr := 0, cond := b2n m.wSf + 2 * b2n m.wSd + 4 * b2n (p.has 2) + 8 * b2n (p.has 3) }
    .next ((((s.setSel k (selWith v p)).setTimer key false 0).openBurst true).evalSel k)
  else .next s

/-- WTR_EXPIRY (R125): the wait-to-restore ends and the selector or group is evaluated. -/
def execWtrExpiry (t : Nat) (grp : Bool) (n : BitVec 20) (s : State) : Res :=
  let s := s.tick t
  let k := n.toNat
  let key := protKey grp k
  if grp then
    if k < 48 ∧ (s.pvOfGrp k).tph = 2 ∧ s.timerDue key (s.pvOfGrp k).tmr = true then
      let s := (s.setLineState k { s.pvOfGrp k with tph := 0, tmr := 0 }).setTimer key false 0
      .next ((s.openBurst true).evalGrp k)
    else .next s
  else if s.selLive k = true ∧ vTph (s.selAt k) = 2 ∧ s.timerDue key (vTmr (s.selAt k)) = true then
    let v := s.selAt k
    .next ((((s.setSel k (selWith v { pvOfSel v with tph := 0, tmr := 0 })).setTimer key false 0).openBurst true).evalSel k)
  else .next s

/-! ### SEL_WRITE (R131 to R134, R137, R139, R144) -/

/-- The 128-bit words that bytes spell. -/
def bytesW128 (bs : List W8) : List W128 := (chunks 16 (bs.length / 16) bs).map fun c => BitVec.ofNat 128 (ofLe c)

/-- The lowest block of `n` consecutive keys below `limit` that are not in a rising list (R132). -/
def freeBlock (limit n : Nat) : List Nat → Nat → Option Nat
  | [], lo => if lo + n ≤ limit then some lo else none
  | k :: ks, lo => if lo + n ≤ k then some lo else freeBlock limit n ks (k + 1)

/-- The largest block of consecutive keys below `limit` that are not in a rising list (R132). -/
def largestFree (limit : Nat) : List Nat → Nat → Nat
  | [], lo => limit - lo
  | k :: ks, lo => max (k - lo) (largestFree limit ks (k + 1))

/-- A selector after a host record is written to it (R115, R132). -/
def newSel (old rec : W128) : W128 :=
  let base : Nat := rec.toNat % 2 ^ 25 + bits rec.toNat 26 2 * 2 ^ 26 + 2 ^ 28 + bits rec.toNat 37 42 * 2 ^ 37 +
    bits rec.toNat 79 17 * 2 ^ 79
  if vValid old then
    seal114 (base + b2n (vAct old) * 2 ^ 25 + vReq old * 2 ^ 30 + vCmd old * 2 ^ 34 + vTmr old * 2 ^ 96 +
      vTph old * 2 ^ 113 + vCond old * 2 ^ 115)
  else seal114 base

/-- A record's own BAD_PARAM cases (R131). -/
def State.recordOk (s : State) (r : W128) : Bool :=
  decide (vHoldoff r ≤ 100) && mEn (s.monAt (vMonW r)) && mEn (s.monAt (vMonP r)) && decide (vMonW r ≠ vMonP r)

/-- After the write no pair has exactly one member with BIDIR = 1 (R127). -/
def pairsOk (sels : List (Nat × W128)) (idx : List Nat) : Bool :=
  let bidir := fun (i : Nat) =>
    let v := ((decode114 (Store.get selDefault sels i)).get?).getD 0
    vValid v && vBidir v
  idx.all fun i => bidir i == bidir (partner i)

/-- Put records at consecutive indices. -/
def putSels (sels : List (Nat × W128)) : Nat → List W128 → List (Nat × W128)
  | _, [] => sels
  | i, r :: rs =>
    let old := ((decode114 (Store.get selDefault sels i)).get?).getD 0
    putSels (Store.put selDefault sels i (newSel old r)) (i + 1) rs

/-- A page would exceed the ceiling of R69 with other selectors and groups. -/
def overLoad (c : CheckEnv) (p : List (Nat × W64)) : Option (Nat × Nat × Nat) :=
  let l := pageLoads c p
  (overBudget l).map fun b => (b, loadOf l b, protReads c p b)

/-- The words of a MAP_BANK_BUDGET reply. -/
def budgetWords (x : Nat × Nat × Nat) : List W32 := [BitVec.ofNat 32 x.1, BitVec.ofNat 32 x.2.1, BitVec.ofNat 32 x.2.2]

/-- A selector is referenced by the active page or by a page being committed (R134). -/
def State.selReferenced (s : State) (i : Nat) : Bool :=
  decide (selRefs s.active i ≠ 0) || (s.map.commit.isSome && decide (selRefs s.shadow i ≠ 0))

/-- SEL_USE shows the number of VALID selectors. -/
def State.showSelUse (s : State) : State := s.wr F.SEL_USE_COUNT s.validSels.length

/-- The records of a SEL_WRITE: the inline record for each selector, or the buffer's (R131). -/
def selRecords (s : State) (d : List W32) (x : Exe) : Except State (State × List W128) :=
  let n := word d 3
  if word64 d 4 = 0 then
    .ok (s, List.replicate n (BitVec.ofNat 128 (word d 6 + word d 7 * 2 ^ 32 + word d 8 * 2 ^ 64 + word d 9 * 2 ^ 96)))
  else (s.readBuf (word64 d 4) (16 * n) x).map fun r => (r.1, bytesW128 r.2)

/-- The first selector of a SEL_WRITE: INDEX, or the lowest free block (R132). -/
def State.selFirst (s : State) (d : List W32) : Option Nat :=
  if bitOf (word d 2) 20 then freeBlock (2 ^ 20) (word d 3) s.validSels 0 else some (bits (word d 2) 0 20)

/-- A commit is in flight until its copy-forward has ended (R76, R133). -/
def State.commitInFlight (s : State) : Bool := s.map.commit.isSome || s.map.copy.isSome

/-- A SEL_WRITE that deletes selectors (R134). -/
def State.selDelete (s : State) (d : List W32) : Ans :=
  let first := bits (word d 2) 0 20
  let idx := (List.range (word d 3)).map (first + ·)
  let listed := idx.filter fun i => decide (s.selRaw i ≠ 0)
  let sels := listed.foldl (fun m i => Store.put selDefault m i 0) s.sel.sels
  if !pairsOk sels listed then .refuse .badParam
  else if idx.any s.selReferenced then .refuse .busy
  else
    let s := s.mapSel fun y =>
      { y with
        sels := sels
        timers := listed.foldl (fun m i => Store.put (fun _ => none) m i none) y.timers
        exer := listed.foldl (fun m i => Store.put (fun _ => false) m i false) y.exer
        held := listed.foldl (fun m i => Store.put (fun _ => none) m i none) y.held
        shadow := listed.foldl (fun m i => Store.put (fun _ => none) m i none) y.shadow }
    .ok (s.showSelUse.mirrorSettings d []) [BitVec.ofNat 32 first, BitVec.ofNat 32 (word d 3)]

/-- A SEL_WRITE of selector records (R131 to R133). -/
def State.selStore (d : List W32) (s : State) (recs : List W128) : Ans :=
  let n := word d 3
  if !recs.all s.recordOk then .refuse .badParam else match s.selFirst d with
  | none => .refuseWith .noResource [0, BitVec.ofNat 32 (largestFree (2 ^ 20) s.validSels 0)]
  | some first =>
    let idx := (List.range n).map (first + ·)
    let sels := putSels s.sel.sels first recs
    let moved := (idx.zip recs).filter fun y =>
      decide (vDelta (s.selAt y.1) ≠ vDelta y.2) && decide (selRefs s.active y.1 ≠ 0)
    let env := { s.checkEnv with sels := sels }
    if !pairsOk sels idx then .refuse .badParam
    else if !moved.isEmpty && s.commitInFlight then .refuse .busy
    else
      let excess := if moved.isEmpty then none
        else match overLoad env s.active with
          | some b => some b
          | none => if s.flag F.MAP_STATUS_CHECK_VALID then overLoad env s.shadow else none
      match excess with
      | some b => .refuseWith .mapBankBudget (budgetWords b)
      | none =>
        let s := (s.mapSel fun y => { y with
          sels := sels
          held := idx.foldl (fun m i => Store.put (fun _ => none) m i none) y.held }).showSelUse
        let s := if moved.isEmpty then s else s.countRefs
        let d' := d.set 2 (BitVec.ofNat 32 (word d 2 / 2 ^ 21 * 2 ^ 21 + first))
        let s := s.mirrorSettings d' (if word64 d 4 = 0 then [] else (recs.flatMap fun r => leBytes r.toNat 16))
        .ok ((s.openBurst true).evalAll idx []).wakeDemands [BitVec.ofNat 32 first, BitVec.ofNat 32 n]

/-- A SEL_WRITE of selectors, after its parameter checks (R131 to R134). -/
def State.selWriteWork (s : State) (d : List W32) (x : Exe) : Ans :=
  if bitOf (word d 2) 21 then s.selDelete d else .reading (selRecords s d x) (State.selStore d)

/-- The group record of a SEL_WRITE with KIND 01 (R137). -/
def groupRecord (s : State) (d : List W32) (x : Exe) : Except State (State × W32) :=
  if word64 d 4 = 0 then .ok (s, BitVec.ofNat 32 (word d 6))
  else (s.readBuf (word64 d 4) 16 x).map fun r => (r.1, BitVec.ofNat 32 (ofLe (r.2.take 4)))

/-- The BAD_PARAM cases of a group that are not plain parameter faults (R12, R137). -/
def State.groupOk (s : State) (w : Nat) (g : W32) : Bool :=
  let p := gProt g
  let old := s.grp w
  let rewrite := gUsed old && decide (gProt old = p) && decide (gArch old = gArch g)
  decide (bits g.toNat 28 4 = 0) && decide (p < 48) && decide (gArch g ≠ 0) && decide (gHoldoff g ≤ 100) && decide (w ≠ p) &&
    (rewrite || (!grouped s.groups w && !grouped s.groups p)) && decide (s.prtMode w = s.prtMode p) &&
    !s.member w && !s.member p &&
    ([w, p].all fun q => mEn (s.monAt q) && decide (mType (s.monAt q) = 5) && decide (mPort (s.monAt q) = q)) &&
    (!isZiuth (s.prtMode w) || decide (gArch g = 1))

/-- A port becomes a protection port: its K1 and K2 are counted anew (R143). DESIGN CHOICE (log 74): the spec does not say whether
line frames received before the group count. -/
def State.forgetAps (s : State) (p : Nat) : State :=
  s.mapLine fun l => { l with runs := Store.put (fun _ => (0, 0)) l.runs (runKey p portCode 0) (0, 0) }

/-- The first index and the count that a group's SEL_WRITE returns. -/
def grpWords (w : Nat) : List W32 := [BitVec.ofNat 32 w, 1]

/-- A SEL_WRITE that deletes a group (R137). -/
def State.grpDelete (s : State) (d : List W32) (w : Nat) : Ans :=
  if !gUsed (s.grp w) then .refuse .badParam
  else if gSel (s.grp w) || gBr (s.grp w) then .refuse .busy
  else
    let s := ((s.setReg (0x40090100 + w * 0x4) 0).setReg (0x40090200 + w * 0x4) 0).setReg (0x40090300 + w * 0x4) 0
    let s := s.mapSel fun y => { y with
      timers := Store.put (fun _ => none) y.timers (protKey true w) none
      exer := Store.put (fun _ => false) y.exer (protKey true w) false
      shadow := Store.put (fun _ => none) y.shadow (protKey true w) none }
    .ok (s.mirrorSettings d []) (grpWords w)

/-- A SEL_WRITE of a group record (R137, R139, R144). -/
def State.grpStore (d : List W32) (w : Nat) (s : State) (g : W32) : Ans :=
  let old := s.grp w
  let new : W32 := BitVec.ofNat 32 (g.toNat % 2 ^ 9 + bits g.toNat 11 17 * 2 ^ 11 +
    (if gUsed old then b2n (gSel old) * 2 ^ 9 + b2n (gBr old) * 2 ^ 10 else 0))
  let env := { s.checkEnv with groups := (w, new) :: s.groups.filter fun y => decide (y.1 ≠ w) }
  if !s.groupOk w g then .refuse .badParam
  else match if gUsed old then none else (overLoad env s.active).orElse fun _ => overLoad env s.shadow with
    | some b => .refuseWith .mapBankBudget (budgetWords b)
    | none =>
      let s := if gUsed old then s else s.forgetAps (gProt g)
      let s := (s.setReg (0x40090100 + w * 0x4) new).mirrorSettings d
        (if word64 d 4 = 0 then [] else leBytes g.toNat 16)
      .ok ((s.openBurst true).evalAll [] [w]).wakeDemands (grpWords w)

/-- A SEL_WRITE with KIND 01 (R137, R139, R144). -/
def State.grpWriteWork (s : State) (d : List W32) (x : Exe) : Ans :=
  let w := bits (word d 2) 0 6
  if bitOf (word d 2) 21 then s.grpDelete d w else .reading (groupRecord s d x) (State.grpStore d w)

/-- SEL_WRITE's parameter checks (R258, step 2). -/
def selWriteOk (d : List W32) : Bool :=
  let n := word d 3
  let first := bits (word d 2) 0 20
  onlyBits (word d 2) 0xFFFFFF && decide (bits (word d 2) 22 2 < 2) && onlyBits n 0x1FFFFF && decide (1 ≤ n) &&
    decide ((word64 d 4).toNat % 8 = 0) &&
    (if bits (word d 2) 22 2 = 0 then bitOf (word d 2) 20 || decide (first + n ≤ 2 ^ 20) else decide (first + n ≤ 48))

/-- The BAD_PARAM cases of SEL_WRITE that need no record (R131, R137, R256; R258, step 4). -/
def State.selWriteCase (s : State) (src : Src) (d : List W32) : Bool :=
  let alloc := bitOf (word d 2) 20
  let del := bitOf (word d 2) 21
  !(alloc && del) && (word64 d 4 == 0 || del || s.addrOk src (word64 d 4) (16 * word d 3)) &&
    (bits (word d 2) 22 2 == 0 || (!alloc && decide (word d 3 = 1)))

/-- SEL_WRITE (R131 to R134, R137, R139, R144). -/
def execSelWrite (x : Exe) (s : State) : Res :=
  .next (s.run .selWrite x (fun _ d => selWriteOk d) fun s d =>
    if !s.selWriteCase x.src d then .refuse .badParam
    else if bits (word d 2) 22 2 = 0 then s.selWriteWork d x else s.grpWriteWork d x)

/-! ### SEL_COMMAND (R126) -/

/-- A command may be stored where `r` is the highest request present (R126): LO, FS, FREEZE and clear always; MS, MS_W and EXER when no
request above them is present. -/
def storable (r c : Nat) : Bool := !(decide (3 ≤ c) && decide (c ≤ 5)) || decide (r ≤ cmdRank c)

/-- REQ of a key as the holder mirrored it last, applied or still waiting for its mark (R237). -/
def State.mirroredReq (s : State) (key req : Nat) : Nat :=
  (((s.mate.selQ.filter fun x => decide (itemKey x = key)).getLast?).map fun x => bits x.toNat 23 4).getD req

/-- The highest request present: the device's own finding, or on a device that applies a mirrored command the holder's, so that the command
is stored as the holder stored it (R126, R238). -/
def State.present (s : State) (key : Nat) (p : Pv) : Nat := if s.acting then p.best.getD 0 else s.mirroredReq key p.req

/-- SEL_COMMAND's parameter checks (R258, step 2). -/
def selCommandOk (d : List W32) : Bool :=
  let kind := bits (word d 2) 22 2
  let first := bits (word d 2) 0 20
  let n := word d 4
  onlyBits (word d 2) 0xCFFFFF && decide (kind < 2) && onlyBits (word d 3) 7 && decide (word d 3 ≠ 7) && onlyBits n 0x1FFFFF &&
    (if kind = 0 then decide (1 ≤ n) && decide (first + n ≤ 2 ^ 20) else decide (first < 48))

/-- SEL_COMMAND names valid selectors or a group in use (R126; R258, step 4). -/
def State.selCommandCase (s : State) (d : List W32) : Bool :=
  let first := bits (word d 2) 0 20
  if bits (word d 2) 22 2 = 0 then (List.range (word d 4)).all fun i => s.selLive (first + i) else gUsed (s.grp first)

/-- A SEL_COMMAND, after its parameter checks (R126). -/
def State.selCommandWork (s : State) (d : List W32) : Ans :=
  let c := word d 3
  let first := bits (word d 2) 0 20
  if !s.selCommandCase d then .refuse .badParam
  else if bits (word d 2) 22 2 = 0 then
    let idx := (List.range (word d 4)).map (first + ·)
    let ok := idx.filter fun i => storable (s.present i (pvOfSel (s.selAt i))) c
    let s := ok.foldl (fun s i => s.setSel i (vPut (s.selAt i) 34 3 c)) s
    .ok (((s.mirrorSettings d []).openBurst (!ok.isEmpty)).evalAll ok [])
      [BitVec.ofNat 32 ok.length, BitVec.ofNat 32 (word d 4 - ok.length)]
  else
    let p := s.pvOfGrp first
    if storable (s.present (protKey true first) p) c then
      .ok ((((s.setLineState first { p with cmd := c }).mirrorSettings d []).openBurst true).evalAll [] [first]) [1, 0]
    else .ok s [0, 1]

/-- SEL_COMMAND (R126). -/
def execSelCommand (x : Exe) (s : State) : Res := .next (s.run .selCommand x (fun _ d => selCommandOk d) State.selCommandWork)

/-! ### SEL_STATUS (R130) -/

/-- The remaining units of a running timer. -/
def State.remaining (s : State) (key tmr : Nat) : Nat :=
  match Store.get (fun _ => none) s.sel.timers key with
  | none => 0
  | some t0 => (t0 + tmr * unitTicks - s.now) / unitTicks

/-- A selector as a read shows it: TMR is the remaining time; an uncorrectable one is shown as stored (R113, R130). -/
def State.selShown (s : State) (i : Nat) : W128 :=
  if s.selBad i then s.selRaw i
  else if vTph (s.selAt i) = 0 then s.selAt i
  else vPut (s.selAt i) 96 17 (s.remaining i (vTmr (s.selAt i)))

/-- A selector read with a correctable error is written back corrected (R130). -/
def State.repairSel (s : State) (i : Nat) : State :=
  match decode114 (s.selRaw i) with
  | .fixed v => s.setSel i v
  | _ => s

/-- LINE_STATE as a read shows it. -/
def State.lineStateShown (s : State) (w : Nat) : Nat :=
  let x := s.lineState w
  if bits x 24 2 = 0 then x
  else x - bits x 7 17 * 2 ^ 7 + s.remaining (protKey true w) (bits x 7 17) * 2 ^ 7

/-- The 32-byte status record of a selector. -/
def State.selRecord (s : State) (i : Nat) : List W8 :=
  leBytes (s.selShown i).toNat 16 ++ leBytes (selRefs s.active i) 4 ++
    leBytes (b2n (Store.get (fun _ => false) s.sel.exer i) + 2 * b2n (s.selBad i)) 1 ++ leBytes 0 11

/-- The 32-byte status record of a port's group registers. -/
def State.grpRecord (s : State) (w : Nat) : List W8 :=
  leBytes (s.grp w).toNat 4 ++ leBytes (s.lineStateShown w) 4 ++ leBytes (s.reg (0x40090300 + w * 0x4)).toNat 4 ++
    leBytes (s.reg (0x40090400 + w * 0x4)).toNat 4 ++ leBytes 0 16

/-- SEL_STATUS (R130). -/
def execSelStatus (x : Exe) (s : State) : Res :=
  .next (s.run .selStatus x
    (fun s d =>
      let kind := bits (word d 2) 22 2
      let first := bits (word d 2) 0 20
      let n := word d 3
      onlyBits (word d 2) 0xCFFFFF && decide (kind < 2) && onlyBits n 0x1FFFFF && decide (1 ≤ n) &&
        decide ((word64 d 4).toNat % 8 = 0) && s.addrOk x.src (word64 d 4) (32 * n) &&
        (if kind = 0 then decide (first + n ≤ 2 ^ 20) else decide (first + n ≤ 48)))
    fun s d =>
      let first := bits (word d 2) 0 20
      let idx := (List.range (word d 3)).map (first + ·)
      let sel := decide (bits (word d 2) 22 2 = 0)
      let s := if sel then idx.foldl State.repairSel s else s
      let bytes := idx.flatMap fun i => if sel then s.selRecord i else s.grpRecord i
      .written (s.writeBuf (word64 d 4) bytes x) fun s => .ok s [BitVec.ofNat 32 (word d 3)])

/-! ### MON_CONFIGURE (R120, R135, R136) -/

/-- The monitors in use, as stored keys. -/
def State.usedMons (s : State) : List Nat := (s.sel.mons.map Prod.fst).filter fun i => mEn (s.monAt i)

/-- The b of R120's test. -/
def State.testBits (s : State) (v : W64) : Nat := (s.carriedBits v).getD (smallestBits (mType v))

/-- A monitor record's BAD_PARAM cases (R120, R135). -/
def State.monRecordOk (s : State) (v : W64) : Bool :=
  let ty := mType v
  let g := bits (mTrib v) 2 3
  let tv := bits (mTrib v) 0 2
  decide (ty ≤ 5) && !(mEn v && ty == 0) && decide (mSdExp v < 6) &&
    (if ty = 3 then decide (g < 7) else if ty = 4 then decide (g < 7) && decide (tv < 3) else decide (mTrib v = 0)) &&
    (!mEn v || ((sdN (mSdExp v) == 0 || testable (s.testBits v) (sdN (mSdExp v))) &&
      (sfN (mSfExp v) == 0 || testable (s.testBits v) (sfN (mSfExp v)))))

/-- A monitor is named by a valid selector. -/
def State.monNamed (s : State) (i : Nat) : Bool :=
  s.validSels.any fun j => decide (vMonW (s.selAt j) = i) || decide (vMonP (s.selAt j) = i)

/-- Windows that have not begun (R120). -/
def MonRun.zero : MonRun := { sfFrames := 0, sfCount := 0, sf := false, sdFrames := 0, sdCount := 0, sd := false, b := 0 }

/-- Write one monitor record (R117, R135); WL_PTR is the device's own: a free value. -/
def State.putMon (s : State) (i : Nat) (v : W64) : State :=
  let s := s.mapSel fun y => { y with runs := Store.put (fun _ => MonRun.zero) y.runs i MonRun.zero }
  if mEn v then
    let old := s.monAt i
    let keep := if mEn old then b2n (mSf old) * 2 ^ 30 + b2n (mSd old) * 2 ^ 31 else 0
    let data := bits v.toNat 0 30 + keep + 2 ^ 32 + (Config.freeWord s.fresh).toNat % 2 ^ 22 * 2 ^ 33 + bits v.toNat 55 1 * 2 ^ 55
    { s.setMon i (seal54 data) with fresh := s.fresh + 1 }
  else s.setMon i monReset

/-- MON_USE shows the number of monitors in use. -/
def State.showMonUse (s : State) : State := s.wr F.MON_USE_COUNT s.usedMons.length

/-- MON_CONFIGURE's parameter checks (R258, step 2). -/
def monConfigureOk (d : List W32) : Bool :=
  onlyBits (word d 2) 0x7FFFFF && onlyBits (word d 3) 0x3FFFFF && decide (1 ≤ word d 3) &&
    (bitOf (word d 2) 21 || decide (bits (word d 2) 0 21 + word d 3 ≤ 2 ^ 21)) && decide ((word64 d 4).toNat % 8 = 0)

/-- The BAD_PARAM cases of MON_CONFIGURE that need no record (R135, R256; R258, step 4). -/
def State.monCase (s : State) (src : Src) (d : List W32) : Bool :=
  !(bitOf (word d 2) 21 && bitOf (word d 2) 22) && (bitOf (word d 2) 22 || s.addrOk src (word64 d 4) (8 * word d 3))

/-- The monitor records of a MON_CONFIGURE: the reset value for each deleted one (R135). -/
def monRecords (s : State) (d : List W32) (x : Exe) : Except State (State × List W64) :=
  if bitOf (word d 2) 22 then .ok (s, List.replicate (word d 3) monReset)
  else (s.readBuf (word64 d 4) (8 * word d 3) x).map fun r => (r.1, bytesW64 r.2)

/-- A MON_CONFIGURE of records (R120, R132, R135). -/
def State.monStore (d : List W32) (s : State) (recs : List W64) : Ans :=
  let alloc := bitOf (word d 2) 21
  let del := bitOf (word d 2) 22
  let n := word d 3
  let first := if alloc then (freeBlock (2 ^ 21) n s.usedMons 0).getD 0 else bits (word d 2) 0 21
  let items := ((List.range n).map (first + ·)).zip recs
  if !del && !recs.all s.monRecordOk then .refuse .badParam
  else if !alloc && items.any (fun y => (!mEn y.2 && s.monNamed y.1) || (decide (y.1 < 48) && grouped s.groups y.1)) then
    .refuse .busy
  else if alloc && (freeBlock (2 ^ 21) n s.usedMons 0).isNone then
    .refuseWith .noResource [0, BitVec.ofNat 32 (largestFree (2 ^ 21) s.usedMons 0)]
  else
    let live := items.filter fun y => mEn y.2 || s.monRaw y.1 != monReset
    let s := (live.foldl (fun s y => s.putMon y.1 y.2) s).showMonUse
    let d' := d.set 2 (BitVec.ofNat 32 (word d 2 / 2 ^ 22 * 2 ^ 22 + first))
    .ok (s.mirrorSettings d' (if del then [] else recs.flatMap fun r => leBytes r.toNat 8)).wakeDemands
      [BitVec.ofNat 32 first, BitVec.ofNat 32 n]

/-- A MON_CONFIGURE, after its parameter checks (R120, R132, R135). -/
def State.monWork (s : State) (d : List W32) (x : Exe) : Ans := .reading (monRecords s d x) (State.monStore d)

/-- MON_CONFIGURE (R120, R132, R135). -/
def execMonConfigure (x : Exe) (s : State) : Res :=
  .next (s.run .monConfigure x (fun _ d => monConfigureOk d) fun s d =>
    if !s.monCase x.src d then .refuse .badParam else s.monWork d x)

/-! ### Line group registers (R142) -/

/-- The other members of a group's SEL_STATE item. -/
def State.mirrorGrp (s : State) (w : Nat) : State :=
  s.mirror (.selState [grpItem w (gSel (s.grp w)) (gBr (s.grp w)) (bits (s.lineState w) 0 4) s.nextFn
    (bits (s.reg (0x40090300 + w * 0x4)).toNat 0 16)])

/-- LINE_SEL_WRITE (R142): a write of LINE_GRP takes SEL in ARCH 10 and 11 and BR in ARCH 11, on a device that acts. -/
def State.writeLineGrp (s : State) (w : Nat) (v : W32) : State :=
  let g := s.grp w
  if s.acting && decide (2 ≤ gArch g) then
    let s := s.wr { addr := 0x40090100 + w * 0x4, lo := 9, w := 1 } (bits v.toNat 9 1)
    let s := if gArch g = 3 then s.wr { addr := 0x40090100 + w * 0x4, lo := 10, w := 1 } (bits v.toNat 10 1) else s
    let s := if gSel (s.grp w) != gSel g then (s.inc F.SEL_SW_CNT_COUNT 1).raise F.SEL_INT_SW else s
    if s.grp w ≠ g then s.mirrorGrp w else s
  else s

/-- LINE_SEL_WRITE (R142). -/
def execLineSelWrite (t : Nat) (m : Master) (w : Port) (v : W32) (s : State) : Res :=
  if (s.tick t).barred m.val then .next (s.tick t).postedUr else
  .next ((s.tick t).writeLineGrp w.val v)

/-- A write of APS_TX is ignored in ARCH 01 and on a device that does not act (R142). -/
def State.writeApsTx (s : State) (w : Nat) (v : W32) : State :=
  if s.acting && decide (gArch (s.grp w) ≠ 1) then
    let old := s.reg (0x40090300 + w * 0x4)
    let s := s.wr { addr := 0x40090300 + w * 0x4, lo := 0, w := 16 } (bits v.toNat 0 16)
    if gUsed (s.grp w) && s.reg (0x40090300 + w * 0x4) != old then s.mirrorGrp w else s
  else s

/-- APS_TX_WRITE (R142). -/
def execApsTxWrite (t : Nat) (m : Master) (w : Port) (v : W32) (s : State) : Res :=
  if (s.tick t).barred m.val then .next (s.tick t).postedUr else
  .next ((s.tick t).writeApsTx w.val v)

end Sys2Proof.Machine
end

