-- ==== Sys2Proof/Machine/Engine.lean ====
section
/-! DEFINITION. Machine/Engine.lean: generators, data store, slot engines, deadlines, output history, candle, governor and
banks (spec/02 R37, R38, R398; spec/04). -/
namespace Sys2Proof.Machine

/-! ### Generators (R37, R38, R398) -/

/-- What an unlisted word of generator constants reads as. -/
def genDefault : Nat → W32 := fun _ => 0xFFFFFFFF

/-- A write of a constant word (R38): to the live copy too unless CONST_HOLD is 1. DESIGN CHOICE (log entry 61): while CONST_HOLD is 1
a read of GEN_CONST returns what was last written, the shadow value. -/
def State.writeGenConst (s : State) (w : Nat) (v : W32) : State :=
  let s := s.setReg (0x40088000 + 4 * w) v
  if s.flag F.GEN_CTRL_CONST_HOLD then s
  else s.mapCore fun c => { c with gen := Store.put genDefault c.gen w v }

/-- GEN_CONST_WRITE (R38). -/
def execGenConstWrite (t : Nat) (m : Master) (w : Fin 3240) (v : W32) (s : State) : Res :=
  if (s.tick t).barred m.val then .next (s.tick t).postedUr else
  .next ((s.tick t).writeGenConst w.val v)

/-- The words of the constants window as live words; a word with the value of an unlisted one is not listed. -/
def State.shadowConsts (s : State) : List (Nat × W32) :=
  ((List.range 3240).map fun w => (w, s.reg (0x40088000 + 4 * w))).filter fun x => decide (x.2 ≠ 0xFFFFFFFF)

/-- A write of CONST_HOLD (R38): clearing it lets every shadow value become live together. -/
def State.writeConstHold (s : State) (b : Bool) : State :=
  let s := if s.flag F.GEN_CTRL_CONST_HOLD && !b then s.mapCore fun c => { c with gen := s.shadowConsts } else s
  s.setFlag F.GEN_CTRL_CONST_HOLD b

/-- CONST_HOLD (R38). -/
def execConstHold (t : Nat) (m : Master) (b : Bool) (s : State) : Res :=
  if (s.tick t).barred m.val then .next (s.tick t).postedUr else .next ((s.tick t).writeConstHold b)

/-- PRBS_RESTART (R398): every PRBS slot restarts at the next frame mark. -/
def execPrbsRestart (t : Nat) (m : Master) (s : State) : Res :=
  if (s.tick t).barred m.val then .next (s.tick t).postedUr else
  .next ((s.tick t).mapCore fun c => { c with prbsReq := true })

/-- PRT_IDLE_WRITE (R38): the idle byte, sampled at the next frame mark. -/
def execPrtIdleWrite (t : Nat) (m : Master) (p : Port) (b : W8) (s : State) : Res :=
  if (s.tick t).barred m.val then .next (s.tick t).postedUr else
  .next ((s.tick t).wr (F.PRT_IDLE_IDLE p.val) b.toNat)

/-- REARM (R105): the worst slack returns to 0xFFF. -/
def execRearm (t : Nat) (m : Master) (s : State) : Res :=
  if (s.tick t).barred m.val then .next (s.tick t).postedUr else .next ((s.tick t).wr F.CANDLE_WORST_MIN_SLACK 0xFFF)

/-- What an unlisted idle byte of a sample reads as; every port's byte is listed in a sample. -/
def idleDefault : Nat → W8 := fun _ => 0xFF

/-- The byte of generator slot `a` in an input frame (R37, R398). -/
def genByte (g : GenFrame) (a : Nat) : W8 :=
  let i := a - genLo
  let j := i % 810
  if i < 12960 then BitVec.ofNat 8 (bits (Store.get genDefault g.consts (i / 4)).toNat (8 * (i % 4)) 8)
  else match i / 810 with
    | 16 => prbs15 (i - 12960) (g.frame - g.prbs0)
    | 17 => prbs15 (i - 12960) (g.frame - g.prbs0)
    | 18 => prbs11 (i - 14580) (g.frame - g.prbs0)
    | 19 => prbs11 (i - 14580) (g.frame - g.prbs0)
    | 20 => toneByteU g.frame
    | 21 => toneByteA g.frame
    | 22 => milliwattU.getD (g.frame % 8) 0
    | 23 => milliwattA.getD (g.frame % 8) 0
    | _ =>
      if j < 48 then Store.get idleDefault g.idle j
      else ([0x00, 0xFF, 0x55, 0xAA, 0xD5, 0x7E, 0x0F, 0xF0] : List W8).getD (j - 48) 0xFF

/-! ### Data store (R33, R36, R93 to R96) -/

/-- The image that covers a line slot: its port, cell and column (R42). -/
def imageOf (p : DataPage) (port cell col : Nat) : Option Image :=
  p.images.find? fun x => decide (x.port = port) && decide (x.cell ≤ cell) && decide (cell < x.cell + x.n) &&
    decide (x.lo ≤ col) && decide (col < x.lo + x.cols)

/-- The byte that COL 0–2 of a cell carry (R48): the D bytes in cell 0, zero elsewhere. -/
def tohByte (d : List W8) (cell row col : Nat) : W8 :=
  if cell = 0 then
    if row = 2 then d.getD col 0 else if 5 ≤ row ∧ row ≤ 7 then d.getD (3 + (row - 5) * 3 + col) 0 else 0
  else 0

/-- The byte of a line slot in an input frame; `none`: nothing wrote it (R33). -/
def lineByte (p : DataPage) (a : Nat) : Option W8 :=
  let port := a / 648000
  let cell := a % 648000 / 810
  let row := a % 810 / 90
  let col := a % 90
  match imageOf p port cell col with
  | some x => x.bytes.getD ((row * x.cols + (col - x.lo)) * x.n + (cell - x.cell)) none
  | none =>
    match p.toh.find? fun x => decide (x.1 = port) && decide (cell < x.2.1) && decide (col < 3) with
    | some x => some (tohByte x.2.2 cell row col)
    | none => none

/-- The byte of slot `a` in an input frame (R33, R36): 0xFF where nothing wrote it; a herd slot carries its origin's. -/
def pageByte (p : DataPage) (a : Nat) : W8 :=
  let plain := fun (a : Nat) =>
    if genLo ≤ a ∧ a < tailLo then genByte p.gen a else if a < lineSlots then (lineByte p a).getD 0xFF else 0xFF
  if isHerd a then
    match Store.get (fun _ => 0) p.herd a with
    | 0 => 0xFF
    | o + 1 => plain o
  else plain a

/-- The data-store page that holds input frame number `f` since reset (R93). -/
def State.dataPage (s : State) (f : Nat) : DataPage := if f % 2 = 0 then s.core.even else s.core.odd

/-- The byte of slot `a` in input frame `f`; before the first frame nothing was written. -/
def State.inputByte (s : State) (f : Nat) (a : Nat) : W8 :=
  if (s.dataPage f).frame = f then pageByte (s.dataPage f) a else 0xFF

/-- The current input frame, wherever it is held. -/
def State.inputPage (s : State) : DataPage := if s.core.inOpen then s.dataPage s.core.frames else s.core.next

/-- The writes of the current input frame begin (R96). R95 clears the page's flags at T_m, while grains of output frame m − 1 may read
that page until the fence of R96: here the page changes as a whole when the writes begin (DESIGN CHOICE, log entry 64). -/
def State.openInput (s : State) : State :=
  if s.core.inOpen then s
  else s.mapCore fun c =>
    if c.frames % 2 = 0 then { c with even := c.next, inOpen := true, next := DataPage.reset }
    else { c with odd := c.next, inOpen := true, next := DataPage.reset }

/-- What the receive side wrote into the input frame that ends now (R48, R49). -/
def State.putInput (s : State) (images : List Image) (toh : List (Nat × (Nat × List W8))) : State :=
  s.openInput.mapCore fun c =>
    if c.frames % 2 = 0 then { c with even := { c.even with images := images, toh := toh } }
    else { c with odd := { c.odd with images := images, toh := toh } }

/-- Every grain of output frame `f` has completed or passed its deadline: its candle record holds all 60,750. -/
def State.frameSettled (s : State) (f : Nat) : Bool :=
  s.eng.candles.all fun c => decide (c.frame ≠ f) || decide (60750 ≤ c.settled)

/-- INPUT_WRITE_START (R96): the writes of the new input frame begin once every grain of the previous output frame is
done. -/
def execInputWriteStart (t : Nat) (s : State) : Res :=
  let s := s.tick t
  if s.core.started = true ∧ (s.core.frames = 0 ∨ s.frameSettled (s.core.frames - 1) = true) then .next s.openInput
  else .next s

/-! ### Grains and deadlines (R84 to R87) -/

/-- The position of a grain (R85). -/
def grainPos (g : Nat) : Nat := g / 75

/-- Slot `i` (0 to 511) of grain `g` (R84, R85). -/
def grainSlot (g i : Nat) : Nat :=
  let pc := g % 75 * 512 + i
  648000 * (pc / 800) + 810 * (pc % 800) + grainPos g

/-- The deadline of position `q` in ticks after its frame mark (R86). -/
def deadline (q : Nat) : Nat := 350 + 12500 * q / 810

/-- The global position of a grain (R87). -/
def globalPos (g : Grain) : Nat := 810 * g.frame + grainPos g.g

/-- A grain may start (R87): the transmit side has taken global position G − 32, and the frame mark has passed. -/
def State.mayStart (s : State) (g : Grain) : Bool :=
  s.core.started && decide (g.frame ≤ s.core.frames) && decide (globalPos g < s.eng.taken + 32)

/-- A grain is no longer to be built: it is in the staging buffer or its position was taken (R86, R109). -/
def State.settled (s : State) (g : Grain) : Bool :=
  decide (globalPos g < s.eng.taken) || s.eng.staged.any fun b => decide (b.grain = g)

/-- A grain's outcome is still to be counted (R105, R111): it is not in the staging buffer, and if its position was taken it was not
there. -/
def State.owed (s : State) (g : Grain) : Bool := !s.settled g || s.eng.missing.contains g

/-- The sample of output frame number `f` since reset (R91). -/
def State.sampleOf (s : State) (f : Nat) : Sample := if s.core.samp.frame = f then s.core.samp else s.core.sampPrev

/-! ### Home queues (R88 to R90) -/

/-- The head of a queue, past grains whose outcome is settled already; with the queue behind it. -/
def State.popSegs (s : State) : Nat → List Seg → Option (Grain × List Seg)
  | 0, _ => none
  | _, [] => none
  | fuel + 1, g :: gs =>
    if 60750 ≤ g.next then State.popSegs s fuel gs
    else
      let next := { g with next := g.next + g.step }
      if s.settled { frame := g.frame, g := g.next } then State.popSegs s fuel (next :: gs)
      else some ({ frame := g.frame, g := g.next }, next :: gs)

/-- The head grain of an engine's home queue. -/
def State.head (s : State) (e : Nat) : Option (Grain × List Seg) :=
  State.popSegs s 200000 (Store.get (fun _ => []) s.eng.queues e)

/-- The queues an engine looks at (R89): its own, then STEAL_SPAN ranks modulo A; a parked engine's leftover grains stay
stealable (R92). -/
def State.lookAt (s : State) (e : Nat) : List Nat :=
  let a := s.rd F.CORE_STATUS_ENG_ACTIVE
  let span := s.rd F.CORE_CTRL_STEAL_SPAN
  e :: ((List.range span).map fun k => (e + 1 + k) % a) ++ (List.range 256).filter fun k => decide (a ≤ k)

/-- The first queue whose head grain may start, with that grain. -/
def State.findWork (s : State) : List Nat → Option (Nat × Grain × List Seg)
  | [] => none
  | k :: ks =>
    match s.head k with
    | some (g, rest) => if s.mayStart g then some (k, g, rest) else s.findWork ks
    | none => s.findWork ks

/-- An engine lost the claim of queue `k`'s head (R90): another engine claimed it in this tick, in the same handshake. -/
def State.lostClaim (s : State) (lost : List (Fin 256)) (k : Nat) : Bool :=
  (lost.any fun x => x.val == k) && decide (Store.get (fun _ => none) s.eng.claims k = some s.now)

/-- The queue heads lost on the way to the queue that gave the grain, or along all queues where none did (R90, event 0x03). -/
def State.lostHeads (s : State) (lost : List (Fin 256)) (ks : List Nat) (got : Option Nat) : Nat :=
  (((ks.takeWhile fun k => decide (some k ≠ got)).filter fun k => s.lostClaim lost k).eraseDups).length

/-- GRAIN_START (R87 to R90): an active engine that holds no grain takes the head of its home queue, or steals. Which of two engines
at one head gets the grain is not predictable: the claim names the queues whose head this engine lost to another of the same handshake,
and it goes on as if they were empty. The active engines are engines 0 to A − 1 (DESIGN CHOICE, log entry 62). -/
def execGrainStart (t : Nat) (e : Claim) (s : State) : Res :=
  let s := s.tick t
  if e.eng.val < s.rd F.CORE_STATUS_ENG_ACTIVE ∧ Store.get (fun _ => none) s.eng.work e.eng.val = none then
    let ks := s.lookAt e.eng.val
    match s.findWork (ks.filter fun k => !s.lostClaim e.lost k) with
    | none => .next (s.count 0x03 0 (s.lostHeads e.lost ks none))
    | some (k, g, rest) => .next (((s.count 0x02 0 (b2n (k != e.eng.val))).count 0x03 0 (s.lostHeads e.lost ks (some k))).mapEng fun x =>
        { x with queues := Store.put (fun _ => []) x.queues k rest, work := Store.put (fun _ => none) x.work e.eng.val (some g)
                 claims := Store.put (fun _ => none) x.claims k (some s.now) })
  else .next s

/-! ### Building the output byte (R56 to R59, R81, R98, R138) -/

/-- What a sample says of a selector: ACT and DELTA, held apart for an uncorrectable one (R13, R130). -/
def Sample.sel (m : Sample) (i : Nat) : Bool × Nat :=
  match Store.get (fun _ => none) m.held i with
  | some x => x
  | none =>
    let v := ((decode114 (Store.get selDefault m.sels i)).get?).getD 0
    (vAct v, vDelta v)

/-- The address that an entry with FILL 000 or 100 reads: selector first, group second; `none`: the read returns 0xFF, for extra
traffic that is dropped, or where DELTA leads into the herd region or the tail (R34, R56, R58, R138). -/
def Sample.readAddr (m : Sample) (e : W64) : Option Nat :=
  let x := m.sel (eSelix e)
  let moved := decide (eFill e = 0) && eProt e && x.1
  let a := if moved then plusDelta (eSrc e) x.2 else eSrc e
  if moved && (isHerd a || isTail a) then none
  else if a < lineSlots then
    let q := slotPort a
    match m.groups.find? fun g => decide (g.1 = q) with
    | some g => if gSel g.2 then some (a % 648000 + 648000 * gProt g.2) else some a
    | none =>
      match m.groups.find? fun g => decide (gProt g.2 = q) with
      | some g => if gArch g.2 = 3 ∧ gSel g.2 = true then none else some a
      | none => some a
  else some a

/-- XCODE (R59). -/
def transcode (x : Nat) (b : W8) : W8 := if x = 1 then ulawToAlaw b else if x = 2 then alawToUlaw b else b

/-- The byte of output slot `o` (R56); `none`: output history is sent instead because a data-store word is uncorrectable
(R98), or because the entry has FILL 011 (R56, R108). `ue`: the uncorrectable words as (bank, word). FILL 110 and 111, which the checker
refuses (R66), give 0xFF (DESIGN CHOICE, log entry 63). -/
def State.outByte (s : State) (m : Sample) (ue : List (Nat × Nat)) (o : Nat) (e : Option W64) : Option W8 :=
  match e with
  | none => some 0xFF
  | some e =>
    match eFill e with
    | 1 => some (Store.get idleDefault m.idle (slotPort o))
    | 2 => some 0xFF
    | 5 => some 0x00
    | 3 => none
    | _ =>
      if !readsSource e then some 0xFF
      else match m.readAddr e with
      | none => some (transcode (eXcode e) 0xFF)
      | some a =>
        if ue.contains (bankOf a, bankWord a) then none
        else some (transcode (eXcode e) (if m.frame = 0 then 0xFF else s.inputByte (m.frame - 1) a))

/-- The data-store word that an output slot's read takes, as (bank, word). -/
def Sample.wordRead (m : Sample) (e : Option W64) : Option (Nat × Nat) :=
  e.bind fun e => if readsSource e then (m.readAddr e).map fun a => (bankOf a, bankWord a) else none

/-- An entry of a sample as a slot engine reads it (R81). -/
def Sample.entry (m : Sample) (o : Nat) : Option W64 := (decode54 (entryAt m.page o)).get?

/-- The empty flag of a grain (R311): every entry, as stored, is the empty entry. Such a grain is built without reading
its entries. -/
def Sample.emptyGrain (m : Sample) (g : Nat) : Bool :=
  (List.range 512).all fun i => decide (entryAt m.page (grainSlot g i) = emptyEntry)

/-- The effects of reading a damaged entry (R81): correction written back and counted, or the failure recorded and, where
the shadow entry is fit, the active entry rewritten. -/
def State.readEntry (s : State) (m : Sample) (o : Nat) : State :=
  match decode54 (entryAt m.page o) with
  | .fine _ => s
  | .fixed v =>
    ((s.setPage m.pageNo (putEntry (s.page m.pageNo) o v)).inc F.MAP_CE_CNT_COUNT 1).raise F.MAP_INT_CE
  | .bad =>
    let s := ((s.inc F.MAP_UE_CNT_COUNT 1).wr F.MAP_UE_ADDR_SLOT o).wr F.MAP_UE_ADDR_PAGE m.pageNo
    let fit := decide (m.pageNo = s.activeNo) && !Store.get (fun _ => false) s.map.dirty o && s.map.copy.isNone &&
      (decode54 (entryAt s.shadow o)).get?.isSome
    let s := ((s.setFlag F.MAP_UE_ADDR_REPAIRED fit).raise F.MAP_UE_ADDR_VALID).raise F.MAP_INT_UE
    if fit then s.setPage m.pageNo (putEntry (s.page m.pageNo) o (entryAt s.shadow o)) else s

/-- The physical bank that serves reads of bank `b` for output frame `f` (R101): the old one until the frame after the
move's mark. -/
def State.readBank (s : State) (b f : Nat) : Nat :=
  match s.eng.moves.find? fun m => decide (m.bank = b) with
  | some m => match m.frame with
    | some k => if f ≤ k then m.old else m.new
    | none => m.old
  | none => s.rd (F.BANK_MAP_PHYS b)

/-- A corrected data-store word (R98). -/
def State.dsCe (f : Nat) (s : State) (x : Nat × Nat) : State :=
  ((s.inc F.DS_CE_CNT_COUNT 1).inc (F.BANK_STATE_CE_CNT (s.readBank x.1 f)) 1).raise F.CORE_INT_DS_CE

/-- An uncorrectable data-store word (R98, R103). -/
def State.dsUe (f : Nat) (s : State) (x : Nat × Nat) : State :=
  let p := s.readBank x.1 f
  let s := ((s.inc F.DS_UE_CNT_COUNT 1).wr F.DS_UE_ADDR_PHYS p).wr F.DS_UE_ADDR_WORD x.2
  let s := ((s.wr F.DS_UE_ADDR_PAGE ((f + 1) % 2)).raise F.DS_UE_ADDR_VALID).raise F.CORE_INT_DS_UE
  s.mapEng fun e => { e with ueBanks := Store.put (fun _ => false) e.ueBanks p true }

/-- The bytes of a grain (R56, R91). -/
def State.buildGrain (s : State) (m : Sample) (ue : List (Nat × Nat)) (g : Nat) : List (Option W8) :=
  (List.range 512).map fun i => s.outByte m ue (grainSlot g i) (m.entry (grainSlot g i))

/-- The words of a list that a grain reads, each once. -/
def Sample.wordsUsed (m : Sample) (g : Nat) (l : List (Nat × Nat)) : List (Nat × Nat) :=
  let used := (List.range 512).filterMap fun i => m.wordRead (m.entry (grainSlot g i))
  l.dedup.filter fun x => used.contains x

/-! ### Banks (R100 to R103) -/

/-- STATE of a physical bank: 0 in service, 1 spare, 2 under test, 3 retired. -/
def State.bankState (s : State) (x : Nat) : Nat := s.rd (F.BANK_STATE_STATE x)

/-- The physical banks of group `j` (R100). -/
def groupBanks (j : Nat) : List Nat := (List.range 66).map (j * 66 + ·)

/-- When a physical bank was last tested, in tests done; 0: never. -/
def State.testOrder (s : State) (x : Nat) : Nat := Store.get (fun _ => 0) s.eng.lastTest x

/-- The group's spare with the most recent test; the lowest bank on ties. -/
def State.freshSpare (s : State) (j : Nat) : Option Nat :=
  ((groupBanks j).filter fun x => decide (s.bankState x = 1) &&
    !s.eng.moves.any fun m => decide (m.new = x)).foldl (fun best x => match best with
      | none => some x
      | some y => if s.testOrder y < s.testOrder x then some x else some y) none

/-- The group's in-service bank with the oldest test; the lowest bank on ties. -/
def State.stalest (s : State) (j : Nat) : Option Nat :=
  ((groupBanks j).filter fun x => decide (s.bankState x = 0)).foldl (fun best x => match best with
    | none => some x
    | some y => if s.testOrder x < s.testOrder y then some x else some y) none

/-- SPARES_FREE counts the spares of all groups. -/
def State.countSpares (s : State) : State :=
  s.wr F.CORE_STATUS_SPARES_FREE ((List.range 2112).filter fun x => decide (s.bankState x = 1)).length

/-- A group without a spare: SPARES_OUT (R103). -/
def State.noSpare (s : State) (j : Nat) : Bool := (groupBanks j).all fun x => decide (s.bankState x ≠ 1)

/-- Begin to move the logical bank of physical bank `x` onto the group's freshest spare (R101 to R103). -/
def State.startMove (s : State) (x : Nat) (forced : Bool) : State :=
  match s.freshSpare (x / 66) with
  | none => s.raise F.CORE_INT_SPARES_OUT
  | some y => s.mapEng fun e =>
      { e with moves := { bank := s.rd (F.BANK_STATE_LOGICAL x), old := x, new := y, frame := none, forced := forced } :: e.moves }

/-! ### The candle (R105, R106) -/

/-- A grain's outcome enters its frame's candle record (R105). The minimum of a frame with a late grain is 0, at the first late grain (DEDUCED, log
entry 27). -/
def settleCandle (cs : List Candle) (g : Grain) (slack : Nat) (late : Bool) : List Candle :=
  cs.map fun c =>
    if c.frame = g.frame then
      { c with settled := c.settled + 1, late := c.late + b2n late,
               slack := if late then c.slack else min c.slack slack,
               pos := if decide (c.late = 0) && (late || decide (slack < c.slack)) then grainPos g.g else c.pos }
    else c

/-- A physical bank in service has to be moved out at once (R103): it returned an uncorrectable word, or its CE_CNT reached 16. -/
def State.moveOutDue (s : State) (x : Nat) : Bool :=
  decide (s.bankState x = 0) && (Store.get (fun _ => false) s.eng.ueBanks x || decide (16 ≤ s.rd (F.BANK_STATE_CE_CNT x))) &&
    !s.eng.moves.any fun m => decide (m.old = x)

/-- Move a physical bank out of service if R103 asks for it. -/
def State.moveOut (s : State) (x : Nat) : State := if s.moveOutDue x then s.startMove x true else s

/-- GRAIN_COMPLETE (R56 to R59, R81, R86, R98, R103, R105, R106): the grain that engine `e` holds reaches the staging buffer at
or before its deadline. `ce`, `ue`: data-store words read with an error, as (bank, word); `up`: bits of map entries that
flipped before they were read. -/
def execGrainComplete (t : Nat) (e : Fin 256) (ce ue : List (Nat × Nat)) (up : List (Nat × W64)) (s : State) : Res :=
  let s := s.tick t
  match Store.get (fun _ => none) s.eng.work e.val with
  | none => .next s
  | some g =>
    let m0 := s.sampleOf g.frame
    let up := if m0.emptyGrain g.g then [] else up
    let m := { m0 with page := upsetPage m0.page up }
    let done := s.now - m.t
    if deadline (grainPos g.g) < done ∨ s.settled g = true then
      .next (s.mapEng fun x => { x with work := Store.put (fun _ => none) x.work e.val none })
    else
      let slack := deadline (grainPos g.g) - done
      let bytes := s.buildGrain m ue g.g
      let s := s.setPage m.pageNo (upsetPage (s.page m.pageNo) up)
      let s := (List.range 512).foldl (fun s i => s.readEntry m (grainSlot g.g i)) s
      let s := (m.wordsUsed g.g ue).foldl (State.dsUe g.frame) ((m.wordsUsed g.g ce).foldl (State.dsCe g.frame) s)
      let s := ((m.wordsUsed g.g ue ++ m.wordsUsed g.g ce).map fun x => s.readBank x.1 g.frame).dedup.foldl State.moveOut s
      let s := s.mapEng fun x =>
        { x with work := Store.put (fun _ => none) x.work e.val none,
                 staged := { grain := g, bytes := bytes } :: x.staged,
                 candles := settleCandle x.candles g slack false }
      let empty := m0.emptyGrain g.g
      let s := ((s.count 0x01 0 1).count 0x10 0 (if empty then 0 else 512)).count 0x11 0 (b2n empty)
      if slack < s.rd F.CANDLE_CFG_SLACK_FLOOR then .next ((s.raise F.CORE_INT_SLACK_LOW).boost) else .next s

/-- The slots of a grain that lie in cells used by enabled ports (R111). -/
def State.usedSlots (s : State) (g : Nat) : Nat :=
  ((List.range 512).filter fun i =>
    let pc := g % 75 * 512 + i
    s.enabled (pc / 800) && decide (pc % 800 < s.cells (pc / 800))).length

/-- GRAIN_LATE (R109, R111): at its deadline an incomplete grain is stopped, counted, and sent wholly from history; the transmit side
may have taken its position in the same tick. `prev`: it belongs to the previous output frame. -/
def execGrainLate (t : Nat) (prev : Bool) (g : Fin 60750) (s : State) : Res :=
  let s := s.tick t
  let gr : Grain := { frame := s.core.frames - b2n prev, g := g.val }
  let m := s.sampleOf gr.frame
  if s.core.started = true ∧ (prev = false ∨ 0 < s.core.frames) ∧ s.owed gr = true ∧ m.t + deadline (grainPos g.val) ≤ s.now then
    let s := ((s.count 0x04 0 1).inc F.LATE_GRAIN_CNT_COUNT 1).inc F.LATE_SLOT_CNT_COUNT (s.usedSlots g.val)
    .next (s.mapEng fun x =>
      { x with work := x.work.filter fun w => decide (w.2 ≠ some gr),
               staged := if globalPos gr < x.taken then x.staged else { grain := gr, bytes := List.replicate 512 none } :: x.staged,
               missing := x.missing.filter fun w => decide (w ≠ gr),
               candles := settleCandle x.candles gr 0 true })
  else .next s

/-! ### The transmit side takes a position (R86, R108) -/

/-- The ports to which the core gives the bytes built for port `q`'s region (R108, R138): a protection port in a 1+1 group, or in a
1:1 group while BR = 1, sends the working port's region and not its own. -/
def Sample.feeds (m : Sample) (q : Nat) : List Nat :=
  (if m.groups.any fun g => decide (gProt g.2 = q) && (decide (gArch g.2 ≠ 3) || gBr g.2) then [] else [q]) ++
    (m.groups.filter fun g => decide (g.1 = q) && (decide (gArch g.2 ≠ 3) || gBr g.2)).map fun g => gProt g.2

/-- The staged bytes of one grain enter the output history of the enabled ports that they are given to, in the cells they use; held
bytes stay (R108, R109, R138); the frames that R245 has sent from history leave it as it is. -/
def State.toHistory (s : State) (b : Built) : State :=
  if s.pair.frozen.contains b.grain.frame then s
  else
  let used := (List.range 512).zip b.bytes |>.flatMap fun x =>
    let pc := b.grain.g % 75 * 512 + x.1
    match x.2 with
    | some v => (((s.sampleOf b.grain.frame).feeds (pc / 800)).filter fun r => s.enabled r && decide (pc % 800 < s.cells r)).map fun r =>
        (648000 * r + 810 * (pc % 800) + grainPos b.grain.g, v)
    | none => []
  s.mapEng fun e => { e with hist := used.foldl (fun h y => Store.put (fun _ => 0xFF) h y.1 y.2) e.hist }

/-- The position the transmit side takes next is due (R86). -/
def State.positionDue (s : State) : Bool :=
  let f := s.eng.taken / 810
  s.core.started && decide (f ≤ s.core.frames) && decide ((s.sampleOf f).t + deadline (s.eng.taken % 810) ≤ s.now)

/-- The grains of a global position. -/
def grainsAt (g : Nat) : List Grain := (List.range 75).map fun k => { frame := g / 810, g := g % 810 * 75 + k }

/-- Take the next position: its 75 grains leave the staging buffer for the history; a grain that is not there is sent from
history, and GRAIN_LATE counts it. -/
def State.takePosition (s : State) : State :=
  let g := s.eng.taken
  let mine := s.eng.staged.filter fun b => decide (globalPos b.grain = g)
  let absent := (grainsAt g).filter fun x => !mine.any fun b => decide (b.grain = x)
  let s := mine.foldl State.toHistory s
  s.mapEng fun e => { e with staged := e.staged.filter fun b => decide (globalPos b.grain ≠ g), taken := g + 1, missing := e.missing ++ absent }

/-- The byte that the core gave a port for a slot, as transmitted (R108, R138). -/
def State.txByte (s : State) (p cell pos : Nat) : W8 :=
  Store.get (fun _ => 0xFF) s.eng.hist (648000 * p + 810 * cell + pos)

/-! ### Closing a record: the governor (R105 to R107, R111, R112) -/

/-- Down-steps are allowed (R106, R107, R310). -/
def State.downOk (s : State) : Bool := s.eng.gov.boost.isNone && !s.flag F.BG_STATUS_AVS_FAIL

/-- The commit for which the governor boosted has not swapped yet (R107), on the holder or mirrored on a standby. -/
def State.boostWaits (s : State) : Bool :=
  (s.map.commit.any fun c => c.target == s.eng.gov.boostFor) || s.mate.mcommit.any fun c => c.target == s.eng.gov.boostFor

/-- The governor's rule at the close of a record (R106, R107): `a` is the engine count commanded last. A boosted commit that is dropped
before its swap counts its 64 records from the drop (DESIGN CHOICE, log entry 65). -/
def State.governClose (s : State) (late : Bool) (slack : Nat) : State :=
  let v := s.rd F.PWR_VCORE_CMD_MV
  let a := s.eng.gov.aNext.getD (s.rd F.CORE_STATUS_ENG_ACTIVE)
  let waits := s.boostWaits
  let target := s.rd F.CANDLE_CFG_SLACK_TARGET
  let good := if !late && decide (target + s.rd F.CANDLE_CFG_SLACK_HYST ≤ slack) then s.eng.gov.good + 1 else 0
  let step := s.downOk
  let s := s.mapEng fun e => { e with gov := { e.gov with
    good := good
    boost := match e.gov.boost with
      | some n => if waits then some n else if n ≤ 1 then none else some (n - 1)
      | none => none } }
  let clear := fun (s : State) => s.mapEng fun e => { e with gov := { e.gov with good := 0 } }
  if late then
    (s.boost.mapEng fun e => { e with gov := { e.gov with suspend := 8000 } }).raise F.CORE_STATUS_BG_SUSPENDED
  else if slack < target then
    if a < 256 then clear (s.mapEng fun e => { e with gov := { e.gov with aNext := some (min 256 (a + 32)) } })
    else if v < 800 then clear (s.commandV (min (v + 10) 800)) else s
  else if 64 ≤ good ∧ step = true then
    if 550 < v then clear (s.commandV (v - 5))
    else if 32 < a then clear (s.mapEng fun e => { e with gov := { e.gov with aNext := some (a - 32) } })
    else s
  else s

/-- LATE_PERSIST (R112): 8 late frames in a row at 0.80 V and 256 engines set it, 8,000 clean frames clear it. -/
def State.latePersist (s : State) (late : Bool) : State :=
  let full := decide (s.rd F.PWR_VCORE_CMD_MV = 800) && decide (s.rd F.CORE_STATUS_ENG_ACTIVE = 256)
  let run := if late && full then s.eng.gov.lateRun + 1 else 0
  let clean := if late then 0 else s.eng.gov.cleanRun + 1
  let s := s.mapEng fun e => { e with gov := { e.gov with lateRun := run, cleanRun := clean } }
  if 8 ≤ run then (s.raise F.CORE_STATUS_LATE_PERSIST).raise F.CORE_INT_LATE_PERSIST
  else if 8000 ≤ clean then s.setFlag F.CORE_STATUS_LATE_PERSIST false
  else s

/-- The record of a frame closes (R105, R111). -/
def State.closeCandle (s : State) (c : Candle) : State :=
  let late := decide (0 < c.late)
  let slack := if late then 0 else min c.slack 4095
  let s := s.latePersist late
  let s := ((s.wr F.CANDLE_LAST_MIN_SLACK slack).wr F.CANDLE_LAST_MIN_POS c.pos).setFlag F.CANDLE_LAST_LATE late
  let s := (s.wr F.CANDLE_LAST_FN_FN c.fn.toNat).wr F.CANDLE_LAST_FN_LATE_GRAINS (min c.late 65535)
  let s := if slack < s.rd F.CANDLE_WORST_MIN_SLACK then
      (s.wr F.CANDLE_WORST_MIN_SLACK slack).wr F.CANDLE_WORST_FN c.fn.toNat else s
  let s := if late then (s.inc F.LATE_FRAME_CNT_COUNT 1).raise F.CORE_INT_LATE else s
  let s := s.mapEng fun e =>
    { e with candles := e.candles.filter fun k => decide (k.frame ≠ c.frame),
             gov := { e.gov with suspend := e.gov.suspend - 1 } }
  let s := if s.eng.gov.suspend = 0 then s.setFlag F.CORE_STATUS_BG_SUSPENDED false else s
  s.governClose late slack

/-! ### Bank moves and tests (R100 to R103) -/

/-- A group is busy with a move or a test. -/
def State.groupBusy (s : State) (j : Nat) : Bool :=
  (s.eng.moves.any fun m => decide (m.old / 66 = j)) || (groupBanks j).any fun x => decide (s.bankState x = 2)

/-- BROT_CTRL.PERIOD; a smaller value is taken as 8 (R102). -/
def State.brotPeriod (s : State) : Nat := max 8 (s.rd F.BROT_CTRL_PERIOD)

/-- The moves that were waiting for a mark take it: writes go to the new bank from this frame (R101). -/
def State.markMoves (s : State) : State :=
  let s := s.eng.moves.foldl (fun s m =>
    if m.frame.isNone then
      ((s.wr (F.BANK_MAP_PHYS m.bank) m.new).wr (F.BANK_STATE_STATE m.new) 0).wr (F.BANK_STATE_LOGICAL m.new) m.bank
    else s) s
  (s.mapEng fun e => { e with moves := e.moves.map fun m => { m with frame := some (m.frame.getD s.core.frames) } }).countSpares

/-- A move has run its two marks and its last reader is done (R101). -/
def State.moveOver (s : State) (m : Move) : Bool :=
  match m.frame with
  | none => false
  | some k => decide (k < s.core.frames) && s.frameSettled k

/-- BANK_MOVE (R101, R103): the move of logical bank `b` ends, its old physical bank being under test from now; with no
move under way, a bank that R103 moves out starts one. -/
def execBankMove (t : Nat) (b : Fin 2048) (s : State) : Res :=
  let s := s.tick t
  match s.eng.moves.find? fun m => decide (m.bank = b.val) with
  | some m =>
    if s.moveOver m then
      let s := (s.wr (F.BANK_STATE_STATE m.old) 2).wr (F.BANK_STATE_LOGICAL m.old) 0
      let s := s.mapEng fun e => { e with
        moves := e.moves.filter fun k => decide (k.bank ≠ b.val)
        testing := Store.put (fun _ => false) e.testing m.old true
        ueBanks := Store.put (fun _ => false) e.ueBanks m.old false }
      .next (s.raiseIf m.forced F.CORE_INT_BANK_MOVED)
    else .next s
  | none =>
    .next (s.moveOut (s.rd (F.BANK_MAP_PHYS b.val)))

/-- MARCH_TEST_DONE (R102, R103): the test of physical bank `x` ends; it becomes a spare or is retired, and a new spare lets the banks of
its group that R103 moves out go. BROT_STATUS.STEPS counts every test, that of a move of R103 too (DESIGN CHOICE, log entry 66). -/
def State.marchDone (s : State) (x : Nat) (pass : Bool) : State :=
  if Store.get (fun _ => false) s.eng.testing x then
    let s := s.mapEng fun e => { e with
      testing := Store.put (fun _ => false) e.testing x false
      tests := e.tests + 1
      lastTest := Store.put (fun _ => 0) e.lastTest x (e.tests + 1) }
    let s := ((s.wr F.BROT_STATUS_LAST_PHYS x).setFlag F.BROT_STATUS_LAST_PASS pass).bump F.BROT_STATUS_STEPS 1
    let s := if pass then (s.wr (F.BANK_STATE_STATE x) 1).wr (F.BANK_STATE_CE_CNT x) 0
      else (s.wr (F.BANK_STATE_STATE x) 3).raise F.CORE_INT_BANK_RETIRED
    let s := (s.countSpares).raiseIf (s.noSpare (x / 66)) F.CORE_INT_SPARES_OUT
    if pass then (groupBanks (x / 66)).foldl State.moveOut s else s
  else s

/-! ### The core at a frame mark (R13, R37 to R39, R77, R85, R88, R92, R93, R95) -/

/-- The idle bytes of all ports. -/
def State.idleBytes (s : State) : List (Nat × W8) :=
  (List.range 48).map fun p => (p, BitVec.ofNat 8 (s.rd (F.PRT_IDLE_IDLE p)))

/-- The core's part of a frame mark, once FN has advanced: samples, the new input frame, the dealt grains. During a stack
march every grain counts as empty (R323). -/
def State.coreMark (s : State) : State :=
  let f := if s.core.started then s.core.frames + 1 else 0
  let s := s.openInput
  let s := match s.eng.gov.aNext with
    | some a => (s.wr F.CORE_STATUS_ENG_ACTIVE a).mapEng fun e => { e with gov := { e.gov with
        aNext := none, good := if a = s.rd F.CORE_STATUS_ENG_ACTIVE then e.gov.good else 0 } }
    | none => s
  let a := s.rd F.CORE_STATUS_ENG_ACTIVE
  let prbs0 := if s.core.prbsReq then f else s.core.prbs0
  let m : Sample :=
    { fn := s.fn, frame := f, t := s.now, pageNo := s.activeNo, page := if s.pwr.march = 2 then [] else s.active, sels := s.sel.sels, held := s.sel.held,
      groups := s.groups, idle := s.idleBytes }
  let page : DataPage :=
    { frame := f, images := [], toh := [], herd := s.herdSet,
      gen := { consts := s.core.gen, idle := s.idleBytes, frame := f, prbs0 := prbs0 } }
  let s := s.mapCore fun c =>
    { c with started := true, frames := f, markT := s.now, prbsReq := false, prbs0 := prbs0, sampPrev := c.samp, samp := m,
             next := page, inOpen := false }
  let s := s.mapEng fun e =>
    { e with queues := (List.range a).foldl (fun q k => Store.put (fun _ => []) q k
               (Store.get (fun _ => []) q k ++ [{ frame := f, next := k, step := a }])) e.queues,
             candles := e.candles ++ [{ frame := f, fn := s.fn, settled := 0, late := 0, slack := 4095 + 12834, pos := 0 }],
             brot := e.brot + 1 }
  s.markMoves

end Sys2Proof.Machine
end

