-- ==== Sys2Proof/Machine/Timing.lean ====
section
/-! DEFINITION. Machine/Timing.lean: references, selection, the DPLL and the timing commands (spec/08). -/
namespace Sys2Proof.Machine

/-- Change the timing state outside its registers. -/
def State.mapTmg (s : State) (f : TmgSt → TmgSt) : State := { s with tmg := f s.tmg }
/-- A reference outside its registers. -/
def State.ref (s : State) (n : Nat) : RefSt := Store.get (fun _ => RefSt.reset) s.tmg.refs n
/-- Change a reference. -/
def State.mapRef (s : State) (n : Nat) (f : RefSt → RefSt) : State :=
  s.mapTmg fun t => { t with refs := Store.put (fun _ => RefSt.reset) t.refs n (f (s.ref n)) }

/-- A used entry. -/
def State.refUsed (s : State) (n : Nat) : Bool := s.refType n != 0
/-- The used entries. -/
def State.usedRefs (s : State) : List Nat := (List.range 16).filter s.refUsed
/-- A 1 PPS entry (R199). -/
def State.isPps (s : State) (n : Nat) : Bool := s.refType n == 2 && s.rd (F.TMG_REF_FREQ n) == 4

/-- Ticks in a second of the monitor base. -/
def secTicks : Nat := 100000000

/-! ### Quality levels (R201 to R203) -/

/-- The rank of a QL code; 9: not usable (R201). -/
def qlRank (net : Bool) (code : Nat) : Nat :=
  if net then match code with
    | 1 => 1 | 0 => 2 | 7 => 3 | 4 => 4 | 13 => 5 | 10 => 6 | 12 => 7 | 14 => 8 | _ => 9
  else match code with
    | 2 => 1 | 4 => 2 | 8 => 3 | 11 => 4 | _ => 9

/-- Option II is selected. -/
def State.net2 (s : State) : Bool := s.flag F.TMG_CTRL_QL_NET
/-- The QL regime is selected (R207). -/
def State.qlRegime (s : State) : Bool := s.flag F.TMG_CTRL_REGIME

/-- The effective QL of a reference (R202). -/
def State.effQl (s : State) (n : Nat) : Nat :=
  if s.rd (F.TMG_REF_QL_HOST n) = 1 then s.rd (F.TMG_REF_QL n)
  else match s.refType n with
    | 1 => if s.flag (F.PRT_QL_RX_VALID (s.refSrc n)) then bits (s.rd (F.PRT_QL_RX_QL (s.refSrc n))) 0 4 else 15
    | 3 => s.tmg.mateQl.getD 15
    | _ => 15

/-- The rank of a reference's effective QL. -/
def State.rankOf (s : State) (n : Nat) : Nat := qlRank s.net2 (s.effQl n)

/-! ### Failures (R198 to R200, R205) -/

/-- A line-port reference fails (R198). -/
def State.portRefFails (s : State) (p : Nat) : Bool :=
  let m := s.prtMode p
  !s.rxOn p || s.pdef p 0 || (if isZiuth m then s.pdef p 1 else s.pdef p 2) || (!isZiuth m && s.pdef p 3) ||
    (isOtn m && (s.pdef p 5 || s.pdef p 6 || s.pdef p 15))

/-- The port has not been in frame since it was enabled, or never was (R198). -/
def State.neverFramed (s : State) (p : Nat) : Bool := (s.dyn p).unframed

/-- The monitor window of an entry in ticks (R199, R204). -/
def State.window (s : State) (n : Nat) : Nat := if s.isPps n then 16 * secTicks else secTicks

/-- The loss condition of an entry (R198, R199). -/
def State.refLoss (s : State) (n : Nat) : Bool :=
  match s.refType n with
  | 1 => s.portRefFails (s.refSrc n)
  | 2 => (s.ref n).loss || (match (s.ref n).lossEnd with
      | some e => decide (s.now < e + s.window n)
      | none => false)
  | 3 => !s.acting && !s.mateUp
  | _ => false

/-- The frequency limit is exceeded in the latest window (R205). -/
def State.refFreqBad (s : State) (n : Nat) : Bool :=
  decide (s.rd F.TMG_DRIFT_HARD * 10000 < (s.reg (0x40050180 + n * 4)).toInt.natAbs)

/-- The QL fails the reference (R205). -/
def State.refQlBad (s : State) (n : Nat) : Bool :=
  s.qlRegime && (s.rankOf n == 9 || decide (qlRank s.net2 (s.rd F.TMG_CTRL_OWN_QL) < s.rankOf n))

/-- An acquisition failure lasts until the end of the reference's WTR (R205, R209). -/
def State.refAcqBad (s : State) (n : Nat) : Bool :=
  match (s.ref n).acqFail with
  | some e => decide (s.now < e)
  | none => false

/-- A holder's own mate link is no reference (R200). -/
def State.refLoop (s : State) (n : Nat) : Bool := s.refType n == 3 && s.acting

/-- CAUSE of TMG_REF_STAT. -/
def State.refCause (s : State) (n : Nat) : Nat :=
  if s.refLoop n then 6
  else if s.refLoss n then (if s.refType n = 1 ∧ s.neverFramed (s.refSrc n) = false then 2 else 1)
  else if s.refFreqBad n then 3
  else if s.refQlBad n then 4
  else if s.refAcqBad n then 5
  else 0

/-- A reference's status as it follows from its conditions now (R205): a new hard failure stops a wait-to-restore; when all
conditions have cleared it starts, unless only the QL failed or WTR is 0. -/
def State.refreshRef (s : State) (n : Nat) : State :=
  if !s.refUsed n then s.setReg (0x40050140 + n * 4) (0x3C0 ||| (s.reg (0x40050140 + n * 4) &&& 0x30))
  else
    let other := s.refLoss n || s.refFreqBad n
    let hard := other || s.refQlBad n || s.refAcqBad n
    let was := s.flag (F.TMG_REF_STAT_FAIL n)
    let wtr := secTicks * s.rd F.TMG_TIMERS_WTR
    let s := ((s.wr (F.TMG_REF_STAT_EFF_QL n) (s.effQl n)).wr (F.TMG_REF_STAT_CAUSE n) (s.refCause n)).setFlag
      (F.TMG_REF_STAT_FAIL n) hard
    let s := if hard && !was then s.raise F.TMG_INT_REF_FAIL else s
    let s := s.mapRef n fun r =>
      if hard then { r with wtr := none, needWtr := r.needWtr || other }
      else if was && r.needWtr && decide (0 < wtr) then { r with wtr := some (s.now + wtr), needWtr := false, acqFail := none }
      else { r with needWtr := false, acqFail := none }
    let run := (s.ref n).wtr.isSome
    let left := match (s.ref n).wtr with
      | some e => (e - s.now + secTicks - 1) / secTicks
      | none => 0
    let s := (s.setFlag (F.TMG_REF_STAT_WTR_RUN n) run).wr (F.TMG_REF_STAT_WTR_LEFT n) left
    let s := s.setFlag (F.TMG_REF_STAT_AVAIL n) (!hard && !run && !s.refLoop n && !s.flag (F.TMG_REF_STAT_LOCKOUT n))
    if was && !hard && !run then s.raise F.TMG_INT_REF_AVAIL else s

/-- A reference is available (R205). -/
def State.available (s : State) (n : Nat) : Bool :=
  s.refUsed n && !s.flag (F.TMG_REF_STAT_FAIL n) && !s.flag (F.TMG_REF_STAT_WTR_RUN n) && !s.refLoop n

/-- A reference is suspect (R206). -/
def State.suspect (s : State) (n : Nat) : Bool := s.flag (F.TMG_REF_STAT_SUSPECT n)

/-! ### The DPLL (R207 to R213) -/

/-- STATE of the DPLL: 0 FREERUN, 1 ACQUIRE, 2 LOCKED, 3 HOLDOVER, 4 SWITCHING, 5 REF_FAULT_ALL. -/
def State.dpll (s : State) : Nat := s.rd F.TMG_STATE_STATE

/-- A quotient rounded to the nearest whole number, halves upwards. -/
def roundDiv (a : Int) (n : Nat) : Int := (2 * a + n) / (2 * n)

/-- A history and whether it is valid: the mean of its windows, of which 64 must exist (R213). -/
def meanOf (w : List Int) : Option Int × Bool :=
  (if w.isEmpty then none else some (roundDiv w.sum w.length), decide (64 ≤ w.length))

/-- The device's own history: the LOCKED windows from 908 s to 8 s ago (R213). -/
def State.ownHistory (s : State) : Option Int × Bool := meanOf (((s.tmg.hist.drop 8).take 900).filterMap id)

/-- The second history: the mirrored windows of the same span (R239). -/
def State.mateHistory (s : State) : Option Int × Bool :=
  meanOf ((s.tmg.mateHist.filter fun x => decide (x.1 + 8 * secTicks ≤ s.now) && decide (s.now < x.1 + 908 * secTicks)).map Prod.snd)

/-- The history in use: a device that tracks the mate link uses the mirrored one when that is valid (R215, R239). -/
def State.history (s : State) : Option Int × Bool :=
  if s.flag F.TMG_STATE_MATE && s.mateHistory.2 then s.mateHistory else s.ownHistory

/-- TMG_HIST shows the history. -/
def State.showHist (s : State) : State :=
  let h := s.history
  (s.wr ⟨0x40050014, 0, 31⟩ (BitVec.ofInt 31 (h.1.getD 0)).toNat).wr ⟨0x40050014, 31, 1⟩ (b2n h.2)

/-- The output frequency offset is set (TMG_OUTFREQ; VALID is always 1). -/
def State.setOut (s : State) (f : Int) : State :=
  (s.wr ⟨0x40050018, 0, 31⟩ (BitVec.ofInt 31 f).toNat).wr ⟨0x40050018, 31, 1⟩ 1

/-- The output frequency is set to the history (R209, R210). Without a window in its span the history has no value, and the frequency is
free (log entry 1). -/
def State.outHist (s : State) : State :=
  match s.history.1 with
  | some f => s.setOut f
  | none => { s.setOut (BitVec.ofNat 31 (Config.freeWord s.fresh).toNat).toInt with fresh := s.fresh + 1 }

/-- The output frequency offset. -/
def State.outFreq (s : State) : Int := (BitVec.ofNat 31 (s.reg 0x40050018).toNat).toInt

/-- TX_QL follows the state (R203). -/
def State.showQl (s : State) : State :=
  let q := if s.mode != 0 && !s.acting then s.tmg.mateQl.getD (s.rd F.TMG_CTRL_OWN_QL)
    else match s.dpll with
      | 2 => s.effQl (s.rd F.TMG_STATE_SEL_REF)
      | 4 => if s.flag F.TMG_STATE_TGT_VALID then s.effQl (s.rd F.TMG_STATE_TARGET) else s.effQl (s.rd F.TMG_STATE_SEL_REF)
      | _ => s.rd F.TMG_CTRL_OWN_QL
  s.wr F.TMG_STATE_TX_QL q

/-- SQ0 and SQ1 of TMG_OUT_CFG squelch in a DPLL state (R217). -/
def squelches (sq st : Nat) : Bool := (sq == 1 && (st == 0 || st == 5)) || (sq == 2 && (st == 0 || st == 5 || st == 3))

/-- The frequency code that SYSCLK_OUTn is to carry: 0 is off, held low (R217). -/
def State.clkWant (s : State) (n : Nat) : Nat :=
  if n = 0 then (if squelches (s.rd F.TMG_OUT_CFG_SQ0) s.dpll then 0 else s.rd F.TMG_OUT_CFG_FREQ0)
  else if squelches (s.rd F.TMG_OUT_CFG_SQ1) s.dpll then 0 else s.rd F.TMG_OUT_CFG_FREQ1

/-- A clock output that stops, for squelch, a new frequency or code 0000, stays low for at least 1 us (R217). -/
def State.noteClk (s0 s : State) : State :=
  let stop := fun (n : Nat) (was : Option Nat) => if s0.clkWant n ≠ 0 ∧ s.clkWant n ≠ s0.clkWant n then some s.now else was
  s.mapTmg fun x => { x with clk0 := stop 0 x.clk0, clk1 := stop 1 x.clk1 }

/-- Enter a DPLL state (R209). -/
def State.enter (s : State) (st : Nat) : State :=
  if s.dpll = st then s else s.noteClk ((s.wr F.TMG_STATE_STATE st).raise F.TMG_INT_STATE_CHG)

/-- The loop bandwidth in force as a code of TMG_CTRL.BW (R199, R209): in ACQUIRE 1 Hz or BW where that is higher, in LOCKED BW, on a
1 PPS reference at most 0.01 Hz; in the other states the loop follows no input. -/
def State.bandwidth (s : State) : Option Nat :=
  let pps := fun (b : Nat) => if !s.flag F.TMG_STATE_MATE && s.isPps (s.rd F.TMG_STATE_SEL_REF) then min b 1 else b
  match s.dpll with
  | 1 => some (pps (max 3 (s.rd F.TMG_CTRL_BW)))
  | 2 => some (pps (s.rd F.TMG_CTRL_BW))
  | _ => none

/-- No switch is under way. -/
def State.endSwitch (s : State) : State :=
  (s.setFlag F.TMG_STATE_TGT_VALID false).mapTmg fun t => { t with hold := none, verify := none, measured := none, back := false }

/-- A phase build-out whose amount the manual does not state: the device measures it (log entry 1). -/
def State.freeBuildOut (s : State) : State :=
  { s.setReg 0x4005001C (Config.freeWord s.fresh) with fresh := s.fresh + 1 }

/-- Pull in on a reference (R209). -/
def State.acquireRef (s : State) (n : Nat) : State :=
  let s := if s.dpll = 3 ∨ s.dpll = 5 then s.freeBuildOut else s
  let s := ((s.endSwitch.wr F.TMG_STATE_SEL_REF n).raise F.TMG_STATE_SEL_VALID).setFlag F.TMG_STATE_MATE false
  (s.enter 1).mapTmg fun t => { t with acqAt := s.now, inBand := 0 }

/-- No candidate (R209): HOLDOVER with a valid history, else REF_FAULT_ALL. In ACQUIRE and SWITCHING the frequency is held as it is. -/
def State.noRef (s : State) : State :=
  let ok := s.history.2
  let s := if ok && s.dpll != 1 && s.dpll != 4 then s.outHist else s
  ((s.endSwitch.setFlag F.TMG_STATE_SEL_VALID false).setFlag F.TMG_STATE_MATE false).enter (if ok then 3 else 5)

/-- The switch takes a target and verifies it (R210). -/
def State.aim (s : State) (n : Nat) : State :=
  let s := (s.wr F.TMG_STATE_TARGET n).raise F.TMG_STATE_TGT_VALID
  s.mapTmg fun t => { t with hold := none, verify := some s.now, measured := none, back := false }

/-- The loop freezes on the history value (R210). -/
def State.freeze (s : State) : State := (s.outHist.setFlag F.TMG_STATE_MATE false).enter 4

/-- The hold-off starts after a hard failure of the selected reference (R210). -/
def State.startHold (s : State) : State :=
  let s := s.freeze.setFlag F.TMG_STATE_TGT_VALID false
  s.mapTmg fun t => { t with hold := some (s.now + s.rd F.TMG_TIMERS_HOLDOFF * 100 * msTicks), verify := none, measured := none, back := false }

/-- The candidate set (R205, R208). -/
def State.cands (s : State) : List Nat :=
  (List.range 16).filter fun n => s.available n && !s.flag (F.TMG_REF_STAT_LOCKOUT n)

/-- Candidate `a` ranks before `b` (R207). -/
def State.before (s : State) (a b : Nat) : Bool :=
  let key := fun (n : Nat) => (((if s.qlRegime then s.rankOf n else 0) * 2 + b2n (s.suspect n)) * 16 + s.rd (F.TMG_REF_PRIO n)) * 16 + n
  decide (key a < key b)

/-- The first candidate. -/
def State.bestCand (s : State) : Option Nat :=
  s.cands.foldl (fun b n => match b with
    | none => some n
    | some m => if s.before n m then some n else some m) none

/-- The reference that FORCE names. -/
def State.forced (s : State) : Option Nat := (List.range 16).find? fun n => s.flag (F.TMG_REF_STAT_FORCED n)

/-- `cur` of R207: the target while switching, else the selected reference. -/
def State.curRef (s : State) : Option Nat :=
  if s.dpll = 4 ∧ s.flag F.TMG_STATE_TGT_VALID = true then some (s.rd F.TMG_STATE_TARGET)
  else if s.flag F.TMG_STATE_SEL_VALID then some (s.rd F.TMG_STATE_SEL_REF)
  else none

/-- The choice among the candidates, no forced reference standing (R207). -/
def State.plainChoice (s : State) : Option Nat :=
  match s.bestCand, s.curRef with
  | none, _ => none
  | some b, none => some b
  | some b, some c =>
    if !s.cands.contains c then some b
    else if s.before b c && ((s.qlRegime && decide (s.rankOf b < s.rankOf c)) || s.flag (F.TMG_REF_REV b) ||
        (s.suspect c && !s.suspect b)) then some b
    else some c

/-- The result of selection (R207). -/
def State.choose (s : State) : Option Nat :=
  if s.flag F.TMG_STATE_FORCE_HO then none
  else match s.forced with
    | some f => if s.flag (F.TMG_REF_STAT_FAIL f) || !s.refUsed f then s.plainChoice else some f
    | none => s.plainChoice

/-- What a selection result does in the DPLL's state (R209, R211). -/
def State.follow (s : State) (sel : Option Nat) : State :=
  let inUse := s.flag F.TMG_STATE_SEL_VALID && sel == some (s.rd F.TMG_STATE_SEL_REF)
  match s.dpll, sel with
  | 0, some n => s.acquireRef n
  | 0, none => s
  | 1, some n => if inUse then s else s.acquireRef n
  | 1, none => s.noRef
  | 2, some n =>
    if inUse then s else s.freeze.aim n
  | 2, none => s.noRef
  | 4, some n =>
    if s.tmg.hold.isSome then s
    else if s.flag F.TMG_STATE_TGT_VALID = true ∧ s.rd F.TMG_STATE_TARGET = n then s
    else
      let s := (s.raiseIf (s.flag F.TMG_STATE_TGT_VALID) F.TMG_INT_RETARGET).aim n
      s.mapTmg fun t => { t with back := inUse }
  | 4, none => if s.tmg.hold.isSome then s else s.noRef
  | 3, some n => s.acquireRef n
  | 5, some n => s.acquireRef n
  | _, _ => s

/-- Run selection on a device that acts (R207, R215). -/
def State.select (s : State) : State :=
  let s := match s.forced with
    | some f => if s.flag (F.TMG_REF_STAT_FAIL f) then s.setFlag (F.TMG_REF_STAT_FORCED f) false else s
    | none => s
  (s.follow s.choose).showQl

/-- A device that does not act and tracks no mate link keeps its selected reference until that fails (R226). -/
def State.keepRef (s : State) : State :=
  if 1 ≤ s.dpll ∧ s.dpll ≠ 3 ∧ s.dpll ≠ 5 ∧ s.tmg.hold = none ∧
      (s.flag F.TMG_STATE_SEL_VALID = false ∨ s.flag (F.TMG_REF_STAT_FAIL (s.rd F.TMG_STATE_SEL_REF)) = true) then
    (s.outHist.endSwitch.setFlag F.TMG_STATE_SEL_VALID false).enter 3
  else s

/-- The new holder of a granted handover, which tracks the mate link through the authority gap (R244). -/
def State.inGap (s : State) : Bool := s.pair.ho.any fun h => !h.old && h.granted

/-- A standby's DPLL tracks the mate link, or holds over without it (R28, R215, R226, R244). -/
def State.trackMate (s : State) : State :=
  let up := s.mateUp && (s.flag F.PAIR_STAT_MATE_ACTING || (s.flag F.TMG_STATE_MATE && s.inGap))
  let s := if up then
      if s.flag F.TMG_STATE_MATE && (s.dpll == 1 || s.dpll == 2) then s
      else
        let s := (s.endSwitch.setFlag F.TMG_STATE_SEL_VALID false).raise F.TMG_STATE_MATE
        (s.enter 1).mapTmg fun t => { t with acqAt := s.now, inBand := 0 }
    else if s.flag F.TMG_STATE_MATE then
      (s.outHist.endSwitch.setFlag F.TMG_STATE_MATE false).enter 3
    else s.keepRef
  s.showQl

/-- The selected reference fails while LOCKED, or its failure clears in hold-off (R209). -/
def State.watchSelected (s : State) : State :=
  let n := s.rd F.TMG_STATE_SEL_REF
  if s.acting && s.flag F.TMG_STATE_SEL_VALID then
    if s.dpll = 2 ∧ s.flag (F.TMG_REF_STAT_FAIL n) = true then s.startHold
    else if s.dpll = 4 ∧ s.tmg.hold.isSome = true ∧ s.refCause n = 0 then
      let s := ((s.mapRef n fun r => { r with wtr := none }).refreshRef n).raise F.TMG_INT_REF_AVAIL
      (s.endSwitch.freeBuildOut).enter 2
    else s
  else s

/-- Every reference's status, and what the selected reference's failure does at once (R205, R209). -/
def State.refreshRefs (s : State) : State :=
  (((List.range 16).foldl State.refreshRef s).watchSelected).showQl

/-! ### Events -/

/-- REF_LOSS (R199, R377): the loss condition of a REFIN entry sets or ends. -/
def execRefLoss (t : Nat) (n : Fin 16) (present : Bool) (s : State) : Res :=
  let s := s.tick t
  if s.refType n.val = 2 then
    let s := s.mapRef n.val fun r =>
      if present then { r with loss := true, lossEnd := none }
      else if r.loss then { r with loss := false, lossEnd := some s.now } else r
    .next s.refreshRefs
  else .next s

/-- REF_WTR_EXPIRY (R205): the wait-to-restore, or the acquisition failure, of a reference ends. -/
def execRefWtrExpiry (t : Nat) (n : Fin 16) (s : State) : Res :=
  let s := s.tick t
  match (s.ref n.val).wtr with
  | some e =>
    if e ≤ s.now then
      let s := (s.mapRef n.val fun r => { r with wtr := none }).refreshRefs
      .next (s.raiseIf (s.available n.val) F.TMG_INT_REF_AVAIL)
    else .next s
  | none => .next s.refreshRefs

/-- The median of a list, twice its value. -/
def median2 (l : List Int) : Int :=
  let l := l.mergeSort (fun a b => decide (a ≤ b))
  let n := l.length
  if n % 2 = 1 then 2 * l.getD (n / 2) 0 else l.getD (n / 2) 0 + l.getD (n / 2 - 1) 0

/-- The healthy peers of a reference (R206). -/
def State.peers (s : State) (n : Nat) : List Nat :=
  (List.range 16).filter fun m => decide (m ≠ n) && s.available m && !s.suspect m &&
    (!s.qlRegime || decide (s.effQl m = s.effQl n))

/-- d(r) times twice the number of windows (R206); `none`: a window is missing. -/
def State.drift2 (s : State) (n : Nat) (peers : List Nat) (w : Nat) : Option Int :=
  let full := fun (m : Nat) => decide (w ≤ (s.ref m).freqs.length)
  if full n && peers.all full then
    some (((List.range w).map fun k =>
      2 * (s.ref n).freqs.getD k 0 - median2 (peers.map fun m => (s.ref m).freqs.getD k 0)).sum)
  else none

/-- A value saturated to 32 bits. -/
def sat32 (f : Int) : W32 := BitVec.ofInt 32 (max (-2147483648) (min 2147483647 f))

/-- The suspicion test of one reference at the end of a 1 s window (R206); it looks at the peers of state `s0`. -/
def State.testSuspect (s0 s : State) (n : Nat) : State :=
  let w := s.rd F.TMG_DRIFT_SUS_WIN
  let p := s0.peers n
  if !s0.refUsed n || decide (p.length < 2) then (s.setFlag (F.TMG_REF_STAT_SUSPECT n) false).setReg (0x400501C0 + n * 4) 0
  else match s0.drift2 n p w with
    | none => s.setReg (0x400501C0 + n * 4) 0
    | some d =>
      let s := s.setReg (0x400501C0 + n * 4) (sat32 (roundDiv d (2 * w)))
      let lim := s.rd F.TMG_DRIFT_SUS_PPB * 100
      if 2 * w * lim < d.natAbs then
        (s.raiseIf (!s.suspect n) F.TMG_INT_SUSPECT).raise (F.TMG_REF_STAT_SUSPECT n)
      else if 2 * d.natAbs ≤ 2 * w * lim then s.setFlag (F.TMG_REF_STAT_SUSPECT n) false
      else s

/-- MONITOR_WINDOW_END (R199, R204 to R206, R209, R213): a 1 s window ends. `freqs`: measured offsets of the references whose
window ends, 16 s long on 1 PPS; `out`: the output's offset; `mate`: the mate link's offset, all in 0.01 ppb. -/
def execMonitorWindowEnd (t : Nat) (freqs : List (Fin 16 × Int)) (out mate : Int) (s : State) : Res :=
  let s := s.tick t
  if s.tmg.winAt + secTicks ≤ s.now then
    let ended := freqs.filter fun x => s.refUsed x.1.val && (!s.isPps x.1.val || decide ((s.ref x.1.val).winAt + 16 * secTicks ≤ s.now))
    let s := ended.foldl (fun s x =>
      (s.setReg (0x40050180 + x.1.val * 4) (sat32 x.2)).mapRef x.1.val fun r => { r with winAt := s.now }) s
    let s := s.usedRefs.foldl (fun s n =>
      s.mapRef n fun r => { r with freqs := ((s.reg (0x40050180 + n * 4)).toInt :: r.freqs).take 60 }) s
    let locked := decide (s.dpll = 2)
    let s := s.mapTmg fun x =>
      { x with winAt := s.now, hist := ((if locked then some out else none) :: x.hist).take 908 }
    let s := if s.dpll = 1 ∨ s.dpll = 2 then s.setOut out else s
    let s := s.showHist.refreshRefs
    let s := (List.range 16).foldl (State.testSuspect s) s
    let err := if s.flag F.TMG_STATE_MATE then (mate - out).natAbs
      else ((s.reg (0x40050180 + s.rd F.TMG_STATE_SEL_REF * 4)).toInt - out).natAbs
    let mine := s.flag F.TMG_STATE_MATE ||
      ended.any fun x => decide (x.1.val = s.rd F.TMG_STATE_SEL_REF)
    let s := if s.dpll = 1 ∧ mine = true then
        let n := if err ≤ 1000 then s.tmg.inBand + 1 else 0
        let s := s.mapTmg fun x => { x with inBand := n }
        if 2 ≤ n then s.enter 2 else s
      else s
    .next (s.showQl.mirror (.history (sat32 out) locked s.fn))
  else .next s

/-- SELECTION (R207, R215): every 1 ms. -/
def execSelection (t : Nat) (s : State) : Res :=
  let s := s.tick t
  if s.tmg.selAt + msTicks ≤ s.now then
    let s := (s.mapTmg fun x => { x with selAt := s.now }).refreshRefs
    if s.acting then .next s.select else .next s.trackMate
  else .next s

/-- ACQUIRE_TIMEOUT (R205, R209): no lock within 60 s, or 900 s on 1 PPS. -/
def execAcquireTimeout (t : Nat) (s : State) : Res :=
  let s := s.tick t
  let n := s.rd F.TMG_STATE_SEL_REF
  let lim := (if s.isPps n then 900 else 60) * secTicks
  if s.acting = true ∧ s.dpll = 1 ∧ s.flag F.TMG_STATE_SEL_VALID = true ∧ s.tmg.acqAt + lim ≤ s.now then
    let s := s.mapRef n fun r => { r with acqFail := some (s.now + secTicks * s.rd F.TMG_TIMERS_WTR) }
    let s := (if s.rd F.TMG_TIMERS_WTR = 0 then s.raise F.TMG_INT_REF_FAIL else s.refreshRefs).select
    .next (if s.dpll = 1 ∧ s.rd F.TMG_STATE_SEL_REF = n then s.mapTmg fun x => { x with acqAt := s.now, inBand := 0 } else s)
  else .next s

/-- TIMING_HOLDOFF_END (R209, R210): the hold-off ends and selection names a target. -/
def execTimingHoldoffEnd (t : Nat) (s : State) : Res :=
  let s := s.tick t
  match s.tmg.hold with
  | some e =>
    if s.dpll = 4 ∧ e ≤ s.now then
      let s := (s.mapTmg fun x => { x with hold := none }).refreshRefs
      .next (if s.acting then s.select else s.trackMate)
    else .next s
  | none => .next s

/-- VERIFICATION_COMPLETE (R209, R210): the target stayed a candidate for VERIFY; `phase` (0.1 ns) and `df` (0.01 ppb) are what
the device measured. -/
def execVerificationComplete (t : Nat) (phase df : Int) (s : State) : Res :=
  let s := s.tick t
  let target := s.rd F.TMG_STATE_TARGET
  match s.tmg.verify with
  | some v =>
    if s.dpll = 4 ∧ s.flag F.TMG_STATE_TGT_VALID = true ∧ s.tmg.back = false ∧ v + s.rd F.TMG_TIMERS_VERIFY * 10 * msTicks ≤ s.now ∧
        (s.cands.contains target = true ∨ s.forced = some target) then
      .next (s.mapTmg fun x => { x with measured := some (phase, df, s.now), verify := none })
    else .next s
  | none => .next s

/-- SWITCH_COMMIT (R210, R211): at the first frame mark after the verification the loop input changes; a switch back to the
reference in use ends at the first mark after it was named, without a commit. -/
def execSwitchCommit (t : Nat) (s : State) : Res :=
  let s := s.tick t
  if s.dpll = 4 ∧ s.core.started = true ∧ s.now = s.core.markT then
    if s.tmg.back then .next (if s.tmg.verify.any fun v => decide (v ≤ s.core.markT) then (s.endSwitch.enter 2).showQl else s)
    else match s.tmg.measured with
      | some (phase, df, at0) =>
        if at0 ≤ s.core.markT then
          let changed := !(s.flag F.TMG_STATE_SEL_VALID && s.rd F.TMG_STATE_SEL_REF == s.rd F.TMG_STATE_TARGET)
          let s := (s.wr F.TMG_STATE_SEL_REF (s.rd F.TMG_STATE_TARGET)).raise F.TMG_STATE_SEL_VALID
          let s := (s.raiseIf changed F.TMG_INT_SEL_CHG).setReg 0x4005001C (BitVec.ofInt 32 ((s.reg 0x4005001C).toInt + phase))
          let s := s.endSwitch
          if df.natAbs ≤ 5000 then .next (s.enter 2).showQl
          else .next ((s.enter 1).mapTmg fun x => { x with acqAt := s.now, inBand := 0 }).showQl
        else .next s
      | none => .next s
  else .next s

/-! ### TIMING_CONFIGURE (R208, R217, R220) -/

/-- An entry's source as one number; composite-clock pins n and n xor 1 are one source (R377). -/
def srcOverlap (a b : Nat) : Bool :=
  let ty := fun (e : Nat) => bits e 0 2
  let src := fun (e : Nat) => bits e 2 6
  let comp := fun (e : Nat) => ty e == 2 && bits e 8 3 == 3
  ty a == ty b && ty a != 0 && (ty a == 3 || src a == src b || ((comp a || comp b) && (src a) ^^^ 1 == src b))

/-- OP 0000: the chapter's cases of a reference entry (R197, R220, R377). -/
def State.refEntryOk (s : State) (n e : Nat) : Bool :=
  let ty := bits e 0 2
  let src := bits e 2 6
  (ty != 1 || (decide (src < 48) && !s.member src)) && (ty != 2 || (decide (src < 4) && bitOf e 16)) &&
    (List.range 16).all fun m => m == n || !srcOverlap e (s.reg (0x40050100 + m * 4)).toNat

/-- OP 0001: the ranges of the global settings (R220). -/
def globalsOk (timers drift : Nat) : Bool :=
  decide (bits timers 0 7 ≤ 100) && decide (1 ≤ bits timers 7 7) && decide (bits timers 7 7 ≤ 100) &&
    decide (bits timers 14 12 ≤ 3600) && decide (10 ≤ bits drift 0 10) && decide (bits drift 0 10 ≤ 1000) &&
    decide (4 ≤ bits drift 10 6) && decide (bits drift 10 6 ≤ 60) && decide (1 ≤ bits drift 16 9) && decide (bits drift 16 9 ≤ 500)

/-- OP 0010: an external command is acceptable (R208). -/
def State.extOk (s : State) (n cmd : Nat) : Bool :=
  (cmd != 2 || (s.refUsed n && !s.flag (F.TMG_REF_STAT_FAIL n) && !s.flag (F.TMG_REF_STAT_LOCKOUT n))) &&
    (cmd != 3 || s.history.2)

/-- OP 0011: the codes of the output settings (R217). -/
def outCfgOk (e : Nat) : Bool :=
  onlyBits e 0x3FFF && decide (bits e 0 4 ≤ 9) && decide (bits e 4 4 ≤ 9) && decide (bits e 8 2 ≤ 2) && decide (bits e 10 2 ≤ 2)

/-- TIMING_CONFIGURE's parameter checks: reserved fields and codes (R217, R220; R258, step 2). -/
def timingForm (d : List W32) : Bool :=
  let op := bits (word d 2) 0 4
  onlyBits (word d 2) 0xF0F && decide (op ≤ 3) && (op == 1 || (decide (word d 4 = 0) && decide (word d 5 = 0))) &&
    (match op with
      | 0 => onlyBits (word d 3) 0x1FFFFF && (bits (word d 3) 0 2 != 2 || decide (bits (word d 3) 8 3 ≤ 4))
      | 1 => onlyBits (word d 3) 0x1FF && decide (bits (word d 3) 2 3 ≤ 4) && onlyBits (word d 4) 0x3FFFFFF && onlyBits (word d 5) 0x1FFFFFF
      | 2 => decide (word d 3 ≤ 3)
      | _ => outCfgOk (word d 3))

/-- TIMING_CONFIGURE's BAD_PARAM cases of its chapter (R208, R220; R258, step 4). -/
def State.timingCase (s : State) (d : List W32) : Bool :=
  let n := bits (word d 2) 8 4
  match bits (word d 2) 0 4 with
  | 0 => s.refEntryOk n (word d 3)
  | 1 => globalsOk (word d 4) (word d 5)
  | 2 => s.extOk n (word d 3)
  | _ => true

/-- TIMING_CONFIGURE's parameters (R220). -/
def timingOk (s : State) (d : List W32) : Bool := timingForm d && s.timingCase d

/-- The reference in use or the target is another source from now on, which counts as its hard failure without hold-off (R208, R212). -/
def State.failEntry (s : State) (n : Nat) (inUse aimed : Bool) : State :=
  let s := ((s.raise (F.TMG_REF_STAT_FAIL n)).raise F.TMG_INT_REF_FAIL).setFlag (F.TMG_REF_STAT_FORCED n) false
  let s := if inUse then
      let s := s.setFlag F.TMG_STATE_SEL_VALID false
      if s.acting = true ∧ s.dpll = 2 then s.freeze else s.mapTmg fun x => { x with hold := none }
    else s
  if aimed then
    (s.setFlag F.TMG_STATE_TGT_VALID false).mapTmg fun x => { x with verify := none, measured := none, back := false }
  else s

/-- An entry changes (R212): only another TYPE, SRC or FREQ is another source. LOCKOUT and FORCE stand until CLEAR (R208). -/
def State.setRefEntry (s : State) (n : Nat) (e : W32) : State :=
  let old := s.reg (0x40050100 + n * 4)
  let s := s.setReg (0x40050100 + n * 4) e
  if bits old.toNat 0 11 = bits e.toNat 0 11 then s
  else
    let inUse := s.flag F.TMG_STATE_SEL_VALID && decide (s.rd F.TMG_STATE_SEL_REF = n)
    let aimed := decide (s.dpll = 4) && s.flag F.TMG_STATE_TGT_VALID && decide (s.rd F.TMG_STATE_TARGET = n)
    let s := s.mapRef n fun _ => { RefSt.reset with winAt := s.now, needWtr := inUse || aimed }
    let s := s.setReg (0x40050140 + n * 4) (0x3C0 ||| (s.reg (0x40050140 + n * 4) &&& 0x30))
    let s := (s.setReg (0x40050180 + n * 4) 0).setReg (0x400501C0 + n * 4) 0
    if inUse || aimed then s.failEntry n inUse aimed else s

/-- An external command (R208). -/
def State.external (s : State) (n cmd : Nat) : State :=
  match cmd with
  | 0 =>
    ((s.setFlag (F.TMG_REF_STAT_LOCKOUT n) false).setFlag (F.TMG_REF_STAT_FORCED n) false).setFlag F.TMG_STATE_FORCE_HO false
  | 1 => s.raise (F.TMG_REF_STAT_LOCKOUT n)
  | 2 => ((List.range 16).foldl (fun s m => s.setFlag (F.TMG_REF_STAT_FORCED m) false) s).raise (F.TMG_REF_STAT_FORCED n)
  | _ =>
    let s := s.raise F.TMG_STATE_FORCE_HO
    if s.dpll = 0 ∨ s.acting = false then s
    else (s.outHist.endSwitch.setFlag F.TMG_STATE_SEL_VALID false).enter 3

/-- Frame time: nominal ticks of the DPLL since the first frame mark (R218). -/
def State.frameTime (s : State) : Nat := s.core.frames * frameTicks + (s.now - s.core.markT)

/-- The frame time of the next frame mark, or of one that begins now. -/
def State.markTime (s : State) : Nat :=
  if !s.core.started then 0 else if s.now = s.core.markT then s.frameTime else (s.core.frames + 1) * frameTicks

/-- Frame time since an output of a period had the phase `ph` (R218). -/
def State.sincePhase (s : State) (period ph : Nat) : Nat := (s.frameTime + (period - ph % period)) % period

/-- The first TIMING_CONFIGURE after reset starts FSYNC_OUT and PPS_OUT as a realignment to FSYNC_OFS 0 and to FSYNC_OUT would (R218). -/
def State.startOutputs (s : State) : State :=
  if s.tmg.configured then s
  else ((s.wr F.TMG_ALIGN_FSYNC_OFS 0).wr F.TMG_ALIGN_PPS_REF 15).mapTmg fun x =>
    { x with configured := true, outAt := s.markTime, ppsPh := s.markTime }

/-- The settings that a TIMING_CONFIGURE brings (R208, R212, R217, R218, R220); a nominated port's receiver is demanded at once
(R166, R167). -/
def State.applyTiming (s : State) (d : List W32) : State :=
  let n := bits (word d 2) 8 4
  let s := s.startOutputs
  match bits (word d 2) 0 4 with
  | 0 => (s.setRefEntry n (d.getD 3 0)).wakeDemands
  | 1 => ((s.setReg 0x40050000 (d.getD 3 0)).setReg 0x40050004 (d.getD 4 0)).setReg 0x40050008 (d.getD 5 0)
  | 2 => s.external n (word d 3)
  | _ => s.noteClk (s.setReg 0x40050020 (d.getD 3 0))

/-- TIMING_CONFIGURE (R20, R208, R212, R217, R220). -/
def execTimingConfigure (x : Exe) (s : State) : Res :=
  .next (s.run .timingConfigure x (fun _ d => timingForm d) fun s d =>
    if s.timingCase d then .ok ((s.applyTiming d).mirrorSettings d []) [] else .refuse .badParam)

/-! ### TIMING_REALIGN (R218, R219) -/

/-- TIMING_REALIGN's parameter checks (R258, step 2). -/
def realignOk (d : List W32) : Bool := onlyBits (word d 2) 0xF3 && onlyBits (word d 3) 0x1FFFF

/-- TIMING_REALIGN's BAD_PARAM cases (R219; R258, step 4). -/
def State.realignCase (s : State) (d : List W32) : Bool :=
  let r := bits (word d 2) 4 4
  decide (word d 3 ≤ 124999) && (r == 15 || s.isPps r)

/-- The completion of a realignment (TIMING_REALIGN). -/
def State.endRealign (s : State) (st : Status) (ok : Bool) : State :=
  match s.tmg.realign with
  | none => s
  | some r =>
    let w := fun (x : Option W16) => BitVec.ofNat 32 ((x.map BitVec.toNat).getD 0)
    ((s.mapTmg fun x => { x with realign := none }).raise F.TMG_INT_REALIGNED).complete .timingRealign st [w r.fsFn, w r.ppsFn] ok

/-- Every named output has its new phase. -/
def Realign.finished (r : Realign) : Bool := (!r.fs || r.fsFn.isSome) && (!r.pps || r.ppsFn.isSome)

/-- The frame time of the next FSYNC_OUT pulse, or of one that begins now (R218). -/
def State.nextFsync (s : State) : Nat :=
  let a := s.sincePhase frameTicks (s.rd F.TMG_ALIGN_FSYNC_OFS / 10)
  s.frameTime + if a = 0 then 0 else frameTicks - a

/-- The period of PPS_OUT in frame time: 8,000 frames. -/
def ppsPeriod : Nat := 8000 * frameTicks

/-- TIMING_REALIGN (R218 to R220). -/
def execTimingRealign (x : Exe) (s : State) : Res :=
  .next (s.run .timingRealign x (fun _ d => realignOk d) fun s d =>
    if !s.realignCase d then .refuse .badParam
    else if s.tmg.realign.isSome then .refuse .busy
    else
      let fs := bitOf (word d 2) 0
      let ref := bits (word d 2) 4 4
      let r : Realign := { fs := fs, pps := bitOf (word d 2) 1, ref := ref, ofs := word d 3, start := s.now,
                           phase := if fs || ref != 15 then none else some (s.now, s.nextFsync), fsFn := none, ppsFn := none }
      .accepted (s.mapTmg fun y => { y with realign := some r }) [])

/-- A pulse at the new phase may start now (R219): half a nominal period has passed since the last old pulse. An old pulse that began
when the new phase was known already (from tick `known`) and less than half a period ago was left out, so that the last one lies a period
before it. -/
def State.pulseFree (s : State) (period old known : Nat) : Bool :=
  let a := s.sincePhase period old
  let a := if a = 0 then period else a
  decide (period ≤ 2 * a) || decide (known + a ≤ s.now) || decide (s.frameTime < s.tmg.outAt + a)

/-- A realignment whose outputs all have their new phase completes. -/
def State.checkRealign (s : State) (ok : Bool) : State :=
  match s.tmg.realign with
  | some r => if r.finished then s.endRealign .ok ok else s
  | none => s

/-- FSYNC_OUT takes its new phase now; a PPS_OUT that is to follow FSYNC_OUT follows this pulse (R218, R219; log entry 80). -/
def State.fsyncTakes (s : State) (r : Realign) : State :=
  let s := s.wr F.TMG_ALIGN_FSYNC_OFS r.ofs
  s.mapTmg fun x => { x with realign := some { r with
    fsFn := some s.fn, phase := if r.pps && r.ref == 15 then some (s.now, s.frameTime) else r.phase } }

/-- PPS_OUT takes its new phase now (R218, R219). -/
def State.ppsTakes (s : State) (r : Realign) : State :=
  let s := s.wr F.TMG_ALIGN_PPS_REF r.ref
  s.mapTmg fun x => { x with ppsPh := s.frameTime, realign := some { r with ppsFn := some s.fn } }

/-- PPS_OUT may take its new phase now: at a pulse of FSYNC_OUT's phase a whole number of seconds from the one it follows, or at an edge of
the named reference (R218, R219). -/
def State.ppsDue (s : State) (r : Realign) : Bool :=
  r.pps && r.ppsFn.isNone && s.core.started &&
    (if r.ref = 15 then r.phase.any fun x => decide (x.2 ≤ s.frameTime) && decide (s.sincePhase ppsPeriod x.2 = 0)
     else !(s.ref r.ref).loss)

/-- REALIGN_PULSE (R218, R219): a pulse at the new phase is at hand; `pps`: of PPS_OUT, where a named reference shows its edge at this tick,
else of FSYNC_OUT. The output takes its new phase if half a nominal period has passed. -/
def execRealignPulse (t : Nat) (pps rplOk : Bool) (s : State) : Res :=
  let s := s.tick t
  match s.tmg.realign with
  | none => .next s
  | some r =>
    if pps then
      if s.ppsDue r then
        let known := ((r.phase.map Prod.fst).getD s.now)
        if s.pulseFree ppsPeriod s.tmg.ppsPh known then .next ((s.ppsTakes r).checkRealign rplOk)
        else .next (s.mapTmg fun x => { x with realign := some { r with phase := some (r.phase.getD (s.now, s.frameTime)) } })
      else .next s
    else if r.fs = true ∧ r.fsFn = none ∧ s.core.started = true ∧ s.sincePhase frameTicks (r.ofs / 10) = 0 ∧
        s.pulseFree frameTicks (s.rd F.TMG_ALIGN_FSYNC_OFS / 10) r.start = true then
      .next ((s.fsyncTakes r).checkRealign rplOk)
    else if r.fs = false ∧ r.pps = false then .next (s.endRealign .ok rplOk)
    else .next s

/-- An output of a period, phase and pulse width is high now (R218, R219): `next`: the new phase it is to take, with the tick since which
it is known. -/
def State.pulseHigh (s : State) (period ph width : Nat) (next : Option (Nat × Nat)) : Bool :=
  let a := s.sincePhase period ph
  let out := next.any fun x =>
    let d := (x.2 + (period - ph % period)) % period
    decide (x.1 + a ≤ s.now) && decide (0 < d) && decide (2 * d < period)
  s.tmg.configured && s.core.started && decide (s.tmg.outAt + a ≤ s.frameTime) && decide (a < width) && !out

/-- FSYNC_OUT runs high for 1 us in each frame (R218). -/
def State.fsyncHigh (s : State) : Bool :=
  s.pulseHigh frameTicks (s.rd F.TMG_ALIGN_FSYNC_OFS / 10) 100
    (s.tmg.realign.bind fun r => if r.fs && r.fsFn.isNone then some (r.start, r.ofs / 10) else none)

/-- Width of PPS_OUT in ticks (TMG_OUT_CFG.PPS_W). -/
def State.ppsWidth (s : State) : Nat :=
  match s.rd F.TMG_OUT_CFG_PPS_W with
  | 0 => 100
  | 1 => 10000
  | 2 => 10000000
  | _ => 50000000

/-- PPS_OUT runs high once a second for the width of PPS_W (R218). -/
def State.ppsHigh (s : State) : Bool :=
  s.pulseHigh ppsPeriod s.tmg.ppsPh s.ppsWidth
    (s.tmg.realign.bind fun r => if r.pps && r.ppsFn.isNone then r.phase else none)

/-- The outputs of a standby follow the holder's alignment as the mate link carries it (R215): TMG_ALIGN, and the frame time from the
holder's last PPS pulse to the frame mark of the frame that carries it. -/
def State.followAlign (s : State) (align : BitVec 21) (pps : Nat) : State :=
  if s.tmg.configured then
    let s := (s.wr F.TMG_ALIGN_FSYNC_OFS (bits align.toNat 0 17)).wr F.TMG_ALIGN_PPS_REF (bits align.toNat 17 4)
    s.mapTmg fun x => { x with ppsPh := s.core.frames * frameTicks + (ppsPeriod - pps % ppsPeriod) }
  else s

/-- REALIGN_TIMEOUT (R219, TIMING_REALIGN): the named 1 PPS reference shows no edge within 2.2 s; PPS_OUT keeps its phase. -/
def execRealignTimeout (t : Nat) (rplOk : Bool) (s : State) : Res :=
  let s := s.tick t
  match s.tmg.realign with
  | none => .next s
  | some r =>
    if r.pps = true ∧ r.ppsFn = none ∧ r.ref ≠ 15 ∧ r.start + 220000000 ≤ s.now then
      .next (s.endRealign .timeout rplOk)
    else .next s

/-- TIMING_STATUS (R209). -/
def execTimingStatus (x : Exe) (s : State) : Res :=
  .next (s.run .timingStatus x (fun _ _ => true) fun s _ =>
    let mask := fun (f : Nat → Bool) => ((List.range 16).map fun n => b2n (f n) * 2 ^ n).sum
    .ok s [s.reg 0x40050010, s.reg 0x40050018,
      BitVec.ofNat 32 (mask s.available + 65536 * mask s.suspect),
      BitVec.ofNat 32 (mask (fun n => s.flag (F.TMG_REF_STAT_FAIL n)) + 65536 * mask fun n => (s.ref n).wtr.isSome)])

/-- The QL that a port transmits (R203): DNU or DUS on the ports of the selected reference and of the target. -/
def State.portQl (s : State) (p : Nat) : Nat :=
  let names := fun (n : Nat) => s.refType n == 1 && s.refSrc n == p
  if (s.dpll = 2 ∨ s.dpll = 4) ∧ (s.mode = 0 ∨ s.acting = true) ∧
      ((s.flag F.TMG_STATE_SEL_VALID && names (s.rd F.TMG_STATE_SEL_REF)) ||
       (s.flag F.TMG_STATE_TGT_VALID && names (s.rd F.TMG_STATE_TARGET))) = true then 15
  else s.rd F.TMG_STATE_TX_QL

end Sys2Proof.Machine
end

