-- ==== Sys2Proof/Machine/Ports.lean ====
section
/-! DEFINITION. Machine/Ports.lean: port commands, PLLs, disabling, sleep depths and latency budgets (spec/06 R146 to R168,
R400; spec/12 R312, R313). -/
namespace Sys2Proof.Machine

/-! ### Path structure (R153, R154) -/

/-- A descriptor keeps R153. -/
def descrOk (d : Nat) : Bool :=
  decide (dKind d ≤ 6) && decide (d < 2048) &&
    (match dKind d with
      | 2 => true
      | 4 => true
      | 6 => true
      | 3 => decide (bits d 4 3 ≤ 4) && decide (bits d 7 4 = 0)
      | _ => decide (dGrp d = 0))

/-- The head that covers cell `i`, walking back over at most `fuel` members. -/
def headOf (ds : List Nat) (member : Nat) : Nat → Nat → Nat
  | 0, i => i
  | fuel + 1, i => if dKind (ds.getD i 0) = member ∧ 0 < i then headOf ds member fuel (i - 1) else i

/-- The concatenations and AU-4s of a structure are whole (R154). -/
def structOk (ds : List Nat) : Bool :=
  ds.all descrOk && (List.range ds.length).all fun i =>
    let d := ds.getD i 0
    match dKind d with
    | 3 => decide (i % dN d = 0) && decide (i + dN d ≤ ds.length) &&
        (List.range (dN d - 1)).all fun j => decide (dKind (ds.getD (i + 1 + j) 0) = 5)
    | 5 =>
      let h := headOf ds 5 i i
      decide (dKind (ds.getD h 0) = 3) && decide (i < h + dN (ds.getD h 0))
    | 4 => decide (i % 3 = 0) && decide (dKind (ds.getD (i + 1) 0) = 6) && decide (dKind (ds.getD (i + 2) 0) = 6)
    | 6 => decide (i % 3 ≠ 0) && decide (dKind (ds.getD (i - i % 3) 0) = 4)
    | _ => true

/-- The half-words that bytes spell. -/
def halfWords (bs : List W8) : List Nat := (chunks 2 (bs.length / 2) bs).map ofLe

/-- The 384 structure words of a list of descriptors. -/
def structWords (ds : List Nat) : List W32 :=
  (List.range 384).map fun w => BitVec.ofNat 32 (ds.getD (2 * w) 0 + ds.getD (2 * w + 1) 0 * 65536)

/-- The structure words of a port. -/
def State.structOf (s : State) (p : Nat) : List W32 := (List.range 384).map fun w => s.reg (prtBase p + 0x400 + 4 * w)

/-- Write the structure words. -/
def State.writeStruct (s : State) (p : Nat) (ws : List W32) : State :=
  (List.range 384).foldl (fun s w => s.setReg (prtBase p + 0x400 + 4 * w) (ws.getD w 0)) s

/-- The codes of a path and its VTs. -/
def State.codesOf (s : State) (p : Nat) (x : Nat × Nat) : List Nat :=
  pathCode x.1 0 0 false :: ((s.vtCells p x.1 x.2).flatMap fun c => (s.vtsOf p c).map fun y => pathCode c y.1 y.2.1 true)

/-- The paths of a port whose descriptors are the same in another state. -/
def State.samePath (s s' : State) (p : Nat) (x : Nat × Nat) : Bool :=
  (s'.pathHeads p).contains x && (List.range x.2).all fun i => decide (s.descr p (x.1 + i) = s'.descr p (x.1 + i))

/-- A path starts afresh: acquisition, PATH_PTR.OFFSET 0, and nothing that waits for an input frame (R158, PATH_PTR). -/
def State.freshPath (p : Nat) (s : State) (code : Nat) : State :=
  ((State.acquirePath false p s code).wr (F.PATH_PTR_OFFSET p code) 0).mapLine fun l =>
    { l with paths := Store.put (fun _ => PathRx.reset) l.paths (pathAt p code) PathRx.reset }

/-- A new structure comes into force (R158): paths whose descriptors change are acquired afresh, others are not
disturbed. -/
def State.changeStruct (s : State) (p : Nat) (ws : List W32) : State :=
  let s' := s.writeStruct p ws
  let gone := ((s.pathHeads p).filter fun x => !s.samePath s' p x).flatMap (s.codesOf p)
  let new := ((s'.pathHeads p).filter fun x => !State.samePath s' s p x).flatMap (s'.codesOf p)
  (gone ++ new).foldl (State.freshPath p) s'

/-! ### PORT_CONFIGURE (R147, R150, R154, R157 to R159) -/

/-- Port of a port command. -/
def portOf (d : List W32) : Nat := bits (word d 2) 0 6
/-- MODE of a PORT_CONFIGURE. -/
def cfgMode (d : List W32) : Nat := bits (word d 2) 8 4
/-- STRUCT of a PORT_CONFIGURE. -/
def cfgStruct (d : List W32) : Bool := bitOf (word d 3) 8

/-- The parameter faults of PORT_CONFIGURE that need no buffer (R149, R150, R154, R158). -/
def cfgOk (src : Src) (s : State) (d : List W32) : Bool :=
  let p := portOf d
  let m := cfgMode d
  onlyBits (word d 2) 0xFF3F3F && onlyBits (word d 3) 0x1FF && decide (p < 48) && modeOk m &&
    decide (bits (word d 2) 12 2 ≠ 3) &&
    (isBonded m || (decide (bits (word d 2) 17 3 = 0) && decide (bits (word d 2) 21 3 = 0))) &&
    (!isBonded m || decide (p % 4 = 0)) && (!cfgStruct d || !isZiuth m) &&
    (!cfgStruct d || (decide ((word64 d 4).toNat % 8 = 0) && s.addrOk src (word64 d 4) (2 * modeCells m))) &&
    (!optOf d || decide (m = s.prtMode p))

/-- A port command is in flight for the port or for the bonded port that holds the lane (R157). -/
def State.cmdBusy (s : State) (p : Nat) : Bool := s.flag (F.PRT_STATUS_CMD_BUSY (s.lowest p))

/-- The other lanes of a port's quad. -/
def quadOf (p : Nat) : List Nat := (List.range 4).map (p / 4 * 4 + ·)

/-- Another lane of the quad already runs the class PLL (R160). -/
def State.pllRuns (s : State) (p : Nat) : Bool :=
  (quadOf p).any fun q => decide (q ≠ p) && s.enabled q && !s.member q &&
    decide (modeClass (s.prtMode q) = modeClass (s.prtMode p)) && s.flag (F.PRT_STATUS_PLL_LOCK q)

/-- PLL_LOCK of the disabled ports of a quad: their class PLL runs only while an enabled lane of the quad needs it (R165). -/
def State.showPlls (s : State) (p : Nat) : State :=
  (quadOf p).foldl (fun s q => if s.enabled q || s.member q then s else s.setFlag (F.PRT_STATUS_PLL_LOCK q) (s.pllRuns q)) s

/-- BUSY cases of PORT_CONFIGURE (R150, R157 to R159). -/
def State.cfgBusy (s : State) (d : List W32) : Bool :=
  let p := portOf d
  let m := cfgMode d
  s.cmdBusy p || s.member p ||
    (isBonded m && !isBonded (s.prtMode p) && !(quadOf p).all fun q => decide (s.prtMode q = 0) && !s.enabled q) ||
    (!optOf d && s.enabled p) || (decide (m ≠ s.prtMode p) && grouped s.groups p)

/-- The PLL classes that a quad would use (R147). -/
def State.quadClasses (s : State) (p m : Nat) : List Nat :=
  (((quadOf p).map fun q => if q = p then modeClass m else if s.member q then 0 else modeClass (s.prtMode q)).filter
    fun c => decide (c ≠ 0)).dedup

/-- The descriptors that a PORT_CONFIGURE brings into force; `none`: the structure in force is kept (R154). -/
def cfgDescrs (s : State) (d : List W32) (buf : List W8) : Option (List Nat) :=
  let m := cfgMode d
  if cfgStruct d then some (halfWords buf)
  else if m = s.prtMode (portOf d) then none
  else if isZiuth m || m == 0 then some []
  else some (List.replicate (modeCells m) 1)

/-- PORT_CONFIGURE is applied (R150, R154, R158). -/
def State.configure (s : State) (d : List W32) (buf : List W8) : State :=
  let p := portOf d
  let m := cfgMode d
  let loop := bits (word d 2) 12 2
  let txi := bits (word d 2) 16 4
  let rxi := bits (word d 2) 20 4
  let ds := (cfgDescrs s d buf).map structWords
  let s := s.wr (F.PRT_IDLE_IDLE p) (bits (word d 3) 0 8)
  if s.enabled p then
    s.mapDyn p fun y => { y with live := some { loop := loop, txInv := txi, rxInv := rxi,
                                                struct := ds.orElse fun _ => y.live.bind LiveCfg.struct } }
  else
    let was := isBonded (s.prtMode p)
    let s := ((s.wr (F.PRT_CFG_MODE p) m).wr (F.PRT_CFG_LOOP p) loop).wr (F.PRT_CFG_TX_INV p) txi
    let s := (s.wr (F.PRT_CFG_RX_INV p) rxi).wr (F.PRT_STATUS_CLASS p) (modeClass m)
    let s := if isBonded m || was then
        [p + 1, p + 2, p + 3].foldl (fun s q => s.setFlag (F.PRT_CFG_BOND_MEMBER q) (isBonded m)) s else s
    let s := s.showPlls p
    match ds with
    | none => s
    | some ws => s.changeStruct p ws

/-- PORT_CONFIGURE (R147, R149, R150, R154, R157 to R159). -/
def execPortConfigure (x : Exe) (s : State) : Res :=
  .next (s.run .portConfigure x (cfgOk x.src) fun s d =>
    let n := if cfgStruct d then 2 * modeCells (cfgMode d) else 0
    .reading (if n = 0 then .ok (s, []) else s.readBuf (word64 d 4) n x) fun s buf =>
      if cfgStruct d && !structOk (halfWords buf) then .refuse .badParam
      else if s.cfgBusy d then .refuse .busy
      else if 2 < (s.quadClasses (portOf d) (cfgMode d)).length then .refuse .noResource
      else .ok (s.configure d buf) [])

/-- The output frame under way keeps LOOP and structure as they are (R158, R168). -/
def State.keepSent (s : State) (p : Nat) : State :=
  let c : LiveCfg := { loop := s.rd (F.PRT_CFG_LOOP p), txInv := 0, rxInv := 0, struct := some (s.structOf p) }
  s.mapLine fun l => { l with txOh := l.txOh.map fun x => if x.1 = p then (x.1, x.2.map fun o => { o with was := some c }) else x }

/-- A LIVE change takes effect at a frame mark (R158, R168). -/
def State.applyLive (s : State) (p : Nat) : State :=
  match (s.dyn p).live with
  | none => s
  | some c =>
    let s := (s.keepSent p).mapDyn p fun y => { y with live := none }
    let s := ((s.wr (F.PRT_CFG_LOOP p) c.loop).wr (F.PRT_CFG_TX_INV p) c.txInv).wr (F.PRT_CFG_RX_INV p) c.rxInv
    match c.struct with
    | none => s
    | some ws => s.changeStruct p ws

/-! ### Demands and depths (R165 to R167, R312, R313) -/

/-- The deepest depth whose wake time a budget tolerates, in us (R312). -/
def budgetDepth (us : Nat) : Nat := if 20000 ≤ us then 3 else if 300 ≤ us then 2 else if 5 ≤ us then 1 else 0

/-- The depth that the governor's rule gives (R312). -/
def State.depthRule (s : State) (p : Nat) : Nat :=
  min (min (budgetDepth (s.rd (F.PRT_BUDGET_TX_WAKE p))) (budgetDepth (s.rd (F.PRT_BUDGET_RX_WAKE p)))) (s.depthCap p)

/-- The port reaches a depth (R167, R400): DEPTH_CHG is set; leaving D0 idles the transmitter, reaching D0 starts it at the
next mark; leaving D2 or D3 starts the receiver afresh. -/
def State.toDepth (s : State) (p d : Nat) : State :=
  let old := s.depth p
  let s := ((s.wr (F.PRT_STATUS_DEPTH p) d).raise (F.PRT_INT_DEPTH_CHG p)).mapDyn p fun y =>
    { y with wake := none, tx := if y.tx = 3 then 3 else if d = 0 then (if old = 0 then y.tx else 1) else 0 }
  if 2 ≤ old ∧ d ≤ 1 then s.startRx p true
  else if 2 ≤ d then s.wr (F.PRT_STATUS_CDR_LOCK p) 0
  else s

/-- Since when the rule has given at least depth `k` (R313). -/
def sinceDeep (now d k : Nat) (old : Option Nat) : Option Nat := if k ≤ d then some (old.getD now) else none

/-- The governor's evaluation of one port (R312, R313). -/
def State.evalDepth (s : State) (p : Nat) : State :=
  if s.enabled p && !s.member p then
    let d := s.depthRule p
    let s := s.mapDyn p fun y =>
      { y with deep1 := sinceDeep s.now d 1 y.deep1, deep2 := sinceDeep s.now d 2 y.deep2,
               deep3 := sinceDeep s.now d 3 y.deep3 }
    s.wakeTo p d
  else s

/-- DEPTH_EVALUATION (R312, R313): every 1 ms. -/
def execDepthEvaluation (t : Nat) (s : State) : Res :=
  let s := s.tick t
  if s.line.depthAt + msTicks ≤ s.now then
    .next ((List.range 48).foldl State.evalDepth (s.mapLine fun l => { l with depthAt := s.now }))
  else .next s

/-- The rule has given depth `k` or deeper for 100 ms (R313). -/
def deepFor (now : Nat) (since : Option Nat) : Bool :=
  match since with
  | none => false
  | some t0 => decide (t0 + 100 * msTicks ≤ now)

/-- PORT_DEEPEN (R313): a deeper depth that the rule has given for 100 ms, and gives still (R166), takes effect, not during a wake
(R167). -/
def execPortDeepen (t : Nat) (p : Port) (s : State) : Res :=
  let s := s.tick t
  let p := p.val
  let y := s.dyn p
  let d := min (s.depthRule p)
    (if deepFor s.now y.deep3 then 3 else if deepFor s.now y.deep2 then 2 else if deepFor s.now y.deep1 then 1 else 0)
  if s.enabled p = true ∧ s.depth p < d ∧ y.wake = none ∧ y.cmd = .idle then .next (s.toDepth p d).refreshRefs
  else .next s

/-- PORT_WAKE_DONE (R167): a wake completes. -/
def execPortWakeDone (t : Nat) (p : Port) (s : State) : Res :=
  let s := s.tick t
  match (s.dyn p.val).wake with
  | none => .next s
  | some d => .next (s.toDepth p.val d)

/-- The ports named by LATENCY_BUDGET. -/
def budgetPorts (d : List W32) : List Nat :=
  (List.range 48).filter fun p => if p < 32 then bitOf (word d 2) p else bitOf (word d 3) (p - 32)

/-- LATENCY_BUDGET (R312). -/
def execLatencyBudget (x : Exe) (s : State) : Res :=
  .next (s.run .latencyBudget x
    (fun s d => onlyBits (word d 3) 0xFFFF && !(budgetPorts d).isEmpty && (budgetPorts d).all fun p => !s.member p)
    fun s d =>
      .ok ((budgetPorts d).foldl (fun s p => s.setReg (prtBase p + 0xC) (BitVec.ofNat 32 (word d 4))) s)
        [BitVec.ofNat 32 (budgetPorts d).length])

/-! ### PORT_ENABLE and the PLLs (R150, R157, R160) -/

/-- The output history of a port's region is set to 0xFF (R108, R160). -/
def State.clearHistory (s : State) (p : Nat) : State :=
  s.mapEng fun e => { e with hist := e.hist.filter fun h => decide (slotPort h.1 ≠ p) }

/-- A port is enabled (R160, R190): PLL, history, receiver; depth D0. -/
def State.enablePort (s : State) (p : Nat) : State :=
  let runs := s.pllRuns p
  let s := ((s.raise (F.PRT_CFG_ENABLED p)).raise (F.PRT_STATUS_CMD_BUSY p)).setFlag (F.PRT_STATUS_PLL_LOCK p) runs
  let s := (((s.wr (F.PRT_STATUS_DEPTH p) 0).clearHistory p).showPlls p).mapDyn p fun y =>
    { y with cmd := .enabling runs, unframed := true, tx := 0, wake := none, deep1 := none, deep2 := none, deep3 := none }
  s.startRx p false

/-- The boot's alternative of step 10 enables one quad a frame (R343): the first port that waits, with the others of its quad. -/
def State.enableQuad (s : State) : State :=
  match s.boot.slow with
  | [] => s
  | p :: ps =>
    let mine := fun (q : Nat) => q / 4 == p / 4
    let s := (p :: ps.filter mine).foldl (fun s q => if s.prtMode q ≠ 0 ∧ s.enabled q = false ∧ s.member q = false then s.enablePort q else s) s
    { s with boot := { s.boot with slow := ps.filter fun q => !mine q } }

/-- PORT_ENABLE (R150, R157, R160). -/
def execPortEnable (x : Exe) (s : State) : Res :=
  .next (s.run .portEnable x
    (fun s d => onlyBits (word d 2) 0x3F && decide (portOf d < 48) && (s.member (portOf d) || decide (s.prtMode (portOf d) ≠ 0)))
    fun s d =>
      let p := portOf d
      if s.member p || s.cmdBusy p then .refuse .busy
      else if s.enabled p then .ok s []
      else .accepted (s.enablePort p) [])

/-- The ports of a port's quad that use its class PLL. -/
def State.pllUsers (s : State) (p : Nat) : List Nat :=
  (quadOf p).filter fun q => !s.member q && s.enabled q && decide (modeClass (s.prtMode q) = modeClass (s.prtMode p))

/-- PLL_LOCK (R160): the class PLL of a port's quad locks; the transmitters start at the next frame mark. -/
def execPllLock (t : Nat) (p : Port) (s : State) : Res :=
  let s := s.tick t
  .next (((s.pllUsers p.val).foldl (fun s q =>
    (s.raise (F.PRT_STATUS_PLL_LOCK q)).mapDyn q fun y => match y.cmd with
      | .enabling _ => { y with cmd := .enabling true }
      | _ => y) s).showPlls p.val)

/-- PLL_UNLOCK (R160, PRT_INT): the class PLL of a port's quad loses lock. -/
def execPllUnlock (t : Nat) (p : Port) (s : State) : Res :=
  let s := s.tick t
  .next (((s.pllUsers p.val).foldl (fun s q =>
    if s.flag (F.PRT_STATUS_PLL_LOCK q) then
      ((s.setFlag (F.PRT_STATUS_PLL_LOCK q) false).raise (F.PRT_INT_PLL_UNLOCK q)).mapDyn q fun y => match y.cmd with
        | .enabling _ => { y with cmd := .enabling false }
        | _ => y
    else s) s).showPlls p.val)

/-- A port at a frame mark (R158, R160, R167): LIVE changes, transmitters that start with this output frame. -/
def State.markPort (ok : Bool) (s : State) (p : Nat) : State :=
  let s := s.applyLive p
  match (s.dyn p).cmd with
  | .enabling true =>
    let s := (s.raise (F.PRT_INT_ENABLE_DONE p)).setFlag (F.PRT_STATUS_CMD_BUSY p) false
    let s := s.mapDyn p fun y => { y with cmd := .idle, tx := 2 }
    s.completePort .portEnable p .ok [BitVec.ofNat 32 s.fn.toNat] ok
  | _ => if (s.dyn p).tx = 1 then s.mapDyn p fun y => { y with tx := 2 } else s

/-! ### PORT_DISABLE (R161, R162, R164) -/

/-- The reply words of a refused PORT_DISABLE (R161). -/
def State.disableWords (s : State) (p : Nat) : List W32 :=
  [BitVec.ofNat 32 (s.rd (F.PRT_SRC_REFS_COUNT p)), BitVec.ofNat 32 (s.monSelectors p),
   match groupMate s.groups p with
    | some q => BitVec.ofNat 32 (q + 2 ^ 31)
    | none => 0]

/-- PORT_DISABLE (R157, R161, R162). -/
def execPortDisable (x : Exe) (s : State) : Res :=
  .next (s.run .portDisable x (fun _ d => onlyBits (word d 2) 0x3F && decide (portOf d < 48)) fun s d =>
    let p := portOf d
    if s.member p || s.cmdBusy p then .refuse .busy
    else if !optOf d && (decide (s.rd (F.PRT_SRC_REFS_COUNT p) ≠ 0) || decide (s.monSelectors p ≠ 0) || grouped s.groups p) then
      .refuseWith .busy (s.disableWords p)
    else .accepted (((s.raise (F.PRT_STATUS_CMD_BUSY p)).raise (F.PRT_STATUS_DISABLING p)).mapDyn p fun y =>
        { y with cmd := .disabling s.core.frames none none, wake := none }) [])

/-- A disabling port after the walk of a frame mark (R162): the burst of T_{c+2}; then T_e. -/
def State.markDisable (s : State) (p : Nat) : State :=
  match (s.dyn p).cmd with
  | .disabling c b none =>
    let f := s.core.frames
    let stop := s.mapDyn p fun y => { y with cmd := .disabling c b (some (s.fn, s.now)) }
    if f = c + 2 then s.mapDyn p fun y => { y with cmd := .disabling c (some s.sel.burst.isSome) none }
    else if c + 3 ≤ f then
      if b ≠ some true ∨ s.sel.burst.isNone = true ∨ c + 82 ≤ f then stop else s
    else s
  | _ => s

/-- The lanes of a port go off (R164, R165). -/
def State.portOff (s : State) (p : Nat) : State :=
  let s := ((s.setFlag (F.PRT_CFG_ENABLED p) false).setFlag (F.PRT_STATUS_DISABLING p) false).wr (F.PRT_STATUS_DEPTH p) 3
  let s := ((s.wr (F.PRT_STATUS_CDR_LOCK p) 0).showPlls p).acquire p false
  let s := (s.lanes p).foldl (fun s l => s.setFramer l Framer.reset) (s.setFramer (64 + p) Framer.reset)
  let s := s.refreshFrame p
  let s := (List.range 16).foldl (fun s i => s.setDef p i (i == 1)) s
  (s.mapDyn p fun y => { y with tx := 0, wake := none, rdi := false, rdiEnd := none, live := none }).refreshRefs

/-- PORT_DISABLE_DONE (R162, R164): at T_e + 6.5 us the transmitters go to electrical idle and the disable completes. -/
def execPortDisableDone (t : Nat) (p : Port) (rplOk : Bool) (s : State) : Res :=
  let s := s.tick t
  let p := p.val
  match (s.dyn p).cmd with
  | .disabling _ _ (some (e, te)) =>
    if te + 650 ≤ s.now then
      let s := ((s.portOff p).setFlag (F.PRT_STATUS_CMD_BUSY p) false).raise (F.PRT_INT_DISABLE_DONE p)
      let s := s.mapDyn p fun y => { y with cmd := .idle }
      .next (s.completePort .portDisable p .ok [BitVec.ofNat 32 (e - 1).toNat, BitVec.ofNat 32 e.toNat] rplOk)
    else .next s
  | _ => .next s

/-- PORT_STATUS (R163). -/
def execPortStatus (x : Exe) (s : State) : Res :=
  .next (s.run .portStatus x (fun _ d => onlyBits (word d 2) 0x3F && decide (portOf d < 48)) fun s d =>
    let p := portOf d
    .ok s [s.reg (prtBase p), s.reg (prtBase p + 4), s.reg (prtBase p + 0x10), BitVec.ofNat 32 (s.monSelectors p)])

/-! ### Receive events (R169, R170, R190, R198) -/

/-- CANDIDATE_MATCH (R170): a pattern found by the framer of a lane, or of the client of OTN port `lane`; `ctr`: the frame
counter found with it. -/
def execCandidateMatch (t : Nat) (lane : Port) (client : Bool) (pos : Nat) (word : BitVec 64) (ctr : W16) (s : State) : Res :=
  let s := s.tick t
  let p := s.lowest lane.val
  let key := if client then 64 + lane.val else lane.val
  let f := s.framer key
  let mode := s.framerMode p client
  let barred := f.barred.any fun b => decide (b.1 = pos) && decide (s.now < b.2)
  if s.scanning lane.val client = true ∧ f.inFrame = false ∧ patternOk mode word = true ∧ barred = false ∧
      (f.cands.any fun c => decide (c.pos = pos)) = false then
    if 8 ≤ f.cands.length then .next (s.inc (F.PRT_FRM_CNT_CAND_DROP p) 1)
    else
      let c : Cand := { pos := pos, due := s.now + frameLen mode, ctr := ctr.toNat }
      .next ((s.setFramer key { f with cands := f.cands ++ [c] }).afterFramer p client false)
  else .next s

/-- CANDIDATE_VERIFY (R169, R170, R172): one line frame later a held candidate passes or fails. -/
def execCandidateVerify (t : Nat) (lane : Port) (client : Bool) (pos : Nat) (word : BitVec 64) (ctr : W16) (s : State) : Res :=
  let s := s.tick t
  let p := s.lowest lane.val
  let key := if client then 64 + lane.val else lane.val
  let f := s.framer key
  match f.cands.find? fun c => decide (c.pos = pos) && decide (c.due ≤ s.now) with
  | none => .next s
  | some c =>
    if s.rxOn p = false ∨ f.inFrame = true then .next s
    else if s.scanning lane.val client && verifyOk (s.framerMode p client) word c.ctr ctr.toNat then
      let f := { f with inFrame := true, cands := [], errRun := 0, pos := pos, start := s.now, ctr := ctr.toNat }
      .next ((s.setFramer key f).afterFramer p client false)
    else
      .next ((s.setFramer key { f with cands := f.cands.filter fun c => decide (c.pos ≠ pos) }).afterFramer p client false)

/-- CDR_LOCK_CHANGE (R170, R190): the CDR of a lane locks or unlocks; without lock there is LOS. -/
def execCdrLockChange (t : Nat) (lane : Port) (locked : Bool) (s : State) : Res :=
  let s := s.tick t
  let p := s.lowest lane.val
  let j := lane.val - p
  if s.rxOn p = true ∧ s.cdr p j ≠ locked then
    let s := s.setBitAt (F.PRT_STATUS_CDR_LOCK p) j locked
    if locked then .next s else .next ((s.raise (F.PRT_INT_CDR_UNLOCK p)).setLos p true)
  else .next s

/-- LOS_TIMER (R190): signal detect lost or 20 us of zeros (not on Ziuth) sets LOS, 125 us of signal clears it while every
lane's CDR is locked. -/
def execLosTimer (t : Nat) (p : Port) (ev : LosEvent) (s : State) : Res :=
  let s := s.tick t
  let p := p.val
  if s.rxOn p then
    match ev with
    | .detectLost => .next (s.setLos p true)
    | .zeros => if isZiuth (s.prtMode p) then .next s else .next (s.setLos p true)
    | .signal =>
      if (s.lanes p).all fun l => s.cdr p (l - p) then .next (s.setLos p false) else .next s
  else .next s

/-- LOF_TIMER (R190): 3 ms out of frame without a break sets LOF, 3 ms in frame clears it; the same for the client of an
OTN port. -/
def execLofTimer (t : Nat) (p : Port) (client : Bool) (s : State) : Res :=
  let s := s.tick t
  let p := p.val
  if s.rxOn p then
    if client then
      if isOtn (s.prtMode p) = true ∧ (s.dyn p).clientSince + lofTicks ≤ s.now then
        .next ((s.setDef p 15 (!(s.framer (64 + p)).inFrame)).updateRdi p)
      else .next s
    else if (s.dyn p).since + lofTicks ≤ s.now then .next ((s.setDef p 2 (!s.framed p)).updateRdi p)
    else .next s
  else .next s

end Sys2Proof.Machine
end

