-- ==== Sys2Proof/Machine/Mdc.lean ====
section
/-! DEFINITION. Machine/Mdc.lean: management data channels (spec/07 R191 to R196). -/
namespace Sys2Proof.Machine

/-! ### Routes -/

/-- Change the MDC state. -/
def State.mapMdc (s : State) (f : MdcSt → MdcSt) : State := { s with mdc := f s.mdc }

/-- A channel's counters. -/
def State.chan (s : State) (c : Nat) : ChanCnt := Store.get (fun _ => ChanCnt.reset) s.mdc.cnt c
/-- Change a channel's counters. -/
def State.mapChan (s : State) (c : Nat) (f : ChanCnt → ChanCnt) : State :=
  s.mapMdc fun m => { m with cnt := Store.put (fun _ => ChanCnt.reset) m.cnt c (f (s.chan c)) }

/-- PORT of a route. -/
def Route.port (r : Route) : Nat := bits r.word.toNat 8 6
/-- KIND of a route. -/
def Route.kind (r : Route) : Nat := bits r.word.toNat 16 3
/-- DEST of a route. -/
def Route.dest (r : Route) : Nat := bits r.word.toNat 20 2
/-- SLOT of a route. -/
def Route.slot (r : Route) : Nat := bits r.word.toNat 24 6

/-- Bytes per frame of a kind (R191). -/
def kindBytes (k : Nat) : Nat := if k = 0 then 3 else if k = 1 then 9 else 32

/-- A kind's bytes among the channel bytes of a frame: D1 to D12, or ZMDC0 to ZMDC3. -/
def kindOf (k : Nat) (bs : List W8) : List W8 :=
  if k = 0 then bs.take 3 else if k = 1 then (bs.drop 3).take 9 else (bs.drop (32 * (k - 2))).take 32

/-- The routes as last accepted: those in force with those that wait for a mark. -/
def State.routesNew (s : State) : List (Nat × Route) :=
  s.mdc.next.foldl (fun l x => match x.2 with
    | some r => Store.insert l x.1 r
    | none => Store.erase l x.1) s.mdc.routes

/-- The bytes of a serial frame at a clock setting (R194). -/
def serialBudget (div : Nat) : Nat := if div = 0 then 1551 else if div = 1 then 770 else 379
/-- The bits of a serial frame (R194). -/
def serialBits (div : Nat) : Nat := if div = 0 then 12500 else if div = 1 then 6250 else 3125
/-- DIV of a serial port. -/
def State.serialDiv (s : State) (j : Nat) : Nat := if j = 0 then s.rd F.MDC_CTRL_DIV0 else s.rd F.MDC_CTRL_DIV1
/-- EN of a serial port. -/
def State.serialEn (s : State) (j : Nat) : Bool := if j = 0 then s.flag F.MDC_CTRL_EN0 else s.flag F.MDC_CTRL_EN1

/-- The routes of a serial port, in slot order, among `rs`. -/
def slotRoutes (rs : List (Nat × Route)) (j : Nat) : List (Nat × Route) :=
  (List.range 64).filterMap fun k => rs.find? fun x => decide (x.2.dest = 2 + j) && decide (x.2.slot = k)

/-- Bytes per frame that the slots of a serial port take. -/
def slotBytes (rs : List (Nat × Route)) (j : Nat) : Nat := ((slotRoutes rs j).map fun x => kindBytes x.2.kind).sum

/-- KIND suits the family of a port (R191). -/
def State.kindSuits (s : State) (p k : Nat) : Bool :=
  let m := s.prtMode p
  decide (p < 48) && !s.member p && (if isZiuth m then decide (2 ≤ k) && decide (k ≤ 5) else decide (m ≠ 0) && decide (k < 2))

/-- The route that an MDC_ROUTE asks for. -/
def routeOf (d : List W32) : Route := ⟨d.getD 2 0, bits (word d 3) 0 5, word64 d 4, word64 d 6⟩

/-- MDC_ROUTE's parameter checks (R192, R256): KIND and its uniqueness whatever DEST is, SLOT of a serial port, the rings of the host. -/
def routeOk (src : Src) (s : State) (d : List W32) : Bool :=
  let r := routeOf d
  let c := bits (word d 2) 0 8
  let others := s.routesNew.filter fun x => decide (x.1 ≠ c)
  onlyBits (word d 2) 0x3F373FFF && onlyBits (word d 3) 0x1F &&
    s.kindSuits r.port r.kind && !(others.any fun x => decide (x.2.port = r.port) && decide (x.2.kind = r.kind)) &&
      (decide (r.dest < 2) || !(others.any fun x => decide (x.2.dest = r.dest) && decide (x.2.slot = r.slot))) &&
      (decide (r.dest ≠ 1) || (decide (12 ≤ r.log2) && decide (r.log2 ≤ 20) && s.addrOk src r.rx (2 ^ r.log2) &&
        s.addrOk src r.tx (2 ^ r.log2) && decide (r.rx.toNat % 2 ^ r.log2 = 0) && decide (r.tx.toNat % 2 ^ r.log2 = 0)))

/-- The host's read counter of the RX ring in force; of a channel with a new route it is the one before the route set it to 0. -/
def State.rdCount (s : State) (c : Nat) : W32 := (Store.get (fun _ => none) s.mdc.rdOld c).getD (s.reg (0x40201000 + 4 * c))

/-- A route is accepted (R192, R194): it takes effect at the next mark, and both host counters return to 0; `none`: the serial port has
no room. -/
def State.addRoute (s : State) (d : List W32) : Option State :=
  let r := routeOf d
  let c := bits (word d 2) 0 8
  let new := if r.dest = 0 then none else some r
  let s' := s.mapMdc fun m => { m with next := Store.put (fun _ => some ⟨0, 0, 0, 0⟩) m.next c new }
  let j := r.dest - 2
  if 2 ≤ r.dest ∧ serialBudget (s.serialDiv j) < slotBytes s'.routesNew j then none
  else if r.dest = 0 then some s'
  else some (((s'.wr (F.MDC_RD_COUNT c) 0).wr (F.MDC_WR_COUNT c) 0).mapMdc fun m =>
    { m with rdOld := Store.put (fun _ => none) m.rdOld c (some (s.rdCount c)) })

/-- MDC_ROUTE (R192, R194). -/
def execMdcRoute (x : Exe) (s : State) : Res :=
  .next (s.run .mdcRoute x (routeOk x.src) fun s d =>
    match s.addRoute d with
    | none => .refuse .noResource
    | some s => .ok s [])

/-- MDC_STATUS (R192). -/
def execMdcStatus (x : Exe) (s : State) : Res :=
  .next (s.run .mdcStatus x (fun _ d => onlyBits (word d 2) 0xFF) fun s d =>
    let c := bits (word d 2) 0 8
    let w := match s.routesNew.find? fun r => decide (r.1 = c) with
      | some r => r.2.word
      | none => 0
    .ok s [w, (s.chan c).extracted, (s.chan c).dropped, (s.chan c).short])

/-- MDC_RD_WRITE (R193): the host returns RX ring space. -/
def execMdcRdWrite (t : Nat) (m : Master) (c : Fin 256) (v : W32) (s : State) : Res :=
  if (s.tick t).barred m.val then .next (s.tick t).postedUr else
  .next ((s.tick t).setReg (0x40201000 + 4 * c.val) v)

/-- MDC_WR_WRITE (R193): the host offers TX ring bytes. -/
def execMdcWrWrite (t : Nat) (m : Master) (c : Fin 256) (v : W32) (s : State) : Res :=
  if (s.tick t).barred m.val then .next (s.tick t).postedUr else
  .next ((s.tick t).setReg (0x40201400 + 4 * c.val) v)

/-! ### At a frame mark -/

/-- Write bytes at an address of either form of R256; a scratchpad bank that M0 no longer owns takes nothing. -/
def State.devPut (s : State) (a : W64) (bs : List W8) : State :=
  match s.devWrite 5 a bs true with
  | .ok u => u
  | .error u => u

/-- Write bytes into a host ring at a free-running counter. -/
def State.ringPut (s : State) (base : W64) (log2 : Nat) (ctr : W32) (bs : List W8) : State :=
  let i := ctr.toNat % 2 ^ log2
  let k := 2 ^ log2 - i
  let s := s.devPut (base + BitVec.ofNat 64 i) (bs.take k)
  if bs.length ≤ k then s else s.devPut base (bs.drop k)

/-- Bytes of a TX ring from a free-running counter (R193, R257): those of a scratchpad ring, or those that were read from host memory; a
read that fails gives none from there on. -/
def State.ringTake (s : State) (base : W64) (log2 : Nat) (ctr : W32) (n : Nat) (host : List W8) : State × List W8 :=
  if secondForm base then
    let i := ctr.toNat % 2 ^ log2
    let k := min n (2 ^ log2 - i)
    match s.devRead 5 (base + BitVec.ofNat 64 i) k none with
    | .error s => (s, [])
    | .ok (s, bs) =>
      if n ≤ k then (s, bs)
      else match s.devRead 5 base (n - k) none with
        | .error s => (s, bs)
        | .ok (s, cs) => (s, bs ++ cs)
  else (s, host.take n)

/-- Update a channel's entry of the pointer page (R193). -/
def State.pointerPage (s : State) (c : Nat) : State :=
  let x := s.chan c
  let base := s.rd F.MDC_PTR_BASE_LO_ADDR + 0x100000000 * s.rd F.MDC_PTR_BASE_HI_ADDR
  s.devPut (BitVec.ofNat 64 (base / 4096 * 4096 + 16 * c))
    (leBytes x.rxWr.toNat 4 ++ leBytes x.txRd.toNat 4 ++ leBytes x.dropped.toNat 4 ++ leBytes x.fn.toNat 2 ++ [0, 0])

/-- Extraction of one host channel from input frame number `fn` (R193, R196). -/
def State.extract (fn : W16) (s : State) (x : Nat × Route) : State :=
  let c := x.1
  let r := x.2
  match Store.get (fun _ => []) s.line.oh r.port with
  | [] => s
  | oh =>
    let bs := kindOf r.kind oh
    let n := BitVec.ofNat 32 bs.length
    if r.dest = 1 then
      let used := ((s.chan c).rxWr - s.rdCount c).toNat
      if used + bs.length ≤ 2 ^ r.log2 then
        ((s.ringPut r.rx r.log2 (s.chan c).rxWr bs).mapChan c fun k =>
          { k with rxWr := k.rxWr + n, extracted := k.extracted + n, fn := fn }).pointerPage c
      else
        ((s.mapChan c fun k => { k with dropped := k.dropped + n, extracted := k.extracted + n, fn := fn }).raise
          F.MDC_INT_RX_OVF).pointerPage c
    else s.mapChan c fun k => { k with extracted := k.extracted + n }

/-- Bits of a byte, most significant first. -/
def byteBits (b : W8) : List Bool := (List.range 8).map fun j => bitOf b.toNat (7 - j)

/-- The DO frame of a serial port (R194): the bytes of the input frame just ended. -/
def State.doFrame (s : State) (fn : W16) (j : Nat) : List Bool :=
  if s.serialEn j then
    let rs := slotRoutes s.mdc.routes j
    let data := rs.flatMap fun x =>
      let bs := kindOf x.2.kind (Store.get (fun _ => []) s.line.oh x.2.port)
      if bs = [] then List.replicate (kindBytes x.2.kind) 0x7E else bs
    let head := ([0xE4, 0xB2, BitVec.ofNat 8 fn.toNat] : List W8).flatMap byteBits ++
      (List.range 64).map fun k => rs.any fun x => decide (x.2.slot = k)
    let all := head ++ data.flatMap byteBits
    all ++ List.replicate (serialBits (s.serialDiv j) - all.length) true
  else []

/-- A channel is inserted into what a port sends (R195): not the D bytes while DCC_SRC is 01. -/
def State.inserts (s : State) (r : Route) : Bool :=
  s.enabled r.port && (decide (2 ≤ r.kind) || decide (s.rd (F.PRT_OH_CFG_DCC_SRC r.port) ≠ 1))

/-- A channel was short of bytes in a frame. -/
def State.shortFrame (s : State) (c : Nat) : State :=
  (s.mapChan c fun k => { k with short := k.short + 1 }).raise F.MDC_INT_TX_SHORT

/-- The key of the bytes that a port inserts on a channel kind. -/
def insKey (p k : Nat) : Nat := 8 * p + k

/-- Insertion of one host channel (R193): `rd`: the bytes read from its TX ring in host memory. -/
def State.insertHost (rd : List (Nat × List W8)) (s : State) (x : Nat × Route) : State :=
  let c := x.1
  let r := x.2
  if r.dest = 1 ∧ s.inserts r = true then
    let n := kindBytes r.kind
    let avail := (s.reg (0x40201400 + 4 * c) - (s.chan c).txRd).toNat
    let got := s.ringTake r.tx r.log2 (s.chan c).txRd (min n avail) (Store.get (fun _ => []) rd c)
    let bs := got.2
    let s := got.1.mapMdc fun m => { m with ins := Store.put (fun _ => []) m.ins (insKey r.port r.kind) bs }
    let s := if bs = [] then s
      else (s.mapChan c fun k => { k with txRd := k.txRd + BitVec.ofNat 32 bs.length, fn := s.fn - 1 }).pointerPage c
    if bs.length < n then s.shortFrame c else s
  else s

/-- The MDC block at a frame mark, FN having advanced (R192 to R195): the bytes of the input frame just ended go to the
routes in force until now, then new routes take effect and host bytes for the next output frame are read. -/
def State.mdcMark (s : State) (rd : List (Nat × List W8)) : State :=
  let fn := s.fn - 1
  let s := s.mdc.routes.foldl (State.extract fn) s
  let d0 := s.doFrame fn 0
  let d1 := s.doFrame fn 1
  let new := s.routesNew
  let s := s.mdc.next.foldl (fun s x => if x.2.isSome then s.mapChan x.1 fun k => { k with rxWr := 0, txRd := 0 } else s) s
  let s := s.mapMdc fun m =>
    { m with routes := new, next := [], insOld := m.insNow, insNow := m.ins, ins := [], dOut := [(0, d0), (1, d1)],
             layNow := m.routes, layOld := m.layNow, rdOld := [] }
  new.foldl (State.insertHost rd) s

/-! ### Serial input and transmitted bytes -/

/-- The byte that bits spell, most significant first. -/
def bitsByte (bs : List Bool) : W8 := bs.foldl (fun x b => (x <<< 1) ||| BitVec.ofNat 8 (b2n b)) 0

/-- Bytes of a DI frame from bit 88 on. -/
def diBytes (bs : List Bool) (n : Nat) : List W8 :=
  (List.range n).filterMap fun k =>
    let x := (bs.drop (88 + 8 * k)).take 8
    if x.length = 8 then some (bitsByte x) else none

/-- The slots of a DI frame go to their channels. -/
def State.putSlots (s : State) : List (Nat × Route) → List W8 → State
  | [], _ => s
  | x :: xs, bs =>
    let n := kindBytes x.2.kind
    let mine := bs.take n
    let s := s.mapMdc fun m => { m with insNow := Store.put (fun _ => []) m.insNow (insKey x.2.port x.2.kind) mine }
    let s := if mine.length < n then s.shortFrame x.1 else s
    s.putSlots xs (bs.drop n)

/-- MDC_DI_FRAME (R194): the DI frame of a serial port, begun at the last mark but one with the layout of the DO frame of that mark, is in;
its bytes go into the output frame under way. -/
def execMdcDiFrame (t : Nat) (port1 : Bool) (frame : List Bool) (s : State) : Res :=
  let s := s.tick t
  let j := b2n port1
  let rs := slotRoutes s.mdc.layOld j
  if s.serialEn j then
    if frame.take 16 = ([0xE4, 0xB2] : List W8).flatMap byteBits then .next (s.putSlots rs (diBytes frame (slotBytes s.mdc.layOld j)))
    else .next (rs.foldl (fun s x => s.shortFrame x.1) (s.raise F.MDC_INT_DI_SYNC))
  else .next s

/-- The bytes that a port transmits on a channel kind in the output frame under way, or in the one before (R193 to R195): 0x7E
for any byte that is missing. -/
def State.chanBytes (s : State) (old : Bool) (p k : Nat) : List W8 :=
  let n := kindBytes k
  let bs := Store.get (fun _ => []) (if old then s.mdc.insOld else s.mdc.insNow) (insKey p k)
  bs ++ List.replicate (n - bs.length) 0x7E

end Sys2Proof.Machine
end

