-- ==== Sys2Proof/Machine/Crypto.lean ====
section
/-! DEFINITION. Machine/Crypto.lean: SHA-384 and the ECDSA P-384 verification that authenticate a firmware image (R349). The spec
names the two standards and no more: their constants are those of FIPS 180-4 and FIPS 186 (log entry 14, PRESUMED). -/
namespace Sys2Proof.Machine

/-! ### SHA-384 -/

/-- The round constants. -/
def shaK : List (BitVec 64) := [
  0x428A2F98D728AE22, 0x7137449123EF65CD, 0xB5C0FBCFEC4D3B2F, 0xE9B5DBA58189DBBC,
  0x3956C25BF348B538, 0x59F111F1B605D019, 0x923F82A4AF194F9B, 0xAB1C5ED5DA6D8118,
  0xD807AA98A3030242, 0x12835B0145706FBE, 0x243185BE4EE4B28C, 0x550C7DC3D5FFB4E2,
  0x72BE5D74F27B896F, 0x80DEB1FE3B1696B1, 0x9BDC06A725C71235, 0xC19BF174CF692694,
  0xE49B69C19EF14AD2, 0xEFBE4786384F25E3, 0x0FC19DC68B8CD5B5, 0x240CA1CC77AC9C65,
  0x2DE92C6F592B0275, 0x4A7484AA6EA6E483, 0x5CB0A9DCBD41FBD4, 0x76F988DA831153B5,
  0x983E5152EE66DFAB, 0xA831C66D2DB43210, 0xB00327C898FB213F, 0xBF597FC7BEEF0EE4,
  0xC6E00BF33DA88FC2, 0xD5A79147930AA725, 0x06CA6351E003826F, 0x142929670A0E6E70,
  0x27B70A8546D22FFC, 0x2E1B21385C26C926, 0x4D2C6DFC5AC42AED, 0x53380D139D95B3DF,
  0x650A73548BAF63DE, 0x766A0ABB3C77B2A8, 0x81C2C92E47EDAEE6, 0x92722C851482353B] ++ [
  0xA2BFE8A14CF10364, 0xA81A664BBC423001, 0xC24B8B70D0F89791, 0xC76C51A30654BE30,
  0xD192E819D6EF5218, 0xD69906245565A910, 0xF40E35855771202A, 0x106AA07032BBD1B8,
  0x19A4C116B8D2D0C8, 0x1E376C085141AB53, 0x2748774CDF8EEB99, 0x34B0BCB5E19B48A8,
  0x391C0CB3C5C95A63, 0x4ED8AA4AE3418ACB, 0x5B9CCA4F7763E373, 0x682E6FF3D6B2B8A3,
  0x748F82EE5DEFB2FC, 0x78A5636F43172F60, 0x84C87814A1F0AB72, 0x8CC702081A6439EC,
  0x90BEFFFA23631E28, 0xA4506CEBDE82BDE9, 0xBEF9A3F7B2C67915, 0xC67178F2E372532B,
  0xCA273ECEEA26619C, 0xD186B8C721C0C207, 0xEADA7DD6CDE0EB1E, 0xF57D4F7FEE6ED178,
  0x06F067AA72176FBA, 0x0A637DC5A2C898A6, 0x113F9804BEF90DAE, 0x1B710B35131C471B,
  0x28DB77F523047D84, 0x32CAAB7B40C72493, 0x3C9EBE0A15C9BEBC, 0x431D67C49C100D4C,
  0x4CC5D4BECB3E42B6, 0x597F299CFC657E2A, 0x5FCB6FAB3AD6FAEC, 0x6C44198C4A475817]

/-- The initial hash value. -/
def shaInit : List (BitVec 64) := [
  0xCBBB9D5DC1059ED8, 0x629A292A367CD507, 0x9159015A3070DD17, 0x152FECD8F70E5939,
  0x67332667FFC00B31, 0x8EB44A8768581511, 0xDB0C2E0D64F98FA7, 0x47B5481DBEFA4FA4]

/-- The number that big-endian bytes spell. -/
def ofBe (bs : List W8) : Nat := bs.foldl (fun n b => n * 256 + b.toNat) 0

/-- The `k` big-endian bytes of `n`. -/
def beBytes (n k : Nat) : List W8 := (List.range k).map fun i => BitVec.ofNat 8 (n / 256 ^ (k - 1 - i))

/-- A message padded to whole blocks of 128 bytes. -/
def shaPad (bs : List W8) : List W8 :=
  bs ++ [0x80] ++ List.replicate ((239 - bs.length % 128) % 128) 0 ++ beBytes (8 * bs.length) 16

/-- The message schedule, newest word first: `n` more words. -/
def shaSched : Nat → List (BitVec 64) → List (BitVec 64)
  | 0, w => w
  | n + 1, w =>
    let a := w.getD 14 0
    let b := w.getD 1 0
    let s0 := a.rotateRight 1 ^^^ a.rotateRight 8 ^^^ (a >>> 7)
    let s1 := b.rotateRight 19 ^^^ b.rotateRight 61 ^^^ (b >>> 6)
    shaSched n ((w.getD 15 0 + s0 + w.getD 6 0 + s1) :: w)

/-- One round. -/
def shaRound (v : List (BitVec 64)) (kw : BitVec 64 × BitVec 64) : List (BitVec 64) :=
  match v with
  | [a, b, c, d, e, f, g, h] =>
    let s1 := e.rotateRight 14 ^^^ e.rotateRight 18 ^^^ e.rotateRight 41
    let t1 := h + s1 + ((e &&& f) ^^^ (~~~e &&& g)) + kw.1 + kw.2
    let s0 := a.rotateRight 28 ^^^ a.rotateRight 34 ^^^ a.rotateRight 39
    let t2 := s0 + ((a &&& b) ^^^ (a &&& c) ^^^ (b &&& c))
    [t1 + t2, a, b, c, d + t1, e, f, g]
  | v => v

/-- One block of 128 bytes. -/
def shaBlock (h : List (BitVec 64)) (block : List W8) : List (BitVec 64) :=
  let w0 := (List.range 16).foldl (fun w i => BitVec.ofNat 64 (ofBe ((block.drop (8 * i)).take 8)) :: w) []
  let v := (shaK.zip (shaSched 64 w0).reverse).foldl shaRound h
  (h.zip v).map fun p => p.1 + p.2

/-- Split off `n` blocks. -/
def shaBlocks : Nat → List W8 → List (List W8)
  | 0, _ => []
  | n + 1, bs => bs.take 128 :: shaBlocks n (bs.drop 128)

/-- SHA-384 of a message: 48 bytes. -/
def sha384 (bs : List W8) : List W8 :=
  let p := shaPad bs
  ((((shaBlocks (p.length / 128) p).foldl shaBlock shaInit).take 6).map fun x => beBytes x.toNat 8).flatten

/-! ### ECDSA over P-384 -/

/-- The prime of the field. -/
def p384P : Nat := 2 ^ 384 - 2 ^ 128 - 2 ^ 96 + 2 ^ 32 - 1
/-- The order of the base point. -/
def p384N : Nat := 0xffffffffffffffffffffffffffffffffffffffffffffffffc7634d81f4372ddf581a0db248b0a77aecec196accc52973
/-- The coefficient b of the curve; a is -3. -/
def p384B : Nat := 0xb3312fa7e23ee7e4988e056be3f82d19181d9c6efe8141120314088f5013875ac656398d8a2ed19d2a85c8edd3ec2aef
/-- The base point. -/
def p384G : Nat × Nat :=
  (0xaa87ca22be8b05378eb1c71ef320ad746e1d3b628ba79b9859f741e082542a385502f25dbf55296c3a545e3872760ab7,
   0x3617de4a96262c6f5d9e98bf9292dc29f8f41dbd289a147ce9da3113b5f0b8c00a60b1ce1d7e819d7a431d7c90ea0e5f)

/-- `b ^ e` modulo `m`; `fuel` bits of the exponent. -/
def powMod (m : Nat) : Nat → Nat → Nat → Nat
  | 0, _, _ => 1 % m
  | fuel + 1, b, e =>
    let h := powMod m fuel (b * b % m) (e / 2)
    if e % 2 = 1 then b * h % m else h

/-- The inverse modulo a prime of at most 384 bits. -/
def invMod (m x : Nat) : Nat := powMod m 384 (x % m) (m - 2)

/-- Subtraction modulo the field's prime. -/
def subP (a b : Nat) : Nat := (a + p384P - b % p384P) % p384P

/-- Product modulo the field's prime. -/
def mulP (a b : Nat) : Nat := a * b % p384P

/-- A point in Jacobian coordinates: (x / z², y / z³); with z = 0 the point at infinity. -/
structure EcPt where
  x : Nat
  y : Nat
  z : Nat
  deriving DecidableEq, Repr

/-- The double of a point (a = -3). -/
def ecDouble (p : EcPt) : EcPt :=
  let d := mulP p.z p.z
  let g := mulP p.y p.y
  let b := mulP p.x g
  let a := mulP 3 (mulP (subP p.x d) (p.x + d))
  let x := subP (mulP a a) (8 * b)
  { x := x, y := subP (mulP a (subP (4 * b) x)) (8 * mulP g g), z := mulP 2 (mulP p.y p.z) }

/-- The sum of two points. -/
def ecAdd (p q : EcPt) : EcPt :=
  if p.z = 0 then q
  else if q.z = 0 then p
  else
    let u := mulP p.x (mulP q.z q.z)
    let h := subP (mulP q.x (mulP p.z p.z)) u
    let v := mulP p.y (mulP q.z (mulP q.z q.z))
    let r := subP (mulP q.y (mulP p.z (mulP p.z p.z))) v
    if h = 0 then if r = 0 then ecDouble p else { x := 1, y := 1, z := 0 }
    else
      let h2 := mulP h h
      let uh := mulP u h2
      let x := subP (subP (mulP r r) (mulP h h2)) (2 * uh)
      { x := x, y := subP (mulP r (subP uh x)) (mulP v (mulP h h2)), z := mulP h (mulP p.z q.z) }

/-- A multiple of a point; `fuel` bits of the factor. -/
def ecMul : Nat → Nat → EcPt → EcPt
  | 0, _, _ => { x := 1, y := 1, z := 0 }
  | fuel + 1, k, p =>
    let h := ecMul fuel (k / 2) (ecDouble p)
    if k % 2 = 1 then ecAdd p h else h

/-- A signature (r, s) over a digest verifies under an uncompressed public key of 97 bytes. -/
def ecdsaOk (key digest sig : List W8) : Bool :=
  let x := ofBe ((key.drop 1).take 48)
  let y := ofBe ((key.drop 49).take 48)
  let r := ofBe (sig.take 48)
  let t := ofBe ((sig.drop 48).take 48)
  let w := invMod p384N t
  let q := ecAdd (ecMul 384 (ofBe digest * w % p384N) ⟨p384G.1, p384G.2, 1⟩) (ecMul 384 (r * w % p384N) ⟨x, y, 1⟩)
  decide (key.getD 0 0 = 4) && decide (x < p384P) && decide (y < p384P) &&
    decide (y * y % p384P = (x * x * x + (p384P - 3) * x + p384B) % p384P) &&
    decide (0 < r) && decide (r < p384N) && decide (0 < t) && decide (t < p384N) &&
    decide (q.z ≠ 0) && decide (mulP q.x (invMod p384P (mulP q.z q.z)) % p384N = r)

end Sys2Proof.Machine
end

