-- ==== Sys2Proof/Machine/SonetRx.lean ====
section
/-! DEFINITION. Machine/SonetRx.lean: receiving SONET/SDH line frames (spec/02 R42 to R49; spec/05 R143; spec/07 R171 to
R173, R180 to R184, R187, R188, R190). A frame is one command: its start at the pins and all its bytes as received. -/
namespace Sys2Proof.Machine

/-! ### Codes -/

/-- The output of a shift register of `w` bits whose feedback is the exclusive OR of its two oldest bits (the scrambler
1 + x^6 + x^7, w = 7), oldest bit first. -/
def lfsr7 : Nat → BitVec 7 → List Bool
  | 0, _ => []
  | n + 1, x => x.getLsbD 6 :: lfsr7 n ((x <<< 1) ||| (if x.getLsbD 6 != x.getLsbD 5 then 1 else 0))

/-- One period of the frame-synchronous scrambler (R180). -/
def scrBits : List Bool := lfsr7 127 0x7F

/-- Byte `k` of the scrambling sequence, counted from the first byte after the first row's overhead. -/
def scrByte (k : Nat) : W8 :=
  BitVec.ofNat 8 (((List.range 8).map fun j => b2n (scrBits.getD ((8 * k + j) % 127) false) * 2 ^ (7 - j)).sum)

/-- Scramble or descramble a line frame of `n` STS-1s (R180): the first row of the section overhead stays. -/
def scramble (n : Nat) (bs : List W8) : List W8 :=
  let seq := (List.range 127).map scrByte
  (List.range bs.length).zip bs |>.map fun x => if x.1 < 3 * n then x.2 else x.2 ^^^ seq.getD ((x.1 - 3 * n) % 127) 0

/-- BIP-8 of bytes. -/
def bip8 (bs : List W8) : W8 := bs.foldl (· ^^^ ·) 0

/-- Violations between a received parity and the computed one. -/
def violations (a b : W8) : Nat := popcount (a ^^^ b).toNat 8

/-! ### The line frame -/

/-- Place of STS-1 number `k` among the `n` bytes of a column (R42): the two-level interleave of the standard. -/
def stsPlace (n k : Nat) : Nat := k % 3 * (n / 3) + k / 3

/-- Member `j`, in the order of appearance, of a concatenation of `m` STS-1s from number `f` (R42). -/
def memberAt (f m j : Nat) : Nat := if m < 3 then f + j else f + j % (m / 3) * 3 + j / (m / 3)

/-- The places of a path's bytes in a column, in order. -/
def pathPlaces (n f m : Nat) : List Nat := (List.range m).map fun j => stsPlace n (memberAt f m j)

/-- Row `r` of a line frame. -/
def rowOf (n : Nat) (bs : List W8) (r : Nat) : List W8 := (bs.drop (r * 90 * n)).take (90 * n)

/-- Byte of a row: column `c` (0 to 89), place `x`. -/
def inRow (n : Nat) (row : List W8) (c x : Nat) : W8 := row.getD (c * n + x) 0

/-- A byte of a line frame. -/
def lineAt (n : Nat) (bs : List W8) (r c x : Nat) : W8 := bs.getD (r * 90 * n + c * n + x) 0

/-- The payload bytes of a path in rows `r0` to `r1 - 1`, in order. -/
def payload (n : Nat) (places : List Nat) (bs : List W8) (r0 r1 : Nat) : List W8 :=
  (List.range (r1 - r0)).flatMap fun i =>
    let row := rowOf n bs (r0 + i)
    (List.range 87).flatMap fun j => places.map fun x => inRow n row (3 + j) x

/-- B2 covers all bytes of an STS-1 but the section overhead (R180). -/
def b2Of (n : Nat) (bs : List W8) (x : Nat) : W8 :=
  bip8 ((List.range 9).flatMap fun r =>
    let row := rowOf n bs r
    (List.range 90).filterMap fun c => if r < 3 ∧ c < 3 then none else some (inRow n row c x))

/-! ### Runs of equal observations -/

/-- Observe a condition of a path or port; it sets after `n` frames in a row and clears after `m` in a row without. -/
def State.debounce (s : State) (key n m : Nat) (b now : Bool) : State × Bool :=
  let s := s.observe key (b2n b)
  (s, if s.ran key 1 n then true else if s.ran key 0 m then false else now)

/-- A port defect that follows a condition (R190). -/
def State.portCond (s : State) (p id i n : Nat) (b : Bool) : State :=
  let x := s.debounce (runKey p portCode id) n n b (s.pdef p i)
  x.1.setDef p i x.2

/-- A path defect that follows a condition (R190). -/
def State.pathCond (s : State) (p code id i n m : Nat) (b : Bool) : State :=
  let x := s.debounce (runKey p code id) n m b (bitOf (s.pathNow p code) i)
  x.1.setPathDef p code i x.2

/-- Count violations of a path, VT or port since the last mark (R118, R120). -/
def State.addViol (s : State) (key n : Nat) : State :=
  if n = 0 then s
  else s.mapLine fun l => { l with viol := Store.put (fun _ => 0) l.viol key (Store.get (fun _ => 0) l.viol key + n) }

/-! ### Traces (R187) -/

/-- One byte into a trace of 16 (the first byte has its MSB set) or 64 bytes (it ends with CR LF); a whole trace comes out. -/
def gather (kind : Nat) (buf : List W8) (b : W8) : List W8 × Option (List W8) :=
  if kind = 2 then
    let x := buf ++ [b]
    if x.drop (x.length - 2) = [0x0D, 0x0A] then ([], if x.length = 64 then some x else none)
    else (if x.length < 64 then x else x.drop 1, none)
  else
    let x := if b.getLsbD 7 then [b] else if buf = [] then [] else buf ++ [b]
    if x.length = 16 then ([], some x) else (x, none)

/-- TIM of a path is that of its trace slots, idle ones apart (R187). -/
def State.refreshTim (s : State) (p code : Nat) : State :=
  if code = portCode then s
  else s.setPathDef p code 4 ([1, 2, 3].any fun kind => (s.ttiSlots p kind code).any fun k => s.flag (F.TTI_SEL_TIM p k))

/-- A whole trace was received by a slot (R187); `cmp`: the bytes that are compared. -/
def State.trace (s : State) (p k code : Nat) (tr cmp : List W8) : State :=
  let x := Store.get (fun _ => TtiRx.reset) s.line.tti (p * 64 + k)
  let n := if x.last = tr then x.n + 1 else 1
  let s := s.mapLine fun l =>
    { l with tti := Store.put (fun _ => TtiRx.reset) l.tti (p * 64 + k) { buf := [], last := tr, n := min n 3 } }
  if 3 ≤ n then
    let s := (List.range 4).foldl (fun s w => s.wr (F.TTI_CAP_TRACE p (4 * k + w)) (ofLe ((tr.drop (4 * w)).take 4))) s
    (s.setFlag (F.TTI_SEL_TIM p k) (decide ((crc32 cmp).toNat ≠ s.rd (F.TTI_EXP_CRC p k)))).refreshTim p code
  else s

/-- A trace byte of a path arrives. -/
def State.traceByte (p code : Nat) (b : W8) (s : State) (kind : Nat) : State :=
  (s.ttiSlots p kind code).foldl (fun s k =>
    let x := Store.get (fun _ => TtiRx.reset) s.line.tti (p * 64 + k)
    match gather kind x.buf b with
    | (_, some tr) => s.trace p k code tr tr
    | (buf, none) => s.mapLine fun l =>
        { l with tti := Store.put (fun _ => TtiRx.reset) l.tti (p * 64 + k) { x with buf := buf } }) s

/-! ### Pointers (R184) -/

/-- What a pointer says (R184). -/
inductive PtrAct where
  | keep | inc | dec | jump | ais | lop
  deriving DecidableEq, Repr

/-- NDF 0110, with one bit errored at most (G.783). -/
def ndfNormal (x : Nat) : Bool := x == 6 || x == 14 || x == 2 || x == 4 || x == 7
/-- NDF 1001, with one bit errored at most (G.783). -/
def ndfEnabled (x : Nat) : Bool := x == 9 || x == 1 || x == 13 || x == 11 || x == 8

/-- The pointer interpreter of a path or VT (R184): `w`: the two pointer bytes, `ok`: concatenation indications or size bits
are as they must be, `max`: the highest offset, `adj`: frames since the last adjustment. -/
def State.pointer (s : State) (p code w : Nat) (ones ok : Bool) (max adj : Nat) : State × PtrAct :=
  let key := runKey p code
  let v := bits w 0 10
  let off := s.rd (F.PATH_PTR_OFFSET p code)
  let norm := s.rd (F.PATH_PTR_PSTATE p code) == 0
  let normal := !ones && ok && ndfNormal (bits w 12 4)
  let enabled := !ones && ok && ndfEnabled (bits w 12 4) && decide (v ≤ max)
  let good := normal && decide (v ≤ max)
  let same := normal && norm && decide (v = off)
  let di := popcount ((BitVec.ofNat 10 v ^^^ BitVec.ofNat 10 off) &&& 0x2AA : BitVec 10).toNat 10
  let dd := popcount ((BitVec.ofNat 10 v ^^^ BitVec.ofNat 10 off) &&& 0x155 : BitVec 10).toNat 10
  let adjust := normal && norm && !same && decide (3 ≤ adj)
  let inc := adjust && decide (3 ≤ di) && decide (dd ≤ 2)
  let dec := adjust && decide (3 ≤ dd) && decide (di ≤ 2)
  let bad := !ones && !same && !enabled && !inc && !dec
  let s := ((s.observe (key 0) (if good then v else 1024)).observe (key 1) (b2n ones)).observe (key 2) (b2n bad)
  let s := s.observe (key 3) (b2n enabled)
  let lop := bitOf (s.pathNow p code) 1
  (s,
    if s.ran (key 1) 1 3 then .ais
    else if s.ran (key 3) 1 8 then .lop
    else if enabled && !lop then .jump
    else if good && !same && s.ran (key 0) v 3 then .jump
    else if s.ran (key 2) 1 8 then .lop
    else if inc then .inc
    else if dec then .dec
    else .keep)

/-- AIS and LOP bits of PATH_DEF.NOW, and PSTATE, together. -/
def State.setPtr (s : State) (p code st : Nat) (ais lop : Bool) : State :=
  ((s.wr (F.PATH_PTR_PSTATE p code) st).setPathDef p code 0 ais).setPathDef p code 1 lop

/-- The registers after a pointer (R184, PATH_PTR, PATH_JUST). -/
def State.applyPtr (s : State) (p code max v : Nat) (a : PtrAct) : State :=
  let off := s.rd (F.PATH_PTR_OFFSET p code)
  match a with
  | .keep => s
  | .jump => (s.wr (F.PATH_PTR_OFFSET p code) v).setPtr p code 0 false false
  | .inc => (s.wr (F.PATH_PTR_OFFSET p code) ((off + 1) % (max + 1))).inc (F.PATH_JUST_POS p code) 1
  | .dec => (s.wr (F.PATH_PTR_OFFSET p code) ((off + max) % (max + 1))).inc (F.PATH_JUST_NEG p code) 1
  | .ais => s.setPtr p code 1 true false
  | .lop => s.setPtr p code 2 false true

/-! ### VTs and TUs (R44 to R46, R182, R184) -/

/-- The receive side of a VT. -/
def State.vt (s : State) (p code : Nat) : VtRx := Store.get (fun _ => VtRx.reset) s.line.vts (pathAt p code)
/-- Set the receive side of a VT. -/
def State.setVt (s : State) (p code : Nat) (x : VtRx) : State :=
  s.mapLine fun l => { l with vts := Store.put (fun _ => VtRx.reset) l.vts (pathAt p code) x }

/-- The BIP-2 of bytes whose exclusive OR is `x`. -/
def bip2 (x : W8) : Nat := 2 * (popcount (x &&& 0xAA).toNat 8 % 2) + popcount (x &&& 0x55).toNat 8 % 2

/-- V5 arrives (R182, R188, R190): its mask replaces V5[7:6]; REI, RDI and label are taken. -/
def State.takeV5 (s : State) (p code : Nat) (b : W8) (acc : Option W8) : State × W8 :=
  let mask := match acc with
    | some x => (BitVec.ofNat 2 (bits b.toNat 6 2) ^^^ BitVec.ofNat 2 (bip2 x) : BitVec 2).toNat
    | none => 0
  let n := popcount mask 2
  let s := ((s.inc (F.PATH_BIP_COUNT p code) n).addViol (pathAt p code) n).inc (F.PATH_REI_COUNT p code) (bits b.toNat 5 1)
  let label := bits b.toNat 1 3
  let s := s.observe (runKey p code 4) label
  let five := s.ran (runKey p code 4) label 5
  let s := s.observe (runKey p code 5) (b2n (label == 0))
  let s := if five && label == 0 then s.setPathDef p code 2 true
    else if s.ran (runKey p code 5) 0 5 then s.setPathDef p code 2 false else s
  let plm := label == 5 || label == 6
  let s := s.observe (runKey p code 6) (b2n plm)
  let s := if five && plm then s.setPathDef p code 3 true
    else if s.ran (runKey p code 6) 0 5 then s.setPathDef p code 3 false else s
  (s.pathCond p code 7 5 5 5 (bitOf b.toNat 0), BitVec.ofNat 8 (b.toNat % 64 + mask * 64))

/-- A VT path-overhead byte arrives: V5, J2, N2 or K4. -/
def State.takeVtPoh (s : State) (p code k : Nat) (b : W8) (acc : Option W8) : State × W8 :=
  if k = 0 then s.takeV5 p code b acc
  else (if k = 1 then s.traceByte p code b 3 else s, b)

/-- The payload bytes of a VT in one frame go to their locked places (R44 to R46); `w`: payload bytes per frame. -/
def vtPayload (p code w : Nat) : State → VtRx → List (Nat × W8) → List W8 → State × VtRx × List (Nat × W8)
  | s, x, put, [] => (s, x, put)
  | s, x, put, b :: bs =>
    match x.idx with
    | none => (s, x, put)
    | some i =>
      let next := some ((i + 1) % (4 * w))
      if i % w = 0 then
        let y := s.takeVtPoh p code (i / w) b x.acc
        let x := { x with idx := next, poh := x.poh.set (i / w) y.2,
                          acc := if i = 0 then some b else x.acc.map (· ^^^ b) }
        vtPayload p code w y.1 x put bs
      else
        vtPayload p code w s { x with idx := next, acc := x.acc.map (· ^^^ b) } (put ++ [(1 + i % w, b)]) bs

/-- One frame of a VT (R184): byte 0 is V1 to V4 by the phase; the others are payload, less a stuff byte, more a byte in V3.
The result: the locked bytes by number, byte 0 as 0x00, and the path-overhead bytes; none while the VT writes nothing. -/
def State.vtFrame (s : State) (p code phase : Nat) (vt2 : Bool) (bs : List W8) :
    State × Option (List (Nat × W8) × List W8) :=
  let w := if vt2 then 35 else 26
  let max := 4 * w - 1
  let x := s.vt p code
  let b0 := bs.getD 0 0xFF
  let (s, x) : State × VtRx :=
    if phase = 0 then (s, { x with v1 := b0 })
    else if phase = 1 then
      let word := 256 * x.v1.toNat + b0.toNat
      let adj := x.adj + 1
      let off := s.rd (F.PATH_PTR_OFFSET p code)
      let y := s.pointer p code word (word == 0xFFFF) (bits word 10 2 == (if vt2 then 2 else 3)) max adj
      let s := y.1.applyPtr p code max (bits word 0 10) y.2
      let ok := s.rd (F.PATH_PTR_PSTATE p code) == 0
      let start := if y.2 = .jump then s.rd (F.PATH_PTR_OFFSET p code) else off
      (s, { x with adj := if y.2 = .inc ∨ y.2 = .dec then 0 else min adj 3
                   just := if y.2 = .inc then 1 else if y.2 = .dec then 2 else 0
                   acc := if ok && y.2 != .jump then x.acc else none
                   idx := if ok then some ((4 * w - start) % (4 * w)) else none })
    else (s, x)
  let data := if phase = 2 then (if x.just = 1 then bs.drop 2 else if x.just = 2 then bs else bs.drop 1) else bs.drop 1
  let x := if phase = 2 then { x with just := 0 } else x
  let y := vtPayload p code w s x [(0, 0x00)] data
  let s := y.1.setVt p code y.2.1
  if x.idx.isNone then (s, none) else (s, some (y.2.2, y.2.1.poh))

/-! ### A whole SPE (R182, R183, R188, R190) -/

/-- The place in an SPE of byte `i` of a VT of cell `t` of the path (R44). -/
def vtIndex (m t : Nat) (vt2 : Bool) (g v i : Nat) : Nat :=
  vtRow vt2 i * 87 * m + (vtCol vt2 (decide (m = 3)) g v i - 3) * m + t

/-- One VT of an SPE that has just come in: its locked bytes, and its path-overhead place and bytes. -/
def State.relockVt (p f m phase : Nat) (lom : Bool) (spe : List (Option W8))
    (z : State × List (Nat × Option W8) × List (Nat × List W8)) (c : Nat × Nat × Nat × Bool) :
    State × List (Nat × Option W8) × List (Nat × List W8) :=
  let s := z.1
  let cell := c.1
  let g := c.2.1
  let v := c.2.2.1
  let vt2 := c.2.2.2
  let code := pathCode cell g v true
  let n := if vt2 then 36 else 27
  let at_ := fun (i : Nat) => vtIndex m (cell - f) vt2 g v i
  let blank := (List.range n).map fun i => (at_ i, (none : Option W8))
  if lom then
    let s := s.setPtr p code 2 false true
    (s.setVt p code { s.vt p code with idx := none }, z.2.1 ++ blank, z.2.2)
  else
    let r := s.vtFrame p code phase vt2 ((List.range n).map fun i => (spe.getD (at_ i) none).getD 0xFF)
    match r.2 with
    | none => (r.1, z.2.1 ++ blank, z.2.2)
    | some y =>
      let got := y.1.map fun e => (at_ e.1, some e.2)
      let miss := blank.filter fun e => !got.any fun h => decide (h.1 = e.1)
      (r.1, z.2.1 ++ miss ++ got, z.2.2 ++ [(at_ 1, y.2)])

/-- The receive side of a path. -/
def State.path (s : State) (p code : Nat) : PathRx := Store.get (fun _ => PathRx.reset) s.line.paths (pathAt p code)
/-- Set the receive side of a path. -/
def State.setPath (s : State) (p code : Nat) (x : PathRx) : State :=
  s.mapLine fun l => { l with paths := Store.put (fun _ => PathRx.reset) l.paths (pathAt p code) x }

/-- H4 of an SPE (R183, R190): LOM-P, and the phase of the coming SPE, which H4 names (G.707). -/
def State.takeH4 (s : State) (p code : Nat) (b : W8) : State :=
  let x := s.path p code
  let h := bits b.toNat 0 2
  let seq := x.h4 == 4 || (x.h4 + 1) % 4 == h
  let s := s.pathCond p code 8 6 8 2 (!seq)
  let two := s.ran (runKey p code 8) 0 2
  s.setPath p code { x with h4 := h, mf := if two ∨ x.h4 = 4 then h else (x.mf + 1) % 4 }

/-- The row of the B3 slot in the path-overhead column (R182). -/
def b3Row : Nat := 2
/-- The row of C2: the row that B3 leaves free beside it (DEDUCED, log entry 10). -/
def c2Row : Nat := 1

/-- C2 and G1 of an SPE (R188, R190); `vts`: the path is VT-structured. -/
def State.takeLabels (s : State) (p code : Nat) (vts : Bool) (c2 g1 : W8) : State :=
  let s := s.pathCond p code 4 2 5 5 (c2 == 0x00)
  let s := s.observe (runKey p code 5) c2.toNat
  let s := if s.ran (runKey p code 5) c2.toNat 5 then s.setPathDef p code 3 (vts && c2 != 0x02 && c2 != 0x00) else s
  let s := s.pathCond p code 6 5 5 5 (bitOf g1.toNat 3)
  let n := bits g1.toNat 4 4
  s.inc (F.PATH_REI_COUNT p code) (if n ≤ 8 then n else 0)

/-- A whole SPE of a path from cell `f` of `m` cells has come in: overhead, parity, and the form in which it is written
(R46, R182). -/
def State.takeSpe (s : State) (p f m : Nat) (spe : Spe) : State :=
  let code := pathCode f 0 0 false
  let raw := fun (r : Nat) => (spe.bytes.getD (r * 87 * m) none).getD 0xFF
  let vts := s.vtCells p f m
  let x := s.path p code
  let mask := match x.par with
    | some a => raw b3Row ^^^ a
    | none => 0
  let n := popcount mask.toNat 8
  let whole := spe.bytes.length == 783 * m && spe.bytes.all Option.isSome
  let phase := x.mf
  let s := s.setPath p code { x with par := if whole then some (bip8 (spe.bytes.map fun b => b.getD 0)) else none }
  let s := (s.inc (F.PATH_BIP_COUNT p code) n).addViol (pathAt p code) n
  let s := s.takeLabels p code (!vts.isEmpty) (raw c2Row) (raw 3)
  let s := [1, 2].foldl (State.traceByte p code (raw 0)) s
  let s := if vts.isEmpty then s else s.takeH4 p code (raw 5)
  let lom := bitOf (s.pathNow p code) 6
  let list := vts.flatMap fun c => (s.vtsOf p c).map fun y => (c, y.1, y.2.1, y.2.2)
  let z := list.foldl (State.relockVt p f m phase lom spe.bytes) (s, [], [])
  let b3 := b3Row * 87 * m
  let open_ := fun (i : Nat) => !spe.shut.any fun h => decide (h.1 ≤ i) && decide (i < h.1 + h.2)
  let bytes := (List.range (783 * m)).map fun i =>
    let b := if i = b3 then (spe.bytes.getD i none).map fun _ => mask
      else match z.2.1.reverse.find? fun e => decide (e.1 = i) with
        | some e => e.2
        | none => spe.bytes.getD i none
    if open_ i then b else none
  let poh := z.2.2.filter fun e => open_ e.1
  z.1.setPath p code { z.1.path p code with
    done := (z.1.path p code).done ++ [{ t0 := spe.t0, bytes := bytes, shut := [], poh := poh }] }

/-! ### From pointer to SPE (R49, R184) -/

/-- Bytes of an SPE from place `i`. -/
def Spe.put (x : Spe) (i : Nat) (bs : List W8) (isOpen : Bool) : Spe :=
  let head := x.bytes.take i
  let gap := List.replicate (i - x.bytes.length) none
  { x with bytes := head ++ gap ++ bs.map some, shut := if isOpen || bs.isEmpty then x.shut else x.shut ++ [(i, bs.length)] }

/-- The SPE under way ends: with `force` also when bytes are missing. -/
def State.closeSpe (s : State) (p f m : Nat) (force : Bool) : State :=
  let code := pathCode f 0 0 false
  let x := s.path p code
  match x.cur with
  | none => s
  | some spe =>
    if force || decide (783 * m ≤ spe.bytes.length) then (s.setPath p code { x with cur := none }).takeSpe p f m spe else s

/-- A stretch of a path's payload, the first byte being byte `i0` of the SPE; `t0`: the reference time of an SPE that starts at
byte `k` of the stretch. -/
def State.feed (s : State) (p f m i0 : Nat) (bs : List W8) (t0 : Nat → Nat) : State :=
  let code := pathCode f 0 0 false
  let k := if i0 = 0 then 0 else 783 * m - i0
  let isOpen := s.writes p
  let x := s.path p code
  let s := if k = 0 then s else s.setPath p code { x with cur := x.cur.map fun c => c.put i0 (bs.take k) isOpen }
  let s := s.closeSpe p f m false
  if bs.length ≤ k then s
  else
    let s := s.closeSpe p f m true
    let c : Spe := { t0 := t0 k, bytes := [], shut := [], poh := [] }
    s.setPath p code { s.path p code with cur := some (c.put 0 (bs.drop k) isOpen) }

/-- The reference time, in 1/810 tick, of an SPE whose J1 is at row `r`, payload column `j` (0 is COL 3), place `x` (R49). -/
def j1Time (t n r j x : Nat) : Nat := 810 * t + 12500 * (90 * r + j) + 12500 * x / n

/-- The tick at which a line frame starts on the lane that carries its byte `x` (R49, R151). -/
def laneStart (starts : List Nat) (x : Nat) : Nat := starts.getD (x % starts.length) 0

/-- One path in one line frame (R173, R184): rows 0 to 2 under the offset before, the pointer, rows 3 to 8 under the offset
after. -/
def State.pathFrame (starts : List Nat) (n p : Nat) (bs : List W8) (s : State) (hd : Nat × Nat) : State :=
  let f := hd.1
  let m := hd.2
  let code := pathCode f 0 0 false
  let places := pathPlaces n f m
  let x0 := places.headD 0
  let t := laneStart starts x0
  let off := s.rd (F.PATH_PTR_OFFSET p code)
  let was := s.rd (F.PATH_PTR_PSTATE p code) == 0
  let s := if was then
      s.feed p f m ((522 + 783 - off) % 783 * m) (payload n places bs 0 3) fun k => j1Time t n (k / m / 87) (k / m % 87) x0
    else s
  let row := rowOf n bs 3
  let ptr := fun (x : Nat) => 256 * (inRow n row 0 x).toNat + (inRow n row 1 x).toNat
  let w := ptr x0
  let members := places.drop 1
  let conc := members.all fun x => ndfEnabled (bits (ptr x) 12 4) && decide (bits (ptr x) 0 10 = 1023)
  let ones := w == 0xFFFF && members.all fun x => ptr x == 0xFFFF
  let x := s.path p code
  let adj := min (x.adj + 1) 3
  let y := s.pointer p code w ones conc 782 adj
  let s := y.1.applyPtr p code 782 (bits w 0 10) y.2
  let s := s.setPath p code { s.path p code with adj := if y.2 = .inc ∨ y.2 = .dec then 0 else adj }
  if s.rd (F.PATH_PTR_PSTATE p code) = 0 then
    let o := s.rd (F.PATH_PTR_OFFSET p code)
    let rest := payload n places bs 3 9
    if y.2 = .dec then
      s.feed p f m ((783 + 782 - o) % 783 * m) (places.map (inRow n row 2) ++ rest) fun k =>
        if k < m then 810 * t + 12500 * (90 * 3 - 1) + 12500 * x0 / n
        else j1Time t n (3 + (k / m - 1) / 87) ((k / m - 1) % 87) x0
    else if y.2 = .inc then
      s.feed p f m ((783 + 1 - o) % 783 * m) (rest.drop m) fun k => j1Time t n (3 + (k / m + 1) / 87) ((k / m + 1) % 87) x0
    else s.feed p f m ((783 - o) % 783 * m) rest fun k => j1Time t n (3 + k / m / 87) (k / m % 87) x0
  else
    let vts := (s.vtCells p f m).flatMap fun c => (s.vtsOf p c).map fun v => pathCode c v.1 v.2.1 true
    vts.foldl (fun s c => s.setVt p c { s.vt p c with idx := none }) (s.closeSpe p f m true)

/-! ### Section and line overhead (R143, R180, R190) -/

/-- The line errors that M0 and M1 report (R180), coded for the rate; a value out of range is no error. -/
def reiOf (n : Nat) (m0 m1 : W8) : Nat :=
  if n = 3 then (if bits m1.toNat 0 7 ≤ 24 then bits m1.toNat 0 7 else 0)
  else if n = 12 then (if bits m1.toNat 0 7 ≤ 96 then bits m1.toNat 0 7 else 0)
  else if n = 48 then m1.toNat
  else
    let x := 256 * m0.toNat + m1.toNat
    if x ≤ 8 * n then x else 0

/-- The highest count that M0 and M1 can report (R180). -/
def reiMax (n : Nat) : Nat := if n = 48 then 255 else 8 * n

/-- APS_RX (R143): K1 and K2 unchanged in 3 frames on a protection port. -/
def State.takeAps (s : State) (p : Nat) (k1 k2 : W8) : State :=
  let v := k1.toNat + 256 * k2.toNat
  let s := s.observe (runKey p portCode 0) v
  match s.groups.find? fun g => decide (gProt g.2 = p) with
  | none => s
  | some g =>
    if s.runOf (runKey p portCode 0) = (v, 3) then
      (s.wr ⟨0x40090400 + g.1 * 4, 0, 16⟩ v).raise F.SEL_INT_APS_RX
    else s

/-- A quality level received in 8 identical frames (R177, R180). -/
def State.takeQl (s : State) (p : Nat) (b : W8) : State :=
  let s := s.observe (runKey p portCode 1) b.toNat
  if s.ran (runKey p portCode 1) b.toNat 8 then (s.wr (F.PRT_QL_RX_QL p) b.toNat).raise (F.PRT_QL_RX_VALID p) else s

/-- Channel bytes of a frame wait for the input frame of their time. -/
def State.queueOh (s : State) (p t : Nat) (bs : List W8) : State :=
  s.mapLine fun l => { l with ohq := Store.put (fun _ => []) l.ohq p (Store.get (fun _ => []) l.ohq p ++ [(t, bs)]) }

/-- The D bytes: D1 to D3, then D4 to D12. -/
def dBytes (n : Nat) (bs : List W8) : List W8 :=
  [2, 5, 6, 7].flatMap fun r => (List.range 3).map fun c => lineAt n bs r c 0

/-- The overhead of a line frame of a port or client (R180): `raw` as received, `bs` descrambled. -/
def State.lineOverhead (s : State) (p n t : Nat) (raw bs : List W8) (client : Bool) : State :=
  let r := s.prx p
  let oh := fun (row c x : Nat) => lineAt n bs row c x
  let b1 := match r.b1 with
    | some x => violations x (oh 1 0 0)
    | none => 0
  let b2 := if r.b2 = [] then 0 else ((List.range n).map fun x => violations (r.b2.getD x 0) (oh 4 0 x)).sum
  let s := s.mapPrx p fun r =>
    { r with b1 := some (bip8 raw), b2 := (List.range n).map (b2Of n bs), rei := min b2 (reiMax n) }
  let s := (s.inc (F.PRT_CNT_COUNT p 0) b1).inc (F.PRT_CNT_COUNT p 1) b2
  let s := if client then s else s.addViol (pathAt p portCode) b2
  let s := s.inc (F.PRT_CNT_COUNT p 2) (reiOf n (oh 8 1 1) (oh 8 1 2))
  let s := s.wr (F.PRT_J0_RX_J0 p) (oh 0 2 0).toNat
  let s := (s.takeAps p (oh 4 1 0) (oh 4 2 0)).takeQl p (oh 8 0 0)
  let k := bits (oh 4 2 0).toNat 0 3
  let s := (s.portCond p 2 3 5 (k == 7)).portCond p 3 4 5 (k == 6)
  s.queueOh p t (dBytes n bs)

/-- All paths of a port are in LOP-P (R171). -/
def State.allLop (s : State) (p : Nat) : Bool :=
  !(s.pathHeads p).isEmpty && (s.pathHeads p).all fun h => bitOf (s.pathNow p (pathCode h.1 0 0 false)) 1

/-- Consecutive observations of a port end with its frame; those of an OTU go on when only the client's frame ends, and that of the
generic AIS pattern, which has no frame, goes on. -/
def State.dropRuns (s : State) (p : Nat) (client : Bool) : State :=
  let s := s.mapPrx p fun r =>
    let r := { r with b1 := none, b2 := [], rei := 0, lopRun := 0 }
    if client then r else { r with bip := [], mfas := 256 }
  let ends := fun (id : Nat) => if client then decide (id < 4) else decide (id ≠ 6)
  s.mapLine fun l => { l with runs := l.runs.filter fun r => decide (r.1 / 64 ≠ pathAt p portCode) || !ends (r.1 % 64) }

/-- The framers that carry a line frame: the lanes, or the client's. -/
def State.framersOf (s : State) (p : Nat) (client : Bool) : List Nat := if client then [64 + p] else s.lanes p

/-- A false lock (R171): alignment is given up, the position is barred. -/
def State.falseLock (s : State) (p : Nat) (client : Bool) : State :=
  let s := (s.inc (F.PRT_FRM_CNT_FALSE_LOCK p) 1).dropRuns p client
  ((s.framersOf p client).foldl (fun s k => s.setFramer k ((s.framer k).bar s.now)) s).afterFramer p client true

/-- The framing bytes that the framer of lane `j` checks (R169). -/
def laneWord (n lanes j : Nat) (raw : List W8) : BitVec 64 :=
  let a := n / lanes
  BitVec.ofNat 64 (((List.range 6).map fun i => (raw.getD (j + lanes * (a - 3 + i)) 0).toNat * 256 ^ (5 - i)).sum)

/-- The framers of a line frame check their pattern (R169, R170). -/
def State.checkFrame (s : State) (p n : Nat) (client : Bool) (starts : List Nat) (raw : List W8) : State :=
  let ks := s.framersOf p client
  let s := ((List.range ks.length).zip ks).foldl (fun s x =>
    let f := s.framer x.2
    if f.inFrame then
      let run := if patternOk 4 (laneWord n ks.length x.1 raw) then 0 else f.errRun + 1
      let f := { f with errRun := run, start := starts.getD x.1 s.now }
      s.setFramer x.2 (if 4 ≤ run then f.lose s.now frameTicks else f)
    else s) s
  s.afterFramer p client true

/-- The port, or its client, is in frame. -/
def State.inFrame (s : State) (p : Nat) (client : Bool) : Bool :=
  if client then s.framed p && (s.framer (64 + p)).inFrame else s.framed p

/-- Note the last frame that a port sends: under facility loopback the received one (R168). -/
def State.setTx (s : State) (p : Nat) (bs : List W8) : State :=
  s.mapLine fun l => { l with tx := Store.put (fun _ => []) l.tx p bs }

/-- The last frame that a port sent, before scrambling and FEC. -/
def State.lastTx (s : State) (p : Nat) : List W8 := Store.get (fun _ => []) s.line.tx p

/-- LOOP of a port (R168). -/
def State.loop (s : State) (p : Nat) : Nat := s.rd (F.PRT_CFG_LOOP p)

/-- What the receiver of a port gets (R168): under terminal loopback the port's own frame, whatever the line brings. -/
def State.received {α : Type} (s : State) (p : Nat) (own line : α) : α := if s.loop p = 2 then own else line

/-- A SONET/SDH line frame of a port or of an OTN client (R171, R173, R180, R184). `starts`: the tick at which each lane's
frame starts at the pins. -/
def State.sonetFrame (s : State) (p : Nat) (client : Bool) (starts : List Nat) (raw : List W8) : State :=
  let n := modeCells (s.prtMode p)
  let t := laneStart starts 0
  if s.rxOn p && decide (raw.length = 810 * n) then
    let s := s.checkFrame p n client starts raw
    if s.inFrame p client then
      let bs := scramble n raw
      let s := s.lineOverhead p n t raw bs client
      if s.pdef p 0 then s.updateRdi p
      else
        let s := (s.pathHeads p).foldl (State.pathFrame starts n p bs) s
        let run := if s.allLop p then (s.prx p).lopRun + 1 else 0
        let s := s.mapPrx p fun r => { r with lopRun := run }
        let s := if 8 ≤ run then s.falseLock p client else s
        s.updateRdi p
    else s.dropRuns p client
  else s

/-- The line frame that lanes carry: byte i on lane i modulo their number (R151). -/
def joinLanes (lanes : List (List W8)) : List W8 :=
  (List.range ((lanes.map List.length).sum)).map fun i => (lanes.getD (i % lanes.length) []).getD (i / lanes.length) 0

/-- What lane `j` carries of a line frame (R151). -/
def laneShare (bs : List W8) (lanes j : Nat) : List W8 := (List.range (bs.length / lanes)).map fun i => bs.getD (lanes * i + j) 0

/-- The bytes of the last output frame on each lane of a SONET/SDH port (R151). -/
def State.laneBytes (s : State) (p : Nat) : List (List W8) :=
  let bs := scramble (modeCells (s.prtMode p)) (s.lastTx p)
  if isBonded (s.prtMode p) then (List.range 4).map (laneShare bs 4) else [bs]

/-- SONET_FRAME_RX (R180): a line frame of a SONET/SDH port: its start and its bytes on each lane. Under terminal loopback the port's own
frame is received (R168). -/
def execSonetFrameRx (t : Nat) (p : Port) (starts : List Nat) (lanes : List (List W8)) (s : State) : Res :=
  let s := s.tick t
  let p := p.val
  let n := modeCells (s.prtMode p)
  if isSonet (s.prtMode p) then
    let data := joinLanes (s.received p (s.laneBytes p) lanes)
    let s := if s.loop p = 1 then s.setTx p (scramble n data) else s
    .next (s.sonetFrame p false starts data).refreshRefs
  else .next s

end Sys2Proof.Machine
end

