-- ==== Sys2Proof/Machine/Mram.lean ====
section
/-! DEFINITION. Machine/Mram.lean: the MRAM store: its bytes, the boot record, the step log, image headers and their authentication,
snapshots and settings records (spec/14 R340 to R342, R344, R349, R354, R355; spec/03 R83). -/
namespace Sys2Proof.Machine

/-- Change the BOOT state outside its registers. -/
def State.mapBoot (s : State) (f : BootSt → BootSt) : State := { s with boot := f s.boot }

/-! ### Bytes -/

/-- The MRAM offset of an image slot. -/
def imgBase (slot : Nat) : Nat := if slot = 0 then 0x10000 else 0x110000
/-- The MRAM offset of a settings slot. -/
def setBase (slot : Nat) : Nat := 0x210000 + slot * 0x20000
/-- The MRAM offset of snapshot position `k` (R342). -/
def snapBase (k : Nat) : Nat := 0x7E0000 + 8192 * k

/-! ### The boot record (R341) -/

/-- The content of a boot record. `fail`: FAILCNT of steps 1 to 11. -/
structure BootRec where
  gen : Nat
  boots : Nat
  stA : Nat
  stB : Nat
  pref : Nat
  pinSlot : Nat
  pinned : Bool
  verA : Nat
  verB : Nat
  trialS : Nat
  fail : List Nat
  deriving DecidableEq, Repr

/-- The record of a device without a valid copy. -/
def BootRec.blank : BootRec :=
  { gen := 0, boots := 0, stA := 0, stB := 0, pref := 0, pinSlot := 0, pinned := false, verA := 0, verB := 0, trialS := 0,
    fail := List.replicate 11 0 }

/-- The first 60 bytes of a record. -/
def BootRec.body (r : BootRec) : List W8 :=
  leBytes 0x42545243 4 ++ leBytes r.gen 4 ++ leBytes r.boots 4 ++
    leBytes (r.stA + r.stB * 16 + r.pref * 0x100 + r.pinSlot * 0x200 + b2n r.pinned * 0x1000) 4 ++ leBytes r.verA 4 ++ leBytes r.verB 4 ++
    leBytes r.trialS 4 ++ (r.fail.map fun n => BitVec.ofNat 8 n) ++ [0] ++ List.replicate 20 0

/-- The 64 bytes of a record with its CRC-32. -/
def BootRec.bytes (r : BootRec) : List W8 := r.body ++ leBytes (crc32 r.body).toNat 4

/-- The boot record of a device as delivered (R280): slot A GOOD and PREF with the version that its header carries, slot B EMPTY, and a
boot count from 1 to 1,000; no FAILCNT (log entry 5). -/
def BootRec.delivered : BootRec :=
  { BootRec.blank with
    gen := 1, boots := 1 + Config.productionBoots % 1000, stA := 4
    verA := ofLe ((List.range 4).map fun i => Config.mramByte 0 (imgBase 0 + 8 + i)) }

/-- What a byte of the MRAM reads as that nothing has written: the delivered boot record in copy 0, none in copy 1, and the rest free
(log entry 5). -/
def BootSt.mramDef (b : BootSt) (a : Nat) : W8 :=
  if a < 64 then BootRec.delivered.bytes.getD a 0
  else if 0x4000 ≤ a ∧ a < 0x4040 then 0
  else Config.mramByte (if 0x10000 ≤ a ∧ a < 0x110000 then b.genA else if 0x110000 ≤ a ∧ a < 0x210000 then b.genB else 0) a

/-! ### Bytes and words of the store -/

/-- `n` bytes of the MRAM from offset `a` (R340). -/
def State.mramRead (s : State) (a n : Nat) : List W8 := Store.getAll s.boot.mramDef s.boot.mram a n
/-- Write bytes into the MRAM. -/
def State.mramWrite (s : State) (a : Nat) (bs : List W8) : State :=
  s.mapBoot fun b => { b with mram := Store.putAll b.mramDef b.mram a bs }
/-- A little-endian word of the MRAM. -/
def State.mramWord (s : State) (a : Nat) : Nat := ofLe (s.mramRead a 4)

/-- Erase an image slot (FW_STAGE with FIRST): the manual does not say what an erased byte reads as (log entry 5). -/
def State.eraseSlot (s : State) (slot : Nat) : State :=
  s.mapBoot fun b =>
    let rest := b.mram.filter fun e => decide (e.1 < imgBase slot) || decide (imgBase slot + 0x100000 ≤ e.1)
    if slot = 0 then { b with mram := rest, genA := b.genA + 1 } else { b with mram := rest, genB := b.genB + 1 }

/-! ### The boot record in use (R341) -/

/-- The record that 64 bytes hold, if they are valid. -/
def BootRec.ofBytes (bs : List W8) : Option BootRec :=
  let w := fun (o : Nat) => ofLe ((bs.drop o).take 4)
  if w 0 = 0x42545243 ∧ w 0x3C = (crc32 (bs.take 0x3C)).toNat then
    let x := w 0xC
    some { gen := w 4, boots := w 8, stA := bits x 0 4, stB := bits x 4 4, pref := bits x 8 1, pinSlot := bits x 9 3,
           pinned := bitOf x 12, verA := w 0x10, verB := w 0x14, trialS := bits (w 0x18) 0 12,
           fail := ((bs.drop 0x1C).take 11).map fun b => b.toNat }
  else none

/-- A copy of the boot record. -/
def State.recCopy (s : State) (k : Nat) : Option BootRec := BootRec.ofBytes (s.mramRead (k * 0x4000) 64)

/-- The record in use and the copy that a write goes to (R341). -/
def State.recInUse (s : State) : BootRec × Nat :=
  match s.recCopy 0, s.recCopy 1 with
  | some a, some b => if a.gen < b.gen then (b, 0) else (a, 1)
  | some a, none => (a, 1)
  | none, some b => (b, 0)
  | none, none => (BootRec.blank, 0)

/-- The boot record in use. -/
def State.bootRec (s : State) : BootRec := s.recInUse.1

/-- The state of an image slot in the boot record. -/
def BootRec.img (r : BootRec) (slot : Nat) : Nat := if slot = 0 then r.stA else r.stB
/-- Set the state of an image slot. -/
def BootRec.setImg (r : BootRec) (slot st : Nat) : BootRec := if slot = 0 then { r with stA := st } else { r with stB := st }
/-- Set the version of an image slot. -/
def BootRec.setVer (r : BootRec) (slot v : Nat) : BootRec := if slot = 0 then { r with verA := v } else { r with verB := v }
/-- FAILCNT of step `n`. -/
def BootRec.cnt (r : BootRec) (n : Nat) : Nat := r.fail.getD (n - 1) 0
/-- Set FAILCNT of step `n`. -/
def BootRec.setCnt (r : BootRec) (n v : Nat) : BootRec := { r with fail := r.fail.set (n - 1) v }

/-- The registers that show the boot record. -/
def State.showRec (s : State) : State :=
  let r := s.bootRec
  let ver := fun (st v : Nat) => if st = 0 then 0 else v
  let s := ((s.wr F.BOOT_IMG_STATE_A r.stA).wr F.BOOT_IMG_STATE_B r.stB).wr F.BOOT_IMG_PREF r.pref
  let s := ((s.wr F.BOOT_VER_A_VERSION (ver r.stA r.verA)).wr F.BOOT_VER_B_VERSION (ver r.stB r.verB)).wr F.BOOT_STATUS_BOOTS r.boots
  let s := (s.setFlag F.BOOT_SET_PINNED r.pinned).wr F.BOOT_SET_PIN_SLOT (if r.pinned then r.pinSlot else 0)
  (List.range 11).foldl (fun s k => if k < 8 then s.wr ⟨0x4021000C, 4 * k, 4⟩ (r.cnt (k + 1)) else
    s.wr ⟨0x40210010, 4 * (k - 8), 4⟩ (r.cnt (k + 1))) s

/-- Write the boot record: the copy that does not hold the higher valid GEN, with GEN + 1 (R341). -/
def State.writeRec (s : State) (f : BootRec → BootRec) : State :=
  let x := s.recInUse
  (s.mramWrite (x.2 * 0x4000) { f x.1 with gen := x.1.gen + 1 }.bytes).showRec

/-! ### The step log (R344) -/

/-- Write an entry of the step log. -/
def State.logStep (s : State) (step event : Nat) : State :=
  let e := step + event * 0x100 + 0x10000 * (s.bootRec.boots % 65536) + 0x100000000 * ((s.now - s.boot.bootAt) / 1000)
  (s.mramWrite (0x8000 + 8 * (s.boot.logPos % 4096)) (leBytes e 8)).mapBoot fun b =>
    { b with logPos := (b.logPos + 1) % 4096, lastLog := some (step, event) }

/-! ### Images (R349) -/

/-- Word at `o` of an image's header. -/
def State.imgWord (s : State) (slot o : Nat) : Nat := s.mramWord (imgBase slot + o)
/-- VERSION of an image. -/
def State.imgVersion (s : State) (slot : Nat) : Nat := s.imgWord slot 8
/-- SVN of an image. -/
def State.imgSvn (s : State) (slot : Nat) : Nat := bits (s.imgWord slot 0xC) 0 8
/-- Length of an image. -/
def State.imgLen (s : State) (slot : Nat) : Nat := s.imgWord slot 0x10
/-- SET_RD_MIN of an image. -/
def State.setRdMin (s : State) (slot : Nat) : Nat := bits (s.imgWord slot 0x18) 0 16
/-- SET_RD_MAX of an image. -/
def State.setRdMax (s : State) (slot : Nat) : Nat := bits (s.imgWord slot 0x18) 16 16
/-- SET_WR of an image. -/
def State.setWr (s : State) (slot : Nat) : Nat := bits (s.imgWord slot 0x1C) 0 16

/-- The key hash of the fuses. -/
def State.keyHash (s : State) : List W8 := wordsBytes ((List.range 12).map fun k => s.reg (0x40220010 + 4 * k))

/-- Why an image is refused, tested in the order of the codes (R349); `none`: it authenticates. -/
def State.authReason (s : State) (slot : Nat) : Option Nat :=
  let b := imgBase slot
  let n := s.imgLen slot
  if s.imgWord slot 0 ≠ 0x54484649 ∨ s.imgWord slot 4 ≠ 1 ∨ n < 1024 ∨ 393216 < n ∨ n % 4 ≠ 0 then some 1
  else if sha384 (s.mramRead (b + 0x80) 97) ≠ s.keyHash then some 2
  else if ecdsaOk (s.mramRead (b + 0x80) 97) (sha384 (s.mramRead b 0x100)) (s.mramRead (b + 0x100) 96) = false then some 3
  else if sha384 (s.mramRead (b + 0x400) (n - 0x400)) ≠ s.mramRead (b + 0x20) 48 then some 4
  else if s.imgSvn slot < s.rd F.FUSE_SVN_SVN then some 5
  else if bitOf (s.imgWord slot 0xC) 8 = true ∧ s.flag F.FUSE_CFG_DEBUG_DISABLE = true then some 6
  else none

/-- Copy an image from the MRAM into a code slot's three scratchpad banks (R348, R350, R360). -/
def State.loadImage (s : State) (slot code : Nat) : State :=
  let s := s.scrWrite (code * 0x60000) (s.mramRead (imgBase slot) (s.imgLen slot))
  s.mapBoot fun b => if code = 0 then { b with code0 := some slot } else { b with code1 := some slot }

/-- Put a code slot in use: BOOT_VEC's address of it (R350). -/
def codeAddr (code : Nat) : Nat := 0x10000000 + code * 0x60000

/-- The image that runs. -/
def State.runImg (s : State) : Nat := s.rd F.BOOT_STATUS_RUN_IMG

/-! ### Snapshots (R83, R342) -/

/-- The run records of the snapshot at position `k`, if it is valid. -/
def State.snapAt (s : State) (k : Nat) : Option (List W8) :=
  let b := snapBase k
  let n := s.mramWord (b + 0xC)
  if s.mramWord b = 0x534D5049 ∧ n ≤ 1572864 then
    let rs := s.mramRead (b + 64) (16 * n)
    if (crc32 rs).toNat = s.mramWord (b + 0x10) then some rs else none
  else none

/-- The position of a stored snapshot header with the right magic. -/
def State.snapHeader (s : State) : Option Nat := (List.range 15).find? fun k => decide (s.mramWord (snapBase k) = 0x534D5049)

/-- The stored snapshot is valid. -/
def State.snapValid (s : State) : Bool := (List.range 15).any fun k => (s.snapAt k).isSome

/-- The entries that a run's record brings, as slots with 56-bit values; an entry equal to the empty one is left out. -/
def runEntries (bs : List W8) : List (Nat × Nat) :=
  let start := bits (ofLe (bs.take 4)) 0 25
  let len := bits (ofLe ((bs.drop 4).take 4)) 0 26
  let step := bitOf (ofLe ((bs.drop 4).take 4)) 31
  let first := ofLe ((bs.drop 8).take 7)
  if step = false ∧ first = emptyEntry.toNat % 2 ^ 56 then []
  else (List.range len).map fun i => (start + i, if step then first + i else first)

/-- The page that the run records spell, each entry sealed. -/
def expandRuns (rs : List W8) : List (Nat × W64) :=
  ((chunks 16 (rs.length / 16) rs).flatMap runEntries).foldl
    (fun p e => if e.1 < lineSlots then putEntry p e.1 (seal54 e.2) else p) []

/-! ### Settings records (R354, R355) -/

/-- A settings record: its bytes from the MRAM, as long as its header says. -/
def State.setBytes (s : State) (slot : Nat) : List W8 :=
  s.mramRead (setBase slot) (max 64 (min 131072 (s.mramWord (setBase slot + 0xC))))

/-- A word of a record. -/
def recWord (bs : List W8) (o : Nat) : Nat := ofLe ((bs.drop o).take 4)
/-- FMT of a record. -/
def recFmt (bs : List W8) : Nat := bits (recWord bs 4) 0 16
/-- GEN of a record. -/
def recGen (bs : List W8) : Nat := recWord bs 8

/-- A record's magic, length and both CRCs are right (R354). -/
def recValid (bs : List W8) : Bool :=
  decide (recWord bs 0 = 0x53455447) && decide (64 ≤ recWord bs 0xC) && decide (recWord bs 0xC ≤ 131072) &&
    decide (recWord bs 0xC % 4 = 0) && decide (recWord bs 0xC = bs.length) &&
    decide ((crc32 (bs.take 0x3C)).toNat = recWord bs 0x3C) && decide ((crc32 (bs.drop 64)).toNat = recWord bs 0x14)

/-- An item of a record: TYPE, LEN, and its value as words (log entry 15). -/
structure Item where
  type : Nat
  len : Nat
  words : List W32
  deriving DecidableEq, Repr

/-- The items after a header; the last element says whether the bytes ended with an item. -/
def itemsOf : Nat → List W8 → List Item × Bool
  | 0, bs => ([], bs.isEmpty)
  | fuel + 1, bs =>
    if bs.isEmpty then ([], true)
    else
      let w := ofLe (bs.take 4)
      let len := bits w 16 16
      let n := (len + 3) / 4 * 4
      if bs.length < 4 + n then ([], false)
      else
        let rest := itemsOf fuel (bs.drop (4 + n))
        ({ type := bits w 0 16, len := len, words := bytesWords ((bs.drop 4).take n) } :: rest.1, rest.2)

/-- The items of a record. -/
def recItems (bs : List W8) : List Item := (itemsOf (bs.length / 4) (bs.drop 64)).1

/-- The structure words that a saved port of a mode holds: two descriptors in each; none in a Ziuth mode. -/
def structCount (m : Nat) : Nat := if isZiuth m then 0 else (modeCells m + 1) / 2

/-- An item below 0x8000 is defined in format 1 and its length fits (R355, R356; log entry 15). -/
def Item.ok (fmt : Nat) (x : Item) : Bool :=
  decide (0x8000 ≤ x.type) || (decide (fmt = 1) && decide (x.len % 4 = 0) &&
    match x.type with
    | 0x0001 => decide (x.len = 32 + 4 * structCount (bits (word x.words 0) 8 4))
    | 0x0002 => decide (x.len = 516)
    | 0x0003 => decide (x.len = 192)
    | 0x0010 => decide (x.len = 20)
    | 0x0011 => decide (x.len = 8)
    | 0x0020 => decide (x.len = 4)
    | 0x0030 => decide (x.len = 20)
    | 0x0031 => decide (x.len = 12960)
    | 0x0040 => decide (x.len = 12)
    | 0x0050 => decide (4 ≤ x.len)
    | 0x0060 => decide (x.len = 516)
    | 0x0070 => decide (x.len = 8)
    | 0x0080 => decide (x.len = 4)
    | _ => false)

/-- The TYPE of the first item that a reader fails on (R355); 0 where the items end short of the record's length. -/
def badItem (bs : List W8) : Option Nat :=
  let xs := itemsOf (bs.length / 4) (bs.drop 64)
  match xs.1.find? fun x => !x.ok (recFmt bs) with
  | some x => some x.type
  | none => if xs.2 then none else some 0

/-- An image reads a valid record (R355). -/
def State.reads (s : State) (img : Nat) (bs : List W8) : Bool :=
  decide (s.setRdMin img ≤ recFmt bs) && decide (recFmt bs ≤ s.setRdMax img) && (badItem bs).isNone

/-- The valid records as slot and bytes, the highest GEN first; of equal GENs the lower slot first. -/
def State.setRecords (s : State) : List (Nat × List W8) :=
  let rs := ((List.range 8).map fun k => (k, s.setBytes k)).filter fun x => recValid x.2
  rs.foldr (fun x l => (l.filter fun y => decide (recGen x.2 < recGen y.2)) ++ [x] ++ (l.filter fun y => decide (recGen y.2 ≤ recGen x.2))) []

/-- The slot of a new record: after the newest valid one, skipping the pinned slot (R357). -/
def State.newSlot (s : State) : Nat :=
  let k := match s.setRecords with
    | x :: _ => (x.1 + 1) % 8
    | [] => 0
  let r := s.bootRec
  if r.pinned && decide (k = r.pinSlot) then (k + 1) % 8 else k

/-- GEN of a new record. -/
def State.newGen (s : State) : Nat :=
  match s.setRecords with
  | x :: _ => (recGen x.2 + 1) % 2 ^ 32
  | [] => 1

/-- The header of a slot no longer holds a record. -/
def State.clearHeader (s : State) (slot : Nat) : State := s.mramWrite (setBase slot) (List.replicate 64 0)

/-- Clear the headers of all records with a higher GEN than the pinned one, then unpin (R357, R363). -/
def State.unpin (s : State) : State :=
  let r := s.bootRec
  if r.pinned then
    let g := recGen (s.setBytes r.pinSlot)
    let s := (s.setRecords.filter fun x => decide (g < recGen x.2)).foldl (fun s x => s.clearHeader x.1) s
    s.writeRec fun r => { r with pinned := false, pinSlot := 0 }
  else s

/-- The record in force is shown in BOOT_SET and BOOT_SET_GEN; no slot: the defaults. -/
def State.inForce (s : State) (slot : Option Nat) : State :=
  match slot with
  | some k =>
    let bs := s.setBytes k
    (((s.wr F.BOOT_SET_FMT (recFmt bs)).wr F.BOOT_SET_SLOT k).setFlag F.BOOT_SET_DEFAULTS false).wr F.BOOT_SET_GEN_GEN (recGen bs)
  | none => (((s.wr F.BOOT_SET_FMT 0).wr F.BOOT_SET_SLOT 0).raise F.BOOT_SET_DEFAULTS).wr F.BOOT_SET_GEN_GEN 0

/-- A record's header over its items (R354). -/
def buildRecord (fmt gen ver : Nat) (items : List W8) : List W8 :=
  let h := leBytes 0x53455447 4 ++ leBytes fmt 4 ++ leBytes gen 4 ++ leBytes (64 + items.length) 4 ++ leBytes ver 4 ++
    leBytes (crc32 items).toNat 4 ++ List.replicate 36 0
  h ++ leBytes (crc32 h).toNat 4 ++ items

end Sys2Proof.Machine
end

