-- ==== Sys2Proof/Machine/Walk.lean ====
section
/-! DEFINITION. Machine/Walk.lean: the monitor walk and what a frame mark does in the protection engine (spec/05 R118 to R122,
R130; spec/09 R237, R240). -/
namespace Sys2Proof.Machine

/-! ### SF of levels and paths (R118, R119) -/

/-- The port level has SF because it is being disabled (R162): from T_{c+1} on, so that the walk of T_{c+2} finds it. -/
def State.disableSf (s : State) (p : Nat) : Bool :=
  match (s.dyn p).cmd with
  | .disabling c _ _ => decide (c + 2 ≤ s.core.frames)
  | _ => false

/-- The port level's SF by state and defects (R118, R119, R162, R322). A Ziuth port without frame alignment shows OOF or LOF
(DEDUCED). -/
def State.portSf (s : State) (p : Nat) : Bool :=
  let m := s.prtMode p
  !s.enabled p || m == 0 || s.member p || decide (2 ≤ s.depth p) || s.disableSf p || (s.dyn p).tx == 3 ||
    s.pdef p 0 || s.pdef p 2 || (if isZiuth m then s.pdef p 1 else s.pdef p 3) ||
    (isOtn m && (s.pdef p 5 || s.pdef p 6 || s.pdef p 15))

/-- A path's own defects: AIS, LOP, UNEQ, and TIM and PLM where they count. -/
def State.pathSf (s : State) (p code : Nat) (tim : Bool) : Bool :=
  let now := s.pathNow p code
  decide (bits now 0 3 ≠ 0) || (tim && decide (bits now 3 2 ≠ 0))

/-- The code of the path or VT that a monitor names. -/
def monCode (v : W64) : Nat :=
  match mType v with
  | 1 => pathCode (mCell v) 0 0 false
  | 2 => pathCode (mCell v) 0 0 false
  | 3 => pathCode (mCell v) (bits (mTrib v) 2 3) (bits (mTrib v) 0 2) true
  | 4 => pathCode (mCell v) (bits (mTrib v) 2 3) (bits (mTrib v) 0 2) true
  | _ => portCode

/-- The code of the STS or VC path that carries a cell. -/
def State.carrier (s : State) (p cell : Nat) : Nat :=
  match (s.pathHeads p).find? fun h => decide (h.1 ≤ cell) && decide (cell < h.1 + h.2) with
  | some h => pathCode h.1 0 0 false
  | none => portCode

/-- A VT or TU monitor. -/
def monVt (v : W64) : Bool := mType v == 3 || mType v == 4

/-- One window of a bit-error test after another frame (R120): frames, count, condition. -/
def windowStep (b n viol frames count : Nat) (cond : Bool) : Nat × Nat × Bool :=
  if n = 0 ∨ testable b n = false then (0, 0, false)
  else
    let f := frames + 1
    let c := count + viol
    if windowLen b n ≤ f then (0, 0, if windowCount b n ≤ c then true else if c ≤ windowCount b n / 10 then false else cond)
    else (f, c, cond)

/-- The windows of a monitor after another frame; another b starts them anew (R120). -/
def MonRun.step (r : MonRun) (v : W64) (b viol : Nat) : MonRun :=
  let r := if r.b = b then r else { r with b := b, sfFrames := 0, sfCount := 0, sdFrames := 0, sdCount := 0 }
  let x := windowStep b (sfN (mSfExp v)) viol r.sfFrames r.sfCount r.sf
  let y := windowStep b (sdN (mSdExp v)) viol r.sdFrames r.sdCount r.sd
  { b := b, sfFrames := x.1, sfCount := x.2.1, sf := x.2.2, sdFrames := y.1, sdCount := y.2.1, sd := y.2.2 }

/-- The running windows of a monitor. -/
def State.monRun (s : State) (i : Nat) : MonRun := Store.get (fun _ => MonRun.zero) s.sel.runs i

/-- The bit-error windows of a monitor take the frame just ended (R118, R120). -/
def State.tickMon (s : State) (i : Nat) : State :=
  let v := s.monAt i
  match s.carriedBits v with
  | none => s
  | some b =>
    let viol := Store.get (fun _ => 0) s.line.viol (pathAt (mPort v) (monCode v))
    s.mapSel fun x => { x with runs := Store.put (fun _ => MonRun.zero) x.runs i ((s.monRun i).step v b viol) }

/-- A monitor's own SF (R118); a path that the port does not carry has SF (R135). -/
def State.ownSf (s : State) (i : Nat) : Bool :=
  let v := s.monAt i
  if (s.carriedBits v).isNone then true
  else (if mType v = 5 then s.portSf (mPort v) else s.pathSf (mPort v) (monCode v) (mTimSf v)) || (s.monRun i).sf

/-- The own SF of the monitors in use, as (port, code) of those that have it. -/
def State.sfLevels (s : State) : List (Nat × Nat) :=
  (s.usedMons.filter s.ownSf).map fun i => (mPort (s.monAt i), monCode (s.monAt i))

/-- A monitor's effective SF and SD (R119): its own SF or that of a level that contains it, by defects or by a monitor
configured there. -/
def State.effective (s : State) (levels : List (Nat × Nat)) (i : Nat) : Bool × Bool :=
  let v := s.monAt i
  let p := mPort v
  let c := s.carrier p (mCell v)
  let above := decide (mType v ≠ 5) && (s.portSf p || levels.contains (p, portCode) ||
    (monVt v && (s.pathSf p c false || levels.contains (p, c))))
  let sf := s.ownSf i || above
  (sf, !sf && (s.monRun i).sd)

/-! ### Upsets (R130) -/

/-- An uncorrectable record is noted. -/
def State.noteUe (s : State) (mon : Bool) (i : Nat) : State :=
  ((((s.inc F.SEL_UE_CNT_COUNT 1).wr F.SEL_UE_IDX_INDEX i).wr F.SEL_UE_IDX_KIND (b2n mon)).raise F.SEL_UE_IDX_VALID).raise
    F.SEL_INT_UE

/-- A selector whose stored bits are now `w` is read: corrected and written back, or held apart with the ACT and DELTA last
sampled. -/
def State.readSel (s : State) (i : Nat) (w : W128) : State :=
  let was := s.selBad i
  match decode114 w with
  | .fine _ => s.setSel i w
  | .fixed v => s.setSel i v
  | .bad =>
    let s := s.setSel i w
    if was then s
    else (s.mapSel fun x => { x with held := Store.put (fun _ => none) x.held i (some (s.core.samp.sel i)) }).noteUe false i

/-- A monitor whose stored bits are now `w` is read; an uncorrectable one shows effective SF. The result also tells whether
its effective condition changed. -/
def State.readMon (s : State) (i : Nat) (w : W64) : State × Bool :=
  let old := s.monAt i
  let was := s.monBad i
  match decode54 w with
  | .fine _ => (s.setMon i w, false)
  | .fixed v => (s.setMon i v, false)
  | .bad => if was then (s.setMon i w, false) else ((s.setMon i w).noteUe true i, mEn old && !mSf old)

/-! ### The walk (R122) -/

/-- Store a monitor's conditions; the monitor joins the list if they changed. -/
def walkMon (levels : List (Nat × Nat)) (z : State × List Nat) (i : Nat) : State × List Nat :=
  let s := z.1
  let v := s.monAt i
  let e := s.effective levels i
  if mSf v = e.1 ∧ mSd v = e.2 then z
  else (s.setMon i (mPut (mPut v 30 1 (b2n e.1)) 31 1 (b2n e.2)), i :: z.2)

/-- The burst closes (SEL_BURST, SEL_BURST_T). -/
def State.closeBurst (s : State) : State :=
  match s.sel.burst with
  | none => s
  | some b =>
    let n := b.last - b.first
    let s := (s.wr F.SEL_BURST_COUNT (min b.changes (2 ^ 21 - 1))).wr F.SEL_BURST_T_TICKS (min n (2 ^ 20 - 1))
    (s.raiseIf (decide (800000 < n)) F.SEL_INT_BURST_SLOW).mapSel fun x => { x with burst := none }

/-- The protection engine at a frame mark (R119 to R122): `bad`: monitors that turned uncorrectable. The evaluations that commands and
timers brought since the last mark belong to this one (DEDUCED, log entry 24): the burst closes at the first mark with none. -/
def State.walk (s : State) (bad : List Nat) : State :=
  let s := s.usedMons.foldl State.tickMon s
  let z := s.usedMons.foldl (walkMon s.sfLevels) (s, [])
  let changed := bad ++ z.2.reverse
  let s := z.1.mapLine fun l => { l with viol := [] }
  let s := s.count 0x20 0 changed.length
  let sels := (changed.flatMap s.watchers).dedup
  let grps := (changed.flatMap s.grpWatchers).dedup
  let some_ := !sels.isEmpty || !grps.isEmpty
  let s := if some_ then s.openBurst true else if s.sel.evalSeen then s else s.closeBurst
  (s.evalAll sels grps).mapSel fun x => { x with evalSeen := false }

/-! ### Mirrored state at a mark (R237, R240) -/

/-- The FN at which a SEL_STATE item takes effect. -/
def itemFn (x : W64) : W16 := BitVec.ofNat 16 (bits x.toNat 32 16)

/-- Apply a mirrored change (R237). -/
def State.applyItem (s : State) (x : W64) : State :=
  let n := x.toNat
  let act := bitOf n 21
  let req := bits n 23 4
  let note := fun (s : State) (changed : Bool) =>
    let s := if changed then (s.inc F.SEL_SW_CNT_COUNT 1).raise F.SEL_INT_SW else s
    s.mapPair fun q => { q with disPend := (itemKey x, s.core.frames + 2) :: q.disPend }
  if bitOf n 20 then
    let w := bits n 0 6
    let g := s.grp w
    if 48 ≤ w ∨ gUsed g = false then s
    else
      let s := (s.wr { addr := 0x40090100 + w * 0x4, lo := 9, w := 1 } (b2n act)).wr
        { addr := 0x40090100 + w * 0x4, lo := 10, w := 1 } (bits n 22 1)
      let s := (s.wr { addr := 0x40090200 + w * 0x4, lo := 0, w := 4 } req).wr
        { addr := 0x40090300 + w * 0x4, lo := 0, w := 16 } (bits n 48 16)
      note s (gSel g != act)
  else
    let i := bits n 0 20
    let v := s.selAt i
    if s.selBad i || !vValid v then s
    else note (s.setSel i (vPut (vPut v 25 1 (b2n act)) 30 4 req)) (vAct v != act)

/-- Mirrored changes whose mark has come are applied before the mark samples the state (R13, R237). -/
def State.applyMirrored (s : State) : State :=
  let due := s.mate.selQ.filter fun x => !fnFuture (itemFn x) s.fn
  let s := s.mapMate fun m => { m with selQ := m.selQ.filter fun x => fnFuture (itemFn x) s.fn }
  due.foldl State.applyItem s

/-- The mirrored and the shadow values of a key differ (R240). -/
def State.disagrees (s : State) (key : Nat) : Bool :=
  if key < 2 ^ 20 then
    let p := pvOfSel (s.selAt key)
    s.selLive key && s.shadowOf key p.act p.req != (p.act, p.req)
  else
    let p := s.pvOfGrp (key - 2 ^ 20)
    s.grpShadow (key - 2 ^ 20) != (p.act, p.req)

/-- Disagreements at the second mark after a change (R240), on a standby synchronised with an acting holder. -/
def State.checkDis (s : State) : State :=
  let due := ((s.pair.disPend.filter fun x => decide (x.2 ≤ s.core.frames)).map Prod.fst).dedup
  let s := s.mapPair fun q => { q with disPend := q.disPend.filter fun x => decide (s.core.frames < x.2) }
  if !s.acting && s.mate.synced && s.flag F.PAIR_STAT_MATE_ACTING && s.mode != 0 then
    due.foldl (fun s k =>
      if s.disagrees k then
        let s := ((s.inc F.PAIR_DIS_CNT_COUNT 1).wr F.PAIR_DIS_LAST_INDEX (k % 2 ^ 20)).wr F.PAIR_DIS_LAST_KIND (k / 2 ^ 20)
        ((s.raise F.PAIR_DIS_LAST_VALID).raise F.PAIR_INT_DIS).mapPair fun q => { q with disSince := q.disSince + 1 }
      else s) s
  else s

end Sys2Proof.Machine
end

