-- ==== Sys2Proof/Machine/Runs.lean ====
section
/-! DEFINITION. Machine/Runs.lean: self-test runs, the end of the intrusive tests, and requests for a resynchronisation
(spec/12 R320 to R324, spec/09 R235, R241). -/
namespace Sys2Proof.Machine

/-- Change the PWR state outside its registers. -/
def State.mapPwr (s : State) (f : PwrSt → PwrSt) : State := { s with pwr := f s.pwr }

/-- The final reply of the oldest started command of an opcode whose descriptor satisfies a test (R260). -/
def State.completeWhere (s : State) (o : Opc) (p : List W32 → Bool) (st : Status) (ws : List W32) (ok : Bool) : State :=
  match (s.mbx.taken.findIdx? fun k =>
      decide (opcode k.d = o.row.code) && decide (k.phase ≠ .waiting) && k.done.isNone && !k.lost && p k.d) with
  | none => s
  | some i => match s.mbx.taken[i]? with
    | none => s
    | some k => s.outcome i k st ws ok

/-- A run of a test is in progress (R321). -/
def State.testRunning (s : State) (test : Nat) : Bool := s.pwr.runs.any fun r => decide (r.test = test) && !r.done

/-- The running run of a test. -/
def State.runOfTest (s : State) (test : Nat) : Option TestRun := s.pwr.runs.find? fun r => decide (r.test = test) && !r.done

/-- The completion words of a run (SELFTEST). -/
def TestRun.words (r : TestRun) : List W32 := [BitVec.ofNat 32 r.id, BitVec.ofNat 32 (b2n r.pass), r.w2, r.w3]

/-- Change the running run of a test. -/
def State.mapRun (s : State) (test : Nat) (f : TestRun → TestRun) : State :=
  s.mapPwr fun w => { w with runs := w.runs.map fun r => if decide (r.test = test) && !r.done then f r else r }

/-- The running run of a test completes (R320): its words are kept, SELFTEST_DONE is set and the command completes OK. -/
def State.endRun (s : State) (test : Nat) (pass : Bool) (w2 w3 : W32) (ok : Bool) : State :=
  match s.runOfTest test with
  | none => s
  | some r =>
    let r := { r with pass := pass, w2 := w2, w3 := w3, left := 0, done := true }
    let s := (s.mapRun test fun _ => r).raise F.PWR_INT_SELFTEST_DONE
    s.completeWhere .selftest (fun d => decide (bits (word d 2) 0 8 = test)) .ok r.words ok

/-- A run stops without a completion (R324). -/
def State.dropRun (s : State) (test : Nat) : State :=
  s.mapPwr fun w => { w with runs := w.runs.filter fun r => decide (r.test ≠ test) || r.done }

/-! ### Resynchronisation requests (R235, R241) -/

/-- The standby wants a full resynchronisation: it asks at once if an acting mate can hear it. -/
def State.wantResync (s : State) : State :=
  if s.acting || s.mode == 0 || (s.mate.reqSent && s.mate.reqOut) then s
  else
    let s := s.mapMate fun m => { m with reqSent := true, reqOut := false, rs := none }
    if s.mateUp && s.flag F.PAIR_STAT_MATE_ACTING && s.pwr.march == 0 then
      (s.sendRec .resyncReq true).mapMate fun m => { m with reqOut := true }
    else s

/-! ### The end of the intrusive tests (R322, R323) -/

/-- The map stack after a STACK_MARCH (R323, step 5): both pages empty without herd copies; selectors, monitors, line groups and
watch lists as at reset. -/
def State.emptyStack (s : State) : State :=
  let s := s.mapMap fun m => { m with page0 := [], page1 := [], dirty := [], redir := [], moved := [], before := [], copy := none, peakLoad := 0, peakBank := 0 }
  let s := if s.rd F.MAP_STATUS_STATE = 4 then s.wr F.MAP_STATUS_STATE 0 else s
  let s := { s with sel := SelSt.reset, regs := s.regs.filter fun e => decide (e.1 < 0x40090100) || decide (0x40090400 ≤ e.1) }
  let s := ((s.setFlag F.MAP_STATUS_CHECK_VALID false).wr F.MAP_HERD_USE_IN_USE 0).showDirty
  let s := ((s.wr F.MAP_BANK_PEAK_LOAD 0).wr F.MAP_BANK_PEAK_BANK 0).countRefs
  (s.showSelUse.showMonUse).mapMate fun m => { m with selQ := [], mcommit := none }

/-- An enabled transmitter at D0 that is demanded and idle starts at the next frame mark (R166, R245, R323). -/
def State.restartTx (s : State) : State :=
  (List.range 48).foldl (fun s p =>
    if s.enabled p && !s.member p && decide (s.depth p = 0) && decide ((s.dyn p).tx = 0) && decide ((s.dyn p).cmd = .idle) && s.txDemand p then
      s.mapDyn p fun y => { y with tx := 1 } else s) s

/-- A STACK_MARCH ends: step 5 of R323. -/
def State.endMarch (s : State) : State := ((s.mapPwr fun w => { w with march := 0 }).emptyStack).restartTx

/-- A LANE_PRBS ends (R322): the port returns to its configuration and reacquires; a disabled one to electrical idle. -/
def State.endPrbs (s : State) (p : Nat) : State :=
  let s := s.mapPwr fun w => { w with prbs := w.prbs.filter fun e => decide (e.1 ≠ p) }
  let s := s.mapDyn p fun y => { y with tx := if s.enabled p && decide (s.depth p = 0) then 1 else 0 }
  if s.enabled p then s.startRx p true else s

end Sys2Proof.Machine
end

