-- ==== Sys2Proof/Machine/Pair.lean ====
section
/-! DEFINITION. Machine/Pair.lean: the lamp, leases, the arbiter's queries, handover and the PAIR commands (spec/09 R221 to
R231, R242 to R252). -/
namespace Sys2Proof.Machine

/-! ### Conditions -/

/-- The boot is complete (R221, R231, R352): running, or in a handover window. -/
def State.booted (s : State) : Bool := s.rd F.BOOT_STATUS_PHASE == 2 || s.rd F.BOOT_STATUS_PHASE == 3

/-- The boot sequence has enabled outputs (R22, R229, R343). -/
def State.alive (s : State) : Bool := s.rd F.BOOT_RESULT_RES9 != 3 && s.rd F.BOOT_STATUS_PHASE != 4

/-- A resynchronisation is running for this standby (R241, R323): from the wish for one while the mate acts. -/
def State.resyncing (s : State) : Bool :=
  s.pwr.march != 0 ||
    (!s.acting && s.mode != 0 && (s.mate.rs.isSome || (s.mate.reqSent && s.flag F.PAIR_STAT_MATE_ACTING)))

/-- This device owes itself a resynchronisation: it does not take the lamp before that completes (R30, R231, R241). -/
def State.resyncOwed (s : State) : Bool := !s.acting && s.mode != 0 && (s.mate.rs.isSome || s.mate.reqSent)

/-- FAULT (R249). -/
def State.faultNow (s : State) : Bool :=
  s.flag F.CORE_STATUS_LATE_PERSIST || s.pwr.unrec || (List.range 32).any s.noSpare

/-- READY (R231). -/
def State.readyNow (s : State) : Bool :=
  s.booted && !s.acting && (s.pair.guardAt.isSome || (!s.resyncing && !s.resyncOwed && !s.flag F.PAIR_STAT_STALE && !s.flag F.PAIR_STAT_FAULT))

/-- EFF_DUPLEX (R222, R245). -/
def State.effDuplex (s : State) : Bool :=
  s.mode == 2 && (!s.mateUp || (!s.acting && !s.flag F.PAIR_STAT_MATE_ACTING) || s.pair.ho.isSome || s.pair.idleFn.isSome)

/-- FAULT follows its conditions. -/
def State.refreshFault (s : State) : State := s.setFlag F.PAIR_STAT_FAULT s.faultNow

/-- Milliseconds left of the lease. -/
def State.leaseLeft (s : State) : Nat :=
  match s.pair.lease with
  | none => 0
  | some l => min ((l.exp - s.now) / msTicks) 65535

/-- Ticks in a minute. -/
def minTicks : Nat := 6000000000

/-- The PAIR registers follow the state; a demand that changes with it is met (R166, R222). -/
def State.refreshPair (s : State) : State :=
  let p := s.pair
  let s := (s.setFlag F.PAIR_STAT_GUARD p.guardAt.isSome).setFlag F.PAIR_STAT_RESYNC s.resyncing
  let s := s.setFlag F.PAIR_STAT_HO_PEND p.ho.isSome
  let s := (s.setFlag F.PAIR_STAT_READY s.readyNow).setFlag F.PAIR_STAT_EFF_DUPLEX s.effDuplex
  let s := (s.wr F.PAIR_LEASE_VALUE s.leaseLeft).setFlag F.PAIR_LEASE_VALID p.lease.isSome
  let s := (s.wr F.PAIR_HO_VALUE ((p.ho.map fun h => h.h.toNat).getD 0)).setFlag F.PAIR_HO_VALID p.ho.isSome
  let s := s.wr F.PAIR_DRILL_MIN_LEFT (if s.acting then (p.drillAt - s.now) / minTicks else 0)
  s.wakeDemands.restartTx

/-- A newer epoch becomes the known one (R223). -/
def State.learn (s : State) (e : W8) : State := if epochNewer e s.epoch then s.wr F.PAIR_STAT_EPOCH e.toNat else s

/-- LEASE in ticks (R224). -/
def State.leaseTicks (s : State) : Nat := s.rd F.PAIR_CFG_LEASE * 10 * msTicks

/-- 20 ms (R225, R230). -/
def guardTicks : Nat := 2000000

/-- The tick of the next frame mark (R39). -/
def State.nextMark (s : State) : Nat := s.core.markT + frameTicks

/-- The lease lasts beyond T_{f+1} (R224). -/
def State.leaseOk (s : State) : Bool :=
  match s.pair.lease with
  | none => false
  | some l => decide (s.nextMark < l.exp)

/-! ### Starting and stopping to act -/

/-- The last heartbeat of the mate shows a bit (R234). -/
def State.hbBit (s : State) (i : Nat) : Bool := s.mate.hb.any fun b => b.body.getLsbD i

/-- Every running PAIR_SWAP completes (R252). -/
def State.endSwaps (st : Status) (ws : List W32) (ok : Bool) : Nat → State → State
  | 0, s => s.mapPair fun p => { p with swapAt := [] }
  | n + 1, s => State.endSwaps st ws ok n (s.complete .pairSwap st ws ok)

/-- The device starts to act at a frame mark (R225, R240, R242, R243): it evaluates from the state it applied last. -/
def State.startActing (s : State) : State :=
  let idle := match s.pair.ho with
    | some h => if fnFuture h.h s.fn then none else some (s.core.frames + 2 - fnDist s.fn h.h)
    | none => none
  let s := (s.setFlag F.PAIR_STAT_ACTING true).raise F.PAIR_INT_LAMP_CHG
  let s := s.mapPair fun p =>
    { p with hasActed := true, guardAt := none, stopCause := none, ho := none, stopSeen := false, idleFn := idle, disPend := []
             drillAt := s.now + 60 * minTicks * s.rd F.PAIR_CFG_DRILL_H }
  let s := s.mapMate fun m => { m with seenMate := true, reqPend := false, reqSent := s.flag F.PAIR_STAT_STALE, reqOut := false, rs := none, selQ := [], parts := [] }
  let s := s.mapSel fun x => { x with shadow := [] }
  let sels := s.validSels.filter s.selLive
  let grps := s.groups.map Prod.fst
  ((s.openBurst (!sels.isEmpty || !grps.isEmpty)).evalAll sels grps).refreshPair

/-- The device stops acting at the current frame mark and sends STOP (R224, R230, R243, R248). A device stopped by a newer
epoch or a second holder will have its state replaced, and so will one whose lease ends while its mate can only be granted by force: its
link is down, or the mate is stale or in a resynchronisation (R247). A lease that a GRANT started after the REVOKE stands (R230). -/
def State.stopActing (s : State) (cause : BitVec 3) (ok : Bool) : State :=
  let h := (s.pair.ho.map fun h => BitVec.ofNat 32 h.h.toNat).getD 0
  let s := s.sendRec (.stop (s.fn - 1) cause) true
  let s := (s.setFlag F.PAIR_STAT_ACTING false).raise F.PAIR_INT_LAMP_CHG
  let s := (s.raiseIf (cause == 0) F.PAIR_INT_LEASE_LOST).setFlag F.PAIR_STAT_SWAP_REQ false
  let two := decide (s.mode = 2) && cause == 2
  let s := s.mapPair fun p =>
    { p with lease := if cause = 1 then p.lease else none, stopCause := none, ho := none, guardAt := if cause = 1 then p.guardAt else none,
             idleFn := if two then some (s.core.frames + 2) else none,
             frozen := if two then [s.core.frames, s.core.frames + 1] else [] }
  let apart := !s.mateUp || s.hbBit 2 || s.hbBit 3
  let s := if cause = 3 ∨ cause = 4 ∨ (cause ≠ 2 ∧ apart = true) then s.mapMate fun m => { m with seenMate := false }
    else if cause = 2 then s.mapMate fun m => { m with synced := true } else s
  let s := if cause = 2 then s.endSwaps .ok [h] ok s.pair.swapAt.length else s.endSwaps .timeout [] ok s.pair.swapAt.length
  s.refreshPair

/-- The handover lapses (R243, R252): the old holder keeps acting while its lease lasts. -/
def State.lapse (s : State) (ok : Bool) : State :=
  let old := s.pair.ho.any fun h => h.old
  let s := s.mapPair fun p => { p with ho := none, stopSeen := false }
  let s := if old && !s.pair.swapAt.isEmpty then
      (s.setFlag F.PAIR_STAT_SWAP_REQ false).endSwaps .timeout [] ok s.pair.swapAt.length else s
  s.refreshPair

/-! ### The arbiter's queries (R227 to R230) -/

/-- OP of a query. -/
def qOp (q : W16) : Nat := bits q.toNat 12 3
/-- EPOCH of a query. -/
def qEpoch (q : W16) : W8 := BitVec.ofNat 8 (bits q.toNat 4 8)
/-- ARG of a query. -/
def qArg (q : W16) : Bool := bitOf q.toNat 3

/-- A query is valid (R228, R230): start bit 0, odd parity, a defined OP, reserved bits and an unused ARG zero. -/
def queryOk (q : W16) : Bool :=
  !bitOf q.toNat 15 && parity q.toNat 16 && decide (qOp q ≤ 4) && decide (bits q.toNat 1 2 = 0) &&
    !(decide (2 ≤ qOp q) && qArg q)

/-- Bits a15 to a8 of an answer but for ACK (R229). -/
def State.answerBits (s : State) : Nat :=
  2 ^ 15 + 2 ^ 14 * b2n s.acting + 2 ^ 13 * b2n s.readyNow + 2 ^ 12 * b2n (s.flag F.PAIR_STAT_STALE) +
    2 ^ 10 * b2n (s.flag F.PAIR_STAT_FAULT) + 2 ^ 9 * b2n s.mateUp + 2 ^ 8 * b2n (s.flag F.PAIR_STAT_SWAP_REQ)

/-- A complete query of the row with code `op`, after `ones` samples of ARB_Q = 1 in a row, 4 of which a start bit needs (R227); `act`: its
effect where it is accepted (R230). A valid query with another OP belongs to another row: nothing happens. Before outputs are enabled ARB_A
answers zeros (R23, R229, R347). -/
def State.query (s : State) (op ones : Nat) (q : W16) (act : State → W8 → Bool → Option State) : State :=
  let s := s.refreshPair
  let put := fun (s : State) (a : Nat) => s.mapPair fun p => { p with answer := BitVec.ofNat 16 a, arbAborted := false }
  if ones < 4 then s
  else if s.alive = false then put s 0
  else if queryOk q = true ∧ qOp q ≠ op then s
  else
    let before := s.answerBits
    let r := if queryOk q && (s.mode != 0 || op == 0) then act s (qEpoch q) (qArg q) else none
    match r with
    | some s => let s := (s.inc F.PAIR_ARB_CNT_ACCEPTED 1).refreshPair
                put s (before + 2 ^ 11 + s.epoch.toNat)
    | none => put (s.inc F.PAIR_ARB_CNT_REFUSED 1) (before + s.epoch.toNat)

/-- POLL (R230, R246). -/
def State.poll (s : State) (e : W8) (live : Bool) : Option State :=
  if s.mode = 0 then some s
  else
    let pend := s.pair.ho.any fun h => h.old && decide (h.epoch = e)
    let s := if s.acting && (s.pair.lease.any fun l => epochNewer e l.epoch) && !pend then
        s.mapPair fun p => { p with stopCause := some 3 } else s
    if live && !s.acting && !s.mateUp && !s.flag F.PAIR_STAT_STALE && decide (s.mate.downAt + s.leaseTicks < s.now) then
      some (((s.raise F.PAIR_STAT_STALE).raise F.PAIR_INT_STALE).mapMate fun m => { m with reqSent := true, reqOut := false, rs := none })
    else some s

/-- A HANDOVER record for epoch `e` names a mark at least 20 ms away (R230, R243). -/
def State.hoGrant (s : State) (e : W8) : Bool :=
  s.pair.ho.any fun h => !h.old && decide (h.epoch = e) && decide (s.now + guardTicks ≤ h.tick)

/-- No heartbeat with ACTING = 1 has arrived in the last 10 ms (R230). -/
def State.mateQuiet (s : State) : Bool :=
  match s.mate.actHb with
  | none => true
  | some t0 => decide (t0 + 10 * msTicks < s.now)

/-- GRANT (R225, R230, R231, R243, R247, R323). -/
def State.grant (ok : Bool) (s : State) (e : W8) (force : Bool) : Option State :=
  let ho := s.hoGrant e
  if s.pair.lease.isNone && epochNewer e s.epoch && (s.readyNow || (force && !s.flag F.PAIR_STAT_FAULT)) && (ho || s.mateQuiet) then
    let s := (s.wr F.PAIR_STAT_EPOCH e.toNat).mapPair fun p =>
      { p with lease := some { epoch := e, exp := s.now + s.leaseTicks }
               guardAt := if ho then none else some (s.now + guardTicks)
               ho := if ho then p.ho.map fun h => { h with granted := true } else p.ho }
    if force && s.pwr.march != 0 then
      some ({ s.endMarch with fresh := s.fresh + 2 }.endRun 0x11 false (BitVec.ofNat 32 (Config.freeWord s.fresh).toNat)
        (BitVec.ofNat 32 (Config.freeWord (s.fresh + 1)).toNat) ok)
    else some s
  else none

/-- The device holds a lease of an epoch. -/
def State.holds (s : State) (e : W8) : Bool := s.pair.lease.any fun l => decide (l.epoch = e)

/-- RENEW (R230). -/
def State.renew (s : State) (e : W8) (_ : Bool) : Option State :=
  if s.holds e then some (s.mapPair fun p => { p with lease := some { epoch := e, exp := s.now + s.leaseTicks } }) else none

/-- REVOKE (R230): the lease ends; the device stops acting at the next frame mark. -/
def State.revoke (s : State) (e : W8) (_ : Bool) : Option State :=
  if s.holds e then
    some (s.mapPair fun p => { p with lease := none, guardAt := none, stopCause := if s.acting then some 1 else p.stopCause
                                      ho := p.ho.map fun h => if h.old then h else { h with granted := false } })
  else none

/-- Frames from the current one to h: the first mark at least 25 ms away and after the target of a commit in flight (R243). -/
def State.handoverIn (s : State) : Nat :=
  let n := (s.now + 2500000 - s.core.markT + frameTicks - 1) / frameTicks
  match s.map.commit with
  | some c => if c.named ∧ fnDist c.target s.fn < 32768 then max n (fnDist c.target s.fn + 1) else n
  | none => n

/-- HANDOVER (R230, R243, step 1). -/
def State.handover (s : State) (e : W8) (_ : Bool) : Option State :=
  if s.acting && s.holds e && s.mateUp && s.hbBit 1 && s.pair.ho.isNone then
    let n := s.handoverIn
    let h := s.fn + BitVec.ofNat 16 n
    let s := s.mapPair fun p =>
      { p with ho := some { h := h, tick := s.core.markT + frameTicks * n, epoch := e + 1, old := true, granted := false } }
    some (s.sendRec (.handover h (e + 1)) true)
  else none

/-- POLL (R230). -/
def execPoll (t : Nat) (q : Query) (s : State) : Res := .next ((s.tick t).query 0 q.ones q.word State.poll)
/-- GRANT (R230). -/
def execGrant (t : Nat) (q : Query) (rplOk : Bool) (s : State) : Res := .next ((s.tick t).query 1 q.ones q.word (State.grant rplOk))
/-- RENEW (R230). -/
def execRenew (t : Nat) (q : Query) (s : State) : Res := .next ((s.tick t).query 2 q.ones q.word State.renew)
/-- REVOKE (R230). -/
def execRevoke (t : Nat) (q : Query) (s : State) : Res := .next ((s.tick t).query 3 q.ones q.word State.revoke)
/-- HANDOVER (R230, R243). -/
def execHandover (t : Nat) (q : Query) (s : State) : Res := .next ((s.tick t).query 4 q.ones q.word State.handover)

/-- ARB_ABORT (R227): a gap of more than 10 us aborts a transaction, with no effect and no answer. -/
def execArbAbort (t : Nat) (s : State) : Res := .next ((s.tick t).mapPair fun p => { p with arbAborted := true })

/-! ### Events -/

/-- LEASE_EXPIRY (R224): a holder whose lease does not last beyond the next mark stops acting at this one; a lease that has run
out ends. -/
def execLeaseExpiry (t : Nat) (rplOk : Bool) (s : State) : Res :=
  let s := s.tick t
  match s.pair.lease with
  | none => .next s
  | some l =>
    if s.acting = true ∧ s.mode ≠ 0 then
      if s.core.started = true ∧ s.now = s.core.markT ∧ s.leaseOk = false then .next (s.stopActing 0 rplOk) else .next s
    else if l.exp ≤ s.now then
      .next (s.mapPair fun p => { p with lease := none, guardAt := none
                                         ho := p.ho.map fun h => if h.old then h else { h with granted := false } }).refreshPair
    else .next s

/-- GUARD_END (R225): at the first mark at least 20 ms after the grant the device starts to act. -/
def execGuardEnd (t : Nat) (s : State) : Res :=
  let s := s.tick t
  match s.pair.guardAt with
  | none => .next s
  | some g =>
    if s.core.started = true ∧ s.now = s.core.markT ∧ g ≤ s.core.markT ∧ s.leaseOk = true then .next s.startActing else .next s

/-- DRILL_TIMER (R242): the drill timer expires and the holder sets SWAP_REQ. -/
def execDrillTimer (t : Nat) (s : State) : Res :=
  let s := s.tick t
  if s.acting = true ∧ s.pair.drillAt ≤ s.now ∧ s.flag F.PAIR_STAT_SWAP_REQ = false then
    .next ((s.raise F.PAIR_STAT_SWAP_REQ).raise F.PAIR_INT_DRILL_DUE).refreshPair
  else .next s

/-- HANDOVER_MARK (R243, step 3): at T_h the old holder stops acting, once the grant was accepted. -/
def execHandoverMark (t : Nat) (rplOk : Bool) (s : State) : Res :=
  let s := s.tick t
  match s.pair.ho with
  | none => .next s
  | some h =>
    if h.old = true ∧ h.granted = true ∧ s.acting = true ∧ s.core.started = true ∧ s.now = s.core.markT ∧ s.fn = h.h then .next (s.stopActing 2 rplOk) else .next s

/-- NEW_HOLDER_ACTS (R243, step 4): the new holder acts at the first mark after it has applied STOP, or at T_{h+16}. -/
def execNewHolderActs (t : Nat) (s : State) : Res :=
  let s := s.tick t
  match s.pair.ho with
  | none => .next s
  | some h =>
    if h.old = false ∧ h.granted = true ∧ s.acting = false ∧ s.core.started = true ∧ s.now = s.core.markT ∧ s.leaseOk = true ∧
        (s.pair.stopSeen = true ∨ (16 ≤ fnDist s.fn h.h ∧ fnDist s.fn h.h < 32768)) then .next s.startActing
    else .next s

/-- HANDOVER_LAPSE (R243): no accepted grant by T_h − 20 ms. -/
def execHandoverLapse (t : Nat) (rplOk : Bool) (s : State) : Res :=
  let s := s.tick t
  match s.pair.ho with
  | none => .next s
  | some h => if h.granted = false ∧ h.tick < s.now + guardTicks then .next (s.lapse rplOk) else .next s

/-- OLD_HOLDER_TX_IDLE (R222, R245): 6.5 us after T_{h+2} the old holder's transmitters go to electrical idle and EFF_DUPLEX
clears. -/
def execOldHolderTxIdle (t : Nat) (s : State) : Res :=
  let s := s.tick t
  match s.pair.idleFn with
  | none => .next s
  | some f =>
    if f < s.core.frames ∨ (s.core.frames = f ∧ s.core.markT + 650 ≤ s.now) then
      let s := s.mapPair fun p => { p with idleFn := none, frozen := [] }
      let s := if s.acting then s else (List.range 48).foldl (fun s p =>
        if s.txDemand p && s.effDuplex then s
        else if (s.dyn p).tx = 3 ∨ s.rd (F.PRT_CFG_LOOP p) ≠ 0 then s else s.mapDyn p fun y => { y with tx := 0 }) s
      .next s.refreshPair
    else .next s

/-- PAIR_SWAP_TIMEOUT (R252): no handover starts within 5 s. -/
def execPairSwapTimeout (t : Nat) (rplOk : Bool) (s : State) : Res :=
  let s := s.tick t
  match s.pair.swapAt with
  | [] => .next s
  | t0 :: rest =>
    if t0 + 5 * secTicks ≤ s.now ∧ s.pair.ho = none then
      let s := (s.setFlag F.PAIR_STAT_SWAP_REQ false).mapPair fun p => { p with swapAt := rest }
      .next ((s.complete .pairSwap .timeout [] rplOk).refreshPair)
    else .next s

/-! ### Commands (R251, R252) -/

/-- A device that has neither acted nor been synchronised since reset (R251). -/
def State.fresh0 (s : State) : Bool := !s.pair.hasActed && !s.mate.synced

/-- The settings of PAIR_CONFIGURE; `side`: SIDE is taken too (R251). -/
def State.applyPair (s : State) (d : List W32) (side : Bool) : State :=
  let old := s.mode
  let s := ((s.wr F.PAIR_CFG_MODE (bits (word d 2) 0 2)).wr F.PAIR_CFG_LEASE (word d 3)).wr F.PAIR_CFG_DRILL_H (word d 4)
  let s := if side then s.wr F.PAIR_CFG_SIDE (bits (word d 2) 2 1) else s
  if old = 0 ∧ s.mode ≠ 0 ∧ s.acting = true then
    let s := s.wr F.PAIR_STAT_EPOCH ((s.epoch + 1 : W8)).toNat
    (s.mapPair fun p => { p with lease := some { epoch := s.epoch, exp := s.now + s.leaseTicks } }).refreshPair
  else s.refreshPair

/-- The ranges of PAIR_CONFIGURE. -/
def pairRanges (d : List W32) : Bool :=
  decide (10 ≤ word d 3) && decide (word d 3 ≤ 200) && decide (1 ≤ word d 4) && decide (word d 4 ≤ 720)

/-- PAIR_CONFIGURE (R20, R251). -/
def execPairConfigure (x : Exe) (s : State) : Res :=
  .next (s.run .pairConfigure x
    (fun _ d => onlyBits (word d 2) 7 && decide (bits (word d 2) 0 2 ≠ 3) && onlyBits (word d 3) 0xFF && onlyBits (word d 4) 0x3FF)
    fun s d =>
      let side := decide (bits (word d 2) 2 1 = s.rd F.PAIR_CFG_SIDE)
      if !s.fresh0 && !s.acting then .refuse .notLampHolder
      else if !pairRanges d || (!s.fresh0 && !side) then .refuse .badParam
      else if decide (bits (word d 2) 0 2 = 0) && s.mode != 0 && (s.pair.lease.isSome || s.mateUp) then .refuse .busy
      else .ok ((s.mirrorSettings d []).applyPair d true) [])

/-- PAIR_SWAP (R242, R252, R282). -/
def execPairSwap (x : Exe) (s : State) : Res :=
  .next (s.run .pairSwap x (fun _ _ => true) fun s _ =>
    if s.pair.ho.isSome then .refuse .busy
    else if !s.mateUp || s.hbBit 2 then .refuse .staleMirror
    else .accepted ((((s.raise F.PAIR_STAT_SWAP_REQ).raise F.PAIR_INT_DRILL_DUE).mapPair fun p =>
      { p with swapAt := p.swapAt ++ [s.now] }).refreshPair) [])

/-- PAIR_STATUS (R20, R251). -/
def execPairStatus (x : Exe) (s : State) : Res :=
  .next (s.run .pairStatus x (fun _ _ => true) fun s _ =>
    let s := s.refreshPair
    .ok (s.mapPair fun p => { p with disSince := 0, dropSince := 0 })
      [s.reg 0x40060004, s.reg 0x40060008, BitVec.ofNat 32 (min s.pair.disSince 0xFFFFFFFF),
       BitVec.ofNat 32 (min s.pair.dropSince 0xFFFFFFFF)])

/-! ### The pair at a frame mark -/

/-- The device acts in the frame that begins now, as the events of this mark will have it (R224, R225, R234, R243). -/
def State.willAct (s : State) : Bool :=
  if s.mode = 0 then s.acting
  else if s.acting then s.leaseOk && !(s.pair.ho.any fun h => h.old && h.granted && decide (s.fn = h.h))
  else s.leaseOk && ((s.pair.guardAt.any fun g => decide (g ≤ s.core.markT)) ||
    (s.pair.ho.any fun h => !h.old && h.granted && (s.pair.stopSeen || (decide (16 ≤ fnDist s.fn h.h) && decide (fnDist s.fn h.h < 32768)))))

/-- The stops and starts of a frame mark that need no row of their own (R221, R230, R248), once FN has advanced. -/
def State.pairMark (s : State) (ok : Bool) : State :=
  let s := match s.pair.stopCause with
    | some c => if s.acting then s.stopActing c ok else s.mapPair fun p => { p with stopCause := none }
    | none => s
  if s.mode = 0 ∧ s.acting = false ∧ s.booted = true then s.startActing else s

/-- The body of the heartbeat of this frame (R234). -/
def State.heartbeatBody (s : State) : W64 :=
  let act := s.willAct
  BitVec.ofNat 64 (b2n act + 2 * b2n (s.flag F.PAIR_STAT_READY && !act) + 4 * b2n (s.flag F.PAIR_STAT_STALE) +
    8 * b2n (s.flag F.PAIR_STAT_RESYNC) + 16 * b2n (s.flag F.PAIR_STAT_FAULT) + 32 * b2n s.pair.ho.isSome +
    2 ^ 16 * s.leaseLeft + 2 ^ 32 * s.rd F.TMG_STATE_TX_QL + 2 ^ 36 * s.dpll)

end Sys2Proof.Machine
end

