-- ==== Sys2Proof/Machine/Mate.lean ====
section
/-! DEFINITION. Machine/Mate.lean: the mate link, the records received over it, and the standby's side of commits and
resynchronisations (spec/09 R232 to R241). -/
namespace Sys2Proof.Machine

/-! ### The link (R232) -/

/-- A mate lane. -/
def State.lane (s : State) (j : Nat) : Lane := if j = 0 then s.mate.lane0 else s.mate.lane1
/-- Set a mate lane. -/
def State.setLane (s : State) (j : Nat) (l : Lane) : State :=
  s.mapMate fun m => if j = 0 then { m with lane0 := l } else { m with lane1 := l }

/-- The link follows its lanes: it is up while a lane is not dropped. A link that goes down resets M7 (R294), and a
resynchronisation under way has to start anew. -/
def State.linkState (s : State) : State :=
  let up := !s.mate.lane0.dropped || !s.mate.lane1.dropped
  if up = s.mateUp then s
  else if up then
    let s := (s.raise F.PAIR_STAT_MATE_UP).raise F.PAIR_INT_MATE_UP
    (if s.acting then s else s.trackMate).refreshPair
  else
    let s := ((s.setFlag F.PAIR_STAT_MATE_UP false).raise F.PAIR_INT_MATE_DOWN).mapMate fun m =>
      { m with downAt := s.now, reqSent := m.reqSent || m.rs.isSome, reqOut := false, rs := none, parts := [], out := [], skip := 0 }
    let s := s.resetMaster 7
    (if s.acting then s else s.trackMate).refreshPair

/-- FN and the multiframe phase FN[1:0] (R39, R41). -/
def State.setFn (s : State) (fn : W16) : State := (s.wr F.FRAME_NUM_FN fn.toNat).wr F.FRAME_NUM_MF_PHASE (fn.toNat % 4)

/-- Record bytes that one lane carries in a frame (R232). -/
def laneRoom : Nat := 783710

/-- The lanes that carry the record stream. -/
def State.streamLanes (s : State) : List Nat := [0, 1].filter fun j => !(s.lane j).dropped

/-- At a frame mark the bytes that left in the frame that ends leave the send queue (R232). -/
def shiftOut : Nat → List MateRec → List MateRec × Nat
  | _, [] => ([], 0)
  | n, r :: rs => if r.body.bytes ≤ n then shiftOut (n - r.body.bytes) rs else (r :: rs, n)

/-- The mate link at the end of a frame: what fitted has left (R232). -/
def State.mateMark (s : State) : State :=
  let x := shiftOut (s.mate.skip + laneRoom * s.streamLanes.length) s.mate.out
  s.mapMate fun m => { m with out := x.1, skip := x.2 }

/-- The record stream of the current frame, records so far (R232, R233). -/
def State.recordStream (s : State) : List W8 :=
  (((s.mate.out.flatMap MateRec.records).flatMap MateRec.bytes).drop s.mate.skip).take (laneRoom * s.streamLanes.length)

/-- What lane `j` carries of a stream: with both lanes up, every second byte (R232). -/
def mateShare (lanes : List Nat) (j : Nat) (bs : List W8) : List W8 :=
  if lanes = [0, 1] then (bs.zipIdx.filter fun x => decide (x.2 % 2 = j)).map Prod.fst
  else if lanes.contains j then bs else []

/-- The stream that the shares of two lanes spell, byte by byte (R232). -/
def joinShares : List W8 → List W8 → List W8
  | a :: as, b :: bs => a :: b :: joinShares as bs
  | as, [] => as
  | [], bs => bs

/-- The data region that lane `j` of the mate link sends in this frame (R176, R177, R232): ZFC carries FN; zeros after the stream
(log entry 81). -/
def State.mateData (s : State) (j : Nat) : List W8 :=
  let l := s.lane j
  let fn := s.fn.toNat
  let oh : List W8 := ([fn / 256, fn, s.rd F.TMG_STATE_TX_QL, b2n (!l.frame || decide (s.now < l.rdiEnd)), l.corr / 256, l.corr, l.uncorr,
    b2n l.bad] : List Nat).map (BitVec.ofNat 8)
  let body := oh ++ List.replicate 128 0x00 ++ mateShare s.streamLanes j s.recordStream
  let body := body ++ List.replicate (783846 - body.length) 0x00
  body ++ leBytes (crc32 body).toNat 4

/-- The line bits that lane `j` of the mate link sends in this frame (R23, R174, R232); none: electrical idle, in reset. -/
def State.mateTx (s : State) (j : Nat) : Option (List Bool) := if s.alive then some (ziuthLine 1 (s.mateData j)) else none

/-- The CRC-32 at the end of a data region fits (R176). -/
def regionCrcOk (data : List W8) : Bool :=
  let n := data.length - 4
  decide (ofLe (data.drop n) = (crc32 (data.take n)).toNat)

/-- MATE_FRAME_RX (R19, R39, R177, R215, R232): the symbols of a frame period of a mate lane from where the FAW is due; `al`: the
holder's alignment (log entry 79). A frame with its FAW brings the lane in frame; 4 in a row without it end the alignment (R169). A device in MODE 00 ignores the mate link (R221). A
standby takes the holder's FN from ZFC. -/
def execMateFrameRx (t : Nat) (lane : Fin 2) (line : LaneSymbols) (al : Alignment) (s : State) : Res :=
  let s := s.tick t
  if s.mode = 0 ∨ s.alive = false then .next s
  else
    let l := s.lane lane.val
    let line := ziuthBits 1 line.half line.symbols
    if ziuthFits 1 line.length = true ∧ fawErrors line ≤ 3 then
      let x := ziuthDecode 1 line
      let l := { l with frame := true, since := s.now, dropped := false, errRun := 0, corr := min x.2.1 65535, uncorr := min x.2.2 255,
                        bad := !regionCrcOk x.1, rdiEnd := if l.frame then l.rdiEnd else s.now + 20 * frameTicks }
      let s := (s.setLane lane.val l).linkState
      .next (if s.acting = false ∧ s.flag F.PAIR_STAT_MATE_ACTING = true then
          (s.setFn (BitVec.ofNat 16 (256 * (x.1.getD 0 0).toNat + (x.1.getD 1 0).toNat))).followAlign al.align al.pps
        else s)
    else if l.frame = true ∧ 3 ≤ l.errRun then
      .next (s.setLane lane.val { l with frame := false, since := s.now, errRun := 0 })
    else .next (s.setLane lane.val { l with errRun := if l.frame then l.errRun + 1 else 0 })

/-- MATE_LANE_DROP (R232): a lane that has been out of frame for 1 ms is dropped; with both dropped the link is down. -/
def execMateLaneDrop (t : Nat) (lane : Fin 2) (s : State) : Res :=
  let s := s.tick t
  let l := s.lane lane.val
  if l.frame = false ∧ l.dropped = false ∧ l.since + msTicks ≤ s.now then
    .next (s.setLane lane.val { l with dropped := true }).linkState
  else .next s

/-! ### Applying records (R234 to R241) -/

/-- A record of a resynchronisation. -/
def MateBody.resync : MateBody → Bool
  | .resyncBegin _ | .resyncData _ _ _ | .resyncEnd _ => true
  | _ => false

/-- A HEARTBEAT (R222, R223, R230, R235, R241, R243, R247, R248). -/
def State.takeBeat (s : State) (fn : W16) (epoch : W8) (body : W64) : State :=
  let act := body.getLsbD 0
  let s := (s.learn epoch).mapMate fun m => { m with hb := some { t := s.now, body := body, fn := fn, epoch := epoch } }
  let s := s.setFlag F.PAIR_STAT_MATE_ACTING act
  let s := s.mapPair fun p => { p with ho := p.ho.map fun h => if h.old && decide (h.epoch = epoch) then { h with granted := true } else h }
  let mine := (s.pair.lease.map fun l => l.epoch).getD s.epoch
  let s := if act then
      let s := (s.mapMate fun m => { m with actHb := some s.now }).mapTmg fun x => { x with mateQl := some (bits body.toNat 32 4) }
      if s.acting then
        let s := s.raise F.PAIR_INT_DUAL
        if epochNewer epoch mine || (epoch == mine && s.flag F.PAIR_CFG_SIDE) then s.mapPair fun p => { p with stopCause := some 4 } else s
      else
        let s := if s.mate.seenMate then s else (s.mapMate fun m => { m with seenMate := true }).wantResync
        if s.mate.reqSent && !s.mate.reqOut then s.wantResync else s
    else if s.acting && epochNewer epoch mine && !(s.pair.ho.any fun h => h.old && decide (h.epoch = epoch)) then
      s.mapPair fun p => { p with stopCause := some 3 }
    else s
  (if s.acting then s else s.trackMate).refreshPair

/-- A STOP record: that of the handover lets the new holder act (R243, step 4); by another the old holder's lease ended first, and the
handover lapses. -/
def State.takeStop (s : State) (epoch : W8) (cause : BitVec 3) : State :=
  let s := s.learn epoch
  if s.pair.ho.any fun h => !h.old then
    if cause = 2 then s.mapPair fun p => { p with stopSeen := true }
    else (s.mapPair fun p => { p with ho := none, stopSeen := false }).refreshPair
  else s

/-- A HANDOVER record (R222, R223, R243). -/
def State.takeHandover (s : State) (epoch : W8) (h : W16) (new : W8) : State :=
  let s := s.learn epoch
  if s.acting || !fnFuture h s.fn then s
  else (s.mapPair fun p =>
    { p with stopSeen := false
             ho := some { h := h, tick := s.core.markT + frameTicks * fnDist h s.fn, epoch := new, old := false, granted := false } }).refreshPair

/-- MAP_ENTRIES (R236): entries of the shadow page; one that differs from the active page is dirty (R63). -/
def State.takeEntries (s : State) (es : List (Nat × W64)) : State :=
  let s := es.foldl (fun s e =>
    let s := s.setShadow (putEntry s.shadow e.1 e.2)
    if e.1 < lineSlots then
      s.mapMap fun m => { m with dirty := Store.put (fun _ => false) m.dirty e.1 (decide (e.2 ≠ entryAt s.active e.1)) }
    else s) s
  (s.setFlag F.MAP_STATUS_CHECK_VALID false).showDirty

/-- The peak load of the shadow page and its bank (R107). -/
def State.shadowPeak (s : State) : Nat × Nat := peak (pageLoads s.checkEnv s.shadow)

/-- The standby discards a mirrored commit (R236). -/
def State.discardMirrored (s : State) (again : Bool) : State :=
  let s := (s.mapMate fun m => { m with mcommit := none }).raise F.PAIR_INT_DIFF_DISCARD
  if again then s.wantResync else s

/-- COMMIT_ARM (R107, R236): received before T_{t−1} it is kept for T_t; later it is discarded. -/
def State.takeArm (s : State) (target id : W16) : State :=
  if 2 ≤ fnDist target s.fn ∧ fnDist target s.fn < 32768 then
    (s.preboost s.shadowPeak.1 target).mapMate fun m => { m with mcommit := some { target := target, id := id } }
  else s.discardMirrored true

/-- SEL_STATE (R237): changes wait for their mark; a late one is applied at the next mark and counted. -/
def State.takeSelState (s : State) (items : List W64) : State :=
  let late := (items.filter fun x => !fnFuture (itemFn x) s.fn).length
  (s.inc F.PAIR_MIR_LATE_COUNT late).mapMate fun m => { m with selQ := m.selQ ++ items }

/-- What a mirrored command gives: the new state, or `none` where the holder's result cannot be had (R235). -/
def Ans.mirrored : Ans → Option State
  | .ok s _ => some s
  | .since _ a => a.mirrored
  | _ => none

/-- Apply a mirrored command (R235, R238). A descriptor of opcode 0 carries a write to MAP_HERD_CFG in word 2 (log entry 12). -/
def State.applyCommand (s : State) (d : List W32) (data : List W8) : Option State :=
  let d := if data.isEmpty then d else (d.set 4 8).set 5 0
  let x : Exe := { t := s.now, src := .ring0, inp := some data, outOk := true, rplOk := true }
  match opcode d with
  | 0x00 => some (s.plainWrite F.MAP_HERD_CFG_HERD_FAN.addr (d.getD 2 0))
  | 0x30 => if bits (word d 2) 22 2 = 0 then (s.selWriteWork d x).mirrored else (s.grpWriteWork d x).mirrored
  | 0x31 => if selCommandOk d then (s.selCommandWork d).mirrored else none
  | 0x33 => (s.monWork d x).mirrored
  | 0x40 => if timingOk s d then some (s.applyTiming d) else none
  | 0x50 => some (s.applyPair d false)
  | _ => none

/-- SETTINGS (R238): the parts of a command are gathered; with the last one it is applied. -/
def State.takeSettings (s : State) (last : Bool) (off total : Nat) (d : List W32) (data : List W8) : State :=
  let parts := (if off = 0 then [] else s.mate.parts) ++ [(d, off, total, data)]
  let whole := parts.flatMap fun p => p.2.2.2
  if last then
    let s := s.mapMate fun m => { m with parts := [] }
    if whole.length ≠ total then s.wantResync
    else match s.applyCommand d whole with
      | some s => s
      | none => s.wantResync
  else s.mapMate fun m => { m with parts := parts }

/-- Apply the body of a record of the mirror, header fields given. -/
def State.applyBody (s : State) (last : Bool) (b : MateBody) : State :=
  match b with
  | .mapEntries es => s.takeEntries es
  | .commitArm target id _ => s.takeArm target id
  | .commitCancel target => if s.mate.mcommit.any fun c => decide (c.target = target) then s.discardMirrored false else s
  | .selState items => s.takeSelState items
  | .history off rec_ _ => s.mapTmg fun x => { x with mateHist := ((if rec_ then [(s.now, off.toInt)] else []) ++ x.mateHist).take 908 }
  | .settings off total d data => s.takeSettings last off.toNat total.toNat d data
  | .resyncBegin _ => (s.mapMate fun m =>
      { m with rs := some { got := [], ended := false, later := [] }, reqSent := false, reqOut := false, parts := [] }).refreshPair
  | .resyncData r off data =>
    let ws := (chunks 8 (data.length / 8) data).zipIdx.map fun b => (r, off.toNat / 8 + b.2, (BitVec.ofNat 64 (ofLe b.1) : W64))
    s.mapMate fun m => { m with rs := m.rs.map fun x => { x with got := x.got ++ ws } }
  | .resyncEnd _ => s.mapMate fun m => { m with rs := m.rs.map fun x => { x with ended := true } }
  | _ => s

/-- A standby has applied a record (PAIR_SEQ, PAIR_SYNC_FN, tally event 0x50). -/
def State.noteRec (s : State) (r : MateRec) : State :=
  if s.acting then s
  else (((s.wr F.PAIR_SEQ_SEQ r.seq.toNat).wr F.PAIR_SYNC_FN_FN r.fn.toNat).raise F.PAIR_SYNC_FN_VALID).count 0x50 0 r.body.bytes

/-- A heartbeat of an older epoch is not acted on, but an acting device that hears its mate act notes it (R235, R248). -/
def State.olderBeat (s : State) (b : MateBody) : State :=
  match b with
  | .heartbeat body => if s.acting && body.getLsbD 0 then s.raise F.PAIR_INT_DUAL else s
  | _ => s

/-- A record arrives (R221, R235, R241, R323): a failed CRC or a skipped SEQ asks for a resynchronisation; a record of an older
epoch is discarded; until the resynchronisation begins the mirror takes nothing; during it, records wait for its swap. -/
def State.mateRecord (s : State) (h : RecHdr) (b : MateBody) : State :=
  if s.mode = 0 ∨ s.mateUp = false ∨ s.alive = false then s
  else if recFits h b = false then s.wantResync
  else
    let gap := s.mate.seqIn.any fun q => decide (h.seq ≠ q + 1)
    let s := s.mapMate fun m => { m with seqIn := some h.seq }
    let s := if gap then s.wantResync else s
    let r : MateRec := { body := b, last := h.last, seq := h.seq, fn := h.fn, epoch := h.epoch }
    if epochNewer s.epoch h.epoch then s.olderBeat b
    else match b with
      | .heartbeat body => (s.noteRec r).takeBeat h.fn h.epoch body
      | .stop _ c => (s.noteRec r).takeStop h.epoch c
      | .handover m e => (s.noteRec r).takeHandover h.epoch m e
      | .resyncReq => if s.acting then s.mapMate fun m => { m with reqPend := true } else s
      | .resyncBegin _ => if s.acting || s.pwr.march != 0 then s else (s.noteRec r).applyBody h.last b
      | _ =>
        if s.acting || s.mate.reqSent || s.pwr.march != 0 then s
        else if s.mate.rs.isSome && !b.resync then s.mapMate fun m => { m with rs := m.rs.map fun x => { x with later := x.later ++ [r] } }
        else (s.noteRec r).applyBody h.last b

/-- HEARTBEAT (R234). -/
def execHeartbeatRecord (t : Nat) (h : RecHdr) (body : W64) (s : State) : Res := .next ((s.tick t).mateRecord h (.heartbeat body))
/-- STOP (R234, R243). -/
def execStopRecord (t : Nat) (h : RecHdr) (lastFrame : W16) (cause : BitVec 3) (s : State) : Res :=
  .next ((s.tick t).mateRecord h (.stop lastFrame cause))
/-- HANDOVER_RECORD (R234, R243). -/
def execHandoverRecord (t : Nat) (h : RecHdr) (mark : W16) (epoch : W8) (s : State) : Res :=
  .next ((s.tick t).mateRecord h (.handover mark epoch))
/-- MAP_ENTRIES (R234, R236). -/
def execMapEntries (t : Nat) (h : RecHdr) (entries : List (BitVec 25 × W64)) (s : State) : Res :=
  .next ((s.tick t).mateRecord h (.mapEntries (entries.map fun e => (e.1.toNat, e.2))))
/-- COMMIT_ARM (R234, R236). -/
def execCommitArm (t : Nat) (h : RecHdr) (target checkId : W16) (sent : W32) (s : State) : Res :=
  .next ((s.tick t).mateRecord h (.commitArm target checkId sent))
/-- COMMIT_CANCEL (R234, R236). -/
def execCommitCancel (t : Nat) (h : RecHdr) (target : W16) (s : State) : Res :=
  .next ((s.tick t).mateRecord h (.commitCancel target))
/-- SEL_STATE (R234, R237). -/
def execSelState (t : Nat) (h : RecHdr) (items : List W64) (s : State) : Res := .next ((s.tick t).mateRecord h (.selState items))
/-- HISTORY (R234, R239). -/
def execHistoryRecord (t : Nat) (h : RecHdr) (offset : W32) (recorded : Bool) (fn : W16) (s : State) : Res :=
  .next ((s.tick t).mateRecord h (.history offset recorded fn))
/-- SETTINGS (R234, R238). -/
def execSettingsRecord (t : Nat) (h : RecHdr) (off total : W32) (d : List W32) (data : List W8) (s : State) : Res :=
  .next ((s.tick t).mateRecord h (.settings off total d data))
/-- RESYNC_BEGIN (R234, R241). -/
def execResyncBegin (t : Nat) (h : RecHdr) (fn : W16) (s : State) : Res := .next ((s.tick t).mateRecord h (.resyncBegin fn))
/-- RESYNC_DATA (R234, R241). -/
def execResyncData (t : Nat) (h : RecHdr) (d : ResyncPiece) (s : State) : Res :=
  .next ((s.tick t).mateRecord h (.resyncData d.region.val d.off d.data))
/-- RESYNC_END (R234, R241). -/
def execResyncEnd (t : Nat) (h : RecHdr) (records : W32) (s : State) : Res := .next ((s.tick t).mateRecord h (.resyncEnd records))
/-- RESYNC_REQ (R234, R241). -/
def execResyncReq (t : Nat) (h : RecHdr) (s : State) : Res := .next ((s.tick t).mateRecord h .resyncReq)

/-! ### Mirrored commits (R236) -/

/-- MIRRORED_SWAP (R236): at T_t the standby swaps if the heartbeat of frame t − 1 came with ACTING = 1; otherwise it discards the
commit, and asks for a resynchronisation where the holder may have swapped. -/
def execMirroredSwap (t : Nat) (s : State) : Res :=
  let s := s.tick t
  match s.mate.mcommit with
  | none => .next s
  | some c =>
    if c.target = s.fn ∧ s.core.started = true ∧ s.now = s.core.markT then
      match s.mate.hb.filter fun b => decide (b.fn = s.fn - 1) with
      | some b =>
        if b.body.getLsbD 0 then
          let pk := s.shadowPeak
          let s := (s.mapMap fun m => { m with peakLoad := pk.1, peakBank := pk.2 }).mapMate fun m => { m with mcommit := none }
          .next s.swapPages
        else .next (s.discardMirrored false)
      | none => .next (s.discardMirrored s.mateUp)
    else .next s

/-! ### Resynchronisation (R241) -/

/-- The mirrored settings (R238): their registers, and in TMG_REF_STAT and TMG_STATE only the bits of external commands. -/
def settingRegs : List (Nat × W32) :=
  [(0x40060000, 0x1FFFFB), (0x40050000, 0xFFFFFFFF), (0x40050004, 0xFFFFFFFF), (0x40050008, 0xFFFFFFFF), (0x40050020, 0xFFFFFFFF),
    (F.MAP_HERD_CFG_HERD_FAN.addr, 0xFFFFFFFF), (F.TMG_STATE_FORCE_HO.addr, maskOf F.TMG_STATE_FORCE_HO.lo 1)] ++
  ((List.range 16).flatMap fun n => [(0x40050100 + 4 * n, 0xFFFFFFFF),
    (0x40050140 + 4 * n, maskOf (F.TMG_REF_STAT_LOCKOUT n).lo 1 ||| maskOf (F.TMG_REF_STAT_FORCED n).lo 1)])

/-- The registers of line groups: LINE_GRP, LINE_STATE, APS_TX. -/
def groupRegs : List Nat := (List.range 48).flatMap fun w => [0x40090100 + 4 * w, 0x40090200 + 4 * w, 0x40090300 + 4 * w]

/-- The registers of line groups as a snapshot has them: running timers with the time that is left (R241). -/
def State.groupWords (s : State) : List (Nat × W32) :=
  (List.range 48).flatMap fun w => [(0x40090100 + 4 * w, s.reg (0x40090100 + 4 * w)),
    (0x40090200 + 4 * w, BitVec.ofNat 32 (s.lineStateShown w)), (0x40090300 + 4 * w, s.reg (0x40090300 + 4 * w))]

/-- The regions of a snapshot (R241); an entry that the host has written since the last passed check counts as it was then. -/
def State.snapshot (s : State) : List Region :=
  [.page false s.active,
   .page true ((s.map.dirty.map fun x => (x.1, (Store.get (fun _ => none) s.map.before x.1).getD (entryAt s.shadow x.1))) ++
     ((herdUsed s.active ++ herdUsed s.shadow).map fun a => (a, entryAt s.shadow a))),
   .sels (s.sel.sels.map fun x => (x.1, s.selShown x.1)), .mons s.sel.mons, .words 4 (s.groupWords),
   .words 5 (settingRegs.map fun x => (x.1, s.reg x.1 &&& x.2)),
   .words 6 ((s.tmg.hist.zipIdx.filterMap fun x => x.1.map fun f => (x.2, sat32 f)))]

/-- RESYNC_START (R241, R294): at its next frame mark the holder takes a snapshot and sends it, unless suspended work makes it wait
(R318). -/
def execResyncStart (t : Nat) (s : State) : Res :=
  let s := s.tick t
  if s.mate.reqPend = true ∧ s.acting = true ∧ s.core.started = true ∧ s.now = s.core.markT ∧ s.mode ≠ 0
      ∧ s.flag F.CORE_STATUS_BG_SUSPENDED = false then
    let s := (s.resetMaster 7).mapMate fun m => { m with reqPend := false }
    let rs := s.snapshot
    let s := rs.foldl (fun s r => s.sendRec (.resyncAll r) true) (s.sendRec (.resyncBegin s.fn) true)
    .next (s.sendRec (.resyncEnd (BitVec.ofNat 32 ((rs.map Region.records).sum + 2))) true)
  else .next s

/-- Put one received word into force; the page is the one that comes into service. -/
def State.putWord (s : State) (x : Nat × Nat × W64) : State :=
  let k := x.2.1
  let w := x.2.2
  let a := bits w.toNat 0 32
  let v : W32 := BitVec.ofNat 32 (bits w.toNat 32 32)
  match x.1 with
  | 0 => if k < 2 ^ 25 then s.setPage s.shadowNo (putEntry s.shadow k w) else s
  | 2 =>
    if k < 2 ^ 21 then s.mapSel fun y =>
      let old := (Store.get selDefault y.sels (k / 2)).toNat
      let new := if k % 2 = 0 then old / 2 ^ 64 * 2 ^ 64 + w.toNat else old % 2 ^ 64 + w.toNat * 2 ^ 64
      { y with sels := Store.put selDefault y.sels (k / 2) (BitVec.ofNat 128 new) }
    else s
  | 3 => if k < 2 ^ 21 then s.mapSel fun y => { y with mons := Store.put monDefault y.mons k w } else s
  | 4 => if groupRegs.contains a then s.setReg a v else s
  | 5 => match settingRegs.find? fun y => decide (y.1 = a) with
      | some y => s.setReg a ((s.reg a &&& ~~~y.2) ||| (v &&& y.2))
      | none => s
  | 6 => s.mapTmg fun y => { y with mateHist := y.mateHist ++ [(s.now - a * secTicks, v.toInt)] }
  | _ => s

/-- Slots and entries that a row of words spells in turn. -/
def entryPairs : List W64 → List (Nat × W64)
  | a :: e :: ws => (a.toNat % 2 ^ 25, e) :: entryPairs ws
  | _ => []

/-- The checked shadow entries among the received words. -/
def shadowEntries (got : List (Nat × Nat × W64)) : List (Nat × W64) := entryPairs ((got.filter fun x => decide (x.1 = 1)).map fun x => x.2.2)

/-- The timers of the received selectors and groups run on from the time left (R125, R241). -/
def State.timersReceived (s : State) : State :=
  let run := fun (l : List (Nat × Option Nat)) (k : Nat) => Store.put (fun _ => none) l k (some s.now)
  let sels := s.validSels.filter fun i => vTph (s.selAt i) != 0
  let grps := (List.range 48).filter fun w => gUsed (s.grp w) && (s.pvOfGrp w).tph != 0
  s.mapSel fun x => { x with timers := (sels ++ grps.map (protKey true)).foldl run [] }

/-- The standby swaps to the received state (R241): the received page with its herd entries in service, the checked shadow entries
over it in the other page. -/
def State.swapReceived (s : State) (got : List (Nat × Nat × W64)) : State :=
  let s := s.mapMap fun m => { m with before := [], dirty := [], redir := [], moved := [], copy := none }
  let s := s.mapSel fun x => { x with sels := [], mons := [], runs := [], held := [], exer := [], shadow := [] }
  let s := (s.setPage s.shadowNo []).mapTmg fun x => { x with mateHist := [] }
  let s := (got.foldl State.putWord s).timersReceived
  let es := shadowEntries got
  let s := s.wr F.MAP_STATUS_ACTIVE_PAGE s.shadowNo
  let s := (s.setShadow (es.foldl (fun p e => putEntry p e.1 e.2) s.active)).mapMap fun m =>
    { m with dirty := es.foldl (fun d e => if e.1 < lineSlots then Store.put (fun _ => false) d e.1 (decide (e.2 ≠ entryAt s.active e.1)) else d) [] }
  let s := if s.rd F.MAP_STATUS_STATE = 4 then s.wr F.MAP_STATUS_STATE 0 else s
  let s := ((s.wr F.MAP_FN_LAST_SWAP_FN s.fn.toNat).raise F.MAP_INT_SWAP).bump F.MAP_COMMIT_CNT_COUNT 1
  let pk := peak (pageLoads s.checkEnv s.active)
  let s := ((s.wr F.MAP_HERD_USE_IN_USE (herdUsed s.active).length).wr F.MAP_BANK_PEAK_LOAD pk.1).wr F.MAP_BANK_PEAK_BANK pk.2
  let s := ((s.setFlag F.MAP_STATUS_CHECK_VALID false).showDirty.showSelUse.showMonUse).countRefs
  ((s.mapCore fun c => { c with
      samp := { c.samp with page := s.active, pageNo := s.activeNo, sels := s.sel.sels, held := s.sel.held, groups := s.groups } }).mapMate
    fun m => { m with sent := 0, selQ := [] }).reherd

/-- RESYNC_SWAP (R241): at the first frame mark after RESYNC_END the standby swaps to the received state; STALE clears, and the
records that waited are applied in order. Suspended work makes it wait (R318). -/
def execResyncSwap (t : Nat) (s : State) : Res :=
  let s := s.tick t
  match s.mate.rs with
  | none => .next s
  | some r =>
    if r.ended = true ∧ s.core.started = true ∧ s.now = s.core.markT ∧ s.acting = false
        ∧ s.flag F.CORE_STATUS_BG_SUSPENDED = false then
      let s := (s.mapMate fun m => { m with rs := none, synced := true, seenMate := true }).swapReceived r.got
      let s := (s.setFlag F.PAIR_STAT_STALE false).raise F.PAIR_INT_RESYNC_DONE
      let s := r.later.foldl (fun s r => if s.mate.reqSent then s else (s.noteRec r).applyBody r.last r.body) s
      .next s.refreshPair
    else .next s

end Sys2Proof.Machine
end

