-- ==== Sys2Proof/Machine/Power.lean ====
section
/-! DEFINITION. Machine/Power.lean: supply and budgets, the release of background work, scrub, spot checks, bank rotation and
self-tests (spec/12). -/
namespace Sys2Proof.Machine

/-! ### AVSBus and budgets (R309, R310, R314, R315) -/

/-- When a periodic event of PWR last took place: ranks 1 to 7 of R316, 8 the estimates, 9 the readback. -/
def State.lastOf (s : State) (k : Nat) : Nat := Store.get (fun _ => 0) s.pwr.last k
/-- A unit of a rank completes now. -/
def State.setLast (s : State) (k : Nat) : State := s.mapPwr fun w => { w with last := Store.put (fun _ => 0) w.last k s.now }

/-- AVS_READBACK (R309, R310): every 1 ms; `ok`: a transaction succeeded within its retries; `mv`: the voltage read. -/
def execAvsReadback (t : Nat) (ok : Bool) (mv : BitVec 10) (s : State) : Res :=
  let s := s.tick t
  if s.lastOf 9 + msTicks ≤ s.now then
    let s := s.setLast 9
    let cmd := s.rd F.PWR_VCORE_CMD_MV
    let agrees := ok && decide (mv.toNat ≤ cmd + 20) && decide (cmd ≤ mv.toNat + 20)
    let s := if ok then s.wr F.PWR_VCORE_READ_MV mv.toNat else s
    let n := if agrees ∨ ok = false then 0 else s.pwr.misreads + 1
    let s := s.mapPwr fun w => { w with misreads := n }
    if agrees then .next (s.setFlag F.BG_STATUS_AVS_FAIL false)
    else if ok = false ∨ 3 ≤ n then .next (((s.raise F.BG_STATUS_AVS_FAIL).raise F.PWR_INT_AVS_ERR).commandV 800)
    else if s.flag F.BG_STATUS_AVS_FAIL then .next (s.commandV 800)
    else .next s
  else .next s

/-- POWER_ESTIMATE (R314, R315): every 1 ms; BASE and TOTAL in 10 mW, Tj in degrees. -/
def execPowerEstimate (t : Nat) (base total : W16) (tj : BitVec 8) (s : State) : Res :=
  let s := s.tick t
  if s.lastOf 8 + msTicks ≤ s.now then
    let s := ((s.setLast 8).wr F.PWR_EST_BASE base.toNat).wr F.PWR_EST_TOTAL total.toNat
    let s := s.wr F.PWR_TEMP_TJ tj.toNat
    let s := if (BitVec.ofNat 8 (s.rd F.PWR_TEMP_TJ_MAX)).toInt < tj.toInt then s.wr F.PWR_TEMP_TJ_MAX tj.toNat else s
    let pmax := s.rd F.PWR_BUDGET_PMAX
    let above := decide (pmax ≠ 0) && decide (pmax < base.toNat)
    let s := s.mapPwr fun w => { w with overSince := if above then some (w.overSince.getD s.now) else none }
    let long := s.pwr.overSince.any fun t0 => decide (t0 + 100 * msTicks ≤ s.now)
    let s := if long ∧ s.flag F.BG_STATUS_OVER_BUDGET = false then (s.raise F.BG_STATUS_OVER_BUDGET).raise F.PWR_INT_OVER_BUDGET
      else if pmax = 0 ∨ base.toNat + 20 < pmax then s.setFlag F.BG_STATUS_OVER_BUDGET false else s
    let lim : Int := s.rd F.PWR_BUDGET_TJ_LIMIT
    if lim ≤ tj.toInt ∧ s.flag F.BG_STATUS_OVER_TEMP = false then .next ((s.raise F.BG_STATUS_OVER_TEMP).raise F.PWR_INT_OVER_TEMP)
    else if tj.toInt < lim - 3 then .next (s.setFlag F.BG_STATUS_OVER_TEMP false)
    else .next s
  else .next s

/-- POWER_BUDGET (R315). -/
def execPowerBudget (x : Exe) (s : State) : Res :=
  .next (s.run .powerBudget x (fun _ d => onlyBits (word d 2) 0xFFFFFF) fun s d =>
    let pmax := bits (word d 2) 0 16
    let tj := bits (word d 2) 16 8
    if (pmax ≠ 0 ∧ (pmax < 500 ∨ 4000 < pmax)) ∨ tj < 50 ∨ 105 < tj then .refuse .badParam
    else .ok ((s.wr F.PWR_BUDGET_PMAX pmax).wr F.PWR_BUDGET_TJ_LIMIT tj) [s.reg 0x40030008])

/-! ### The release of background work (R316, R317) -/

/-- A deferrable task with work: rank, time since its last unit and period (their quotient is the ratio), power. -/
structure Task where
  rank : Nat
  num : Nat
  den : Nat
  power : Nat
  deriving DecidableEq, Repr

/-- Ticks of a scrub unit's period (R316). -/
def State.scrubPeriod (s : State) : Nat := minTicks * s.rd F.BG_CTRL_SCRUB_MIN / 576
/-- Ticks of a spot check's period; a smaller value is taken as 8 frames. -/
def State.spotPeriod (s : State) : Nat := frameTicks * max 8 (s.rd F.BG_CTRL_SPOT_PERIOD)

/-- A periodic task: it has work once its period has passed, or when a SELFTEST names it, with a ratio of at least 4 (R317). -/
def State.periodic (s : State) (rank : Nat) (en : Bool) (period power test : Nat) : List Task :=
  let since := s.now - s.lastOf rank
  if s.testRunning test then [{ rank := rank, num := max since (4 * period), den := period, power := power }]
  else if en && decide (period ≤ since) then [{ rank := rank, num := since, den := period, power := power }]
  else []

/-- The deferrable tasks with work (R316). -/
def State.tasks (s : State) : List Task :=
  s.periodic 3 (s.flag F.BG_CTRL_SCRUB_EN) s.scrubPeriod 15 0x02 ++
  s.periodic 4 (s.flag F.BROT_CTRL_EN) (frameTicks * s.brotPeriod) 5 0x01 ++
  s.periodic 5 (s.flag F.BG_CTRL_SPOT_EN) s.spotPeriod 2 0x03 ++
  (if s.testRunning 0x04 then [{ rank := 6, num := 4, den := 1, power := 8 }] else []) ++
  (if s.testRunning 0x05 then [{ rank := 7, num := 4, den := 1, power := 3 }] else [])

/-- Put a task behind those of higher ratio, and of lower rank at the same ratio. -/
def insertTask (x : Task) : List Task → List Task
  | [] => [x]
  | y :: ys => if y.num * x.den < x.num * y.den then x :: y :: ys else y :: insertTask x ys

/-- Release tasks in order while the headroom lasts (R317); `none`: no power limit. -/
def releaseTasks : List Task → Option Int → Nat
  | [], _ => 0
  | x :: xs, hp =>
    if 4 * x.den < x.num ∨ hp.all (fun h => decide ((x.power : Int) ≤ h)) = true then
      2 ^ (x.rank - 1) + releaseTasks xs (hp.map fun h => h - x.power)
    else releaseTasks xs hp

/-- The governor's release at a record close with a minimum slack (R317). -/
def State.releaseWork (s : State) (slack : Nat) : State :=
  let tasks := s.tasks
  let starved := ((tasks.filter fun x => decide (4 * x.den < x.num)).map fun x => 2 ^ (x.rank - 1)).sum
  let old := s.rd F.BG_STATUS_STARVED
  let s := (s.wr F.BG_STATUS_STARVED starved).raiseIf (decide (starved &&& (127 - old) ≠ 0)) F.PWR_INT_BG_STARVED
  if s.flag F.CORE_STATUS_BG_SUSPENDED then s.wr F.BG_STATUS_RELEASED 0
  else
    let b1 := s.resyncing || (s.acting && s.mate.reqPend)
    let b2 := s.map.check.isSome || s.map.copy.isSome
    let bound := b2n b1 + 2 * b2n b2
    if slack < s.rd F.CANDLE_CFG_SLACK_TARGET ∨ s.flag F.BG_STATUS_OVER_TEMP = true then s.wr F.BG_STATUS_RELEASED bound
    else
      let pmax := s.rd F.PWR_BUDGET_PMAX
      let hp : Option Int := if pmax = 0 then none else some ((pmax : Int) - s.rd F.PWR_EST_BASE - 40 * b2n b1 - 60 * b2n b2)
      s.wr F.BG_STATUS_RELEASED (bound + releaseTasks (tasks.foldl (fun l x => insertTask x l) []) hp)

/-- The task of a rank is released (R317). -/
def State.released (s : State) (rank : Nat) : Bool := s.bitAt F.BG_STATUS_RELEASED (rank - 1)

/-! ### Bank rotation (R102, R317, R320) -/

/-- One rotation step of every group; the banks that moves free are those of a BANK_ROT test. -/
def State.rotateAll (s : State) : State × List Nat :=
  (List.range 32).foldl (fun z j =>
    let s := z.1
    if s.groupBusy j then z else match s.stalest j with
      | none => z
      | some x => (s.startMove x false, if (s.freshSpare j).isSome then z.2 ++ [x] else z.2)) (s, [])

/-- BANK_ROTATION_STEP (R102, R317, R320): with EN = 1 and PERIOD frames passed, or for a BANK_ROT test, and rotation released, each
group moves its oldest-tested bank onto its freshest spare. -/
def execBankRotationStep (t : Nat) (rplOk : Bool) (s : State) : Res :=
  let s := s.tick t
  let test := s.testRunning 0x01 && decide (s.pwr.rotating = [])
  if s.released 4 = true ∧ s.flag F.CORE_STATUS_BG_SUSPENDED = false ∧
      (test = true ∨ (s.flag F.BROT_CTRL_EN = true ∧ s.brotPeriod ≤ s.eng.brot)) then
    let (s, moved) := ((s.mapEng fun e => { e with brot := 0 }).setLast 4).rotateAll
    if test then
      if moved.isEmpty then .next (s.endRun 0x01 true 0 0 rplOk) else .next (s.mapPwr fun w => { w with rotating := moved })
    else .next s
  else .next s

/-- MARCH_TEST_DONE (R102, R103, R249, R320): the test of a freed bank ends; it becomes a spare or is retired. -/
def execMarchTestDone (t : Nat) (x : Fin 2112) (pass rplOk : Bool) (s : State) : Res :=
  let s := s.tick t
  let mine := s.pwr.rotating.contains x.val && Store.get (fun _ => false) s.eng.testing x.val
  let s := ((s.marchDone x.val pass).refreshFault).refreshPair
  if mine then
    let s := s.mapPwr fun w => { w with rotating := w.rotating.filter fun y => decide (y ≠ x.val) }
    let s := s.mapRun 0x01 fun r => { r with w2 := r.w2 + 1, w3 := if pass then r.w3 else r.w3 + 1 }
    match s.runOfTest 0x01 with
    | some r => if s.pwr.rotating = [] then .next (s.endRun 0x01 (decide (r.w3 = 0)) r.w2 r.w3 rplOk) else .next s
    | none => .next s
  else .next s

/-! ### Scrub (R318) -/

/-- What a scrub unit found: words corrected and words uncorrectable. -/
structure Found where
  s : State
  ce : Nat
  ue : Nat

/-- The scrub reads one entry of a page. -/
def scrubEntry (n : Nat) (f : Found) (a : Nat) : Found :=
  match decode54 (entryAt (f.s.page n) a) with
  | .fine _ => f
  | .fixed v => { f with s := f.s.setPage n (putEntry (f.s.page n) a v), ce := f.ce + 1 }
  | .bad => { f with s := f.s.readEntry { f.s.core.samp with pageNo := n, page := f.s.page n } a, ue := f.ue + 1 }

/-- The scrub reads one selector. -/
def scrubSel (f : Found) (i : Nat) : Found :=
  match decode114 (f.s.selRaw i) with
  | .fine _ => f
  | .fixed v => { f with s := f.s.setSel i v, ce := f.ce + 1 }
  | .bad => { f with ue := f.ue + 1 }

/-- The scrub reads one monitor. -/
def scrubMon (f : Found) (i : Nat) : Found :=
  match decode54 (f.s.monRaw i) with
  | .fine _ => f
  | .fixed v => { f with s := f.s.setMon i v, ce := f.ce + 1 }
  | .bad => { f with ue := f.ue + 1 }

/-- Bits of selectors flip before they are read: a correctable one is left for the scrub to correct, an uncorrectable one is noted
(R130). -/
def State.upsetSel (s : State) (x : Nat × W128) : State :=
  let w := s.selRaw x.1 ^^^ x.2
  match decode114 w with
  | .bad => s.readSel x.1 w
  | _ => s.setSel x.1 w

/-- Bits of monitors flip before they are read; what watches a monitor that turns uncorrectable is evaluated (R130). -/
def State.upsetMon (s : State) (x : Nat × W64) : State :=
  let w := s.monRaw x.1 ^^^ x.2
  match decode54 w with
  | .bad =>
    let z := s.readMon x.1 w
    if z.2 then
      let sels := z.1.watchers x.1
      let grps := z.1.grpWatchers x.1
      (z.1.openBurst (!sels.isEmpty || !grps.isEmpty)).evalAll sels grps
    else z.1
  | _ => s.setMon x.1 w

/-- Unit `u` of the scrub (R318): 256 units for each map page, 16 for the selectors, 16 for the monitors, 32 for the compiler area,
whose contents are the device's own: `ce`, `ue` found there. -/
def State.scrub (s : State) (u : Nat) (mapUp : List (Nat × W64)) (selUp : List (Nat × W128)) (monUp : List (Nat × W64)) (ce ue : Nat) : Found :=
  let keys := fun (lo hi : Nat) (l : List Nat) => l.filter fun a => decide (lo ≤ a) && decide (a < hi)
  if u < 512 then
    let lo := 131072 * (u % 256)
    let n := u / 256
    let s := s.setPage n (upsetPage (s.page n) (mapUp.filter fun x => decide (lo ≤ x.1) && decide (x.1 < lo + 131072)))
    (keys lo (lo + 131072) ((s.page n).map Prod.fst)).foldl (scrubEntry n) { s := s, ce := 0, ue := 0 }
  else if u < 528 then
    let lo := (u - 512) * 65536
    let s := (selUp.filter fun x => decide (lo ≤ x.1) && decide (x.1 < lo + 65536)).foldl State.upsetSel s
    (keys lo (lo + 65536) (s.sel.sels.map Prod.fst)).foldl scrubSel { s := s, ce := 0, ue := 0 }
  else if u < 544 then
    let lo := 131072 * (u - 528)
    let s := (monUp.filter fun x => decide (lo ≤ x.1) && decide (x.1 < lo + 131072)).foldl State.upsetMon s
    (keys lo (lo + 131072) (s.sel.mons.map Prod.fst)).foldl scrubMon { s := s, ce := 0, ue := 0 }
  else { s := s, ce := ce, ue := ue }

/-- SCRUB_UNIT (R318, R320): the next MiB of the map stack is scrubbed while the scrub is released. `mapUp`, `selUp`, `monUp`: bits
that flipped before they were read. -/
def execScrubUnit (t : Nat) (mapUp : List (BitVec 25 × W64)) (selUp : List (BitVec 20 × W128)) (monUp : List (BitVec 21 × W64))
    (ce ue : Nat) (rplOk : Bool) (s : State) : Res :=
  let s := s.tick t
  if s.released 3 = true ∧ s.pwr.march = 0 then
    let u := s.pwr.scrubPos
    let f := s.scrub u (mapUp.map fun x => (x.1.toNat, x.2)) (selUp.map fun x => (x.1.toNat, x.2)) (monUp.map fun x => (x.1.toNat, x.2)) ce ue
    let s := ((f.s.inc F.SCRUB_CE_CNT_COUNT f.ce).raiseIf (decide (0 < f.ue)) F.PWR_INT_SCRUB_UE).setLast 3
    let s := s.mapPwr fun w => { w with scrubPos := (u + 1) % 576 }
    let s := if u = 575 then s.bump F.SCRUB_PASSES_COUNT 1 else s
    let s := s.mapRun 0x02 fun r => { r with left := r.left - 1, w2 := r.w2 + BitVec.ofNat 32 f.ce, w3 := r.w3 + BitVec.ofNat 32 f.ue }
    match s.runOfTest 0x02 with
    | some r => if r.left = 0 then .next (s.endRun 0x02 (decide (r.w3 = 0)) r.w2 r.w3 rplOk) else .next s
    | none => .next s
  else .next s

/-! ### Spot checks (R319) -/

/-- Checks of an engine and one more than its check count at its last charge (0: never charged). -/
def State.spot (s : State) (e : Nat) : Nat × Nat := Store.get (fun _ => (0, 0)) s.pwr.spots e

/-- SPOT_CHECK (R319, R320): the next engine is checked while spot checks are released; `bad`: the engine whose copy differs from
the other two. -/
def execSpotCheck (t : Nat) (bad : Option (Fin 256)) (rplOk : Bool) (s : State) : Res :=
  let s := s.tick t
  if s.released 5 then
    let e := s.pwr.spotNext
    let s := s.mapPwr fun w =>
      { w with spotNext := (e + 1) % 256, spots := Store.put (fun _ => (0, 0)) w.spots e ((s.spot e).1 + 1, (s.spot e).2) }
    let s := s.setLast 5
    let s := match bad with
      | none => s
      | some b =>
        let x := s.spot b.val
        let twice := decide (x.2 ≠ 0) && decide (x.1 - (x.2 - 1) < 64)
        let s := (s.inc F.SPOT_MISS_CNT_COUNT 1).raise F.PWR_INT_SPOT_FAIL
        let s := s.mapPwr fun w => { w with spots := Store.put (fun _ => (0, 0)) w.spots b.val (x.1, x.1 + 1), unrec := w.unrec || twice }
        (s.refreshFault).refreshPair
    let s := s.mapRun 0x03 fun r => { r with left := r.left - 1, w2 := r.w2 + 1, w3 := if bad.isSome then r.w3 + 1 else r.w3 }
    match s.runOfTest 0x03 with
    | some r => if r.left = 0 then .next (s.endRun 0x03 (decide (r.w3 = 0)) r.w2 r.w3 rplOk) else .next s
    | none => .next s
  else .next s

/-! ### SELFTEST (R320 to R324) -/

/-- A standby with the lamp released (R321). -/
def State.released0 (s : State) : Bool :=
  (s.mode == 1 || s.mode == 2) && !s.acting && s.pair.lease.isNone && s.pair.guardAt.isNone && s.mateUp && s.flag F.PAIR_STAT_MATE_ACTING

/-- TEST of a SELFTEST. -/
def testOf (d : List W32) : Nat := bits (word d 2) 0 8
/-- PORT of a SELFTEST. -/
def testPort (d : List W32) : Nat := bits (word d 2) 8 6

/-- The BAD_PARAM cases of SELFTEST that depend on the port (R321). -/
def State.testPortOk (s : State) (d : List W32) : Bool :=
  let p := testPort d
  if testOf d = 0x04 ∨ testOf d = 0x10 then
    decide (p < 48) && s.prtMode p != 0 && !s.member p && (testOf d != 0x04 || (s.enabled p && decide (s.depth p ≤ 1)))
  else true

/-- The RUN_ID of the next run: 0xFFFF names the most recent one and is left out. -/
def State.nextRun (s : State) : Nat := if s.pwr.runId + 1 = 65535 ∨ 65536 ≤ s.pwr.runId + 1 then 0 else s.pwr.runId + 1

/-- An intrusive test runs (R320). -/
def State.intrusive (s : State) : Bool := s.testRunning 0x10 || s.testRunning 0x11

/-- The units of a test: scrub units, engines. -/
def testUnits (t : Nat) : Nat := if t = 0x02 then 576 else if t = 0x03 then 256 else 1

/-- SELFTEST (R320 to R323). -/
def execSelftest (x : Exe) (s : State) : Res :=
  .next (s.run .selftest x
    (fun _ d => onlyBits (word d 2) 0x3FFF && [0x01, 0x02, 0x03, 0x04, 0x05, 0x10, 0x11].contains (testOf d))
    fun s d =>
      let test := testOf d
      let p := testPort d
      if (if test = 0x10 then word d 3 = 0 ∨ 60000 < word d 3 else word d 3 ≠ 0) ∨ s.testPortOk d = false then .refuse .badParam
      else if s.intrusive || s.testRunning test then .refuse .busy
      else if (test = 0x10 ∧ s.enabled p = true ∧ s.released0 = false) ∨ (test = 0x11 ∧ s.released0 = false) then .refuse .selftestRefused
      else
        let id := s.nextRun
        let r : TestRun := { id := id, test := test, port := p, pass := false, w2 := 0, w3 := 0, left := testUnits test, done := false }
        let s := s.mapPwr fun w =>
          { w with runId := id, runs := r :: (w.runs.zipIdx.filter fun q => decide (q.2 < 15) || !q.1.done).map Prod.fst }
        let s := if test = 0x10 then
            (s.mapPwr fun w => { w with prbs := Store.put (fun _ => none) w.prbs p (some (s.now + word d 3 * msTicks)) }).mapDyn p
              fun y => { y with tx := 3 }
          else if test = 0x11 then (s.mapPwr fun w => { w with march := 1 }).refreshPair
          else s
        .accepted s [BitVec.ofNat 32 id])

/-- SELFTEST_RESULT (R320): a run that has not completed has no words to repeat (log entry 13). -/
def execSelftestResult (x : Exe) (s : State) : Res :=
  .next (s.run .selftestResult x (fun _ d => onlyBits (word d 2) 0xFFFF) fun s d =>
    let id := word d 2
    let kept := s.pwr.runs.take 16
    match (if id = 0xFFFF then kept.head? else kept.find? fun r => decide (r.id = id)) with
    | none => .refuse .badParam
    | some r => if r.done then .ok s r.words else .refuse .badParam)

/-- EYE_SCAN_DONE (R320): the opening of the worst lane in 1/64 UI and in mV; the manual gives no limit for PASS: a free value. -/
def execEyeScanDone (t : Nat) (width height : W16) (worst : Fin 4) (rplOk : Bool) (s : State) : Res :=
  let s := s.tick t
  if s.testRunning 0x04 = true ∧ s.released 6 = true then
    let pass := bitOf (Config.freeWord s.fresh).toNat 0
    let s := { s with fresh := s.fresh + 1 }
    .next ((s.setLast 6).endRun 0x04 pass (BitVec.ofNat 32 (width.toNat + 65536 * height.toNat)) (BitVec.ofNat 32 worst.val) rplOk)
  else .next s

/-- LANE_PRBS_END (R320, R322): ARG ms have passed. -/
def execLanePrbsEnd (t : Nat) (p : Port) (errors : W32) (unlocked : BitVec 4) (rplOk : Bool) (s : State) : Res :=
  let s := s.tick t
  match Store.get (fun _ => none) s.pwr.prbs p.val with
  | none => .next s
  | some e =>
    if e ≤ s.now then
      let s := s.endPrbs p.val
      let s := s.mapPwr fun w => { w with unrec := w.unrec || decide (unlocked ≠ 0) }
      .next ((s.endRun 0x10 (decide (errors = 0) && decide (unlocked = 0)) errors (BitVec.ofNat 32 unlocked.toNat) rplOk).refreshFault.refreshPair)
    else .next s

/-- STACK_MARCH_DONE (R323): the map stack's test ends with empty tables, and the device asks for a resynchronisation. -/
def execStackMarchDone (t : Nat) (failed first : W32) (rplOk : Bool) (s : State) : Res :=
  let s := s.tick t
  if s.pwr.march = 2 then
    let s := s.endMarch.mapPwr fun w => { w with unrec := w.unrec || decide (failed ≠ 0) }
    let s := s.endRun 0x11 (decide (failed = 0)) failed first rplOk
    .next (s.refreshFault.wantResync.refreshPair)
  else .next s

/-- A firmware reset stops the tests (R324). -/
def State.stopTests (s : State) : State :=
  let s := [0x01, 0x02, 0x03, 0x04, 0x05, 0x10, 0x11].foldl State.dropRun s
  let s := (s.pwr.prbs.map Prod.fst).foldl State.endPrbs s
  let s := s.mapPwr fun w => { w with rotating := [] }
  if s.pwr.march = 0 then s else s.endMarch.wantResync.refreshPair

end Sys2Proof.Machine
end

