-- ==== Sys2Proof/Machine/Tally.lean ====
section
/-! DEFINITION. Machine/Tally.lean: programmable counters, slot accounting, dumps, the user view and the close of candle records
(spec/13, spec/04 R105). -/
namespace Sys2Proof.Machine

/-- Change the TALLY state outside its registers. -/
def State.mapTally (s : State) (f : TallySt → TallySt) : State := { s with tally := f s.tally }
/-- Change the state of the pins. -/
def State.mapPins (s : State) (f : PinSt → PinSt) : State := { s with pins := f s.pins }

/-! ### Definitions (R328, R329) -/

/-- Highest ARG of a count event; `none`: not one. -/
def countArg (c : Nat) : Option Nat :=
  if [0x01, 0x02, 0x03, 0x04, 0x05, 0x10, 0x11, 0x20, 0x21, 0x50, 0x70].contains c then some 0
  else if c = 0x30 then some 8 else if c = 0x40 then some 47 else none

/-- Highest ARG of an occupancy; `none`: not one. -/
def occArg (c : Nat) : Option Nat :=
  if [0x06, 0x07, 0x09, 0x12, 0x22, 0x51, 0x60, 0x71].contains c then some 0
  else if c = 0x08 then some 2047 else if c = 0x31 then some 15 else if c = 0x41 then some 47 else none

/-- A definition that R329 admits; its reserved bits are zero (R12). -/
def defOk (e : Nat) : Bool :=
  onlyBits e 0x7FFFFF && match (if evMode e = 0 then countArg (evEvent e) else occArg (evEvent e)) with
    | some hi => decide (evArg e ≤ hi)
    | none => false

/-! ### Counts (R326, R327, R335) -/

/-- The count of counter `n` with its wraps. -/
def State.cntVal (s : State) (n : Nat) : CntVal :=
  { count := s.reg (0x40040400 + 4 * n), wraps := s.rd (F.TALLY_CNT_ST_WRAPS n), ovf := s.flag (F.TALLY_CNT_ST_OVF n) }

/-- Counter `n` starts a new interval from zero. -/
def State.zeroCnt (s : State) (n : Nat) : State :=
  ((s.wr (F.TALLY_CNT_COUNT n) 0).wr (F.TALLY_CNT_ST_WRAPS n) 0).setFlag (F.TALLY_CNT_ST_OVF n) false

/-- The 64-bit entry of counter `n` (R335). -/
def State.cntEntry (s : State) (n : Nat) (chg : Bool) : Nat :=
  let e := s.tallyEvt n
  let v := s.cntVal n
  v.count.toNat + 2 ^ 32 * evEvent e + 2 ^ 40 * evArg e + 2 ^ 51 * evMode e + 2 ^ 53 * v.wraps + 2 ^ 57 * b2n v.ovf +
    2 ^ 58 * b2n chg + 2 ^ 59 * b2n (evEn e)

/-- What the active engine count adds to a counter of event 0x06 for the frame period that ends (R328): A is constant in a period. -/
def State.activeAdd (s : State) (n : Nat) : Nat :=
  let a := s.rd F.CORE_STATUS_ENG_ACTIVE
  let len := s.now - s.core.markT
  let full := decide (s.rd (F.TALLY_THR_THRESH n) ≤ a)
  match evMode (s.tallyEvt n) with
  | 1 => a * len
  | 2 => if full then len else 0
  | _ => if full && decide (s.rd (F.TALLY_THR_DWELL n) ≤ len) then 1 else 0

/-- The codes whose adds the command brings: what the model has no finer time for. -/
def timedCode (e : Nat) : Bool :=
  (decide (evMode e ≠ 0) && decide (evEvent e ≠ 0x06)) || [0x05, 0x30].contains (evEvent e)

/-- A port ARG that names a member lane counts nothing (R329). -/
def State.argCounts (s : State) (e : Nat) : Bool := evEvent e != 0x41 || !s.member (evArg e)

/-- The adds of the frame period that ends (R326, R328): event 0x06 from the state, the others of `timedCode` from the command. -/
def State.periodAdds (s : State) (occ : List (Fin 64 × W32)) : State :=
  let s := (List.range 64).foldl (fun s n =>
    if evEn (s.tallyEvt n) && decide (evEvent (s.tallyEvt n) = 0x06) && s.core.started then s.tallyAdd n (s.activeAdd n) else s) s
  occ.foldl (fun s x =>
    let e := s.tallyEvt x.1.val
    if evEn e && timedCode e && s.argCounts e then s.tallyAdd x.1.val x.2.toNat else s) s

/-! ### Slot accounting (R330, R331) -/

/-- Engine-ticks since the last record closed, up to now. -/
def State.engTicks (s : State) : Nat := s.tally.engAcc + s.rd F.CORE_STATUS_ENG_ACTIVE * (s.now - s.tally.engAt)

/-- The sum so far is kept before A changes. -/
def State.keepEng (s : State) : State := s.mapTally fun y => { y with engAcc := s.engTicks, engAt := s.now }

/-- Add lists of sums. -/
def addSums (a b : List Nat) : List Nat := List.zipWith (· + ·) a b

/-- CANDLE_RECORD_CLOSE (R105 to R107, R111, R112, R317, R330, R331, R376): the oldest record whose last grain has completed or
passed its deadline closes. The engine-ticks of the four categories come with the command. -/
def execCandleRecordClose (t : Nat) (retired wasted front back : W32) (s : State) : Res :=
  let s := s.tick t
  match s.eng.candles.find? fun c => decide (60750 ≤ c.settled) with
  | none => .next s
  | some c =>
    let late := decide (0 < c.late)
    let s := s.closeCandle c
    let s := (((s.wr (F.TALLY_ACCT_TICKS 0) retired.toNat).wr (F.TALLY_ACCT_TICKS 1) wasted.toNat).wr (F.TALLY_ACCT_TICKS 2)
      front.toNat).wr (F.TALLY_ACCT_TICKS 3) back.toNat
    let s := s.wr F.TALLY_ACCT_FN_FN c.fn.toNat
    let s := s.mapTally fun y =>
      { y with sums := addSums y.sums [s.engTicks, retired.toNat, wasted.toNat, front.toNat, back.toNat]
               recFn := some c.fn
               engAcc := 0
               engAt := s.now }
    let s := s.releaseWork (if late then 0 else min c.slack 4095)
    let s := if late then s.mapPins fun p => { p with gpio1End := some (s.now + 100) } else s
    .next s.refreshFault.refreshPair

/-! ### Dumps (R332 to R334) -/

/-- The bytes of a dump (R334). -/
def State.dumpBytes (s : State) (seq : W32) (chg : List Nat) (now final : Bool) : List W8 :=
  let a := s.eng.gov.aNext.getD (s.rd F.CORE_STATUS_ENG_ACTIVE)
  let recWord := match s.tally.recFn with
    | none => 0
    | some f => f.toNat + 0x10000
  leBytes seq.toNat 4 ++ leBytes (s.tally.startFn.toNat + 0x10000 * (s.fn - 1).toNat) 4 ++
    leBytes (b2n (!chg.isEmpty) + 2 * b2n now + 4 * b2n final + 0x100 * min 255 s.tally.skipped) 4 ++ leBytes recWord 4 ++ leBytes a 4 ++
    List.replicate 44 0 ++ s.tally.sums.flatMap (fun x => leBytes x 8) ++ List.replicate 24 0 ++
    (List.range 64).flatMap (fun n => leBytes (s.cntEntry n (chg.contains n)) 8) ++ List.replicate 376 0 ++
    leBytes seq.toNat 4 ++ List.replicate 4 0

/-- The dump ring's base. -/
def State.dumpBase (s : State) : Nat := s.rd F.TALLY_BASE_LO_ADDR + 0x100000000 * s.rd F.TALLY_BASE_HI_ADDR

/-- The address of dump slot `i`. -/
def State.dumpSlot (s : State) (i : Nat) : W64 := BitVec.ofNat 64 (s.dumpBase + 1024 * (i % 2 ^ s.rd F.TALLY_DUMP_CFG_DK))

/-- The next dump mark is not skipped (R333). -/
def State.dumpRoom (s : State) : Bool :=
  decide ((BitVec.ofNat 16 (s.rd F.TALLY_DUMP_PI_IDX) - BitVec.ofNat 16 (s.rd F.TALLY_DUMP_CI_IDX) : W16).toNat < 2 ^ s.rd F.TALLY_DUMP_CFG_DK) &&
    s.tally.flight.isNone

/-- A dump mark that is not skipped: everything is snapshotted and every interval ends (R326, R332). -/
def State.dumpMark (s : State) (chg : List Nat) (now final : Bool) : State :=
  let d : Dump :=
    { bytes := s.dumpBytes (s.tally.seq + 1) chg now final, vals := (List.range 64).map s.cntVal, sums := s.tally.sums, changed := chg }
  let s := (List.range 64).foldl State.zeroCnt s
  s.mapTally fun y =>
    { y with flight := some d, sums := [0, 0, 0, 0, 0], recFn := none, skipped := 0, startFn := s.fn, interval := y.interval + 1 }

/-- A skipped dump mark (R333): only changed counters end their intervals, and their counts are lost. -/
def State.skipMark (s : State) (chg : List Nat) : State :=
  let s := ((s.inc F.TALLY_DUMP_DROP_COUNT 1).raise F.TALLY_INT_SKIP).mapTally fun y => { y with skipped := y.skipped + 1 }
  if chg.isEmpty then s
  else ((chg.foldl State.zeroCnt s).raise F.TALLY_INT_LOST).mapTally fun y => { y with interval := y.interval + 1 }

/-- Definitions that waited for the mark are in force (R336); their counters start from zero. -/
def State.installDefs (s : State) : State :=
  let s := s.tally.defs.foldl (fun s x => ((s.setReg (0x40040100 + 8 * x.1) x.2.1).setReg (0x40040104 + 8 * x.1) x.2.2).zeroCnt x.1) s
  s.mapTally fun y => { y with defs := [] }

/-- The outcome of a PERF_CONFIG that defines counters is due: PERF_DEFINITION_CHANGE sends it. -/
def State.perfDefined (s : State) : State :=
  match findRunning Opc.perfConfig.row.code s.mbx.taken 0 with
  | none => s
  | some (i, k) => s.retake i (some { k with done := some (.ok, [BitVec.ofNat 32 s.fn.toNat]) })

/-- Dump settings that waited for the mark are in force (R332, R337); frame count `f`. `fin`: word 1 of the reply of a stop. -/
def State.installCfg (s : State) (f : Nat) (fin : W32) (ok : Bool) : State :=
  match s.tally.cfg with
  | none => s
  | some (w, base) =>
    let en := s.flag F.TALLY_DUMP_CFG_EN
    let s := s.mapTally fun y => { y with cfg := none }
    let reply := fun (s : State) (x : W32) => s.complete .perfConfig .ok [BitVec.ofNat 32 s.fn.toNat, x] ok
    if bitOf w.toNat 0 then
      let old := s.rd F.TALLY_DUMP_CFG_PERIOD
      let s := s.wr F.TALLY_DUMP_CFG_PERIOD (bits w.toNat 16 16)
      let s := if en then s
        else
          let s := ((s.raise F.TALLY_DUMP_CFG_EN).wr F.TALLY_DUMP_CFG_DK (bits w.toNat 1 4)).wr F.TALLY_BASE_LO_ADDR (bits base.toNat 0 32)
          let s := ((s.wr F.TALLY_BASE_HI_ADDR (bits base.toNat 32 32)).wr F.TALLY_DUMP_PI_IDX 0).wr F.TALLY_DUMP_CI_IDX 0
          s.mapTally fun y => { y with ntf := 0 }
      let s := if en = false ∨ old ≠ bits w.toNat 16 16 then s.mapTally fun y => { y with base := f } else s
      reply s 0
    else
      let s := s.setFlag F.TALLY_DUMP_CFG_EN false
      let s := if en && s.tally.flight.isNone then s.resetMaster 6 else s
      reply s fin

/-- The tally's part of a frame mark, once FN has advanced and before A changes (R326, R332, R333, R336, R337). -/
def State.tallyMark (s : State) (ok : Bool) : State :=
  let f := if s.core.started then s.core.frames + 1 else 0
  let s := s.keepEng
  let en := s.flag F.TALLY_DUMP_CFG_EN
  let now := s.running .perfDumpNow
  let chg := s.tally.defs.map Prod.fst
  let final := s.tally.cfg.any fun c => !bitOf c.1.toNat 0
  let due := decide (s.tally.base < f) && decide ((f - s.tally.base) % s.rd F.TALLY_DUMP_CFG_PERIOD = 0)
  let mark := en && (due || now || !chg.isEmpty || final)
  let room := s.dumpRoom
  let seq := s.tally.seq + 1
  let free := Config.freeWord s.fresh
  let s := if mark then (if room then s.dumpMark chg now final else { s.skipMark chg with fresh := s.fresh + 1 })
    else if chg.isEmpty then s else s.mapTally fun y => { y with interval := y.interval + 1 }
  let s := if chg.isEmpty then s else s.installDefs.perfDefined
  let s := if now then
      if en then s.complete .perfDumpNow .ok [if room then seq else free, BitVec.ofNat 32 s.fn.toNat, BitVec.ofNat 32 (b2n (!room))] ok
      else s.complete .perfDumpNow .busy [] ok
    else s
  s.installCfg f (if en && room then seq else 0x80000000 ||| free) ok

/-- PERF_DEFINITION_CHANGE (R336): the definitions that took effect at the mark are answered with its FN. -/
def execPerfDefinitionChange (t : Nat) (rplOk : Bool) (s : State) : Res :=
  let s := s.tick t
  match s.mbx.taken.findIdx? (fun k => decide (opcode k.d = Opc.perfConfig.row.code) && k.done.isSome && !k.lost) with
  | none => .next s
  | some i => match s.mbx.taken[i]? with
    | none => .next s
    | some k =>
      if s.flag F.MBX_STATUS_FW_RUN then match k.done with
        | some (st, ws) => .next (s.finish i k st ws rplOk)
        | none => .next s
      else .next s

/-! ### Stops (R337) -/

/-- The snapshot of a cut dump returns to counter `n`, unless its definition changed at the dump's mark. -/
def Dump.giveBack (d : Dump) (s : State) (n : Nat) : State :=
  match d.vals[n]? with
  | none => s
  | some v =>
    if d.changed.contains n then s.raise F.TALLY_INT_LOST
    else
      let s := s.tallyAdd n v.count.toNat
      let s := s.wr (F.TALLY_CNT_ST_WRAPS n) (min 15 (s.rd (F.TALLY_CNT_ST_WRAPS n) + v.wraps))
      s.raiseIf v.ovf (F.TALLY_CNT_ST_OVF n)

/-- A cut dump leaves its slot in the scratchpad partly written, the trailer not: free values; host memory is not part of the
device. -/
def State.cutSlot (s : State) : State :=
  let a := s.dumpSlot (s.rd F.TALLY_DUMP_PI_IDX)
  if secondForm a && s.addrOk .ring0 a 1024 then
    { s.scrWrite (scrOf a) ((List.range 1016).map fun i => Config.freeByte (s.fresh + i)) with fresh := s.fresh + 1016 }
  else s

/-- The dump in flight is cut: counts, sums and the interval's start return. -/
def State.cutDump (s : State) : State :=
  match s.tally.flight with
  | none => s
  | some d =>
    let s := (List.range 64).foldl d.giveBack s.cutSlot
    let skip := bits (ofLe ((d.bytes.drop 8).take 4)) 8 8
    let recWord := ofLe ((d.bytes.drop 12).take 4)
    s.mapTally fun y =>
      { y with flight := none
               sums := addSums y.sums d.sums
               skipped := y.skipped + skip
               startFn := BitVec.ofNat 16 (ofLe ((d.bytes.drop 4).take 2))
               recFn := if y.recFn.isNone && bitOf recWord 16 then some (BitVec.ofNat 16 recWord) else y.recFn }

/-- Dumps stop at once (R337). -/
def State.stopDumps (s : State) : State :=
  if s.flag F.TALLY_DUMP_CFG_EN || s.tally.flight.isSome then (s.cutDump.setFlag F.TALLY_DUMP_CFG_EN false).resetMaster 6 else s

/-- DUMP_ERROR_STOP (R337): an error on a dump write. -/
def execDumpErrorStop (t : Nat) (s : State) : Res :=
  let s := s.tick t
  if s.tally.flight.isSome then .next (s.stopDumps.raise F.TALLY_INT_DUMP_ERR) else .next s

/-- DUMP_WRITE_DONE (R332, R334): the trailer is written, PI advances and a channel 3 notice tells of every dump not yet notified; the end
of a stop's last dump resets M6 (R337). A ring outside the banks of M0 refuses the write. -/
def execDumpWriteDone (t : Nat) (s : State) : Res :=
  let s := s.tick t
  match s.tally.flight with
  | none => .next s
  | some d =>
    match s.devWrite 6 (s.dumpSlot (s.rd F.TALLY_DUMP_PI_IDX)) d.bytes true with
    | .error s => .next (s.stopDumps.raise F.TALLY_INT_DUMP_ERR)
    | .ok s =>
      let s := ((s.mapTally fun y => { y with flight := none, seq := y.seq + 1 }).bump F.TALLY_DUMP_PI_IDX 1).raise F.TALLY_INT_DUMP
      let pi := BitVec.ofNat 16 (s.rd F.TALLY_DUMP_PI_IDX)
      let s := s.postNotice 3 (s.dumpSlot s.tally.ntf.toNat) (1024 * (pi - s.tally.ntf : W16).toNat) pi.toNat
      .next (if s.flag F.TALLY_DUMP_CFG_EN then s else s.resetMaster 6)

/-- TALLY_DUMP_CI_WRITE (R333): the host returns dump slots. -/
def execTallyDumpCiWrite (t : Nat) (m : Master) (v : W32) (s : State) : Res :=
  if (s.tick t).barred m.val then .next (s.tick t).postedUr else
  .next ((s.tick t).wr F.TALLY_DUMP_CI_IDX v.toNat)

/-! ### Commands -/

/-- OP of PERF_CONFIG. -/
def perfOp (d : List W32) : Nat := bits (word d 2) 0 2

/-- The parameters of PERF_CONFIG that do not depend on the state (R12, R258, R339). -/
def perfParams (d : List W32) : Bool :=
  match perfOp d with
  | 0 => onlyBits (word d 2) 0x7F3F03 && word d 3 == 0 && decide (1 ≤ bits (word d 2) 16 7) &&
      decide (bits (word d 2) 8 6 + bits (word d 2) 16 7 ≤ 64)
  | 1 =>
    let dk := bits (word d 3) 1 4
    onlyBits (word d 2) 3 && onlyBits (word d 3) 0xFFFF001F && word d 6 == 0 && word d 7 == 0 && decide (2 ≤ dk) && decide (dk ≤ 12) &&
      decide (1 ≤ bits (word d 3) 16 16) && decide ((word64 d 4).toNat % (1024 * 2 ^ dk) = 0)
  | _ => false

/-- Bytes as definitions: EVT, then THR. -/
def defPairs : List W32 → List (W32 × W32)
  | e :: th :: rest => (e, th) :: defPairs rest
  | _ => []

/-- A stop waits for its mark or for its last dump. -/
def State.stopPending (s : State) : Bool :=
  (s.tally.cfg.any fun c => !bitOf c.1.toNat 0) || (s.tally.flight.isSome && !s.flag F.TALLY_DUMP_CFG_EN)

/-- PERF_CONFIG (R328, R329, R336, R339): definitions or dump settings wait for the next frame mark; the reply is sent there. -/
def execPerfConfig (x : Exe) (s : State) : Res :=
  .next (s.run .perfConfig x (fun _ d => perfParams d) fun s d =>
    if perfOp d = 0 then
      let first := bits (word d 2) 8 6
      let n := bits (word d 2) 16 7
      let addr := word64 d 4
      if addr ≠ 0 ∧ s.addrOk x.src addr (8 * n) = false then .refuse .badParam
      else
        let got : Except State (State × List (W32 × W32)) :=
          if addr = 0 then .ok (s, List.replicate n (d.getD 6 0, d.getD 7 0))
          else (s.readBuf addr (8 * n) x).map fun r => (r.1, defPairs (bytesWords r.2))
        .reading got fun s l =>
          if l.all (fun q => defOk q.1.toNat) then
            .later (s.mapTally fun y => { y with defs := l.zipIdx.map fun q => (first + q.2, q.1) })
          else .refuse .badParam
    else
      let en := bitOf (word d 3) 0
      let dk := bits (word d 3) 1 4
      let base := word64 d 4
      if en = true ∧ s.addrOk x.src base (1024 * 2 ^ dk) = false then .refuse .badParam
      else if s.stopPending = true ∨ (en = true ∧ s.flag F.TALLY_DUMP_CFG_EN = true ∧
          (dk ≠ s.rd F.TALLY_DUMP_CFG_DK ∨ base.toNat ≠ s.dumpBase)) then .refuse .busy
      else .later (s.mapTally fun y => { y with cfg := some (d.getD 3 0, base) }))

/-- PERF_DUMP_NOW (R332): a dump mark at the next frame mark, where the reply is sent. -/
def execPerfDumpNow (x : Exe) (s : State) : Res :=
  .next (s.run .perfDumpNow x (fun _ _ => true) fun s _ =>
    if s.flag F.TALLY_DUMP_CFG_EN = false ∨ s.stopPending = true then .refuse .busy else .later s)

/-! ### The user view (R338) -/

/-- The aligned 64-bit word at an offset of the BAR4 page; zero while PERF_USER_EN is 0. -/
def State.bar4Word (s : State) (x : Nat) : Nat :=
  if s.flag F.TALLY_CTRL_PERF_USER_EN then
    if x = 0x000 ∨ x = 0xFF8 then s.tally.interval.toNat
    else if x = 0x008 then s.fn.toNat
    else if x = 0x010 then s.rd (F.TALLY_ACCT_TICKS 0) + 0x100000000 * s.rd (F.TALLY_ACCT_TICKS 1)
    else if x = 0x018 then s.rd (F.TALLY_ACCT_TICKS 2) + 0x100000000 * s.rd (F.TALLY_ACCT_TICKS 3)
    else if x = 0x020 then s.rd F.TALLY_ACCT_FN_FN
    else if 0x100 ≤ x ∧ x < 0x300 ∧ x % 8 = 0 then
      let n := (x - 0x100) / 8
      if s.flag (F.TALLY_EVT_USER n) then s.cntEntry n false else 0
    else 0
  else 0

end Sys2Proof.Machine
end

