-- ==== Sys2Proof/Machine/Bus.lean ====
section
/-! DEFINITION. Machine/Bus.lean: writes and clearing reads of the control plane by address (spec/00 R10, R11; spec/11 R284 to
R287, R295 to R297, R307), and what the tables of the registers add to their access codes. -/
namespace Sys2Proof.Machine

/-- The state that an answer brings. -/
def Res.after (r : Res) (s : State) : State :=
  match r with
  | .next s' => s'
  | _ => s

/-! ### Register writes -/

/-- A write that leaves a field at its old value. -/
def keepField (old v : W32) (lo w : Nat) : W32 := insertBits v lo w (bits old.toNat lo w)

/-- A write that clears what it names in D2H_TMO, which the firmware owns. -/
def State.clearD2hTmo (s : State) (m : Nat) (v : W32) : State :=
  if 1 ≤ m ∧ m ≤ 4 then s.setReg 0x40010024 (s.reg 0x40010024 &&& ~~~v) else s

/-- A write of a word of an atomic group of two words, `lo` and `lo + 4` (R295). -/
def State.pairWrite (s : State) (m lo a : Nat) (v : W32) : State :=
  let s := s.stage m a (some v)
  if a = lo then s else s.applyStaged m [lo, lo + 4]

/-- A write of MAP_HERD_CFG (R74, R238): 64 to 40,960, and the holder mirrors it (log entry 12). -/
def State.writeHerd (s : State) (v : W32) : State :=
  let fan := bits v.toNat 0 16
  if 64 ≤ fan ∧ fan ≤ 40960 ∧ s.flag F.MAP_CTRL_LOCK = false then
    (s.plainWrite 0x40070010 v).mirrorSettings ([0, 0, BitVec.ofNat 32 fan] ++ List.replicate 13 0) []
  else s

/-- A write of a trace slot's registers (R187): TIM and the acceptance clear, those of a slot that is now idle too. -/
def State.writeTti (s : State) (p k a : Nat) (v : W32) : State :=
  let old := s.ttiPath p k
  let s := State.clearTti p (s.plainWrite a v) k
  let s := ((List.range 64).filter (s.ttiIdle p)).foldl (State.clearTti p) s
  let fresh := fun (s : State) (x : Option (Nat × Nat)) => match x with
    | some y => s.refreshTim p y.2
    | none => s
  fresh (fresh s old) (s.ttiPath p k)

/-- The path that PATH_IDX selects. -/
def State.pathIdx (s : State) (p : Nat) : Nat :=
  let x := bits (s.reg (prtBase p + 0x180)).toNat 0 16
  if bitOf x 15 then x else bits x 0 10

/-- The key of the register at an address: a path register is that of the path that PATH_IDX selects. -/
def State.regKey (s : State) (a : Nat) : Nat :=
  if 0x40100000 ≤ a ∧ a < 0x40130000 ∧ 0x184 ≤ a % 0x1000 ∧ a % 0x1000 < 0x198 then a + pathKey (s.pathIdx ((a - 0x40100000) / 0x1000))
  else a

/-- A write of a PRT register of port `p` at offset `o`. -/
def State.writePrt (s : State) (p o : Nat) (v : W32) : State :=
  let a := prtBase p + o
  if 0x20 ≤ o ∧ o < 0x30 then
    if bits v.toNat 0 6 + bits v.toNat 6 7 + bits v.toNat 13 6 ≤ 64 then s.plainWrite a v else s
  else if 0xA00 ≤ o ∧ o < 0xB00 then s.writeTti p ((o - 0xA00) / 4) a v
  else if 0xB00 ≤ o ∧ o < 0xC00 then s.writeTti p ((o - 0xB00) / 4) a v
  else if o = 0x184 then
    let k := s.regKey a
    s.setReg k (writeField false v (s.reg k) ⟨8, 7, .w1c, 0⟩)
  else s.plainWrite a v

/-- A write of MDC_CTRL: a DIV that breaks the budget of R194 is ignored. -/
def State.writeMdcCtrl (s : State) (v : W32) : State :=
  let old := s.reg 0x40200000
  let fits := fun (j : Nat) => decide (slotBytes s.mdc.routes j ≤ serialBudget (bits v.toNat (1 + 8 * j) 2))
  let v := if fits 0 then v else keepField old v 1 2
  s.plainWrite 0x40200000 (if fits 1 then v else keepField old v 9 2)

/-- A write of an MBX register; a ring's bases stand while its EN is 1 (R261). -/
def State.writeMbx (s : State) (m a : Nat) (v : W32) : State :=
  let based := fun (r : Nat) => decide (0x40010040 + 0x20 * r ≤ a) && decide (a < 0x40010050 + 0x20 * r) && s.flag (F.MBX_RING_CTRL_EN r)
  if based 0 || based 1 then s
  else if a = 0x40010010 then (List.range 32).foldl (fun s ch => if bitOf v.toNat ch then s.postHost ch else s) s
  else if a = 0x40010018 then (List.range 32).foldl (fun s ch => if bitOf v.toNat ch then s.takeD2h ch else s) s
  else if a = 0x4001001C then s.writeD2hMask v
  else if a = 0x40010024 then s.clearD2hTmo m v
  else if a = 0x4001000C then (if 1 ≤ bits v.toNat 0 10 ∧ bits v.toNat 0 10 ≤ 1000 then s.plainWrite a v else s)
  else if a = 0x40010040 ∨ a = 0x40010044 then s.pairWrite m 0x40010040 a v
  else if a = 0x40010048 ∨ a = 0x4001004C then s.pairWrite m 0x40010048 a v
  else if a = 0x40010060 ∨ a = 0x40010064 then s.pairWrite m 0x40010060 a v
  else if a = 0x40010068 ∨ a = 0x4001006C then s.pairWrite m 0x40010068 a v
  else if a = 0x40010050 ∨ a = 0x40010070 then
    let r := (a - 0x40010050) / 0x20
    if bitOf v.toNat 0 then s.writeRingOn r v else s.ringDisable r v
  else if a = 0x4001005C ∨ a = 0x4001007C then
    let r := (a - 0x4001005C) / 0x20
    (s.wr (F.RPL_CI_CI r) v.toNat).unstall r
  else if a = 0x40010080 ∨ a = 0x40010084 then s.pairWrite m 0x40010080 a v
  else if 0x40010100 ≤ a ∧ a < 0x40010300 then s.noticeWrite m ((a - 0x40010100) / 16) (a % 16 / 4) v
  else s.plainWrite a v

/-- What a write of a register by master `m` does (R10, R11 and the registers' tables). -/
def State.regStore (s : State) (m : Master) (a : Nat) (v : W32) : State :=
  if a = 0x40000000 then
    if m.val = 0 then s
    else
      let v := if (1 ≤ m.val ∧ m.val ≤ 4) ∨ m.val = 8 then v else keepField (s.reg a) v 0 1
      s.plainWrite a v
  else if 0x40010000 ≤ a ∧ a < 0x40020000 then s.writeMbx m.val a v
  else if a = 0x40020000 then s.plainWrite a (if m.val = 0 then keepField 0 v 31 1 else v)
  else if a = 0x40020030 then (execMtxRotWrite s.now m v s).after s
  else if 0x40020100 ≤ a ∧ a < 0x40020140 then (execScrOwnWrite s.now m (Fin.ofNat 16 ((a - 0x40020100) / 4)) v s).after s
  else if a = 0x40030014 then s.plainWrite a (if bits v.toNat 8 8 = 0 then keepField (s.reg a) v 8 8 else v)
  else if a = 0x40070010 then s.writeHerd v
  else if a = 0x40080000 then s.plainWrite a (if bits v.toNat 0 5 = 0 then keepField (s.reg a) v 0 5 else v)
  else if a = 0x40080010 then (if bits v.toNat 20 12 < bits v.toNat 0 12 then s.plainWrite a v else s)
  else if a = 0x4008001C then (if bitOf v.toNat 31 then s.wr F.CANDLE_WORST_MIN_SLACK 0xFFF else s)
  else if a = 0x40087004 then
    let s := s.writeConstHold (bitOf v.toNat 0)
    if bitOf v.toNat 1 then s.mapCore fun c => { c with prbsReq := true } else s
  else if 0x40088000 ≤ a ∧ a < 0x4008B2A0 then s.writeGenConst ((a - 0x40088000) / 4) v
  else if 0x40090100 ≤ a ∧ a < 0x400901C0 then s.writeLineGrp ((a - 0x40090100) / 4) v
  else if 0x40090300 ≤ a ∧ a < 0x400903C0 then s.writeApsTx ((a - 0x40090300) / 4) v
  else if 0x400A0000 ≤ a ∧ a < 0x400A0080 then (execSemAcqWrite s.now m (Fin.ofNat 32 ((a - 0x400A0000) / 4)) s).after s
  else if 0x40100000 ≤ a ∧ a < 0x40130000 then s.writePrt ((a - 0x40100000) / 0x1000) (a % 0x1000) v
  else if a = 0x40200000 then s.writeMdcCtrl v
  else if a = 0x40200008 ∨ a = 0x4020000C then s.pairWrite m.val 0x40200008 a v
  else s.plainWrite a v

/-! ### Accesses by address -/

/-- Where an address inside the scratchpad, its alias or the low addresses lies (R284, R286): its offset, and whether through the alias. -/
def scrOffset (a : Nat) : Option (Nat × Bool) :=
  if a < 0x20000 then some (a, false)
  else if 0x10000000 ≤ a ∧ a < 0x10200000 then some (a - 0x10000000, false)
  else if 0x18000000 ≤ a ∧ a < 0x18200000 then some (a - 0x18000000, true)
  else none

/-- A register write; one that may clear or enable an interrupt is watched for the event summary (R270). -/
def State.regWrite (s : State) (m : Master) (a : Nat) (v : W32) : State :=
  if isIntReg a then ((s.noteRaised).regStore m a v).noteRaised else s.regStore m a v

/-- A number with byte `i` replaced. -/
def putByte (v i : Nat) (b : W8) : Nat := v - bits v (8 * i) 8 * 2 ^ (8 * i) + b.toNat * 2 ^ (8 * i)

/-- A firmware write of a byte through the map window (R284, MAP_WIN_SEL): of an entry of the shadow page, a selector or a monitor. The
compiler area is the device's own. -/
def State.winByte (s : State) (o : Nat) (b : W8) : State :=
  let n := s.rd F.MAP_WIN_SEL_WIN
  if n < 2 then s.setPage n (putEntry (s.page n) (o / 8) (BitVec.ofNat 64 (putByte (entryAt (s.page n) (o / 8)).toNat (o % 8) b)))
  else if o < 0x1000000 then s.setSel (o / 16) (BitVec.ofNat 128 (putByte (s.selRaw (o / 16)).toNat (o % 16) b))
  else if o < 0x2000000 then s.setMon ((o - 0x1000000) / 8) (BitVec.ofNat 64 (putByte (s.monRaw ((o - 0x1000000) / 8)).toNat (o % 8) b))
  else s

/-- Write enabled bytes through the map window. -/
def State.winWrite (s : State) : Nat → List (Option W8) → State
  | _, [] => s
  | o, none :: bs => s.winWrite (o + 1) bs
  | o, some b :: bs => (s.winByte o b).winWrite (o + 1) bs

/-- The number that the enabled bytes of a write spell. -/
def beWord (bs : List (Option W8)) : W32 := BitVec.ofNat 32 (ofLe (bs.map fun b => b.getD 0))

/-- One burst written by a master at a control-plane address (R284 to R286, R288, R299, R307), or why it is refused. -/
def State.writeBurst (s : State) (m : Master) (a : Nat) (bs : List (Option W8)) : Except Nat State :=
  match s.denied m.val a (bs.map Option.isSome) true with
  | some c => .error c
  | none =>
    .ok (match scrOffset a with
      | some (x, false) => s.scrPatch id x bs
      | some (x, true) => s.scrPatch (rotated (s.rot m.val)) x bs
      | none => if 0x80000000 ≤ a then s.winWrite (a - 0x80000000) bs else s.regWrite m a (beWord bs))

/-- A write by a master at a control-plane address, burst by burst; a refused burst gets an error response (R288, R296, R297). -/
def State.busWrite (s : State) (m : Master) (a : Nat) (bs : List (Option W8)) : State :=
  (burstsOf a bs).foldl (fun s p =>
    match s.writeBurst m p.1 p.2 with
    | .ok s => s
    | .error c => s.busError m.val p.1 true c) s

/-- The control-plane address that an offset of BAR0 reaches (R287). -/
def bar0Addr (o : Nat) : Option Nat :=
  if o < 0x400000 then some (0x40000000 + o)
  else if 0x1000000 ≤ o ∧ o < 0x1200000 then some (0x10000000 + (o - 0x1000000))
  else if 0x1800000 ≤ o ∧ o < 0x1A00000 then some (0x18000000 + (o - 0x1800000))
  else none

/-- A BAR2 write (R61, R113, R287): of whole bytes in the map window, discarded in the selector window. -/
def State.bar2Write (s : State) (o : Nat) (bs : List (Option W8)) : State :=
  if o < 0x10000000 then
    if bs.all Option.isSome then s.mapWindow o (bs.map fun b => b.getD 0) else s.dropMapWindow
  else if o < 0x11000000 then s.dropWindow
  else s.postedUr

/-- REGISTER_WRITE (R10, R11, R284, R285, R287, R288, R295, R296, R338, R353): a write by a master. -/
def execRegisterWrite (t : Nat) (m : Master) (a : BusPlace) (data : List (Option W8)) (s : State) : Res :=
  let s := s.tick t
  match a.via with
  | .bus => if s.barred m.val then .next s.postedUr else .next (s.busWrite m a.addr.toNat data)
  | .bar0 =>
    match if s.barred 0 then none else bar0Addr a.addr.toNat with
    | none => .next s.postedUr
    | some x => .next (s.busWrite 0 x data)
  | .bar2 => if s.barred 0 then .next s.postedUr else .next (s.bar2Write a.addr.toNat data)
  | .bar4 => .next s.postedUr

/-- The registers that follow the time, as a read sees them: PAIR's, and the seconds left of a trial. -/
def State.timeRegs (s : State) : State :=
  let left := if s.flag F.BOOT_STATUS_TRIAL then (s.boot.trialEnd - s.now + secTicks - 1) / secTicks else 0
  s.refreshPair.wr F.BOOT_TRIAL_LEFT left

/-- Addresses behind the matrix whose content the manual does not give: boot ROM, compiler area, the registers of SYS low-speed and of
the MRAM controller. -/
def unstated (m a : Nat) : Bool :=
  decide (a < 0x10000) || (decide (0x40008000 ≤ a) && decide (a < 0x40010000)) ||
    (decide (m ≠ 0) && decide (0x40210100 ≤ a) && decide (a < 0x40210200))

/-- Bytes that the manual leaves open: free values. -/
def State.freeBytes (s : State) (n : Nat) : State × List W8 :=
  ({ s with fresh := s.fresh + n }, (List.range n).map fun i => Config.freeByte (s.fresh + i))

/-- A selector as a read of a window returns it: as stored, with the remaining time of a running timer; an uncorrectable one as it
stands (R113, R130). -/
def State.selStored (s : State) (i : Nat) : W128 :=
  match decode114 (s.selRaw i) with
  | .fine v => if vTph v = 0 then v else s.selShown i
  | _ => s.selRaw i

/-- `n` bytes of the selector table from an offset. -/
def State.selBytes (s : State) (o n : Nat) : List W8 :=
  (List.range n).map fun i => BitVec.ofNat 8 (bits (s.selStored ((o + i) / 16)).toNat (8 * ((o + i) % 16)) 8)

/-- `n` bytes read through the map window (R284, MAP_WIN_SEL). -/
def State.winRead (s : State) (o n : Nat) : State × List W8 :=
  let w := s.rd F.MAP_WIN_SEL_WIN
  if w < 2 then
    (s, (List.range n).map fun i => BitVec.ofNat 8 (bits (entryAt (s.page w) ((o + i) / 8)).toNat (8 * ((o + i) % 8)) 8))
  else if o < 0x1000000 then (s, s.selBytes o n)
  else if o < 0x2000000 then
    (s, (List.range n).map fun i =>
      BitVec.ofNat 8 (bits (s.monRaw ((o - 0x1000000 + i) / 8)).toNat (8 * ((o + i) % 8)) 8))
  else s.freeBytes n

/-- The word that a read of a register returns, and the state after it (R10, R302). -/
def State.regRead (s : State) (m a : Nat) : State × List W8 :=
  if 0x400A0000 ≤ a ∧ a < 0x400A0080 then
    let r := s.semRead m ((a - 0x400A0000) / 4)
    (r.1, leBytes r.2 4)
  else if unstated m a then s.freeBytes 4
  else
    let s := s.timeRegs
    let k := s.regKey a
    (s.readClear k, leBytes (s.readWord k).toNat 4)

/-- One burst read by a master at a control-plane address (R284 to R286, R288, R298, R299, R307), or why it is refused. -/
def State.readBurst (s : State) (m a : Nat) (be : List Bool) : Except Nat (State × List W8) :=
  match s.denied m a be false with
  | some c => .error c
  | none =>
    let n := be.length
    match scrOffset a with
    | some (x, alias_) =>
      if a < 0x10000 ∧ s.flag F.SYS_CTRL_REMAP = false then .ok (s.freeBytes n)
      else if s.scrUe x n then .error 5
      else .ok (s.corrected (s.scrCe x n), if alias_ then s.aliasRead (s.rot m) x n else s.scrRead x n)
    | none =>
      if 0x20000000 ≤ a ∧ a < 0x22000000 then .ok (s, s.mramRead (a - 0x20000000) n)
      else if 0x80000000 ≤ a then .ok (s.winRead (a - 0x80000000) n)
      else .ok (s.regRead m a)

/-- A read by a master at a control-plane address (R288, R296, R297): the bytes of its bursts, or `none` once one is refused. -/
def State.busRead (s : State) (m a : Nat) (be : List Bool) : State × Option (List W8) :=
  (burstsOf a be).foldl (fun z p =>
    match z.2 with
    | none => z
    | some bs => match z.1.readBurst m p.1 p.2 with
      | .ok r => (r.1, some (bs ++ r.2))
      | .error c => (z.1.busError m p.1 false c, none)) (s, some [])

/-- The answer to a read of the bus. -/
def State.answerBus (z : State × Option (List W8)) : State :=
  match z.2 with
  | some bs => z.1.answer bs
  | none => z.1

/-- A read of BAR2 (R60, R113, R287): zeros in the map window, the selectors in theirs. -/
def State.bar2Read (s : State) (o n : Nat) : Option (List W8) :=
  if o < 0x10000000 then some (List.replicate n 0)
  else if o < 0x11000000 then some (s.selBytes (o - 0x10000000) n)
  else none

/-- `n` bytes of the BAR4 page from an offset (R338); no such page unless BAR4 is implemented. -/
def State.bar4Read (s : State) (o n : Nat) : Option (List W8) :=
  if s.pins.bar4 && decide (o + n ≤ 4096) then
    some ((List.range n).map fun i => BitVec.ofNat 8 (bits (s.bar4Word ((o + i) / 8 * 8)) (8 * ((o + i) % 8)) 8))
  else none

/-- The answer to a host read outside the matrix: its bytes, or Unsupported Request status (R287). -/
def State.answerHost (s : State) (bs : Option (List W8)) : State :=
  match bs with
  | some bs => s.answer bs
  | none => s.tellMaster 0 false

/-- READ_CLEAR (R10, R284, R285, R287, R288, R296, R302, R338, R353): a read by a master; RC fields clear, a semaphore is acquired. -/
def execReadClear (t : Nat) (m : Master) (r : Reading) (s : State) : Res :=
  let s := s.tick t
  let a := r.addr.toNat
  match r.via with
  | .bus => if s.barred m.val then .next (s.tellMaster m.val false) else .next (State.answerBus (s.busRead m.val a r.be))
  | .bar0 =>
    match if s.barred 0 then none else bar0Addr a with
    | none => .next (s.tellMaster 0 false)
    | some x => .next (State.answerBus (s.busRead 0 x r.be))
  | .bar2 => .next (s.answerHost (if s.barred 0 then none else s.bar2Read a r.be.length))
  | .bar4 => .next (s.answerHost (s.bar4Read a r.be.length))

/-! ### The SPI path into memory (R256, R273) -/

/-- One burst of a MEM_WRITE: bytes as master M0, inside a bank that M0 owns, directly or through the alias. -/
def State.spiBurst (s : State) (p : Nat × List W8) : State :=
  match if (scrOffset p.1).isSome then s.writeBurst 0 p.1 (p.2.map some) else .error 4 with
  | .ok s => s
  | .error c => s.logError 0 p.1 true c

/-- SPI MEM_WRITE: a write of bytes as master M0, inside a bank that M0 owns (R256, R273, R288); every other burst is refused (R296). -/
def execMemWrite (t : Nat) (addr : W32) (data : List W8) (s : State) : Res :=
  .next ((burstsOf addr.toNat data).foldl State.spiBurst (s.tick t))

/-- The accesses of a MEM_READ: words in the register blocks (R285), bursts elsewhere. -/
def spiPieces (a : Nat) : Nat → List (Nat × Nat)
  | n => if inBlocks a && a % 4 == 0 && n % 4 == 0 then (List.range (n / 4)).map fun i => (a + 4 * i, 4)
    else (burstsOf a (List.replicate n ())).map fun p => (p.1, p.2.length)

/-- One access of a MEM_READ. The manual does not say which bytes SPI sends for a refused one: free values. -/
def State.spiPiece (z : State × List W8) (p : Nat × Nat) : State × List W8 :=
  match z.1.readBurst 0 p.1 (List.replicate p.2 true) with
  | .ok r => (r.1, z.2 ++ r.2)
  | .error c =>
    let r := (z.1.logError 0 p.1 false c).freeBytes p.2
    (r.1, z.2 ++ r.2)

/-- SPI MEM_READ: a read of bytes as master M0 (R256, R273, R285, R288, R298); `ce`, `ue`: scratchpad words whose check bits show an error
from now on (log entry 84). -/
def execMemRead (t : Nat) (addr : W32) (n : Nat) (ce ue : List (Fin 262144)) (s : State) : Res :=
  let z := (spiPieces addr.toNat n).foldl State.spiPiece ((s.tick t).upsetWords (struck ce ue), [])
  .next (z.1.answer z.2)

/-! ### Host resets (R22, R276, R293, R294, R337) -/

/-- HOST_RESET (R22, R269, R276, R337): the PCIe configuration returns to its reset values; `gen` and `width`: what the PCIe link trains to afterwards, 0 while it is down; a Function Level
Reset leaves the link as it is. -/
def execHostReset (t : Nat) (cause : HostResetCause) (gen : Fin 6) (width : Fin 8) (s : State) : Res :=
  let s := (((s.tick t).mbxHostReset).resetMaster 0).stopDumps
  let s := s.mapMbx fun b => { b with cfg := PcieCfg.reset, msixPend := 0, urSeen := false }
  match cause with
  | .flr => .next s
  | .perstN => .next (s.mapPins fun p => { p with pcieGen := 0, pcieWidth := 0 })
  | _ => .next (s.mapPins fun p => { p with pcieGen := gen.val, pcieWidth := if gen.val = 0 then 0 else width.val })

end Sys2Proof.Machine
end

