-- ==== Sys2Proof/Machine/Settings.lean ====
section
/-! DEFINITION. Machine/Settings.lean: capturing and applying settings items, the boot's restores, and the settings commands (spec/14
R351, R356, R366, R367). The order of the words in an item's value is the model's (log entry 15). -/
namespace Sys2Proof.Machine

/-! ### Capture (R356, R366) -/

/-- The bytes of an item. -/
def itemBytes (type : Nat) (ws : List W32) : List W8 := leBytes (type + 4 * ws.length * 0x10000) 4 ++ wordsBytes ws

/-- A number as a word. -/
def w32 (n : Nat) : W32 := BitVec.ofNat 32 n

/-- A register without its LOCK bit. -/
def State.unlocked (s : State) (a : Nat) : W32 := keepField 0 (s.reg a) 31 1

/-- The item of one port (TYPE 0x0001). -/
def State.portItem (s : State) (p : Nat) : List W8 :=
  let m := s.prtMode p
  let w2 := p + m * 0x100 + s.rd (F.PRT_CFG_LOOP p) * 0x1000 + s.rd (F.PRT_CFG_TX_INV p) * 0x10000 + s.rd (F.PRT_CFG_RX_INV p) * 0x100000
  let w3 := s.rd (F.PRT_IDLE_IDLE p) + (if isZiuth m || m == 0 then 0 else 0x100)
  itemBytes 1 ([w32 w2, w32 w3, w32 (b2n (s.enabled p)), s.reg (prtBase p + 0x108)] ++
    ((List.range 4).map fun n => s.reg (prtBase p + 0x20 + 4 * n)) ++ (s.structOf p).take (structCount m))

/-- The trace slots of one port (TYPE 0x0002). -/
def State.ttiItem (s : State) (p : Nat) : List W8 :=
  itemBytes 2 ([w32 p] ++ ((List.range 64).map fun k => s.reg (prtBase p + 0xA00 + 4 * k)) ++
    (List.range 64).map fun k => s.reg (prtBase p + 0xB00 + 4 * k))

/-- The settings in force as items of format 0x0001 (R356). -/
def State.captureItems (s : State) : List W8 :=
  ((List.range 48).flatMap fun p => if s.member p then [] else s.portItem p) ++ ((List.range 48).flatMap s.ttiItem) ++
    itemBytes 3 ((List.range 48).map fun p => s.reg (prtBase p + 0xC)) ++
    itemBytes 0x10 [s.reg 0x40050000, s.reg 0x40050004, s.reg 0x40050008, s.reg 0x40050020, w32 (s.rd F.TMG_ALIGN_FSYNC_OFS)] ++
    (s.usedRefs.flatMap fun n => itemBytes 0x11 [w32 n, s.reg (0x40050100 + 4 * n)]) ++
    itemBytes 0x20 [s.reg 0x40060000] ++
    itemBytes 0x30 [w32 (s.rd F.MAP_CTRL_ECC_GEN), s.reg 0x40070010, s.unlocked 0x40080000, s.reg 0x40080010, s.reg 0x40080040] ++
    itemBytes 0x31 ((List.range 3240).map fun w => s.reg (0x40088000 + 4 * w)) ++
    itemBytes 0x40 [s.reg 0x40030010, s.unlocked 0x40030000, s.reg 0x40030014] ++
    itemBytes 0x50 (s.reg 0x40200000 :: (s.routesNew.filter fun x => decide (2 ≤ x.2.dest)).map fun x => x.2.word) ++
    itemBytes 0x60 (w32 (s.rd F.TALLY_CTRL_PERF_USER_EN) ::
      (List.range 64).flatMap fun n => [s.reg (0x40040100 + 8 * n), s.reg (0x40040104 + 8 * n)]) ++
    itemBytes 0x70 [w32 (s.rd F.MTX_CTRL_GUARD), s.reg 0x4001000C] ++
    itemBytes 0x80 [w32 (b2n s.boot.snapRestore + 2 * b2n s.boot.portsEnable)]

/-- The settings in force as a new record of the running image's format (R355, R357, R366). -/
def State.capture (s : State) (fmt : Nat) : List W8 := buildRecord fmt s.newGen (s.imgVersion s.runImg) s.captureItems

/-! ### Application (R356) -/

/-- The firmware's core 0 writes a register. -/
def State.fwWrite (s : State) (a : Nat) (v : W32) : State := s.regWrite 1 a v

/-- An item of step 6. -/
def State.applyItem6 (s : State) (x : Item) : State :=
  let w := fun (i : Nat) => x.words.getD i 0
  match x.type with
  | 0x03 => (List.range 48).foldl (fun s p => s.fwWrite (prtBase p + 0xC) (w p)) s
  | 0x20 =>
    let v := (w 0).toNat
    let d : List W32 := [0, 0, w32 (bits v 0 3), w32 (bits v 3 8), w32 (bits v 11 10)]
    if bits v 0 2 ≠ 3 ∧ pairRanges d = true then s.applyPair d true else s
  | 0x30 =>
    let s := ((s.wr F.MAP_CTRL_ECC_GEN (w 0).toNat).fwWrite 0x40070010 (w 1)).fwWrite 0x40080000 (keepField 0 (w 2) 31 1)
    (s.fwWrite 0x40080010 (w 3)).fwWrite 0x40080040 (w 4)
  | 0x31 => (List.range 3240).foldl (fun s i => s.fwWrite (0x40088000 + 4 * i) (w i)) s
  | 0x40 => ((s.fwWrite 0x40030010 (w 0)).fwWrite 0x40030000 (keepField 0 (w 1) 31 1)).fwWrite 0x40030014 (w 2)
  | 0x60 =>
    let s := s.wr F.TALLY_CTRL_PERF_USER_EN (w 0).toNat
    let defs := (List.range 64).filterMap fun n =>
      if defOk (w (1 + 2 * n)).toNat then some (n, (w (1 + 2 * n), w (2 + 2 * n))) else none
    s.mapTally fun y => { y with defs := defs }
  | 0x70 => (s.wr F.MTX_CTRL_GUARD (w 0).toNat).fwWrite 0x4001000C (w 1)
  | 0x80 => s.mapBoot fun b => { b with snapRestore := bitOf (w 0).toNat 0, portsEnable := bitOf (w 0).toNat 1 }
  | _ => s

/-- An item of step 8; `plain`: the alternative, which ignores REGIME and QL_NET (R343). -/
def State.applyItem8 (plain : Bool) (s : State) (x : Item) : State :=
  let w := fun (i : Nat) => x.words.getD i 0
  let go := fun (s : State) (op n : Nat) (ws : List W32) =>
    let d : List W32 := [0, 0, w32 (op + n * 0x100)] ++ ws
    if timingOk s d then s.applyTiming d else s
  match x.type with
  | 0x10 =>
    let s := go s 1 0 [if plain then keepField 0 (w 0) 0 2 else w 0, w 1, w 2]
    let s := (go s 3 0 [w 3, 0, 0]).wr F.TMG_ALIGN_FSYNC_OFS (w 4).toNat
    s.mapTmg fun x => { x with ppsPh := x.outAt + s.rd F.TMG_ALIGN_FSYNC_OFS / 10 }
  | 0x11 => if (w 0).toNat < 16 then go s 0 (w 0).toNat [w 1, 0, 0] else s
  | _ => s

/-- A saved port is configured and, if `on`, enabled as it was saved; `eq`: PRT_TXEQ too (R343, step 10). -/
def State.restorePort (on eq : Bool) (s : State) (x : Item) : State :=
  let d : List W32 := [0, 0] ++ x.words.take 2 ++ [0, 0]
  let p := portOf d
  let bs := wordsBytes (x.words.drop 8)
  let bs := bs.take (2 * modeCells (cfgMode d))
  if cfgOk .ring0 s d && !s.cfgBusy d && decide ((s.quadClasses p (cfgMode d)).length ≤ 2) &&
      (!cfgStruct d || structOk (halfWords bs)) then
    let s := (s.configure d bs).fwWrite (prtBase p + 0x108) (x.words.getD 3 0)
    let s := if eq then (List.range (if isBonded (cfgMode d) then 4 else 1)).foldl (fun s n =>
      s.fwWrite (prtBase p + 0x20 + 4 * n) (x.words.getD (4 + n) 0)) s else s
    if on && bitOf (word x.words 2) 0 && decide (cfgMode d ≠ 0) then s.enablePort p else s
  else s

/-- The port that an item enables. -/
def Item.enabledPort (x : Item) : Option Nat :=
  let d : List W32 := [0, 0] ++ x.words.take 2
  if x.type = 1 ∧ bitOf (word x.words 2) 0 = true ∧ cfgMode d ≠ 0 then some (portOf d) else none

/-- An item of step 10. -/
def State.applyItem10 (on eq : Bool) (s : State) (x : Item) : State :=
  match x.type with
  | 0x01 => s.restorePort on eq x
  | 0x02 =>
    let p := word x.words 0
    if p < 48 then
      (List.range 64).foldl (fun s k => (s.fwWrite (prtBase p + 0xA00 + 4 * k) (x.words.getD (1 + k) 0)).fwWrite
        (prtBase p + 0xB00 + 4 * k) (x.words.getD (65 + k) 0)) s
    else s
  | 0x50 =>
    let s := s.fwWrite 0x40200000 (x.words.getD 0 0)
    (x.words.drop 1).foldl (fun s w =>
      let d : List W32 := [0, 0, w, 0, 0, 0, 0, 0]
      if routeOk .ring0 s d then (s.addRoute d).getD s else s) s
  | _ => s

/-- The items of the record in force; none on defaults. -/
def State.itemsInForce (s : State) : List Item :=
  if s.flag F.BOOT_SET_DEFAULTS then [] else recItems (s.setBytes (s.rd F.BOOT_SET_SLOT))

/-! ### The map restore (R351) -/

/-- The map that a snapshot brings: expanded, sealed and checked in full, reason 7 apart; `none`: the check refuses it. -/
def State.restoredPage (s : State) (rs : List W8) : Option (List (Nat × W64) × Nat × Nat) :=
  let p := expandRuns rs
  match mapCheck { s.checkEnv with restore := true } p (fun _ => false) (lineEntries p) (p.map fun x => (x.1, some emptyEntry)) with
  | .ok page _ load bank => some (page, load, bank)
  | _ => none

/-- The restored page becomes active and, by copy-forward, the shadow page too; step 7 ends after both (R351; log entry 47). -/
def State.restoreMap (s : State) (page : List (Nat × W64)) (load bank : Nat) : State :=
  let s := (s.setPage 0 page).setPage 1 page
  let s := (((s.wr F.MAP_FN_LAST_SWAP_FN s.fn.toNat).raise F.MAP_INT_SWAP).bump F.MAP_COMMIT_CNT_COUNT 1).raise F.MAP_INT_COMMIT_DONE
  let s := ((s.wr F.MAP_HERD_USE_IN_USE (herdUsed page).length).wr F.MAP_BANK_PEAK_LOAD load).wr F.MAP_BANK_PEAK_BANK bank
  let s := s.wr F.MAP_STATUS_ACTIVE_PAGE s.shadowNo
  (s.mapMap fun m => { m with peakLoad := load, peakBank := bank, dirty := [], redir := [], moved := [], before := [] }).showDirty.countRefs

/-! ### Sessions (R358) -/

/-- A BOOT-class session is open. -/
def State.sessionOpen (s : State) : Bool :=
  s.flag F.BOOT_STAGE_STAGING || s.flag F.BOOT_STAGE_ACTIVATION || s.flag F.BOOT_STAGE_SETTINGS

/-- The open session belongs to another source (R358). -/
def State.otherSource (s : State) (src : Src) : Bool := s.sessionOpen && decide (s.rd F.BOOT_STAGE_SOURCE ≠ src.num)

/-- A session opens. -/
def State.openSession (s : State) (src : Src) (f : Fld) : State := (s.raise f).wr F.BOOT_STAGE_SOURCE src.num

/-- The staging session closes; its unwritten chunks are dropped. -/
def State.closeStaging (s : State) : State :=
  (((s.setFlag F.BOOT_STAGE_STAGING false).wr F.BOOT_STAGE_OFFSET 0).mapBoot fun b =>
    { b with chunks := b.chunks.map fun c => { c with live := false } })

/-- An image slot becomes EMPTY. -/
def State.emptySlot (s : State) (slot : Nat) : State := s.writeRec fun r => (r.setImg slot 0).setVer slot 0

/-- A staging session closes before its completion: its slot is EMPTY (R358). -/
def State.dropStaging (s : State) : State :=
  if s.flag F.BOOT_STAGE_STAGING then (s.emptySlot (s.rd F.BOOT_STAGE_SLOT)).closeStaging else s

/-! ### SETTINGS_SAVE and SETTINGS_RESTORE (R357, R366, R367) -/

/-- A record starts its way into the MRAM: the slot's header goes first (R357, R368), unless a host buffer is written before it (R257). -/
def State.startRecord (s : State) (src : Src) (bs : List W8) (buf : W64) (save : Bool) : State :=
  let k := s.newSlot
  ((if buf = 0 ∧ bs.length ≤ 131072 then s.clearHeader k else s).openSession src F.BOOT_STAGE_SETTINGS).mapBoot fun b =>
    { b with record := some { bytes := bs, slot := k, buf := buf, save := save } }

/-- SETTINGS_SAVE (R366): a record that is too long completes NO_RESOURCE. -/
def execSettingsSave (x : Exe) (s : State) : Res :=
  .next (s.run .settingsSave x
    (fun s d => let a := word64 d 2
      decide (a = 0) || s.addrOk x.src a 131072)
    fun s d =>
      let bs := s.capture (s.setWr s.runImg)
      if s.otherSource x.src then .refuse .busyOtherSource
      else if s.boot.record.isSome then .refuse .busy
      else .accepted (s.startRecord x.src bs (word64 d 2) true) [])

/-- The record that a SETTINGS_RESTORE stores: GEN is the next one, and the header CRC is computed anew (R367). -/
def renumber (gen : Nat) (bs : List W8) : List W8 :=
  let h := (bs.take 8 ++ leBytes gen 4 ++ bs.drop 12).take 60
  h ++ leBytes (crc32 h).toNat 4 ++ bs.drop 64

/-- SETTINGS_RESTORE (R367): the record ends where its header says, within LEN. -/
def execSettingsRestore (x : Exe) (s : State) : Res :=
  .next (s.run .settingsRestore x
    (fun s d => onlyBits (word d 2) 1 && onlyBits (word d 5) 0x1FFFF &&
      (bitOf (word d 2) 0 || (decide (64 ≤ word d 5) && decide (word d 5 ≤ 131072) &&
        s.addrOk x.src (word64 d 3) (word d 5))))
    fun s d =>
      let img := s.runImg
      if s.otherSource x.src then .refuse .busyOtherSource
      else .reading (if bitOf (word d 2) 0 then .ok (s, buildRecord (s.setWr img) s.newGen (s.imgVersion img) [])
          else (s.readBuf (word64 d 3) (word d 5) x).map fun z => (z.1, z.2.take (recWord z.2 0xC))) fun s bs =>
          if !recValid bs then .refuse .badParam
          else if s.flag F.BOOT_STATUS_TRIAL then .refuse .trialPending
          else if s.boot.record.isSome then .refuse .busy
          else if s.reads img bs = false ∧ bitOf (word d 2) 0 = false then
            .refuseWith .settingsUnreadable [w32 (recFmt bs), w32 ((badItem bs).getD 0)]
          else .accepted (s.startRecord x.src (renumber s.newGen bs) 0 false) [])

/-- SETTINGS_WRITTEN (R346, R357, R366, R367): the record is in the MRAM; `outOk`: the copy to the host's buffer succeeds, and without it
nothing is stored (R257). -/
def execSettingsWritten (t : Nat) (outOk rplOk : Bool) (s : State) : Res :=
  let s := s.tick t
  match (if s.flag F.MBX_STATUS_FW_RUN then s.boot.record else none) with
  | none => .next s
  | some r =>
    let op := if r.save then Opc.settingsSave else Opc.settingsRestore
    let s := (s.setFlag F.BOOT_STAGE_SETTINGS false).mapBoot fun b => { b with record := none }
    let x : Exe := { t := t, src := .ring0, inp := none, outOk := outOk, rplOk := rplOk }
    if 131072 < r.bytes.length then .next (s.complete op .noResource [] rplOk)
    else match (if r.save && decide (r.buf ≠ 0) then s.writeBuf r.buf r.bytes x else .ok s) with
    | .error s => .next (s.complete op .timeout [] rplOk)
    | .ok s =>
      let s := s.mramWrite (setBase r.slot) r.bytes
      let s := (s.raise F.BOOT_INT_SETTINGS_WRITTEN).writeRec fun b => b.setCnt 6 0
      let gen := w32 (recGen r.bytes)
      .next (s.complete op .ok (if r.save then [gen, w32 r.bytes.length, w32 (recFmt r.bytes + r.slot * 0x10000)] else [gen]) rplOk)

end Sys2Proof.Machine
end

