-- ==== Sys2Proof/Machine/Boot.lean ====
section
/-! DEFINITION. Machine/Boot.lean: device resets, the boot steps, their watchdogs and recovery (spec/01 R22; spec/14 R343 to R352;
spec/15 R382). -/
namespace Sys2Proof.Machine

/-! ### Device resets (R22, R23, R344) -/

/-- The registers of the fuses, which no reset changes (R370). -/
def fuseOnly (regs : List (Nat × W32)) : List (Nat × W32) := regs.filter fun e => decide (0x40220000 ≤ e.1) && decide (e.1 < 0x40230000)

/-- A device reset: everything as State.reset has it but the MRAM and what the boot ROM finds in it, the fuses, the PCIe island and the
JTAG port, whose own resets are PERST_N and TRST_N (R22, R340, R353, R370; log entry 16). -/
def State.deviceReset (s : State) : State :=
  { State.reset with
    now := s.now
    fresh := s.fresh
    pending := s.pending
    out := s.out
    regs := fuseOnly s.regs
    mate := { MateSt.reset with downAt := s.now }
    core := { CoreSt.reset with markT := s.now }
    line := { LineSt.reset with depthAt := s.now }
    tmg := { TmgSt.reset with selAt := s.now, winAt := s.now }
    pwr := { PwrSt.reset with last := [3, 4, 5, 6, 7, 8, 9].foldl (fun l k => Store.put (fun _ => 0) l k s.now) [] }
    tally := { TallySt.reset with engAt := s.now }
    boot := { BootSt.reset with
      mram := s.boot.mram
      genA := s.boot.genA
      genB := s.boot.genB
      logPos := s.boot.logPos
      lastLog := s.boot.lastLog
      snapK := s.boot.snapK }
    pins := { PinSt.reset with
      tapIr := s.pins.tapIr
      tapDr := s.pins.tapDr
      pcieGen := s.pins.pcieGen
      pcieWidth := s.pins.pcieWidth
      bar4 := s.pins.bar4 } }

/-- POR_N_LOW (R22, R23). -/
def execPorNLow (t : Nat) (s : State) : Res := .next (s.tick t).deviceReset

/-- SUPPLY_MONITOR_TRIP (R382): acts as POR_N low. -/
def execSupplyMonitorTrip (t : Nat) (s : State) : Res := .next (s.tick t).deviceReset

/-! ### Steps (R343 to R347) -/

/-- The limit of a step in ticks (R343). -/
def stepLimit (k : Nat) : Nat := [10, 200, 12000, 500, 1000, 500, 3000, 100, 100, 500, 500].getD (k - 1) 0 * msTicks

/-- A step that may be skipped (R343). -/
def skippable (k : Nat) : Bool := k == 6 || k == 7 || k == 8 || k == 10

/-- Enter recovery (R346, R347): the ROM keeps control, clears the scratchpad and serves the rings and the SPI path. -/
def State.enterRecovery (s : State) : State :=
  let s := { s with mtx := { s.mtx with scr := [], damage := [] }, pins := { s.pins with faultN := false } }
  (((s.wr F.BOOT_STATUS_PHASE 4).setFlag F.SYS_CTRL_REMAP false).wr F.H2D_MASK_MASK 0xFFFFFFFC).setFwRun true

/-- A step begins (R344), or its FAILCNT sends the device into recovery (R346). -/
def State.beginStep (s : State) (k : Nat) : State :=
  if !skippable k && decide (4 ≤ s.bootRec.cnt k) then s.enterRecovery
  else
    let s := (s.wr F.BOOT_STATUS_STEP k).wr F.BOOT_STATUS_PHASE (if 5 ≤ k then 1 else 0)
    (s.logStep k 0).mapBoot fun b => { b with stepAt := s.now }

/-- The method of a step (R345): 0 normal, 1 alternative, 2 skip. -/
def State.stepMethod (s : State) (k : Nat) : Nat :=
  let f := s.bootRec.cnt k
  if k = 4 then (if 1 ≤ f ∨ 1 ≤ s.bootRec.cnt 5 then 1 else 0)
  else if f = 0 then 0
  else if 2 ≤ f ∧ skippable k = true then 2
  else 1

/-- A step ends with a result (R344): 0 OK, 1 ALT, 2 SKIP. -/
def State.endStep (s : State) (k res : Nat) : State :=
  let s := (s.logStep k (1 + res)).wr ⟨0x40210004, 2 * (k - 1), 2⟩ res
  s.raiseIf (decide (res ≠ 0)) F.BOOT_STATUS_DEGRADED

/-! ### Step 3 -/

/-- A bank that fails the boot's test is retired (R103, R343): a spare takes the place of one in service. -/
def State.retireBank (s : State) (x : Nat) : State :=
  if s.bankState x = 1 then (s.wr (F.BANK_STATE_STATE x) 3).raise F.CORE_INT_BANK_RETIRED
  else match s.freshSpare (x / 66) with
    | none => s.raise F.CORE_INT_SPARES_OUT
    | some y =>
      let l := s.rd (F.BANK_STATE_LOGICAL x)
      let s := ((s.wr (F.BANK_STATE_LOGICAL y) l).wr (F.BANK_STATE_STATE y) 0).wr (F.BANK_MAP_PHYS l) y
      (s.wr (F.BANK_STATE_STATE x) 3).raise F.CORE_INT_BANK_RETIRED

/-- The banks that fail are retired, spares first. -/
def State.retireBanks (s : State) (bad : List Nat) : State :=
  let bad := bad.dedup
  ((bad.filter fun x => decide (s.bankState x = 0)).foldl State.retireBank
    ((bad.filter fun x => decide (s.bankState x = 1)).foldl State.retireBank s)).countSpares

/-! ### Step 4 (R348, R349) -/

/-- What step 4 makes of the boot record first: an image in TRIAL becomes STAGED, one whose staging a reset cut is EMPTY (R348, R358). -/
def State.settleImages (s : State) : State :=
  let r := s.bootRec
  let s := if r.stA = 3 ∨ r.stB = 3 then
      (s.writeRec fun r => { r with stA := if r.stA = 3 then 2 else r.stA, stB := if r.stB = 3 then 2 else r.stB, trialS := 0 }).logStep 4 7
    else s
  if r.stA = 1 ∨ r.stB = 1 then
    s.writeRec fun r => { r with stA := if r.stA = 1 then 0 else r.stA, stB := if r.stB = 1 then 0 else r.stB }
  else s

/-- The images that step 4 tries, in order (R348). -/
def BootRec.choice (r : BootRec) (alt : Bool) : List Nat :=
  (if alt then [1 - r.pref, r.pref] else [r.pref, 1 - r.pref]).filter fun k => decide (r.img k = 4)

/-- Load the first image that authenticates; `res`: the result so far. Without one the device enters recovery. -/
def State.tryImages (res : Nat) : List Nat → State → State × Option Nat
  | [], s => (s.enterRecovery, none)
  | k :: ks, s =>
    match s.authReason k with
    | none => (((s.loadImage k 0).wr F.BOOT_STATUS_RUN_IMG k).wr F.BOOT_STATUS_CODE_SLOT 0, some res)
    | some _ => State.tryImages 1 ks ((s.writeRec fun r => r.setImg k 5).logStep 4 6)

/-! ### Step 5 (R350) -/

/-- The owner of a scratchpad bank after step 5 (R350). -/
def bootOwner (b : Nat) : Nat := if b = 7 then 5 else if b = 8 ∨ b = 9 then 7 else if b = 10 then 6 else if b = 12 ∨ b = 13 then 0 else 1

/-- REMAP is set, the cores start at address 0, and the banks get their owners (R343, R350). -/
def State.startFirmware (s : State) : State :=
  let s := ((s.raise F.SYS_CTRL_REMAP).wr F.BOOT_VEC_ADDR (codeAddr 0)).bump F.MBX_STATUS_FW_STARTS 1
  (List.range 16).foldl (fun s b => s.giveBank b (bootOwner b)) s

/-! ### Step 6 (R354 to R357) -/

/-- GEN of every slot whose header is whole, a record that cannot be read among them (R355). -/
def State.headers (s : State) : List Nat :=
  (((List.range 8).map s.setBytes).filter fun bs => decide (recWord bs 0 = 0x53455447) &&
    decide ((crc32 (bs.take 0x3C)).toNat = recWord bs 0x3C)).map recGen

/-- The record that step 6 takes and its result: the newest readable record, OK if no newer one stands that cannot be read and ALT
otherwise; by the alternative the next lower one; none: the defaults (R345, R357). -/
def State.pickRecord (s : State) (method : Nat) : Option Nat × Nat :=
  let readable := s.setRecords.filter fun x => s.reads s.runImg x.2
  let best := readable.head?.map fun x => recGen x.2
  match method with
  | 0 => (readable.head?.map Prod.fst, if s.headers.all fun g => best.any fun b => decide (g ≤ b) then 0 else 1)
  | 1 => ((readable.drop 1).head?.map Prod.fst, 1)
  | _ => (none, 2)

/-- Step 6 (R343, R357): a record that is still pinned is that of a trial that step 4 ended, and it is used. -/
def State.bootSettings (s : State) (method : Nat) : State × Nat :=
  let s := s.unpin
  let x := s.pickRecord method
  let s := s.inForce x.1
  (s.itemsInForce.foldl State.applyItem6 s, x.2)

/-! ### Step 7 (R351) -/

/-- Step 7: the restore, or an empty map. -/
def State.bootMap (s : State) (method : Nat) : State × Nat :=
  if method ≠ 0 then (s, method)
  else if s.boot.snapRestore = false then (s, 0)
  else match s.snapHeader with
    | none => (s, 0)
    | some k => match s.snapAt k with
      | none => (s, 1)
      | some rs => match s.restoredPage rs with
        | none => (s, 1)
        | some (page, load, bank) => (s.restoreMap page load bank, 0)

/-! ### Step 11 (R352) -/

/-- The boot ends; in MODE 00 the device acts from now on (R25, R221). -/
def State.bootReady (s : State) : State :=
  let s := s.mapPwr fun w => { w with unrec := w.unrec || (List.range 32).any s.noSpare }
  let s := s.mapPins fun p => { p with faultN := !s.pwr.unrec }
  let s := ((s.setFwRun true).wr F.H2D_MASK_MASK s.runMask).raise F.BOOT_INT_BOOT_DONE
  let s := ((s.wr F.BOOT_STATUS_PHASE 2).mapBoot fun b => { b with stepAt := s.now }).refreshFault
  if s.mode = 0 ∧ s.acting = false then s.startActing else s.refreshPair

/-- The work of a step by a method, and its result; `none`: the device entered recovery (R343). -/
def State.stepWork (e : BootEnv) (s : State) (k : Nat) : State × Option Nat :=
  let m := s.stepMethod k
  match k with
  | 2 => (s.mapPwr fun w => { w with unrec := w.unrec || !e.margins }, some m)
  | 3 => (if m = 0 then s else s.retireBanks (e.bad.map fun b => b.val), some m)
  | 4 => let s := s.settleImages
    State.tryImages m (s.bootRec.choice (m == 1)) s
  | 5 => (s.startFirmware, some m)
  | 6 => let r := s.bootSettings m
    (r.1, some r.2)
  | 7 => let r := s.bootMap m
    (r.1, some r.2)
  | 8 => (if m = 2 then s else s.itemsInForce.foldl (State.applyItem8 (m == 1)) s, some m)
  | 10 =>
    let s := s.itemsInForce.foldl (State.applyItem10 (s.boot.portsEnable && m == 0) (m == 0)) s
    (if s.boot.portsEnable && m == 1 then (s.mapBoot fun b => { b with slow := s.itemsInForce.filterMap Item.enabledPort }).enableQuad else s, some m)
  | _ => (s, some m)

/-- Step `k` is in progress. -/
def State.inStep (s : State) (k : Nat) : Bool := s.rd F.BOOT_STATUS_STEP == k && decide (s.rd F.BOOT_STATUS_PHASE ≤ 1)

/-- Step `k` runs to its end at the tick the command gives, unless its watchdog comes first, and the next begins (R343, R344). -/
def State.bootStep (e : BootEnv) (s : State) (k : Nat) : State :=
  let s' := s.tick (e.ends.getD (k - 1) s.now)
  if s.inStep k && decide (s'.now < s.boot.stepAt + stepLimit k) then
    match s'.stepWork e k with
    | (s, none) => s
    | (s, some res) =>
      let s := s.endStep k res
      if k = 11 then s.bootReady else s.beginStep (k + 1)
  else s

/-- What the step log says of the previous boot (R344, BOOT_LASTFAIL). -/
def State.lastFail (s : State) : State :=
  match s.boot.lastLog with
  | some (k, 4) => (s.wr F.BOOT_LASTFAIL_STEP k).wr F.BOOT_LASTFAIL_CAUSE 1
  | some (k, 5) => (s.wr F.BOOT_LASTFAIL_STEP k).wr F.BOOT_LASTFAIL_CAUSE 2
  | some (_, 0) => s.raise F.BOOT_LASTFAIL_INTERRUPTED
  | some (_, 6) => s.raise F.BOOT_LASTFAIL_INTERRUPTED
  | some (_, 7) => s.raise F.BOOT_LASTFAIL_INTERRUPTED
  | _ => s

/-- The boot begins: the boot count saturates (R341), and step 1 begins. -/
def State.beginBoot (s : State) : State :=
  let s := s.mapBoot fun b => { b with bootAt := s.now }
  ((s.lastFail.mapBoot fun b => { b with lastLog := none }).writeRec fun r => { r with boots := min (r.boots + 1) 0xFFFFFFFF }).beginStep 1

/-- BOOT_SEQUENCE (R343 to R352): the boot begins if none has, and runs to the end of step `n`; step n + 1 is then in progress. -/
def execBootSequence (t : Nat) (n : Fin 12) (e : BootEnv) (s : State) : Res :=
  let s := s.tick t
  let s := if s.inStep 0 then s.beginBoot else s
  .next ((List.range n.val).foldl (fun s i => s.bootStep e (i + 1)) s)

/-- BOOT_WATCHDOG (R344): the step in progress fails, by its watchdog or by a fatal error, and the device resets itself. -/
def execBootWatchdog (t : Nat) (fatal : Bool) (s : State) : Res :=
  let s := s.tick t
  let k := s.rd F.BOOT_STATUS_STEP
  if 1 ≤ k ∧ s.inStep k = true ∧ (fatal = true ∨ s.boot.stepAt + stepLimit k ≤ s.now) then
    let s := (s.logStep k (if fatal then 5 else 4)).writeRec fun r => r.setCnt k (min 15 (r.cnt k + 1))
    .next s.deviceReset
  else .next s

/-- FAILCNT_CLEAR (R346): after 1 h of running past step 11 every FAILCNT returns to 0. -/
def execFailcntClear (t : Nat) (s : State) : Res :=
  let s := s.tick t
  if (s.rd F.BOOT_STATUS_PHASE = 2 ∨ s.rd F.BOOT_STATUS_PHASE = 3) ∧ s.boot.stepAt + 3600 * secTicks ≤ s.now then
    .next (s.writeRec fun r => { r with fail := List.replicate 11 0 })
  else .next s

end Sys2Proof.Machine
end

