-- ==== Sys2Proof/Machine/OtnRx.lean ====
section
/-! DEFINITION. Machine/OtnRx.lean: receiving OTU frames (spec/06 R151, R168; spec/07 R169, R172, R187, R189, R190; spec/00 R5). A frame
comes as the line bytes of each lane; lanes are joined, the frame descrambled and corrected, its overhead taken and its client
recovered. -/
namespace Sys2Proof.Machine

/-! ### Mapping (R189; the columns of G.709, log entry 11) -/

/-- The columns of fixed stuff in the payload of a mode (G.709, 0-based from column 16). -/
def otuStuff (mode c : Nat) : Bool :=
  if mode = 9 then decide (1904 ≤ c) && decide (c < 1920)
  else if mode = 8 then (decide (1264 ≤ c) && decide (c < 1280)) || (decide (2544 ≤ c) && decide (c < 2560))
  else false

/-- Client bytes per OTU frame of a mode. -/
def otuRoom (mode : Nat) : Nat := if mode = 9 then 15168 else if mode = 8 then 15104 else 15232


/-- Byte of an OTU frame: row 0 to 3, column 0 to 3823. -/
def otuAt (d : List W8) (r c : Nat) : W8 := d.getD (r * 3824 + c) 0

/-- BIP-8 over the OPU: columns 14 to 3823 (G.709; R189). -/
def opuBip (d : List W8) : W8 := bip8 ((List.range 4).flatMap fun r => (d.drop (r * 3824 + 14)).take 3810)

/-- The errors that a BEI field reports: 0 to 8 (G.709). -/
def beiOf (b : W8) : Nat := if bits b.toNat 4 4 ≤ 8 then bits b.toNat 4 4 else 0

/-- The justification that a received frame carries, by the majority of the three JC bytes (R189). -/
def otuJc (d : List W8) : Nat :=
  let jc := fun (r : Nat) => bits (otuAt d r 15).toNat 0 2
  let maj := fun (i : Nat) => b2n (decide (2 ≤ bits (jc 0) i 1 + bits (jc 1) i 1 + bits (jc 2) i 1))
  maj 0 + 2 * maj 1

/-- The client bytes of a received frame with their columns from the frame's start (R189): NJO carries data at JC 01, PJO none at
JC 11. -/
def otuClient (mode : Nat) (d : List W8) : List (W8 × Nat) :=
  let jc := otuJc d
  (List.range 4).flatMap fun r =>
    (List.range 3809).filterMap fun i =>
      let c := 15 + i
      if c = 15 then (if r = 3 ∧ jc = 1 then some (otuAt d 3 15, 4080 * r + c) else none)
      else if otuStuff mode c || (decide (r = 3) && decide (c = 16) && decide (jc = 3)) then none
      else some (otuAt d r c, 4080 * r + c)

/-- Ticks of one OTU frame (R169). -/
def otuTicks (mode : Nat) : Nat := if mode = 8 then frameLen mode / 4 else frameLen mode

/-! ### The client stream (R169, R189) -/

/-- The next whole client frame of `n` STS-1s in a stream, with the tick of its first byte; `pos`: the place of the framing pattern, in
client bits since the OTU came in frame, modulo the client frame. -/
def ClientRx.take (n pos : Nat) (c : ClientRx) : Option ((List W8 × Nat) × ClientRx) :=
  let len := 6480 * n
  let off := (pos + 2 * len - 8 * (n - 3) - 8 * c.ctr % len) % len
  let k := off / 8
  let r := off % 8
  let bs := (c.buf.drop k).map Prod.fst
  if bs.length < 810 * n + b2n (decide (r ≠ 0)) then none
  else
    let frame := (List.range (810 * n)).map fun i => if r = 0 then bs.getD i 0 else (bs.getD i 0 <<< r) ||| (bs.getD (i + 1) 0 >>> (8 - r))
    some ((frame, ((c.buf[k]?).getD (0, 0)).2), { buf := c.buf.drop (k + 810 * n), ctr := (c.ctr + k) % (810 * n) })

/-- The client stream of a port. -/
def State.client (s : State) (p : Nat) : ClientRx := Store.get (fun _ => ClientRx.reset) s.line.clients p
/-- Set the client stream of a port. -/
def State.setClient (s : State) (p : Nat) (c : ClientRx) : State :=
  s.mapLine fun l => { l with clients := Store.put (fun _ => ClientRx.reset) l.clients p c }

/-- Whole client frames leave the stream (R189); under facility loopback they are what the port sends (R168). -/
def State.clientFrames (p n : Nat) : Nat → State → State
  | 0, s => s
  | fuel + 1, s =>
    let f := s.framer (64 + p)
    if f.inFrame then
      match (s.client p).take n f.pos with
      | none => s
      | some ((bs, t), c) =>
        let s := s.setClient p c
        let s := if s.loop p = 1 then s.setTx p (scramble n bs) else s
        State.clientFrames p n fuel (s.sonetFrame p true [t] bs)
    else s.setClient p { buf := [], ctr := ((s.client p).ctr + (s.client p).buf.length) % (810 * n) }

/-- The client bytes of a frame that began at tick `t` join the stream, and the client frames that are whole are taken. -/
def State.takeClient (s : State) (p t : Nat) (d : List W8) : State :=
  let mode := s.prtMode p
  let c := s.client p
  let new := (otuClient mode d).map fun x => (x.1, t + x.2 * otuTicks mode / 16320)
  State.clientFrames p (modeCells mode) 128 (s.setClient p { c with buf := c.buf ++ new })

/-! ### Lanes (R151, R169) -/

/-- The bytes of an OTU frame on the line, lane by lane: logical lane j on lane 4k + j (R151). -/
def otuLanes (mode : Nat) (d : List W8) : List (List W8) :=
  let wire := otuWire d
  if isBonded mode then (List.range 4).map (otlLane (otuAt d 0 6).toNat wire) else [wire]

/-- The MFAS of a frame that comes by lanes: that after the FAS on one of them, else the one that follows the last. -/
def State.laneMfas (s : State) (p : Nat) (lanes : List (List W8)) : Nat :=
  match lanes.find? fun l => decide (l.take 6 = otuFas) with
  | some l => (l.getD 6 0 ^^^ 0xFF).toNat
  | none => ((s.prx p).mfas + 1) % 256

/-- The line bytes of a frame: those of the one lane, or of four, each the logical lane that its marker says (R151). -/
def State.joinOtu (s : State) (p : Nat) (lanes : List (List W8)) : List W8 :=
  if isBonded (s.prtMode p) then
    otlJoin (s.laneMfas p lanes) fun j =>
      match (List.range 4).find? fun k => decide ((s.framer (p + k)).ctr % 4 = j) with
      | some k => lanes.getD k []
      | none => []
  else lanes.getD 0 []

/-- FAS of a frame (R169): errored in 5 consecutive frames of a lane ends the alignment. Of an OTU3x4 port the frame's FAS is on the lane
whose marker it is. -/
def State.checkFas (s : State) (p : Nat) (starts : List Nat) (bad : Bool) (mfas : Nat) : State :=
  let ls := s.lanes p
  let s := ((List.range ls.length).zip ls).foldl (fun s x =>
    let f := s.framer x.2
    if f.inFrame && (!isBonded (s.prtMode p) || decide (f.ctr % 4 = mfas % 4)) then
      let run := if bad then f.errRun + 1 else 0
      let f := { f with errRun := run, start := starts.getD x.1 s.now, ctr := mfas }
      s.setFramer x.2 (if 5 ≤ run then f.lose s.now (frameLen (s.prtMode p)) else f)
    else s) s
  s.afterFramer p false true

/-! ### Overhead (R187, R189, R190) -/

/-- LOM (R190): MFAS out of sequence in 5 consecutive frames for 3 ms; in sequence in 2 for 3 ms. -/
def State.takeMfas (s : State) (p mfas : Nat) : State :=
  let r := s.prx p
  let seq := r.mfas == 256 || (r.mfas + 1) % 256 == mfas
  let x := s.debounce (runKey p portCode 14) 5 2 (!seq) r.lomBad
  let since := if x.2 = r.lomBad then r.lomSince.getD s.now else s.now
  let s := x.1.mapPrx p fun r => { r with mfas := mfas, lomBad := x.2, lomSince := some since }
  if since + lofTicks ≤ s.now then s.setDef p 5 x.2 else s

/-- The payload type, at MFAS 0 (R189): accepted after 3 identical values. -/
def State.takePt (s : State) (p mfas : Nat) (b : W8) : State :=
  if mfas = 0 then
    let s := s.observe (runKey p portCode 5) b.toNat
    if s.ran (runKey p portCode 5) b.toNat 3 then
      (s.wr (F.PRT_OTN_RX_PT p) b.toNat).setDef p 12 (b != 0x02 && b != 0x03)
    else s
  else s

/-- A TTI byte of SM (kind 4) or PM (kind 5) (R187): 64 bytes from MFAS 0 modulo 64; SAPI and DAPI are compared. -/
def State.otnTrace (p mfas : Nat) (s : State) (x : Nat × W8) : State :=
  (s.ttiSlots p x.1 portCode).foldl (fun s k =>
    let y := Store.get (fun _ => TtiRx.reset) s.line.tti (p * 64 + k)
    let buf := if mfas % 64 = 0 then [x.2] else if y.buf.length = mfas % 64 then y.buf ++ [x.2] else []
    if buf.length = 64 then s.trace p k portCode buf (buf.take 32)
    else s.mapLine fun l =>
      { l with tti := Store.put (fun _ => TtiRx.reset) l.tti (p * 64 + k) { y with buf := buf } }) s

/-- The violations of a received frame wait for the next OTU frame that is sent (R189); no more than 64 wait. -/
def State.oweBei (s : State) (p sm pm : Nat) : State :=
  let q := Store.get (fun _ => OtuTx.reset) s.line.otu p
  s.mapLine fun l => { l with otu := Store.put (fun _ => OtuTx.reset) l.otu p { q with bei := (q.bei ++ [(sm, pm)]).drop (q.bei.length - 63) } }

/-- The BIP-8 of SM and PM (R189): over the OPU of the frame before the last. -/
def State.takeBip (s : State) (p : Nat) (d : List W8) : State :=
  let r := s.prx p
  let viol := fun (b : W8) => match r.bip.getD 1 0, decide (r.bip.length = 2) with
    | x, true => violations x b
    | _, false => 0
  let sm := viol (otuAt d 0 8)
  let pm := viol (otuAt d 2 10)
  let s := s.mapPrx p fun r => { r with bip := (opuBip d :: r.bip).take 2 }
  let s := s.oweBei p sm pm
  let s := (s.inc (F.PRT_CNT_COUNT p 3) sm).inc (F.PRT_CNT_COUNT p 5) pm
  s.addViol (pathAt p portCode) sm

/-- The overhead of an OTU frame (R189, R190). -/
def State.otnOverhead (s : State) (p corr : Nat) (d : List W8) : State :=
  let mfas := (otuAt d 0 6).toNat
  let sm := otuAt d 0 9
  let pm := otuAt d 2 11
  let stat := bits pm.toNat 0 3
  let s := (s.takeMfas p mfas).takeBip p d
  let s := (s.inc (F.PRT_CNT_COUNT p 4) (beiOf sm)).inc (F.PRT_CNT_COUNT p 6) (beiOf pm)
  let s := s.inc (F.PRT_CNT_COUNT p 7) corr
  let s := (s.portCond p 6 10 5 (bitOf sm.toNat 3)).portCond p 7 11 5 (bitOf pm.toNat 3)
  let s := ((s.portCond p 8 7 3 (stat == 7)).portCond p 9 8 3 (stat == 6)).portCond p 10 9 3 (stat == 5)
  let s := (s.wr (F.PRT_OTN_RX_STAT p) stat).takePt p mfas (otuAt d 3 14)
  [(4, otuAt d 0 7), (5, otuAt d 2 9)].foldl (State.otnTrace p mfas) s

/-- A frame after FEC (R189): its rows, corrected when FEC_RX = 1, and the symbols corrected. -/
def State.fecOtu (s : State) (p : Nat) (d : List W8) : List W8 × Nat :=
  let rows := (List.range 4).map fun r => (d.drop (4080 * r)).take 4080
  if s.flag (F.PRT_OH_CFG_FEC_RX p) then
    let fixed := rows.map fix255
    (fixed.flatMap Prod.fst, (fixed.map Prod.snd).sum)
  else (rows.flatMap fun r => r.take 3824, 0)

/-- Under facility loopback the received frame is the one that the port sends (R168). -/
def State.loopOtu (s : State) (p : Nat) (d : List W8) : State :=
  if s.loop p = 1 then
    s.mapLine fun l => { l with otu := Store.put (fun _ => OtuTx.reset) l.otu p { Store.get (fun _ => OtuTx.reset) l.otu p with last := d } }
  else s

/-- OTN_FRAME_RX (R189): an OTU frame: the tick at which it starts on each lane and the bytes of each lane as received; `ais`: it is the
generic AIS pattern. Under terminal loopback the port's own frame is received (R168). -/
def execOtnFrameRx (t : Nat) (p : Port) (starts : List Nat) (l0 l1 l2 l3 : List W8) (ais : Bool) (s : State) : Res :=
  let s := s.tick t
  let p := p.val
  let own := Store.get (fun _ => OtuTx.reset) s.line.otu p
  let lanes := s.received p (otuLanes (s.prtMode p) own.last) ([l0, l1, l2, l3].take starts.length)
  let d := otuWire (s.joinOtu p lanes)
  if isOtn (s.prtMode p) = true ∧ s.rxOn p = true ∧ d.length = 16320 then
    let s := s.portCond p 11 6 3 ais
    let s := (s.loopOtu p d).checkFas p starts (decide (d.take 6 ≠ otuFas)) (s.laneMfas p lanes)
    if s.framed p then
      let x := s.fecOtu p d
      let s := (s.otnOverhead p x.2 x.1).takeClient p (starts.foldl max 0) x.1
      .next (s.updateRdi p).refreshRefs
    else .next ((s.dropRuns p false).updateRdi p).refreshRefs
  else .next s

end Sys2Proof.Machine
end

