-- ==== Sys2Proof/Machine/ZiuthRx.lean ====
section
/-! DEFINITION. Machine/ZiuthRx.lean: receiving Ziuth line frames (spec/07 R169, R173 to R179, R190). A frame comes as the symbols of
its lane from the FAW on. -/
namespace Sys2Proof.Machine

/-- Bytes of a data region (R176). -/
def ziuthLen (mode : Nat) : Nat := if mode = 1 then 783850 else 391925
/-- Block length of a data region (R176). -/
def ziuthBlock (mode : Nat) : Nat := if mode = 1 then 967 else 483

/-- The payload of a data region, cell by cell within each position (R176). -/
def ziuthPayload (mode : Nat) (data : List W8) : List W8 :=
  (List.range 810).flatMap fun q => (data.drop (136 + ziuthBlock mode * q)).take (modeCells mode)

/-- The FAW of a frame (R169): more than 3 bit errors in 4 consecutive frames end the alignment. -/
def State.checkFaw (s : State) (p fawErr zfc : Nat) : State :=
  let f := s.framer p
  let run := if 3 < fawErr then f.errRun + 1 else 0
  let f := { f with errRun := run, start := s.now, ctr := zfc }
  (s.setFramer p (if 4 ≤ run then f.lose s.now frameTicks else f)).afterFramer p false true

/-- The overhead of a Ziuth frame (R177, R190). -/
def State.ziuthOverhead (s : State) (p corr uncorr : Nat) (bad : Bool) (data : List W8) : State :=
  let b := fun (i : Nat) => data.getD i 0
  let s := ((s.inc (F.PRT_CNT_COUNT p 0) corr).inc (F.PRT_CNT_COUNT p 1) uncorr).inc (F.PRT_CNT_COUNT p 2) (b2n bad)
  let s := (s.addViol (pathAt p portCode) (corr + 16 * uncorr)).mapPrx p fun r =>
    { r with bcCorr := min corr 65535, bcUncorr := min uncorr 255, bcCrc := bad }
  let far := 256 * (b 4).toNat + (b 5).toNat
  let s := (s.wr (F.PRT_BC_RX_CORR p) far).wr (F.PRT_BC_RX_UNCORR p) (b 6).toNat
  let s := s.wr (F.PRT_BC_RX_CRC p) (bits (b 7).toNat 0 1)
  let s := ((s.inc (F.PRT_CNT_COUNT p 3) far).inc (F.PRT_CNT_COUNT p 4) (b 6).toNat).inc (F.PRT_CNT_COUNT p 5) (bits (b 7).toNat 0 1)
  let s := (s.takeQl p (b 2)).portCond p 2 13 5 (bitOf (b 3).toNat 0)
  s.queueOh p s.now ((data.drop 8).take 128)

/-- The CRC-32 of a data region fits (R176). -/
def ziuthCrcOk (data : List W8) : Bool :=
  let n := data.length - 4
  decide (ofLe (data.drop n) = (crc32 (data.take n)).toNat)

/-- ZIUTH_FRAME_RX (R174 to R177): the symbols of a frame whose FAW starts at tick `t`, those of the FAW, of the codewords and of the padding
one after the other; `half`: the FAW starts on the second bit of the first symbol; every codeword is decoded, and the payload waits for the input frame of its t0 (R49). Under terminal loopback the port's own frame is
received (R168). -/
def execZiuthFrameRx (t : Nat) (p : Port) (half : Bool) (faw code pad : List (Fin 4)) (s : State) : Res :=
  let s := s.tick t
  let p := p.val
  let mode := s.prtMode p
  let line := s.received p (ziuthLine mode (s.lastTx p)) (ziuthBits mode half (faw ++ code ++ pad))
  if isZiuth mode = true ∧ s.rxOn p = true ∧ ziuthFits mode line.length = true then
    let x := ziuthDecode mode line
    let data := x.1
    let s := if s.loop p = 1 then s.setTx p data else s
    if s.framed p then
      let s := s.checkFaw p (fawErrors line) (256 * (data.getD 0 0).toNat + (data.getD 1 0).toNat)
      if s.framed p then
        let s := s.ziuthOverhead p x.2.1 x.2.2 (!ziuthCrcOk data) data
        let y := s.path p portCode
        let spe : Spe := { t0 := 810 * s.now, bytes := (ziuthPayload mode data).map some, shut := [], poh := [] }
        let s := if s.writes p then s.setPath p portCode { y with done := y.done ++ [spe] } else s
        .next (s.updateRdi p).refreshRefs
      else .next ((s.dropRuns p false).updateRdi p).refreshRefs
    else .next s
  else .next s

end Sys2Proof.Machine
end

