-- ==== Sys2Proof/Machine/LineTx.lean ====
section
/-! DEFINITION. Machine/LineTx.lean: the frames that the transmitters send (spec/02 R41, R43, R51; spec/05 R141; spec/06 R151,
R155, R168; spec/07 R174 to R177, R180 to R183, R185, R186, R189, R195). -/
namespace Sys2Proof.Machine

/-! ### What is inserted, taken at the frame mark -/

/-- K1 and K2 that a port's group sends (R141, R142): APS_TX, with K2[3] = 1 in ARCH 11. DEDUCED (log 73): the transmitter sets
that bit whatever APS_TX holds. -/
def State.apsSent (s : State) (p : Nat) : Nat :=
  match s.groups.find? fun g => decide (g.1 = p) || decide (gProt g.2 = p) with
  | some g =>
    let x := bits (s.reg (0x40090300 + g.1 * 4)).toNat 0 16
    if gArch g.2 = 3 then x ||| 0x800 else x
  | none => 0

/-- K1 and K2 of a port (R141, R142, R181): those of its group, K2[2:0] = 110 while RDI-L is sent. -/
def State.kBytes (s : State) (p : Nat) : W8 × W8 :=
  let aps := s.apsSent p
  let k2 := aps / 256
  (BitVec.ofNat 8 aps, BitVec.ofNat 8 (if (s.dyn p).rdi then k2 / 8 * 8 + 6 else k2))

/-- BDI (R189): LOS, LOF, LOM or OTU-AIS for SM, also ODU-AIS, OCI or LCK for PM. -/
def State.smBdi (s : State) (p : Nat) : Bool := s.pdef p 0 || s.pdef p 2 || s.pdef p 5 || s.pdef p 6

/-- What the transmitter of a port inserts into the output frame that begins (R177, R180, R189). -/
def State.takeTxOh (s : State) (p : Nat) : TxOh :=
  let r := s.prx p
  { cfg := s.reg (prtBase p + 0x108), k1 := (s.kBytes p).1, k2 := (s.kBytes p).2, ql := s.portQl p, rdi := (s.dyn p).rdi,
    rei := r.rei, pmBdi := s.smBdi p || s.pdef p 7 || s.pdef p 8 || s.pdef p 9,
    bcCorr := r.bcCorr, bcUncorr := r.bcUncorr, bcCrc := r.bcCrc, was := none }

/-- The port's transmitter sends the output frame that begins now; one that is disabled has sent its last frame at T_e (R162). -/
def State.transmits (s : State) (p : Nat) : Bool :=
  decide ((s.dyn p).tx = 2) && !s.member p &&
    match (s.dyn p).cmd with
    | .disabling _ _ (some _) => false
    | _ => true

/-- Every transmitter that sends takes its insertions at a frame mark; the others send nothing in this frame. -/
def State.markTx (s : State) : State :=
  s.mapLine fun l => { l with txOld := l.txOh, txOh := (List.range 48).filterMap fun p =>
    if (s.transmits p) then some (p, some (s.takeTxOh p)) else none }

/-! ### SPEs (R182, R183, R185, R186) -/

/-- Change one byte of a list. -/
def patch (bs : List W8) (x : Nat × W8) : List W8 := bs.set x.1 x.2

/-- One VT of an output SPE (R41, R182, R185, R186); `aisP`: the path sends AIS-P, so that all its bytes leave as ones. -/
def State.sendVt (p f m : Nat) (ph : Nat) (aisP : Bool) (z : State × List W8) (c : Nat × Nat × Nat × Bool) : State × List W8 :=
  let s := z.1
  let vt2 := c.2.2.2
  let key := pathAt p (pathCode c.1 c.2.1 c.2.2.1 true)
  let n := if vt2 then 36 else 27
  let at_ := fun (i : Nat) => vtIndex m (c.1 - f) vt2 c.2.1 c.2.2.1 i
  let x := Store.get (fun _ => VtTx.reset) s.line.vtTx key
  let poh := z.2.getD (at_ 1) 0
  let x := if ph = 0 then { x with ais := x.next, next := poh == 0xFF, prev := x.acc, acc := 0 } else x
  let v := if ph = 0 then (if vt2 then 0x68 else 0x6C) else if ph = 1 then (if vt2 then 0x69 else 0x4E) else 0x00
  let poh := if ph = 0 then BitVec.ofNat 8 (poh.toNat % 64 + ((bip2 x.prev) ^^^ (poh.toNat / 64)) * 64) else poh
  let spe := if x.ais || aisP then (List.range n).foldl (fun l i => patch l (at_ i, 0xFF)) z.2
    else patch (patch z.2 (at_ 0, v)) (at_ 1, poh)
  let sum := bip8 ((List.range (n - 1)).map fun i => spe.getD (at_ (i + 1)) 0)
  let x := { x with acc := x.acc ^^^ sum }
  (s.mapLine fun l => { l with vtTx := Store.put (fun _ => VtTx.reset) l.vtTx key x }, spe)

/-- The SPE of the path from cell `f` of `m` cells that a port sends, and whether it sends AIS-P; `prev`: the SPE before. -/
def State.sendSpe (s : State) (sm : Sample) (p f m : Nat) (prev : List W8) : State × List W8 × Bool :=
  let built := (List.range (783 * m)).map fun i =>
    let r := i / (87 * m)
    let j := i % (87 * m)
    s.txByte p (f + j % m) (r * 90 + 3 + j / m)
  let poh := fun (r : Nat) => built.getD (r * 87 * m) 0
  let ais := (List.range 9).all fun r => poh r == 0xFF
  let ph := sm.fn.toNat % 4
  let spe := patch (patch built (b3Row * 87 * m, poh b3Row ^^^ bip8 prev)) (5 * 87 * m, BitVec.ofNat 8 (0xFC + (ph + 1) % 4))
  let list := (s.vtCells p f m).flatMap fun c => (s.vtsOf p c).map fun y => (c, y.1, y.2.1, y.2.2)
  let z := list.foldl (State.sendVt p f m ph ais) (s, spe)
  (z.1, if ais then List.replicate (783 * m) 0xFF else z.2, ais)

/-! ### SONET/SDH line frames (R180, R185) -/

/-- Every STS-1 of a port with the path that it belongs to: number, head, size, member. -/
def State.stsPaths (s : State) (p n : Nat) : List (Nat × Option (Nat × Nat × Nat)) :=
  (List.range n).map fun k =>
    (k, ((s.pathHeads p).find? fun h => decide (h.1 ≤ k) && decide (k < h.1 + h.2)).map fun h =>
      (h.1, h.2, if h.2 < 3 then k - h.1 else (k - h.1) % 3 * (h.2 / 3) + (k - h.1) / 3))

/-- A transport-overhead byte of a sent frame: row, column, place; `prev`: the frame sent before, `d`: the D bytes. -/
def tohSent (n : Nat) (o : TxOh) (b1 : W8) (prev d : List W8) (r c x : Nat) : W8 :=
  let first := fun (b : W8) => if x = 0 then b else 0x00
  match r, c with
  | 0, 0 => 0xF6
  | 0, 1 => 0x28
  | 0, _ => if x = 0 then BitVec.ofNat 8 (bits o.cfg.toNat 4 8) else 0xCC
  | 1, 0 => first b1
  | 2, c => first (d.getD c 0)
  | 4, 0 => if prev = [] then 0x00 else b2Of n prev x
  | 4, 1 => first o.k1
  | 4, _ => first o.k2
  | 5, c => first (d.getD (3 + c) 0)
  | 6, c => first (d.getD (6 + c) 0)
  | 7, c => first (d.getD (9 + c) 0)
  | 8, 0 => first (BitVec.ofNat 8 o.ql)
  | 8, 1 =>
    if x = 2 then BitVec.ofNat 8 o.rei
    else if x = 1 ∧ 192 ≤ n then BitVec.ofNat 8 (o.rei / 256) else 0x00
  | _, _ => 0x00

/-- H1, H2 and H3 of an STS-1 (R155, R185, R186). -/
def pointerSent (o : TxOh) (head ais : Bool) (c : Nat) : W8 :=
  let ss := bits o.cfg.toNat 2 2
  if ais then 0xFF
  else match c with
    | 0 => BitVec.ofNat 8 ((if head then 0x62 else 0x93) + 4 * ss)
    | 1 => if head then 0x0A else 0xFF
    | _ => 0x00

/-- The D bytes that a port sends (R195). -/
def State.dSent (s : State) (old : Bool) (p : Nat) (o : TxOh) : List W8 :=
  if bits o.cfg.toNat 0 2 = 1 then
    [2, 5, 6, 7].flatMap fun r => (List.range 3).map fun c => s.txByte p 0 (r * 90 + c)
  else s.chanBytes old p 0 ++ s.chanBytes old p 1

/-- The line frame that a SONET/SDH port or an OTN client sends, before scrambling (R180, R185, R186). -/
def State.sendSonet (s : State) (sm : Sample) (old : Bool) (p : Nat) (o : TxOh) : State × List W8 :=
  let n := modeCells (s.prtMode p)
  let prev := s.lastTx p
  let b1 := if prev = [] then 0x00 else bip8 (scramble n prev)
  let d := s.dSent old p o
  let step := fun (z : State × List (Nat × List W8 × Bool)) (h : Nat × Nat) =>
    let y := z.1.sendSpe sm p h.1 h.2 (if prev = [] then [] else payload n (pathPlaces n h.1 h.2) prev 0 9)
    (y.1, z.2 ++ [(h.1, y.2.1, y.2.2)])
  let z := (s.pathHeads p).foldl step (s, [])
  let sts := s.stsPaths p n
  let speOf := fun (f : Nat) => (z.2.find? fun y => decide (y.1 = f)).map Prod.snd
  let byte := fun (r c x : Nat) =>
    let k := 3 * (x % (n / 3)) + x / (n / 3)
    let path := ((sts.getD k (k, none)).2).bind fun q => (speOf q.1).map fun y => (q, y)
    if c < 3 then
      if r = 3 then (match path with
        | some (q, y) => pointerSent o (q.1 == k) y.2 c
        | none => 0xFF)
      else tohSent n o b1 prev d r c x
    else match path with
      | some (q, y) => y.1.getD (r * 87 * q.2.1 + (c - 3) * q.2.1 + q.2.2) 0xFF
      | none => 0xFF
  (z.1, (List.range 9).flatMap fun r => (List.range 90).flatMap fun c => (List.range n).map fun x => byte r c x)

/-! ### Ziuth (R174 to R177) -/

/-- The data region that a Ziuth port sends (R176, R177). -/
def State.sendZiuth (s : State) (sm : Sample) (old : Bool) (p : Nat) (o : TxOh) : List W8 :=
  let mode := s.prtMode p
  let c := modeCells mode
  let b := ziuthBlock mode
  let fn := sm.fn.toNat
  let oh : List W8 := ([fn / 256, fn, o.ql, b2n o.rdi, o.bcCorr / 256, o.bcCorr, o.bcUncorr, b2n o.bcCrc] : List Nat).map
    (BitVec.ofNat 8) ++ [2, 3, 4, 5].flatMap (s.chanBytes old p)
  let blocks := (List.range 810).flatMap fun q =>
    (List.range c).map (fun cell => s.txByte p cell q) ++ List.replicate (b - c) 0x00
  let body := oh ++ blocks
  let body := body ++ List.replicate (ziuthLen mode - 4 - body.length) 0x00
  body ++ leBytes (crc32 body).toNat 4

/-! ### OTN (R189) -/

/-- A row of the payload: client bytes between the stuff columns. -/
def otuRow (mode : Nat) (bs : List W8) : List W8 :=
  ((List.range 3808).foldl (fun (z : List W8 × List W8) c =>
    if otuStuff mode (16 + c) then (z.1, 0x00 :: z.2) else (z.1.drop 1, z.1.headD 0 :: z.2)) (bs, [])).2.reverse

/-- Overhead of a row of an OTU frame (R5, R189). -/
def otuOverhead (o : TxOh) (smBdi : Bool) (mfas : Nat) (bip : W8) (bei : Nat × Nat) (r : Nat) : List W8 :=
  match r with
  | 0 => [0xF6, 0xF6, 0xF6, 0x28, 0x28, 0x28, BitVec.ofNat 8 mfas, 0x00, bip,
      BitVec.ofNat 8 (min bei.1 8 * 16 + b2n smBdi * 8), 0, 0, 0, 0, 0, 0]
  | 2 => [0, 0, 0, 0, 0, 0, 0, 0, 0, 0x00, bip, BitVec.ofNat 8 (min bei.2 8 * 16 + b2n o.pmBdi * 8 + 1), 0, 0, 0, 0]
  | 3 => [0, 0, 0, 0, 0, 0, 0, 0, 0, 0, 0, 0, 0, 0,
      if mfas = 0 then (if bitOf o.cfg.toNat 12 then 0x03 else 0x02) else 0x00, 0]
  | _ => List.replicate 16 0

/-- One OTU frame from the client bytes that wait, with the violations of one received frame (R189). DEDUCED (log entry 78): those of each
received frame are reported once, in the order received; without one the field is 0. FEC parity follows each row when FEC_TX = 1, zeros
otherwise. -/
def otuFrame (mode : Nat) (o : TxOh) (smBdi : Bool) (x : OtuTx) : OtuTx :=
  let per := otuRoom mode / 4
  let rows := (List.range 4).flatMap fun r =>
    otuOverhead o smBdi x.mfas (x.bip.getD 1 0) (x.bei.headD (0, 0)) r ++ otuRow mode ((x.buf.drop (per * r)).take per)
  let last := (List.range 4).flatMap fun r =>
    let row := (rows.drop (r * 3824)).take 3824
    row ++ (if bitOf o.cfg.toNat 13 then rs255 row else List.replicate 256 0)
  { buf := x.buf.drop (otuRoom mode), mfas := (x.mfas + 1) % 256, bip := (opuBip rows :: x.bip).take 2, bei := x.bei.drop 1, last := last }

/-- The OTU frames that the waiting client bytes fill. -/
def otuFrames (mode : Nat) (o : TxOh) (smBdi : Bool) : Nat → OtuTx → OtuTx
  | 0, x => x
  | k + 1, x => if otuRoom mode ≤ x.buf.length then otuFrames mode o smBdi k (otuFrame mode o smBdi x) else x

/-! ### The frame that a port sends -/

/-- A port's LOOP and structure as the frame sends them (R158, R168). -/
def State.asSent (s : State) (p : Nat) (o : TxOh) : State :=
  match o.was with
  | none => s
  | some c =>
    let s := s.wr (F.PRT_CFG_LOOP p) c.loop
    match c.struct with
    | some ws => s.writeStruct p ws
    | none => s

/-- One port has sent its output frame (R51): the frame is composed when its last position is taken; `old`: it is the one
before the frame under way, whose mark has passed. -/
def State.sendPort (old : Bool) (s : State) (x : Nat × Option TxOh) : State :=
  let p := x.1
  let mode := s.prtMode p
  let sm := if old then s.core.sampPrev else s.core.samp
  match x.2 with
  | none => s
  | some o =>
    if (s.asSent p o).loop p = 1 then s
    else if isZiuth mode then s.setTx p (s.sendZiuth sm old p o)
    else if mode = 0 then s
    else
      let y := (s.asSent p o).sendSonet sm old p o
      let s := ({ s with line := y.1.line }).setTx p y.2
      if isOtn mode then
        let q := Store.get (fun _ => OtuTx.reset) s.line.otu p
        let q := otuFrames mode o (s.smBdi p) 64 { q with buf := q.buf ++ scramble (modeCells mode) y.2 }
        s.mapLine fun l => { l with otu := Store.put (fun _ => OtuTx.reset) l.otu p q }
      else s

/-- POSITION_TAKE (R86, R108, R109): at its deadline the next position leaves the staging buffer; with the last position of
an output frame every transmitter's frame is complete. -/
def execPositionTake (t : Nat) (s : State) : Res :=
  let s := s.tick t
  if s.positionDue then
    let s := s.takePosition
    let old := decide (s.eng.taken / 810 ≤ s.core.samp.frame)
    if s.eng.taken % 810 = 0 then .next ((if old then s.line.txOld else s.line.txOh).foldl (State.sendPort old) s) else .next s
  else .next s

end Sys2Proof.Machine
end

