-- ==== Sys2Proof/Machine/Mark.lean ====
section
/-! DEFINITION. Machine/Mark.lean: the frame mark (spec/01 R13, R14; spec/02 R39, R46, R48 to R50; spec/05 R122; spec/09 R234, R237;
spec/12 R323; spec/13 R326). -/
namespace Sys2Proof.Machine

/-! ### The input frame that ends (R46, R48 to R50) -/

/-- A reference time in 1/810 tick is not after the window of the input frame that began at `t` (R49). -/
def dueBy (t t0 : Nat) : Bool := decide (t0 + 810 * 250 ≤ 810 * t)

/-- It lies in the window (R49). -/
def inWindow (t t0 : Nat) : Bool := dueBy t t0 && decide (810 * t < t0 + 810 * 12750)

/-- The bytes of an SPE as the input frame of phase `ph` holds them: the path-overhead byte of each VT is the last received of that
phase (R46). -/
def Spe.placed (x : Spe) (ph : Nat) : List (Option W8) :=
  x.poh.foldl (fun bs e => bs.set e.1 e.2[ph]?) x.bytes

/-- The image of a path in the previous input frame. -/
def State.lastImage (s : State) (p code : Nat) : Option Image :=
  if s.core.frames = 0 then none
  else (s.dataPage (s.core.frames - 1)).images.find? fun x => decide (x.port = p) && decide (x.key = code)

/-- A slip is counted (R50, R148). -/
def State.slip (s : State) (f : Fld) (p n : Nat) : State := if n = 0 then s else (s.inc f n).raise (F.PRT_INT_SLIP p)

/-- One path's part of the input frame that ends: the latest SPE of its window; without one the bytes of the frame before, while the
path is still written (R49, R50). A port out of service writes nothing (R33, R162). -/
def State.closePath (p : Nat) (z : State × List Image) (q : Image) : State × List Image :=
  let s := z.1
  let t := s.core.markT
  let x := s.path p q.key
  let mine := if s.inService p then x.done.filter fun e => inWindow t e.t0 else []
  let rest := x.done.filter fun e => !dueBy t e.t0
  match mine.getLast? with
  | some spe =>
    let s := (s.setPath p q.key { x with done := rest, live := true }).slip (F.PRT_SLIP_DEL_COUNT p) p (mine.length - 1)
    (s, { q with bytes := spe.placed (s.fn.toNat % 4) } :: z.2)
  | none =>
    let on := x.live && s.writes p && (q.key == portCode || s.rd (F.PATH_PTR_PSTATE p q.key) == 0)
    let old := if on then s.lastImage p q.key else none
    let s := s.setPath p q.key { x with done := rest, live := old.isSome }
    match old with
    | some i => (s.slip (F.PRT_SLIP_REP_COUNT p) p 1, i :: z.2)
    | none => (s, z.2)

/-- The paths of a port as empty images: a whole Ziuth port, or the paths of its structure. -/
def State.frames0 (s : State) (p : Nat) : List Image :=
  if s.prtMode p = 0 ∨ s.member p = true then []
  else if isZiuth (s.prtMode p) then
    [{ port := p, key := portCode, cell := 0, n := modeCells (s.prtMode p), lo := 0, cols := 90, bytes := [] }]
  else (s.pathHeads p).map fun h =>
    { port := p, key := pathCode h.1 0 0 false, cell := h.1, n := h.2, lo := 3, cols := 87, bytes := [] }

/-- The channel bytes of a port in the input frame that ends (R191, R193, R196): those of its window, or the frame's before as R50 has
it; none out of frame. DESIGN CHOICE (log entry 77): R49 gives no window for bytes of the port level, so the D bytes of a line frame are
placed by the window test on the first bit of that frame. -/
def State.closeOh (s : State) (p : Nat) : State :=
  let t := s.core.markT
  let q := Store.get (fun _ => []) s.line.ohq p
  let on := s.enabled p && s.framed p && (!isOtn (s.prtMode p) || (s.framer (64 + p)).inFrame)
  let new := match (q.filter fun e => inWindow t (810 * e.1)).getLast? with
    | some e => e.2
    | none => Store.get (fun _ => []) s.line.oh p
  let rest := q.filter fun e => !dueBy t (810 * e.1)
  s.mapLine fun l => { l with ohq := Store.put (fun _ => []) l.ohq p rest, oh := Store.put (fun _ => []) l.oh p (if on then new else []) }

/-- Bytes that an image wrote. -/
def Image.written (x : Image) : Nat := (x.bytes.filter Option.isSome).length

/-- One port's part of the input frame that ends; its written bytes are counted (R329, event 0x40). -/
def State.closePort (z : State × List Image × List (Nat × (Nat × List W8))) (p : Nat) : State × List Image × List (Nat × (Nat × List W8)) :=
  let y := (z.1.frames0 p).foldl (State.closePath p) (z.1, [])
  let s := y.1.closeOh p
  let n := s.cells p
  let toh := if !isZiuth (s.prtMode p) && decide (s.prtMode p ≠ 0) && s.writes p then [(p, n, Store.get (fun _ => []) s.line.oh p)] else []
  let bytes := (y.2.map Image.written).sum + 27 * (if toh.isEmpty then 0 else n)
  (s.count 0x40 p bytes, y.2 ++ z.2.1, toh ++ z.2.2)

/-- The input frame that ends is complete (R48 to R50). -/
def State.closeInput (s : State) : State :=
  if s.core.started then
    let z := (List.range 48).foldl State.closePort (s, [], [])
    z.1.putInput z.2.1 z.2.2
  else s

/-! ### The mark -/

/-- Selectors and monitors whose stored bits flipped are read (R130); the result: monitors that turned uncorrectable and changed their
effective condition. -/
def State.readUpsets (s : State) (selUp : List (BitVec 20 × W128)) (monUp : List (BitVec 21 × W64)) : State × List Nat :=
  let s := selUp.foldl (fun s x => s.readSel x.1.toNat (s.selRaw x.1.toNat ^^^ x.2)) s
  monUp.foldl (fun z x =>
    let r := z.1.readMon x.1.toNat (z.1.monRaw x.1.toNat ^^^ x.2)
    (r.1, if r.2 then x.1.toNat :: z.2 else z.2)) (s, [])

/-- A stack march begins at the first mark after its acceptance: every transmitter goes to electrical idle (R323). -/
def State.marchMark (s : State) : State :=
  if s.pwr.march = 1 then
    (List.range 48).foldl (fun s p => s.mapDyn p fun d => { d with tx := if d.tx = 3 then 3 else 0 }) (s.mapPwr fun w => { w with march := 2 })
  else s

/-- The parts of a mark that end the frame before: what reached the scratchpad and the PCIe configuration in it (R269, R298), its input frame and the tally's counts, then FN advances; FN is 0 at the first mark
(R39, R49, R326). -/
def State.endFrame (s : State) (scrUp : List (Fin 262144 × Bool)) (cfg : Option PcieCfg) (occ : List (Fin 64 × W32)) : State :=
  let s := (s.upsetWords scrUp).setPcie cfg
  let s := (s.mateMark.mapPair fun p => { p with actedPrev := s.acting }).closeInput
  let s := s.periodAdds occ
  s.setFn (if s.core.started then s.fn + 1 else 0)

/-- The parts of a mark that settle what the new frame samples, and the sample itself (R13, R221, R237, R332). -/
def State.sampleMark (s : State) (selUp : List (BitVec 20 × W128)) (monUp : List (BitVec 21 × W64)) (ok : Bool) : State × List Nat :=
  let s := (s.tallyMark ok).pairMark ok
  let z := if s.pwr.march = 2 then (s, []) else s.readUpsets selUp monUp
  (z.1.applyMirrored.marchMark.coreMark, z.2)

/-- The parts of a mark that start the new frame: ports, the protection walk, transmitters, management channels, the heartbeat (R119,
R160, R162, R193, R234, R270). -/
def State.beginFrame (s : State) (bad : List Nat) (rd : List (Fin 256 × List W8)) (ok evtOk : Bool) : State :=
  let s := (List.range 48).foldl (State.markPort ok) s
  let s := if s.pwr.march = 2 then s else s.walk bad
  let s := ((List.range 48).foldl State.markDisable s).markTx
  let s := (s.mdcMark (rd.map fun x => (x.1.val, x.2))).wakeDemands
  let s := (s.sendFor s.fn (.heartbeat s.heartbeatBody) true).checkDis
  ((s.eventSummary evtOk).enableQuad.refreshRefs.refreshFault).refreshPair

/-- FRAME_MARK (R13, R39, R50, R122, R323): `up`: bits that flip; `cfg`: what the host has set in the PCIe configuration space; `rd`:
bytes read from host TX rings; `occ`: adds of the counters whose events the model has no finer time for. -/
def execFrameMark (t : Nat) (up : Upsets) (cfg : Option PcieCfg) (rd : List (Fin 256 × List W8)) (occ : List (Fin 64 × W32))
    (rplOk evtOk : Bool) (s : State) : Res :=
  let z := ((s.tick t).endFrame up.scr cfg occ).sampleMark up.sel up.mon rplOk
  .next (z.1.beginFrame z.2 rd rplOk evtOk)

end Sys2Proof.Machine
end

