-- ==== Sys2Proof/Machine/Update.lean ====
section
/-! DEFINITION. Machine/Update.lean: GET_INFO, map snapshots, staging, handovers, trials, the MRAM check and firmware resets (spec/03 R83;
spec/10 R274, R275, R280; spec/12 R320; spec/14 R342, R358 to R368). -/
namespace Sys2Proof.Machine

/-- GET_INFO (R280, R347): word 1 reads 0 in recovery. -/
def execGetInfo (x : Exe) (s : State) : Res :=
  .next (s.run .getInfo x (fun _ _ => true) fun s _ =>
    .ok s [w32 (0x014825 + s.rd F.FUSE_CFG_GRADE * 0x1000000), if s.recovery then 0 else w32 (s.imgVersion s.runImg),
      w32 (s.runImg + 2 * b2n (s.flag F.BOOT_STATUS_TRIAL) + 4 * b2n (s.flag F.FUSE_CFG_DEBUG_DISABLE) + 8 * b2n s.acting +
        16 * s.pins.pcieGen + 256 * s.pins.pcieWidth), w32 s.bootRec.boots])

/-! ### Snapshots (R83, R342) -/

/-- The runs of the active page (R83). -/
def State.activeRuns (s : State) : List SnapRun := snapRuns s.active (lineEntries s.active) 0 []

/-- MAP_SNAPSHOT (R76, R83, R342): counts the runs, then the magic of the previous header goes. BUSY while a commit is in flight, and
while a check runs (DESIGN CHOICE, log entry 71). -/
def execMapSnapshot (x : Exe) (s : State) : Res :=
  .next (s.run .mapSnapshot x (fun _ _ => true) fun s _ =>
    if s.mapBusy then .refuse .busy
    else if 1572864 < s.activeRuns.length then .refuse .noResource
    else
      let s := match s.snapHeader with
        | some k => s.mramWrite (snapBase k) [0, 0, 0, 0]
        | none => s
      .later ((s.wr F.MAP_STATUS_STATE 5).mapMap fun m => { m with snap := true }))

/-- MAP_SNAPSHOT_DONE (R83, R342, R346): the runs, then the header, are in the MRAM. -/
def execMapSnapshotDone (t : Nat) (rplOk : Bool) (s : State) : Res :=
  let s := s.tick t
  if s.map.snap then
    let rs := s.activeRuns
    let bytes := rs.flatMap SnapRun.bytes
    let fn := s.rd F.MAP_FN_LAST_SWAP_FN
    let h := leBytes 0x534D5049 4 ++ leBytes 1 4 ++ leBytes (fn + s.rd F.MAP_COMMIT_CNT_COUNT % 65536 * 65536) 4 ++ leBytes rs.length 4 ++
      leBytes (crc32 bytes).toNat 4 ++ List.replicate 44 0
    let b := snapBase s.boot.snapK
    let s := ((s.mramWrite (b + 64) bytes).mramWrite b h).mapBoot fun b => { b with snapK := (b.snapK + 1) % 15 }
    let s := ((s.wr F.MAP_STATUS_STATE 0).mapMap fun m => { m with snap := false }).writeRec fun r => r.setCnt 7 0
    .next (s.complete .mapSnapshot .ok [w32 rs.length, w32 fn] rplOk)
  else .next s

/-! ### Staging (R358, R359) -/

/-- The slot and the flags of an FW_STAGE. -/
def stageSlot (d : List W32) : Nat := bits (word d 2) 0 1
/-- FIRST of an FW_STAGE. -/
def stageFirst (d : List W32) : Bool := bitOf (word d 2) 1

/-- This source has a staging session on the slot. -/
def State.stagingOn (s : State) (slot : Nat) : Bool := s.flag F.BOOT_STAGE_STAGING && decide (s.rd F.BOOT_STAGE_SLOT = slot)

/-- The bytes that the accepted chunks of the open session will have staged. -/
def State.stagedTo (s : State) : Nat :=
  match (s.boot.chunks.filter fun c => c.live).getLast? with
  | some c => c.off + c.data.length
  | none => s.rd F.BOOT_STAGE_OFFSET

/-- The BAD_PARAM cases of FW_STAGE (R359). -/
def State.stageBad (s : State) (d : List W32) : Bool :=
  let slot := stageSlot d
  (!s.recovery && decide (slot = s.runImg)) || (!stageFirst d && !s.stagingOn slot) ||
    decide (word d 3 ≠ if stageFirst d then 0 else s.stagedTo) || decide (393216 < word d 3 + word d 4)

/-- FIRST: a session opens and the slot is erased (R358). -/
def State.openStaging (s : State) (src : Src) (slot : Nat) : State :=
  let s := (if s.stagingOn slot then s.closeStaging else s.dropStaging).eraseSlot slot
  let s := s.writeRec fun r => (r.setImg slot 1).setVer slot 0
  ((s.openSession src F.BOOT_STAGE_STAGING).wr F.BOOT_STAGE_SLOT slot).wr F.BOOT_STAGE_OFFSET 0

/-- FW_STAGE (R358, R359): a chunk is read; nothing more is staged while the last chunk or an activation is under way (log entry 17). -/
def execFwStage (x : Exe) (s : State) : Res :=
  .next (s.run .fwStage x
    (fun s d => onlyBits (word d 2) 7 && onlyBits (word d 3) 0x7FFFF && onlyBits (word d 4) 0x1FFFF && decide (4 ≤ word d 4) &&
      decide (word d 4 ≤ 65536) && decide (word d 4 % 4 = 0) && s.addrOk x.src (word64 d 5) (word d 4))
    fun s d =>
      if s.otherSource x.src then .refuse .busyOtherSource
      else if s.stageBad d then .refuse .badParam
      else if s.flag F.BOOT_STATUS_TRIAL then .refuse .trialPending
      else if s.boot.act.phase ≠ .none ∨ s.boot.chunks.any (fun c => c.live && c.last) = true then .refuse .busy
      else .reading (s.readBuf (word64 d 5) (word d 4) x) fun s bs =>
          let s := if stageFirst d then s.openStaging x.src (stageSlot d) else s
          let c : Chunk := { slot := stageSlot d, off := word d 3, data := bs, last := bitOf (word d 2) 2, live := true }
          .accepted (s.mapBoot fun b => { b with chunks := b.chunks ++ [c], stageAt := s.now }) [])

/-- FW_STAGE_CHUNK_WRITTEN (R349, R358, R359): the oldest chunk is in the MRAM; after the last one the image is authenticated. A chunk
whose session has closed is dropped. -/
def execFwStageChunkWritten (t : Nat) (rplOk : Bool) (s : State) : Res :=
  let s := s.tick t
  match (if s.flag F.MBX_STATUS_FW_RUN then s.boot.chunks else []) with
  | [] => .next s
  | c :: rest =>
    let s := s.mapBoot fun b => { b with chunks := rest }
    if c.live then
      let n := c.off + c.data.length
      let s := (s.mramWrite (imgBase c.slot + c.off) c.data).wr F.BOOT_STAGE_OFFSET n
      if c.last then
        let s := s.closeStaging
        match s.authReason c.slot with
        | some r => .next ((s.emptySlot c.slot).complete .fwStage .authFail [w32 r] rplOk)
        | none =>
          let v := s.imgVersion c.slot
          let s := (s.writeRec fun r => (r.setImg c.slot 2).setVer c.slot v).raise F.BOOT_INT_STAGED
          .next (s.complete .fwStage .ok [w32 n, w32 v, w32 (s.imgWord c.slot 0x18), w32 (s.setWr c.slot + s.imgSvn c.slot * 0x10000)] rplOk)
      else .next (s.complete .fwStage .ok [w32 n] rplOk)
    else .next (s.complete .fwStage .ok [0] rplOk)

/-- STAGING_TIMEOUT (R358). -/
def execStagingTimeout (t : Nat) (s : State) : Res :=
  let s := s.tick t
  if s.flag F.BOOT_STAGE_STAGING = true ∧ s.boot.stageAt + 600 * secTicks ≤ s.now then .next s.dropStaging else .next s

/-! ### Activation (R360 to R363) -/

/-- The activation in flight ends. -/
def State.endAct (s : State) : State := s.mapBoot fun b => { b with act := Activation.reset }

/-- The activation session closes. -/
def State.closeAct (s : State) : State := s.endAct.setFlag F.BOOT_STAGE_ACTIVATION false

/-- FW_ACTIVATE (R347, R358, R360). -/
def execFwActivate (x : Exe) (s : State) : Res :=
  .next (s.run .fwActivate x (fun _ d => onlyBits (word d 2) 1 && onlyBits (word d 3) 0xFFF) fun s d =>
    let slot := bits (word d 2) 0 1
    let trial := if word d 3 = 0 then 600 else word d 3
    if s.otherSource x.src then .refuse .busyOtherSource
    else if trial < 60 ∨ 3600 < trial ∨ s.bootRec.img slot ≠ 2 ∨ (s.recovery = false ∧ slot = s.runImg) then .refuse .badParam
    else if s.flag F.BOOT_STATUS_TRIAL then .refuse .trialPending
    else if s.intrusive = true ∨ s.boot.act.phase ≠ .none then .refuse .busy
    else
      let a : Activation := { phase := .copy, since := s.now, slot := slot, trial := trial, w := 0, back := false, abort := false }
      let go := (s.openSession x.src F.BOOT_STAGE_ACTIVATION).mapBoot fun b => { b with act := a }
      match s.setRecords.head? with
      | none => .accepted go []
      | some r =>
        let fmt := recFmt r.2
        if fmt < s.setRdMin slot ∨ s.setRdMax slot < fmt then .refuseWith .settingsUnreadable [w32 fmt] else .accepted go [])

/-- Step 3 begins: descriptors are taken no more (R360). -/
def State.startDrain (s : State) (a : Activation) : State :=
  s.holdNotices.mapBoot fun b => { b with act := { a with phase := .drain, since := s.now } }

/-- FW_IMAGE_COPIED (R347, R360): the copy and its authentication end; in recovery the image becomes GOOD and PREF and the device resets. -/
def execFwImageCopied (t : Nat) (rplOk : Bool) (s : State) : Res :=
  let s := s.tick t
  let a := s.boot.act
  if a.phase ≠ .copy ∨ s.flag F.MBX_STATUS_FW_RUN = false then .next s
  else if s.recovery then
    let s := s.writeRec fun r => { r.setImg a.slot 4 with pref := a.slot, fail := List.replicate 11 0 }
    .next (s.closeAct.complete .fwActivate .ok [] rplOk).deviceReset
  else match s.authReason a.slot with
    | some r => .next (s.closeAct.complete .fwActivate .authFail [w32 r] rplOk)
    | none => .next ((s.loadImage a.slot (1 - s.rd F.BOOT_STATUS_CODE_SLOT)).startDrain a)

/-- Every taken command but the one that the handover serves has its final reply or is carried by hardware (R360). -/
def State.drained (s : State) : Bool :=
  s.mbx.taken.all fun k => s.carried k ||
    (decide (k.phase ≠ .waiting) && (decide (opcode k.d = Opc.fwActivate.row.code) || decide (opcode k.d = Opc.fwAbort.row.code)))

/-- The cores change over to the other code slot and its image (R360, R362). -/
def State.changeSlot (s : State) : State :=
  let s := (s.wr F.BOOT_STATUS_RUN_IMG (1 - s.runImg)).wr F.BOOT_STATUS_CODE_SLOT (1 - s.rd F.BOOT_STATUS_CODE_SLOT)
  s.bump F.MBX_STATUS_FW_STARTS 1

/-- The semaphores of the control cores are released (R360). -/
def State.freeCoreSems (s : State) : State :=
  (List.range 32).foldl (fun s n => match s.holder n with
    | some m => if 1 ≤ m ∧ m ≤ 4 then s.setHolder n none else s
    | none => s) s

/-- FW_HANDOVER_MARK (R360, R361): at frame mark W, once the drain is complete, the cores restart in the other slot. -/
def execFwHandoverMark (t : Nat) (s : State) : Res :=
  let s := s.tick t
  if s.boot.act.phase = .drain ∧ s.drained = true ∧ s.core.markT = s.now then
    let s := ((s.freeCoreSems.setFwRun false).wr F.BOOT_STATUS_PHASE 3).changeSlot
    .next (s.mapBoot fun b => { b with act := { b.act with phase := .window, since := s.now, w := s.fn } })
  else .next s

/-- FW_DRAIN_LIMIT (R360): after 1 s of draining the old firmware resumes, and the command completes BUSY. -/
def execFwDrainLimit (t : Nat) (rplOk : Bool) (s : State) : Res :=
  let s := s.tick t
  let a := s.boot.act
  if a.phase = .drain ∧ a.since + secTicks ≤ s.now then
    let s := s.releaseNotices
    if a.back then
      if a.abort then .next (s.endAct.complete .fwAbort .busy [] rplOk) else .next s.endAct
    else .next (s.closeAct.complete .fwActivate .busy [] rplOk)
  else .next s

/-- The cores run again after a window (R360 to R362). -/
def State.endWindow (s : State) (ok : Bool) : State :=
  let s := s.oweReplies ok s.mbx.taken.length
  ((s.setFwRun true).releaseNotices).wr F.BOOT_STATUS_PHASE 2

/-- The trial image is STAGED again, the pinned record is in force, and no session of the trial stays (R363). -/
def State.endTrial (s : State) (img : Nat) : State :=
  let pinned := s.bootRec.pinned
  let s := s.unpin
  let s := s.writeRec fun r => { r.setImg img 2 with trialS := 0 }
  let s := if pinned then s.inForce (s.setRecords.head?.map Prod.fst) else s
  ((s.setFlag F.BOOT_STATUS_TRIAL false).raise F.BOOT_INT_REVERTED).closeAct

/-- The new firmware rewrites the stored settings in its own format and pins the old record (R360, R363). -/
def State.rewriteSettings (s : State) (img : Nat) : State :=
  match s.setRecords.head? with
  | none => s
  | some r =>
    let s := s.writeRec fun b => { b with pinned := true, pinSlot := r.1 }
    let k := s.newSlot
    let s := s.mramWrite (setBase k) (buildRecord (s.setWr img) s.newGen (s.imgVersion img) (r.2.drop 64))
    (s.raise F.BOOT_INT_SETTINGS_WRITTEN).inForce (some k)

/-- FMT and failing TYPE of stored settings that an image cannot read (R362). -/
def State.unread (s : State) (img : Nat) : Option (Nat × Nat) :=
  match s.setRecords.head? with
  | none => none
  | some r => if s.reads img r.2 then none else some (recFmt r.2, (badItem r.2).getD 0)

/-- Why a revert completes with FW_REVERTED (R362). -/
def revertCode : RevertCause → Nat
  | .limit => 1 | .watchdog => 2 | .fatal => 3 | .selfCheck => 4 | .settings => 0

/-- Control returns to the slot from which the window came (R362). -/
def State.revert (s : State) (st : Status) (ws : List W32) (ok : Bool) : State :=
  let a := s.boot.act
  let s := (s.changeSlot.endWindow ok).raise F.BOOT_INT_REVERTED
  if a.back then (if a.abort then s.endAct.complete .fwAbort st ws ok else s.endAct)
  else s.closeAct.complete .fwActivate st ws ok

/-- NEW_FIRMWARE_STARTED (R360, R362, R363): within 20 ms of W the firmware that started takes over: a trial opens, or the trial has ended;
firmware that cannot read the settings hands control back. -/
def execNewFirmwareStarted (t : Nat) (rplOk : Bool) (s : State) : Res :=
  let s := s.tick t
  let a := s.boot.act
  if a.phase ≠ .window ∨ a.since + 20 * msTicks < s.now then .next s
  else if a.back then
    let s := (s.endTrial a.slot).endWindow rplOk
    .next (if a.abort then s.complete .fwAbort .ok [2] rplOk else s)
  else match s.unread a.slot with
  | some u => .next (s.revert .settingsUnreadable [w32 u.1, w32 u.2] rplOk)
  | none =>
    let s := (s.rewriteSettings a.slot).writeRec fun r => { r.setImg a.slot 3 with trialS := a.trial }
    let s := (s.endAct.endWindow rplOk).raise F.BOOT_STATUS_TRIAL
    let s := (s.raise F.BOOT_INT_HANDOVER).mapBoot fun b => { b with trialEnd := s.now + secTicks * a.trial }
    .next (s.complete .fwActivate .ok [w32 (s.imgVersion a.slot), w32 a.w.toNat, w32 (s.now - a.since)] rplOk)

/-- FW_REVERT (R362). -/
def execFwRevert (t : Nat) (cause : RevertCause) (rplOk : Bool) (s : State) : Res :=
  let s := s.tick t
  let a := s.boot.act
  if a.phase ≠ .window then .next s
  else match cause with
    | .limit => if a.since + 20 * msTicks ≤ s.now then .next (s.revert .fwReverted [1] rplOk) else .next s
    | .settings => match s.unread a.slot with
      | none => .next s
      | some u => .next (s.revert .settingsUnreadable [w32 u.1, w32 u.2] rplOk)
    | c => .next (s.revert .fwReverted [w32 (revertCode c)] rplOk)

/-- The handover back to the old slot begins with its drain (R363). -/
def State.startBack (s : State) (abort : Bool) : State :=
  s.startDrain { phase := .drain, since := s.now, slot := s.runImg, trial := 0, w := 0, back := true, abort := abort }

/-- TRIAL_EXPIRY (R363). -/
def execTrialExpiry (t : Nat) (s : State) : Res :=
  let s := s.tick t
  if s.flag F.BOOT_STATUS_TRIAL = true ∧ s.boot.trialEnd ≤ s.now ∧ s.boot.act.phase = .none ∧ s.flag F.MBX_STATUS_FW_RUN = true then
    .next (((s.raise F.BOOT_INT_TRIAL_EXPIRED).setFlag F.BOOT_STAGE_ACTIVATION false).startBack false)
  else .next s

/-- FW_CONFIRM (R364). -/
def execFwConfirm (x : Exe) (s : State) : Res :=
  .next (s.run .fwConfirm x (fun _ d => onlyBits (word d 2) 1) fun s d =>
    let img := s.runImg
    if s.otherSource x.src then .refuse .busyOtherSource
    else if s.flag F.BOOT_STATUS_TRIAL = false ∨ s.boot.act.back = true then .refuse .badParam
    else
      let s := s.writeRec fun r => (({ r.setImg img 4 with pref := img, pinned := false, pinSlot := 0, trialS := 0 }).setCnt 4 0).setCnt 5 0
      let svn := s.imgSvn img % 64
      let s := if bitOf (word d 2) 0 = true ∧ s.rd F.FUSE_SVN_SVN < svn then s.wr F.FUSE_SVN_SVN svn else s
      let s := ((s.setFlag F.BOOT_STATUS_TRIAL false).raise F.BOOT_INT_CONFIRMED).wr F.BOOT_VEC_ADDR (codeAddr (s.rd F.BOOT_STATUS_CODE_SLOT))
      .ok s.closeAct [w32 (s.rd F.FUSE_SVN_SVN)])

/-- FW_ABORT (R363, R365). -/
def execFwAbort (x : Exe) (s : State) : Res :=
  .next (s.run .fwAbort x (fun _ d => onlyBits (word d 2) 1) fun s d =>
    if s.otherSource x.src && !bitOf (word d 2) 0 then .refuse .busyOtherSource
    else if s.boot.act.phase ≠ .none then .refuse .busy
    else if s.flag F.BOOT_STATUS_TRIAL then .later (s.dropStaging.startBack true)
    else if s.flag F.BOOT_STAGE_STAGING then .ok s.dropStaging [1]
    else .ok s [0])

/-! ### The MRAM check (R320) -/

/-- The CRC and the signature of an image are good. -/
def State.imageGood (s : State) (slot : Nat) : Bool :=
  match s.authReason slot with
  | none => true
  | some r => decide (5 ≤ r)

/-- The areas that are good, a bit for each (R320). -/
def State.goodAreas (s : State) : Nat :=
  let r := s.bootRec
  let rs := s.setRecords
  let main := if r.pinned then rs.any fun x => decide (x.1 = r.pinSlot) else !rs.isEmpty
  let trial := r.pinned && rs.any fun x => decide (x.1 ≠ r.pinSlot)
  b2n (s.imageGood 0) + 2 * b2n (s.imageGood 1) + 4 * b2n main + 8 * b2n trial + 16 * b2n s.snapValid

/-- MRAM_CHECK_DONE (R317, R320): the manual does not say which areas PASS needs: a free value (log entry 1). -/
def execMramCheckDone (t : Nat) (rplOk : Bool) (s : State) : Res :=
  let s := s.tick t
  if s.testRunning 0x05 = true ∧ s.released 7 = true then
    let pass := bitOf (Config.freeWord s.fresh).toNat 0
    let s := { s with fresh := s.fresh + 1 }
    .next ((s.setLast 7).endRun 0x05 pass (w32 s.goodAreas) 0 rplOk)
  else .next s

/-! ### Firmware resets (R15, R80, R274, R275, R293, R294, R324, R363, R368) -/

/-- What a firmware reset makes of the BOOT class (R358, R363, R368). -/
def State.bootFirmwareReset (s : State) (ok : Bool) : State :=
  let s := s.dropStaging.mapBoot fun b => { b with chunks := [], record := none }
  let s := ((s.setFlag F.BOOT_STAGE_SETTINGS false).setFwRun false).releaseNotices
  let back := s.boot.act.abort
  let s := if s.flag F.BOOT_STATUS_TRIAL then
      let img := s.runImg
      let s := (s.wr F.BOOT_STATUS_RUN_IMG (1 - img)).wr F.BOOT_STATUS_CODE_SLOT (1 - s.rd F.BOOT_STATUS_CODE_SLOT)
      s.endTrial img
    else s.closeAct
  if back then s.complete .fwAbort .ok [2] ok else s

/-- FIRMWARE_RESET: the control cores reset, by their watchdog or a fatal error; inside a window that is a revert (R362). -/
def execFirmwareReset (t : Nat) (fatal rplOk : Bool) (s : State) : Res :=
  let s := s.tick t
  if s.rd F.BOOT_STATUS_PHASE = 3 then .next (s.revert .fwReverted [if fatal then 3 else 2] rplOk)
  else if s.rd F.BOOT_STATUS_PHASE = 2 then
    let s := ((s.bootFirmwareReset rplOk).mbxFirmwareReset).resetCores.stopTests
    let s := if s.map.commit.isSome ∧ s.rd F.MAP_STATUS_STATE = 2 then s.dropCommit else s
    .next (s.mapTally fun y => { y with defs := [], cfg := none })
  else .next s

end Sys2Proof.Machine
end

