-- ==== Sys2Proof/Machine/Pins.lean ====
section
/-! DEFINITION. Machine/Pins.lean: the I2C target, the JTAG port, the debug fuse and PERST_N (spec/14 R353, R369, R370; spec/15 R378,
R379, R396). -/
namespace Sys2Proof.Machine

/-! ### Output pins (R23, R29, R216 to R219, R227) -/

/-- The frequency code that SYSCLK_OUTn carries now (R217); 0: held low, as in reset (R23, R29) and for 1 us after it stopped. -/
def State.sysclk (s : State) (n : Nat) : Nat :=
  let off := if n = 0 then s.tmg.clk0 else s.tmg.clk1
  if !s.alive || !s.tmg.configured || (off.any fun x => decide (s.now < x + 100)) then 0 else s.clkWant n

/-- FSYNC_OUT (R23, R218). -/
def State.fsyncOut (s : State) : Bool := s.alive && s.fsyncHigh

/-- PPS_OUT (R23, R218). -/
def State.ppsOut (s : State) : Bool := s.alive && s.ppsHigh

/-- TSTATE[2:0] (R23, R216). -/
def State.tstate (s : State) : Nat := if s.alive then s.dpll else 0

/-- LAMP_OUT (R23, R25). -/
def State.lampOut (s : State) : Bool := s.alive && s.acting

/-- ARB_A after rising edge `n` of a transaction (R23, R227, R229): answer bit a(31 - n) after edges 16 to 31, otherwise low. -/
def State.arbA (s : State) (n : Nat) : Bool :=
  s.alive && !s.pair.arbAborted && decide (16 ≤ n) && decide (n ≤ 31) && bitOf s.pair.answer.toNat (31 - n)

/-- INT_N is driven low (R23, R269); in reset it is high impedance. -/
def State.intPin (s : State) : Bool := s.alive && s.intN

/-- GPIO0 (R376, R378): firmware runs. -/
def State.gpio0 (s : State) : Bool := s.flag F.MBX_STATUS_FW_RUN

/-- GPIO1 (R376, R378): for 1 us after a candle record with a late grain closed. -/
def State.gpio1 (s : State) : Bool := s.pins.gpio1End.any fun x => decide (s.now < x)

/-! ### The I2C target -/

/-- The I2C target answers: from the end of boot step 1, and in recovery (R379). -/
def State.i2cAnswers (s : State) : Bool := decide (s.rd F.BOOT_RESULT_RES1 ≠ 3) || s.recovery

/-- I2C_WRITE (R379): the first data byte sets the pointer; another address is another target's. -/
def execI2cWrite (t : Nat) (addr : BitVec 7) (data : List W8) (s : State) : Res :=
  let s := s.tick t
  match (if addr = 0x5A ∧ s.i2cAnswers = true then data else []) with
  | [] => .next s
  | b :: _ => .next (s.mapPins fun p => { p with i2cPtr := b.toNat })

/-- The byte at an I2C pointer (R379); `none`: the manual gives none. -/
def State.i2cByte (s : State) : Nat → Option Nat
  | 0 => some 0x25
  | 1 => some 0x48
  | 2 => some 0x01
  | 3 => some (b2n s.alive + 2 * b2n s.acting + 4 * b2n s.readyNow + 8 * b2n (!s.pins.faultN) + 16 * b2n (s.flag F.MBX_STATUS_FW_RUN) +
      32 * b2n s.recovery)
  | 4 => some s.dpll
  | 5 => some (s.rd F.PWR_TEMP_TJ)
  | 6 => some (s.rd F.BOOT_STATUS_STEP + 16 * s.rd F.BOOT_STATUS_PHASE)
  | 7 => some (bits (s.reg 0x40210008).toNat 0 8)
  | _ => none

/-- I2C_READ (R379): the byte at the pointer, which moves on. -/
def execI2cRead (t : Nat) (addr : BitVec 7) (s : State) : Res :=
  let s := s.tick t
  if addr = 0x5A ∧ s.i2cAnswers = true then
    let s := s.refreshPair
    let p := s.pins.i2cPtr
    let x := match s.i2cByte p with
      | some n => (s, BitVec.ofNat 8 n)
      | none => ({ s with fresh := s.fresh + 1 }, Config.freeByte s.fresh)
    let s : State := { x.1 with mtx := { x.1.mtx with rdBytes := [x.2] } }
    .next (s.mapPins fun q => { q with i2cPtr := if p = 7 then 0 else (p + 1) % 256 })
  else .next s

/-- IDCODE (R280, R396): revision, device code, manufacturer, and the 1 that the standard puts in bit 0. -/
def idcode : W32 := w32 (0x14825001 + bits Config.jtagMaker.toNat 0 11 * 2)

/-- A JTAG instruction comes into force with the data register it selects, where the manual gives its content. -/
def State.setJtag (s : State) (i : Jtag) : State :=
  s.mapPins fun p => { p with tapIr := i, tapDr := match i with
    | .bypass => some 0
    | .idcode => some idcode
    | _ => none }

/-- JTAG_INSTRUCTION (R369, R396): while the debug fuse is blown a closed instruction decodes as BYPASS. -/
def execJtagInstruction (t : Nat) (ir : Jtag) (s : State) : Res :=
  let s := s.tick t
  .next (s.setJtag (if ir = .other ∧ s.flag F.FUSE_CFG_DEBUG_DISABLE = true then .bypass else ir))

/-- FUSE_DBG (R369, R370, R378): blows the fuse while TEST_EN is high, and what it closes is closed at once. -/
def execFuseDbg (t : Nat) (testEn : Bool) (s : State) : Res :=
  let s := s.tick t
  if testEn then
    let s := (s.raise F.FUSE_CFG_DEBUG_DISABLE).setJtag .bypass
    .next (if s.flag F.MBX_STATUS_FW_RUN then s.setBitAt F.H2D_MASK_MASK 31 true else s)
  else .next (s.setJtag .bypass)

/-- PERST_N_RISE (R338, R353): the PCIe island trains, and BAR4 follows PERF_USER_EN as it stands. -/
def execPerstNRise (t : Nat) (gen : Fin 6) (width : Fin 8) (s : State) : Res :=
  let s := s.tick t
  let user := s.flag F.TALLY_CTRL_PERF_USER_EN
  .next (s.mapPins fun p => { p with pcieGen := gen.val, pcieWidth := if gen.val = 0 then 0 else width.val, bar4 := user })

end Sys2Proof.Machine
end

