-- ==== Sys2Proof/Machine/Dispatch.lean ====
section
/-! DEFINITION. Machine/Dispatch.lean: one arm per command, each one direct call of its meaning. -/
namespace Sys2Proof.Machine

def exec (i : Instr) (s : State) : Host.Outcome State Fault Refusal :=
  match i with
  | .echo x => Sys2Proof.Machine.execEcho x s
  | .getInfo x => Sys2Proof.Machine.execGetInfo x s
  | .portConfigure x => Sys2Proof.Machine.execPortConfigure x s
  | .portEnable x => Sys2Proof.Machine.execPortEnable x s
  | .portDisable x => Sys2Proof.Machine.execPortDisable x s
  | .portStatus x => Sys2Proof.Machine.execPortStatus x s
  | .mapWriteRange x => Sys2Proof.Machine.execMapWriteRange x s
  | .mapCommit x => Sys2Proof.Machine.execMapCommit x s
  | .mapReadback x => Sys2Proof.Machine.execMapReadback x s
  | .mapCheck x => Sys2Proof.Machine.execMapCheck x s
  | .mapSnapshot x => Sys2Proof.Machine.execMapSnapshot x s
  | .selWrite x => Sys2Proof.Machine.execSelWrite x s
  | .selCommand x => Sys2Proof.Machine.execSelCommand x s
  | .selStatus x => Sys2Proof.Machine.execSelStatus x s
  | .monConfigure x => Sys2Proof.Machine.execMonConfigure x s
  | .timingConfigure x => Sys2Proof.Machine.execTimingConfigure x s
  | .timingRealign x => Sys2Proof.Machine.execTimingRealign x s
  | .timingStatus x => Sys2Proof.Machine.execTimingStatus x s
  | .pairConfigure x => Sys2Proof.Machine.execPairConfigure x s
  | .pairSwap x => Sys2Proof.Machine.execPairSwap x s
  | .pairStatus x => Sys2Proof.Machine.execPairStatus x s
  | .powerBudget x => Sys2Proof.Machine.execPowerBudget x s
  | .latencyBudget x => Sys2Proof.Machine.execLatencyBudget x s
  | .selftest x => Sys2Proof.Machine.execSelftest x s
  | .selftestResult x => Sys2Proof.Machine.execSelftestResult x s
  | .fwStage x => Sys2Proof.Machine.execFwStage x s
  | .fwActivate x => Sys2Proof.Machine.execFwActivate x s
  | .fwConfirm x => Sys2Proof.Machine.execFwConfirm x s
  | .fwAbort x => Sys2Proof.Machine.execFwAbort x s
  | .perfConfig x => Sys2Proof.Machine.execPerfConfig x s
  | .perfDumpNow x => Sys2Proof.Machine.execPerfDumpNow x s
  | .mdcRoute x => Sys2Proof.Machine.execMdcRoute x s
  | .mdcStatus x => Sys2Proof.Machine.execMdcStatus x s
  | .settingsSave x => Sys2Proof.Machine.execSettingsSave x s
  | .settingsRestore x => Sys2Proof.Machine.execSettingsRestore x s
  | .poll t q => Sys2Proof.Machine.execPoll t q s
  | .grant t q rplOk => Sys2Proof.Machine.execGrant t q rplOk s
  | .renew t q => Sys2Proof.Machine.execRenew t q s
  | .revoke t q => Sys2Proof.Machine.execRevoke t q s
  | .handover t q => Sys2Proof.Machine.execHandover t q s
  | .arbAbort t => Sys2Proof.Machine.execArbAbort t s
  | .spiStatus t => Sys2Proof.Machine.execSpiStatus t s
  | .cmdWrite t d => Sys2Proof.Machine.execCmdWrite t d s
  | .rplRead t => Sys2Proof.Machine.execRplRead t s
  | .memWrite t addr data => Sys2Proof.Machine.execMemWrite t addr data s
  | .memRead t addr n ce ue => Sys2Proof.Machine.execMemRead t addr n ce ue s
  | .i2cWrite t addr data => Sys2Proof.Machine.execI2cWrite t addr data s
  | .i2cRead t addr => Sys2Proof.Machine.execI2cRead t addr s
  | .fuseDbg t testEn => Sys2Proof.Machine.execFuseDbg t testEn s
  | .jtagInstruction t ir => Sys2Proof.Machine.execJtagInstruction t ir s
  | .genConstWrite t m w v => Sys2Proof.Machine.execGenConstWrite t m w v s
  | .constHold t m b => Sys2Proof.Machine.execConstHold t m b s
  | .prbsRestart t m => Sys2Proof.Machine.execPrbsRestart t m s
  | .prtIdleWrite t m p b => Sys2Proof.Machine.execPrtIdleWrite t m p b s
  | .rearm t m => Sys2Proof.Machine.execRearm t m s
  | .lineSelWrite t m w v => Sys2Proof.Machine.execLineSelWrite t m w v s
  | .apsTxWrite t m w v => Sys2Proof.Machine.execApsTxWrite t m w v s
  | .h2dNoticeWrite t m ch w v => Sys2Proof.Machine.execH2dNoticeWrite t m ch w v s
  | .h2dNoticePost t m v => Sys2Proof.Machine.execH2dNoticePost t m v s
  | .d2hNoticeTake t m v => Sys2Proof.Machine.execD2hNoticeTake t m v s
  | .ringEnable t m r v => Sys2Proof.Machine.execRingEnable t m r v s
  | .ringDisable t m r v => Sys2Proof.Machine.execRingDisable t m r v s
  | .rplCiWrite t m r v => Sys2Proof.Machine.execRplCiWrite t m r v s
  | .mdcRdWrite t m c v => Sys2Proof.Machine.execMdcRdWrite t m c v s
  | .mdcWrWrite t m c v => Sys2Proof.Machine.execMdcWrWrite t m c v s
  | .tallyDumpCiWrite t m v => Sys2Proof.Machine.execTallyDumpCiWrite t m v s
  | .semAcqRead t m n => Sys2Proof.Machine.execSemAcqRead t m n s
  | .semAcqWrite t m n => Sys2Proof.Machine.execSemAcqWrite t m n s
  | .scrOwnWrite t m b v => Sys2Proof.Machine.execScrOwnWrite t m b v s
  | .scrOwnHandoverDone t b => Sys2Proof.Machine.execScrOwnHandoverDone t b s
  | .remapWrite t m v => Sys2Proof.Machine.execRemapWrite t m v s
  | .lockSet t m b => Sys2Proof.Machine.execLockSet t m b s
  | .mtxRotWrite t m v => Sys2Proof.Machine.execMtxRotWrite t m v s
  | .registerWrite t m a data => Sys2Proof.Machine.execRegisterWrite t m a data s
  | .readClear t m r => Sys2Proof.Machine.execReadClear t m r s
  | .defaultTargetError t m addr write cause => Sys2Proof.Machine.execDefaultTargetError t m addr write cause s
  | .mapWindowWrite t off data => Sys2Proof.Machine.execMapWindowWrite t off data s
  | .selectorWindowWrite t off data => Sys2Proof.Machine.execSelectorWindowWrite t off data s
  | .porNLow t => Sys2Proof.Machine.execPorNLow t s
  | .supplyMonitorTrip t => Sys2Proof.Machine.execSupplyMonitorTrip t s
  | .bootSequence t n e => Sys2Proof.Machine.execBootSequence t n e s
  | .bootWatchdog t fatal => Sys2Proof.Machine.execBootWatchdog t fatal s
  | .failcntClear t => Sys2Proof.Machine.execFailcntClear t s
  | .hostReset t cause gen width => Sys2Proof.Machine.execHostReset t cause gen width s
  | .perstNRise t gen width => Sys2Proof.Machine.execPerstNRise t gen width s
  | .firmwareReset t fatal rplOk => Sys2Proof.Machine.execFirmwareReset t fatal rplOk s
  | .firmwareRestart t d0 d1 rplOk => Sys2Proof.Machine.execFirmwareRestart t d0 d1 rplOk s
  | .frameMark t up cfg rd occ rplOk evtOk => Sys2Proof.Machine.execFrameMark t up cfg rd occ rplOk evtOk s
  | .grainStart t e => Sys2Proof.Machine.execGrainStart t e s
  | .grainComplete t e ce ue up => Sys2Proof.Machine.execGrainComplete t e ce ue up s
  | .grainLate t prev g => Sys2Proof.Machine.execGrainLate t prev g s
  | .positionTake t => Sys2Proof.Machine.execPositionTake t s
  | .inputWriteStart t => Sys2Proof.Machine.execInputWriteStart t s
  | .candleRecordClose t retired wasted front back => Sys2Proof.Machine.execCandleRecordClose t retired wasted front back s
  | .mapCheckDone t up rplOk => Sys2Proof.Machine.execMapCheckDone t up rplOk s
  | .mapCommitArm t => Sys2Proof.Machine.execMapCommitArm t s
  | .commitDeadline t rplOk => Sys2Proof.Machine.execCommitDeadline t rplOk s
  | .mapSwap t rplOk => Sys2Proof.Machine.execMapSwap t rplOk s
  | .copyForwardDone t rplOk => Sys2Proof.Machine.execCopyForwardDone t rplOk s
  | .mapSnapshotDone t rplOk => Sys2Proof.Machine.execMapSnapshotDone t rplOk s
  | .bankRotationStep t rplOk => Sys2Proof.Machine.execBankRotationStep t rplOk s
  | .bankMove t b => Sys2Proof.Machine.execBankMove t b s
  | .marchTestDone t x pass rplOk => Sys2Proof.Machine.execMarchTestDone t x pass rplOk s
  | .holdoffExpiry t grp n => Sys2Proof.Machine.execHoldoffExpiry t grp n s
  | .wtrExpiry t grp n => Sys2Proof.Machine.execWtrExpiry t grp n s
  | .cdrLockChange t lane locked => Sys2Proof.Machine.execCdrLockChange t lane locked s
  | .candidateMatch t lane client pos word ctr => Sys2Proof.Machine.execCandidateMatch t lane client pos word ctr s
  | .candidateVerify t lane client pos word ctr => Sys2Proof.Machine.execCandidateVerify t lane client pos word ctr s
  | .ziuthFrameRx t p half faw code pad => Sys2Proof.Machine.execZiuthFrameRx t p half faw code pad s
  | .sonetFrameRx t p starts lanes => Sys2Proof.Machine.execSonetFrameRx t p starts lanes s
  | .otnFrameRx t p starts l0 l1 l2 l3 ais => Sys2Proof.Machine.execOtnFrameRx t p starts l0 l1 l2 l3 ais s
  | .lofTimer t p client => Sys2Proof.Machine.execLofTimer t p client s
  | .losTimer t p ev => Sys2Proof.Machine.execLosTimer t p ev s
  | .rdiHoldExpiry t p => Sys2Proof.Machine.execRdiHoldExpiry t p s
  | .pllLock t p => Sys2Proof.Machine.execPllLock t p s
  | .portDisableDone t p rplOk => Sys2Proof.Machine.execPortDisableDone t p rplOk s
  | .depthEvaluation t => Sys2Proof.Machine.execDepthEvaluation t s
  | .portDeepen t p => Sys2Proof.Machine.execPortDeepen t p s
  | .portWakeDone t p => Sys2Proof.Machine.execPortWakeDone t p s
  | .mdcDiFrame t port1 frame => Sys2Proof.Machine.execMdcDiFrame t port1 frame s
  | .mateFrameRx t lane line al => Sys2Proof.Machine.execMateFrameRx t lane line al s
  | .mateLaneDrop t lane => Sys2Proof.Machine.execMateLaneDrop t lane s
  | .heartbeatRecord t h body => Sys2Proof.Machine.execHeartbeatRecord t h body s
  | .stopRecord t h lastFrame cause => Sys2Proof.Machine.execStopRecord t h lastFrame cause s
  | .handoverRecord t h mark epoch => Sys2Proof.Machine.execHandoverRecord t h mark epoch s
  | .mapEntries t h entries => Sys2Proof.Machine.execMapEntries t h entries s
  | .commitArm t h target checkId sent => Sys2Proof.Machine.execCommitArm t h target checkId sent s
  | .commitCancel t h target => Sys2Proof.Machine.execCommitCancel t h target s
  | .selState t h items => Sys2Proof.Machine.execSelState t h items s
  | .historyRecord t h offset recorded fn => Sys2Proof.Machine.execHistoryRecord t h offset recorded fn s
  | .settingsRecord t h off total d data => Sys2Proof.Machine.execSettingsRecord t h off total d data s
  | .resyncBegin t h fn => Sys2Proof.Machine.execResyncBegin t h fn s
  | .resyncData t h d => Sys2Proof.Machine.execResyncData t h d s
  | .resyncEnd t h records => Sys2Proof.Machine.execResyncEnd t h records s
  | .resyncReq t h => Sys2Proof.Machine.execResyncReq t h s
  | .resyncStart t => Sys2Proof.Machine.execResyncStart t s
  | .resyncSwap t => Sys2Proof.Machine.execResyncSwap t s
  | .mirroredSwap t => Sys2Proof.Machine.execMirroredSwap t s
  | .leaseExpiry t rplOk => Sys2Proof.Machine.execLeaseExpiry t rplOk s
  | .guardEnd t => Sys2Proof.Machine.execGuardEnd t s
  | .drillTimer t => Sys2Proof.Machine.execDrillTimer t s
  | .handoverMark t rplOk => Sys2Proof.Machine.execHandoverMark t rplOk s
  | .newHolderActs t => Sys2Proof.Machine.execNewHolderActs t s
  | .handoverLapse t rplOk => Sys2Proof.Machine.execHandoverLapse t rplOk s
  | .oldHolderTxIdle t => Sys2Proof.Machine.execOldHolderTxIdle t s
  | .pairSwapTimeout t rplOk => Sys2Proof.Machine.execPairSwapTimeout t rplOk s
  | .refLoss t n present => Sys2Proof.Machine.execRefLoss t n present s
  | .monitorWindowEnd t freqs out mate => Sys2Proof.Machine.execMonitorWindowEnd t freqs out mate s
  | .refWtrExpiry t n => Sys2Proof.Machine.execRefWtrExpiry t n s
  | .selection t => Sys2Proof.Machine.execSelection t s
  | .acquireTimeout t => Sys2Proof.Machine.execAcquireTimeout t s
  | .timingHoldoffEnd t => Sys2Proof.Machine.execTimingHoldoffEnd t s
  | .verificationComplete t phase df => Sys2Proof.Machine.execVerificationComplete t phase df s
  | .switchCommit t => Sys2Proof.Machine.execSwitchCommit t s
  | .realignPulse t pps rplOk => Sys2Proof.Machine.execRealignPulse t pps rplOk s
  | .realignTimeout t rplOk => Sys2Proof.Machine.execRealignTimeout t rplOk s
  | .avsReadback t ok mv => Sys2Proof.Machine.execAvsReadback t ok mv s
  | .powerEstimate t base total tj => Sys2Proof.Machine.execPowerEstimate t base total tj s
  | .scrubUnit t mapUp selUp monUp ce ue rplOk => Sys2Proof.Machine.execScrubUnit t mapUp selUp monUp ce ue rplOk s
  | .spotCheck t bad rplOk => Sys2Proof.Machine.execSpotCheck t bad rplOk s
  | .eyeScanDone t width height worst rplOk => Sys2Proof.Machine.execEyeScanDone t width height worst rplOk s
  | .mramCheckDone t rplOk => Sys2Proof.Machine.execMramCheckDone t rplOk s
  | .lanePrbsEnd t p errors unlocked rplOk => Sys2Proof.Machine.execLanePrbsEnd t p errors unlocked rplOk s
  | .stackMarchDone t failed first rplOk => Sys2Proof.Machine.execStackMarchDone t failed first rplOk s
  | .h2dNoticeTake t ch => Sys2Proof.Machine.execH2dNoticeTake t ch s
  | .descriptorTake t src d rplOk => Sys2Proof.Machine.execDescriptorTake t src d rplOk s
  | .noticeTimeout t host ch => Sys2Proof.Machine.execNoticeTimeout t host ch s
  | .dumpWriteDone t => Sys2Proof.Machine.execDumpWriteDone t s
  | .dumpErrorStop t => Sys2Proof.Machine.execDumpErrorStop t s
  | .perfDefinitionChange t rplOk => Sys2Proof.Machine.execPerfDefinitionChange t rplOk s
  | .stagingTimeout t => Sys2Proof.Machine.execStagingTimeout t s
  | .fwHandoverMark t => Sys2Proof.Machine.execFwHandoverMark t s
  | .fwDrainLimit t rplOk => Sys2Proof.Machine.execFwDrainLimit t rplOk s
  | .fwRevert t cause rplOk => Sys2Proof.Machine.execFwRevert t cause rplOk s
  | .trialExpiry t => Sys2Proof.Machine.execTrialExpiry t s
  | .pllUnlock t p => Sys2Proof.Machine.execPllUnlock t p s
  | .fwStageChunkWritten t rplOk => Sys2Proof.Machine.execFwStageChunkWritten t rplOk s
  | .fwImageCopied t rplOk => Sys2Proof.Machine.execFwImageCopied t rplOk s
  | .newFirmwareStarted t rplOk => Sys2Proof.Machine.execNewFirmwareStarted t rplOk s
  | .settingsWritten t outOk rplOk => Sys2Proof.Machine.execSettingsWritten t outOk rplOk s

end Sys2Proof.Machine
end

