-- ==== Sys2Proof/Machine/Step.lean ====
section
/-! DEFINITION. Machine/Step.lean: one step of the device. -/
namespace Sys2Proof.Machine

/-- The state with a command put at the front of its queue. -/
def State.push (s : State) (i : Instr) : State := { s with pending := i :: s.pending }

/-- One step: the command at the front of the queue, run on the state with the queue's rest; an empty queue idles
(DESIGN CHOICE, log entry 4). -/
def step (s : State) : Host.Outcome State Fault Refusal :=
  match s.pending with
  | [] => .next s
  | i :: rest => exec i { s with pending := rest }

/-- `s` with the command that a table word spells at the front of its queue. -/
def State.withFetchWord (s : State) (nbits w : Nat) : State :=
  match decodeTableWord nbits w with
  | some i => s.push i
  | none => s

end Sys2Proof.Machine
end

