-- ==== Sys2Proof/Safety.lean ====
section
/-! DEFINITION. Safety.lean: what a sound state is. -/
namespace Sys2Proof.Machine

/-- Every sparse store of the state is in its one canonical form: addresses strictly rising, and no entry equal to
what an unlisted address reads as. -/
structure Canonical (s : State) : Prop where
  regs : Store.wf RegTable.reset s.regs = true
  scratch : Store.wf scrDefault s.mtx.scr = true
  mram : Store.wf s.boot.mramDef s.boot.mram = true
  history : Store.wf (fun _ => (0xFF : W8)) s.eng.hist = true
  selectors : Store.wf selDefault s.sel.sels = true
  monitors : Store.wf monDefault s.sel.mons = true
  page0 : Store.wf entryDefault s.map.page0 = true
  page1 : Store.wf entryDefault s.map.page1 = true

/-- Every register but those listed reads in `s'` as in `s`. -/
def RegsKept (s s' : State) (as : List Nat) : Prop := ∀ a, a ∉ as → s'.reg a = s.reg a

/-- Every byte of the scratchpad but the `n` from offset `x` reads in `s'` as in `s`. -/
def ScrKept (s s' : State) (x n : Nat) : Prop := ∀ y, y < x ∨ x + n ≤ y → s'.scrByte y = s.scrByte y

/-- The row of opcode `o` carries out taken command `k`, number `i`: the firmware runs, it is the oldest startable command of the
opcode from its source, FLAGS and PLEN are right, and the device acts where the opcode asks for that (R255, R258, R271). -/
structure Starts (s : State) (o : Opc) (x : Exe) (i : Nat) (k : Taken) : Prop where
  pick : (s.tick x.t).pick o x.src = some (i, k)
  form : formOk o.row k.d = true
  holder : o.row.holder = true → s.acting = true

/-- A record that a device in a mode other than 00 takes from the mate: the link is up, its CRC is right, no record was missed before it
and its epoch is not older than the known one (R221, R235). -/
structure RecordTaken (s : State) (h : RecHdr) (b : MateBody) : Prop where
  mode : s.mode ≠ 0
  up : s.mateUp = true
  alive : s.alive = true
  crc : recFits h b = true
  seq : s.mate.seqIn = none ∨ s.mate.seqIn = some (h.seq - 1)
  epoch : epochNewer s.epoch h.epoch = false

/-- The mirror of a standby takes records: no test of its stack runs (R323). -/
structure Mirrors (s : State) : Prop where
  standby : s.acting = false
  march : s.pwr.march = 0

/-- The mirror of a standby is in step: no resynchronisation is asked for or under way (R235, R241). -/
structure InStep (s : State) : Prop extends Mirrors s where
  req : s.mate.reqSent = false
  rs : s.mate.rs = none

/-- The opcode that a command's row carries out, and with what. -/
def opcodeRow : Instr → Option (Opc × Exe)
  | .echo x => some (.echo, x)
  | .getInfo x => some (.getInfo, x)
  | .portConfigure x => some (.portConfigure, x)
  | .portEnable x => some (.portEnable, x)
  | .portDisable x => some (.portDisable, x)
  | .portStatus x => some (.portStatus, x)
  | .mapWriteRange x => some (.mapWriteRange, x)
  | .mapCommit x => some (.mapCommit, x)
  | .mapReadback x => some (.mapReadback, x)
  | .mapCheck x => some (.mapCheck, x)
  | .mapSnapshot x => some (.mapSnapshot, x)
  | .selWrite x => some (.selWrite, x)
  | .selCommand x => some (.selCommand, x)
  | .selStatus x => some (.selStatus, x)
  | .monConfigure x => some (.monConfigure, x)
  | .timingConfigure x => some (.timingConfigure, x)
  | .timingRealign x => some (.timingRealign, x)
  | .timingStatus x => some (.timingStatus, x)
  | .pairConfigure x => some (.pairConfigure, x)
  | .pairSwap x => some (.pairSwap, x)
  | .pairStatus x => some (.pairStatus, x)
  | .powerBudget x => some (.powerBudget, x)
  | .latencyBudget x => some (.latencyBudget, x)
  | .selftest x => some (.selftest, x)
  | .selftestResult x => some (.selftestResult, x)
  | .fwStage x => some (.fwStage, x)
  | .fwActivate x => some (.fwActivate, x)
  | .fwConfirm x => some (.fwConfirm, x)
  | .fwAbort x => some (.fwAbort, x)
  | .perfConfig x => some (.perfConfig, x)
  | .perfDumpNow x => some (.perfDumpNow, x)
  | .mdcRoute x => some (.mdcRoute, x)
  | .mdcStatus x => some (.mdcStatus, x)
  | .settingsSave x => some (.settingsSave, x)
  | .settingsRestore x => some (.settingsRestore, x)
  | _ => none

end Sys2Proof.Machine
end

