-- ==== Sys2Proof/Certificates/Slice0/Obligations.lean ====
section
/-! DEFINITION. Certificates/Slice0/Obligations.lean: what is claimed of the model, from the numbered rules of the spec. -/
open Sys2Proof Sys2Proof.Machine

/-- The block takes its commands first in, first out: a step runs the command at the front of the queue on the state with the
queue's rest. An empty queue idles, which is the model's choice (log entry 4). -/
def Obligations.StepRunsFrontCommand : Prop :=
  ∀ (s : State), (∀ c rest, s.pending = c :: rest → step s = exec c { s with pending := rest }) ∧
    (s.pending = [] → step s = .next s) ∧ (∀ nbits w, s.withFetchWord nbits w = s)

/-- R100, R207, R221, R223, R298: the state after reset: mode 01, known epoch 0, not acting, the priority regime, every bank owned
by M8, every logical switch bank on the physical bank of R100; and every store is in its canonical form. -/
def Obligations.ResetState : Prop :=
  State.reset.mode = 1 ∧ State.reset.epoch = 0 ∧ State.reset.acting = false ∧ State.reset.flag F.TMG_CTRL_REGIME = false ∧
    (∀ b, b < 16 → State.reset.owner b = 8) ∧ (∀ j i, j < 32 → i < 64 → State.reset.rd (F.BANK_MAP_PHYS (64 * j + i)) = j * 66 + i) ∧
    State.reset.pending = [] ∧ State.reset.active = [] ∧ State.reset.shadow = [] ∧ Canonical State.reset

/-- No step leaves a store out of its one canonical form (addresses strictly rising, no entry equal to what an unlisted address
reads as): registers (R10), scratchpad (R298), MRAM (R341), output history (R98), selectors (R114), monitors (R117) and both map
pages (R53). The form is the model's own. In corners that the manual leaves open the model takes the reading of log entry 8. -/
def Obligations.StepKeepsStoresCanonical : Prop :=
  ∀ s s' : State, Canonical s → step s = .next s' → Canonical s'

/-- Every command answers a next state, in every state: no command stops the device, which reports every error in registers and
replies (R10, R258, R281, R296); time and the count of free values never run back, the queue is left alone, and what the device
sent over PCIe stays sent. -/
def Obligations.EveryCommandCompletes : Prop :=
  ∀ (c : Instr) (s : State), ∃ s' : State, exec c s = .next s' ∧ s'.pending = s.pending ∧ s.now ≤ s'.now ∧ s.fresh ≤ s'.fresh ∧
    ∃ more, s'.out = s.out ++ more

/-- R287, R296, R353: until boot step 5 ends, outside recovery, every write of the host (master M0) through BAR0 or BAR2 is
discarded as an Unsupported Request, recorded with an error message where the host has enabled it, and every read through BAR0
or BAR2 is answered as an Unsupported Request; nothing else changes. -/
def Obligations.HostBarredUntilStep5 : Prop :=
  ∀ (t : Nat) (w : Fin 3240) (v addr : W32) (b : Bool) (p : Port) (i : W8) (ch : Fin 32) (j : Fin 4) (r : Fin 2) (c : Fin 256) (k : Fin 16)
    (l : LockBlk) (off : BitVec 28) (soff : BitVec 24) (data : List W8) (ds : List (Option W8)) (be : List Bool) (s : State),
    s.rd F.BOOT_RESULT_RES5 = 3 → s.rd F.BOOT_STATUS_PHASE ≠ 4 →
    (∀ x ∈ [Instr.genConstWrite t 0 w v, .constHold t 0 b, .prbsRestart t 0, .prtIdleWrite t 0 p i, .rearm t 0, .lineSelWrite t 0 p v,
        .apsTxWrite t 0 p v, .h2dNoticeWrite t 0 ch j v, .h2dNoticePost t 0 v, .d2hNoticeTake t 0 v, .ringEnable t 0 r v, .ringDisable t 0 r v,
        .rplCiWrite t 0 r v, .mdcRdWrite t 0 c v, .mdcWrWrite t 0 c v, .tallyDumpCiWrite t 0 v, .semAcqWrite t 0 ch, .scrOwnWrite t 0 k v,
        .remapWrite t 0 v, .lockSet t 0 l, .mtxRotWrite t 0 v, .registerWrite t 0 ⟨.bus, addr⟩ ds, .registerWrite t 0 ⟨.bar0, addr⟩ ds,
        .registerWrite t 0 ⟨.bar2, addr⟩ ds, .mapWindowWrite t off data, .selectorWindowWrite t soff data],
      exec x s = .next { s with now := max s.now t, mbx := { s.mbx with urSeen := true },
                                out := s.out ++ (if s.mbx.cfg.msg then [.errMsg] else []) }) ∧
    ∀ x ∈ [Instr.semAcqRead t 0 ch, .readClear t 0 ⟨.bus, addr, be⟩, .readClear t 0 ⟨.bar0, addr, be⟩, .readClear t 0 ⟨.bar2, addr, be⟩],
      exec x s = .next { s with now := max s.now t, mtx := { s.mtx with err := true, rdBytes := [] } }

/-- R40: frame a is d = (a − b) mod 65,536 frames after frame b; it is in the future of b for d from 1 to 32,767, in its past for d
from 32,768 to 65,535, and the same frame for d = 0. -/
def Obligations.FrameOrder : Prop :=
  ∀ a b : W16, fnDist a b = (a.toNat + 65536 - b.toNat) % 65536 ∧
    (fnFuture a b = true ↔ 1 ≤ (a.toNat + 65536 - b.toNat) % 65536 ∧ (a.toNat + 65536 - b.toNat) % 65536 ≤ 32767) ∧
    (32768 ≤ (a.toNat + 65536 - b.toNat) % 65536 ↔ a ≠ b ∧ fnFuture a b = false) ∧
    ((a.toNat + 65536 - b.toNat) % 65536 = 0 ↔ a = b)

/-- R302 (and R304's ordinary release): a read acquires a free semaphore and answers with the holder; a write by the holder frees
it, any other is counted. R300: a valid write of SCR_OWN (from the owner, or from M1) starts the handover, writes from other
masters are ignored, and once the old owner's beats are over the bank has its new owner, the next generation, RECLAIMED clear
and an interrupt. Its conclusions that exec answers a next state, on conditions of the state and the operands alone, are about:
semAcqRead, semAcqWrite, scrOwnWrite, scrOwnHandoverDone. -/
def Obligations.SemaphoresAndBankHandover : Prop :=
  (∀ (t : Nat) (m : Master) (n : Fin 32) (s : State), s.barred m.val = false →
      (∃ s', exec (.semAcqRead t m n) s = .next s' ∧
        s'.holder n.val = some ((s.holder n.val).getD m.val) ∧ (∀ k, k ≠ n.val → s'.holder k = s.holder k) ∧
        bits s'.mtx.rdData.toNat 0 1 = b2n (decide (s'.holder n.val = some m.val)) ∧
        ((s.holder n.val).getD m.val < 16 → bits s'.mtx.rdData.toNat 4 4 = (s.holder n.val).getD m.val) ∧ s'.mtx.err = false ∧
        (s.holder n.val ≠ none → s'.regs = s.regs ∧ s'.mtx.sem = s.mtx.sem) ∧
        RegsKept s s' [0x400A0100 + 4 * n.val, 0x400A0200] ∧
        s' = { s with now := max s.now t, regs := s'.regs,
                      mtx := { s.mtx with sem := s'.mtx.sem, rdData := s'.mtx.rdData, rdBytes := s'.mtx.rdBytes, err := false } }) ∧
      (s.holder n.val = some m.val → ∃ s', exec (.semAcqWrite t m n) s = .next s' ∧
        s'.holder n.val = none ∧ (∀ k, k ≠ n.val → s'.holder k = s.holder k) ∧
        RegsKept s s' [0x400A0100 + 4 * n.val, 0x400A0200] ∧
        s' = { s with now := max s.now t, regs := s'.regs, mtx := { s.mtx with sem := s'.mtx.sem } }) ∧
      (s.holder n.val ≠ some m.val →
        exec (.semAcqWrite t m n) s = .next ((s.tick t).wr F.SEM_BAD_REL_COUNT (min (2 ^ 32 - 1) (s.rd F.SEM_BAD_REL_COUNT + 1))))) ∧
  (∀ (t : Nat) (m : Master) (b : Fin 16) (v : W32) (next : Nat) (s : State),
      (s.barred m.val = false → (s.owner b.val = m.val ∨ m.val = 1) → bitOf v.toNat 16 = true → bits v.toNat 12 4 ≤ 8 →
        Store.get (fun _ => none) s.mtx.hand b.val = none →
        ∃ s', exec (.scrOwnWrite t m b v) s = .next s' ∧ s'.owner b.val = s.owner b.val ∧
          Store.get (fun _ => none) s'.mtx.hand b.val = some (bits v.toNat 12 4) ∧
          (∀ c, c ≠ b.val → Store.get (fun _ => none) s'.mtx.hand c = Store.get (fun _ => none) s.mtx.hand c) ∧
          s' = { s with now := max s.now t, mtx := { s.mtx with hand := s'.mtx.hand } }) ∧
      (s.barred m.val = false → s.owner b.val ≠ m.val → m.val ≠ 1 → exec (.scrOwnWrite t m b v) s = .next (s.tick t)) ∧
      (Store.get (fun _ => none) s.mtx.hand b.val = some next →
        ∃ s', exec (.scrOwnHandoverDone t b) s = .next s' ∧ s'.owner b.val = next % 16 ∧
          s'.rd (F.SCR_OWN_GEN b.val) = (s.rd (F.SCR_OWN_GEN b.val) + 1) % 16 ∧ s'.flag (F.SCR_OWN_RECLAIMED b.val) = false ∧
          s'.flag F.MTX_INT_HANDOVER = true ∧ s'.flag F.MTX_INT_RECLAIM = s.flag F.MTX_INT_RECLAIM ∧
          Store.get (fun _ => none) s'.mtx.hand b.val = none ∧
          RegsKept s s' [0x40020100 + b.val * 4, 0x40020020] ∧
          s' = { s with now := max s.now t, regs := s'.regs, mtx := { s.mtx with hand := s'.mtx.hand } }))

/-- R286 and the table of SYS_CTRL: only M1 to M4 and M8 write REMAP, and not once SYS is locked; a write of 1 to a block's LOCK bit
sets it, from M0 not in SYS and MTX. R296, R297: the first error response while VALID is 0 is captured; a later one is counted
and leaves the capture alone; a posted write of the host is recorded as an Unsupported Request, and a core or a read of the host
learns of the error. Its conclusions that exec answers a next state, on conditions of the state and the operands alone, are
about: remapWrite, lockSet, defaultTargetError. -/
def Obligations.RemapLockAndErrorCapture : Prop :=
  (∀ (t : Nat) (m : Master) (v : W32) (b : LockBlk) (s : State), s.barred m.val = false →
      (((1 ≤ m.val ∧ m.val ≤ 4) ∨ m.val = 8) → s.flag F.SYS_CTRL_LOCK = false →
        ∃ s', exec (.remapWrite t m v) s = .next s' ∧ s'.rd F.SYS_CTRL_REMAP = bits v.toNat 0 1 ∧
          s'.flag F.SYS_CTRL_LOCK = false ∧ RegsKept s s' [0x40000000] ∧ s' = { s with now := max s.now t, regs := s'.regs }) ∧
      (¬(((1 ≤ m.val ∧ m.val ≤ 4) ∨ m.val = 8) ∧ s.flag F.SYS_CTRL_LOCK = false) → exec (.remapWrite t m v) s = .next (s.tick t)) ∧
      (¬(m.val = 0 ∧ (b = .sys ∨ b = .mtx)) →
        ∃ s', exec (.lockSet t m b) s = .next s' ∧ bitOf (s'.reg (lockBase b)).toNat 31 = true ∧
          (∀ i, i < 31 → bitOf (s'.reg (lockBase b)).toNat i = bitOf (s.reg (lockBase b)).toNat i) ∧
          RegsKept s s' [lockBase b] ∧ s' = { s with now := max s.now t, regs := s'.regs }) ∧
      (m.val = 0 → (b = .sys ∨ b = .mtx) → exec (.lockSet t m b) s = .next (s.tick t))) ∧
  (∀ (t : Nat) (m : Master) (addr : W32) (write : Bool) (cause : BitVec 3) (s : State), s.barred m.val = false →
      ∃ s', exec (.defaultTargetError t m addr write cause) s = .next s' ∧
        (s.flag F.MTX_ERR_INFO_VALID = false →
          s'.rd F.MTX_ERR_ADDR_ADDR = addr.toNat ∧ s'.rd F.MTX_ERR_INFO_MASTER = m.val ∧ s'.flag F.MTX_ERR_INFO_WRITE = write ∧
          s'.rd F.MTX_ERR_INFO_CAUSE = cause.toNat ∧ s'.flag F.MTX_ERR_INFO_VALID = true ∧ s'.flag F.MTX_INT_ERR = true ∧
          s'.flag F.MTX_INT_RECLAIM = s.flag F.MTX_INT_RECLAIM ∧ s'.flag F.MTX_INT_HANDOVER = s.flag F.MTX_INT_HANDOVER ∧
          RegsKept s s' [0x40020010, 0x40020014, 0x40020020]) ∧
        (s.flag F.MTX_ERR_INFO_VALID = true →
          s'.rd F.MTX_ERR_CNT_COUNT = min (2 ^ 32 - 1) (s.rd F.MTX_ERR_CNT_COUNT + 1) ∧ RegsKept s s' [0x40020018]) ∧
        (m.val = 0 → write = true → s'.mbx.urSeen = true ∧ s'.mtx = s.mtx) ∧
        (m.val ≤ 4 → (m.val = 0 → write = false) → s'.mtx.err = true ∧ s'.mbx = s.mbx) ∧
        s' = { s with now := max s.now t, regs := s'.regs, out := s'.out, mbx := { s.mbx with urSeen := s'.mbx.urSeen },
                      mtx := { s.mtx with err := s'.mtx.err, rdBytes := s'.mtx.rdBytes } })

/-- R306: a master's rotate amount; M0 writes only its own field. Its conclusions that exec answers a next state, on conditions of
the state and the operands alone, are about: mtxRotWrite. -/
def Obligations.RotateAmounts : Prop :=
  ∀ (t : Nat) (m k : Master) (v : W32) (s : State), s.barred m.val = false →
    ∃ s', exec (.mtxRotWrite t m v) s = .next s' ∧ s'.rot k.val ≤ 7 ∧
      s'.rot k.val = (if m.val = 0 ∧ k.val ≠ 0 then s.rot k.val else bits v.toNat (3 * k.val) 3) ∧
      RegsKept s s' [0x40020030] ∧ s' = { s with now := max s.now t, regs := s'.regs }

/-- R299: the owner of a bank is served in both ranges (while no handover is under way); every other master's burst, write or read,
gets the error response "not owner" (cause 2) and its bytes are neither stored nor answered. The host's BAR0 reaches the two
ranges as master M0 (R287). Its conclusions that exec answers a next state, on conditions of the state and the operands alone,
are about: registerWrite, readClear. -/
def Obligations.OnlyOwnerReachesBank : Prop :=
  ∀ (t : Nat) (m : Master) (x : Nat) (addr off : W32) (data : List (Option W8)) (be : List Bool) (write : Bool) (s : State),
    s.barred m.val = false → x < 0x200000 → 1 ≤ data.length → x % 128 + data.length ≤ 128 → 1 ≤ be.length → x % 128 + be.length ≤ 128 →
    (addr.toNat = 0x10000000 + x ∨ addr.toNat = 0x18000000 + x) →
    (s.owner (x / 0x20000) = m.val → Store.get (fun _ => none) s.mtx.hand (x / 0x20000) = none →
      s.refusal m.val addr.toNat write = none) ∧
    (s.owner (x / 0x20000) ≠ m.val →
      exec (.registerWrite t m ⟨.bus, addr⟩ data) s = .next ((s.tick t).busError m.val addr.toNat true 2) ∧
      exec (.readClear t m ⟨.bus, addr, be⟩) s = .next ((s.tick t).busError m.val addr.toNat false 2)) ∧
    (s.barred 0 = false → bar0Addr off.toNat = some addr.toNat →
      exec (.registerWrite t m ⟨.bar0, off⟩ data) s = exec (.registerWrite t 0 ⟨.bus, addr⟩ data) s ∧
      exec (.readClear t m ⟨.bar0, off, be⟩) s = exec (.readClear t 0 ⟨.bus, addr, be⟩) s)

/-- R285, R296, R298: the owner of a bank writes the enabled bytes of a burst (any size, any byte enables), every other byte of the
scratchpad is kept; its read of a burst returns the bytes, counts the words that its check bits correct, and gets an error
response (cause 5) where a word is uncorrectable. R256, R273, R288, R298, R299: SPI writes and reads bytes as master M0 inside a
bank that M0 owns, burst by burst; words that show an error in a read are damaged from then on, and a correctable one is
counted. In corners that the manual leaves open the model takes the reading of log entry 2. Its conclusions that exec answers a
next state, on conditions of the state and the operands alone, are about: registerWrite, readClear, memWrite, memRead. -/
def Obligations.ScratchpadAccess : Prop :=
  (∀ (t : Nat) (m : Master) (x : Nat) (addr : W32) (data : List (Option W8)) (be : List Bool) (s : State),
      s.barred m.val = false → x < 0x200000 → addr.toNat = 0x10000000 + x → s.owner (x / 0x20000) = m.val →
      Store.get (fun _ => none) s.mtx.hand (x / 0x20000) = none →
      (1 ≤ data.length → x % 128 + data.length ≤ 128 → ∃ s', exec (.registerWrite t m ⟨.bus, addr⟩ data) s = .next s' ∧
        (∀ j, j < data.length → s'.scrByte (x + j) = (data.getD j none).getD (s.scrByte (x + j))) ∧ ScrKept s s' x data.length ∧
        s' = { s with now := max s.now t, mtx := { s.mtx with scr := s'.mtx.scr, damage := s'.mtx.damage } }) ∧
      (1 ≤ be.length → x % 128 + be.length ≤ 128 →
        (s.scrUe x be.length = false → s.scrCe x be.length = 0 → exec (.readClear t m ⟨.bus, addr, be⟩) s = .next { s.tick t with mtx := { s.mtx with
            rdBytes := s.scrRead x be.length, rdData := BitVec.ofNat 32 (ofLe ((s.scrRead x be.length).take 4)), err := false } }) ∧
        (s.scrUe x be.length = false → 1 ≤ s.scrCe x be.length → ∃ s', exec (.readClear t m ⟨.bus, addr, be⟩) s = .next s' ∧
          s'.mtx.rdBytes = s.scrRead x be.length ∧
          s'.rd F.SCR_CE_CNT_COUNT = min (2 ^ 32 - 1) (s.rd F.SCR_CE_CNT_COUNT + s.scrCe x be.length) ∧ s'.flag F.MTX_INT_SCR_CE = true ∧
          RegsKept s s' [0x40020034, 0x40020020] ∧ s'.mtx.scr = s.mtx.scr ∧ s'.mtx.damage = s.mtx.damage) ∧
        (s.scrUe x be.length = true → exec (.readClear t m ⟨.bus, addr, be⟩) s = .next ((s.tick t).busError m.val addr.toNat false 5)))) ∧
  (∀ (t x n : Nat) (addr : W32) (data : List W8) (ce ue : List (Fin 262144)) (s : State), x + n ≤ 0x200000 → 1 ≤ n → x / 0x20000 = (x + n - 1) / 0x20000 →
      addr.toNat = 0x10000000 + x → s.owner (x / 0x20000) = 0 → Store.get (fun _ => none) s.mtx.hand (x / 0x20000) = none →
      (data.length = n → ∃ s', exec (.memWrite t addr data) s = .next s' ∧ s'.scrRead x n = data ∧ ScrKept s s' x n ∧
        s' = { s with now := max s.now t, mtx := { s.mtx with scr := s'.mtx.scr, damage := s'.mtx.damage } }) ∧
      (let u := (s.tick t).upsetWords (struck ce ue)
       (u.scrUe x n = false → u.scrCe x n = 0 → exec (.memRead t addr n ce ue) s = .next { u with mtx := { u.mtx with
        rdBytes := s.scrRead x n, rdData := BitVec.ofNat 32 (ofLe ((s.scrRead x n).take 4)), err := false } }) ∧
       (x % 128 + n ≤ 128 → u.scrUe x n = false → 1 ≤ u.scrCe x n → ∃ s', exec (.memRead t addr n ce ue) s = .next s' ∧
        s'.mtx.rdBytes = s.scrRead x n ∧ s'.rd F.SCR_CE_CNT_COUNT = min (2 ^ 32 - 1) (s.rd F.SCR_CE_CNT_COUNT + u.scrCe x n) ∧
        s'.flag F.MTX_INT_SCR_CE = true ∧ RegsKept s s' [0x40020034, 0x40020020] ∧ s'.mtx.scr = s.mtx.scr)))

/-- R307: an enabled byte that a master writes through the alias lands in the lane that its rotate amount gives, byte by byte, and a
read through the alias returns those bytes. Its conclusions that exec answers a next state, on conditions of the state and the
operands alone, are about: registerWrite, readClear. -/
def Obligations.RotatedAlias : Prop :=
  ∀ (t : Nat) (m : Master) (x : Nat) (addr : W32) (data : List (Option W8)) (be : List Bool) (s : State), s.barred m.val = false →
    x < 0x200000 → addr.toNat = 0x18000000 + x → s.owner (x / 0x20000) = m.val → Store.get (fun _ => none) s.mtx.hand (x / 0x20000) = none →
    let lane := fun j => 8 * ((x + j) / 8) + ((x + j) % 8 + s.rot m.val) % 8
    (1 ≤ data.length → x % 128 + data.length ≤ 128 → ∃ s', exec (.registerWrite t m ⟨.bus, addr⟩ data) s = .next s' ∧
      (∀ j, j < data.length → s'.scrByte (lane j) = (data.getD j none).getD (s.scrByte (lane j))) ∧
      (∀ y, (∀ j, j < data.length → y ≠ lane j) → s'.scrByte y = s.scrByte y) ∧
      s' = { s with now := max s.now t, mtx := { s.mtx with scr := s'.mtx.scr, damage := s'.mtx.damage } }) ∧
    (1 ≤ be.length → x % 128 + be.length ≤ 128 → s.scrUe x be.length = false → ∃ s', exec (.readClear t m ⟨.bus, addr, be⟩) s = .next s' ∧
      s'.mtx.rdBytes = (List.range be.length).map (fun j => s.scrByte (lane j)) ∧ s'.mtx.scr = s.mtx.scr ∧ s'.mtx.damage = s.mtx.damage ∧
      RegsKept s s' [0x40020034, 0x40020020] ∧
      s' = { s with now := max s.now t, regs := s'.regs, mtx := { s.mtx with
        rdData := s'.mtx.rdData, rdBytes := s'.mtx.rdBytes, err := false } })

/-- R10, R11 over the blocks PWR (but the range-checked PWR_SCRUB), TALLY, TMG and PAIR: a write of a word with all byte enables
changes the one register it names; there, RW fields take the written bits, W1C fields clear and W1S fields set where 1 is
written, RWL fields take the bits while the block is not locked, and RO, WO, RC fields and reserved bits stay. R10 over the
blocks PWR and TALLY: a read returns the register with its WO fields zero and leaves its RC fields zero; the other fields of the
register stay. In corners that the manual leaves open the model takes the reading of log entries 8 and 18. Its conclusions that
exec answers a next state, on conditions of the state and the operands alone, are about: registerWrite, readClear. -/
def Obligations.RegisterAccessCodes : Prop :=
  (∀ (t : Nat) (m : Master) (addr v : W32) (r : RegRow) (locked : Bool) (s : State), s.barred m.val = false →
      0x40030000 ≤ addr.toNat → addr.toNat < 0x40070000 → addr.toNat % 4 = 0 → addr.toNat ≠ 0x40030014 →
      s.rowLocked addr.toNat = some (r, locked) →
      ∃ s', exec (.registerWrite t m ⟨.bus, addr⟩ ((leBytes v.toNat 4).map some)) s = .next s' ∧
        (∀ f ∈ r.fields, bits (s'.reg addr.toNat).toNat f.lo f.w =
          let old := bits (s.reg addr.toNat).toNat f.lo f.w
          let new := bits v.toNat f.lo f.w
          match f.acc with
          | .rw => new
          | .ro | .rc | .wo => old
          | .w1c => old &&& (2 ^ f.w - 1 - new)
          | .w1s => old ||| new
          | .rwl => if locked then old else new) ∧
        (∀ i, i < 32 → (∀ f ∈ r.fields, i < f.lo ∨ f.lo + f.w ≤ i) →
          bitOf (s'.reg addr.toNat).toNat i = bitOf (s.reg addr.toNat).toNat i) ∧
        RegsKept s s' [addr.toNat] ∧
        s' = { s with
          now := max s.now t
          regs := s'.regs
          mbx := { s.mbx with evtPrev := s'.mbx.evtPrev, evtNew := s'.mbx.evtNew } }) ∧
  (∀ (t : Nat) (m : Master) (addr : W32) (base : Nat) (r : RegRow) (s : State), s.barred m.val = false →
      0x40030000 ≤ addr.toNat → addr.toNat < 0x40050000 → addr.toNat % 4 = 0 → RegTable.find addr.toNat = some (base, r) →
      ∃ s', exec (.readClear t m ⟨.bus, addr, [true, true, true, true]⟩) s = .next s' ∧
        (∀ f ∈ r.fields, bits s'.mtx.rdData.toNat f.lo f.w = if f.acc = .wo then 0 else bits (s.reg addr.toNat).toNat f.lo f.w) ∧
        (∀ f ∈ r.fields, bits (s'.reg addr.toNat).toNat f.lo f.w = if f.acc = .rc then 0 else bits (s.reg addr.toNat).toNat f.lo f.w) ∧
        s'.out = s.out ∧ s'.mtx.scr = s.mtx.scr ∧ s'.map = s.map ∧ s'.sel = s.sel)

/-- R276, R294, R337: what a host reset of any cause does. In corners that the manual leaves open the model takes the reading of log
entry 54. Its conclusions that exec answers a next state, on conditions of the state and the operands alone, are about:
hostReset. -/
def Obligations.HostResetEffects : Prop :=
  ∀ (t : Nat) (cause : HostResetCause) (gen : Fin 6) (width : Fin 8) (s : State),
    ∃ s', exec (.hostReset t cause gen width) s = .next s' ∧
      s'.rd F.MBX_EPOCH_EPOCH = (s.rd F.MBX_EPOCH_EPOCH + 1) % 2 ^ 32 ∧
      s'.rd F.H2D_DB_DB = 0 ∧ s'.rd F.D2H_DB_DB = 0 ∧ s'.rd F.H2D_TMO_TMO = 0 ∧ s'.rd F.D2H_TMO_TMO = 0 ∧
      s'.flag (F.MBX_RING_CTRL_EN 0) = false ∧ s'.flag (F.MBX_RING_CTRL_EN 1) = false ∧ s'.flag F.MBX_EVT_ADDR_LO_EN = false ∧
      s'.rd F.D2H_MASK_MASK = 0xFFFFFFFF ∧ s'.mbx.hPost = [] ∧ s'.mbx.dPost = [] ∧ s'.mbx.taken = s.mbx.taken ∧
      (∀ n, n < 32 → s.holder n = some 0 → s'.holder n = some 1 ∧ s'.bitAt F.SEM_RECL_RECL n = true) ∧
      (∀ b, b < 16 → s.owner b = 0 → Store.get (fun _ => none) s.mtx.hand b = none →
        s'.owner b = 1 ∧ s'.flag (F.SCR_OWN_RECLAIMED b) = true) ∧
      s'.tally.flight = none ∧ (s.flag F.TALLY_DUMP_CFG_EN = true → s'.flag F.TALLY_DUMP_CFG_EN = false) ∧
      s'.pins = (match cause with
        | .flr => s.pins
        | .perstN => { s.pins with pcieGen := 0, pcieWidth := 0 }
        | _ => { s.pins with pcieGen := gen.val, pcieWidth := if gen.val = 0 then 0 else width.val }) ∧
      s'.now = max s.now t ∧ s'.out = s.out ∧ s'.map = s.map ∧ s'.pair = s.pair ∧ s'.mate = s.mate ∧ s'.sel = s.sel ∧
      s'.core = s.core ∧ s'.eng = s.eng ∧ s'.line = s.line ∧ s'.tmg = s.tmg ∧ s'.mdc = s.mdc ∧ s'.pwr = s.pwr ∧ s'.boot = s.boot

/-- R379: the I2C target takes its pointer from the first data byte, and a read returns the byte there and moves the pointer on,
from 0x07 to 0x00 (pointers from 0x08 on: log entry 1). R338, R353, R369, R370, R396: PERST_N rising trains the link and decides
BAR4; FUSE_DBG blows the fuse only while TEST_EN is high; while it is blown a closed instruction is BYPASS. In corners that the
manual leaves open the model takes the reading of log entries 1, 52 and 53. Its conclusions that exec answers a next state, on
conditions of the state and the operands alone, are about: i2cWrite, i2cRead, perstNRise, jtagInstruction, fuseDbg. -/
def Obligations.PinAndI2cCommands : Prop :=
  (∀ (t : Nat) (b : W8) (more : List W8) (s : State), s.i2cAnswers = true →
      exec (.i2cWrite t 0x5A (b :: more)) s = .next { s.tick t with pins := { s.pins with i2cPtr := b.toNat } } ∧
      ∃ s', exec (.i2cRead t 0x5A) s = .next s' ∧ s'.pins.i2cPtr = (if s.pins.i2cPtr = 7 then 0 else (s.pins.i2cPtr + 1) % 256) ∧
        (s.pins.i2cPtr = 0 → s'.mtx.rdBytes = [0x25]) ∧ (s.pins.i2cPtr = 1 → s'.mtx.rdBytes = [0x48]) ∧
        (s.pins.i2cPtr = 2 → s'.mtx.rdBytes = [0x01]) ∧ (s.pins.i2cPtr = 4 → s'.mtx.rdBytes = [BitVec.ofNat 8 s.dpll]) ∧
        (s.pins.i2cPtr = 5 → s'.mtx.rdBytes = [BitVec.ofNat 8 (s.rd F.PWR_TEMP_TJ)]) ∧
        (s.pins.i2cPtr = 6 → s'.mtx.rdBytes = [BitVec.ofNat 8 (s.rd F.BOOT_STATUS_STEP + 16 * s.rd F.BOOT_STATUS_PHASE)]) ∧
        (s.pins.i2cPtr = 7 → s'.mtx.rdBytes = [BitVec.ofNat 8 (s.reg 0x40210008).toNat]) ∧
        s'.mtx.scr = s.mtx.scr ∧ s'.mtx.sem = s.mtx.sem ∧ s'.mtx.hand = s.mtx.hand ∧ s'.mtx.rdData = s.mtx.rdData ∧ s'.out = s.out) ∧
  (∀ (t : Nat) (ir : Jtag) (gen : Fin 6) (width : Fin 8) (s : State),
      exec (.perstNRise t gen width) s = .next { s.tick t with pins := { s.pins with
        pcieGen := gen.val, pcieWidth := if gen.val = 0 then 0 else width.val, bar4 := s.flag F.TALLY_CTRL_PERF_USER_EN } } ∧
      (∃ s', exec (.jtagInstruction t ir) s = .next s' ∧
        s'.pins.tapIr = (if ir = .other ∧ s.flag F.FUSE_CFG_DEBUG_DISABLE = true then .bypass else ir) ∧
        s' = { s with now := max s.now t, pins := { s.pins with tapIr := s'.pins.tapIr, tapDr := s'.pins.tapDr } }) ∧
      (∃ s', exec (.fuseDbg t true) s = .next s' ∧ s'.flag F.FUSE_CFG_DEBUG_DISABLE = true ∧ s'.rd F.FUSE_CFG_GRADE = s.rd F.FUSE_CFG_GRADE ∧
        s'.pins.tapIr = .bypass ∧ (s.flag F.MBX_STATUS_FW_RUN = true → s'.bitAt F.H2D_MASK_MASK 31 = true) ∧
        RegsKept s s' [0x40220000, 0x40010014] ∧
        s' = { s with now := max s.now t, regs := s'.regs, pins := { s.pins with tapIr := .bypass, tapDr := some 0 } }) ∧
      exec (.fuseDbg t false) s = .next { s.tick t with pins := { s.pins with tapIr := .bypass, tapDr := some 0 } })

/-- R22, R23, R382: POR_N low and a supply-monitor trip reset the device: every register but the fuses and every block returns to
its reset state; the MRAM keeps its content. In corners that the manual leaves open the model takes the reading of log entry 16.
Its conclusions that exec answers a next state, on conditions of the state and the operands alone, are about: porNLow,
supplyMonitorTrip. -/
def Obligations.DeviceResets : Prop :=
  ∀ (t : Nat) (c : Instr) (s : State), c = .porNLow t ∨ c = .supplyMonitorTrip t →
    ∃ s', exec c s = .next s' ∧
      (∀ a, ¬(0x40220000 ≤ a ∧ a < 0x40230000) → s'.reg a = RegTable.reset a) ∧
      (∀ a, 0x40220000 ≤ a → a < 0x40230000 → s'.reg a = s.reg a) ∧
      s'.mbx = Mbx.reset ∧ s'.mtx = Mtx.reset ∧ s'.map = MapSt.reset ∧ s'.pair = PairSt.reset ∧ s'.sel = SelSt.reset ∧
      s'.eng = EngSt.reset ∧ s'.mdc = MdcSt.reset ∧ s'.boot.mram = s.boot.mram ∧ s'.boot.genA = s.boot.genA ∧
      s'.boot.genB = s.boot.genB ∧ s'.now = max s.now t ∧ s'.out = s.out ∧ s'.pins.faultN = PinSt.reset.faultN

/-- R25, R343, R344, R352: the boot begins with step 1; a step whose end comes before its watchdog ends with its result and the next
begins, or step 4 finds no image and the device is in recovery; after step 11 firmware runs, BOOT_INT.BOOT_DONE is set and in
MODE 00 the device acts (R25). R344, R346: a boot step that fails is logged and counted in the boot record, and the device
resets itself; after an hour of running every FAILCNT returns to 0. In corners that the manual leaves open the model takes the
reading of log entries 46 and 47. Its conclusions that exec answers a next state, on conditions of the state and the operands
alone, are about: bootSequence, bootWatchdog, failcntClear. -/
def Obligations.BootStepsAndFailures : Prop :=
  (∀ (t : Nat) (n : Fin 12) (e : BootEnv) (u : State) (res : Nat) (s : State),
      (s.inStep 0 = true → exec (.bootSequence t 0 e) s = .next (s.tick t).beginBoot) ∧
      (1 ≤ n.val → s.inStep n.val = true →
      ((s.tick t).tick (e.ends.getD (n.val - 1) (s.tick t).now)).now < s.boot.stepAt + stepLimit n.val →
      (((s.tick t).tick (e.ends.getD (n.val - 1) (s.tick t).now)).stepWork e n.val = (u, none) → exec (.bootSequence t n e) s = .next u) ∧
      (((s.tick t).tick (e.ends.getD (n.val - 1) (s.tick t).now)).stepWork e n.val = (u, some res) →
      (n.val < 11 → exec (.bootSequence t n e) s = .next ((u.endStep n.val res).beginStep (n.val + 1))) ∧
      (n.val = 11 → ∃ s', exec (.bootSequence t n e) s = .next s' ∧ s'.rd F.BOOT_STATUS_PHASE = 2 ∧
        s'.flag F.MBX_STATUS_FW_RUN = true ∧ s'.flag F.BOOT_INT_BOOT_DONE = true ∧ (u.mode = 0 → s'.acting = true))))) ∧
  (∀ (t : Nat) (fatal : Bool) (k : Nat) (s : State),
      (s.rd F.BOOT_STATUS_STEP = k → 1 ≤ k → s.inStep k = true → (fatal = true ∨ s.boot.stepAt + stepLimit k ≤ max s.now t) →
        ∃ s', exec (.bootWatchdog t fatal) s = .next s' ∧
          s'.boot.mram = ((((s.tick t).logStep k (if fatal then 5 else 4)).writeRec fun r => r.setCnt k (min 15 (r.cnt k + 1)))).boot.mram ∧
          s'.boot.lastLog = some (k, if fatal then 5 else 4) ∧
          (∀ a, ¬(0x40220000 ≤ a ∧ a < 0x40230000) → s'.reg a = RegTable.reset a) ∧ s'.map = MapSt.reset ∧ s'.mbx = Mbx.reset) ∧
      ((s.rd F.BOOT_STATUS_PHASE = 2 ∨ s.rd F.BOOT_STATUS_PHASE = 3) → s.boot.stepAt + 3600 * secTicks ≤ max s.now t →
        exec (.failcntClear t) s = .next ((s.tick t).writeRec fun r => { r with fail := List.replicate 11 0 })))

/-- R279: ECHO accepts any PLEN that is a multiple of 4 up to 56, changes nothing and returns the parameter words that PLEN reaches.
Its conclusions that exec answers a next state, on conditions of the state and the operands alone, are about: echo. -/
def Obligations.EchoReturnsParameters : Prop :=
  ∀ (x : Exe) (i : Nat) (k : Taken) (s : State),
    (formOk Opc.echo.row k.d = true ↔
      bits (flagsOf k.d) 1 14 = 0 ∧ optOf k.d = false ∧ plenOf k.d % 4 = 0 ∧ plenOf k.d ≤ 56) ∧
    (Starts s .echo x i k →
      exec (.echo x) s = .next ((s.tick x.t).finish i k .ok
        [if 0 < plenOf k.d then k.d.getD 2 0 else 0, if 4 < plenOf k.d then k.d.getD 3 0 else 0,
         if 8 < plenOf k.d then k.d.getD 4 0 else 0, if 12 < plenOf k.d then k.d.getD 5 0 else 0] x.rplOk))

/-- R255, R258, R281: an opcode's command that is not there leaves all but the time alone; wrong FLAGS or PLEN are answered
BAD_PARAM; a device that does not act answers an opcode of the holder with BAD_PARAM or NOT_LAMP_HOLDER and does nothing else.
In corners that the manual leaves open the model takes the reading of log entry 21. -/
def Obligations.CommandsTurnedAway : Prop :=
  ∀ (c : Instr) (o : Opc) (x : Exe) (s : State), opcodeRow c = some (o, x) →
    ((s.tick x.t).pick o x.src = none → exec c s = .next (s.tick x.t)) ∧
    ∀ (i : Nat) (k : Taken), (s.tick x.t).pick o x.src = some (i, k) →
      (formOk o.row k.d = false → exec c s = .next ((s.tick x.t).finish i k .badParam [] x.rplOk)) ∧
      (o.row.holder = true → s.acting = false →
        exec c s = .next ((s.tick x.t).finish i k .badParam [] x.rplOk) ∨
        exec c s = .next ((s.tick x.t).finish i k .notLampHolder [] x.rplOk))

/-- R280: GET_INFO answers device and revision, image version, state and boot count. R364: FW_CONFIRM of an open trial, from the
source of the session, ends the trial and the activation and on request raises the fused SVN to the image's. R365: FW_ABORT,
while no activation is under way, starts the handover back of a trial, or closes the staging session, or finds nothing open.
R83: MAP_SNAPSHOT, while neither a check nor a commit nor a snapshot is in progress, of a page of at most 1,572,864 runs starts
the snapshot. R268, R269, R274, R275, R294, R362, R363: a firmware reset outside a handover's window stops the firmware, marks
every posted notice stale, masks the host's notices, frees the semaphores of the control cores, closes the BOOT sessions, drops
counter definitions that wait and marks as lost the taken commands that no hardware carries; in a trial the other image and code
slot are put in use; inside a window it reverts the handover. At the restart the firmware runs, counts its start and unmasks
notices, and where no notice is stale no lost command is left. In corners that the manual leaves open the model takes the
reading of log entries 21, 22, 50 and 71. Its conclusions that exec answers a next state, on conditions of the state and the
operands alone, are about: getInfo, fwConfirm, fwAbort, mapSnapshot, firmwareReset, firmwareRestart. -/
def Obligations.InfoConfirmAbortSnapshotRestart : Prop :=
  (∀ (x : Exe) (i : Nat) (k : Taken) (s : State),
      (Starts s .getInfo x i k → exec (.getInfo x) s = .next ((s.tick x.t).finish i k .ok
        [w32 (0x014825 + s.rd F.FUSE_CFG_GRADE * 0x1000000), if s.recovery then 0 else w32 (s.imgVersion s.runImg),
         w32 (s.runImg + 2 * b2n (s.flag F.BOOT_STATUS_TRIAL) + 4 * b2n (s.flag F.FUSE_CFG_DEBUG_DISABLE) + 8 * b2n s.acting +
          16 * s.pins.pcieGen + 256 * s.pins.pcieWidth), w32 s.bootRec.boots] x.rplOk)) ∧
      (Starts s .fwConfirm x i k → onlyBits (word k.d 2) 1 = true → s.otherSource x.src = false →
        s.flag F.BOOT_STATUS_TRIAL = true → s.boot.act.back = false →
        ∃ u : State, exec (.fwConfirm x) s = .next (u.finish i k .ok [w32 (u.rd F.FUSE_SVN_SVN)] x.rplOk) ∧
          u.flag F.BOOT_STATUS_TRIAL = false ∧ u.flag F.BOOT_INT_CONFIRMED = true ∧ u.flag F.BOOT_STAGE_ACTIVATION = false ∧
          u.rd F.FUSE_SVN_SVN = (if bitOf (word k.d 2) 0 = true then max (s.rd F.FUSE_SVN_SVN) (s.imgSvn s.runImg % 64) else s.rd F.FUSE_SVN_SVN) ∧
          u.boot.act = Activation.reset ∧ u.map = s.map ∧ u.sel = s.sel ∧ u.mbx = s.mbx) ∧
      (Starts s .fwAbort x i k → onlyBits (word k.d 2) 1 = true → (s.otherSource x.src = false ∨ bitOf (word k.d 2) 0 = true) →
        s.boot.act.phase = .none →
        (s.flag F.BOOT_STATUS_TRIAL = true → ∃ u : State, exec (.fwAbort x) s = .next (u.retake i (some { k with phase := .working })) ∧
          u.boot.act = { phase := .drain, since := max s.now x.t, slot := s.runImg, trial := 0, w := 0, back := true, abort := true } ∧
          u.flag F.BOOT_STAGE_STAGING = false ∧ u.flag F.MBX_STATUS_TMO_HOLD = true ∧ u.map = s.map ∧ u.sel = s.sel) ∧
        (s.flag F.BOOT_STATUS_TRIAL = false → s.flag F.BOOT_STAGE_STAGING = true → ∃ u : State,
          exec (.fwAbort x) s = .next (u.finish i k .ok [1] x.rplOk) ∧ u.flag F.BOOT_STAGE_STAGING = false ∧
          u.boot.chunks.all (fun c => !c.live) = true ∧ u.map = s.map ∧ u.sel = s.sel ∧ u.mbx = s.mbx) ∧
        (s.flag F.BOOT_STATUS_TRIAL = false → s.flag F.BOOT_STAGE_STAGING = false →
          exec (.fwAbort x) s = .next ((s.tick x.t).finish i k .ok [0] x.rplOk))) ∧
      (Starts s .mapSnapshot x i k → s.mapBusy = false → s.activeRuns.length ≤ 1572864 →
        ∃ u : State, exec (.mapSnapshot x) s = .next (u.retake i (some { k with phase := .working })) ∧ u.map = { s.map with snap := true } ∧
          u.rd F.MAP_STATUS_STATE = 5 ∧ RegsKept s u [0x40070004] ∧ u = { s with now := max s.now x.t, regs := u.regs, map := u.map, boot := u.boot })) ∧
  (∀ (t : Nat) (fatal rplOk : Bool) (d0 d1 : List (Option (List W32))) (s : State),
      (s.rd F.BOOT_STATUS_PHASE = 2 → ∃ s', exec (.firmwareReset t fatal rplOk) s = .next s' ∧ s'.flag F.MBX_STATUS_FW_RUN = false ∧
        (∀ ch, ch < 32 → s.bitAt F.H2D_DB_DB ch = true → s'.bitAt F.MBX_STALE_STALE ch = true) ∧
        (∀ n m, n < 32 → s.holder n = some m → 1 ≤ m → m ≤ 4 → s'.holder n = none) ∧
        s'.rd F.H2D_MASK_MASK = 0xFFFFFFFF ∧ s'.boot.chunks = [] ∧ s'.boot.record = none ∧ s'.flag F.BOOT_STAGE_STAGING = false ∧
        s'.tally.defs = [] ∧ s'.tally.cfg = none ∧
        (s.boot.act.abort = false → s'.mbx.taken = s.mbx.taken.map fun k => { k with old := true, lost := k.lost || !s.carried k }) ∧
        (s.flag F.BOOT_STATUS_TRIAL = false → s'.rd F.BOOT_STATUS_RUN_IMG = s.rd F.BOOT_STATUS_RUN_IMG) ∧
        (s.flag F.BOOT_STATUS_TRIAL = true → s'.flag F.BOOT_STATUS_TRIAL = false ∧ s'.flag F.BOOT_INT_REVERTED = true ∧
          s'.rd F.BOOT_STATUS_RUN_IMG = 1 - s.rd F.BOOT_STATUS_RUN_IMG ∧ s'.rd F.BOOT_STATUS_CODE_SLOT = 1 - s.rd F.BOOT_STATUS_CODE_SLOT)) ∧
      (s.rd F.BOOT_STATUS_PHASE = 3 →
        exec (.firmwareReset t fatal rplOk) s = .next ((s.tick t).revert .fwReverted [if fatal then 3 else 2] rplOk)) ∧
      (s.rd F.BOOT_STATUS_PHASE = 2 → s.flag F.MBX_STATUS_FW_RUN = false →
        ∃ s', exec (.firmwareRestart t d0 d1 rplOk) s = .next s' ∧ s'.flag F.MBX_STATUS_FW_RUN = true ∧
          s'.rd F.MBX_STATUS_FW_STARTS = (s.rd F.MBX_STATUS_FW_STARTS + 1) % 256 ∧ s'.rd F.H2D_MASK_MASK = s.runMask ∧
          ((∀ ch, ch < 32 → s.bitAt F.MBX_STALE_STALE ch = false) → s'.mbx.taken.all (fun k => !k.lost && k.done.isNone) = true)))

/-- R358, R359: FW_STAGE where nothing turns it away: a chunk waits for the MRAM; with FIRST a session opens, STAGING is set and the
slot starts at offset 0. R349, R358, R359: the oldest accepted chunk reaches the MRAM and its command completes; after the last
chunk the session closes, an image that authenticates is STAGED and another is refused with its reason and its slot emptied; a
chunk whose session has closed completes with no bytes staged; ten minutes without a chunk end the session. In corners that the
manual leaves open the model takes the reading of log entries 17 and 49. Its conclusions that exec answers a next state, on
conditions of the state and the operands alone, are about: fwStage, fwStageChunkWritten, stagingTimeout. -/
def Obligations.StagingOfImages : Prop :=
  (∀ (x : Exe) (i : Nat) (k : Taken) (v : State) (bs : List W8) (s : State), Starts s .fwStage x i k →
      onlyBits (word k.d 2) 7 = true → onlyBits (word k.d 3) 0x7FFFF = true → onlyBits (word k.d 4) 0x1FFFF = true →
      4 ≤ word k.d 4 → word k.d 4 ≤ 65536 → word k.d 4 % 4 = 0 → s.addrOk x.src (word64 k.d 5) (word k.d 4) = true →
      s.otherSource x.src = false → s.stageBad k.d = false → s.flag F.BOOT_STATUS_TRIAL = false → s.boot.act.phase = .none →
      s.boot.chunks.any (fun c => c.live && c.last) = false → (s.tick x.t).readBuf (word64 k.d 5) (word k.d 4) x = .ok (v, bs) →
      ∃ u : State, exec (.fwStage x) s = .next (u.accept i k [] x.rplOk) ∧
        u.boot.chunks.getLast? = some { slot := bits (word k.d 2) 0 1, off := word k.d 3, data := bs, last := bitOf (word k.d 2) 2, live := true } ∧
        u.boot.stageAt = max s.now x.t ∧ u.map = s.map ∧ u.sel = s.sel ∧
        (bitOf (word k.d 2) 1 = false → u = { v with boot := u.boot } ∧ u.boot.mram = s.boot.mram) ∧
        (bitOf (word k.d 2) 1 = true → u.flag F.BOOT_STAGE_STAGING = true ∧ u.rd F.BOOT_STAGE_SLOT = bits (word k.d 2) 0 1 ∧
          u.rd F.BOOT_STAGE_OFFSET = 0)) ∧
  (∀ (t : Nat) (rplOk : Bool) (c : Chunk) (rest : List Chunk) (s : State),
      (s.flag F.MBX_STATUS_FW_RUN = true → s.boot.chunks = c :: rest →
        let w := (({ s.tick t with boot := { s.boot with chunks := rest } } : State).mramWrite (imgBase c.slot + c.off) c.data).wr
          F.BOOT_STAGE_OFFSET (c.off + c.data.length)
        (c.live = true → c.last = false →
          exec (.fwStageChunkWritten t rplOk) s = .next (w.complete .fwStage .ok [w32 (c.off + c.data.length)] rplOk)) ∧
        (c.live = true → c.last = true → w.closeStaging.authReason c.slot = none →
          ∃ u : State, exec (.fwStageChunkWritten t rplOk) s = .next (u.complete .fwStage .ok [w32 (c.off + c.data.length),
              w32 (w.imgVersion c.slot), w32 (w.imgWord c.slot 0x18), w32 (w.setWr c.slot + w.imgSvn c.slot * 0x10000)] rplOk) ∧
            u.flag F.BOOT_STAGE_STAGING = false ∧ u.flag F.BOOT_INT_STAGED = true ∧ u.map = s.map ∧ u.sel = s.sel ∧ u.mbx = s.mbx) ∧
        (∀ r, c.live = true → c.last = true → w.closeStaging.authReason c.slot = some r →
          exec (.fwStageChunkWritten t rplOk) s = .next ((w.closeStaging.emptySlot c.slot).complete .fwStage .authFail [w32 r] rplOk)) ∧
        (c.live = false → exec (.fwStageChunkWritten t rplOk) s =
          .next (({ s.tick t with boot := { s.boot with chunks := rest } } : State).complete .fwStage .ok [0] rplOk))) ∧
      (s.flag F.BOOT_STAGE_STAGING = true → s.boot.stageAt + 600 * secTicks ≤ max s.now t →
        ∃ s', exec (.stagingTimeout t) s = .next s' ∧ s'.flag F.BOOT_STAGE_STAGING = false ∧ s'.rd F.BOOT_STAGE_OFFSET = 0 ∧
          s'.boot.chunks.all (fun c => !c.live) = true ∧ s'.mbx = s.mbx ∧ s'.map = s.map ∧ s'.out = s.out))

/-- R347, R358, R360: FW_ACTIVATE of a STAGED image whose settings it can read, where nothing turns it away, opens its session and
starts the copy; the trial time 0 stands for 600 s. R360 to R363: the course of an activation: the copy ends and the old
firmware drains; at the frame mark W the cores change over to the other image; the new firmware starts and the trial opens, or
the trial's end is complete; or the drain takes too long; or control returns, with its reason; a trial that expires starts its
own handover back. In corners that the manual leaves open the model takes the reading of log entry 50. Its conclusions that exec
answers a next state, on conditions of the state and the operands alone, are about: fwActivate, fwImageCopied, fwHandoverMark,
fwDrainLimit, newFirmwareStarted, fwRevert, trialExpiry. -/
def Obligations.ActivationOfImages : Prop :=
  (∀ (x : Exe) (i : Nat) (k : Taken) (s : State), Starts s .fwActivate x i k →
      onlyBits (word k.d 2) 1 = true → onlyBits (word k.d 3) 0xFFF = true →
      (word k.d 3 = 0 ∨ (60 ≤ word k.d 3 ∧ word k.d 3 ≤ 3600)) → s.bootRec.img (bits (word k.d 2) 0 1) = 2 →
      (s.recovery = true ∨ bits (word k.d 2) 0 1 ≠ s.runImg) → s.otherSource x.src = false → s.flag F.BOOT_STATUS_TRIAL = false →
      s.intrusive = false → s.boot.act.phase = .none →
      (s.setRecords.head?.all fun r => decide (s.setRdMin (bits (word k.d 2) 0 1) ≤ recFmt r.2) &&
        decide (recFmt r.2 ≤ s.setRdMax (bits (word k.d 2) 0 1))) = true →
      ∃ u : State, exec (.fwActivate x) s = .next (u.accept i k [] x.rplOk) ∧
        u.boot.act = { phase := .copy, since := max s.now x.t, slot := bits (word k.d 2) 0 1,
                       trial := if word k.d 3 = 0 then 600 else word k.d 3, w := 0, back := false, abort := false } ∧
        u.flag F.BOOT_STAGE_ACTIVATION = true ∧ u.rd F.BOOT_STAGE_SOURCE = x.src.num ∧
        RegsKept s u [0x40210020] ∧ u = { s with now := max s.now x.t, regs := u.regs, boot := u.boot }) ∧
  (∀ (t : Nat) (rplOk : Bool) (st : Status) (ws : List W32) (s : State),
      (s.boot.act.phase = .copy → s.flag F.MBX_STATUS_FW_RUN = true → s.recovery = false → s.authReason s.boot.act.slot = none →
        ∃ s', exec (.fwImageCopied t rplOk) s = .next s' ∧ s'.boot.act = { s.boot.act with phase := .drain, since := max s.now t } ∧
          s'.flag F.MBX_STATUS_TMO_HOLD = true ∧
          (s.rd F.BOOT_STATUS_CODE_SLOT = 0 → s'.boot.code1 = some s.boot.act.slot) ∧
          (s.rd F.BOOT_STATUS_CODE_SLOT = 1 → s'.boot.code0 = some s.boot.act.slot) ∧ RegsKept s s' [0x40010004]) ∧
      (s.boot.act.phase = .copy → s.flag F.MBX_STATUS_FW_RUN = true → s.recovery = false → ∀ r, s.authReason s.boot.act.slot = some r →
        exec (.fwImageCopied t rplOk) s = .next ((s.tick t).closeAct.complete .fwActivate .authFail [w32 r] rplOk)) ∧
      (s.boot.act.phase = .copy → s.flag F.MBX_STATUS_FW_RUN = true → s.recovery = true →
        exec (.fwImageCopied t rplOk) s = .next ((((s.tick t).writeRec fun r =>
          { r.setImg s.boot.act.slot 4 with pref := s.boot.act.slot, fail := List.replicate 11 0 }).closeAct.complete .fwActivate .ok [] rplOk).deviceReset)) ∧
      (s.boot.act.phase = .drain → s.drained = true → s.core.markT = max s.now t →
        ∃ s', exec (.fwHandoverMark t) s = .next s' ∧ s'.rd F.BOOT_STATUS_PHASE = 3 ∧ s'.flag F.MBX_STATUS_FW_RUN = false ∧
          s'.rd F.BOOT_STATUS_RUN_IMG = (1 - s.rd F.BOOT_STATUS_RUN_IMG) % 2 ∧
          s'.rd F.BOOT_STATUS_CODE_SLOT = (1 - s.rd F.BOOT_STATUS_CODE_SLOT) % 2 ∧
          s'.boot.act = { s.boot.act with phase := .window, since := max s.now t, w := s.fn } ∧
          (∀ n m, n < 32 → s.holder n = some m → 1 ≤ m → m ≤ 4 → s'.holder n = none)) ∧
      (s.boot.act.phase = .drain → s.boot.act.since + secTicks ≤ max s.now t →
        (s.boot.act.back = false →
          exec (.fwDrainLimit t rplOk) s = .next ((s.tick t).releaseNotices.closeAct.complete .fwActivate .busy [] rplOk)) ∧
        (s.boot.act.back = true → s.boot.act.abort = true →
          exec (.fwDrainLimit t rplOk) s = .next ((s.tick t).releaseNotices.endAct.complete .fwAbort .busy [] rplOk)) ∧
        (s.boot.act.back = true → s.boot.act.abort = false → exec (.fwDrainLimit t rplOk) s = .next (s.tick t).releaseNotices.endAct)) ∧
      (s.boot.act.phase = .window → max s.now t ≤ s.boot.act.since + 20 * msTicks → s.boot.act.back = false → s.unread s.boot.act.slot = none →
        ∃ u : State, exec (.newFirmwareStarted t rplOk) s = .next (u.complete .fwActivate .ok
            [w32 (u.imgVersion s.boot.act.slot), w32 s.boot.act.w.toNat, w32 (u.now - s.boot.act.since)] rplOk) ∧
          u.flag F.BOOT_STATUS_TRIAL = true ∧ u.rd F.BOOT_STATUS_PHASE = 2 ∧ u.flag F.MBX_STATUS_FW_RUN = true ∧
          u.flag F.BOOT_INT_HANDOVER = true ∧ u.boot.trialEnd = max s.now t + secTicks * s.boot.act.trial ∧ u.boot.act = Activation.reset) ∧
      (s.boot.act.phase = .window → max s.now t ≤ s.boot.act.since + 20 * msTicks → s.boot.act.back = false →
        ∀ x, s.unread s.boot.act.slot = some x →
          exec (.newFirmwareStarted t rplOk) s = .next ((s.tick t).revert .settingsUnreadable [w32 x.1, w32 x.2] rplOk)) ∧
      (s.boot.act.phase = .window → max s.now t ≤ s.boot.act.since + 20 * msTicks → s.boot.act.back = true → ∃ u : State,
        exec (.newFirmwareStarted t rplOk) s = .next (if s.boot.act.abort then u.complete .fwAbort .ok [2] rplOk else u) ∧
          u.flag F.BOOT_STATUS_TRIAL = false ∧ u.flag F.BOOT_INT_REVERTED = true ∧ u.rd F.BOOT_STATUS_PHASE = 2 ∧
          u.flag F.MBX_STATUS_FW_RUN = true ∧ u.boot.act = Activation.reset) ∧
      (s.boot.act.phase = .window → s.boot.act.since + 20 * msTicks ≤ max s.now t →
        exec (.fwRevert t .limit rplOk) s = .next ((s.tick t).revert .fwReverted [1] rplOk)) ∧
      (s.boot.act.phase = .window → ∀ c ∈ [(RevertCause.watchdog, 2), (.fatal, 3), (.selfCheck, 4)],
        exec (.fwRevert t c.1 rplOk) s = .next ((s.tick t).revert .fwReverted [w32 c.2] rplOk)) ∧
      (s.boot.act.phase = .window → ∀ x, s.unread s.boot.act.slot = some x →
        exec (.fwRevert t .settings rplOk) s = .next ((s.tick t).revert .settingsUnreadable [w32 x.1, w32 x.2] rplOk)) ∧
      (s.boot.act.back = false → ∃ u : State, s.revert st ws rplOk = u.complete .fwActivate st ws rplOk ∧
        u.rd F.BOOT_STATUS_RUN_IMG = (1 - s.rd F.BOOT_STATUS_RUN_IMG) % 2 ∧ u.rd F.BOOT_STATUS_PHASE = 2 ∧
        u.flag F.MBX_STATUS_FW_RUN = true ∧ u.flag F.BOOT_INT_REVERTED = true ∧ u.flag F.BOOT_STAGE_ACTIVATION = false ∧
        u.boot.act = Activation.reset) ∧
      (s.flag F.BOOT_STATUS_TRIAL = true → s.boot.trialEnd ≤ max s.now t → s.boot.act.phase = .none → s.flag F.MBX_STATUS_FW_RUN = true →
        ∃ s', exec (.trialExpiry t) s = .next s' ∧ s'.flag F.BOOT_INT_TRIAL_EXPIRED = true ∧ s'.flag F.BOOT_STAGE_ACTIVATION = false ∧ s'.boot.act.phase = .drain ∧
          s'.boot.act.back = true ∧ s'.boot.act.abort = false ∧ s'.flag F.MBX_STATUS_TMO_HOLD = true))

/-- R366, R367: SETTINGS_SAVE and SETTINGS_RESTORE (of a buffer's record, or of the defaults) where nothing turns them away start a
record on its way into the MRAM. R83, R257, R342, R366, R367: a snapshot reaches the MRAM and its command completes with its
runs; a settings record reaches the MRAM and its command completes, after the copy to the host's buffer where one is named; a
copy that fails ends it TIMEOUT with nothing stored, and a record that is too long ends it NO_RESOURCE. In corners that the
manual leaves open the model takes the reading of log entry 49. Its conclusions that exec answers a next state, on conditions of
the state and the operands alone, are about: settingsSave, settingsRestore, mapSnapshotDone, settingsWritten. -/
def Obligations.SettingsRecords : Prop :=
  (∀ (x : Exe) (i : Nat) (k : Taken) (v : State) (raw bs : List W8) (s : State), s.otherSource x.src = false → s.boot.record = none →
      (Starts s .settingsSave x i k → (word64 k.d 2 = 0 ∨ s.addrOk x.src (word64 k.d 2) 131072 = true) →
        ∃ u : State, exec (.settingsSave x) s = .next (u.accept i k [] x.rplOk) ∧
          u.boot.record = some { bytes := (s.tick x.t).capture (s.setWr s.runImg), slot := s.newSlot, buf := word64 k.d 2, save := true } ∧
          u.flag F.BOOT_STAGE_SETTINGS = true ∧ u.rd F.BOOT_STAGE_SOURCE = x.src.num ∧ RegsKept s u [0x40210020] ∧
          u = { s with now := max s.now x.t, regs := u.regs, boot := u.boot }) ∧
      (Starts s .settingsRestore x i k → onlyBits (word k.d 2) 1 = true → onlyBits (word k.d 5) 0x1FFFF = true →
        s.flag F.BOOT_STATUS_TRIAL = false → recValid bs = true →
        (bitOf (word k.d 2) 0 = false → 64 ≤ word k.d 5 → word k.d 5 ≤ 131072 → s.addrOk x.src (word64 k.d 3) (word k.d 5) = true →
          (s.tick x.t).readBuf (word64 k.d 3) (word k.d 5) x = .ok (v, raw) → bs = raw.take (recWord raw 0xC) → s.reads s.runImg bs = true →
          ∃ u : State, exec (.settingsRestore x) s = .next (u.accept i k [] x.rplOk) ∧
            u.boot.record = some { bytes := renumber s.newGen bs, slot := s.newSlot, buf := 0, save := false } ∧
            u.flag F.BOOT_STAGE_SETTINGS = true ∧ u.rd F.BOOT_STAGE_SOURCE = x.src.num ∧ RegsKept v u [0x40210020]) ∧
        (bitOf (word k.d 2) 0 = true → bs = buildRecord (s.setWr s.runImg) s.newGen (s.imgVersion s.runImg) [] →
          ∃ u : State, exec (.settingsRestore x) s = .next (u.accept i k [] x.rplOk) ∧
            u.boot.record = some { bytes := renumber s.newGen bs, slot := s.newSlot, buf := 0, save := false } ∧
            u.flag F.BOOT_STAGE_SETTINGS = true ∧ u.rd F.BOOT_STAGE_SOURCE = x.src.num ∧ RegsKept s u [0x40210020]))) ∧
  (∀ (t : Nat) (outOk rplOk : Bool) (r : PendRec) (s : State),
      (s.map.snap = true → ∃ u : State, exec (.mapSnapshotDone t rplOk) s = .next (u.complete .mapSnapshot .ok
          [w32 s.activeRuns.length, w32 (s.rd F.MAP_FN_LAST_SWAP_FN)] rplOk) ∧
        u.map = { s.map with snap := false } ∧ u.rd F.MAP_STATUS_STATE = 0 ∧ u.boot.snapK = (s.boot.snapK + 1) % 15) ∧
      (s.flag F.MBX_STATUS_FW_RUN = true → s.boot.record = some r →
        (131072 < r.bytes.length → ∃ u : State, exec (.settingsWritten t outOk rplOk) s =
            .next (u.complete (if r.save then .settingsSave else .settingsRestore) .noResource [] rplOk) ∧
          u.boot = { s.boot with record := none } ∧ u.flag F.BOOT_STAGE_SETTINGS = false) ∧
        (r.bytes.length ≤ 131072 → r.save = false →
          ∃ u : State, exec (.settingsWritten t outOk rplOk) s = .next (u.complete .settingsRestore .ok [w32 (recGen r.bytes)] rplOk) ∧
            u.boot.record = none ∧ u.flag F.BOOT_STAGE_SETTINGS = false ∧ u.flag F.BOOT_INT_SETTINGS_WRITTEN = true ∧ u.out = s.out) ∧
        (r.bytes.length ≤ 131072 → r.save = true → (r.buf = 0 ∨ (secondForm r.buf = false ∧ outOk = true)) →
          ∃ u : State, exec (.settingsWritten t outOk rplOk) s = .next (u.complete .settingsSave .ok
              [w32 (recGen r.bytes), w32 r.bytes.length, w32 (recFmt r.bytes + r.slot * 0x10000)] rplOk) ∧
            u.boot.record = none ∧ u.flag F.BOOT_STAGE_SETTINGS = false ∧ u.flag F.BOOT_INT_SETTINGS_WRITTEN = true ∧
            u.out = (if r.buf = 0 then s.out else s.out ++ [.pcie r.buf r.bytes])) ∧
        (r.bytes.length ≤ 131072 → r.save = true → r.buf ≠ 0 → secondForm r.buf = false → outOk = false →
          ∃ u : State, exec (.settingsWritten t outOk rplOk) s = .next (u.complete .settingsSave .timeout [] rplOk) ∧
            u.boot = { s.boot with record := none } ∧ u.flag F.BOOT_STAGE_SETTINGS = false ∧ u.out = s.out)))

/-- R273: the SPI path: STATUS returns the flags and clears OVERRUN, CMD_WRITE fills the one descriptor slot or, while it is full,
sets OVERRUN, and RPL_READ pops the oldest reply or returns 32 zero bytes. In corners that the manual leaves open the model
takes the reading of log entries 1 and 85. Its conclusions that exec answers a next state, on conditions of the state and the
operands alone, are about: spiStatus, cmdWrite, rplRead. -/
def Obligations.SpiPath : Prop :=
  ∀ (t : Nat) (d : List W32) (s : State),
    exec (.spiStatus t) s = .next { (s.tick t).answer
        [BitVec.ofNat 8 (b2n s.mbx.spiSlot.isSome + 2 * b2n (!s.mbx.spiFifo.isEmpty) + 4 * b2n s.mbx.spiOver)] with
      mbx := { s.mbx with spiOver := false } } ∧
    (s.mbx.spiSlot = none → exec (.cmdWrite t d) s = .next { s.tick t with mbx := { s.mbx with spiSlot := some d } }) ∧
    (s.mbx.spiSlot ≠ none → exec (.cmdWrite t d) s = .next { s.tick t with mbx := { s.mbx with spiOver := true } }) ∧
    (s.mbx.spiFifo = [] → exec (.rplRead t) s = .next ((s.tick t).answer (List.replicate 32 0))) ∧
    (∀ w rest, s.mbx.spiFifo = w :: rest →
      exec (.rplRead t) s = .next { (s.tick t).answer (wordsBytes w) with mbx := { s.mbx with spiFifo := rest } })

/-- R265, R268, R295: a notice word is staged until its TAG word applies all four; a post sets the doorbell bit and starts its time;
the host takes a device notice by writing 1 to its bit. R265, R267, R268, R332: a host write of H2D_DB sets the doorbell bits
written as 1 and starts the time of those that were not posted; a host write of D2H_DB clears the bits written as 1 and leaves
the others, and the notice it takes from a ring's channel has told the host of the replies up to its TAG, that of channel 3 of
the dumps up to its TAG. In corners that the manual leaves open the model takes the reading of log entry 20. Its conclusions
that exec answers a next state, on conditions of the state and the operands alone, are about: h2dNoticeWrite, h2dNoticePost,
d2hNoticeTake. -/
def Obligations.NoticesAndDoorbells : Prop :=
  (∀ (t : Nat) (m : Master) (ch : Fin 32) (w : Fin 4) (v : W32) (s : State), s.barred m.val = false →
      ((ch.val < 2 ∨ s.bitAt F.H2D_DB_DB ch.val = false) → w.val < 3 →
        ∃ s', exec (.h2dNoticeWrite t m ch w v) s = .next s' ∧ s'.stagedAt m.val (0x40010100 + 16 * ch.val + 4 * w.val) = some v ∧
          s' = { s with now := max s.now t, mbx := { s.mbx with staged := s'.mbx.staged } }) ∧
      ((ch.val < 2 ∨ s.bitAt F.H2D_DB_DB ch.val = false) → w.val = 3 →
        ∃ s', exec (.h2dNoticeWrite t m ch w v) s = .next s' ∧ s'.rd (F.H2D_NOTICE_TAG_TAG ch.val) = v.toNat ∧
          (∀ a, s.stagedAt m.val (0x40010100 + 16 * ch.val) = some a → s'.rd (F.H2D_NOTICE_ADDR_LO_ADDR_LO ch.val) = a.toNat) ∧
          (∀ a, s.stagedAt m.val (0x40010100 + 16 * ch.val + 4) = some a → s'.rd (F.H2D_NOTICE_ADDR_HI_ADDR_HI ch.val) = a.toNat) ∧
          (∀ a, s.stagedAt m.val (0x40010100 + 16 * ch.val + 8) = some a → s'.rd (F.H2D_NOTICE_LEN_LEN ch.val) = a.toNat) ∧
          (∀ j, j < 4 → s'.stagedAt m.val (0x40010100 + 16 * ch.val + 4 * j) = none) ∧
          RegsKept s s' ((List.range 4).map fun j => 0x40010100 + 16 * ch.val + 4 * j)) ∧
      (2 ≤ ch.val → s.bitAt F.H2D_DB_DB ch.val = true →
        exec (.h2dNoticeWrite t m ch w v) s = .next ((s.tick t).raise F.MBX_ERR_SLOT_BUSY))) ∧
  (∀ (t : Nat) (m : Master) (v : W32) (s : State), s.barred m.val = false →
      (∃ s', exec (.h2dNoticePost t m v) s = .next s' ∧
        (∀ ch, ch < 32 → s'.bitAt F.H2D_DB_DB ch = (s.bitAt F.H2D_DB_DB ch || bitOf v.toNat ch)) ∧
        (∀ ch, ch < 32 → Store.get (fun _ => none) s'.mbx.hPost ch =
          if s.bitAt F.H2D_DB_DB ch = false ∧ bitOf v.toNat ch = true then some (max s.now t) else Store.get (fun _ => none) s.mbx.hPost ch) ∧
        RegsKept s s' [0x40010010] ∧ s' = { s with now := max s.now t, regs := s'.regs, mbx := { s.mbx with hPost := s'.mbx.hPost } }) ∧
      (∃ s', exec (.d2hNoticeTake t m v) s = .next s' ∧
        (∀ ch, ch < 32 → s'.bitAt F.D2H_DB_DB ch = (s.bitAt F.D2H_DB_DB ch && !bitOf v.toNat ch)) ∧
        (∀ ch, ch < 32 → s.bitAt F.D2H_DB_DB ch = true → bitOf v.toNat ch = true → Store.get (fun _ => none) s'.mbx.dPost ch = none) ∧
        (∀ r, r < 2 → s.bitAt F.D2H_DB_DB r = true → bitOf v.toNat r = true →
          (s'.ring r).ntf = BitVec.ofNat 16 (s.rd (F.D2H_NOTICE_TAG_TAG r))) ∧
        (s.bitAt F.D2H_DB_DB 3 = true → bitOf v.toNat 3 = true → s'.tally.ntf = BitVec.ofNat 16 (s.rd (F.D2H_NOTICE_TAG_TAG 3))) ∧
        RegsKept s s' [0x40010018]))

/-- R261, R263, R264, R274: enabling a ring takes the sizes that are in range, zeroes its indexes and leaves no stale range; a write
with EN = 1 while it is enabled changes no register; clearing EN stops the ring, marks the replies of its taken commands to be
discarded and clears the pending notices of its channels with their timeout flags; a write of RPL_CI sets it. Its conclusions
that exec answers a next state, on conditions of the state and the operands alone, are about: ringEnable, ringDisable,
rplCiWrite. -/
def Obligations.RingControl : Prop :=
  ∀ (t : Nat) (m : Master) (r : Fin 2) (v : W32) (s : State), s.barred m.val = false →
    (s.flag (F.MBX_RING_CTRL_EN r.val) = false →
      ∃ s', exec (.ringEnable t m r v) s = .next s' ∧ s'.flag (F.MBX_RING_CTRL_EN r.val) = true ∧
        s'.rd (F.MBX_RING_CTRL_CK r.val) = (if 4 ≤ bits v.toNat 4 4 ∧ bits v.toNat 4 4 ≤ 12 then bits v.toNat 4 4 else s.rd (F.MBX_RING_CTRL_CK r.val)) ∧
        s'.rd (F.MBX_RING_CTRL_RK r.val) = (if 5 ≤ bits v.toNat 8 4 ∧ bits v.toNat 8 4 ≤ 13 then bits v.toNat 8 4 else s.rd (F.MBX_RING_CTRL_RK r.val)) ∧
        s'.rd (F.CMD_IDX_CMD_CI r.val) = 0 ∧ s'.rd (F.RPL_PI_PI r.val) = 0 ∧ s'.rd (F.RPL_CI_CI r.val) = 0 ∧
        s'.bitAt F.MBX_STALE_STALE r.val = false ∧
        s'.ring r.val = Ring.reset ∧ s'.ring (1 - r.val) = s.ring (1 - r.val) ∧ s'.mbx.taken = s.mbx.taken ∧ s'.out = s.out) ∧
    (s.flag (F.MBX_RING_CTRL_EN r.val) = true →
      ∃ s', exec (.ringEnable t m r v) s = .next s' ∧ s'.regs = s.regs ∧ s'.mbx = s.mbx ∧ s'.out = s.out) ∧
    (s.flag (F.MBX_RING_CTRL_EN r.val) = true →
      ∃ s', exec (.ringDisable t m r v) s = .next s' ∧ s'.flag (F.MBX_RING_CTRL_EN r.val) = false ∧
        s'.mbx.taken = s.mbx.taken.map (fun k => if k.src.num = r.val then { k with drop := true } else k) ∧
        s'.bitAt F.H2D_DB_DB r.val = false ∧ s'.bitAt F.D2H_DB_DB r.val = false ∧ s'.bitAt F.H2D_TMO_TMO r.val = false ∧
        s'.bitAt F.D2H_TMO_TMO r.val = false ∧ s'.rd F.MBX_EPOCH_EPOCH = s.rd F.MBX_EPOCH_EPOCH ∧
        (s'.ring r.val).prod = BitVec.ofNat 16 (s.rd (F.CMD_IDX_CMD_CI r.val)) ∧ s'.out = s.out) ∧
    (∃ s', exec (.rplCiWrite t m r v) s = .next s' ∧ s'.rd (F.RPL_CI_CI r.val) = bits v.toNat 0 16 ∧
      RegsKept s s' [(F.RPL_CI_CI r.val).addr, 0x40010004] ∧ s' = { s with now := max s.now t, regs := s'.regs })

/-- R262, R265, R266, R268: the firmware takes a host notice of an enabled ring, and one that matches CMD_CI makes its descriptors
ready while any other sets RING_MISMATCH; it takes a notice of the debug channel while the fuse is not blown, and leaves one of
a disabled ring or of a reserved channel; a notice that is not taken in time sets its sender's flag and stays posted. R258,
R262, R263, R272, R281: while the firmware runs, the descriptor at CMD_CI of the ring whose turn it is, read from host memory,
is taken if its replies have room: a known opcode then waits in the order taken and an unknown one is answered BAD_OPCODE.
Without that room the ring takes nothing and sets RPLn_FULL; a read that fails leaves CMD_CI, sets FETCH_ERR and stops the ring.
The SPI slot's descriptor is taken in the same way. In corners that the manual leaves open the model takes the reading of log
entries 9 and 20. Its conclusions that exec answers a next state, on conditions of the state and the operands alone, are about:
h2dNoticeTake, noticeTimeout, descriptorTake. -/
def Obligations.NoticesAndDescriptorsTaken : Prop :=
  (∀ (t : Nat) (ch : Fin 32) (p : Nat) (s : State),
      (s.bitAt F.H2D_DB_DB ch.val = true → s.flag F.MBX_STATUS_FW_RUN = true → s.bitAt F.H2D_MASK_MASK ch.val = false →
        (ch.val < 2 → s.flag (F.MBX_RING_CTRL_EN ch.val) = true → s.noticeMatches ch.val = true →
          ∃ s', exec (.h2dNoticeTake t ch) s = .next s' ∧ s'.bitAt F.H2D_DB_DB ch.val = false ∧
            (s'.ring ch.val).prod = BitVec.ofNat 16 (s.rd (F.H2D_NOTICE_TAG_TAG ch.val)) ∧ (s'.ring ch.val).stop = false ∧
            Store.get (fun _ => none) s'.mbx.hPost ch.val = none ∧ s'.mbx.taken = s.mbx.taken ∧
            RegsKept s s' [0x40010010] ∧ s' = { s with now := max s.now t, regs := s'.regs, mbx := s'.mbx }) ∧
        (ch.val < 2 → s.flag (F.MBX_RING_CTRL_EN ch.val) = true → s.noticeMatches ch.val = false →
          ∃ s', exec (.h2dNoticeTake t ch) s = .next s' ∧ s'.bitAt F.H2D_DB_DB ch.val = false ∧
            s'.flag { addr := 0x4001002C, lo := ch.val, w := 1 } = true ∧ (s'.ring ch.val).prod = (s.ring ch.val).prod ∧
            s'.mbx.taken = s.mbx.taken ∧ RegsKept s s' [0x40010010, 0x4001002C]) ∧
        (ch.val = 31 → s.flag F.FUSE_CFG_DEBUG_DISABLE = false →
          ∃ s', exec (.h2dNoticeTake t ch) s = .next s' ∧ s'.bitAt F.H2D_DB_DB 31 = false ∧
            Store.get (fun _ => none) s'.mbx.hPost 31 = none ∧ RegsKept s s' [0x40010010]) ∧
        ((ch.val < 2 ∧ s.flag (F.MBX_RING_CTRL_EN ch.val) = false) ∨ (2 ≤ ch.val ∧ ch.val ≤ 30) →
          exec (.h2dNoticeTake t ch) s = .next (s.tick t))) ∧
      (s.flag F.MBX_STATUS_TMO_HOLD = false → Store.get (fun _ => none) s.mbx.hPost ch.val = some p →
        p + s.rd F.MBX_TMO_CFG_MS * 100000 ≤ max s.now t →
        ∃ s', exec (.noticeTimeout t true ch) s = .next s' ∧ s'.bitAt F.H2D_TMO_TMO ch.val = true ∧
          s'.bitAt F.H2D_DB_DB ch.val = s.bitAt F.H2D_DB_DB ch.val ∧
          (s.bitAt F.H2D_TMO_TMO ch.val = false → s'.flag F.MBX_ERR_TMO_NEW = true) ∧ RegsKept s s' [0x40010020, 0x4001002C] ∧
          s' = { s with now := max s.now t, regs := s'.regs, mbx := { s.mbx with hPost := s'.mbx.hPost } }) ∧
      (Store.get (fun _ => none) s.mbx.dPost ch.val = some p → p + s.rd F.MBX_TMO_CFG_MS * 100000 ≤ max s.now t →
        ∃ s', exec (.noticeTimeout t false ch) s = .next s' ∧ s'.bitAt F.D2H_TMO_TMO ch.val = true ∧
          s'.bitAt F.D2H_DB_DB ch.val = s.bitAt F.D2H_DB_DB ch.val ∧ RegsKept s s' [0x40010024] ∧
          s' = { s with now := max s.now t, regs := s'.regs, mbx := { s.mbx with dPost := s'.mbx.dPost } })) ∧
  (∀ (t : Nat) (r : Fin 2) (d : List W32) (row : OpcRow) (rplOk : Bool) (s : State),
      s.flag F.MBX_STATUS_FW_RUN = true → s.flag F.MBX_STATUS_TMO_HOLD = false → s.oldLeft = false → s.recovery = false → d.length = 16 →
      let src : Src := if r.val = 0 then .ring0 else .ring1
      (s.nextSrc = some src → s.cmdBase r.val < 0x8000000000000000 - 64 * s.cmdSize r.val → s.staleHere r.val = false →
        (s.hasRoom src (needOf d) = true → findOpc (opcode d) = some row →
          ∃ s', exec (.descriptorTake t src (some d) rplOk) s = .next s' ∧
            s'.mbx.taken = s.mbx.taken ++ [{ src := src, d := d, epoch := s.reg 0x40010008, phase := .waiting, drop := false,
                                             done := none, lost := false, old := false }] ∧
            s'.rd (F.CMD_IDX_CMD_CI r.val) = (s.rd (F.CMD_IDX_CMD_CI r.val) + 1) % 65536 ∧ s'.mbx.turn = r.val + 1 ∧ s'.out = s.out) ∧
        (s.hasRoom src (needOf d) = true → findOpc (opcode d) = none → rplOk = true →
          s.rplBase r.val < 0x8000000000000000 - 32 * s.rplSize r.val →
          ∃ s' w rest, exec (.descriptorTake t src (some d) rplOk) s = .next s' ∧ s'.mbx.taken = s.mbx.taken ∧
            s'.rd (F.CMD_IDX_CMD_CI r.val) = (s.rd (F.CMD_IDX_CMD_CI r.val) + 1) % 65536 ∧ s'.mbx.turn = r.val + 1 ∧
            s'.out = s.out ++ .pcie (BitVec.ofNat 64 (s.rplBase r.val + 32 * (s.rd (F.RPL_PI_PI r.val) % s.rplSize r.val))) (wordsBytes w) :: rest ∧
            w.getD 0 0 = d.getD 0 0 ∧ bits (w.getD 1 0).toNat 0 9 = 0x110) ∧
        (s.hasRoom src (needOf d) = false →
          ∃ s', exec (.descriptorTake t src (some d) rplOk) s = .next s' ∧ s'.mbx.taken = s.mbx.taken ∧ s'.flag (rplFull r.val) = true ∧
            RegsKept s s' [0x40010004] ∧ s'.out = s.out) ∧
        ∃ s', exec (.descriptorTake t src none rplOk) s = .next s' ∧ s'.mbx.taken = s.mbx.taken ∧
          s'.flag { addr := 0x4001002C, lo := 3 + r.val, w := 1 } = true ∧ (s'.ring r.val).stop = true ∧
          RegsKept s s' [0x4001002C] ∧ s'.out = s.out) ∧
      (s.nextSrc = some .spi → s.mbx.spiSlot = some d →
        (findOpc (opcode d) = some row →
          ∃ s', exec (.descriptorTake t .spi none rplOk) s = .next s' ∧ s'.mbx.spiSlot = none ∧ s'.mbx.turn = 0 ∧
            s'.mbx.taken = s.mbx.taken ++ [{ src := .spi, d := d, epoch := s.reg 0x40010008, phase := .waiting, drop := false,
                                             done := none, lost := false, old := false }] ∧ s'.out = s.out) ∧
        (findOpc (opcode d) = none →
          ∃ s', exec (.descriptorTake t .spi none rplOk) s = .next s' ∧ s'.mbx.spiSlot = none ∧ s'.mbx.taken = s.mbx.taken ∧
            ∃ w, s'.mbx.spiFifo = s.mbx.spiFifo ++ [w] ∧ w.getD 0 0 = d.getD 0 0 ∧ bits (w.getD 1 0).toNat 0 9 = 0x110)))

/-- R259, R260, R263, R267, R269: a final reply on an enabled ring in host memory that has room is written at RPL_PI as eight words,
RPL_PI advances, the command leaves the taken list and a notice of the unnotified replies stands on the ring's channel; a reply
whose write fails is lost: RPL_PI stays, MBX_RPL_DISCARD counts it and RPL_ERR is set. In corners that the manual leaves open
the model takes the reading of log entries 20 and 82. -/
def Obligations.RepliesToRings : Prop :=
  ∀ (i : Nat) (k : Taken) (st : Status) (ws : List W32) (s : State), k.src ≠ .spi → k.drop = false →
    k.epoch.toNat = s.rd F.MBX_EPOCH_EPOCH → s.rplBase k.src.num < 0x8000000000000000 - 32 * s.rplSize k.src.num →
    s.rplFits k.src.num = true →
    let pi := s.rd (F.RPL_PI_PI k.src.num)
    let s' := s.finish i k st ws true
    let s'' := s.finish i k st ws false
    (∃ rest, s'.out = s.out ++ .pcie (BitVec.ofNat 64 (s.rplBase k.src.num + 32 * (pi % s.rplSize k.src.num)))
        (wordsBytes [k.d.getD 0 0, BitVec.ofNat 32 (st.code + 0x100 + 0x8000 * ((pi / s.rplSize k.src.num + 1) % 2) + 0x10000 * k.src.num),
          k.epoch, BitVec.ofNat 32 s.fn.toNat, ws.getD 0 0, ws.getD 1 0, ws.getD 2 0, ws.getD 3 0]) :: rest ∧
      (rest = [] ∨ rest = [.msix (k.src.num % s.mbx.cfg.vecs)])) ∧
    s'.rd (F.RPL_PI_PI k.src.num) = (pi + 1) % 65536 ∧ s'.mbx.taken = s.mbx.taken.eraseIdx i ∧
    s'.bitAt F.D2H_DB_DB k.src.num = true ∧ s'.rd (F.D2H_NOTICE_TAG_TAG k.src.num) = (pi + 1) % 65536 ∧
    s'.rd (F.D2H_NOTICE_LEN_LEN k.src.num) = 32 * (BitVec.ofNat 16 (pi + 1) - (s.ring k.src.num).ntf : W16).toNat ∧
    s''.out = s.out ∧ s''.rd (F.RPL_PI_PI k.src.num) = pi ∧ s''.mbx.taken = s.mbx.taken.eraseIdx i ∧
    s''.rd F.MBX_RPL_DISCARD_COUNT = min 0xFFFFFFFF (s.rd F.MBX_RPL_DISCARD_COUNT + 1) ∧
    s''.flag { addr := 0x4001002C, lo := 5 + k.src.num, w := 1 } = true

/-- R60 to R63, R113, R353: once boot step 5 lets the host in, whole 64-bit words in the map window of an acting device whose shadow
page is not locked by a commit reach that page, with the check bits computed under ECC_GEN, and make their entries dirty; every
other write of the window, and every one of the selector window, is dropped and counted, by a device that does not act in
PAIR_WR_DROP as well. R64, R76, R82: on an acting device whose shadow page is not locked, MAP_WRITE_RANGE with a template writes
COUNT sealed entries from START, SRC rising by one in MODE 10, and in MODE 00 it writes the entries of the input buffer it has
read, sealed under ECC_GEN; all other entries stay. MAP_READBACK writes the entries of the page it names to the output buffer,
as written or raw, and answers OK. Its conclusions that exec answers a next state, on conditions of the state and the operands
alone, are about: mapWindowWrite, selectorWindowWrite, mapWriteRange, mapReadback. -/
def Obligations.MapWindowRangeAndReadback : Prop :=
  (∀ (t n : Nat) (off : BitVec 28) (data : List W8) (soff : BitVec 24) (s : State), s.barred 0 = false →
      (1 ≤ n → data.length = 8 * n → off.toNat % 8 = 0 → off.toNat + 8 * n ≤ 8 * 31104000 → s.acting = true → s.map.commit = none →
        ∃ s', exec (.mapWindowWrite t off data) s = .next s' ∧
          (∀ j, j < n → entryAt s'.shadow (off.toNat / 8 + j) =
            (if s.flag F.MAP_CTRL_ECC_GEN then seal54 ((bytesW64 data).getD j 0).toNat else (bytesW64 data).getD j 0)) ∧
          (∀ a, a < off.toNat / 8 ∨ off.toNat / 8 + n ≤ a → entryAt s'.shadow a = entryAt s.shadow a) ∧
          (∀ j, j < n → Store.get (fun _ => false) s'.map.dirty (off.toNat / 8 + j) = true) ∧
          s'.active = s.active ∧ s'.flag F.MAP_STATUS_CHECK_VALID = false ∧ s'.map.commit = none ∧ RegsKept s s' [0x40070004, (F.MAP_DIRTY_COUNT).addr] ∧
          s' = { s with now := max s.now t, regs := s'.regs, map := s'.map }) ∧
      (s.acting = true → (data = [] ∨ off.toNat % 8 ≠ 0 ∨ data.length % 8 ≠ 0 ∨ 8 * 31104000 < off.toNat + data.length ∨ s.map.commit ≠ none) →
        ∃ s', exec (.mapWindowWrite t off data) s = .next s' ∧ s'.flag F.MAP_INT_WR_DROP = true ∧
          s'.rd F.MAP_WR_DROP_COUNT = min (2 ^ 32 - 1) (s.rd F.MAP_WR_DROP_COUNT + 1) ∧ s'.map = s.map) ∧
      (s.acting = false → ∃ s', exec (.mapWindowWrite t off data) s = .next s' ∧ s'.flag F.MAP_INT_WR_DROP = true ∧
          s'.rd F.MAP_WR_DROP_COUNT = min (2 ^ 32 - 1) (s.rd F.MAP_WR_DROP_COUNT + 1) ∧
          s'.rd F.PAIR_WR_DROP_COUNT = min (2 ^ 32 - 1) (s.rd F.PAIR_WR_DROP_COUNT + 1) ∧ s'.map = s.map) ∧
      (∃ s', exec (.selectorWindowWrite t soff data) s = .next s' ∧ s'.flag F.MAP_INT_WR_DROP = true ∧
        s'.rd F.MAP_WR_DROP_COUNT = min (2 ^ 32 - 1) (s.rd F.MAP_WR_DROP_COUNT + 1) ∧ s'.sel = s.sel ∧ s'.map = s.map ∧
        s' = { s with now := max s.now t, regs := s'.regs })) ∧
  (∀ (x : Exe) (i : Nat) (k : Taken) (bs : List W8) (s u : State),
      (Starts s .mapWriteRange x i k → mapWriteRangeOk k.d = true → s.writeRangeCase x.src k.d = true → s.map.commit = none →
        ((word k.d 4 = 1 ∨ word k.d 4 = 2) →
          ∃ v : State, exec (.mapWriteRange x) s = .next (v.finish i k .ok [BitVec.ofNat 32 (word k.d 3)] x.rplOk) ∧
            (∀ j, j < word k.d 3 → entryAt v.shadow (word k.d 2 + j) = seal54 (if word k.d 4 = 1 then (word64 k.d 5).toNat
              else (word64 k.d 5).toNat % 2 ^ 56 - (word64 k.d 5).toNat % 2 ^ 25 + ((word64 k.d 5).toNat % 2 ^ 25 + j))) ∧
            (∀ a, a < word k.d 2 ∨ word k.d 2 + word k.d 3 ≤ a → entryAt v.shadow a = entryAt s.shadow a) ∧
            v.active = s.active ∧ v.flag F.MAP_STATUS_CHECK_VALID = false) ∧
        (word k.d 4 = 0 → (s.tick x.t).readBuf (word64 k.d 5) (8 * word k.d 3) x = .ok (u, bs) →
          ∃ v : State, exec (.mapWriteRange x) s = .next (v.finish i k .ok [BitVec.ofNat 32 (word k.d 3)] x.rplOk) ∧
            (∀ j, j < word k.d 3 → entryAt v.shadow (word k.d 2 + j) =
              (if s.flag F.MAP_CTRL_ECC_GEN then seal54 ((bytesW64 bs).getD j 0).toNat else (bytesW64 bs).getD j 0)) ∧
            (∀ a, a < word k.d 2 ∨ word k.d 2 + word k.d 3 ≤ a → entryAt v.shadow a = entryAt s.shadow a) ∧
            v.active = s.active ∧ v.flag F.MAP_STATUS_CHECK_VALID = false)) ∧
      (Starts s .mapReadback x i k → mapReadbackOk x.src s k.d = true → (bitOf (word k.d 4) 0 = true → s.map.copy = none) →
        (s.tick x.t).writeBuf (word64 k.d 5) ((List.range (word k.d 3)).flatMap fun j =>
          leBytes (if bitOf (word k.d 4) 1 then entryAt (if bitOf (word k.d 4) 0 then s.shadow else s.active) (word k.d 2 + j)
            else asWritten (if bitOf (word k.d 4) 0 then s.shadow else s.active)
              (entryAt (if bitOf (word k.d 4) 0 then s.shadow else s.active) (word k.d 2 + j))).toNat 8) x = .ok u →
        exec (.mapReadback x) s = .next (u.finish i k .ok [BitVec.ofNat 32 (word k.d 3), BitVec.ofNat 32 u.fn.toNat, 0] x.rplOk)))

/-- R65 to R76, R399: MAP_CHECK starts the checker while no check, commit or snapshot is in progress; a check that passes puts the
checker's page in the shadow page's place, with a new CHECK_ID, and sets CHECK_VALID unless a host write came in between; one
that does not pass leaves the shadow page and answers the first failure. Neither touches the active page. In corners that the
manual leaves open the model takes the reading of log entries 22, 68 and 69. Its conclusions that exec answers a next state, on
conditions of the state and the operands alone, are about: mapCheck, mapCheckDone. -/
def Obligations.MapChecks : Prop :=
  ∀ (x : Exe) (i : Nat) (k : Taken) (t : Nat) (rplOk : Bool) (c : CheckRun) (page : List (Nat × W64)) (moved : List Nat)
    (load bank : Nat) (r : CheckRes) (s : State),
    (Starts s .mapCheck x i k → onlyBits (word k.d 2) 1 = true → s.mapBusy = false →
      ∃ u : State, exec (.mapCheck x) s = .next (u.accept i k [] x.rplOk) ∧ u.rd F.MAP_STATUS_STATE = 1 ∧
        u.map = { s.map with check := some { full := bitOf (word k.d 2) 0, stale := false, fan := s.rd F.MAP_HERD_CFG_HERD_FAN } } ∧
        RegsKept s u [0x40070004]) ∧
    (s.flag F.CORE_STATUS_BG_SUSPENDED = false → s.map.check = some c → s.map.commit = none → (s.tick t).runCheck c = r →
      (r = .ok page moved load bank →
        ∃ u : State, ∃ ws, exec (.mapCheckDone t [] rplOk) s = .next (u.complete .mapCheck .ok ws rplOk) ∧ u.map.check = none ∧
          u.map.checkId = s.map.checkId + 1 ∧ u.shadow = page ∧ u.active = s.active ∧ u.rd F.MAP_STATUS_STATE = 0 ∧
          u.flag F.MAP_STATUS_CHECK_VALID = (!c.stale) ∧ u.flag F.MAP_INT_CHECK_DONE = true ∧ u.map.peakLoad = load ∧
          ws = [BitVec.ofNat 32 u.map.checkId.toNat,
            BitVec.ofNat 32 ((if c.full then 31104000 else s.map.dirty.length) + b2n c.stale * 2 ^ 31),
            BitVec.ofNat 32 (herdUsed page).length, BitVec.ofNat 32 (load % 2 ^ 16 + bank * 2 ^ 16)]) ∧
      (r.refusal.1 ≠ .ok →
        ∃ u : State, exec (.mapCheckDone t [] rplOk) s = .next (u.complete .mapCheck r.refusal.1 r.refusal.2 rplOk) ∧
          u.map.check = none ∧ u.shadow = s.shadow ∧ u.active = s.active ∧ u.map.checkId = s.map.checkId ∧
          u.rd F.MAP_STATUS_STATE = 0 ∧ u.flag F.MAP_INT_CHECK_DONE = true))

/-- R75 to R80: the course of a commit. MAP_COMMIT is taken while nothing of the map is in progress and no handover is pending;
without NEXT its target must be 2 to 32,767 frames ahead; with NEXT on a checked page the device names the target, and on an
unchecked page ACCEPTED waits for the check. A checked commit is armed before T_{t−1}, else answered COMMIT_TOO_LATE; an armed
one swaps at T_t on a device that acted in the frame before, and is discarded with NOT_LAMP_HOLDER on one that did not;
copy-forward then ends it with OK. In corners that the manual leaves open the model takes the reading of log entries 23 and 70.
Its conclusions that exec answers a next state, on conditions of the state and the operands alone, are about: mapCommit,
mapCommitArm, commitDeadline, mapSwap, copyForwardDone. -/
def Obligations.MapCommits : Prop :=
  ∀ (x : Exe) (i : Nat) (k : Taken) (t : Nat) (rplOk : Bool) (c : CommitRun) (cp : CopyRun) (s : State),
    (Starts s .mapCommit x i k → onlyBits (word k.d 2) 0xFFFF = true → s.mapBusy = false → s.flag F.PAIR_STAT_HO_PEND = false →
      let target := if optOf k.d then (s.tick x.t).pickTarget else BitVec.ofNat 16 (word k.d 2)
      ((optOf k.d = false ∧ 2 ≤ fnDist target s.fn ∧ fnDist target s.fn < 32768) ∨
          (optOf k.d = true ∧ s.flag F.MAP_STATUS_CHECK_VALID = true) →
        ∃ u : State, exec (.mapCommit x) s = .next (u.accept i k [BitVec.ofNat 32 target.toNat] x.rplOk) ∧
          u.map.commit = some { target := target, named := true, unchecked := !s.flag F.MAP_STATUS_CHECK_VALID } ∧
          u.map.check.isSome = (!s.flag F.MAP_STATUS_CHECK_VALID) ∧
          u.rd F.MAP_STATUS_STATE = 2 ∧ u.rd F.MAP_FN_TARGET_FN = target.toNat ∧ u.map.page0 = s.map.page0 ∧ u.map.page1 = s.map.page1) ∧
      (optOf k.d = true → s.flag F.MAP_STATUS_CHECK_VALID = false →
        ∃ s', exec (.mapCommit x) s = .next s' ∧ s'.mbx.taken = s.mbx.taken.set i { k with phase := .working } ∧ s'.out = s.out ∧
          s'.map.commit = some { target := target, named := false, unchecked := true } ∧ s'.map.check.isSome = true ∧
          s'.rd F.MAP_STATUS_STATE = 2 ∧ s'.map.page0 = s.map.page0 ∧ s'.map.page1 = s.map.page1)) ∧
    (s.map.commit = some c → c.named = true → c.unchecked = false → s.rd F.MAP_STATUS_STATE = 2 → 2 ≤ fnDist c.target s.fn →
      fnDist c.target s.fn < 32768 → ∃ s', exec (.mapCommitArm t) s = .next s' ∧ s'.rd F.MAP_STATUS_STATE = 3 ∧ s'.map = s.map ∧
        s'.out = s.out) ∧
    (s.map.commit = some c → c.named = true → s.rd F.MAP_STATUS_STATE = 2 →
      (fnDist c.target s.fn < 2 ∨ 32768 ≤ fnDist c.target s.fn) →
      ∃ u : State, exec (.commitDeadline t rplOk) s = .next (u.complete .mapCommit .commitTooLate [] rplOk) ∧
        u.map = { s.map with commit := none, check := none } ∧ u.rd F.MAP_STATUS_STATE = 0 ∧ RegsKept s u [0x40070004]) ∧
    (s.map.commit = some c → s.rd F.MAP_STATUS_STATE = 3 → c.target = s.fn → s.core.started = true → max s.now t = s.core.markT →
      (s.pair.actedPrev = true →
        ∃ s', exec (.mapSwap t rplOk) s = .next s' ∧ s'.active = s.shadow ∧ s'.shadow = s.active ∧
          s'.rd F.MAP_STATUS_ACTIVE_PAGE = 1 - s.rd F.MAP_STATUS_ACTIVE_PAGE ∧ s'.rd F.MAP_FN_LAST_SWAP_FN = s.fn.toNat ∧
          s'.flag F.MAP_INT_SWAP = true ∧ s'.rd F.MAP_COMMIT_CNT_COUNT = (s.rd F.MAP_COMMIT_CNT_COUNT + 1) % 2 ^ 32 ∧
          s'.rd F.MAP_STATUS_STATE = 4 ∧ s'.map.commit = none ∧ s'.map.dirty = [] ∧
          s'.core.samp.page = s.shadow ∧ s'.out = s.out) ∧
      (s.pair.actedPrev = false →
        ∃ u : State, exec (.mapSwap t rplOk) s = .next (u.complete .mapCommit .notLampHolder [] rplOk) ∧ u.map.commit = none ∧
          u.map.page0 = s.map.page0 ∧ u.map.page1 = s.map.page1 ∧ u.rd F.MAP_STATUS_ACTIVE_PAGE = s.rd F.MAP_STATUS_ACTIVE_PAGE)) ∧
    (s.flag F.CORE_STATUS_BG_SUSPENDED = false → s.map.copy = some cp →
      ∃ u : State, exec (.copyForwardDone t rplOk) s = .next (u.complete .mapCommit .ok
          [BitVec.ofNat 32 cp.fn.toNat, BitVec.ofNat 32 cp.changed, BitVec.ofNat 32 (herdUsed s.active).length] rplOk) ∧
        u.map.copy = none ∧ u.active = s.active ∧ u.rd F.MAP_STATUS_STATE = 0 ∧ u.flag F.MAP_INT_COMMIT_DONE = true ∧
        u.shadow = copyForward s.active s.shadow cp.slots s.map.dirty)

/-- R115, R131 to R134: SEL_WRITE on an acting device. Records, inline or from the input buffer, whose fields and pairing are right
are stored from INDEX or, with ALLOC, from the lowest free block, unless they change the DELTA of a selector that the active
page names while a commit is in flight or beyond a bank's ceiling; the device's own fields of a VALID selector are kept, every
other selector stays, and the written selectors are evaluated. A delete of selectors that nothing references leaves all zeros.
In corners that the manual leaves open the model takes the reading of log entry 26. Its conclusions that exec answers a next
state, on conditions of the state and the operands alone, are about: selWrite. -/
def Obligations.SelectorWrites : Prop :=
  ∀ (x : Exe) (i : Nat) (k : Taken) (recs : List W128) (first : Nat) (s v : State), Starts s .selWrite x i k →
    selWriteOk k.d = true → s.selWriteCase x.src k.d = true → bits (word k.d 2) 22 2 = 0 → s.selFirst k.d = some first →
    let n := word k.d 3
    let idx := (List.range n).map (first + ·)
    let env := { s.checkEnv with sels := putSels s.sel.sels first recs }
    (bitOf (word k.d 2) 21 = false → selRecords (s.tick x.t) k.d x = .ok (v, recs) → recs.length = n → recs.all s.recordOk = true →
      pairsOk (putSels s.sel.sels first recs) idx = true →
      ((∀ j, j < n → vDelta (s.selAt (first + j)) = vDelta (recs.getD j 0) ∨ selRefs s.active (first + j) = 0) ∨
        (s.map.commit = none ∧ s.map.copy = none ∧ overLoad env s.active = none ∧
          (s.flag F.MAP_STATUS_CHECK_VALID = true → overLoad env s.shadow = none))) →
      ∃ u : State, exec (.selWrite x) s = .next (((u.openBurst true).evalAll idx []).wakeDemands.finish i k .ok
          [BitVec.ofNat 32 first, BitVec.ofNat 32 n] x.rplOk) ∧
        (∀ j, j < n → u.selRaw (first + j) = newSel (s.selAt (first + j)) (recs.getD j 0)) ∧
        (∀ a, a < first ∨ first + n ≤ a → u.selRaw a = s.selRaw a) ∧ u.map = s.map ∧ u.sel.mons = s.sel.mons ∧
        u.sel.timers = s.sel.timers) ∧
    (bitOf (word k.d 2) 21 = true → (∀ j, j < n → s.selReferenced (first + j) = false) →
      pairsOk ((idx.filter fun j => decide (s.selRaw j ≠ 0)).foldl (fun m j => Store.put selDefault m j 0) s.sel.sels)
        (idx.filter fun j => decide (s.selRaw j ≠ 0)) = true →
      ∃ u : State, exec (.selWrite x) s = .next (u.finish i k .ok [BitVec.ofNat 32 first, BitVec.ofNat 32 n] x.rplOk) ∧
        (∀ j, j < n → u.selRaw (first + j) = 0) ∧ (∀ a, a < first ∨ first + n ≤ a → u.selRaw a = s.selRaw a) ∧
        u.map = s.map ∧ u.sel.mons = s.sel.mons)

/-- R144: DELETE of a group is BUSY while SEL = 1 or BR = 1, and BAD_PARAM with nothing applied where the port is not the working
port of a group. Its conclusions that exec answers a next state, on conditions of the state and the operands alone, are about:
selWrite. -/
def Obligations.GroupDeleteRefused : Prop :=
  ∀ (x : Exe) (i : Nat) (k : Taken) (w : Port) (s : State), Starts s .selWrite x i k → selWriteOk k.d = true →
    s.selWriteCase x.src k.d = true →
    bits (word k.d 2) 22 2 = 1 → bitOf (word k.d 2) 21 = true → bits (word k.d 2) 0 20 = w.val →
    (gUsed (s.grp w.val) = true → (gSel (s.grp w.val) = true ∨ gBr (s.grp w.val) = true) →
      exec (.selWrite x) s = .next ((s.tick x.t).finish i k .busy [] x.rplOk)) ∧
    (gUsed (s.grp w.val) = false → exec (.selWrite x) s = .next ((s.tick x.t).finish i k .badParam [] x.rplOk))

/-- R12, R137, R139, R142, R144: on an acting device SEL_WRITE stores the record of a line group that passes the tests of R137, with
SEL and BR of a group in use kept, a new group only where no bank of either page would pass its ceiling, and evaluates the
group; DELETE of a group with SEL = 0 and BR = 0 clears it. A write of LINE_GRP takes SEL (ARCH 10, 11) and BR (ARCH 11), one of
APS_TX is ignored in ARCH 01, and neither takes a write on a device that does not act. In corners that the manual leaves open
the model takes the reading of log entry 74. Its conclusions that exec answers a next state, on conditions of the state and the
operands alone, are about: selWrite, lineSelWrite, apsTxWrite. -/
def Obligations.LineGroups : Prop :=
  ∀ (x : Exe) (i : Nat) (k : Taken) (g : W32) (t : Nat) (m : Master) (w : Port) (v : W32) (s r : State),
    (Starts s .selWrite x i k → selWriteOk k.d = true → s.selWriteCase x.src k.d = true → bits (word k.d 2) 22 2 = 1 →
      bits (word k.d 2) 0 20 = w.val →
      (bitOf (word k.d 2) 21 = false → groupRecord (s.tick x.t) k.d x = .ok (r, g) → s.groupOk w.val g = true →
        let new : W32 := BitVec.ofNat 32 (g.toNat % 2 ^ 9 + bits g.toNat 11 17 * 2 ^ 11 +
          (if gUsed (s.grp w.val) then b2n (gSel (s.grp w.val)) * 2 ^ 9 + b2n (gBr (s.grp w.val)) * 2 ^ 10 else 0))
        let env := { s.checkEnv with groups := (w.val, new) :: s.groups.filter fun y => decide (y.1 ≠ w.val) }
        (gUsed (s.grp w.val) = true ∨ (overLoad env s.active = none ∧ overLoad env s.shadow = none)) →
        ∃ u : State, exec (.selWrite x) s =
            .next (((u.openBurst true).evalAll [] [w.val]).wakeDemands.finish i k .ok [BitVec.ofNat 32 w.val, 1] x.rplOk) ∧
          u.grp w.val = new ∧ (∀ p, p < 48 → p ≠ w.val → u.grp p = s.grp p) ∧ u.sel = s.sel ∧ u.map = s.map) ∧
      (bitOf (word k.d 2) 21 = true → gUsed (s.grp w.val) = true → gSel (s.grp w.val) = false → gBr (s.grp w.val) = false →
        ∃ u : State, exec (.selWrite x) s = .next (u.finish i k .ok [BitVec.ofNat 32 w.val, 1] x.rplOk) ∧ u.grp w.val = 0 ∧
          u.lineState w.val = 0 ∧ (∀ p, p < 48 → p ≠ w.val → u.grp p = s.grp p) ∧ u.sel.sels = s.sel.sels ∧ u.map = s.map)) ∧
    (s.barred m.val = false → s.acting = true → 2 ≤ gArch (s.grp w.val) →
      ∃ s', exec (.lineSelWrite t m w v) s = .next s' ∧ gSel (s'.grp w.val) = bitOf v.toNat 9 ∧
        gBr (s'.grp w.val) = (if gArch (s.grp w.val) = 3 then bitOf v.toNat 10 else gBr (s.grp w.val)) ∧
        (∀ b, b ≠ 9 → b ≠ 10 → bitOf (s'.grp w.val).toNat b = bitOf (s.grp w.val).toNat b) ∧
        (∀ p, p < 48 → p ≠ w.val → s'.grp p = s.grp p) ∧
        s'.rd F.SEL_SW_CNT_COUNT = min (2 ^ 32 - 1) (s.rd F.SEL_SW_CNT_COUNT + b2n (bitOf v.toNat 9 != gSel (s.grp w.val))) ∧
        s'.sel = s.sel ∧ s'.map = s.map ∧ s'.out = s.out) ∧
    (s.barred m.val = false → s.acting = true → gArch (s.grp w.val) ≠ 1 →
      ∃ s', exec (.apsTxWrite t m w v) s = .next s' ∧
        s'.reg (0x40090300 + w.val * 0x4) = insertBits (s.reg (0x40090300 + w.val * 0x4)) 0 16 (bits v.toNat 0 16) ∧
        (∀ p, p < 48 → s'.grp p = s.grp p) ∧ s'.sel = s.sel ∧ s'.map = s.map ∧ s'.out = s.out) ∧
    (s.barred m.val = false → (s.acting = false ∨ gArch (s.grp w.val) < 2) → exec (.lineSelWrite t m w v) s = .next (s.tick t)) ∧
    (s.barred m.val = false → (s.acting = false ∨ gArch (s.grp w.val) = 1) → exec (.apsTxWrite t m w v) s = .next (s.tick t))

/-- R126, R130: on an acting device SEL_COMMAND over valid selectors, or a group in use, stores the command in each of them where no
request above it is present if it is MS, MS_W or EXER, and in each of them otherwise, evaluates those and answers how many
stored it and how many did not; SEL_STATUS writes one 32-byte record per selector, read errors corrected, or per port. R117,
R120, R132, R135: on an acting device MON_CONFIGURE of records that pass the tests of R120 and R135, from INDEX or with ALLOC
from the lowest free block, and where it disables no monitor that a valid selector names and writes no port monitor of a group:
an enabled record is stored with the running conditions of a monitor in use kept and WL_PTR the device's own; any other, and
DELETE, leaves an unused monitor. In corners that the manual leaves open the model takes the reading of log entries 24 and 25.
Its conclusions that exec answers a next state, on conditions of the state and the operands alone, are about: selCommand,
selStatus, monConfigure. -/
def Obligations.SelectorCommandsAndMonitors : Prop :=
  (∀ (x : Exe) (i : Nat) (k : Taken) (s u : State),
      let first := bits (word k.d 2) 0 20
      (Starts s .selCommand x i k → selCommandOk k.d = true → s.selCommandCase k.d = true → bits (word k.d 2) 22 2 = 0 →
        let ok := ((List.range (word k.d 4)).map (first + ·)).filter fun j => storable ((pvOfSel (s.selAt j)).best.getD 0) (word k.d 3)
        ∃ v : State, exec (.selCommand x) s = .next (((v.openBurst (!ok.isEmpty)).evalAll ok []).finish i k .ok
            [BitVec.ofNat 32 ok.length, BitVec.ofNat 32 (word k.d 4 - ok.length)] x.rplOk) ∧
          (∀ a, v.selRaw a = if a ∈ ok then vPut (s.selAt a) 34 3 (word k.d 3) else s.selRaw a) ∧ v.map = s.map) ∧
      (Starts s .selCommand x i k → selCommandOk k.d = true → s.selCommandCase k.d = true → bits (word k.d 2) 22 2 = 1 →
        (storable ((s.pvOfGrp first).best.getD 0) (word k.d 3) = true →
          ∃ v : State, exec (.selCommand x) s = .next (((v.openBurst true).evalAll [] [first]).finish i k .ok [1, 0] x.rplOk) ∧
            v.pvOfGrp first = { s.pvOfGrp first with cmd := word k.d 3 } ∧ v.sel = s.sel ∧ v.map = s.map) ∧
        (storable ((s.pvOfGrp first).best.getD 0) (word k.d 3) = false →
          exec (.selCommand x) s = .next ((s.tick x.t).finish i k .ok [0, 1] x.rplOk))) ∧
      (Starts s .selStatus x i k → onlyBits (word k.d 2) 0xCFFFFF = true → onlyBits (word k.d 3) 0x1FFFFF = true → 1 ≤ word k.d 3 →
        (word64 k.d 4).toNat % 8 = 0 → s.addrOk x.src (word64 k.d 4) (32 * word k.d 3) = true →
        (bits (word k.d 2) 22 2 = 1 → first + word k.d 3 ≤ 48 →
          (s.tick x.t).writeBuf (word64 k.d 4) ((List.range (word k.d 3)).flatMap fun j => (s.tick x.t).grpRecord (first + j)) x = .ok u →
          exec (.selStatus x) s = .next (u.finish i k .ok [BitVec.ofNat 32 (word k.d 3)] x.rplOk)) ∧
        (bits (word k.d 2) 22 2 = 0 → first + word k.d 3 ≤ 2 ^ 20 →
          let v := ((List.range (word k.d 3)).map (first + ·)).foldl State.repairSel (s.tick x.t)
          v.writeBuf (word64 k.d 4) ((List.range (word k.d 3)).flatMap fun j => v.selRecord (first + j)) x = .ok u →
          exec (.selStatus x) s = .next (u.finish i k .ok [BitVec.ofNat 32 (word k.d 3)] x.rplOk)))) ∧
  (∀ (x : Exe) (i : Nat) (k : Taken) (recs : List W64) (first : Nat) (s v : State), Starts s .monConfigure x i k →
      monConfigureOk k.d = true → s.monCase x.src k.d = true → monRecords (s.tick x.t) k.d x = .ok (v, recs) →
      (if bitOf (word k.d 2) 21 then freeBlock (2 ^ 21) (word k.d 3) s.usedMons 0 = some first else first = bits (word k.d 2) 0 21) →
      let n := word k.d 3
      recs.length = n → (bitOf (word k.d 2) 22 = true ∨ recs.all s.monRecordOk = true) →
      (bitOf (word k.d 2) 21 = true ∨ ∀ j, j < n → (mEn (recs.getD j 0) = true ∨ s.monNamed (first + j) = false) ∧
        (48 ≤ first + j ∨ grouped s.groups (first + j) = false)) →
      ∃ u : State, exec (.monConfigure x) s = .next (u.wakeDemands.finish i k .ok [BitVec.ofNat 32 first, BitVec.ofNat 32 n] x.rplOk) ∧
        (∀ j, j < n → mEn (recs.getD j 0) = true → ∃ p, p < 2 ^ 22 ∧ u.monRaw (first + j) =
          seal54 (bits (recs.getD j 0).toNat 0 30 + (if mEn (s.monAt (first + j)) = true then
            b2n (mSf (s.monAt (first + j))) * 2 ^ 30 + b2n (mSd (s.monAt (first + j))) * 2 ^ 31 else 0) + 2 ^ 32 + p * 2 ^ 33 +
            bits (recs.getD j 0).toNat 55 1 * 2 ^ 55)) ∧
        (∀ j, j < n → mEn (recs.getD j 0) = false → u.monRaw (first + j) = monReset) ∧
        (∀ a, a < first ∨ first + n ≤ a → u.monRaw a = s.monRaw a) ∧ u.sel.sels = s.sel.sels ∧ u.map = s.map)

/-- R123, R124: the evaluator takes the highest request present and the ACT that goes with it; without one it waits to restore,
stays (not revertive) or returns; FREEZE holds ACT. While a hold-off timer runs, REQ and ACT below FS stay. R124, R125: when a
selector's or a group's hold-off or wait-to-restore timer is due, the timer ends, at a hold-off the conditions that the working
monitor still shows are accepted, and it is evaluated. In corners that the manual leaves open the model takes the reading of log
entries 24 and 72. Its conclusions that exec answers a next state, on conditions of the state and the operands alone, are about:
holdoffExpiry, wtrExpiry. -/
def Obligations.EvaluationAndSelectionTimers : Prop :=
  (∀ (p : Pv),
      let q := (p.settle p.base.1 p.base.2 false).1
      (p.tph ≠ 1 →
        (p.cmd = 1 → q.req = 15 ∧ q.act = false) ∧
        (p.cmd ≠ 1 → p.has 2 = true → q.req = 14 ∧ q.act = false) ∧
        (p.cmd = 2 → p.has 2 = false → q.req = 13 ∧ q.act = true) ∧
        (p.cmd ≠ 1 → p.cmd ≠ 2 → p.has 2 = false → p.has 0 = true → q.req = 12 ∧ q.act = true) ∧
        (p.cmd ≠ 1 → p.cmd ≠ 2 → p.has 2 = false → p.has 0 = false → p.has 3 = true → q.req = 11 ∧ q.act = false) ∧
        (p.cmd ≠ 1 → p.cmd ≠ 2 → p.has 2 = false → p.has 0 = false → p.has 3 = false → p.has 1 = true → q.req = 10 ∧ q.act = true) ∧
        (p.cond = 0 → p.cmd = 3 → q.req = 8 ∧ q.act = true) ∧ (p.cond = 0 → p.cmd = 4 → q.req = 7 ∧ q.act = false) ∧
        (p.cond = 0 → p.cmd = 5 → p.tph ≠ 2 → q.req = 4 ∧ q.act = p.act ∧ q.cmd = 0) ∧
        (p.cond = 0 → p.cmd = 0 → p.tph = 0 → p.act = true → p.rev = true → (p.req = 12 ∨ p.req = 10) →
          q.req = 6 ∧ q.act = true ∧ q.tph = 2 ∧ q.tmr = 100 * p.wtr) ∧
        (p.cond = 0 → p.cmd = 0 → p.tph = 0 → p.act = true → p.rev = false → q.req = 1 ∧ q.act = true) ∧
        (p.cond = 0 → p.cmd = 0 → p.tph = 0 → p.act = false → q.req = 0 ∧ q.act = false) ∧
        (p.settle p.base.1 p.base.2 true).1.act = p.act) ∧
      (p.tph = 1 → p.req < 13 → p.base.1 < 13 → q.req = p.req ∧ q.act = p.act ∧ q.tph = 1 ∧ q.tmr = p.tmr)) ∧
  (∀ (t : Nat) (n : BitVec 20) (t0 : Nat) (s : State),
      (Store.get (fun _ => none) s.sel.timers n.toNat = some t0 → s.selLive n.toNat = true → t0 + vTmr (s.selAt n.toNat) * 1000000 ≤ max s.now t →
        (vTph (s.selAt n.toNat) = 1 → ∃ u : State, exec (.holdoffExpiry t false n) s = .next ((u.openBurst true).evalSel n.toNat) ∧
          u.selRaw n.toNat = selWith (s.selAt n.toNat) { pvOfSel (s.selAt n.toNat) with
            tph := 0, tmr := 0, cond := b2n (mSf (s.monAt (vMonW (s.selAt n.toNat)))) + 2 * b2n (mSd (s.monAt (vMonW (s.selAt n.toNat)))) +
              4 * b2n (bitOf (vCond (s.selAt n.toNat)) 2) + 8 * b2n (bitOf (vCond (s.selAt n.toNat)) 3) } ∧
          Store.get (fun _ => none) u.sel.timers n.toNat = none ∧ (∀ a, a ≠ n.toNat → u.selRaw a = s.selRaw a) ∧ u.regs = s.regs ∧ u.map = s.map) ∧
        (vTph (s.selAt n.toNat) = 2 → ∃ u : State, exec (.wtrExpiry t false n) s = .next ((u.openBurst true).evalSel n.toNat) ∧
          u.selRaw n.toNat = selWith (s.selAt n.toNat) { pvOfSel (s.selAt n.toNat) with tph := 0, tmr := 0 } ∧
          Store.get (fun _ => none) u.sel.timers n.toNat = none ∧ (∀ a, a ≠ n.toNat → u.selRaw a = s.selRaw a) ∧ u.regs = s.regs ∧ u.map = s.map)) ∧
      (Store.get (fun _ => none) s.sel.timers (2 ^ 20 + n.toNat) = some t0 → n.toNat < 48 →
        t0 + (s.pvOfGrp n.toNat).tmr * 1000000 ≤ max s.now t →
        ((s.pvOfGrp n.toNat).tph = 1 → ∃ u : State, exec (.holdoffExpiry t true n) s = .next ((u.openBurst true).evalGrp n.toNat) ∧
          (u.pvOfGrp n.toNat).tph = 0 ∧ (u.pvOfGrp n.toNat).has 0 = mSf (s.monAt n.toNat) ∧ (u.pvOfGrp n.toNat).has 1 = mSd (s.monAt n.toNat) ∧
          u.grp n.toNat = s.grp n.toNat ∧ u.sel.sels = s.sel.sels ∧ RegsKept s u [0x40090200 + n.toNat * 0x4]) ∧
        ((s.pvOfGrp n.toNat).tph = 2 → ∃ u : State, exec (.wtrExpiry t true n) s = .next ((u.openBurst true).evalGrp n.toNat) ∧
          u.pvOfGrp n.toNat = { s.pvOfGrp n.toNat with tph := 0, tmr := 0 } ∧
          u.grp n.toNat = s.grp n.toNat ∧ u.sel.sels = s.sel.sels ∧ RegsKept s u [0x40090200 + n.toNat * 0x4])))

/-- R38, R105, R398: the commands of the generator block and the rearming of the candle: a constant word becomes live at once unless
CONST_HOLD is 1, clearing CONST_HOLD makes every word live, and a restart of the PRBS cells waits for the mark. In corners that
the manual leaves open the model takes the reading of log entry 61. Its conclusions that exec answers a next state, on
conditions of the state and the operands alone, are about: genConstWrite, constHold, prbsRestart, prtIdleWrite, rearm. -/
def Obligations.GeneratorCommands : Prop :=
  ∀ (t : Nat) (m : Master) (w : Fin 3240) (v : W32) (p : Port) (b : W8) (s : State), s.barred m.val = false →
    (∃ s', exec (.genConstWrite t m w v) s = .next s' ∧ s'.reg (0x40088000 + 4 * w.val) = v ∧
      (s.flag F.GEN_CTRL_CONST_HOLD = false → ∀ j, Store.get genDefault s'.core.gen j = if j = w.val then v else Store.get genDefault s.core.gen j) ∧
      (s.flag F.GEN_CTRL_CONST_HOLD = true → s'.core = s.core) ∧ RegsKept s s' [0x40088000 + 4 * w.val] ∧
      s' = { s with now := max s.now t, regs := s'.regs, core := { s.core with gen := s'.core.gen } }) ∧
    (∃ s', exec (.constHold t m true) s = .next s' ∧ s'.flag F.GEN_CTRL_CONST_HOLD = true ∧ RegsKept s s' [0x40087004] ∧
      s' = { s with now := max s.now t, regs := s'.regs }) ∧
    (s.flag F.GEN_CTRL_CONST_HOLD = true → ∃ s', exec (.constHold t m false) s = .next s' ∧ s'.flag F.GEN_CTRL_CONST_HOLD = false ∧
      (∀ j, j < 3240 → Store.get genDefault s'.core.gen j = s.reg (0x40088000 + 4 * j)) ∧ RegsKept s s' [0x40087004] ∧
      s' = { s with now := max s.now t, regs := s'.regs, core := { s.core with gen := s'.core.gen } }) ∧
    exec (.prbsRestart t m) s = .next { s.tick t with core := { s.core with prbsReq := true } } ∧
    (∃ s', exec (.prtIdleWrite t m p b) s = .next s' ∧ s'.rd (F.PRT_IDLE_IDLE p.val) = b.toNat ∧
      RegsKept s s' [(F.PRT_IDLE_IDLE p.val).addr] ∧ s' = { s with now := max s.now t, regs := s'.regs }) ∧
    (∃ s', exec (.rearm t m) s = .next s' ∧ s'.rd F.CANDLE_WORST_MIN_SLACK = 0xFFF ∧ s'.rd F.CANDLE_WORST_FN = s.rd F.CANDLE_WORST_FN ∧
      RegsKept s s' [0x4008001C] ∧ s' = { s with now := max s.now t, regs := s'.regs })

/-- R13, R37 to R39, R85, R88, R91 to R96: a frame mark ends the frame, samples and begins the new one, in this order; FN advances
by one (0 at the first mark after reset); the sample that the new output frame uses is that of its mark, the one before stays
for the grains still under way; A engines get the frame's grains dealt; the coming input frame starts empty, with the constants
of the mark. In corners that the manual leaves open the model takes the reading of log entries 7, 58 and 64. Its conclusions
that exec answers a next state, on conditions of the state and the operands alone, are about: frameMark. -/
def Obligations.FrameMarkOrder : Prop :=
  (∀ (t : Nat) (selUp : List (BitVec 20 × W128)) (monUp : List (BitVec 21 × W64)) (rd : List (Fin 256 × List W8))
      (scrUp : List (Fin 262144 × Bool)) (cfg : Option PcieCfg) (occ : List (Fin 64 × W32)) (rplOk evtOk : Bool) (s : State),
    let z := ((s.tick t).endFrame scrUp cfg occ).sampleMark selUp monUp rplOk
    exec (.frameMark t ⟨selUp, monUp, scrUp⟩ cfg rd occ rplOk evtOk) s = .next (z.1.beginFrame z.2 rd rplOk evtOk)) ∧
  (∀ (scrUp : List (Fin 262144 × Bool)) (cfg : Option PcieCfg) (occ : List (Fin 64 × W32)) (s : State),
    (s.endFrame scrUp cfg occ).fn = (if s.core.started then s.fn + 1 else 0) ∧
    (s.endFrame scrUp cfg occ).rd F.FRAME_NUM_MF_PHASE = (if s.core.started then (s.fn + 1).toNat % 4 else 0) ∧
    (s.endFrame scrUp cfg occ).pair.actedPrev = s.acting) ∧
  (∀ (s : State), let u := s.coreMark
    u.core.started = true ∧ u.core.frames = (if s.core.started then s.core.frames + 1 else 0) ∧ u.core.markT = s.now ∧
    u.core.sampPrev = s.core.samp ∧ u.core.samp.fn = s.fn ∧ u.core.samp.frame = u.core.frames ∧ u.core.samp.sels = s.sel.sels ∧
    u.core.samp.groups = s.groups ∧ (s.pwr.march ≠ 2 → u.core.samp.page = s.active ∧ u.core.samp.pageNo = s.activeNo) ∧
    (s.pwr.march = 2 → u.core.samp.page = []) ∧ u.core.inOpen = false ∧ u.core.next.images = [] ∧ u.core.next.frame = u.core.frames ∧
    u.core.next.gen.consts = s.core.gen ∧ u.core.prbsReq = false ∧ u.core.prbs0 = (if s.core.prbsReq then u.core.frames else s.core.prbs0) ∧
    (∀ a, s.eng.gov.aNext = some a → a < 512 → u.rd F.CORE_STATUS_ENG_ACTIVE = a) ∧
    (∀ e, e < u.rd F.CORE_STATUS_ENG_ACTIVE → ∃ q, Store.get (fun _ => []) u.eng.queues e =
      q ++ [{ frame := u.core.frames, next := e, step := u.rd F.CORE_STATUS_ENG_ACTIVE }]))

/-- R56, R84 to R91, R96, R103, R105, R109: an active engine without a grain takes the head of the first queue it looks at whose
head may start, queues whose claim it lost left out, and takes none where there is none; a grain that is complete by its
deadline is settled with its bytes, built from the sample of its frame, and its slack, one that is not is dropped; a grain that
is not complete at its deadline is late, counted, and sent wholly from history; the writes of an input frame begin once the
previous output frame is settled. R86, R105, R106, R108, R109, R111, R138, R331: at its deadline the next position is taken: its
grains leave the staging buffer, and their built bytes enter the output history of the enabled ports that are given them, in the
cells those use; with the last position of a frame every port sends it. A frame's candle record closes once all its grains are
settled: its slack, its lateness and the accounts are shown, and a late one boosts and suspends background work for 8,000
frames. In corners that the manual leaves open the model takes the reading of log entries 27, 28, 62 and 65. Its conclusions
that exec answers a next state, on conditions of the state and the operands alone, are about: grainStart, grainComplete,
grainLate, inputWriteStart, positionTake, candleRecordClose. -/
def Obligations.GrainsAndRecords : Prop :=
  (∀ (t : Nat) (e : Fin 256) (lost : List (Fin 256)) (g : Grain) (q : Nat) (rest : List Seg) (ce ue : List (Nat × Nat))
      (up : List (Nat × W64)) (prev : Bool) (n : Fin 60750) (s : State),
      (e.val < s.rd F.CORE_STATUS_ENG_ACTIVE → Store.get (fun _ => none) s.eng.work e.val = none →
        let found := (s.tick t).findWork (((s.tick t).lookAt e.val).filter fun k => !(s.tick t).lostClaim lost k)
        (found = some (q, g, rest) →
          s.mayStart g = true ∧ ∃ s', exec (.grainStart t ⟨e, lost⟩) s = .next s' ∧
            s'.eng = { s.eng with
              queues := Store.put (fun _ => []) s.eng.queues q rest
              work := Store.put (fun _ => none) s.eng.work e.val (some g)
              claims := Store.put (fun _ => none) s.eng.claims q (some (max s.now t)) } ∧
            s' = { s with now := max s.now t, regs := s'.regs, eng := s'.eng }) ∧
        (found = none → ∃ s', exec (.grainStart t ⟨e, lost⟩) s = .next s' ∧ s' = { s with now := max s.now t, regs := s'.regs })) ∧
      (Store.get (fun _ => none) s.eng.work e.val = some g →
        let m := s.sampleOf g.frame
        let mu : Sample := { m with page := upsetPage m.page (if m.emptyGrain g.g then [] else up) }
        let done := max s.now t - m.t
        (s.settled g = false → done ≤ deadline (grainPos g.g) →
          ∃ s', exec (.grainComplete t e ce ue up) s = .next s' ∧
            s'.eng.staged = { grain := g, bytes := s.buildGrain mu ue g.g } :: s.eng.staged ∧
            Store.get (fun _ => none) s'.eng.work e.val = none ∧ s'.core = s.core ∧ s'.out = s.out ∧
            s'.eng.candles = settleCandle s.eng.candles g (deadline (grainPos g.g) - done) false) ∧
        (s.settled g = true ∨ deadline (grainPos g.g) < done →
          exec (.grainComplete t e ce ue up) s = .next { s.tick t with
            eng := { s.eng with work := Store.put (fun _ => none) s.eng.work e.val none } })) ∧
      (let gr : Grain := { frame := s.core.frames - b2n prev, g := n.val }
       s.core.started = true → (prev = false ∨ 0 < s.core.frames) → s.owed gr = true →
        (s.sampleOf gr.frame).t + deadline (grainPos n.val) ≤ max s.now t →
        ∃ s', exec (.grainLate t prev n) s = .next s' ∧
          s'.eng.staged = (if globalPos gr < s.eng.taken then s.eng.staged else { grain := gr, bytes := List.replicate 512 none } :: s.eng.staged) ∧
          s'.eng.candles = settleCandle s.eng.candles gr 0 true ∧
          s'.rd F.LATE_GRAIN_CNT_COUNT = min (2 ^ 32 - 1) (s.rd F.LATE_GRAIN_CNT_COUNT + 1) ∧
          s'.rd F.LATE_SLOT_CNT_COUNT = min (2 ^ 32 - 1) (s.rd F.LATE_SLOT_CNT_COUNT + s.usedSlots n.val) ∧
          (∀ w ∈ s'.eng.work, w.2 ≠ some gr) ∧ s' = { s with now := max s.now t, regs := s'.regs, eng := s'.eng }) ∧
      (s.core.started = true → (s.core.frames = 0 ∨ s.frameSettled (s.core.frames - 1) = true) → s.core.inOpen = false →
        ∃ s', exec (.inputWriteStart t) s = .next s' ∧ s'.core.inOpen = true ∧ s'.core.next = DataPage.reset ∧
          (s.core.frames % 2 = 0 → s'.core.even = s.core.next ∧ s'.core.odd = s.core.odd) ∧
          (s.core.frames % 2 = 1 → s'.core.odd = s.core.next ∧ s'.core.even = s.core.even) ∧
          s' = { s with now := max s.now t, core := s'.core })) ∧
  (∀ (t : Nat) (retired wasted front back : W32) (c : Candle) (s : State),
      (s.core.started = true → s.eng.taken / 810 ≤ s.core.frames →
        (s.sampleOf (s.eng.taken / 810)).t + deadline (s.eng.taken % 810) ≤ max s.now t → s.eng.taken % 810 ≠ 809 →
        ∃ s', exec (.positionTake t) s = .next s' ∧ s'.eng.taken = s.eng.taken + 1 ∧
          s'.eng.staged = s.eng.staged.filter (fun b => decide (globalPos b.grain ≠ s.eng.taken)) ∧
          s' = { s with now := max s.now t, eng := { s.eng with taken := s'.eng.taken, staged := s'.eng.staged, hist := s'.eng.hist, missing := s'.eng.missing } } ∧
          (∀ x ∈ grainsAt s.eng.taken, x ∈ s'.eng.missing ∨ ∃ b ∈ s.eng.staged, b.grain = x)) ∧
      (s.core.started = true → s.eng.taken / 810 ≤ s.core.frames →
        (s.sampleOf (s.eng.taken / 810)).t + deadline (s.eng.taken % 810) ≤ max s.now t → s.eng.taken % 810 = 809 →
        exec (.positionTake t) s = .next ((if decide ((s.eng.taken + 1) / 810 ≤ s.core.samp.frame) then s.line.txOld else s.line.txOh).foldl
          (State.sendPort (decide ((s.eng.taken + 1) / 810 ≤ s.core.samp.frame))) (s.tick t).takePosition)) ∧
      (∀ (b : Built) (i r : Nat) (v : W8), s.pair.frozen.contains b.grain.frame = false → i < 512 → b.bytes[i]? = some (some v) →
        let pc := b.grain.g % 75 * 512 + i
        let feeds := (s.sampleOf b.grain.frame).feeds
        r ∈ feeds (pc / 800) → (∀ q, r ∈ feeds q → q = pc / 800) → s.enabled r = true → pc % 800 < s.cells r →
        Store.get (fun _ => 0xFF) (s.toHistory b).eng.hist (648000 * r + 810 * (pc % 800) + grainPos b.grain.g) = v) ∧
      (s.eng.candles.find? (fun c => decide (60750 ≤ c.settled)) = some c →
        ∃ s', exec (.candleRecordClose t retired wasted front back) s = .next s' ∧
          s'.rd F.CANDLE_LAST_MIN_SLACK = (if 0 < c.late then 0 else min c.slack 4095) ∧ s'.flag F.CANDLE_LAST_LATE = decide (0 < c.late) ∧
          s'.rd F.CANDLE_LAST_FN_FN = c.fn.toNat ∧ s'.rd F.CANDLE_LAST_FN_LATE_GRAINS = min c.late 65535 ∧
          (0 < c.late → s'.rd F.LATE_FRAME_CNT_COUNT = min (2 ^ 32 - 1) (s.rd F.LATE_FRAME_CNT_COUNT + 1) ∧ s'.flag F.CORE_INT_LATE = true ∧
            s'.rd F.PWR_VCORE_CMD_MV = 800 ∧ s'.eng.gov.aNext = some 256 ∧ s'.eng.gov.suspend = 8000) ∧
          s'.rd (F.TALLY_ACCT_TICKS 0) = retired.toNat ∧ s'.rd (F.TALLY_ACCT_TICKS 3) = back.toNat ∧ s'.rd F.TALLY_ACCT_FN_FN = c.fn.toNat ∧
          s'.eng.candles = s.eng.candles.filter fun k => decide (k.frame ≠ c.frame)))

/-- R100 to R103, R317 to R320: a released rotation step moves, in groups with a spare and nothing under way, a bank in service onto
a spare of its group, when PERIOD frames have passed with EN = 1 or for a test; a move over leaves its old bank under test; a
bank that R103 moves out gets a move onto the freshest spare of its group, or SPARES_OUT without one; a test's end makes the
bank a spare or retires it; released scrub and spot checks step through their units and count what they find. In corners that
the manual leaves open the model takes the reading of log entries 29, 66 and 84. Its conclusions that exec answers a next state,
on conditions of the state and the operands alone, are about: bankRotationStep, bankMove, marchTestDone, scrubUnit, spotCheck. -/
def Obligations.BanksScrubAndSpots : Prop :=
  ∀ (t : Nat) (b : Fin 2048) (x : Fin 2112) (mv : Move) (y : Nat) (pass rplOk : Bool) (ce ue : Nat) (mapUp : List (BitVec 25 × W64))
    (selUp : List (BitVec 20 × W128)) (monUp : List (BitVec 21 × W64)) (bad : Option (Fin 256)) (s : State),
    (s.released 4 = true → s.flag F.CORE_STATUS_BG_SUSPENDED = false →
      ((s.testRunning 0x01 = true ∧ s.pwr.rotating = []) ∨ (s.flag F.BROT_CTRL_EN = true ∧ s.brotPeriod ≤ s.eng.brot)) →
      ∃ s', exec (.bankRotationStep t rplOk) s = .next s' ∧ s'.eng.brot = 0 ∧
        (∀ m ∈ s'.eng.moves, m ∈ s.eng.moves ∨ (m.frame = none ∧ m.forced = false ∧ m.new / 66 = m.old / 66 ∧ s.bankState m.old = 0 ∧
          s.bankState m.new = 1 ∧ m.bank = s.rd (F.BANK_STATE_LOGICAL m.old))) ∧
        (s.testRunning 0x01 = false → RegsKept s s' [0x40080050] ∧ s'.out = s.out)) ∧
    (s.eng.moves.find? (fun m => decide (m.bank = b.val)) = some mv → s.moveOver mv = true →
      ∃ s', exec (.bankMove t b) s = .next s' ∧ s'.rd (F.BANK_STATE_STATE mv.old) = 2 ∧
        s'.eng.moves = s.eng.moves.filter (fun k => decide (k.bank ≠ b.val)) ∧ Store.get (fun _ => false) s'.eng.testing mv.old = true ∧
        RegsKept s s' [0x40083000 + mv.old * 4, 0x40080050]) ∧
    (s.eng.moves.find? (fun m => decide (m.bank = b.val)) = none → s.moveOutDue (s.rd (F.BANK_MAP_PHYS b.val)) = true →
      (s.freshSpare (s.rd (F.BANK_MAP_PHYS b.val) / 66) = some y →
        exec (.bankMove t b) s = .next { s.tick t with eng := { s.eng with
          moves := { bank := s.rd (F.BANK_STATE_LOGICAL (s.rd (F.BANK_MAP_PHYS b.val))), old := s.rd (F.BANK_MAP_PHYS b.val), new := y,
                     frame := none, forced := true } :: s.eng.moves } }) ∧
      (s.freshSpare (s.rd (F.BANK_MAP_PHYS b.val) / 66) = none →
        exec (.bankMove t b) s = .next ((s.tick t).raise F.CORE_INT_SPARES_OUT))) ∧
    (Store.get (fun _ => false) s.eng.testing x.val = true →
      ∃ s', exec (.marchTestDone t x pass rplOk) s = .next s' ∧ s'.rd (F.BANK_STATE_STATE x.val) = (if pass then 1 else 3) ∧
        Store.get (fun _ => false) s'.eng.testing x.val = false ∧ s'.rd F.BROT_STATUS_LAST_PHYS = x.val ∧
        s'.flag F.BROT_STATUS_LAST_PASS = pass ∧ (pass = false → s'.flag F.CORE_INT_BANK_RETIRED = true)) ∧
    (s.released 3 = true → s.pwr.march = 0 →
      let f := (s.tick t).scrub s.pwr.scrubPos (mapUp.map fun x => (x.1.toNat, x.2)) (selUp.map fun x => (x.1.toNat, x.2))
        (monUp.map fun x => (x.1.toNat, x.2)) ce ue
      ∃ s', exec (.scrubUnit t mapUp selUp monUp ce ue rplOk) s = .next s' ∧ s'.pwr.scrubPos = (s.pwr.scrubPos + 1) % 576 ∧
        s'.rd F.SCRUB_CE_CNT_COUNT = min (2 ^ 32 - 1) (f.s.rd F.SCRUB_CE_CNT_COUNT + f.ce) ∧
        (0 < f.ue → s'.flag F.PWR_INT_SCRUB_UE = true) ∧
        s'.rd F.SCRUB_PASSES_COUNT = (f.s.rd F.SCRUB_PASSES_COUNT + b2n (decide (s.pwr.scrubPos = 575))) % 2 ^ 32 ∧
        s'.map = f.s.map ∧ s'.sel = f.s.sel ∧
        (544 ≤ s.pwr.scrubPos → f.s = s.tick t ∧ f.ce = ce ∧ f.ue = ue)) ∧
    (s.released 5 = true →
      ∃ s', exec (.spotCheck t bad rplOk) s = .next s' ∧ s'.pwr.spotNext = (s.pwr.spotNext + 1) % 256 ∧
        (bad = none → s'.spot s.pwr.spotNext = ((s.spot s.pwr.spotNext).1 + 1, (s.spot s.pwr.spotNext).2)) ∧
        (bad ≠ none → s'.rd F.SPOT_MISS_CNT_COUNT = min (2 ^ 32 - 1) (s.rd F.SPOT_MISS_CNT_COUNT + 1) ∧ s'.flag F.PWR_INT_SPOT_FAIL = true) ∧
        (bad = none → s.testRunning 0x03 = false → s' = { s with now := max s.now t, pwr := s'.pwr }))

/-- R169 to R172: a lane's CDR, a pattern found and a candidate checked, on a lane or by the client framer of an OTN port: loss of
CDR lock is LOS; a new pattern waits one line frame for its check, at most 8 at a time; a candidate that passes brings its
framer into frame and a port of one lane with it, one that fails is dropped. R179, R181, R190: LOS follows the signal, not for
zeros on a Ziuth port; LOF follows 3 ms out of frame or in frame; RDI ends 20 line frames after the last of its defects has
cleared. In corners that the manual leaves open the model takes the reading of log entry 30. Its conclusions that exec answers a
next state, on conditions of the state and the operands alone, are about: cdrLockChange, candidateMatch, candidateVerify,
losTimer, lofTimer, rdiHoldExpiry. -/
def Obligations.FrameSearchAndLineTimers : Prop :=
  (∀ (t : Nat) (lane : Port) (client : Bool) (pos : Nat) (wd : BitVec 64) (ctr : W16) (c : Cand) (s : State),
      let p := s.lowest lane.val
      let key := if client then 64 + lane.val else lane.val
      let mode := if client then 4 else s.prtMode p
      let f := s.framer key
      (s.rxOn p = true → s.cdr p (lane.val - p) = false → ∃ s', exec (.cdrLockChange t lane true) s = .next s' ∧ s'.cdr p (lane.val - p) = true ∧
        RegsKept s s' [prtBase p + 4] ∧ s' = { s with now := max s.now t, regs := s'.regs }) ∧
      (s.rxOn p = true → s.cdr p (lane.val - p) = true → ∃ s', exec (.cdrLockChange t lane false) s = .next s' ∧
        s'.cdr p (lane.val - p) = false ∧ s'.flag (F.PRT_INT_CDR_UNLOCK p) = true ∧ s'.pdef p 0 = true) ∧
      (s.scanning lane.val client = true → f.inFrame = false → patternOk mode wd = true →
        (f.barred.any fun b => decide (b.1 = pos) && decide (max s.now t < b.2)) = false → (f.cands.any fun c => decide (c.pos = pos)) = false →
        (f.cands.length < 8 → ∃ s', exec (.candidateMatch t lane client pos wd ctr) s = .next s' ∧
          s'.framer key = { f with cands := f.cands ++ [{ pos := pos, due := max s.now t + frameLen mode, ctr := ctr.toNat }] }) ∧
        (8 ≤ f.cands.length → exec (.candidateMatch t lane client pos wd ctr) s = .next ((s.tick t).inc (F.PRT_FRM_CNT_CAND_DROP p) 1))) ∧
      ((f.cands.find? fun c => decide (c.pos = pos) && decide (c.due ≤ max s.now t)) = some c → s.rxOn p = true → f.inFrame = false →
        (s.scanning lane.val client = true → verifyOk mode wd c.ctr ctr.toNat = true →
          ∃ s', exec (.candidateVerify t lane client pos wd ctr) s = .next s' ∧
            s'.framer key = { f with inFrame := true, cands := [], errRun := 0, pos := pos, start := max s.now t, ctr := ctr.toNat } ∧
            (client = false → isBonded (s.prtMode p) = false → p = lane.val → s'.framed p = true ∧ s'.pdef p 1 = false)) ∧
        (verifyOk mode wd c.ctr ctr.toNat = false →
          ∃ s', exec (.candidateVerify t lane client pos wd ctr) s = .next s' ∧
            s'.framer key = { f with cands := f.cands.filter fun c => decide (c.pos ≠ pos) }))) ∧
  (∀ (t : Nat) (p : Port) (e : Nat) (s : State),
      (s.rxOn p.val = true → ∃ s', exec (.losTimer t p .detectLost) s = .next s' ∧ s'.pdef p.val 0 = true ∧ (s'.dyn p.val).rdi = true) ∧
      (s.rxOn p.val = true → isZiuth (s.prtMode p.val) = false → ∃ s', exec (.losTimer t p .zeros) s = .next s' ∧ s'.pdef p.val 0 = true) ∧
      (isZiuth (s.prtMode p.val) = true → exec (.losTimer t p .zeros) s = .next (s.tick t)) ∧
      (s.rxOn p.val = true → (∀ l ∈ s.lanes p.val, s.cdr p.val (l - p.val) = true) →
        ∃ s', exec (.losTimer t p .signal) s = .next s' ∧ s'.pdef p.val 0 = false ∧ RegsKept s s' [prtBase p.val + 0x10C, prtBase p.val + 0x110]) ∧
      (s.rxOn p.val = true → (s.dyn p.val).since + 300000 ≤ max s.now t →
        ∃ s', exec (.lofTimer t p false) s = .next s' ∧ s'.pdef p.val 2 = !s.framed p.val ∧
          RegsKept s s' [prtBase p.val + 0x10C, prtBase p.val + 0x110] ∧ s' = { s with now := max s.now t, regs := s'.regs, line := s'.line }) ∧
      (s.rxOn p.val = true → isOtn (s.prtMode p.val) = true → (s.dyn p.val).clientSince + 300000 ≤ max s.now t →
        ∃ s', exec (.lofTimer t p true) s = .next s' ∧ s'.pdef p.val 15 = !(s.framer (64 + p.val)).inFrame ∧
          RegsKept s s' [prtBase p.val + 0x10C, prtBase p.val + 0x110]) ∧
      ((s.dyn p.val).rdiEnd = some e → e ≤ max s.now t → s.rdiDefect p.val = false →
        ∃ s', exec (.rdiHoldExpiry t p) s = .next s' ∧ (s'.dyn p.val).rdi = false ∧ (s'.dyn p.val).rdiEnd = none ∧
          (∀ q, q ≠ p.val → s'.dyn q = s.dyn q) ∧ s' = { s with now := max s.now t, line := { s.line with ports := s'.line.ports } }))

/-- R49, R151, R168 to R170, R175 to R177, R180, R189: a line frame of a port whose receiver works. The symbols of a Ziuth frame, or
under terminal loopback the port's own frame, are decoded; while the port stays in frame the payload waits for its input frame
and the back channel and the corrections are recorded. The lanes of a SONET/SDH frame are joined and the frame taken, its J0
recorded on a port of one lane. The lanes of an OTU frame are joined, descrambled and corrected, its ODU status recorded on a
port of one lane. The pattern errored in too many frames in a row (4, on OTN 5) loses the alignment. In corners that the manual
leaves open the model takes the reading of log entry 30. Its conclusions that exec answers a next state, on conditions of the
state and the operands alone, are about: ziuthFrameRx, sonetFrameRx, otnFrameRx. -/
def Obligations.LineFramesReceived : Prop :=
  ∀ (t : Nat) (p : Port) (half : Bool) (faw code pad : List (Fin 4)) (starts : List Nat) (lanes : List (List W8)) (l0 l1 l2 l3 : List W8)
    (ais : Bool) (s : State),
    s.rxOn p.val = true →
    let mode := s.prtMode p.val
    let f := s.framer p.val
    (isZiuth mode = true → s.framed p.val = true → f.inFrame = true →
      let line := if s.loop p.val = 2 then ziuthLine mode (s.lastTx p.val) else ziuthBits mode half (faw ++ code ++ pad)
      let x := ziuthDecode mode line
      ziuthFits mode line.length = true →
      (fawErrors line ≤ 3 ∨ f.errRun < 3 → ∃ s', exec (.ziuthFrameRx t p half faw code pad) s = .next s' ∧ s'.framed p.val = true ∧
        (s.writes p.val = true → (s'.path p.val portCode).done = (s.path p.val portCode).done ++
          [{ t0 := 810 * max s.now t, bytes := (ziuthPayload mode x.1).map some, shut := [], poh := [] }]) ∧
        s'.rd (F.PRT_BC_RX_UNCORR p.val) = (x.1.getD 6 0).toNat ∧
        s'.rd (F.PRT_CNT_COUNT p.val 0) = min (2 ^ 32 - 1) (s.rd (F.PRT_CNT_COUNT p.val 0) + x.2.1)) ∧
      (3 < fawErrors line → 3 ≤ f.errRun → ∃ s', exec (.ziuthFrameRx t p half faw code pad) s = .next s' ∧
        s'.framed p.val = false ∧ s'.pdef p.val 1 = true ∧ (s'.framer p.val).inFrame = false)) ∧
    (isSonet mode = true →
      let n := modeCells mode
      let data := joinLanes (if s.loop p.val = 2 then s.laneBytes p.val else lanes)
      exec (.sonetFrameRx t p starts lanes) s = .next
        ((if s.loop p.val = 1 then (s.tick t).setTx p.val (scramble n data) else s.tick t).sonetFrame p.val false starts data).refreshRefs ∧
      (isBonded mode = false → s.framed p.val = true → f.inFrame = true → data.length = 810 * n →
        (patternOk 4 (laneWord n 1 0 data) = true → ∃ s', exec (.sonetFrameRx t p starts lanes) s = .next s' ∧
          s'.rd (F.PRT_J0_RX_J0 p.val) = (lineAt n (scramble n data) 0 2 0).toNat) ∧
        (patternOk 4 (laneWord n 1 0 data) = false → 3 ≤ f.errRun →
          ∃ s', exec (.sonetFrameRx t p starts lanes) s = .next s' ∧ s'.framed p.val = false ∧ s'.pdef p.val 1 = true ∧
            (s'.framer p.val).inFrame = false))) ∧
    (isOtn mode = true →
      let own := Store.get (fun _ => OtuTx.reset) s.line.otu p.val
      let d := otuWire (s.joinOtu p.val (if s.loop p.val = 2 then otuLanes mode own.last else [l0, l1, l2, l3].take starts.length))
      d.length = 16320 →
      (∃ s', exec (.otnFrameRx t p starts l0 l1 l2 l3 ais) s = .next s') ∧
      (isBonded mode = false → s.framed p.val = true → f.inFrame = true →
        (f.errRun < 4 ∨ d.take 6 = otuFas → ∃ s', exec (.otnFrameRx t p starts l0 l1 l2 l3 ais) s = .next s' ∧
          s'.framed p.val = true ∧ s'.rd (F.PRT_OTN_RX_STAT p.val) = bits (otuAt (s.fecOtu p.val d).1 2 11).toNat 0 3) ∧
        (4 ≤ f.errRun → d.take 6 ≠ otuFas → ∃ s', exec (.otnFrameRx t p starts l0 l1 l2 l3 ais) s = .next s' ∧
          s'.framed p.val = false ∧ s'.pdef p.val 1 = true ∧ (s'.framer p.val).inFrame = false)))

/-- R147, R150, R154, R157 to R159, R163: PORT_CONFIGURE whose parameters and structure are right, where no BUSY case holds and the
quad needs no third PLL class, completes OK: a disabled port takes its mode, loopback, inversions and structure at once, its
bond members with it, and an enabled one (LIVE) keeps them until the mark; with a third class it is answered NO_RESOURCE.
PORT_STATUS answers configuration, status and references. R108, R157, R160, R161: PORT_ENABLE of a configured port that is no
bond member and has no command in flight is answered OK if the port is enabled; else it enables it with the receiver started,
D0, an idle transmitter and its history at 0xFF, and answers ACCEPTED. PORT_DISABLE of such a port starts with FORCE or if
nothing refers to the port, and is else answered BUSY with what refers to it. In corners that the manual leaves open the model
takes the reading of log entry 33. Its conclusions that exec answers a next state, on conditions of the state and the operands
alone, are about: portConfigure, portStatus, portEnable, portDisable. -/
def Obligations.PortConfigurationAndEnabling : Prop :=
  (∀ (x : Exe) (i : Nat) (k : Taken) (buf : List W8) (s u : State),
      let p := portOf k.d
      let mode := cfgMode k.d
      let n := if cfgStruct k.d then 2 * modeCells mode else 0
      (Starts s .portConfigure x i k → cfgOk x.src s k.d = true →
        (if n = 0 then Except.ok (s.tick x.t, []) else (s.tick x.t).readBuf (word64 k.d 4) n x) = .ok (u, buf) →
        (cfgStruct k.d = true → structOk (halfWords buf) = true) → u.cfgBusy k.d = false →
        ((u.quadClasses p mode).length ≤ 2 →
          let v := u.configure k.d buf
          exec (.portConfigure x) s = .next (v.finish i k .ok [] x.rplOk) ∧ v.rd (F.PRT_IDLE_IDLE p) = bits (word k.d 3) 0 8 ∧
          (u.enabled p = false →
            v.prtMode p = mode ∧ v.rd (F.PRT_CFG_LOOP p) = bits (word k.d 2) 12 2 ∧ v.rd (F.PRT_CFG_TX_INV p) = bits (word k.d 2) 16 4 ∧
            v.rd (F.PRT_CFG_RX_INV p) = bits (word k.d 2) 20 4 ∧ v.rd (F.PRT_STATUS_CLASS p) = modeClass mode ∧ v.enabled p = false ∧
            ((isBonded mode = true ∨ isBonded (u.prtMode p) = true) → ∀ j, 1 ≤ j → j ≤ 3 → v.member (p + j) = isBonded mode) ∧
            (∀ q, q < 48 → q ≠ p → ((isBonded mode = false ∧ isBonded (u.prtMode p) = false) ∨ q / 4 ≠ p / 4) →
              v.reg (prtBase q) = u.reg (prtBase q)) ∧
            v.structOf p = (match cfgDescrs u k.d buf with
              | some ds => structWords ds
              | none => u.structOf p)) ∧
          (u.enabled p = true →
            (v.dyn p).live = some ⟨bits (word k.d 2) 12 2, bits (word k.d 2) 16 4, bits (word k.d 2) 20 4,
              ((cfgDescrs u k.d buf).map structWords).orElse fun _ => (u.dyn p).live.bind LiveCfg.struct⟩ ∧
            RegsKept u v [(F.PRT_IDLE_IDLE p).addr])) ∧
        (2 < (u.quadClasses p mode).length → exec (.portConfigure x) s = .next (u.finish i k .noResource [] x.rplOk))) ∧
      (Starts s .portStatus x i k → onlyBits (word k.d 2) 0x3F = true → p < 48 →
        exec (.portStatus x) s = .next ((s.tick x.t).finish i k .ok [s.reg (prtBase p), s.reg (prtBase p + 4),
          s.reg (prtBase p + 0x10), BitVec.ofNat 32 (s.monSelectors p)] x.rplOk))) ∧
  (∀ (x : Exe) (i : Nat) (k : Taken) (s : State), let p := portOf k.d
      (Starts s .portEnable x i k → onlyBits (word k.d 2) 0x3F = true → p < 48 → s.prtMode p ≠ 0 → s.member p = false → s.cmdBusy p = false →
        (s.enabled p = true → exec (.portEnable x) s = .next ((s.tick x.t).finish i k .ok [] x.rplOk)) ∧
        (s.enabled p = false → exec (.portEnable x) s = .next (((s.tick x.t).enablePort p).accept i k [] x.rplOk) ∧
          let u := (s.tick x.t).enablePort p
          u.enabled p = true ∧ u.flag (F.PRT_STATUS_CMD_BUSY p) = true ∧ u.depth p = 0 ∧ u.flag (F.PRT_STATUS_RX_FRAMED p) = false ∧
          u.rd (F.PRT_STATUS_CDR_LOCK p) = 0 ∧ u.pdef p 0 = true ∧ u.pdef p 1 = true ∧ u.pdef p 2 = true ∧ (u.dyn p).tx = 0 ∧
          (u.dyn p).cmd = .enabling (s.pllRuns p) ∧ (∀ a, slotPort a = p → Store.get (fun _ => 0xFF) u.eng.hist a = 0xFF) ∧
          (∀ a, slotPort a ≠ p → Store.get (fun _ => 0xFF) u.eng.hist a = Store.get (fun _ => 0xFF) s.eng.hist a))) ∧
      (Starts s .portDisable x i k → onlyBits (word k.d 2) 0x3F = true → p < 48 → s.member p = false → s.cmdBusy p = false →
        ((optOf k.d = true ∨ (s.rd (F.PRT_SRC_REFS_COUNT p) = 0 ∧ s.monSelectors p = 0 ∧ grouped s.groups p = false)) →
          ∃ u : State, exec (.portDisable x) s = .next (u.accept i k [] x.rplOk) ∧ u.flag (F.PRT_STATUS_CMD_BUSY p) = true ∧
            u.flag (F.PRT_STATUS_DISABLING p) = true ∧ (u.dyn p).cmd = .disabling s.core.frames none none ∧ u.enabled p = s.enabled p ∧ RegsKept s u [(F.PRT_STATUS_CMD_BUSY p).addr]) ∧
        (optOf k.d = false → (s.rd (F.PRT_SRC_REFS_COUNT p) ≠ 0 ∨ s.monSelectors p ≠ 0 ∨ grouped s.groups p = true) →
          exec (.portDisable x) s = .next ((s.tick x.t).finish i k .busy (s.disableWords p) x.rplOk))))

/-- R147, R160, R162, R164, R165: the class PLL of a quad locks or unlocks for every enabled port of the quad that uses it, and
PLL_LOCK of the quad's disabled ports then says whether an enabled lane of the quad runs their PLL; a disable completes 6.5 us
after its T_e with the port disabled, and no earlier. R165 to R167, R312, R313, R400: every millisecond the rule is evaluated
for each port: a depth shallower than the present one starts a wake at once, or draws a wake under way to it; a deeper depth
that the rule has given for 100 ms, and gives still, takes effect and idles the transmitter; a wake that completes reaches its
depth, and from D2 or D3 the receiver starts afresh. In corners that the manual leaves open the model takes the reading of log
entry 33. Its conclusions that exec answers a next state, on conditions of the state and the operands alone, are about: pllLock,
pllUnlock, portDisableDone, depthEvaluation, portDeepen, portWakeDone. -/
def Obligations.PllsDisableAndSleep : Prop :=
  (∀ (t : Nat) (p : Port) (c : Nat) (b : Option Bool) (fe : W16) (te : Nat) (rplOk : Bool) (s : State),
      (∃ s', exec (.pllLock t p) s = .next s' ∧ (∀ q ∈ s.pllUsers p.val, s'.flag (F.PRT_STATUS_PLL_LOCK q) = true ∧
          (∀ b, (s.dyn q).cmd = .enabling b → (s'.dyn q).cmd = .enabling true)) ∧
        (∀ q ∈ quadOf p.val, s.enabled q = false → s.member q = false → s'.flag (F.PRT_STATUS_PLL_LOCK q) = s'.pllRuns q) ∧
        (∀ q ∈ quadOf p.val, q ∉ s.pllUsers p.val → (s.enabled q = true ∨ s.member q = true) → s'.reg (prtBase q + 4) = s.reg (prtBase q + 4)) ∧
        (∀ q, q ∉ s.pllUsers p.val → s'.dyn q = s.dyn q) ∧ RegsKept s s' ((quadOf p.val).map fun q => (F.PRT_STATUS_PLL_LOCK q).addr) ∧
        s' = { s with now := max s.now t, regs := s'.regs, line := { s.line with ports := s'.line.ports } }) ∧
      (∃ s', exec (.pllUnlock t p) s = .next s' ∧ (∀ q ∈ s.pllUsers p.val, s'.flag (F.PRT_STATUS_PLL_LOCK q) = false ∧
          (s.flag (F.PRT_STATUS_PLL_LOCK q) = true → s'.flag (F.PRT_INT_PLL_UNLOCK q) = true ∧
            (∀ b, (s.dyn q).cmd = .enabling b → (s'.dyn q).cmd = .enabling false))) ∧
        (∀ q ∈ quadOf p.val, s.enabled q = false → s.member q = false → s'.flag (F.PRT_STATUS_PLL_LOCK q) = s'.pllRuns q) ∧
        (∀ q ∈ quadOf p.val, q ∉ s.pllUsers p.val → (s.enabled q = true ∨ s.member q = true) → s'.reg (prtBase q + 4) = s.reg (prtBase q + 4)) ∧
        (∀ q, q ∉ s.pllUsers p.val → s'.dyn q = s.dyn q) ∧
        RegsKept s s' ((quadOf p.val).flatMap fun q => [(F.PRT_STATUS_PLL_LOCK q).addr, (F.PRT_INT_PLL_UNLOCK q).addr]) ∧
        s' = { s with now := max s.now t, regs := s'.regs, line := { s.line with ports := s'.line.ports } }) ∧
      ((s.dyn p.val).cmd = .disabling c b (some (fe, te)) → te + 650 ≤ max s.now t →
        ∃ u : State, exec (.portDisableDone t p rplOk) s = .next (u.completePort .portDisable p.val .ok
            [BitVec.ofNat 32 (fe - 1).toNat, BitVec.ofNat 32 fe.toNat] rplOk) ∧
          u.enabled p.val = false ∧ u.flag (F.PRT_STATUS_CMD_BUSY p.val) = false ∧ u.flag (F.PRT_STATUS_DISABLING p.val) = false ∧
          u.flag (F.PRT_INT_DISABLE_DONE p.val) = true ∧ (u.dyn p.val).cmd = .idle ∧ (u.dyn p.val).tx = 0 ∧ u.depth p.val = 3) ∧
      ((s.dyn p.val).cmd = .disabling c b (some (fe, te)) → max s.now t < te + 650 → exec (.portDisableDone t p rplOk) s = .next (s.tick t))) ∧
  (∀ (t : Nat) (p : Port) (d : Nat) (s : State),
      (s.line.depthAt + msTicks ≤ max s.now t → ∃ s', exec (.depthEvaluation t) s = .next s' ∧ s'.line.depthAt = max s.now t ∧
        (∀ q, q < 48 → s.enabled q = true → s.member q = false → s.depthRule q < s.depth q →
          (s'.dyn q).wake = some (min (s.depthRule q) ((s.dyn q).wake.getD (s.depthRule q))) ∧
          (s'.dyn q).deep1 = none ∧ (s'.dyn q).deep2 = none ∧ (s'.dyn q).deep3 = none) ∧
        (∀ q, q < 48 → s.enabled q = true → s.member q = false → s.depth q ≤ s.depthRule q →
          (s'.dyn q).deep1 = sinceDeep (max s.now t) (s.depthRule q) 1 (s.dyn q).deep1 ∧
          (s'.dyn q).deep2 = sinceDeep (max s.now t) (s.depthRule q) 2 (s.dyn q).deep2 ∧
          (s'.dyn q).deep3 = sinceDeep (max s.now t) (s.depthRule q) 3 (s.dyn q).deep3 ∧ (s'.dyn q).wake = (s.dyn q).wake) ∧
        (∀ q, s.enabled q = false ∨ s.member q = true → s'.dyn q = s.dyn q) ∧
        s' = { s with now := max s.now t, line := s'.line }) ∧
      (max s.now t < s.line.depthAt + msTicks → exec (.depthEvaluation t) s = .next (s.tick t)) ∧
      (let y := s.dyn p.val
        let k := if deepFor (max s.now t) y.deep3 then 3 else if deepFor (max s.now t) y.deep2 then 2 else
          if deepFor (max s.now t) y.deep1 then 1 else 0
        (s.enabled p.val = true → s.depth p.val < min (s.depthRule p.val) k → y.wake = none → y.cmd = .idle →
          ∃ u : State, exec (.portDeepen t p) s = .next u.refreshRefs ∧ u.depth p.val = min (s.depthRule p.val) k ∧
            u.flag (F.PRT_INT_DEPTH_CHG p.val) = true ∧ (2 ≤ u.depth p.val → u.rd (F.PRT_STATUS_CDR_LOCK p.val) = 0) ∧
            (y.tx ≠ 3 → (u.dyn p.val).tx = 0) ∧ u.enabled p.val = true ∧
            RegsKept s u [(F.PRT_STATUS_DEPTH p.val).addr, (F.PRT_INT_DEPTH_CHG p.val).addr]) ∧
        (¬ (s.enabled p.val = true ∧ s.depth p.val < min (s.depthRule p.val) k ∧ y.wake = none ∧ y.cmd = .idle) →
          exec (.portDeepen t p) s = .next (s.tick t))) ∧
      ((s.dyn p.val).wake = some d → d ≤ 3 →
        ∃ s', exec (.portWakeDone t p) s = .next s' ∧ s'.depth p.val = d ∧ s'.flag (F.PRT_INT_DEPTH_CHG p.val) = true ∧ (s'.dyn p.val).wake = none ∧
          (2 ≤ s.depth p.val → d ≤ 1 → s'.flag (F.PRT_STATUS_RX_FRAMED p.val) = false ∧ s'.pdef p.val 0 = true) ∧
          (d = 0 → s.depth p.val ≠ 0 → (s.dyn p.val).tx ≠ 3 → (s'.dyn p.val).tx = 1)) ∧
      ((s.dyn p.val).wake = none → exec (.portWakeDone t p) s = .next (s.tick t)))

/-- R197, R208, R209, R217 to R220: the timing commands: what TIMING_CONFIGURE sets by its OP, and that a case of its chapter is
BAD_PARAM; a realignment accepted, BUSY beside another one and BAD_PARAM for a reference that is no 1 PPS; the words of
TIMING_STATUS. Its conclusions that exec answers a next state, on conditions of the state and the operands alone, are about:
timingConfigure, timingRealign, timingStatus. -/
def Obligations.TimingCommands : Prop :=
  ∀ (x : Exe) (i : Nat) (k : Taken) (s : State),
    (Starts s .timingConfigure x i k → timingForm k.d = true →
      let u := (s.tick x.t).applyTiming k.d
      let n := bits (word k.d 2) 8 4
      let op := bits (word k.d 2) 0 4
      ((s.tick x.t).timingCase k.d = true →
        exec (.timingConfigure x) s = .next ((u.mirrorSettings k.d []).finish i k .ok [] x.rplOk) ∧ u.tmg.configured = true ∧
        (op = 0 → u.reg (0x40050100 + n * 4) = k.d.getD 3 0) ∧
        (op = 1 → u.reg 0x40050000 = k.d.getD 3 0 ∧ u.reg 0x40050004 = k.d.getD 4 0 ∧ u.reg 0x40050008 = k.d.getD 5 0 ∧ u.dpll = s.dpll) ∧
        (op = 2 → word k.d 3 = 0 → u.flag (F.TMG_REF_STAT_LOCKOUT n) = false ∧ u.flag (F.TMG_REF_STAT_FORCED n) = false ∧
          u.flag F.TMG_STATE_FORCE_HO = false) ∧
        (op = 2 → word k.d 3 = 1 → u.flag (F.TMG_REF_STAT_LOCKOUT n) = true) ∧
        (op = 2 → word k.d 3 = 2 → ∀ m, m < 16 → u.flag (F.TMG_REF_STAT_FORCED m) = decide (m = n)) ∧
        (op = 2 → word k.d 3 = 3 → u.flag F.TMG_STATE_FORCE_HO = true ∧ (s.dpll ≠ 0 → s.acting = true → u.dpll = 3)) ∧
        (op = 3 → u.reg 0x40050020 = k.d.getD 3 0)) ∧
      ((s.tick x.t).timingCase k.d = false → exec (.timingConfigure x) s = .next ((s.tick x.t).finish i k .badParam [] x.rplOk))) ∧
    (Starts s .timingRealign x i k → realignOk k.d = true →
      let u := s.tick x.t
      let ref := bits (word k.d 2) 4 4
      let r : Realign := ⟨bitOf (word k.d 2) 0, bitOf (word k.d 2) 1, ref, word k.d 3, max s.now x.t,
        (if bitOf (word k.d 2) 0 || ref != 15 then none else some (max s.now x.t, u.nextFsync)), none, none⟩
      (u.realignCase k.d = false → exec (.timingRealign x) s = .next (u.finish i k .badParam [] x.rplOk)) ∧
      (u.realignCase k.d = true → s.tmg.realign ≠ none → exec (.timingRealign x) s = .next (u.finish i k .busy [] x.rplOk)) ∧
      (u.realignCase k.d = true → s.tmg.realign = none →
        exec (.timingRealign x) s = .next (({ u with tmg := { s.tmg with realign := some r } } : State).accept i k [] x.rplOk))) ∧
    (Starts s .timingStatus x i k → exec (.timingStatus x) s = .next ((s.tick x.t).finish i k .ok [s.reg 0x40050010, s.reg 0x40050018,
      BitVec.ofNat 32 (((List.range 16).map fun n => b2n (s.available n) * 2 ^ n).sum + 65536 * ((List.range 16).map fun n => b2n (s.suspect n) * 2 ^ n).sum),
      BitVec.ofNat 32 (((List.range 16).map fun n => b2n (s.flag (F.TMG_REF_STAT_FAIL n)) * 2 ^ n).sum +
        65536 * ((List.range 16).map fun n => b2n (s.ref n).wtr.isSome * 2 ^ n).sum)] x.rplOk))

/-- R198, R199, R204, R205, R209, R210, R213: a lost REFIN entry fails at once, and as the selected one it starts the hold-off; a
window end takes the measurements of the references whose window ends (16 s long on 1 PPS) and the LOCKED output's window, and
the second one in a row within 10 ppb locks; a reference whose wait-to-restore ends is available. R207, R209 to R211: every
millisecond selection runs, on a device that acts over its own references; what its result does in each state of the DPLL; a
reference that does not lock in time fails; the hold-off ends and selection names a target. In corners that the manual leaves
open the model takes the reading of log entry 35. Its conclusions that exec answers a next state, on conditions of the state and
the operands alone, are about: refLoss, monitorWindowEnd, refWtrExpiry, selection, acquireTimeout, timingHoldoffEnd. -/
def Obligations.ReferencesAndSelection : Prop :=
  (∀ (t : Nat) (n : Fin 16) (freqs : List (Fin 16 × Int)) (out mate : Int) (e : Nat) (s : State),
      (s.refType n.val = 2 →
        (∃ s', exec (.refLoss t n true) s = .next s' ∧ (s'.ref n.val).loss = true ∧ s'.flag (F.TMG_REF_STAT_FAIL n.val) = true ∧
          s'.rd (F.TMG_REF_STAT_CAUSE n.val) = 1 ∧ s'.flag (F.TMG_REF_STAT_AVAIL n.val) = false ∧
          (s.acting = true → s.flag F.TMG_STATE_SEL_VALID = true → s.rd F.TMG_STATE_SEL_REF = n.val → s.dpll = 2 →
            s'.dpll = 4 ∧ s'.tmg.hold = some (max s.now t + s.rd F.TMG_TIMERS_HOLDOFF * 100 * msTicks) ∧ s'.flag F.TMG_INT_STATE_CHG = true)) ∧
        (∃ s', exec (.refLoss t n false) s = .next s' ∧ (s'.ref n.val).loss = false ∧
          (s'.ref n.val).lossEnd = (if (s.ref n.val).loss then some (max s.now t) else (s.ref n.val).lossEnd))) ∧
      (s.refType n.val ≠ 2 → ∀ b, exec (.refLoss t n b) s = .next (s.tick t)) ∧
      (s.tmg.winAt + secTicks ≤ max s.now t →
        let ended := freqs.filter fun x => s.refUsed x.1.val &&
          (!s.isPps x.1.val || decide ((s.ref x.1.val).winAt + 16 * secTicks ≤ max s.now t))
        ∃ s', exec (.monitorWindowEnd t freqs out mate) s = .next s' ∧ s'.tmg.winAt = max s.now t ∧
          s'.tmg.hist = ((if s.dpll = 2 then some out else none) :: s.tmg.hist).take 908 ∧
          (∀ m f, (m, f) ∈ ended → (∀ g, (m, g) ∈ ended → g = f) →
            s'.reg (0x40050180 + m.val * 4) = sat32 f ∧ (s'.ref m.val).winAt = max s.now t) ∧
          (∀ m : Fin 16, (∀ f, (m, f) ∉ ended) → s'.reg (0x40050180 + m.val * 4) = s.reg (0x40050180 + m.val * 4)) ∧
          (∀ f, s.dpll = 1 → s.flag F.TMG_STATE_MATE = false → s.rd F.TMG_STATE_SEL_REF = n.val → (n, f) ∈ ended →
            (∀ g, (n, g) ∈ ended → g = f) →
            s'.dpll = (if ((sat32 f).toInt - out).natAbs ≤ 1000 ∧ 1 ≤ s.tmg.inBand then 2 else 1) ∧
            s'.tmg.inBand = (if ((sat32 f).toInt - out).natAbs ≤ 1000 then s.tmg.inBand + 1 else 0)) ∧
          (s.dpll = 1 → s.flag F.TMG_STATE_MATE = true → s'.dpll = (if (mate - out).natAbs ≤ 1000 ∧ 1 ≤ s.tmg.inBand then 2 else 1))) ∧
      (max s.now t < s.tmg.winAt + secTicks → exec (.monitorWindowEnd t freqs out mate) s = .next (s.tick t)) ∧
      ((s.ref n.val).wtr = some e → e ≤ max s.now t → s.refUsed n.val = true → (s.tick t).refCause n.val = 0 →
        s.flag (F.TMG_REF_STAT_FAIL n.val) = false →
        ∃ s', exec (.refWtrExpiry t n) s = .next s' ∧ (s'.ref n.val).wtr = none ∧ s'.flag (F.TMG_REF_STAT_WTR_RUN n.val) = false ∧
          s'.flag (F.TMG_REF_STAT_AVAIL n.val) = !s.flag (F.TMG_REF_STAT_LOCKOUT n.val) ∧ s'.flag F.TMG_INT_REF_AVAIL = true) ∧
      ((s.ref n.val).wtr = some e → max s.now t < e → exec (.refWtrExpiry t n) s = .next (s.tick t)) ∧
      ((s.ref n.val).wtr = none → exec (.refWtrExpiry t n) s = .next (s.tick t).refreshRefs)) ∧
  (∀ (t n : Nat) (s : State), n < 16 →
      (s.tmg.selAt + msTicks ≤ max s.now t →
        let u := ({ s.tick t with tmg := { s.tmg with selAt := max s.now t } } : State).refreshRefs
        exec (.selection t) s = .next (if s.acting then u.select else u.trackMate)) ∧
      (max s.now t < s.tmg.selAt + msTicks → exec (.selection t) s = .next (s.tick t)) ∧
      (let inUse := s.flag F.TMG_STATE_SEL_VALID = true ∧ s.rd F.TMG_STATE_SEL_REF = n
        let u := s.follow (some n)
        let w := s.follow none
        ((s.dpll = 0 ∨ s.dpll = 3 ∨ s.dpll = 5 ∨ (s.dpll = 1 ∧ ¬ inUse)) →
          u.dpll = 1 ∧ u.rd F.TMG_STATE_SEL_REF = n ∧ u.flag F.TMG_STATE_SEL_VALID = true ∧ u.tmg.acqAt = s.now) ∧
        ((s.dpll = 1 ∨ s.dpll = 2) → inUse → u = s) ∧
        (s.dpll = 2 → ¬ inUse → u.dpll = 4 ∧ u.rd F.TMG_STATE_TARGET = n ∧ u.flag F.TMG_STATE_TGT_VALID = true ∧ u.tmg.verify = some s.now ∧
          u.tmg.back = false) ∧
        (s.dpll = 4 → s.tmg.hold.isSome = true → u = s ∧ w = s) ∧
        (s.dpll = 4 → s.tmg.hold = none → s.flag F.TMG_STATE_TGT_VALID = true → s.rd F.TMG_STATE_TARGET = n → u = s) ∧
        (s.dpll = 4 → s.tmg.hold = none → (s.flag F.TMG_STATE_TGT_VALID = false ∨ s.rd F.TMG_STATE_TARGET ≠ n) →
          u.dpll = 4 ∧ u.rd F.TMG_STATE_TARGET = n ∧ u.flag F.TMG_STATE_TGT_VALID = true ∧ u.tmg.verify = some s.now ∧
          (u.tmg.back = true ↔ inUse) ∧ (s.flag F.TMG_STATE_TGT_VALID = true → u.flag F.TMG_INT_RETARGET = true)) ∧
        ((s.dpll = 1 ∨ s.dpll = 2 ∨ (s.dpll = 4 ∧ s.tmg.hold = none)) → w.dpll = (if s.history.2 then 3 else 5) ∧
          w.flag F.TMG_STATE_SEL_VALID = false ∧ (s.dpll ≠ 2 → w.reg 0x40050018 = s.reg 0x40050018) ∧
          (∀ f, s.dpll = 2 → s.history = (some f, true) → w.reg 0x40050018 = (s.setOut f).reg 0x40050018)) ∧
        ((s.dpll = 0 ∨ s.dpll = 3 ∨ s.dpll = 5) → w = s)) ∧
      (s.acting = true → s.dpll = 1 → s.flag F.TMG_STATE_SEL_VALID = true → s.rd F.TMG_STATE_SEL_REF = n →
        s.tmg.acqAt + (if s.isPps n then 900 else 60) * secTicks ≤ max s.now t →
        ∃ u : State, exec (.acquireTimeout t) s = .next (if u.select.dpll = 1 ∧ u.select.rd F.TMG_STATE_SEL_REF = n then
            { u.select with tmg := { u.select.tmg with acqAt := u.select.now, inBand := 0 } } else u.select) ∧
          (u.ref n).acqFail = some (max s.now t + secTicks * s.rd F.TMG_TIMERS_WTR) ∧
          (s.rd F.TMG_TIMERS_WTR = 0 → u.flag F.TMG_INT_REF_FAIL = true) ∧
          (s.rd F.TMG_TIMERS_WTR ≠ 0 → s.refUsed n = true → u.flag (F.TMG_REF_STAT_FAIL n) = true)) ∧
      (∀ e, s.tmg.hold = some e → e ≤ max s.now t → s.dpll = 4 →
        ∃ u : State, exec (.timingHoldoffEnd t) s = .next (if s.acting then u.select else u.trackMate) ∧ u.tmg.hold = none ∧
          u.flag F.TMG_STATE_SEL_VALID = s.flag F.TMG_STATE_SEL_VALID ∧ u.dpll = 4))

/-- R209 to R211, R218, R219: a verified target is measured, and at a later frame mark becomes the selected reference with its phase
built out; a switch back to the reference in use ends at a mark without that; a realignment's outputs take their new phase at a
pulse of it once half a period is free, and one that waits too long for its 1 PPS ends TIMEOUT. In corners that the manual
leaves open the model takes the reading of log entries 35 and 80. Its conclusions that exec answers a next state, on conditions
of the state and the operands alone, are about: verificationComplete, switchCommit, realignPulse, realignTimeout. -/
def Obligations.SwitchAndRealign : Prop :=
  ∀ (t v at0 : Nat) (phase df : Int) (r : Realign) (rplOk : Bool) (s : State),
    let z := s.tick t
    let fnWord := fun (x : Option W16) => BitVec.ofNat 32 ((x.map BitVec.toNat).getD 0)
    (s.tmg.verify = some v → s.dpll = 4 → s.flag F.TMG_STATE_TGT_VALID = true → s.tmg.back = false →
      v + s.rd F.TMG_TIMERS_VERIFY * 10 * msTicks ≤ max s.now t →
      (s.cands.contains (s.rd F.TMG_STATE_TARGET) = true ∨ s.forced = some (s.rd F.TMG_STATE_TARGET)) →
      exec (.verificationComplete t phase df) s =
        .next { z with tmg := { s.tmg with measured := some (phase, df, max s.now t), verify := none } }) ∧
    (s.dpll = 4 → s.core.started = true → max s.now t = s.core.markT → s.tmg.back = false → s.tmg.measured = some (phase, df, at0) →
      at0 ≤ s.core.markT →
      ∃ s', exec (.switchCommit t) s = .next s' ∧ s'.rd F.TMG_STATE_SEL_REF = s.rd F.TMG_STATE_TARGET ∧ s'.flag F.TMG_STATE_SEL_VALID = true ∧
        s'.flag F.TMG_STATE_TGT_VALID = false ∧ s'.dpll = (if df.natAbs ≤ 5000 then 2 else 1) ∧
        s'.reg 0x4005001C = BitVec.ofInt 32 ((s.reg 0x4005001C).toInt + phase) ∧ s'.tmg.measured = none ∧
        (¬ (s.flag F.TMG_STATE_SEL_VALID = true ∧ s.rd F.TMG_STATE_SEL_REF = s.rd F.TMG_STATE_TARGET) → s'.flag F.TMG_INT_SEL_CHG = true)) ∧
    (s.dpll = 4 → s.core.started = true → max s.now t = s.core.markT → s.tmg.back = true → s.tmg.verify = some v → v ≤ s.core.markT →
      ∃ s', exec (.switchCommit t) s = .next s' ∧ s'.dpll = 2 ∧ s'.rd F.TMG_STATE_SEL_REF = s.rd F.TMG_STATE_SEL_REF ∧
        s'.flag F.TMG_STATE_TGT_VALID = false ∧ s'.reg 0x4005001C = s.reg 0x4005001C ∧
        s'.flag F.TMG_INT_SEL_CHG = s.flag F.TMG_INT_SEL_CHG) ∧
    (s.tmg.realign = some r → r.ref < 16 → z.ppsDue r = true →
      let free := z.pulseFree ppsPeriod s.tmg.ppsPh ((r.phase.map Prod.fst).getD (max s.now t))
      (free = true → r.fs = true → r.fsFn = none → ∃ s', exec (.realignPulse t true rplOk) s = .next s' ∧
        s'.rd F.TMG_ALIGN_PPS_REF = r.ref ∧ s'.tmg.realign = some { r with ppsFn := some s.fn } ∧ s'.tmg.ppsPh = z.frameTime) ∧
      (free = true → (r.fs = false ∨ r.fsFn.isSome = true) → ∃ u : State, exec (.realignPulse t true rplOk) s =
          .next (u.complete .timingRealign .ok [fnWord r.fsFn, BitVec.ofNat 32 s.fn.toNat] rplOk) ∧
        u.rd F.TMG_ALIGN_PPS_REF = r.ref ∧ u.flag F.TMG_INT_REALIGNED = true ∧ u.tmg.realign = none ∧ u.tmg.ppsPh = z.frameTime) ∧
      (free = false → exec (.realignPulse t true rplOk) s =
        .next { z with tmg := { s.tmg with realign := some { r with phase := some (r.phase.getD (max s.now t, z.frameTime)) } } })) ∧
    (s.tmg.realign = some r → r.fs = true → r.fsFn = none → s.core.started = true → r.ofs ≤ 124999 →
      z.sincePhase frameTicks (r.ofs / 10) = 0 → z.pulseFree frameTicks (s.rd F.TMG_ALIGN_FSYNC_OFS / 10) r.start = true →
      ((r.pps = false ∨ r.ppsFn.isSome = true) → ∃ u : State, exec (.realignPulse t false rplOk) s =
          .next (u.complete .timingRealign .ok [BitVec.ofNat 32 s.fn.toNat, fnWord r.ppsFn] rplOk) ∧
        u.rd F.TMG_ALIGN_FSYNC_OFS = r.ofs ∧ u.flag F.TMG_INT_REALIGNED = true ∧ u.tmg.realign = none) ∧
      (r.pps = true → r.ppsFn = none → ∃ s', exec (.realignPulse t false rplOk) s = .next s' ∧ s'.rd F.TMG_ALIGN_FSYNC_OFS = r.ofs ∧
        s'.tmg.realign = some { r with fsFn := some s.fn, phase := if r.ref = 15 then some (max s.now t, z.frameTime) else r.phase })) ∧
    (s.tmg.realign = some r → r.fs = false → r.pps = false → ∃ u : State, exec (.realignPulse t false rplOk) s =
          .next (u.complete .timingRealign .ok [fnWord r.fsFn, fnWord r.ppsFn] rplOk) ∧ u.tmg.realign = none) ∧
    (s.tmg.realign = some r → r.pps = true → r.ppsFn = none → r.ref ≠ 15 → r.start + 220000000 ≤ max s.now t →
      ∃ u : State, exec (.realignTimeout t rplOk) s = .next (u.complete .timingRealign .timeout [fnWord r.fsFn, 0] rplOk) ∧
        u.tmg.realign = none ∧ u.flag F.TMG_INT_REALIGNED = true ∧ u.rd F.TMG_ALIGN_PPS_REF = s.rd F.TMG_ALIGN_PPS_REF ∧
        u.tmg.ppsPh = s.tmg.ppsPh)

/-- R223 to R231, R243, R246, R248: the arbiter's queries on a device whose outputs are enabled, after the four samples of 1 that a
start bit needs: an accepted one is answered with ACK and the known epoch and counted; a poll sets STALE and the stop of an
older holder, a grant gives a lease and starts the guard (or is the grant of a handover), a renewal sets the lease anew, a
revocation ends it, a handover names its mark; one that its row refuses, or a malformed one, changes neither lease nor epoch and
is counted; an aborted transaction leaves no more than that it was aborted. In corners that the manual leaves open the model
takes the reading of log entries 37 and 40. Its conclusions that exec answers a next state, on conditions of the state and the
operands alone, are about: poll, grant, renew, revoke, handover, arbAbort. -/
def Obligations.ArbiterQueries : Prop :=
  ∀ (t ones : Nat) (q : W16) (rplOk : Bool) (s : State), s.alive = true → 4 ≤ ones →
    let e := qEpoch q
    let z := s.tick t
    let lease : Lease := { epoch := e, exp := max s.now t + s.leaseTicks }
    let canGrant := s.pair.lease = none ∧ epochNewer e s.epoch = true ∧
      (s.readyNow = true ∨ (qArg q = true ∧ s.flag F.PAIR_STAT_FAULT = false)) ∧ (z.hoGrant e = true ∨ z.mateQuiet = true)
    let canHand := s.acting = true ∧ s.holds e = true ∧ s.mateUp = true ∧ s.hbBit 1 = true ∧ s.pair.ho = none
    let refused := fun (s' : State) => bitOf s'.pair.answer.toNat 11 = false ∧ bits s'.pair.answer.toNat 0 8 = s.epoch.toNat ∧
      s'.pair.lease = s.pair.lease ∧ s'.pair.ho = s.pair.ho ∧ s'.epoch = s.epoch ∧ s'.acting = s.acting ∧
      s'.rd F.PAIR_ARB_CNT_REFUSED = min 65535 (s.rd F.PAIR_ARB_CNT_REFUSED + 1)
    let taken := fun (s' : State) => bitOf s'.pair.answer.toNat 11 = true ∧ bits s'.pair.answer.toNat 0 8 = s'.epoch.toNat ∧
      bitOf s'.pair.answer.toNat 15 = true ∧ s'.rd F.PAIR_ARB_CNT_ACCEPTED = min 65535 (s.rd F.PAIR_ARB_CNT_ACCEPTED + 1) ∧
      s'.acting = s.acting
    (queryOk q = true → qOp q = 0 → ∃ s', exec (.poll t ⟨ones, q⟩) s = .next s' ∧ taken s' ∧ s'.epoch = s.epoch ∧
      s'.pair.lease = s.pair.lease ∧ s'.map = s.map ∧ s'.sel = s.sel ∧
      (s.mode ≠ 0 → qArg q = true → s.acting = false → s.mateUp = false → s.mate.downAt + s.leaseTicks < max s.now t →
        s'.flag F.PAIR_STAT_STALE = true ∧ (s.flag F.PAIR_STAT_STALE = false → s'.flag F.PAIR_INT_STALE = true ∧ s'.mate.reqSent = true)) ∧
      (∀ l, s.mode ≠ 0 → s.acting = true → s.pair.lease = some l → epochNewer e l.epoch = true →
        (∀ h, s.pair.ho = some h → h.old = true → h.epoch ≠ e) → s'.pair.stopCause = some 3)) ∧
    (s.mode ≠ 0 → queryOk q = true → qOp q = 1 →
      (canGrant → ∃ s', exec (.grant t ⟨ones, q⟩ rplOk) s = .next s' ∧ taken s' ∧ s'.epoch = e ∧ s'.pair.lease = some lease ∧
        (z.hoGrant e = false → s'.pair.guardAt = some (max s.now t + guardTicks) ∧ s'.pair.ho = s.pair.ho) ∧
        (z.hoGrant e = true → s'.pair.guardAt = none ∧ s'.pair.ho = s.pair.ho.map fun h => { h with granted := true })) ∧
      (¬ canGrant → ∃ s', exec (.grant t ⟨ones, q⟩ rplOk) s = .next s' ∧ refused s')) ∧
    (s.mode ≠ 0 → queryOk q = true → qOp q = 2 →
      (s.holds e = true → ∃ s', exec (.renew t ⟨ones, q⟩) s = .next s' ∧ taken s' ∧ s'.pair.lease = some lease ∧
        s'.pair.guardAt = s.pair.guardAt ∧ s'.epoch = s.epoch) ∧
      (s.holds e = false → ∃ s', exec (.renew t ⟨ones, q⟩) s = .next s' ∧ refused s')) ∧
    (s.mode ≠ 0 → queryOk q = true → qOp q = 3 →
      (s.holds e = true → ∃ s', exec (.revoke t ⟨ones, q⟩) s = .next s' ∧ taken s' ∧ s'.pair.lease = none ∧ s'.pair.guardAt = none ∧
        (s.acting = true → s'.pair.stopCause = some 1) ∧ s'.epoch = s.epoch) ∧
      (s.holds e = false → ∃ s', exec (.revoke t ⟨ones, q⟩) s = .next s' ∧ refused s')) ∧
    (s.mode ≠ 0 → queryOk q = true → qOp q = 4 →
      (canHand → ∃ s', exec (.handover t ⟨ones, q⟩) s = .next s' ∧ taken s' ∧
        s'.pair.ho = some { h := s.fn + BitVec.ofNat 16 z.handoverIn, tick := s.core.markT + frameTicks * z.handoverIn,
                            epoch := e + 1, old := true, granted := false } ∧
        s'.mate.out.map (fun r => r.body) = s.mate.out.map (fun r => r.body) ++ [.handover (s.fn + BitVec.ofNat 16 z.handoverIn) (e + 1)]) ∧
      (¬ canHand → ∃ s', exec (.handover t ⟨ones, q⟩) s = .next s' ∧ refused s')) ∧
    (queryOk q = false → ∀ c ∈ [Instr.poll t ⟨ones, q⟩, .grant t ⟨ones, q⟩ rplOk, .renew t ⟨ones, q⟩, .revoke t ⟨ones, q⟩, .handover t ⟨ones, q⟩],
      ∃ s', exec c s = .next s' ∧ refused s') ∧
    exec (.arbAbort t) s = .next { s.tick t with pair := { s.pair with arbAborted := true } }

/-- R222, R224, R225, R230, R242, R243, R245, R247, R252: the lamp's events: a lease that does not last beyond the next mark stops
its holder at this one; the end of a guard, or a handover granted and stopped by the old holder, starts the new one at a mark;
what stopping and starting to act set; a handover without a grant lapses; the old holder's transmitters go idle; a drill and an
unanswered PAIR_SWAP. In corners that the manual leaves open the model takes the reading of log entries 36, 38 and 39. Its
conclusions that exec answers a next state, on conditions of the state and the operands alone, are about: leaseExpiry, guardEnd,
handoverMark, newHolderActs, handoverLapse, drillTimer, oldHolderTxIdle, pairSwapTimeout. -/
def Obligations.LampEvents : Prop :=
  ∀ (t : Nat) (l : Lease) (h : Handover) (g f t0 : Nat) (rest : List Nat) (cause : BitVec 3) (rplOk : Bool) (s : State),
    let mark := s.core.started = true ∧ max s.now t = s.core.markT
    (s.pair.lease = some l → s.acting = true → s.mode ≠ 0 → mark → l.exp ≤ s.core.markT + frameTicks →
      exec (.leaseExpiry t rplOk) s = .next ((s.tick t).stopActing 0 rplOk)) ∧
    (s.pair.lease = some l → s.acting = true → s.mode ≠ 0 → (¬ mark ∨ s.core.markT + frameTicks < l.exp) →
      exec (.leaseExpiry t rplOk) s = .next (s.tick t)) ∧
    (s.pair.lease = some l → (s.acting = false ∨ s.mode = 0) → l.exp ≤ max s.now t → ∃ s', exec (.leaseExpiry t rplOk) s = .next s' ∧
      s'.pair.lease = none ∧ s'.pair.guardAt = none ∧ s'.acting = s.acting ∧ ∀ k, s'.pair.ho = some k → k.old = false → k.granted = false) ∧
    (s.pair.guardAt = some g → mark → g ≤ s.core.markT → s.pair.lease = some l → s.core.markT + frameTicks < l.exp →
      exec (.guardEnd t) s = .next (s.tick t).startActing) ∧
    (s.pair.ho = some h → h.old = true → h.granted = true → s.acting = true → mark → s.fn = h.h →
      exec (.handoverMark t rplOk) s = .next ((s.tick t).stopActing 2 rplOk)) ∧
    (s.pair.ho = some h → h.old = false → h.granted = true → s.acting = false → mark → s.pair.lease = some l → s.core.markT + frameTicks < l.exp →
      (s.pair.stopSeen = true ∨ (16 ≤ fnDist s.fn h.h ∧ fnDist s.fn h.h < 32768)) → exec (.newHolderActs t) s = .next (s.tick t).startActing) ∧
    (let u := s.stopActing cause rplOk
     u.acting = false ∧ u.flag F.PAIR_INT_LAMP_CHG = true ∧ u.pair.ho = none ∧ u.pair.swapAt = [] ∧
      u.flag F.PAIR_STAT_SWAP_REQ = false ∧ (cause = 0 → u.flag F.PAIR_INT_LEASE_LOST = true) ∧
      (cause ≠ 1 → u.pair.lease = none ∧ u.pair.guardAt = none) ∧
      (cause = 1 → u.pair.lease = s.pair.lease ∧ u.pair.guardAt = s.pair.guardAt) ∧
      (s.mode = 2 → cause = 2 → u.pair.idleFn = some (s.core.frames + 2)) ∧
      ((cause = 3 ∨ cause = 4) → u.mate.seenMate = false) ∧
      (s.mode ≠ 0 → s.mateUp = true → s.mate.out.map (fun r => r.body) ++ [.stop (s.fn - 1) cause] = u.mate.out.map fun r => r.body)) ∧
    (let u := s.startActing
     u.acting = true ∧ u.flag F.PAIR_INT_LAMP_CHG = true ∧ u.pair.guardAt = none ∧ u.pair.ho = none ∧ u.pair.hasActed = true ∧
      u.pair.drillAt = s.now + 60 * minTicks * s.rd F.PAIR_CFG_DRILL_H ∧ u.map = s.map) ∧
    (s.pair.ho = some h → h.granted = false → h.tick < max s.now t + guardTicks →
      ∃ s', exec (.handoverLapse t rplOk) s = .next s' ∧ s'.pair.ho = none ∧ s'.acting = s.acting ∧ s'.pair.lease = s.pair.lease) ∧
    (s.acting = true → s.pair.drillAt ≤ max s.now t → s.flag F.PAIR_STAT_SWAP_REQ = false →
      ∃ s', exec (.drillTimer t) s = .next s' ∧ s'.flag F.PAIR_STAT_SWAP_REQ = true ∧ s'.flag F.PAIR_INT_DRILL_DUE = true ∧ s'.acting = true) ∧
    (s.pair.idleFn = some f → (f < s.core.frames ∨ (s.core.frames = f ∧ s.core.markT + 650 ≤ max s.now t)) →
      ∃ s', exec (.oldHolderTxIdle t) s = .next s' ∧ s'.pair.idleFn = none ∧ s'.pair.frozen = [] ∧
        (s.mode = 2 → s.acting = false → s.mateUp = true → s.flag F.PAIR_STAT_MATE_ACTING = true → s.pair.ho = none → s.pair.guardAt = none →
          s'.flag F.PAIR_STAT_EFF_DUPLEX = false ∧
          ∀ p, p < 48 → s.rd (F.PRT_CFG_LOOP p) = 0 → (s.dyn p).tx ≠ 3 → (s'.dyn p).tx = 0)) ∧
    (s.pair.swapAt = t0 :: rest → t0 + 5 * secTicks ≤ max s.now t → s.pair.ho = none →
      ∃ u : State, exec (.pairSwapTimeout t rplOk) s = .next (u.complete .pairSwap .timeout [] rplOk).refreshPair ∧
        u.flag F.PAIR_STAT_SWAP_REQ = false ∧ u.pair.swapAt = rest)

/-- R20, R242, R251, R252: PAIR_CONFIGURE, PAIR_SWAP and PAIR_STATUS: what they set where nothing turns them away, and what turns
them away: a device that was synchronised or has acted and does not act, values out of range, MODE 00 beside a lease or a mate,
a pending handover, a mate that is down or stale. In corners that the manual leaves open the model takes the reading of log
entries 21 and 36. Its conclusions that exec answers a next state, on conditions of the state and the operands alone, are about:
pairConfigure, pairSwap, pairStatus. -/
def Obligations.PairCommands : Prop :=
  ∀ (x : Exe) (i : Nat) (k : Taken) (s : State),
    (Starts s .pairConfigure x i k → onlyBits (word k.d 2) 7 = true → bits (word k.d 2) 0 2 ≠ 3 → onlyBits (word k.d 3) 0xFF = true →
      onlyBits (word k.d 4) 0x3FF = true →
      let new := bits (word k.d 2) 0 2
      let may := s.fresh0 = true ∨ s.acting = true
      let good := pairRanges k.d = true ∧ (s.fresh0 = true ∨ bits (word k.d 2) 2 1 = s.rd F.PAIR_CFG_SIDE)
      let apart := new = 0 ∧ s.mode ≠ 0 ∧ (s.pair.lease ≠ none ∨ s.mateUp = true)
      (may → good → ¬ apart →
        ∃ u : State, exec (.pairConfigure x) s = .next (u.finish i k .ok [] x.rplOk) ∧ u.mode = new ∧
          u.rd F.PAIR_CFG_SIDE = bits (word k.d 2) 2 1 ∧ u.rd F.PAIR_CFG_LEASE = word k.d 3 ∧ u.rd F.PAIR_CFG_DRILL_H = word k.d 4 ∧
          u.acting = s.acting ∧
          (s.mode = 0 → new ≠ 0 → s.acting = true → u.epoch = s.epoch + 1 ∧
            u.pair.lease = some { epoch := s.epoch + 1, exp := max s.now x.t + word k.d 3 * 10 * msTicks }) ∧
          ((s.mode ≠ 0 ∨ new = 0 ∨ s.acting = false) → u.epoch = s.epoch ∧ u.pair.lease = s.pair.lease)) ∧
      (¬ may → exec (.pairConfigure x) s = .next ((s.tick x.t).finish i k .notLampHolder [] x.rplOk)) ∧
      (may → ¬ good → exec (.pairConfigure x) s = .next ((s.tick x.t).finish i k .badParam [] x.rplOk)) ∧
      (may → good → apart → exec (.pairConfigure x) s = .next ((s.tick x.t).finish i k .busy [] x.rplOk))) ∧
    (Starts s .pairSwap x i k →
      (s.pair.ho = none → s.mateUp = true → s.hbBit 2 = false →
        ∃ u : State, exec (.pairSwap x) s = .next (u.accept i k [] x.rplOk) ∧ u.flag F.PAIR_STAT_SWAP_REQ = true ∧
          u.flag F.PAIR_INT_DRILL_DUE = true ∧ u.pair.swapAt = s.pair.swapAt ++ [max s.now x.t] ∧ u.acting = true) ∧
      (s.pair.ho ≠ none → exec (.pairSwap x) s = .next ((s.tick x.t).finish i k .busy [] x.rplOk)) ∧
      (s.pair.ho = none → (s.mateUp = false ∨ s.hbBit 2 = true) → exec (.pairSwap x) s = .next ((s.tick x.t).finish i k .staleMirror [] x.rplOk))) ∧
    (Starts s .pairStatus x i k → ∃ u : State, exec (.pairStatus x) s = .next (u.finish i k .ok [u.reg 0x40060004, u.reg 0x40060008,
        BitVec.ofNat 32 (min s.pair.disSince 0xFFFFFFFF), BitVec.ofNat 32 (min s.pair.dropSince 0xFFFFFFFF)] x.rplOk) ∧
      u.pair.disSince = 0 ∧ u.pair.dropSince = 0 ∧ u.acting = s.acting ∧ u.flag F.PAIR_LEASE_VALID = s.pair.lease.isSome)

/-- R19, R215, R222, R223, R232, R234, R235, R243, R248: what a device takes from its mate's lanes and lamp records: a frame with
its FAW puts a lane in frame and the link up, and a standby takes the holder's FN and alignment; the fourth frame in a row
without it ends the alignment; a lane out of frame for 1 ms is dropped, and the link goes down with the last; a heartbeat
becomes the mate's state, one of an older epoch shows a second holder; STOP and HANDOVER are noted; a request for a
resynchronisation waits for the mark. In corners that the manual leaves open the model takes the reading of log entries 36, 43
and 79. Its conclusions that exec answers a next state, on conditions of the state and the operands alone, are about:
mateFrameRx, mateLaneDrop, heartbeatRecord, stopRecord, handoverRecord, resyncReq. -/
def Obligations.MateLinkAndLampRecords : Prop :=
  ∀ (t : Nat) (lane : Fin 2) (half : Bool) (symbols : List (Fin 4)) (align : BitVec 21) (pps : Nat) (fn : W16) (h : RecHdr) (body : W64)
    (cause : BitVec 3) (e : W8) (ho : Handover) (s : State),
    (s.mode ≠ 0 → s.alive = true →
      let line := ziuthBits 1 half symbols
      let x := ziuthDecode 1 line
      let l := s.lane lane.val
      let found := ziuthFits 1 line.length = true ∧ fawErrors line ≤ 3
      (found → ∃ s', exec (.mateFrameRx t lane ⟨half, symbols⟩ ⟨align, pps⟩) s = .next s' ∧
        s'.lane lane.val = { frame := true, since := max s.now t, dropped := false, errRun := 0, corr := min x.2.1 65535,
                             uncorr := min x.2.2 255, bad := !regionCrcOk x.1,
                             rdiEnd := if l.frame then l.rdiEnd else max s.now t + 20 * frameTicks } ∧
        s'.mateUp = true ∧ s'.acting = s.acting ∧
        (s.acting = false → s.flag F.PAIR_STAT_MATE_ACTING = true →
          s'.fn = BitVec.ofNat 16 (256 * (x.1.getD 0 0).toNat + (x.1.getD 1 0).toNat) ∧
          (s.tmg.configured = true → s'.rd F.TMG_ALIGN_FSYNC_OFS = bits align.toNat 0 17 ∧
            s'.rd F.TMG_ALIGN_PPS_REF = bits align.toNat 17 4))) ∧
      (¬ found → l.frame = true → 3 ≤ l.errRun → exec (.mateFrameRx t lane ⟨half, symbols⟩ ⟨align, pps⟩) s =
        .next ((s.tick t).setLane lane.val { l with frame := false, since := max s.now t, errRun := 0 })) ∧
      (¬ found → (l.frame = false ∨ l.errRun < 3) → exec (.mateFrameRx t lane ⟨half, symbols⟩ ⟨align, pps⟩) s =
        .next ((s.tick t).setLane lane.val { l with errRun := if l.frame then l.errRun + 1 else 0 }))) ∧
    ((s.mode = 0 ∨ s.alive = false) → exec (.mateFrameRx t lane ⟨half, symbols⟩ ⟨align, pps⟩) s = .next (s.tick t)) ∧
    ((s.lane lane.val).frame = false → (s.lane lane.val).dropped = false → (s.lane lane.val).since + msTicks ≤ max s.now t → s.mateUp = true →
      ∃ s', exec (.mateLaneDrop t lane) s = .next s' ∧ (s'.lane lane.val).dropped = true ∧
        s'.mateUp = !(s.lane (1 - lane.val)).dropped ∧
        ((s.lane (1 - lane.val)).dropped = true → s'.flag F.PAIR_INT_MATE_DOWN = true ∧ s'.mate.downAt = max s.now t ∧ s'.mate.rs = none)) ∧
    (RecordTaken s h (.heartbeat body) →
      ∃ s', exec (.heartbeatRecord t h body) s = .next s' ∧
        s'.mate.hb = some { t := max s.now t, body := body, fn := h.fn, epoch := h.epoch } ∧
        s'.flag F.PAIR_STAT_MATE_ACTING = body.getLsbD 0 ∧ s'.acting = s.acting ∧ s'.mate.seqIn = some h.seq ∧
        s'.epoch = (if epochNewer h.epoch s.epoch then h.epoch else s.epoch) ∧
        (s.acting = false → s'.rd F.PAIR_SEQ_SEQ = h.seq.toNat ∧ s'.rd F.PAIR_SYNC_FN_FN = h.fn.toNat) ∧
        (s.acting = true → body.getLsbD 0 = true → s'.flag F.PAIR_INT_DUAL = true ∧
          (∀ l, s.pair.lease = some l → (epochNewer h.epoch l.epoch = true ∨ (h.epoch = l.epoch ∧ s.flag F.PAIR_CFG_SIDE = true)) →
            s'.pair.stopCause = some 4))) ∧
    (s.mode ≠ 0 → s.mateUp = true → s.alive = true → recFits h (.heartbeat body) = true → epochNewer s.epoch h.epoch = true →
      s.acting = true → ∃ s', exec (.heartbeatRecord t h body) s = .next s' ∧ s'.mate.hb = s.mate.hb ∧ s'.acting = true ∧
        (body.getLsbD 0 = true → s'.flag F.PAIR_INT_DUAL = true)) ∧
    (RecordTaken s h (.stop fn cause) → ∃ s', exec (.stopRecord t h fn cause) s = .next s' ∧ s'.acting = s.acting ∧
      (s.pair.ho = some ho → ho.old = false → cause = 2 → s'.pair.stopSeen = true ∧ s'.pair.ho = s.pair.ho) ∧
      (s.pair.ho = some ho → ho.old = false → cause ≠ 2 → s'.pair.ho = none) ∧
      ((s.pair.ho = none ∨ (s.pair.ho = some ho ∧ ho.old = true)) → s'.pair = s.pair)) ∧
    (RecordTaken s h (.handover fn e) → ∃ s', exec (.handoverRecord t h fn e) s = .next s' ∧ s'.acting = s.acting ∧
      (s.acting = false → fnFuture fn s.fn = true →
        s'.pair.ho = some { h := fn, tick := s.core.markT + frameTicks * fnDist fn s.fn, epoch := e, old := false, granted := false }) ∧
      ((s.acting = true ∨ fnFuture fn s.fn = false) → s'.pair.ho = s.pair.ho)) ∧
    (RecordTaken s h .resyncReq → ∃ s', exec (.resyncReq t h) s = .next s' ∧ s'.mate.reqPend = (s.mate.reqPend || s.acting) ∧
      s'.map = s.map ∧ s'.regs = s.regs)

/-- R235 to R239: records that the mirror of a standby takes: entries go into its shadow page; a commit is kept if it comes in time,
or discarded; a cancelled one is discarded; selector changes wait for their mark, with late ones counted; history and the parts
of a command are kept, and with its last part the command is applied, or a resynchronisation is asked for. In corners that the
manual leaves open the model takes the reading of log entry 42. Its conclusions that exec answers a next state, on conditions of
the state and the operands alone, are about: mapEntries, commitArm, commitCancel, selState, historyRecord, settingsRecord. -/
def Obligations.MirrorRecords : Prop :=
  ∀ (t : Nat) (h : RecHdr) (es : List (BitVec 25 × W64)) (fn id : W16) (sent off total : W32) (items : List W64) (rec_ : Bool)
    (d : List W32) (data : List W8) (s : State), InStep s →
      (RecordTaken s h (.mapEntries (es.map fun e => (e.1.toNat, e.2))) →
        ∃ s', exec (.mapEntries t h es) s = .next s' ∧ s'.shadow = es.foldl (fun p e => putEntry p e.1.toNat e.2) s.shadow ∧
          s'.active = s.active ∧ s'.flag F.MAP_STATUS_CHECK_VALID = false ∧ s'.sel = s.sel) ∧
      (RecordTaken s h (.commitArm fn id sent) →
        ∃ s', exec (.commitArm t h fn id sent) s = .next s' ∧ s'.active = s.active ∧ s'.shadow = s.shadow ∧
          (2 ≤ fnDist fn s.fn → fnDist fn s.fn < 32768 → s'.mate.mcommit = some { target := fn, id := id }) ∧
          (¬(2 ≤ fnDist fn s.fn ∧ fnDist fn s.fn < 32768) → s'.mate.mcommit = none ∧ s'.flag F.PAIR_INT_DIFF_DISCARD = true ∧ s'.mate.reqSent = true)) ∧
      (RecordTaken s h (.commitCancel fn) →
        ∃ s', exec (.commitCancel t h fn) s = .next s' ∧ s'.active = s.active ∧ s'.shadow = s.shadow ∧ s'.mate.reqSent = false ∧
          (∀ c, s.mate.mcommit = some c → c.target = fn → s'.mate.mcommit = none ∧ s'.flag F.PAIR_INT_DIFF_DISCARD = true) ∧
          ((∀ c, s.mate.mcommit = some c → c.target ≠ fn) → s'.mate.mcommit = s.mate.mcommit)) ∧
      (RecordTaken s h (.selState items) →
        ∃ s', exec (.selState t h items) s = .next s' ∧ s'.mate.selQ = s.mate.selQ ++ items ∧ s'.sel = s.sel ∧
          s'.rd F.PAIR_MIR_LATE_COUNT = min (2 ^ F.PAIR_MIR_LATE_COUNT.w - 1)
            (s.rd F.PAIR_MIR_LATE_COUNT + (items.filter fun x => !fnFuture (itemFn x) s.fn).length)) ∧
      (RecordTaken s h (.history off rec_ fn) →
        ∃ s', exec (.historyRecord t h off rec_ fn) s = .next s' ∧ s'.map = s.map ∧
          s'.tmg = { s.tmg with mateHist := ((if rec_ then [(max s.now t, off.toInt)] else []) ++ s.tmg.mateHist).take 908 }) ∧
      (RecordTaken s h (.settings off total d data) →
        let parts := (if off.toNat = 0 then [] else s.mate.parts) ++ [(d, off.toNat, total.toNat, data)]
        let whole := parts.flatMap fun p => p.2.2.2
        let r : MateRec := { body := .settings off total d data, last := h.last, seq := h.seq, fn := h.fn, epoch := h.epoch }
        let u := ((({ s.tick t with mate := { s.mate with seqIn := some h.seq } } : State).noteRec r).mapMate fun m => { m with parts := [] })
        (h.last = false → ∃ s', exec (.settingsRecord t h off total d data) s = .next s' ∧ s'.map = s.map ∧ s'.sel = s.sel ∧
          s'.mate.parts = parts) ∧
        (h.last = true → whole.length ≠ total.toNat → exec (.settingsRecord t h off total d data) s = .next u.wantResync) ∧
        (h.last = true → whole.length = total.toNat →
          exec (.settingsRecord t h off total d data) s = .next ((u.applyCommand d whole).getD u.wantResync)) ∧
        (h.last = true → whole = [] → total = 0 → opcode d = 0x40 → bits (word d 2) 0 4 = 3 → timingOk s d = true →
          ∃ s', exec (.settingsRecord t h off total d data) s = .next s' ∧ s'.reg 0x40050020 = d.getD 3 0 ∧ s'.mate.parts = [] ∧ s'.map = s.map))

/-- R236, R241, R318: a full resynchronisation from the holder's snapshot to the standby's swap, what records do in the meantime,
and the standby's swap at a mirrored commit or its discard. In corners that the manual leaves open the model takes the reading
of log entries 41 and 81. Its conclusions that exec answers a next state, on conditions of the state and the operands alone, are
about: resyncStart, resyncBegin, resyncData, resyncEnd, mapEntries, resyncSwap, mirroredSwap. -/
def Obligations.Resynchronisation : Prop :=
  ∀ (t : Nat) (h : RecHdr) (fn : W16) (region : Fin 7) (off : W32) (data : List W8) (n : W32) (r : Resync) (xs : List (BitVec 25 × W64))
    (c : MirrorCommit) (b : Beat) (s : State),
    let mark := s.core.started = true ∧ max s.now t = s.core.markT
    let susp := s.flag F.CORE_STATUS_BG_SUSPENDED
    (s.mate.reqPend = true → s.acting = true → mark → s.mode ≠ 0 → s.mateUp = true → susp = false →
      ∃ s', exec (.resyncStart t) s = .next s' ∧ s'.mate.reqPend = false ∧ s'.acting = true ∧ s'.map = s.map ∧
        s'.mate.out.map (fun x => x.body) = s.mate.out.map (fun x => x.body) ++ [.resyncBegin s.fn] ++ (s.tick t).snapshot.map .resyncAll ++
          [.resyncEnd (BitVec.ofNat 32 (((s.tick t).snapshot.map Region.records).sum + 2))]) ∧
    ((s.mate.reqPend = false ∨ susp = true) → exec (.resyncStart t) s = .next (s.tick t)) ∧
    (Mirrors s →
      (RecordTaken s h (.resyncBegin fn) →
        ∃ s', exec (.resyncBegin t h fn) s = .next s' ∧ s'.mate.rs = some { got := [], ended := false, later := [] } ∧
          s'.mate.reqSent = false ∧ s'.map = s.map ∧ s'.flag F.PAIR_STAT_RESYNC = true ∧
          (s.pair.guardAt = none → s'.flag F.PAIR_STAT_READY = false)) ∧
      (s.mate.rs = some r → s.mate.reqSent = false →
        (RecordTaken s h (.resyncData region.val off data) →
          ∃ s', exec (.resyncData t h ⟨region, off, data⟩) s = .next s' ∧
            s'.mate.rs = some { r with got := r.got ++ (chunks 8 (data.length / 8) data).zipIdx.map fun b =>
              (region.val, off.toNat / 8 + b.2, BitVec.ofNat 64 (ofLe b.1)) } ∧ s'.map = s.map ∧ s'.sel = s.sel) ∧
        (RecordTaken s h (.resyncEnd n) →
          ∃ s', exec (.resyncEnd t h n) s = .next s' ∧ s'.mate.rs = some { r with ended := true } ∧ s'.map = s.map) ∧
        (RecordTaken s h (.mapEntries (xs.map fun e => (e.1.toNat, e.2))) →
          ∃ s', exec (.mapEntries t h xs) s = .next s' ∧ s'.map = s.map ∧
            s'.mate.rs = some { r with later := r.later ++ [{ body := .mapEntries (xs.map fun e => (e.1.toNat, e.2)), last := h.last,
                                                              seq := h.seq, fn := h.fn, epoch := h.epoch }] }))) ∧
    (s.mate.rs = some r → r.ended = true → mark → s.acting = false → susp = false →
      ∃ u : State, exec (.resyncSwap t) s =
          .next (r.later.foldl (fun s x => if s.mate.reqSent then s else (s.noteRec x).applyBody x.last x.body) u).refreshPair ∧
        u.mate.rs = none ∧ u.mate.synced = true ∧ u.flag F.PAIR_STAT_STALE = false ∧ u.flag F.PAIR_INT_RESYNC_DONE = true ∧
        u.active = (r.got.filter fun x => decide (x.1 = 0) && decide (x.2.1 < 2 ^ 25)).foldl (fun p x => putEntry p x.2.1 x.2.2) [] ∧
        u.shadow = (shadowEntries r.got).foldl (fun p e => putEntry p e.1 e.2) u.active ∧
        (∀ m w, m < 2 ^ 21 → (3, m, w) ∈ r.got → (∀ v, (3, m, v) ∈ r.got → v = w) → u.monRaw m = w) ∧
        (∀ m lo hi, m < 2 ^ 20 → (2, 2 * m, lo) ∈ r.got → (2, 2 * m + 1, hi) ∈ r.got → (∀ v, (2, 2 * m, v) ∈ r.got → v = lo) →
          (∀ v, (2, 2 * m + 1, v) ∈ r.got → v = hi) → u.selRaw m = BitVec.ofNat 128 (lo.toNat + 2 ^ 64 * hi.toNat))) ∧
    (s.mate.rs = some r → (r.ended = false ∨ susp = true) → exec (.resyncSwap t) s = .next (s.tick t)) ∧
    (s.mate.mcommit = some c → c.target = s.fn → mark →
      (s.mate.hb = some b → b.fn = s.fn - 1 → b.body.getLsbD 0 = true →
        ∃ s', exec (.mirroredSwap t) s = .next s' ∧ s'.active = s.shadow ∧ s'.mate.mcommit = none ∧ s'.rd F.MAP_FN_LAST_SWAP_FN = s.fn.toNat) ∧
      (((∃ b, s.mate.hb = some b ∧ b.fn = s.fn - 1 ∧ b.body.getLsbD 0 = false) ∨ (∀ b, s.mate.hb = some b → b.fn ≠ s.fn - 1)) →
        ∃ s', exec (.mirroredSwap t) s = .next s' ∧ s'.active = s.active ∧ s'.shadow = s.shadow ∧
          s'.mate.mcommit = none ∧ s'.flag F.PAIR_INT_DIFF_DISCARD = true))

/-- R309, R310, R314, R315: every millisecond a readback that agrees ends AVS_FAIL, a failed one or the third disagreement in a row
sets it and commands 0.80 V, an earlier disagreement is counted; the estimates are published, and OVER_TEMP follows the limit
with its hysteresis of 3 degrees. R312, R315: POWER_BUDGET takes PMAX 0 or 500 to 4,000 and a limit of 50 to 105 degrees and
answers the estimates; other values are BAD_PARAM and change nothing; LATENCY_BUDGET sets the budget of every port it names and
of no other, and is BAD_PARAM where it names none or a bond member. Its conclusions that exec answers a next state, on
conditions of the state and the operands alone, are about: avsReadback, powerEstimate, powerBudget, latencyBudget. -/
def Obligations.PowerSupplyAndBudgets : Prop :=
  (∀ (t : Nat) (ok : Bool) (mv : BitVec 10) (base total : W16) (tj : BitVec 8) (s : State),
      (s.lastOf 9 + msTicks ≤ max s.now t →
        (mv.toNat ≤ s.rd F.PWR_VCORE_CMD_MV + 20 → s.rd F.PWR_VCORE_CMD_MV ≤ mv.toNat + 20 →
          ∃ s', exec (.avsReadback t true mv) s = .next s' ∧ s'.flag F.BG_STATUS_AVS_FAIL = false ∧ s'.rd F.PWR_VCORE_READ_MV = mv.toNat ∧
            s'.rd F.PWR_VCORE_CMD_MV = s.rd F.PWR_VCORE_CMD_MV ∧ s'.pwr.misreads = 0 ∧ RegsKept s s' [0x40030004, 0x40030018]) ∧
        (∃ s', exec (.avsReadback t false mv) s = .next s' ∧ s'.flag F.BG_STATUS_AVS_FAIL = true ∧ s'.flag F.PWR_INT_AVS_ERR = true ∧
          s'.rd F.PWR_VCORE_CMD_MV = 800 ∧ s'.rd F.PWR_VCORE_READ_MV = s.rd F.PWR_VCORE_READ_MV ∧
          RegsKept s s' [0x40030004, 0x40030018, 0x40030030]) ∧
        ((s.rd F.PWR_VCORE_CMD_MV + 20 < mv.toNat ∨ mv.toNat + 20 < s.rd F.PWR_VCORE_CMD_MV) →
          (2 ≤ s.pwr.misreads → ∃ s', exec (.avsReadback t true mv) s = .next s' ∧ s'.flag F.BG_STATUS_AVS_FAIL = true ∧
            s'.flag F.PWR_INT_AVS_ERR = true ∧ s'.rd F.PWR_VCORE_CMD_MV = 800 ∧ s'.rd F.PWR_VCORE_READ_MV = mv.toNat ∧
            RegsKept s s' [0x40030004, 0x40030018, 0x40030030]) ∧
          (s.pwr.misreads < 2 → ∃ s', exec (.avsReadback t true mv) s = .next s' ∧ s'.pwr.misreads = s.pwr.misreads + 1 ∧
            s'.flag F.BG_STATUS_AVS_FAIL = s.flag F.BG_STATUS_AVS_FAIL ∧ s'.rd F.PWR_VCORE_READ_MV = mv.toNat ∧
            s'.rd F.PWR_VCORE_CMD_MV = (if s.flag F.BG_STATUS_AVS_FAIL then 800 else s.rd F.PWR_VCORE_CMD_MV) ∧ RegsKept s s' [0x40030004]))) ∧
      (max s.now t < s.lastOf 9 + msTicks → exec (.avsReadback t ok mv) s = .next (s.tick t)) ∧
      (s.lastOf 8 + msTicks ≤ max s.now t →
        ∃ s', exec (.powerEstimate t base total tj) s = .next s' ∧ s'.rd F.PWR_EST_BASE = base.toNat ∧ s'.rd F.PWR_EST_TOTAL = total.toNat ∧
          s'.rd F.PWR_TEMP_TJ = tj.toNat ∧
          ((s.rd F.PWR_BUDGET_TJ_LIMIT : Int) ≤ tj.toInt → s'.flag F.BG_STATUS_OVER_TEMP = true ∧
            (s.flag F.BG_STATUS_OVER_TEMP = false → s'.flag F.PWR_INT_OVER_TEMP = true)) ∧
          (tj.toInt < (s.rd F.PWR_BUDGET_TJ_LIMIT : Int) - 3 → s'.flag F.BG_STATUS_OVER_TEMP = false) ∧
          ((s.rd F.PWR_BUDGET_TJ_LIMIT : Int) - 3 ≤ tj.toInt → tj.toInt < (s.rd F.PWR_BUDGET_TJ_LIMIT : Int) →
            s'.flag F.BG_STATUS_OVER_TEMP = s.flag F.BG_STATUS_OVER_TEMP) ∧
          (s.rd F.PWR_BUDGET_PMAX = 0 → s'.flag F.BG_STATUS_OVER_BUDGET = false) ∧
          (s.rd F.PWR_BUDGET_PMAX ≠ 0 → s.rd F.PWR_BUDGET_PMAX < base.toNat → s.pwr.overSince.any (fun t0 => decide (t0 + 100 * msTicks ≤ max s.now t)) = true →
            s'.flag F.BG_STATUS_OVER_BUDGET = true) ∧
          RegsKept s s' [0x40030008, 0x4003000C, 0x40030018, 0x40030030]) ∧
      (max s.now t < s.lastOf 8 + msTicks → exec (.powerEstimate t base total tj) s = .next (s.tick t))) ∧
  (∀ (x : Exe) (i : Nat) (k : Taken) (s : State),
      (Starts s .powerBudget x i k → onlyBits (word k.d 2) 0xFFFFFF = true →
        ((bits (word k.d 2) 0 16 = 0 ∨ (500 ≤ bits (word k.d 2) 0 16 ∧ bits (word k.d 2) 0 16 ≤ 4000)) →
          50 ≤ bits (word k.d 2) 16 8 → bits (word k.d 2) 16 8 ≤ 105 →
          ∃ u : State, exec (.powerBudget x) s = .next (u.finish i k .ok [s.reg 0x40030008] x.rplOk) ∧
            u.rd F.PWR_BUDGET_PMAX = bits (word k.d 2) 0 16 ∧ u.rd F.PWR_BUDGET_TJ_LIMIT = bits (word k.d 2) 16 8 ∧
            RegsKept s u [0x40030010] ∧ u = { s with now := max s.now x.t, regs := u.regs }) ∧
        (((bits (word k.d 2) 0 16 ≠ 0 ∧ (bits (word k.d 2) 0 16 < 500 ∨ 4000 < bits (word k.d 2) 0 16)) ∨
            bits (word k.d 2) 16 8 < 50 ∨ 105 < bits (word k.d 2) 16 8) →
          exec (.powerBudget x) s = .next ((s.tick x.t).finish i k .badParam [] x.rplOk))) ∧
      (Starts s .latencyBudget x i k → onlyBits (word k.d 3) 0xFFFF = true →
        (budgetPorts k.d ≠ [] → (∀ p ∈ budgetPorts k.d, s.member p = false) →
        ∃ u : State, exec (.latencyBudget x) s = .next (u.finish i k .ok [BitVec.ofNat 32 (budgetPorts k.d).length] x.rplOk) ∧
          (∀ p ∈ budgetPorts k.d, u.reg (prtBase p + 0xC) = BitVec.ofNat 32 (word k.d 4)) ∧
          RegsKept s u ((budgetPorts k.d).map fun p => prtBase p + 0xC) ∧ u = { s with now := max s.now x.t, regs := u.regs }) ∧
        ((budgetPorts k.d = [] ∨ (∃ p ∈ budgetPorts k.d, s.member p = true)) →
          exec (.latencyBudget x) s = .next ((s.tick x.t).finish i k .badParam [] x.rplOk))))

/-- R320 to R323: SELFTEST starts a run under the next RUN_ID, an intrusive one only on a disabled port or a standby with the lamp
released; while an intrusive one or the same test runs it is BUSY, and a bad port or argument is BAD_PARAM; SELFTEST_RESULT
repeats the words of a kept completed run; each test's end keeps its result, sets SELFTEST_DONE and completes the command. The
PASS of an eye scan and of an MRAM check is a free value (log entry 1). In corners that the manual leaves open the model takes
the reading of log entries 13 and 44. Its conclusions that exec answers a next state, on conditions of the state and the
operands alone, are about: selftest, selftestResult, eyeScanDone, mramCheckDone, lanePrbsEnd, stackMarchDone. -/
def Obligations.SelfTests : Prop :=
  ∀ (x : Exe) (i : Nat) (k : Taken) (r : TestRun) (t e : Nat) (width height : W16) (worst : Fin 4) (p : Port) (errors : W32)
    (unlocked : BitVec 4) (failed first : W32) (rplOk : Bool) (s : State),
    (Starts s .selftest x i k → onlyBits (word k.d 2) 0x3FFF = true → testOf k.d ∈ [0x01, 0x02, 0x03, 0x04, 0x05, 0x10, 0x11] →
      let test := testOf k.d
      let port := testPort k.d
      let z := s.tick x.t
      let good := (test = 0x10 → word k.d 3 ≠ 0 ∧ word k.d 3 ≤ 60000) ∧ (test ≠ 0x10 → word k.d 3 = 0) ∧ s.testPortOk k.d = true
      let idle := s.intrusive = false ∧ s.testRunning test = false
      let may := (test = 0x10 → s.enabled port = true → s.released0 = true) ∧ (test = 0x11 → s.released0 = true)
      (¬ good → exec (.selftest x) s = .next (z.finish i k .badParam [] x.rplOk)) ∧
      (good → ¬ idle → exec (.selftest x) s = .next (z.finish i k .busy [] x.rplOk)) ∧
      (good → idle → ¬ may → exec (.selftest x) s = .next (z.finish i k .selftestRefused [] x.rplOk)) ∧
      (good → idle → may →
        ∃ u : State, exec (.selftest x) s = .next (u.accept i k [BitVec.ofNat 32 s.nextRun] x.rplOk) ∧ u.pwr.runId = s.nextRun ∧
          u.pwr.runs.head? = some { id := s.nextRun, test := test, port := port, pass := false, w2 := 0, w3 := 0,
                                    left := testUnits test, done := false } ∧ u.map = s.map ∧ u.sel = s.sel ∧
          (test ≠ 0x10 → test ≠ 0x11 → u = { s with now := max s.now x.t, pwr := u.pwr }) ∧
          (test = 0x10 → Store.get (fun _ => none) u.pwr.prbs port = some (max s.now x.t + word k.d 3 * msTicks) ∧ (u.dyn port).tx = 3 ∧
            ∀ q, q ≠ port → u.dyn q = s.dyn q) ∧
          (test = 0x11 → u.pwr.march = 1))) ∧
    (Starts s .selftestResult x i k → onlyBits (word k.d 2) 0xFFFF = true →
      let kept := s.pwr.runs.take 16
      let found := if word k.d 2 = 0xFFFF then kept.head? else kept.find? fun r => decide (r.id = word k.d 2)
      (found = some r → r.done = true → exec (.selftestResult x) s = .next ((s.tick x.t).finish i k .ok
        [BitVec.ofNat 32 r.id, BitVec.ofNat 32 (b2n r.pass), r.w2, r.w3] x.rplOk)) ∧
      ((found = none ∨ (found = some r ∧ r.done = false)) →
        exec (.selftestResult x) s = .next ((s.tick x.t).finish i k .badParam [] x.rplOk))) ∧
    (s.testRunning 0x04 = true → s.released 6 = true → ∃ u : State, ∃ pass, exec (.eyeScanDone t width height worst rplOk) s =
        .next (u.endRun 0x04 pass (BitVec.ofNat 32 (width.toNat + 65536 * height.toNat)) (BitVec.ofNat 32 worst.val) rplOk) ∧
      u = { s with now := max s.now t, fresh := s.fresh + 1, pwr := u.pwr } ∧ u.pwr.runs = s.pwr.runs) ∧
    (s.testRunning 0x05 = true → s.released 7 = true → ∃ u : State, ∃ pass, exec (.mramCheckDone t rplOk) s =
        .next (u.endRun 0x05 pass (w32 u.goodAreas) 0 rplOk) ∧
      u = { s with now := max s.now t, fresh := s.fresh + 1, pwr := u.pwr } ∧ u.pwr.runs = s.pwr.runs) ∧
    (Store.get (fun _ => none) s.pwr.prbs p.val = some e → e ≤ max s.now t →
      ∃ u : State, exec (.lanePrbsEnd t p errors unlocked rplOk) s =
        .next (u.endRun 0x10 (decide (errors = 0) && decide (unlocked = 0)) errors (BitVec.ofNat 32 unlocked.toNat) rplOk).refreshFault.refreshPair ∧
        Store.get (fun _ => none) u.pwr.prbs p.val = none ∧ u.pwr.runs = s.pwr.runs ∧
        (u.dyn p.val).tx = (if s.enabled p.val = true ∧ s.depth p.val = 0 then 1 else 0)) ∧
    (s.pwr.march = 2 → ∃ u : State, exec (.stackMarchDone t failed first rplOk) s =
        .next (u.endRun 0x11 (decide (failed = 0)) failed first rplOk).refreshFault.wantResync.refreshPair ∧
      u.pwr.march = 0 ∧ u.map.page0 = [] ∧ u.map.page1 = [] ∧ u.sel = SelSt.reset ∧ u.pwr.runs = s.pwr.runs) ∧
    (∀ test pass w2 w3, s.runOfTest test = some r → ∃ u : State, s.endRun test pass w2 w3 rplOk =
        u.completeWhere .selftest (fun d => decide (bits (word d 2) 0 8 = test)) .ok [BitVec.ofNat 32 r.id, BitVec.ofNat 32 (b2n pass), w2, w3] rplOk ∧
      u.testRunning test = false ∧ u.flag F.PWR_INT_SELFTEST_DONE = true ∧ RegsKept s u [0x40030030])

/-- R326 to R329, R332, R333, R336: a count event adds to every counter in use that is defined by it and to no other; at a dump mark
that is not skipped every count is latched and starts anew, at a skipped one only those whose definition changes do; definitions
take effect at the mark, and their counters start from zero. In corners that the manual leaves open the model takes the reading
of log entry 45. -/
def Obligations.CountsAndDumpMarks : Prop :=
  ∀ (code arg m n : Nat) (ok : Bool) (e th : W32) (s : State), n < 64 →
    (evEn (s.tallyEvt n) = true → evEvent (s.tallyEvt n) = code → evMode (s.tallyEvt n) = 0 → evArg (s.tallyEvt n) = arg →
      (s.count code arg m).reg (0x40040400 + 4 * n) = s.reg (0x40040400 + 4 * n) + BitVec.ofNat 32 m ∧
      (s.count code arg m).rd (F.TALLY_CNT_ST_WRAPS n) =
        min 15 (s.rd (F.TALLY_CNT_ST_WRAPS n) + ((s.reg (0x40040400 + 4 * n)).toNat + m) / 2 ^ 32) ∧
      (2 ^ 32 ≤ (s.reg (0x40040400 + 4 * n)).toNat + m → (s.count code arg m).flag (F.TALLY_CNT_ST_OVF n) = true ∧
        (s.count code arg m).flag F.TALLY_INT_OVF = true)) ∧
    (evEn (s.tallyEvt n) = false ∨ evEvent (s.tallyEvt n) ≠ code ∨ evMode (s.tallyEvt n) ≠ 0 ∨ evArg (s.tallyEvt n) ≠ arg →
      (s.count code arg m).cntVal n = s.cntVal n) ∧
    (let chg := s.tally.defs.map Prod.fst
      let f := if s.core.started then s.core.frames + 1 else 0
      let final := s.tally.cfg.any fun c => !bitOf c.1.toNat 0
      let mark := s.flag F.TALLY_DUMP_CFG_EN = true ∧ ((s.tally.base < f ∧ (f - s.tally.base) % s.rd F.TALLY_DUMP_CFG_PERIOD = 0) ∨
        s.running .perfDumpNow = true ∨ chg ≠ [] ∨ final = true)
      let u := s.tallyMark ok
      (mark → s.dumpRoom = true → ∃ d, u.tally.flight = some d ∧ d.changed = chg ∧ d.sums = s.tally.sums ∧ d.vals[n]? = some (s.cntVal n) ∧
        u.cntVal n = { count := 0, wraps := 0, ovf := false } ∧ u.tally.interval = s.tally.interval + 1) ∧
      (mark → s.dumpRoom = false → u.tally.flight = s.tally.flight ∧
        u.cntVal n = (if n ∈ chg then { count := 0, wraps := 0, ovf := false } else s.cntVal n) ∧
        u.tally.skipped = s.tally.skipped + 1 ∧ u.tally.interval = (if chg = [] then s.tally.interval else s.tally.interval + 1) ∧
        u.rd F.TALLY_DUMP_DROP_COUNT = min (2 ^ F.TALLY_DUMP_DROP_COUNT.w - 1) (s.rd F.TALLY_DUMP_DROP_COUNT + 1)) ∧
      (¬ mark → chg = [] → u.tally.flight = s.tally.flight ∧ u.cntVal n = s.cntVal n ∧ u.tally.interval = s.tally.interval) ∧
      (u.tally.defs = []) ∧
      ((n, (e, th)) ∈ s.tally.defs → (∀ y, (n, y) ∈ s.tally.defs → y = (e, th)) →
        u.tallyEvt n = e.toNat ∧ u.reg (0x40040104 + 8 * n) = th ∧ u.cntVal n = { count := 0, wraps := 0, ovf := false }))

/-- R335: the layout of a counter's entry: COUNT, the interval's EVENT, ARG, MODE, WRAPS, OVF, CHG, VALID, and zeros above. -/
def Obligations.CounterEntryLayout : Prop :=
  ∀ (n : Nat) (chg : Bool) (s : State),
    bits (s.cntEntry n chg) 0 32 = s.rd (F.TALLY_CNT_COUNT n) ∧ bits (s.cntEntry n chg) 32 8 = evEvent (s.tallyEvt n) ∧
    bits (s.cntEntry n chg) 40 11 = evArg (s.tallyEvt n) ∧ bits (s.cntEntry n chg) 51 2 = evMode (s.tallyEvt n) ∧
    bits (s.cntEntry n chg) 53 4 = s.rd (F.TALLY_CNT_ST_WRAPS n) ∧ bitOf (s.cntEntry n chg) 57 = s.flag (F.TALLY_CNT_ST_OVF n) ∧
    bitOf (s.cntEntry n chg) 58 = chg ∧ bitOf (s.cntEntry n chg) 59 = evEn (s.tallyEvt n) ∧ s.cntEntry n chg < 2 ^ 60

/-- R255, R257, R328, R332, R333, R336, R337, R339: PERF_CONFIG and PERF_DUMP_NOW wait for the mark or are turned away; the reply of
a definition; the host's return of dump slots; the end of a dump in host memory or in the scratchpad and the stop at an error.
In corners that the manual leaves open the model takes the reading of log entries 19 and 45. Its conclusions that exec answers a
next state, on conditions of the state and the operands alone, are about: perfConfig, perfDumpNow, perfDefinitionChange,
tallyDumpCiWrite, dumpErrorStop, dumpWriteDone. -/
def Obligations.PerfCommandsAndDumps : Prop :=
  ∀ (x : Exe) (i t : Nat) (k : Taken) (m : Master) (v : W32) (d : Dump) (st : Status) (ws : List W32) (rplOk : Bool) (s : State),
    (Starts s .perfConfig x i k →
      (perfParams k.d = false → exec (.perfConfig x) s = .next ((s.tick x.t).finish i k .badParam [] x.rplOk)) ∧
      (perfParams k.d = true → perfOp k.d = 0 →
        let z := s.tick x.t
        let first := bits (word k.d 2) 8 6
        let n := bits (word k.d 2) 16 7
        let a := word64 k.d 4
        let defs := fun (l : List (W32 × W32)) => l.zipIdx.map fun q => (first + q.2, q.1)
        (a ≠ 0 → s.addrOk x.src a (8 * n) = false → exec (.perfConfig x) s = .next (z.finish i k .badParam [] x.rplOk)) ∧
        (a = 0 → defOk (k.d.getD 6 0).toNat = true → exec (.perfConfig x) s =
          .next ((z.mapTally fun y => { y with defs := defs (List.replicate n (k.d.getD 6 0, k.d.getD 7 0)) }).retake i
            (some { k with phase := .working }))) ∧
        (a = 0 → defOk (k.d.getD 6 0).toNat = false → exec (.perfConfig x) s = .next (z.finish i k .badParam [] x.rplOk)) ∧
        (∀ u buf, a ≠ 0 → s.addrOk x.src a (8 * n) = true → z.readBuf a (8 * n) x = .ok (u, buf) →
          ((defPairs (bytesWords buf)).all (fun q => defOk q.1.toNat) = true → exec (.perfConfig x) s =
            .next ((u.mapTally fun y => { y with defs := defs (defPairs (bytesWords buf)) }).retake i (some { k with phase := .working }))) ∧
          ((defPairs (bytesWords buf)).all (fun q => defOk q.1.toNat) = false →
            exec (.perfConfig x) s = .next (u.finish i k .badParam [] x.rplOk))) ∧
        (∀ u, a ≠ 0 → s.addrOk x.src a (8 * n) = true → z.readBuf a (8 * n) x = .error u →
          exec (.perfConfig x) s = .next (u.finish i k .timeout [] x.rplOk))) ∧
      (perfParams k.d = true → perfOp k.d = 1 →
        let en := bitOf (word k.d 3) 0
        let dk := bits (word k.d 3) 1 4
        let a := word64 k.d 4
        let reach := en = true → s.addrOk x.src a (1024 * 2 ^ dk) = true
        let same := en = true → s.flag F.TALLY_DUMP_CFG_EN = true → dk = s.rd F.TALLY_DUMP_CFG_DK ∧ a.toNat = s.dumpBase
        (¬ reach → exec (.perfConfig x) s = .next ((s.tick x.t).finish i k .badParam [] x.rplOk)) ∧
        (reach → (s.stopPending = true ∨ ¬ same) → exec (.perfConfig x) s = .next ((s.tick x.t).finish i k .busy [] x.rplOk)) ∧
        (reach → s.stopPending = false → same →
          exec (.perfConfig x) s = .next (((s.tick x.t).mapTally fun y => { y with cfg := some (k.d.getD 3 0, a) }).retake i
            (some { k with phase := .working }))))) ∧
    (Starts s .perfDumpNow x i k →
      (s.flag F.TALLY_DUMP_CFG_EN = true → s.stopPending = false →
        exec (.perfDumpNow x) s = .next ((s.tick x.t).retake i (some { k with phase := .working }))) ∧
      ((s.flag F.TALLY_DUMP_CFG_EN = false ∨ s.stopPending = true) →
        exec (.perfDumpNow x) s = .next ((s.tick x.t).finish i k .busy [] x.rplOk))) ∧
    (s.mbx.taken.findIdx? (fun k => decide (opcode k.d = Opc.perfConfig.row.code) && k.done.isSome && !k.lost) = some i →
      s.mbx.taken[i]? = some k → k.done = some (st, ws) →
      exec (.perfDefinitionChange t rplOk) s = .next (if s.flag F.MBX_STATUS_FW_RUN then (s.tick t).finish i k st ws rplOk else s.tick t)) ∧
    (s.barred m.val = false → ∃ s', exec (.tallyDumpCiWrite t m v) s = .next s' ∧ s'.rd F.TALLY_DUMP_CI_IDX = v.toNat % 65536 ∧
      RegsKept s s' [F.TALLY_DUMP_CI_IDX.addr] ∧ s'.tally = s.tally) ∧
    (s.barred m.val = true → exec (.tallyDumpCiWrite t m v) s = .next (s.tick t).postedUr) ∧
    (s.tally.flight = some d →
      let a := s.dumpSlot (s.rd F.TALLY_DUMP_PI_IDX)
      let done := fun (s' : State) => s'.tally.flight = none ∧ s'.tally.seq = s.tally.seq + 1 ∧
        s'.rd F.TALLY_DUMP_PI_IDX = (s.rd F.TALLY_DUMP_PI_IDX + 1) % 65536 ∧ s'.flag F.TALLY_INT_DUMP = true ∧ s'.bitAt F.D2H_DB_DB 3 = true
      (∃ s', exec (.dumpErrorStop t) s = .next s' ∧ s'.tally.flight = none ∧ s'.flag F.TALLY_DUMP_CFG_EN = false ∧
        s'.flag F.TALLY_INT_DUMP_ERR = true ∧ s'.rd F.TALLY_DUMP_PI_IDX = s.rd F.TALLY_DUMP_PI_IDX ∧ s'.tally.seq = s.tally.seq) ∧
      (secondForm a = false → ∃ (s' : State) (more : List Out), exec (.dumpWriteDone t) s = .next s' ∧ done s' ∧
        s'.out = s.out ++ [.pcie a d.bytes] ++ more) ∧
      (secondForm a = true → s.addrOk .ring0 a d.bytes.length = true → ∃ s', exec (.dumpWriteDone t) s = .next s' ∧ done s' ∧
        (s.flag F.TALLY_DUMP_CFG_EN = true → s'.scrRead (scrOf a) d.bytes.length = d.bytes)) ∧
      (secondForm a = true → s.addrOk .ring0 a d.bytes.length = false → ∃ s', exec (.dumpWriteDone t) s = .next s' ∧
        s'.tally.flight = none ∧ s'.flag F.TALLY_DUMP_CFG_EN = false ∧ s'.flag F.TALLY_INT_DUMP_ERR = true))

/-- R192 to R196: a route that passes its checks waits for the next mark and, unless it ends the channel's route, its host counters
return to zero; one that the serial port has no room for is refused; MDC_STATUS reads it back with the channel's counts; the
host's counters; a DI frame with a wrong sync word counts a short frame for each of its routes, with the right one its bytes go
to them in slot order. In corners that the manual leaves open the model takes the reading of log entry 34. Its conclusions that
exec answers a next state, on conditions of the state and the operands alone, are about: mdcRoute, mdcStatus, mdcRdWrite,
mdcWrWrite, mdcDiFrame. -/
def Obligations.ManagementChannels : Prop :=
  ∀ (x : Exe) (i t : Nat) (k : Taken) (m : Master) (ch : Fin 256) (v : W32) (port1 : Bool) (frame : List Bool) (s : State),
    (Starts s .mdcRoute x i k →
      (routeOk x.src s k.d = false → exec (.mdcRoute x) s = .next ((s.tick x.t).finish i k .badParam [] x.rplOk)) ∧
      (routeOk x.src s k.d = true →
        let r := routeOf k.d
        let c := bits (word k.d 2) 0 8
        let z := s.mapMdc fun y => { y with next := Store.put (fun _ => some ⟨0, 0, 0, 0⟩) y.next c (some r) }
        let room := r.dest < 2 ∨ slotBytes z.routesNew (r.dest - 2) ≤ serialBudget (s.serialDiv (r.dest - 2))
        (room → ∃ u : State, exec (.mdcRoute x) s = .next (u.finish i k .ok [] x.rplOk) ∧ u.mdc.routes = s.mdc.routes ∧ u.mdc.cnt = s.mdc.cnt ∧
          Store.get (fun _ => some ⟨0, 0, 0, 0⟩) u.mdc.next c = (if r.dest = 0 then none else some r) ∧
          (r.dest = 0 → u.regs = s.regs) ∧
          (r.dest ≠ 0 → u.rd (F.MDC_RD_COUNT c) = 0 ∧ u.rd (F.MDC_WR_COUNT c) = 0 ∧ u.rdCount c = s.rdCount c ∧
            RegsKept s u [(F.MDC_RD_COUNT c).addr, (F.MDC_WR_COUNT c).addr])) ∧
        (¬ room → exec (.mdcRoute x) s = .next ((s.tick x.t).finish i k .noResource [] x.rplOk)))) ∧
    (Starts s .mdcStatus x i k → onlyBits (word k.d 2) 0xFF = true →
      exec (.mdcStatus x) s = .next ((s.tick x.t).finish i k .ok
        [((s.routesNew.find? fun y => decide (y.1 = bits (word k.d 2) 0 8)).map fun y => y.2.word).getD 0,
         (s.chan (bits (word k.d 2) 0 8)).extracted, (s.chan (bits (word k.d 2) 0 8)).dropped,
         (s.chan (bits (word k.d 2) 0 8)).short] x.rplOk)) ∧
    (s.barred m.val = false →
      (∃ s', exec (.mdcRdWrite t m ch v) s = .next s' ∧ s'.rd (F.MDC_RD_COUNT ch.val) = v.toNat ∧
        RegsKept s s' [(F.MDC_RD_COUNT ch.val).addr] ∧ s'.mdc = s.mdc) ∧
      (∃ s', exec (.mdcWrWrite t m ch v) s = .next s' ∧ s'.rd (F.MDC_WR_COUNT ch.val) = v.toNat ∧
        RegsKept s s' [(F.MDC_WR_COUNT ch.val).addr] ∧ s'.mdc = s.mdc)) ∧
    (s.barred m.val = true → exec (.mdcRdWrite t m ch v) s = .next (s.tick t).postedUr ∧
      exec (.mdcWrWrite t m ch v) s = .next (s.tick t).postedUr) ∧
    (s.serialEn (b2n port1) = true →
      let rs := slotRoutes s.mdc.layOld (b2n port1)
      let n := slotBytes s.mdc.layOld (b2n port1)
      (frame.take 16 ≠ ([0xE4, 0xB2] : List W8).flatMap byteBits → ∃ s', exec (.mdcDiFrame t port1 frame) s = .next s' ∧
        s'.flag F.MDC_INT_DI_SYNC = true ∧ s'.mdc.insNow = s.mdc.insNow ∧
        ((rs.map Prod.fst).Nodup → ∀ r ∈ rs, (s'.chan r.1).short = (s.chan r.1).short + 1)) ∧
      (frame.take 16 = ([0xE4, 0xB2] : List W8).flatMap byteBits → 88 + 8 * n ≤ frame.length →
        ∃ s', exec (.mdcDiFrame t port1 frame) s = .next s' ∧ s'.regs = s.regs ∧ s'.mdc.cnt = s.mdc.cnt ∧
          ∀ a r b, rs = a ++ r :: b → (∀ y ∈ b, insKey y.2.port y.2.kind ≠ insKey r.2.port r.2.kind) →
            Store.get (fun _ => []) s'.mdc.insNow (insKey r.2.port r.2.kind) =
              ((diBytes frame n).drop ((a.map fun y => kindBytes y.2.kind).sum)).take (kindBytes r.2.kind))) ∧
    (s.serialEn (b2n port1) = false → exec (.mdcDiFrame t port1 frame) s = .next (s.tick t))

/-- R255, R258, R260: a command of the ring or the SPI path that starts is answered in the same step: it completes with a final
reply, is accepted with its ACCEPTED reply, or goes on to work towards its mark. -/
def Obligations.StartedCommandIsAnswered : Prop :=
  ∀ (c : Instr) (o : Opc) (x : Exe) (i : Nat) (k : Taken) (s : State), opcodeRow c = some (o, x) → Starts s o x i k →
    ∃ u : State, (∃ st ws, exec c s = .next (u.finish i k st ws x.rplOk)) ∨ (∃ ws, exec c s = .next (u.accept i k ws x.rplOk)) ∨
      exec c s = .next (u.retake i (some { k with phase := .working }))
end

