-- ==== Sys2Proof/Laws/Commands.lean ====
section
/-! SUPPORT. Laws/Commands.lean: everything that carrying out a command can do (R258, R260). -/
namespace Sys2Proof.Machine

/-- No startable command of the opcode: only the time moves. -/
theorem State.run_none {s : State} {o : Opc} {x : Exe} {params : State → List W32 → Bool} {work : State → List W32 → Ans}
    (h : (s.tick x.t).pick o x.src = none) : s.run o x params work = s.tick x.t := by
  simp only [State.run, h]

/-- A command whose FLAGS, PLEN or parameters are wrong is answered BAD_PARAM. -/
theorem State.run_bad {s : State} {o : Opc} {x : Exe} {i : Nat} {k : Taken} {params : State → List W32 → Bool}
    {work : State → List W32 → Ans} (h : (s.tick x.t).pick o x.src = some (i, k))
    (hp : (formOk o.row k.d && params (s.tick x.t) k.d) = false) :
    s.run o x params work = (s.tick x.t).finish i k .badParam [] x.rplOk := by
  simp only [State.run, h, hp, Bool.not_false, if_true]

/-- A command that starts with good parameters does its work. -/
theorem State.run_starts {s : State} {o : Opc} {x : Exe} {i : Nat} {k : Taken} {params : State → List W32 → Bool}
    {work : State → List W32 → Ans} (h : Starts s o x i k) (hp : params (s.tick x.t) k.d = true) :
    s.run o x params work = (work (s.tick x.t) k.d).settle i k x.rplOk (s.tick x.t) := by
  have ha : (o.row.holder && !(s.tick x.t).acting) = false := by
    cases hh : o.row.holder
    · rfl
    · simp [show (s.tick x.t).acting = true from h.holder hh]
  simp only [State.run, h.pick, h.form, hp, Bool.and_self, Bool.not_true, Bool.false_eq_true, if_false, ha]

/-- A refusal changes nothing but the reply (R258). -/
@[simp] theorem Ans.settle_refuse {s : State} {i : Nat} {k : Taken} {ok : Bool} {st : Status} : (Ans.refuse st).settle i k ok s = s.finish i k st [] ok := rfl
@[simp] theorem Ans.settle_refuseWith {s : State} {i : Nat} {k : Taken} {ok : Bool} {st : Status} {ws : List W32} :
    (Ans.refuseWith st ws).settle i k ok s = s.finish i k st ws ok := rfl
@[simp] theorem Ans.settle_ok {s u : State} {i : Nat} {k : Taken} {ok : Bool} {ws : List W32} : (Ans.ok u ws).settle i k ok s = u.finish i k .ok ws ok := rfl
@[simp] theorem Ans.settle_accepted {s u : State} {i : Nat} {k : Taken} {ok : Bool} {ws : List W32} :
    (Ans.accepted u ws).settle i k ok s = u.accept i k ws ok := rfl
@[simp] theorem Ans.settle_later {s u : State} {i : Nat} {k : Taken} {ok : Bool} :
    (Ans.later u).settle i k ok s = u.retake i (some { k with phase := .working }) := rfl
@[simp] theorem Ans.settle_since {s u : State} {i : Nat} {k : Taken} {ok : Bool} {a : Ans} : (Ans.since u a).settle i k ok s = a.settle i k ok u := rfl

end Sys2Proof.Machine
end

