-- ==== Sys2Proof/Laws/Store.lean ====
section
/-! SUPPORT. Laws/Store.lean: what the operations of a sparse store do: a read after a write, and the canonical form that every
operation keeps. -/
namespace Sys2Proof.Machine
namespace Store

variable {α : Type}

/-- Strictly rising keys. -/
def Rising (m : List (Nat × α)) : Prop := m.Pairwise fun a b => a.1 < b.1

theorem wf_iff [DecidableEq α] {d : Nat → α} {m : List (Nat × α)} :
    wf d m = true ↔ Rising m ∧ ∀ e ∈ m, e.2 ≠ d e.1 := by
  induction m with
  | nil => simp [wf, Rising]
  | cons x m ih =>
    obtain ⟨a, v⟩ := x
    cases m with
    | nil => simp [wf, Rising]
    | cons y m =>
      obtain ⟨b, w⟩ := y
      simp only [wf, Bool.and_eq_true, decide_eq_true_eq, ih, Rising, List.pairwise_cons, List.mem_cons]
      constructor
      · rintro ⟨⟨hv, hab⟩, ⟨hb, hp⟩, hd⟩
        refine ⟨⟨?_, hb, hp⟩, ?_⟩
        · rintro e (rfl | he)
          · exact hab
          · exact Nat.lt_trans hab (hb e he)
        · rintro e (rfl | he)
          · exact hv
          · exact hd e he
      · rintro ⟨⟨ha, hb, hp⟩, hd⟩
        exact ⟨⟨hd _ (Or.inl rfl), ha _ (Or.inl rfl)⟩, ⟨hb, hp⟩, fun e he => hd e (Or.inr he)⟩

@[simp] theorem wf_nil [DecidableEq α] {d : Nat → α} : wf d ([] : List (Nat × α)) = true := rfl

theorem wf_filter [DecidableEq α] {d : Nat → α} {m : List (Nat × α)} (h : wf d m = true) (p : Nat × α → Bool) :
    wf d (m.filter p) = true := by
  rw [wf_iff] at h ⊢
  exact ⟨h.1.filter p, fun e he => h.2 e (List.mem_of_mem_filter he)⟩

/-- The canonical form depends only on the defaults of the listed keys. -/
theorem wf_congr [DecidableEq α] {d d' : Nat → α} {m : List (Nat × α)} (h : wf d m = true)
    (hd : ∀ e ∈ m, d e.1 = d' e.1) : wf d' m = true := by
  rw [wf_iff] at h ⊢
  exact ⟨h.1, fun e he => hd e he ▸ h.2 e he⟩

theorem mem_insert {m : List (Nat × α)} {a : Nat} {v : α} {e : Nat × α} (h : e ∈ insert m a v) : e = (a, v) ∨ e ∈ m := by
  induction m with
  | nil => simpa [insert] using h
  | cons x m ih =>
    obtain ⟨k, w⟩ := x
    simp only [insert] at h
    split at h
    · rcases List.mem_cons.1 h with rfl | h
      · exact Or.inr (List.mem_cons_self ..)
      · exact (ih h).imp_right (List.mem_cons_of_mem _)
    · split at h
      · rcases List.mem_cons.1 h with rfl | h
        · exact Or.inl rfl
        · exact Or.inr (List.mem_cons_of_mem _ h)
      · rcases List.mem_cons.1 h with rfl | h
        · exact Or.inl rfl
        · exact Or.inr h

theorem rising_insert {m : List (Nat × α)} (h : Rising m) (a : Nat) (v : α) : Rising (insert m a v) := by
  induction m with
  | nil => simp [insert, Rising]
  | cons x m ih =>
    obtain ⟨k, w⟩ := x
    obtain ⟨hk, hm⟩ := List.pairwise_cons.1 h
    simp only [insert]
    split
    · rename_i hlt
      refine List.pairwise_cons.2 ⟨fun e he => ?_, ih hm⟩
      rcases mem_insert he with rfl | he
      · exact hlt
      · exact hk e he
    · split
      · rename_i hne heq
        subst heq
        exact List.pairwise_cons.2 ⟨hk, hm⟩
      · rename_i h1 h2
        refine List.pairwise_cons.2 ⟨fun e he => ?_, h⟩
        rcases List.mem_cons.1 he with rfl | he
        · show a < k
          omega
        · have := hk e he
          omega

/-- Writing keeps the canonical form. -/
theorem wf_put [DecidableEq α] {d : Nat → α} {m : List (Nat × α)} (h : wf d m = true) (a : Nat) (v : α) :
    wf d (put d m a v) = true := by
  unfold put
  split
  · exact wf_filter h _
  · rename_i hv
    rw [wf_iff] at h ⊢
    refine ⟨rising_insert h.1 a v, fun e he => ?_⟩
    rcases mem_insert he with rfl | he
    · exact hv
    · exact h.2 e he

theorem wf_putAll [DecidableEq α] {d : Nat → α} {m : List (Nat × α)} (h : wf d m = true) (a : Nat) (vs : List α) :
    wf d (putAll d m a vs) = true := by
  induction vs generalizing m a with
  | nil => exact h
  | cons v vs ih => exact ih (wf_put h a v) (a + 1)

/-- A fold of operations that keep the canonical form keeps it. -/
theorem wf_foldl [DecidableEq α] {β : Type} {d : Nat → α} {f : List (Nat × α) → β → List (Nat × α)}
    (hf : ∀ m e, wf d m = true → wf d (f m e) = true) (l : List β) {m : List (Nat × α)} (h : wf d m = true) :
    wf d (l.foldl f m) = true := by
  induction l generalizing m with
  | nil => exact h
  | cons e l ih => exact ih (hf m e h)

theorem get_insert_same {d : Nat → α} {m : List (Nat × α)} {a : Nat} {v : α} : get d (insert m a v) a = v := by
  induction m with
  | nil => simp [insert, get]
  | cons x m ih =>
    obtain ⟨k, w⟩ := x
    simp only [insert]
    split
    · rename_i h
      simp only [get, if_neg (Nat.ne_of_lt h), ih]
    · split <;> simp [get]

theorem get_insert_other {d : Nat → α} {m : List (Nat × α)} {a b : Nat} {v : α} (h : a ≠ b) :
    get d (insert m a v) b = get d m b := by
  induction m with
  | nil => simp [insert, get, h]
  | cons x m ih =>
    obtain ⟨k, w⟩ := x
    simp only [insert]
    split
    · simp only [get, ih]
    · split
      · rename_i heq
        subst heq
        simp [get, h]
      · simp [get, h]

theorem get_erase_same {d : Nat → α} {m : List (Nat × α)} {a : Nat} : get d (erase m a) a = d a := by
  induction m with
  | nil => rfl
  | cons x m ih =>
    obtain ⟨k, w⟩ := x
    by_cases hk : k = a
    · simpa [erase, hk] using ih
    · have : erase ((k, w) :: m) a = (k, w) :: erase m a := by simp [erase, hk]
      rw [this, get, if_neg hk, ih]

theorem get_erase_other {d : Nat → α} {m : List (Nat × α)} {a b : Nat} (h : a ≠ b) : get d (erase m a) b = get d m b := by
  induction m with
  | nil => rfl
  | cons x m ih =>
    obtain ⟨k, w⟩ := x
    by_cases hk : k = a
    · subst hk
      have : erase ((k, w) :: m) k = erase m k := by simp [erase]
      rw [this, ih, get, if_neg h]
    · have : erase ((k, w) :: m) a = (k, w) :: erase m a := by simp [erase, hk]
      rw [this, get, get, ih]

/-- A read after a write to the same key gives what was written. -/
@[simp] theorem get_put_same [DecidableEq α] {d : Nat → α} {m : List (Nat × α)} {a : Nat} {v : α} : get d (put d m a v) a = v := by
  unfold put
  split
  · rename_i h
    rw [get_erase_same, h]
  · exact get_insert_same

/-- A write leaves every other key alone. -/
theorem get_put_other [DecidableEq α] {d : Nat → α} {m : List (Nat × α)} {a b : Nat} {v : α} (h : a ≠ b) :
    get d (put d m a v) b = get d m b := by
  unfold put
  split
  · exact get_erase_other h
  · exact get_insert_other h

/-- A read after a write, either way. -/
theorem get_put [DecidableEq α] {d : Nat → α} {m : List (Nat × α)} {a b : Nat} {v : α} :
    get d (put d m a v) b = if a = b then v else get d m b := by
  split
  · rename_i h
    subst h
    exact get_put_same
  · rename_i h
    exact get_put_other h

/-- Writing a run of values leaves every key outside it alone. -/
theorem get_putAll_other [DecidableEq α] {d : Nat → α} {m : List (Nat × α)} {a b : Nat} {vs : List α}
    (h : b < a ∨ a + vs.length ≤ b) : get d (putAll d m a vs) b = get d m b := by
  induction vs generalizing m a with
  | nil => rfl
  | cons v vs ih =>
    have hlen : (v :: vs).length = vs.length + 1 := rfl
    rw [putAll, ih (by omega), get_put_other (by omega)]

/-- Reading back a run of values that was written. -/
theorem getAll_putAll [DecidableEq α] {d : Nat → α} {m : List (Nat × α)} {a : Nat} {vs : List α} :
    getAll d (putAll d m a vs) a vs.length = vs := by
  induction vs generalizing m a with
  | nil => rfl
  | cons v vs ih =>
    rw [putAll, List.length_cons, getAll, ih, get_putAll_other (Or.inl (Nat.lt_succ_self a)), get_put_same]

end Store
end Sys2Proof.Machine
end

