-- ==== Sys2Proof/Laws/Follows.lean ====
section
/-! SUPPORT. Laws/Follows.lean: what every operation keeps, and the lemmas that put operations together. -/
namespace Sys2Proof.Machine

/-- `s` follows `z`: the time and the count of free values do not go back, the queue is the same, what was sent
stays sent, and every store that was canonical in `z` is canonical in `s`. -/
structure Follows (z s : State) : Prop where
  time : z.now ≤ s.now
  frees : z.fresh ≤ s.fresh
  queue : s.pending = z.pending
  sent : z.out <+: s.out
  canon : Canonical z → Canonical s


theorem Follows.of_canon {z s t : State} (h : Follows z s) (ht : s.now ≤ t.now) (hf : s.fresh ≤ t.fresh) (hp : t.pending = s.pending)
    (ho : t.out = s.out) (hc : Canonical s → Canonical t) : Follows z t :=
  ⟨Nat.le_trans h.time ht, Nat.le_trans h.frees hf, hp.trans h.queue, ho ▸ h.sent, fun c => hc (h.canon c)⟩
theorem Follows.rest {z s : State} (h : Follows z s) {mbx pair mate core line tmg mdc pwr tally pins} :
    Follows z { s with mbx := mbx, pair := pair, mate := mate, core := core, line := line, tmg := tmg, mdc := mdc, pwr := pwr, tally := tally, pins := pins } :=
  h.of_canon (Nat.le_refl _) (Nat.le_refl _) rfl rfl fun c => ⟨c.1, c.2, c.3, c.4, c.5, c.6, c.7, c.8⟩
theorem Follows.regs {z s : State} {r} (h : Follows z s) (e : Canonical s → Store.wf RegTable.reset r = true) : Follows z { s with regs := r } :=
  h.of_canon (Nat.le_refl _) (Nat.le_refl _) rfl rfl fun c => ⟨e c, c.2, c.3, c.4, c.5, c.6, c.7, c.8⟩
theorem Follows.scr {z s : State} {m : Mtx} (h : Follows z s) (e : Canonical s → Store.wf scrDefault m.scr = true) : Follows z { s with mtx := m } :=
  h.of_canon (Nat.le_refl _) (Nat.le_refl _) rfl rfl fun c => ⟨c.1, e c, c.3, c.4, c.5, c.6, c.7, c.8⟩
theorem Follows.mtx {z s : State} {m : Mtx} (h : Follows z s) (e : m.scr = s.mtx.scr) : Follows z { s with mtx := m } :=
  h.scr fun c => e ▸ c.scratch
theorem Follows.fresh {z s : State} (n : Nat) (h : Follows z s) : Follows z { s with fresh := s.fresh + n } :=
  h.of_canon (Nat.le_refl _) (Nat.le_add_right _ _) rfl rfl fun c => ⟨c.1, c.2, c.3, c.4, c.5, c.6, c.7, c.8⟩
theorem Follows.freshAt {z s b : State} (n : Nat) (h : Follows z b) (hs : Follows z s) : Follows z { b with fresh := s.fresh + n } :=
  ⟨h.time, Nat.le_add_right_of_le hs.frees, h.queue, h.sent, fun c => let k := h.canon c; ⟨k.1, k.2, k.3, k.4, k.5, k.6, k.7, k.8⟩⟩
theorem Follows.freshMtx {z s : State} {m : Mtx} (n : Nat) (h : Follows z s) (e : m.scr = s.mtx.scr) : Follows z { s with fresh := s.fresh + n, mtx := m } :=
  (h.fresh n).mtx e
theorem Follows.freshMtxAt {z s b : State} {m : Mtx} (n : Nat) (h : Follows z b) (hs : Follows z s) (e : m.scr = b.mtx.scr) : Follows z { b with fresh := s.fresh + n, mtx := m } :=
  (h.freshAt n hs).mtx e
theorem Follows.map {z s : State} {m : MapSt} (h : Follows z s) (e0 : m.page0 = s.map.page0) (e1 : m.page1 = s.map.page1) : Follows z { s with map := m } :=
  h.of_canon (Nat.le_refl _) (Nat.le_refl _) rfl rfl fun c => ⟨c.1, c.2, c.3, c.4, c.5, c.6, e0 ▸ c.7, e1 ▸ c.8⟩
theorem Follows.selOf {z s : State} {m : SelSt} (h : Follows z s) (e0 : Canonical s → Store.wf selDefault m.sels = true)
    (e1 : Canonical s → Store.wf monDefault m.mons = true) : Follows z { s with sel := m } :=
  h.of_canon (Nat.le_refl _) (Nat.le_refl _) rfl rfl fun c => ⟨c.1, c.2, c.3, c.4, e0 c, e1 c, c.7, c.8⟩
theorem Follows.sel {z s : State} {m : SelSt} (h : Follows z s) (e0 : m.sels = s.sel.sels) (e1 : m.mons = s.sel.mons) : Follows z { s with sel := m } :=
  h.selOf (fun c => e0 ▸ c.selectors) (fun c => e1 ▸ c.monitors)
theorem Follows.hist {z s : State} {m : EngSt} (h : Follows z s) (e : Canonical s → Store.wf (fun _ => (0xFF : W8)) m.hist = true) :
    Follows z { s with eng := m } :=
  h.of_canon (Nat.le_refl _) (Nat.le_refl _) rfl rfl fun c => ⟨c.1, c.2, c.3, e c, c.5, c.6, c.7, c.8⟩
theorem Follows.eng {z s : State} {m : EngSt} (h : Follows z s) (e : m.hist = s.eng.hist) : Follows z { s with eng := m } :=
  h.hist fun c => e ▸ c.history
theorem Follows.mram {z s : State} {m : BootSt} (h : Follows z s) (e : Canonical s → Store.wf m.mramDef m.mram = true) :
    Follows z { s with boot := m } :=
  h.of_canon (Nat.le_refl _) (Nat.le_refl _) rfl rfl fun c => ⟨c.1, c.2, e c, c.4, c.5, c.6, c.7, c.8⟩
theorem mramDef_congr {a b : BootSt} (ea : a.genA = b.genA) (eb : a.genB = b.genB) : a.mramDef = b.mramDef := by
  funext x; simp only [BootSt.mramDef, ea, eb]
theorem Follows.boot {z s : State} {m : BootSt} (h : Follows z s) (e : m.mram = s.boot.mram) (ea : m.genA = s.boot.genA) (eb : m.genB = s.boot.genB) : Follows z { s with boot := m } :=
  h.mram fun c => by rw [mramDef_congr ea eb, e]; exact c.mram
theorem Follows.mtxPins {z s : State} {m : Mtx} {p} (h : Follows z s) (e : Store.wf scrDefault m.scr = true) : Follows z { s with mtx := m, pins := p } :=
  (h.scr (m := m) fun _ => e).rest
theorem Follows.of_fst {z : State} {α : Type} {p : State × α} {a : State} {b : α} (e : p = (a, b)) (h : Follows z p.1) : Follows z a := by subst e; exact h
def OptFollows (z : State) : Option State → Prop
  | none => True
  | some s => Follows z s
def AnsFollows (z : State) : Ans → Prop
  | .ok s _ | .accepted s _ | .later s => Follows z s
  | .since s a => Follows z s ∧ AnsFollows z a
  | _ => True
def ExcFollows (z : State) : Except State State → Prop
  | .ok s | .error s => Follows z s
def ExcPFollows (z : State) {α : Type} : Except State (State × α) → Prop
  | .ok p => Follows z p.1
  | .error s => Follows z s
def ExnFollows (z : State) {ε : Type} : Except ε State → Prop
  | .ok s => Follows z s
  | .error _ => True
def ExnPFollows (z : State) {ε α : Type} : Except ε (State × α) → Prop
  | .ok p => Follows z p.1
  | .error _ => True
def ResFollows (z : State) : Res → Prop
  | .next s => Follows z s
  | _ => False
theorem AnsFollows.of {z : State} {o a : Ans} (e : o = a) (h : AnsFollows z o) : AnsFollows z a := e ▸ h
theorem OptFollows.of_some {z : State} {o : Option State} {a : State} (e : o = some a) (h : OptFollows z o) : Follows z a := by subst e; exact h
variable {z : State}
theorem Follows.ite {c : Prop} [Decidable c] {a b : State} (ha : Follows z a) (hb : Follows z b) : Follows z (if c then a else b) := by split <;> assumption
theorem OptFollows.ite {c : Prop} [Decidable c] {a b : Option State} (ha : OptFollows z a) (hb : OptFollows z b) : OptFollows z (if c then a else b) := by split <;> assumption
theorem AnsFollows.ite {c : Prop} [Decidable c] {a b : Ans} (ha : AnsFollows z a) (hb : AnsFollows z b) : AnsFollows z (if c then a else b) := by split <;> assumption
theorem ResFollows.ite {c : Prop} [Decidable c] {a b : Res} (ha : ResFollows z a) (hb : ResFollows z b) : ResFollows z (if c then a else b) := by split <;> assumption
theorem Follows.ite_fst {α : Type} {c : Prop} [Decidable c] {a b : State × α} (ha : Follows z a.1) (hb : Follows z b.1) : Follows z (if c then a else b).1 := by split <;> assumption
theorem Follows.ite_found {c : Prop} [Decidable c] {a b : Found} (ha : Follows z a.s) (hb : Follows z b.s) : Follows z (if c then a else b).s := by split <;> assumption
theorem Follows.fst_mk {α : Type} {a : State} {b : α} (h : Follows z a) : Follows z (a, b).1 := h
theorem Follows.found_mk {a : State} {b c : Nat} (h : Follows z a) : Follows z (Found.mk a b c).s := h
theorem OptFollows.some {a : State} (h : Follows z a) : OptFollows z (some a) := h
theorem OptFollows.none : OptFollows z none := trivial
theorem AnsFollows.ok {a : State} {ws} (h : Follows z a) : AnsFollows z (.ok a ws) := h
theorem AnsFollows.accepted {a : State} {ws} (h : Follows z a) : AnsFollows z (.accepted a ws) := h
theorem AnsFollows.later {a : State} (h : Follows z a) : AnsFollows z (.later a) := h
theorem AnsFollows.refuse {st} : AnsFollows z (.refuse st) := trivial
theorem AnsFollows.refuseWith {st ws} : AnsFollows z (.refuseWith st ws) := trivial
theorem AnsFollows.since {a : State} {b : Ans} (h : Follows z a) (g : AnsFollows z b) : AnsFollows z (.since a b) := ⟨h, g⟩
theorem ExcFollows.ok {a : State} (h : Follows z a) : ExcFollows z (.ok a) := h
theorem ExcFollows.error {a : State} (h : Follows z a) : ExcFollows z (.error a) := h
theorem ExcPFollows.ok {α : Type} {p : State × α} (h : Follows z p.1) : ExcPFollows z (.ok p) := h
theorem ExcPFollows.error {α : Type} {a : State} (h : Follows z a) : ExcPFollows z (α := α) (.error a) := h
theorem ExnFollows.ok {ε : Type} {a : State} (h : Follows z a) : ExnFollows z (ε := ε) (.ok a) := h
theorem ExnFollows.error {ε : Type} {e : ε} : ExnFollows z (.error e) := trivial
theorem ExnPFollows.ok {ε α : Type} {p : State × α} (h : Follows z p.1) : ExnPFollows z (ε := ε) (.ok p) := h
theorem ExnPFollows.error {ε α : Type} {e : ε} : ExnPFollows z (α := α) (.error e) := trivial
theorem ExcFollows.of_ok {r : Except State State} {a : State} (e : r = .ok a) (h : ExcFollows z r) : Follows z a := by subst e; exact h
theorem ExcFollows.of_error {r : Except State State} {a : State} (e : r = .error a) (h : ExcFollows z r) : Follows z a := by subst e; exact h
theorem ExcPFollows.of_ok {α : Type} {r : Except State (State × α)} {p : State × α} (e : r = .ok p) (h : ExcPFollows z r) : Follows z p.1 := by
  subst e; exact h
theorem ExcPFollows.of_error {α : Type} {r : Except State (State × α)} {a : State} (e : r = .error a) (h : ExcPFollows z r) : Follows z a := by
  subst e; exact h
theorem ExnFollows.of_ok {ε : Type} {r : Except ε State} {a : State} (e : r = .ok a) (h : ExnFollows z r) : Follows z a := by subst e; exact h
theorem ExnPFollows.of_ok {ε α : Type} {r : Except ε (State × α)} {p : State × α} (e : r = .ok p) (h : ExnPFollows z r) : Follows z p.1 := by
  subst e; exact h
theorem ExcPFollows.map {α β : Type} {r : Except State (State × α)} {f : State × α → State × β} (h : ExcPFollows z r) (e : ∀ x, (f x).1 = x.1) :
    ExcPFollows z (r.map f) := by
  cases r with
  | ok p => exact (show Follows z (f p).1 from (e p).symm ▸ h)
  | error u => exact h
theorem ExcFollows.ite {c : Prop} [Decidable c] {a b : Except State State} (ha : ExcFollows z a) (hb : ExcFollows z b) : ExcFollows z (if c then a else b) := by
  split <;> assumption
theorem ExcPFollows.ite {α : Type} {c : Prop} [Decidable c] {a b : Except State (State × α)} (ha : ExcPFollows z a) (hb : ExcPFollows z b) :
    ExcPFollows z (if c then a else b) := by split <;> assumption
theorem ExnFollows.ite {ε : Type} {c : Prop} [Decidable c] {a b : Except ε State} (ha : ExnFollows z a) (hb : ExnFollows z b) :
    ExnFollows z (if c then a else b) := by split <;> assumption
theorem ExnPFollows.ite {ε α : Type} {c : Prop} [Decidable c] {a b : Except ε (State × α)} (ha : ExnPFollows z a) (hb : ExnPFollows z b) :
    ExnPFollows z (if c then a else b) := by split <;> assumption
theorem ResFollows.next {a : State} (h : Follows z a) : ResFollows z (.next a) := h
theorem Canonical.page {s : State} (c : Canonical s) (n : Nat) : Store.wf entryDefault (s.page n) = true := by
  unfold State.page; split
  · exact c.page0
  · exact c.page1
theorem Canonical.shadow {s : State} (c : Canonical s) : Store.wf entryDefault s.shadow = true := c.page _
theorem Canonical.active {s : State} (c : Canonical s) : Store.wf entryDefault s.active = true := c.page _
theorem wf_putEntry {p : List (Nat × W64)} (h : Store.wf entryDefault p = true) {a : Nat} {e : W64} : Store.wf entryDefault (putEntry p a e) = true := Store.wf_put h a e
theorem wf_foldl_page {β : Type} {f : List (Nat × W64) → β → List (Nat × W64)} (hf : ∀ p b, Store.wf entryDefault p = true → Store.wf entryDefault (f p b) = true) (l : List β)
    {p : List (Nat × W64)} (h : Store.wf entryDefault p = true) : Store.wf entryDefault (l.foldl f p) = true := by
  induction l generalizing p with
  | nil => exact h
  | cons b l ih => exact ih (hf p b h)
theorem wf_upsetPage {p : List (Nat × W64)} (h : Store.wf entryDefault p = true) {up : List (Nat × W64)} : Store.wf entryDefault (upsetPage p up) = true :=
  wf_foldl_page (fun _ _ h => wf_putEntry h) up h
theorem State.setPage_follows {s : State} {n : Nat} {p} (h : Follows z s) (hp : Canonical z → Store.wf entryDefault p = true) : Follows z (s.setPage n p) := by
  refine ⟨h.time, h.frees, h.queue, h.sent, fun c => ?_⟩
  have k := h.canon c
  refine ⟨k.1, k.2, k.3, k.4, k.5, k.6, ?_, ?_⟩ <;> unfold State.setPage State.mapMap <;> dsimp only <;> split
  exacts [hp c, k.page0, k.page1, hp c]
theorem State.setShadow_follows {s : State} {p} (h : Follows z s) (hp : Canonical z → Store.wf entryDefault p = true) : Follows z (s.setShadow p) := State.setPage_follows h hp
theorem Follows.refl (s : State) : Follows s s := ⟨Nat.le_refl _, Nat.le_refl _, rfl, List.prefix_refl _, id⟩
theorem State.setReg_follows {s a v : _} (h : Follows z s) : Follows z (State.setReg s a v) := h.regs fun c => Store.wf_put c.regs a v
theorem Follows.foldl {α : Type} {f : State → α → State} (hf : ∀ s a, Follows z s → Follows z (f s a)) {s : State} (h : Follows z s) (l : List α) : Follows z (l.foldl f s) := by
  induction l generalizing s with
  | nil => exact h
  | cons a l ih => exact ih (hf s a h)
theorem Follows.foldl_fst {α β : Type} {f : State × β → α → State × β} (hf : ∀ s a, Follows z s.1 → Follows z (f s a).1) {s : State × β} (h : Follows z s.1) (l : List α) : Follows z (l.foldl f s).1 := by
  induction l generalizing s with
  | nil => exact h
  | cons a l ih => exact ih (hf s a h)
theorem Follows.foldl_found {α : Type} {f : Found → α → Found} (hf : ∀ s a, Follows z s.s → Follows z (f s a).s) {s : Found} (h : Follows z s.s) (l : List α) : Follows z (l.foldl f s).s := by
  induction l generalizing s with
  | nil => exact h
  | cons a l ih => exact ih (hf s a h)
theorem OptFollows.foldl {α : Type} {f : Option State → α → Option State} (hf : ∀ s a, OptFollows z s → OptFollows z (f s a)) {s : Option State} (h : OptFollows z s) (l : List α) : OptFollows z (l.foldl f s) := by
  induction l generalizing s with
  | nil => exact h
  | cons a l ih => exact ih (hf s a h)

theorem State.mapMbx_follows {s f} (h : Follows z s) : Follows z (State.mapMbx s f) := h.rest
theorem State.mapCore_follows {s f} (h : Follows z s) : Follows z (State.mapCore s f) := h.rest
theorem State.mapMate_follows {s f} (h : Follows z s) : Follows z (State.mapMate s f) := h.rest
theorem State.mapPair_follows {s f} (h : Follows z s) : Follows z (State.mapPair s f) := h.rest
theorem State.mapTmg_follows {s f} (h : Follows z s) : Follows z (State.mapTmg s f) := h.rest
theorem State.mapMdc_follows {s f} (h : Follows z s) : Follows z (State.mapMdc s f) := h.rest
theorem State.mapPwr_follows {s f} (h : Follows z s) : Follows z (State.mapPwr s f) := h.rest
theorem State.mapTally_follows {s f} (h : Follows z s) : Follows z (State.mapTally s f) := h.rest
theorem State.mapPins_follows {s f} (h : Follows z s) : Follows z (State.mapPins s f) := h.rest
theorem State.mapLine_follows {s f} (h : Follows z s) : Follows z (State.mapLine s f) := h.rest
theorem State.mapMap_follows {s f} (h : Follows z s) (e0 : (f s.map).page0 = s.map.page0) (e1 : (f s.map).page1 = s.map.page1) : Follows z (State.mapMap s f) := h.map e0 e1
theorem State.mapMtx_follows {s f} (h : Follows z s) (e : (f s.mtx).scr = s.mtx.scr) : Follows z (State.mapMtx s f) := h.mtx e
theorem State.mapSel_follows {s f} (h : Follows z s) (e0 : (f s.sel).sels = s.sel.sels) (e1 : (f s.sel).mons = s.sel.mons) : Follows z (State.mapSel s f) := h.sel e0 e1
theorem State.mapEng_follows {s f} (h : Follows z s) (e : (f s.eng).hist = s.eng.hist) : Follows z (State.mapEng s f) := h.eng e
theorem State.mapBoot_follows {s f} (h : Follows z s) (e : (f s.boot).mram = s.boot.mram) (ea : (f s.boot).genA = s.boot.genA) (eb : (f s.boot).genB = s.boot.genB) : Follows z (State.mapBoot s f) := h.boot e ea eb
end Sys2Proof.Machine
end

