-- ==== Sys2Proof/Laws/FollowsOps.lean ====
section
/-! SUPPORT. Laws/FollowsOps.lean: the shared operations, the matrix, the commands, the tables, the lines: each operation and each command keeps what `Follows` says. -/
namespace Sys2Proof.Machine

variable {z : State}

theorem State.tick_follows {s0 a1 : _} (hs0 : Follows z s0) : Follows z (State.tick s0 a1) :=
  hs0.of_canon (Nat.le_max_left _ _) (Nat.le_refl _) rfl rfl fun c => ⟨c.1, c.2, c.3, c.4, c.5, c.6, c.7, c.8⟩

theorem State.wr_follows {s0 a1 a2 : _} (hs0 : Follows z s0) : Follows z (State.wr s0 a1 a2) := by
  unfold State.wr
  exact (State.setReg_follows hs0)

theorem State.setFlag_follows {s0 a1 a2 : _} (hs0 : Follows z s0) : Follows z (State.setFlag s0 a1 a2) := by
  unfold State.setFlag
  exact (State.wr_follows hs0)

theorem State.raise_follows {s0 a1 : _} (hs0 : Follows z s0) : Follows z (State.raise s0 a1) := by
  unfold State.raise
  exact (State.wr_follows hs0)

theorem State.raiseIf_follows {s0 a1 a2 : _} (hs0 : Follows z s0) : Follows z (State.raiseIf s0 a1 a2) := by
  unfold State.raiseIf
  exact (Follows.ite (State.raise_follows hs0) hs0)

theorem State.inc_follows {s0 a1 a2 : _} (hs0 : Follows z s0) : Follows z (State.inc s0 a1 a2) := by
  unfold State.inc
  exact (State.wr_follows hs0)

theorem State.bump_follows {s0 a1 a2 : _} (hs0 : Follows z s0) : Follows z (State.bump s0 a1 a2) := by
  unfold State.bump
  exact (State.wr_follows hs0)

theorem State.setBitAt_follows {s0 a1 a2 a3 : _} (hs0 : Follows z s0) : Follows z (State.setBitAt s0 a1 a2 a3) := by
  unfold State.setBitAt
  exact (State.wr_follows hs0)

theorem State.emit_follows {s0 a1 : _} (hs0 : Follows z s0) : Follows z (State.emit s0 a1) :=
  ⟨hs0.time, hs0.frees, hs0.queue, hs0.sent.trans (List.prefix_append _ _),
    fun c => let k := hs0.canon c; ⟨k.1, k.2, k.3, k.4, k.5, k.6, k.7, k.8⟩⟩

theorem State.when_follows {s0 a1 a2 : _} (hs0 : Follows z s0) (ha2 : (∀ a0, Follows z a0 → Follows z (a2 a0))) : Follows z (State.when s0 a1 a2) := by
  unfold State.when
  exact (Follows.ite (ha2 _ hs0) hs0)

theorem State.plainWrite_follows {s0 a1 a2 : _} (hs0 : Follows z s0) : Follows z (State.plainWrite s0 a1 a2) := by
  unfold State.plainWrite
  split
  · exact hs0
  · exact (State.setReg_follows hs0)

theorem State.readClear_follows {s0 a1 : _} (hs0 : Follows z s0) : Follows z (State.readClear s0 a1) := by
  unfold State.readClear
  split
  · exact hs0
  · exact (State.setReg_follows hs0)

theorem State.postedUr_follows {s0 : _} (hs0 : Follows z s0) : Follows z (State.postedUr s0) := by
  unfold State.postedUr
  extract_lets -merge -useContext -underBinder y0 y1
  clear_value y0
  have h60 : Follows z y1 := (Follows.rest hs0)
  clear_value y1
  exact (Follows.ite (State.emit_follows h60) h60)

theorem State.tellMaster_follows {s0 a1 a2 : _} (hs0 : Follows z s0) : Follows z (State.tellMaster s0 a1 a2) := by
  unfold State.tellMaster
  exact (Follows.ite (State.postedUr_follows hs0) (Follows.ite (State.mapMtx_follows hs0 rfl) hs0))

theorem State.logError_follows {s0 a1 a2 a3 a4 : _} (hs0 : Follows z s0) : Follows z (State.logError s0 a1 a2 a3 a4) := by
  unfold State.logError
  exact (Follows.ite (State.inc_follows hs0) (State.raise_follows (State.raise_follows (State.wr_follows (State.wr_follows (State.wr_follows (State.wr_follows hs0)))))))

theorem State.busError_follows {s0 a1 a2 a3 a4 : _} (hs0 : Follows z s0) : Follows z (State.busError s0 a1 a2 a3 a4) := by
  unfold State.busError
  exact (State.tellMaster_follows (State.logError_follows hs0))

theorem State.mend_follows {s0 a1 a2 : _} (hs0 : Follows z s0) : Follows z (State.mend s0 a1 a2) := by
  unfold State.mend
  exact (State.mapMtx_follows hs0 rfl)

theorem State.scrWrite_follows {s0 a1 a2 : _} (hs0 : Follows z s0) : Follows z (State.scrWrite s0 a1 a2) :=
  hs0.scr fun c => Store.wf_putAll c.scratch _ _

theorem State.corrected_follows {s0 a1 : _} (hs0 : Follows z s0) : Follows z (State.corrected s0 a1) := by
  unfold State.corrected
  exact (Follows.ite hs0 (State.raise_follows (State.inc_follows hs0)))

theorem State.upsetScr_follows {s0 a1 a2 : _} (hs0 : Follows z s0) : Follows z (State.upsetScr s0 a1 a2) := by
  unfold State.upsetScr
  extract_lets -merge -useContext -underBinder y0
  clear_value y0
  exact (State.mapMtx_follows hs0 rfl)

theorem State.upsetWords_follows {s0 a1 : _} (hs0 : Follows z s0) : Follows z (State.upsetWords s0 a1) := by
  unfold State.upsetWords
  exact (Follows.foldl (fun _ _ h0 => (State.upsetScr_follows h0)) hs0 _)

theorem State.scrBytes_follows {s0 a1 a2 a3 : _} (hs0 : Follows z s0) : Follows z (State.scrBytes s0 a1 a2 a3) := by
  induction a3 generalizing s0 a2 with
  | nil => exact hs0
  | cons b bs ih =>
    cases b with
    | none => exact ih hs0
    | some b => exact ih (hs0.scr fun c => Store.wf_put c.scratch _ _)

theorem State.scrPatch_follows {s0 a1 a2 a3 : _} (hs0 : Follows z s0) : Follows z (State.scrPatch s0 a1 a2 a3) := by
  unfold State.scrPatch
  extract_lets -merge -useContext -underBinder y0
  have h60 : Follows z y0 := (State.scrBytes_follows hs0)
  clear_value y0
  exact (Follows.ite (State.mend_follows h60) h60)

theorem State.engineError_follows {s0 a1 a2 a3 : _} (hs0 : Follows z s0) : Follows z (State.engineError s0 a1 a2 a3) := by
  unfold State.engineError
  exact (State.busError_follows hs0)

theorem State.devRead_follows {s0 a1 a2 a3 a4 : _} (hs0 : Follows z s0) : ExcPFollows z (State.devRead s0 a1 a2 a3 a4) := by
  unfold State.devRead
  refine ExcPFollows.ite ?_ ?_
  · exact (ExcPFollows.ite (ExcPFollows.error (State.engineError_follows hs0)) (ExcPFollows.ite (ExcPFollows.error (State.busError_follows hs0)) (ExcPFollows.ok (Follows.fst_mk (State.corrected_follows hs0)))))
  · split
    · exact (ExcPFollows.error hs0)
    · exact (ExcPFollows.ite (ExcPFollows.error hs0) (ExcPFollows.ok (Follows.fst_mk hs0)))

theorem State.devWrite_follows {s0 a1 a2 a3 a4 : _} (hs0 : Follows z s0) : ExcFollows z (State.devWrite s0 a1 a2 a3 a4) := by
  unfold State.devWrite
  exact (ExcFollows.ite (ExcFollows.ite (ExcFollows.ok (State.scrWrite_follows hs0)) (ExcFollows.error (State.engineError_follows hs0))) (ExcFollows.ite (ExcFollows.ok (State.emit_follows hs0)) (ExcFollows.error hs0)))

theorem State.setHolder_follows {s0 a1 a2 : _} (hs0 : Follows z s0) : Follows z (State.setHolder s0 a1 a2) := by
  unfold State.setHolder
  extract_lets -merge -useContext -underBinder y0 y1 y2
  have h60 : Follows z y1 := (Follows.mtx hs0 rfl)
  clear_value y1 y2
  exact (State.setBitAt_follows (State.setReg_follows h60))

theorem State.answer_follows {s0 a1 : _} (hs0 : Follows z s0) : Follows z (State.answer s0 a1) := by
  unfold State.answer
  exact (State.mapMtx_follows hs0 rfl)

theorem State.semRead_follows {s0 a1 a2 : _} (hs0 : Follows z s0) : Follows z (State.semRead s0 a1 a2).1 := by
  unfold State.semRead
  split
  · exact (Follows.fst_mk (State.setHolder_follows hs0))
  · exact (Follows.fst_mk hs0)

theorem execSemAcqRead_follows {a0 a1 a2 s3 : _} (hs3 : Follows z s3) : ResFollows z (execSemAcqRead a0 a1 a2 s3) := by
  unfold execSemAcqRead
  extract_lets -merge -useContext -underBinder y0
  have h60 : Follows z y0.1 := (State.semRead_follows (State.tick_follows hs3))
  clear_value y0
  exact (ResFollows.ite (ResFollows.next (State.tellMaster_follows (State.tick_follows hs3))) (ResFollows.next (State.answer_follows h60)))

theorem execSemAcqWrite_follows {a0 a1 a2 s3 : _} (hs3 : Follows z s3) : ResFollows z (execSemAcqWrite a0 a1 a2 s3) := by
  unfold execSemAcqWrite
  extract_lets -merge -useContext -underBinder y0
  have h60 : Follows z y0 := (State.tick_follows hs3)
  clear_value y0
  exact (ResFollows.ite (ResFollows.next (State.postedUr_follows (State.tick_follows hs3))) (ResFollows.ite (ResFollows.next (State.setHolder_follows h60)) (ResFollows.next (State.inc_follows h60))))

theorem State.giveBank_follows {s0 a1 a2 : _} (hs0 : Follows z s0) : Follows z (State.giveBank s0 a1 a2) := by
  unfold State.giveBank
  extract_lets -merge -useContext -underBinder y0 y1
  have h60 : Follows z y1 := (Follows.mtx hs0 rfl)
  clear_value y1
  exact (State.raise_follows (State.setFlag_follows (State.bump_follows (State.wr_follows h60))))

theorem execScrOwnWrite_follows {a0 a1 a2 a3 s4 : _} (hs4 : Follows z s4) : ResFollows z (execScrOwnWrite a0 a1 a2 a3 s4) := by
  unfold execScrOwnWrite
  extract_lets -merge -useContext -underBinder y0 y1 y2
  have h60 : Follows z y0 := (State.tick_follows hs4)
  clear_value y0 y1
  exact (ResFollows.ite (ResFollows.next (State.postedUr_follows (State.tick_follows hs4))) (ResFollows.ite (ResFollows.next (Follows.mtx h60 rfl)) (ResFollows.next h60)))

theorem execScrOwnHandoverDone_follows {a0 a1 s2 : _} (hs2 : Follows z s2) : ResFollows z (execScrOwnHandoverDone a0 a1 s2) := by
  unfold execScrOwnHandoverDone
  extract_lets -merge -useContext -underBinder y0
  have h60 : Follows z y0 := (State.tick_follows hs2)
  clear_value y0
  split
  · exact (ResFollows.next h60)
  · exact (ResFollows.next (State.giveBank_follows h60))

theorem State.reclaimBank_follows {a0 s1 a2 : _} (hs1 : Follows z s1) : Follows z (State.reclaimBank a0 s1 a2) := by
  unfold State.reclaimBank
  split
  · exact (Follows.ite (State.giveBank_follows hs1) hs1)
  · exact (Follows.ite (State.raise_follows (State.raise_follows (State.wr_follows hs1))) hs1)

theorem State.reclaimSem_follows {a0 s1 a2 : _} (hs1 : Follows z s1) : Follows z (State.reclaimSem a0 s1 a2) := by
  unfold State.reclaimSem
  exact (Follows.ite (State.raise_follows (State.setBitAt_follows (State.setHolder_follows hs1))) hs1)

theorem State.dropStaged_follows {s0 a1 : _} (hs0 : Follows z s0) : Follows z (State.dropStaged s0 a1) := by
  unfold State.dropStaged
  extract_lets -merge -useContext -underBinder y0
  clear_value y0
  exact (Follows.rest hs0)

theorem State.resetMaster_follows {s0 a1 : _} (hs0 : Follows z s0) : Follows z (State.resetMaster s0 a1) := by
  unfold State.resetMaster
  exact (Follows.foldl (fun _ _ h0 => (State.reclaimSem_follows h0)) (Follows.foldl (fun _ _ h1 => (State.reclaimBank_follows h1)) (State.dropStaged_follows hs0) _) _)

theorem State.reclaimCoreBank_follows {s0 a1 : _} (hs0 : Follows z s0) : Follows z (State.reclaimCoreBank s0 a1) := by
  unfold State.reclaimCoreBank
  extract_lets -merge -useContext -underBinder y0
  clear_value y0
  exact (Follows.ite (State.reclaimBank_follows hs0) hs0)

theorem State.readBuf_follows {s0 a1 a2 a3 : _} (hs0 : Follows z s0) : ExcPFollows z (State.readBuf s0 a1 a2 a3) := by
  unfold State.readBuf
  split
  · rename_i x2 x3
    have h0 : Follows z x2.1 := ExcPFollows.of_ok x3 (State.devRead_follows hs0)
    exact (ExcPFollows.ok h0)
  · rename_i x5 x6
    have h0 : Follows z x5 := ExcPFollows.of_error x6 (State.devRead_follows hs0)
    exact (ExcPFollows.error (State.resetMaster_follows h0))

theorem State.writeBuf_follows {s0 a1 a2 a3 : _} (hs0 : Follows z s0) : ExcFollows z (State.writeBuf s0 a1 a2 a3) := by
  unfold State.writeBuf
  split
  · rename_i x2 x3
    have h0 : Follows z x2 := ExcFollows.of_ok x3 (State.devWrite_follows hs0)
    exact (ExcFollows.ok h0)
  · rename_i x5 x6
    have h0 : Follows z x5 := ExcFollows.of_error x6 (State.devWrite_follows hs0)
    exact (ExcFollows.error (State.resetMaster_follows h0))

theorem State.resetCores_follows {s0 : _} (hs0 : Follows z s0) : Follows z (State.resetCores s0) := by
  unfold State.resetCores
  extract_lets -merge -useContext -underBinder y0 y1
  have h60 : Follows z y0 := (State.dropStaged_follows (State.dropStaged_follows (State.dropStaged_follows (State.dropStaged_follows hs0))))
  clear_value y0
  have h61 : Follows z y1 := (Follows.foldl (fun _ _ h62 => (State.reclaimCoreBank_follows h62)) h60 _)
  clear_value y1
  refine Follows.foldl ?_ ?_ _
  · intro x64 x66 h65
    split
    · exact (Follows.ite (State.setHolder_follows h65) h65)
    · exact h65
  · exact h61

theorem execRemapWrite_follows {a0 a1 a2 s3 : _} (hs3 : Follows z s3) : ResFollows z (execRemapWrite a0 a1 a2 s3) := by
  unfold execRemapWrite
  extract_lets -merge -useContext -underBinder y0
  have h60 : Follows z y0 := (State.tick_follows hs3)
  clear_value y0
  exact (ResFollows.ite (ResFollows.next (State.postedUr_follows (State.tick_follows hs3))) (ResFollows.ite (ResFollows.next (State.wr_follows h60)) (ResFollows.next h60)))

theorem execLockSet_follows {a0 a1 a2 s3 : _} (hs3 : Follows z s3) : ResFollows z (execLockSet a0 a1 a2 s3) := by
  unfold execLockSet
  extract_lets -merge -useContext -underBinder y0
  have h60 : Follows z y0 := (State.tick_follows hs3)
  clear_value y0
  exact (ResFollows.ite (ResFollows.next (State.postedUr_follows (State.tick_follows hs3))) (ResFollows.ite (ResFollows.next h60) (ResFollows.next (State.wr_follows h60))))

theorem execMtxRotWrite_follows {a0 a1 a2 s3 : _} (hs3 : Follows z s3) : ResFollows z (execMtxRotWrite a0 a1 a2 s3) := by
  unfold execMtxRotWrite
  extract_lets -merge -useContext -underBinder y0
  have h60 : Follows z y0 := (State.tick_follows hs3)
  clear_value y0
  exact (ResFollows.ite (ResFollows.next (State.postedUr_follows (State.tick_follows hs3))) (ResFollows.ite (ResFollows.next (State.wr_follows h60)) (ResFollows.next (State.wr_follows h60))))

theorem execDefaultTargetError_follows {a0 a1 a2 a3 a4 s5 : _} (hs5 : Follows z s5) : ResFollows z (execDefaultTargetError a0 a1 a2 a3 a4 s5) := by
  unfold execDefaultTargetError
  exact (ResFollows.ite (ResFollows.next (State.tellMaster_follows (State.tick_follows hs5))) (ResFollows.next (State.busError_follows (State.tick_follows hs5))))

theorem State.sendVector_follows {s0 a1 : _} (hs0 : Follows z s0) : Follows z (State.sendVector s0 a1) := by
  unfold State.sendVector
  extract_lets -merge -useContext -underBinder y0
  clear_value y0
  exact (Follows.ite (Follows.rest hs0) (State.emit_follows hs0))

theorem State.notifyHost_follows {s0 a1 : _} (hs0 : Follows z s0) : Follows z (State.notifyHost s0 a1) := by
  unfold State.notifyHost
  exact (Follows.ite hs0 (State.sendVector_follows hs0))

theorem State.setPcie_follows {s0 a1 : _} (hs0 : Follows z s0) : Follows z (State.setPcie s0 a1) := by
  unfold State.setPcie
  split
  · exact hs0
  · extract_lets -merge -useContext -underBinder y3 y4
    clear_value y3
    have h63 : Follows z y4 := (Follows.rest hs0)
    clear_value y4
    refine Follows.foldl ?_ ?_ _
    · intro x65 x67 h66
      extract_lets -merge -useContext -underBinder y68
      clear_value y68
      exact (Follows.ite (State.emit_follows (Follows.rest h66)) h66)
    · exact h63

theorem State.postNotice_follows {s0 a1 a2 a3 a4 : _} (hs0 : Follows z s0) : Follows z (State.postNotice s0 a1 a2 a3 a4) := by
  unfold State.postNotice
  extract_lets -merge -useContext -underBinder y0 y1 y2 y3 y4 y5 y6
  have h60 : Follows z y0 := (State.wr_follows hs0)
  clear_value y0
  have h61 : Follows z y1 := (State.wr_follows h60)
  clear_value y1
  have h62 : Follows z y2 := (State.wr_follows h61)
  clear_value y2
  have h63 : Follows z y3 := (State.wr_follows h62)
  clear_value y3
  have h64 : Follows z y4 := (State.setBitAt_follows h63)
  clear_value y4 y5
  have h65 : Follows z y6 := (Follows.rest h64)
  clear_value y6
  exact (Follows.ite h63 (State.notifyHost_follows h65))

theorem State.setRing_follows {s0 a1 a2 : _} (hs0 : Follows z s0) : Follows z (State.setRing s0 a1 a2) := by
  unfold State.setRing
  extract_lets -merge -useContext -underBinder y0 y1
  clear_value y0 y1
  exact (Follows.ite (Follows.rest hs0) (Follows.rest hs0))

theorem State.unstall_follows {s0 a1 : _} (hs0 : Follows z s0) : Follows z (State.unstall s0 a1) := by
  unfold State.unstall
  extract_lets -merge -useContext -underBinder y0
  clear_value y0
  exact (Follows.ite (State.setFlag_follows hs0) hs0)

theorem State.sendReply_follows {s0 a1 a2 a3 a4 a5 : _} (hs0 : Follows z s0) : Follows z (State.sendReply s0 a1 a2 a3 a4 a5) := by
  unfold State.sendReply
  split
  · extract_lets -merge -useContext -underBinder y2 y3
    clear_value y2 y3
    exact (Follows.rest hs0)
  · extract_lets -merge -useContext -underBinder y64 y65 y66 y67
    clear_value y64 y65 y66 y67
    refine Follows.ite ?_ ?_
    · exact (State.inc_follows hs0)
    · split
      · rename_i x126 x127
        have h124 : Follows z x126 := ExcFollows.of_error x127 (State.devWrite_follows hs0)
        exact (State.raise_follows (State.inc_follows h124))
      · rename_i x129 x130
        have h124 : Follows z x129 := ExcFollows.of_ok x130 (State.devWrite_follows hs0)
        extract_lets -merge -useContext -underBinder y131 y132 y133
        have h191 : Follows z y131 := (State.bump_follows h124)
        clear_value y131 y132 y133
        exact (State.postNotice_follows h191)

theorem State.retake_follows {s0 a1 a2 : _} (hs0 : Follows z s0) : Follows z (State.retake s0 a1 a2) := by
  unfold State.retake
  extract_lets -merge -useContext -underBinder y0
  clear_value y0
  exact (Follows.rest hs0)

theorem State.finish_follows {s0 a1 a2 a3 a4 a5 : _} (hs0 : Follows z s0) : Follows z (State.finish s0 a1 a2 a3 a4 a5) := by
  unfold State.finish
  extract_lets -merge -useContext -underBinder y0
  have h60 : Follows z y0 := (State.retake_follows (State.sendReply_follows hs0))
  clear_value y0
  split
  · exact h60
  · exact (State.unstall_follows h60)

theorem State.accept_follows {s0 a1 a2 a3 a4 : _} (hs0 : Follows z s0) : Follows z (State.accept s0 a1 a2 a3 a4) := by
  unfold State.accept
  exact (State.retake_follows (State.sendReply_follows hs0))

theorem Ans.settle_follows {a0 a1 a2 a3 s4 : _} (ha3 : AnsFollows z a3) (hs4 : Follows z s4) : Follows z (Ans.settle a0 a1 a2 a3 s4) := by
  induction a3 generalizing s4 with
  | refuse => exact State.finish_follows hs4
  | refuseWith => exact State.finish_follows hs4
  | ok => exact State.finish_follows ha3
  | accepted => exact State.accept_follows ha3
  | later => exact State.retake_follows ha3
  | since u a ih => exact ih ha3.2 ha3.1

theorem Ans.reading_follows {α : Type} {a1 : Except State (State × α)} {a2 : State → α → Ans} (ha1 : ExcPFollows z a1)
    (ha2 : ∀ a0 a1, Follows z a0 → AnsFollows z (a2 a0 a1)) : AnsFollows z (Ans.reading a1 a2) := by
  unfold Ans.reading
  split
  · exact AnsFollows.since ha1 AnsFollows.refuse
  · exact AnsFollows.since ha1 (ha2 _ _ ha1)

theorem Ans.written_follows {a0 a1 : _} (ha0 : ExcFollows z a0) (ha1 : (∀ a0, Follows z a0 → AnsFollows z (a1 a0))) : AnsFollows z (Ans.written a0 a1) := by
  unfold Ans.written
  have h0 := ha0
  revert h0
  split
  · intro h0
    exact (AnsFollows.since h0 AnsFollows.refuse)
  · intro h0
    exact (ha1 _ h0)

theorem State.run_follows {s0 a1 a2 a3 a4 : _} (hs0 : Follows z s0) (ha4 : (∀ a0 a1, Follows z a0 → AnsFollows z (a4 a0 a1))) : Follows z (State.run s0 a1 a2 a3 a4) := by
  unfold State.run
  extract_lets -merge -useContext -underBinder y0
  have h60 : Follows z y0 := (State.tick_follows hs0)
  clear_value y0
  split
  · exact h60
  · exact (Follows.ite (State.finish_follows h60) (Follows.ite (State.finish_follows h60) (Ans.settle_follows (ha4 _ _ h60) h60)))

theorem State.outcome_follows {s0 a1 a2 a3 a4 a5 : _} (hs0 : Follows z s0) : Follows z (State.outcome s0 a1 a2 a3 a4 a5) := by
  unfold State.outcome
  exact (Follows.ite (State.finish_follows hs0) (State.retake_follows hs0))

theorem State.complete_follows {s0 a1 a2 a3 a4 : _} (hs0 : Follows z s0) : Follows z (State.complete s0 a1 a2 a3 a4) := by
  unfold State.complete
  split
  · exact hs0
  · exact (State.outcome_follows hs0)

theorem State.completePort_follows {s0 a1 a2 a3 a4 a5 : _} (hs0 : Follows z s0) : Follows z (State.completePort s0 a1 a2 a3 a4 a5) := by
  unfold State.completePort
  split
  · exact hs0
  · split
    · exact hs0
    · exact (State.outcome_follows hs0)

theorem State.setSel_follows {s0 a1 a2 : _} (hs0 : Follows z s0) : Follows z (State.setSel s0 a1 a2) :=
  hs0.selOf (fun c => Store.wf_put c.selectors _ _) (fun c => c.monitors)

theorem State.setMon_follows {s0 a1 a2 : _} (hs0 : Follows z s0) : Follows z (State.setMon s0 a1 a2) :=
  hs0.selOf (fun c => c.selectors) (fun c => Store.wf_put c.monitors _ _)

theorem State.tallyAdd_follows {s0 a1 a2 : _} (hs0 : Follows z s0) : Follows z (State.tallyAdd s0 a1 a2) := by
  unfold State.tallyAdd
  extract_lets -merge -useContext -underBinder y0 y1
  clear_value y0
  have h60 : Follows z y1 := (State.wr_follows hs0)
  clear_value y1
  exact (Follows.ite h60 (State.raise_follows (State.raise_follows (State.wr_follows h60))))

theorem State.count_follows {s0 a1 a2 a3 : _} (hs0 : Follows z s0) : Follows z (State.count s0 a1 a2 a3) := by
  unfold State.count
  refine Follows.ite ?_ ?_
  · exact hs0
  · refine Follows.foldl ?_ ?_ _
    · intro x2 x4 h3
      extract_lets -merge -useContext -underBinder y5
      clear_value y5
      exact (Follows.ite (State.tallyAdd_follows h3) h3)
    · exact hs0

theorem State.sendFor_follows {s0 a1 a2 a3 : _} (hs0 : Follows z s0) : Follows z (State.sendFor s0 a1 a2 a3) := by
  unfold State.sendFor
  extract_lets -merge -useContext -underBinder y0 y1 y2
  clear_value y0 y1
  have h60 : Follows z y2 := (State.mapMate_follows hs0)
  clear_value y2
  exact (Follows.ite hs0 (Follows.ite (State.count_follows (State.wr_follows h60)) h60))

theorem State.sendRec_follows {s0 a1 a2 : _} (hs0 : Follows z s0) : Follows z (State.sendRec s0 a1 a2) := by
  unfold State.sendRec
  exact (State.sendFor_follows hs0)

theorem State.mirror_follows {s0 a1 : _} (hs0 : Follows z s0) : Follows z (State.mirror s0 a1) := by
  unfold State.mirror
  exact (Follows.ite (State.sendRec_follows hs0) hs0)

theorem State.mirrorEntries_follows {s0 a1 : _} (hs0 : Follows z s0) : Follows z (State.mirrorEntries s0 a1) := by
  unfold State.mirrorEntries
  extract_lets -merge -useContext -underBinder y0
  have h60 : Follows z y0 := (Follows.foldl (fun _ _ h61 => (State.sendRec_follows h61)) hs0 _)
  clear_value y0
  exact (Follows.ite (State.mapMate_follows h60) hs0)

theorem State.mirrorSettings_follows {s0 a1 a2 : _} (hs0 : Follows z s0) : Follows z (State.mirrorSettings s0 a1 a2) := by
  unfold State.mirrorSettings
  extract_lets -merge -useContext -underBinder y0
  clear_value y0
  refine Follows.ite ?_ ?_
  · refine Follows.foldl_fst ?_ ?_ _
    · intro x63 x65 h64
      have h66 := h64
      revert h66
      split
      · intro h66
        exact (Follows.fst_mk (State.sendRec_follows h66))
    · exact (Follows.fst_mk hs0)
  · exact hs0

theorem State.commandV_follows {s0 a1 : _} (hs0 : Follows z s0) : Follows z (State.commandV s0 a1) := by
  unfold State.commandV
  exact (State.mapEng_follows (State.wr_follows hs0) rfl)

theorem State.boost_follows {s0 : _} (hs0 : Follows z s0) : Follows z (State.boost s0) := by
  unfold State.boost
  exact (State.mapEng_follows (State.commandV_follows hs0) rfl)

theorem State.preboost_follows {s0 a1 a2 : _} (hs0 : Follows z s0) : Follows z (State.preboost s0 a1 a2) := by
  unfold State.preboost
  exact (Follows.ite (State.mapEng_follows (State.boost_follows hs0) rfl) hs0)

theorem State.mapDyn_follows {s0 a1 a2 : _} (hs0 : Follows z s0) : Follows z (State.mapDyn s0 a1 a2) := by
  unfold State.mapDyn
  exact (State.mapLine_follows hs0)

theorem State.mapPrx_follows {s0 a1 a2 : _} (hs0 : Follows z s0) : Follows z (State.mapPrx s0 a1 a2) := by
  unfold State.mapPrx
  exact (State.mapLine_follows hs0)

theorem State.setFramer_follows {s0 a1 a2 : _} (hs0 : Follows z s0) : Follows z (State.setFramer s0 a1 a2) := by
  unfold State.setFramer
  exact (State.mapLine_follows hs0)

theorem State.observe_follows {s0 a1 a2 : _} (hs0 : Follows z s0) : Follows z (State.observe s0 a1 a2) := by
  unfold State.observe
  exact (State.mapLine_follows hs0)

theorem State.setDef_follows {s0 a1 a2 a3 : _} (hs0 : Follows z s0) : Follows z (State.setDef s0 a1 a2 a3) := by
  unfold State.setDef
  exact (Follows.ite hs0 (State.setBitAt_follows (State.setBitAt_follows hs0)))

theorem State.setPathNow_follows {s0 a1 a2 a3 a4 : _} (hs0 : Follows z s0) : Follows z (State.setPathNow s0 a1 a2 a3 a4) := by
  unfold State.setPathNow
  extract_lets -merge -useContext -underBinder y0
  have h60 : Follows z y0 := (State.wr_follows (State.wr_follows hs0))
  clear_value y0
  exact (Follows.ite hs0 (Follows.ite h60 (State.raise_follows h60)))

theorem State.setPathDef_follows {s0 a1 a2 a3 a4 : _} (hs0 : Follows z s0) : Follows z (State.setPathDef s0 a1 a2 a3 a4) := by
  unfold State.setPathDef
  extract_lets -merge -useContext -underBinder y0
  clear_value y0
  exact (State.setPathNow_follows hs0)

theorem State.clearTti_follows {a0 s1 a2 : _} (hs1 : Follows z s1) : Follows z (State.clearTti a0 s1 a2) := by
  unfold State.clearTti
  exact (State.mapLine_follows (State.setFlag_follows hs1))

theorem State.acquirePath_follows {a0 a1 s2 a3 : _} (hs2 : Follows z s2) : Follows z (State.acquirePath a0 a1 s2 a3) := by
  unfold State.acquirePath
  extract_lets -merge -useContext -underBinder y0 y1
  have h60 : Follows z y0 := (State.wr_follows (State.setPathNow_follows hs2))
  clear_value y0
  have h61 : Follows z y1 := (Follows.foldl (fun _ _ h62 => (State.clearTti_follows h62)) h60 _)
  clear_value y1
  exact (State.mapLine_follows h61)

theorem State.acquire_follows {s0 a1 a2 : _} (hs0 : Follows z s0) : Follows z (State.acquire s0 a1 a2) := by
  unfold State.acquire
  exact (Follows.foldl (fun _ _ h0 => (State.acquirePath_follows h0)) hs0 _)

theorem State.updateRdi_follows {s0 a1 : _} (hs0 : Follows z s0) : Follows z (State.updateRdi s0 a1) := by
  unfold State.updateRdi
  exact (Follows.ite (State.mapDyn_follows hs0) (State.mapDyn_follows hs0))

theorem execRdiHoldExpiry_follows {a0 a1 s2 : _} (hs2 : Follows z s2) : ResFollows z (execRdiHoldExpiry a0 a1 s2) := by
  unfold execRdiHoldExpiry
  extract_lets -merge -useContext -underBinder y0
  have h60 : Follows z y0 := (State.tick_follows hs2)
  clear_value y0
  split
  · exact (ResFollows.next h60)
  · exact (ResFollows.ite (ResFollows.next (State.mapDyn_follows h60)) (ResFollows.next h60))

theorem State.setLos_follows {s0 a1 a2 : _} (hs0 : Follows z s0) : Follows z (State.setLos s0 a1 a2) := by
  unfold State.setLos
  extract_lets -merge -useContext -underBinder y0 y1
  have h60 : Follows z y0 := (State.setDef_follows hs0)
  clear_value y0
  have h61 : Follows z y1 := (Follows.ite (State.acquire_follows h60) h60)
  clear_value y1
  exact (State.updateRdi_follows h61)

theorem State.endClient_follows {s0 a1 : _} (hs0 : Follows z s0) : Follows z (State.endClient s0 a1) := by
  unfold State.endClient
  extract_lets -merge -useContext -underBinder y0
  have h60 : Follows z y0 := (Follows.ite (State.mapDyn_follows hs0) hs0)
  clear_value y0
  exact (State.mapLine_follows (State.setFramer_follows h60))

theorem State.refreshFrame_follows {s0 a1 : _} (hs0 : Follows z s0) : Follows z (State.refreshFrame s0 a1) := by
  unfold State.refreshFrame
  extract_lets -merge -useContext -underBinder y0 y1 y2 y3 y4 y5 y6 y7 y8
  clear_value y0 y1 y2
  have h60 : Follows z y3 := (State.wr_follows (State.setFlag_follows hs0))
  clear_value y3
  have h61 : Follows z y4 := (State.wr_follows h60)
  clear_value y4
  have h62 : Follows z y5 := (State.setDef_follows h61)
  clear_value y5
  have h63 : Follows z y6 := (State.setDef_follows (State.raise_follows (State.setFlag_follows h62)))
  clear_value y6
  have h64 : Follows z y7 := (State.mapDyn_follows h63)
  clear_value y7
  have h65 : Follows z y8 := (Follows.ite (State.setFlag_follows h64) (State.acquire_follows (State.endClient_follows h64)))
  clear_value y8
  exact (Follows.ite (State.setDef_follows h62) (State.updateRdi_follows h65))

theorem State.refreshClient_follows {s0 a1 a2 : _} (hs0 : Follows z s0) : Follows z (State.refreshClient s0 a1 a2) := by
  unfold State.refreshClient
  extract_lets -merge -useContext -underBinder y0 y1
  clear_value y0
  have h60 : Follows z y1 := (State.mapDyn_follows hs0)
  clear_value y1
  exact (Follows.ite hs0 (Follows.ite h60 (State.acquire_follows h60)))

theorem State.afterFramer_follows {s0 a1 a2 a3 : _} (hs0 : Follows z s0) : Follows z (State.afterFramer s0 a1 a2 a3) := by
  unfold State.afterFramer
  exact (Follows.ite (State.refreshClient_follows hs0) (State.refreshFrame_follows hs0))

theorem State.startRx_follows {s0 a1 a2 : _} (hs0 : Follows z s0) : Follows z (State.startRx s0 a1 a2) := by
  unfold State.startRx
  extract_lets -merge -useContext -underBinder y0 y1 y2 y3 y4 y5 y6 y7 y8
  have h60 : Follows z y0 := (Follows.foldl (fun _ _ h61 => (State.setFramer_follows h61)) (State.setFramer_follows hs0) _)
  clear_value y0
  have h62 : Follows z y1 := (State.acquire_follows h60)
  clear_value y1 y2
  have h63 : Follows z y3 := (State.setDef_follows (State.setDef_follows (State.setDef_follows (State.setDef_follows h62))))
  clear_value y3
  have h64 : Follows z y4 := (Follows.ite (State.setDef_follows h63) h63)
  clear_value y4
  have h65 : Follows z y5 := (Follows.ite (State.setReg_follows h64) h64)
  clear_value y5
  have h66 : Follows z y6 := (State.wr_follows (State.setFlag_follows (State.wr_follows h65)))
  clear_value y6
  have h67 : Follows z y7 := (State.setFlag_follows (State.wr_follows h66))
  clear_value y7
  have h68 : Follows z y8 := (State.mapDyn_follows h67)
  clear_value y8
  exact (State.updateRdi_follows (State.mapPrx_follows h68))

theorem State.wakeTo_follows {s0 a1 a2 : _} (hs0 : Follows z s0) : Follows z (State.wakeTo s0 a1 a2) := by
  unfold State.wakeTo
  exact (Follows.ite (State.mapDyn_follows hs0) hs0)

theorem State.wakeDemand_follows {s0 a1 : _} (hs0 : Follows z s0) : Follows z (State.wakeDemand s0 a1) := by
  unfold State.wakeDemand
  exact (State.wakeTo_follows hs0)

theorem State.wakeDemands_follows {s0 : _} (hs0 : Follows z s0) : Follows z (State.wakeDemands s0) := by
  unfold State.wakeDemands
  exact (Follows.foldl (fun _ _ h0 => (State.wakeDemand_follows h0)) hs0 _)

end Sys2Proof.Machine
end

