-- ==== Sys2Proof/Laws/FollowsMap.lean ====
section
/-! SUPPORT. Laws/FollowsMap.lean: the map and the selectors: each operation and each command keeps what `Follows` says. -/
namespace Sys2Proof.Machine

variable {z : State}

theorem State.showDirty_follows {s0 : _} (hs0 : Follows z s0) : Follows z (State.showDirty s0) := by
  unfold State.showDirty
  exact (State.wr_follows hs0)

theorem State.hostEntry_follows {a0 s1 a2 a3 : _} (hs1 : Follows z s1) : Follows z (State.hostEntry a0 s1 a2 a3) := by
  unfold State.hostEntry
  extract_lets -merge -useContext -underBinder y0 y1 y2
  clear_value y0 y1
  have h60 : Follows z y2 := (State.setShadow_follows hs1 (fun c => (wf_putEntry (Canonical.shadow (Follows.canon hs1 c)))))
  clear_value y2
  exact (State.mapMap_follows h60 rfl rfl)

theorem State.hostEntries_follows {a0 s1 a2 a3 : _} (hs1 : Follows z s1) : Follows z (State.hostEntries a0 s1 a2 a3) := by
  induction a3 generalizing s1 a2 with
  | nil => exact hs1
  | cons e es ih => exact ih (State.hostEntry_follows hs1)

theorem State.wroteShadow_follows {s0 : _} (hs0 : Follows z s0) : Follows z (State.wroteShadow s0) := by
  unfold State.wroteShadow
  extract_lets -merge -useContext -underBinder y0
  have h60 : Follows z y0 := (State.mapMap_follows hs0 rfl rfl)
  clear_value y0
  exact (State.showDirty_follows (State.setFlag_follows h60))

theorem State.dropWindow_follows {s0 : _} (hs0 : Follows z s0) : Follows z (State.dropWindow s0) := by
  unfold State.dropWindow
  exact (State.raise_follows (State.inc_follows hs0))

theorem State.dropMapWindow_follows {s0 : _} (hs0 : Follows z s0) : Follows z (State.dropMapWindow s0) := by
  unfold State.dropMapWindow
  extract_lets -merge -useContext -underBinder y0
  have h60 : Follows z y0 := (State.dropWindow_follows hs0)
  clear_value y0
  exact (Follows.ite h60 (State.mapPair_follows (State.inc_follows h60)))

theorem State.mapWindow_follows {s0 a1 a2 : _} (hs0 : Follows z s0) : Follows z (State.mapWindow s0 a1 a2) := by
  unfold State.mapWindow
  exact (Follows.ite (State.wroteShadow_follows (State.hostEntries_follows hs0)) (State.dropMapWindow_follows hs0))

theorem execMapWindowWrite_follows {a0 a1 a2 s3 : _} (hs3 : Follows z s3) : ResFollows z (execMapWindowWrite a0 a1 a2 s3) := by
  unfold execMapWindowWrite
  exact (ResFollows.ite (ResFollows.next (State.postedUr_follows (State.tick_follows hs3))) (ResFollows.next (State.mapWindow_follows (State.tick_follows hs3))))

theorem execSelectorWindowWrite_follows {a0 a1 a2 s3 : _} (hs3 : Follows z s3) : ResFollows z (execSelectorWindowWrite a0 a1 a2 s3) := by
  unfold execSelectorWindowWrite
  exact (ResFollows.ite (ResFollows.next (State.postedUr_follows (State.tick_follows hs3))) (ResFollows.next (State.dropWindow_follows (State.tick_follows hs3))))

theorem execMapWriteRange_follows {a0 s1 : _} (hs1 : Follows z s1) : ResFollows z (execMapWriteRange a0 s1) := by
  unfold execMapWriteRange
  refine ResFollows.next ?_
  refine State.run_follows hs1 ?_
  · intro x3 x5 h4
    extract_lets -merge -useContext -underBinder y6
    have h66 : (∀ a0, Follows z a0 → AnsFollows z (y6 a0)) := (fun _ h67 => (AnsFollows.ok (State.wroteShadow_follows h67)))
    clear_value y6
    exact (AnsFollows.ite AnsFollows.refuse (AnsFollows.ite AnsFollows.refuse (AnsFollows.ite (Ans.reading_follows (State.readBuf_follows h4) (fun _ _ h68 => (h66 _ (State.hostEntries_follows h68)))) (h66 _ (State.hostEntries_follows h4)))))

theorem execMapCheck_follows {a0 s1 : _} (hs1 : Follows z s1) : ResFollows z (execMapCheck a0 s1) := by
  unfold execMapCheck
  exact (ResFollows.next (State.run_follows hs1 (fun _ _ h0 => (AnsFollows.ite AnsFollows.refuse (AnsFollows.accepted (State.mapMap_follows (State.wr_follows h0) rfl rfl))))))

theorem redirect_wf {c : CheckEnv} {w : Place} (h : Store.wf entryDefault w.page = true) {slot a : Nat} : Store.wf entryDefault (redirect c w slot a).page = true := by
  unfold redirect
  dsimp only
  split
  · exact h
  · exact wf_putEntry h

theorem foldl_redirect_wf {c : CheckEnv} {β : Type} (k v : β → Nat) (l : List β) {w : Place} (h : Store.wf entryDefault w.page = true) :
    Store.wf entryDefault (l.foldl (fun w x => redirect c w (k x) (v x)) w).page = true := by
  induction l generalizing w with
  | nil => exact h
  | cons x l ih => exact ih (redirect_wf h)

theorem deal_wf {c : CheckEnv} {fan : Nat} {targets : List Nat} (l : List Nat) {k : Nat} {w : Place} (h : Store.wf entryDefault w.page = true) :
    Store.wf entryDefault (deal c fan targets l k w).page = true := by
  induction l generalizing k w with
  | nil => exact h
  | cons x l ih => exact ih (redirect_wf h)

theorem placeCopies_wf {fan x : Nat} (k : Nat) {w : Place} {banks : List Nat} {r : Place × List Nat}
    (h : Store.wf entryDefault w.page = true) (e : placeCopies fan x k w banks = some r) : Store.wf entryDefault r.1.page = true := by
  induction k generalizing w banks with
  | zero => obtain rfl := Option.some.inj e; exact h
  | succ k ih =>
    unfold placeCopies at e
    generalize chooseFree w none = o at e
    cases o with
    | none => cases e
    | some y => exact ih (wf_putEntry h) e

theorem phase1_wf {c : CheckEnv} {w : Place} {x : Nat} {r : Place} (h : Store.wf entryDefault w.page = true) (e : phase1 c w x = some r) :
    Store.wf entryDefault r.page = true := by
  unfold phase1 at e
  dsimp only at e
  split at e
  · cases e
  · rename_i hp
    obtain rfl := Option.some.inj e
    refine wf_foldl_page (fun _ _ h => wf_putEntry h) _ ?_
    have hw := placeCopies_wf _ h hp
    split
    · exact foldl_redirect_wf _ _ _ hw
    · exact deal_wf _ hw

theorem phase1All_wf {c : CheckEnv} (l : List Nat) {w r : Place} (h : Store.wf entryDefault w.page = true) (e : phase1All c l w = .ok r) :
    Store.wf entryDefault r.page = true := by
  induction l generalizing w with
  | nil => obtain rfl := Except.ok.inj e; exact h
  | cons x l ih =>
    unfold phase1All at e
    split at e
    · cases e
    · rename_i hp
      exact ih (phase1_wf h hp) e

theorem phase2_wf {c : CheckEnv} {free b : Nat} (fuel : Nat) {w r : Place} (h : Store.wf entryDefault w.page = true)
    (e : phase2 c free b fuel w = .ok r) : Store.wf entryDefault r.page = true := by
  induction fuel generalizing w with
  | zero => obtain rfl := Except.ok.inj e; exact h
  | succ n ih =>
    unfold phase2 at e
    split at e
    · obtain rfl := Except.ok.inj e; exact h
    · generalize busiest c w.page b = o at e
      cases o with
      | none => cases e
      | some y =>
        dsimp only at e
        generalize chooseFree w (some b) = o at e
        cases o with
        | none => cases e
        | some v => exact ih (foldl_redirect_wf id (fun _ => v.2) _ (wf_putEntry h)) e

theorem phase2All_wf {c : CheckEnv} {free : Nat} (l : List Nat) {w r : Place} (h : Store.wf entryDefault w.page = true)
    (e : phase2All c free l w = .ok r) : Store.wf entryDefault r.page = true := by
  induction l generalizing w with
  | nil => obtain rfl := Except.ok.inj e; exact h
  | cons b l ih =>
    unfold phase2All at e
    split at e
    · cases e
    · rename_i hp
      exact ih (phase2_wf _ h hp) e

theorem testEntry_ne_ok {c : CheckEnv} {ho : Bool} {a : Nat} {e : W64} {q : List (Nat × W64)} {mv : List Nat} {l b : Nat} :
    testEntry c ho a e ≠ some (.ok q mv l b) := by
  unfold testEntry
  split
  · nofun
  · split
    · cases badReason c ho _ <;> nofun
    · nofun
  · cases badReason c ho _ <;> nofun

theorem testAll_ne_ok {c : CheckEnv} {ho : Nat → Bool} {q : List (Nat × W64)} {mv : List Nat} {l b : Nat} (te : List (Nat × W64)) :
    testAll c ho te ≠ some (.ok q mv l b) := by
  induction te with
  | nil => nofun
  | cons x te ih =>
    unfold testAll
    split
    · rename_i r hr
      intro e
      obtain rfl := Option.some.inj e
      exact testEntry_ne_ok hr
    · exact ih

theorem phase2_ne_ok {c : CheckEnv} {free bk : Nat} {q : List (Nat × W64)} {mv : List Nat} {l b : Nat} (fuel : Nat) {w : Place} :
    phase2 c free bk fuel w ≠ .error (.ok q mv l b) := by
  induction fuel generalizing w with
  | zero => nofun
  | succ n ih =>
    unfold phase2
    split
    · nofun
    · generalize busiest c w.page bk = o
      cases o with
      | none => nofun
      | some y =>
        dsimp only
        generalize chooseFree w (some bk) = o
        cases o with
        | none => nofun
        | some v => exact ih

theorem phase2All_ne_ok {c : CheckEnv} {free : Nat} {q : List (Nat × W64)} {mv : List Nat} {l b : Nat} (bs : List Nat) {w : Place} :
    phase2All c free bs w ≠ .error (.ok q mv l b) := by
  induction bs generalizing w with
  | nil => nofun
  | cons x bs ih =>
    unfold phase2All
    split
    · rename_i r hr
      intro e
      obtain rfl := Except.error.inj e
      exact phase2_ne_ok _ hr
    · exact ih

theorem wf_correctPage {p : List (Nat × W64)} (h : Store.wf entryDefault p = true) : Store.wf entryDefault (correctPage p) = true :=
  wf_foldl_page (fun q x h => by split <;> first | exact wf_putEntry h | exact h) p h

/-- A check keeps the canonical form of the page it passes. -/
theorem mapCheck_wf {c : CheckEnv} {p q : List (Nat × W64)} {ho : Nat → Bool} {te : List (Nat × W64)} {be : List (Nat × Option W64)}
    {mv : List Nat} {l b : Nat} (h : Store.wf entryDefault p = true) (e : mapCheck c p ho te be = .ok q mv l b) :
    Store.wf entryDefault q = true := by
  unfold mapCheck at e
  split at e
  · rename_i r hr
    subst e
    exact (testAll_ne_ok te hr).elim
  · dsimp only at e
    split at e
    · cases e
    · rename_i h1
      split at e
      · rename_i h2
        subst e
        exact (phase2All_ne_ok _ h2).elim
      · rename_i h2
        split at e
        · cases e
        · obtain ⟨rfl, -, -, -⟩ := CheckRes.ok.inj e
          exact phase2All_wf _ (phase1All_wf _ (wf_correctPage h) h1) h2

theorem State.passCheck_follows {s0 a1 a2 a3 a4 : _} (hs0 : Follows z s0) (hp : Canonical z → Store.wf entryDefault a1 = true) :
    Follows z (State.passCheck s0 a1 a2 a3 a4) := by
  unfold State.passCheck
  extract_lets -merge -useContext -underBinder y0 y1 y2 y3
  have h60 : Follows z y3 := State.mapMap_follows (State.setShadow_follows hs0 hp) rfl rfl
  exact State.mirrorEntries_follows h60

theorem State.dropCommit_follows {s0 : _} (hs0 : Follows z s0) : Follows z (State.dropCommit s0) := by
  unfold State.dropCommit
  exact (State.mapMap_follows (State.wr_follows hs0) rfl rfl)

theorem execMapCheckDone_follows {a0 a1 a2 s3 : _} (hs3 : Follows z s3) : ResFollows z (execMapCheckDone a0 a1 a2 s3) := by
  unfold execMapCheckDone
  extract_lets -merge -useContext -underBinder y0
  have h60 : Follows z y0 := (State.tick_follows hs3)
  clear_value y0
  split
  · exact (ResFollows.next h60)
  · extract_lets -merge -useContext -underBinder y66 y67
    have h126 : Follows z y66 := (State.setShadow_follows h60 (fun c => (wf_upsetPage (Canonical.shadow (Follows.canon h60 c)))))
    clear_value y66 y67
    split
    · rename_i x134
      extract_lets -merge -useContext -underBinder y135 y136
      have h195 : Follows z y135 := (State.mapMap_follows (State.passCheck_follows h126 (fun c => mapCheck_wf (Canonical.shadow (h126.canon c)) x134)) rfl rfl)
      clear_value y135
      have h196 : Follows z y136 := (State.raise_follows (State.setFlag_follows (State.wr_follows h195)))
      clear_value y136
      exact (ResFollows.next (State.complete_follows h196))
    · extract_lets -merge -useContext -underBinder y201
      have h261 : Follows z y201 := (State.wr_follows (State.mapMap_follows h126 rfl rfl))
      clear_value y201
      exact (ResFollows.next (State.complete_follows (State.raise_follows h261)))
    · rename_i x270
      extract_lets -merge -useContext -underBinder y271 y272 y273 y274 y275
      have h331 : Follows z y271 := (State.mapMap_follows (State.passCheck_follows h126 (fun c => mapCheck_wf (Canonical.shadow (h126.canon c)) x270)) rfl rfl)
      clear_value y271
      have h332 : Follows z y272 := (State.raise_follows (State.setFlag_follows h331))
      clear_value y272 y273
      have h333 : Follows z y274 := (State.mapMap_follows h332 rfl rfl)
      clear_value y274
      have h334 : Follows z y275 := (State.wr_follows h333)
      clear_value y275
      refine ResFollows.ite ?_ ?_
      · exact (ResFollows.next (State.mapMap_follows h332 rfl rfl))
      · split
        · exact (ResFollows.next h334)
        · exact (ResFollows.next (State.accept_follows h334))
    · exact (ResFollows.next (State.complete_follows (State.raise_follows (State.dropCommit_follows h126))))

theorem execMapCommit_follows {a0 s1 : _} (hs1 : Follows z s1) : ResFollows z (execMapCommit a0 s1) := by
  unfold execMapCommit
  refine ResFollows.next ?_
  refine State.run_follows hs1 ?_
  · intro x3 x5 h4
    extract_lets -merge -useContext -underBinder y6 y7 y8 y9 y10
    clear_value y6 y7 y8 y9
    have h66 : Follows z y10 := (State.mapMap_follows (State.wr_follows h4) rfl rfl)
    clear_value y10
    exact (AnsFollows.ite AnsFollows.refuse (AnsFollows.ite AnsFollows.refuse (AnsFollows.ite (AnsFollows.accepted (State.wr_follows h66)) (AnsFollows.later h66))))

theorem execMapCommitArm_follows {a0 s1 : _} (hs1 : Follows z s1) : ResFollows z (execMapCommitArm a0 s1) := by
  unfold execMapCommitArm
  extract_lets -merge -useContext -underBinder y0
  have h60 : Follows z y0 := (State.tick_follows hs1)
  clear_value y0
  split
  · exact (ResFollows.next h60)
  · extract_lets -merge -useContext -underBinder y66
    have h126 : Follows z y66 := (State.preboost_follows (State.wr_follows h60))
    clear_value y66
    exact (ResFollows.ite (ResFollows.next (State.mirror_follows h126)) (ResFollows.next h60))

theorem execCommitDeadline_follows {a0 a1 s2 : _} (hs2 : Follows z s2) : ResFollows z (execCommitDeadline a0 a1 s2) := by
  unfold execCommitDeadline
  extract_lets -merge -useContext -underBinder y0
  have h60 : Follows z y0 := (State.tick_follows hs2)
  clear_value y0
  split
  · exact (ResFollows.next h60)
  · exact (ResFollows.ite (ResFollows.next (State.complete_follows (State.dropCommit_follows h60))) (ResFollows.next h60))

theorem State.countRefs_follows {s0 : _} (hs0 : Follows z s0) : Follows z (State.countRefs s0) := by
  unfold State.countRefs
  exact (Follows.foldl (fun _ _ h0 => (State.wr_follows h0)) hs0 _)

theorem State.reherd_follows {s0 : _} (hs0 : Follows z s0) : Follows z (State.reherd s0) := by
  unfold State.reherd
  extract_lets -merge -useContext -underBinder y0
  clear_value y0
  exact (State.mapCore_follows hs0)

theorem State.swapPages_follows {s0 : _} (hs0 : Follows z s0) : Follows z (State.swapPages s0) := by
  unfold State.swapPages
  extract_lets -merge -useContext -underBinder y0 y1 y2 y3 y4 y5 y6 y7 y8
  clear_value y0 y1 y2
  have h60 : Follows z y3 := (State.wr_follows hs0)
  clear_value y3
  have h61 : Follows z y4 := (State.bump_follows (State.raise_follows (State.wr_follows h60)))
  clear_value y4
  have h62 : Follows z y5 := (State.wr_follows (State.wr_follows (State.wr_follows h61)))
  clear_value y5
  have h63 : Follows z y6 := (State.wr_follows (State.setFlag_follows h62))
  clear_value y6
  have h64 : Follows z y7 := (State.mapMap_follows h63 rfl rfl)
  clear_value y7
  have h65 : Follows z y8 := (State.mapMate_follows (State.mapCore_follows h64))
  clear_value y8
  exact (State.wakeDemands_follows (State.reherd_follows (State.countRefs_follows (State.showDirty_follows h65))))

theorem execMapSwap_follows {a0 a1 s2 : _} (hs2 : Follows z s2) : ResFollows z (execMapSwap a0 a1 s2) := by
  unfold execMapSwap
  extract_lets -merge -useContext -underBinder y0
  have h60 : Follows z y0 := (State.tick_follows hs2)
  clear_value y0
  split
  · exact (ResFollows.next h60)
  · exact (ResFollows.ite (ResFollows.ite (ResFollows.next (State.swapPages_follows h60)) (ResFollows.next (State.complete_follows (State.sendRec_follows (State.dropCommit_follows h60))))) (ResFollows.next h60))

theorem execCopyForwardDone_follows {a0 a1 s2 : _} (hs2 : Follows z s2) : ResFollows z (execCopyForwardDone a0 a1 s2) := by
  unfold execCopyForwardDone
  extract_lets -merge -useContext -underBinder y0
  have h60 : Follows z y0 := (State.tick_follows hs2)
  clear_value y0
  split
  · exact (ResFollows.next h60)
  · extract_lets -merge -useContext -underBinder y66 y67 y68 y69 y70
    have hp : Canonical z → Store.wf entryDefault y66 = true := fun c => by
      refine wf_foldl_page (fun _ _ h => wf_putEntry h) _ (wf_foldl_page (fun _ _ h => wf_putEntry h) _ (wf_foldl_page ?_ _ (Canonical.shadow (h60.canon c))))
      intro p b h
      split
      · exact h
      · exact wf_putEntry h
    clear_value y66 y67
    have h126 : Follows z y68 := (State.mapMap_follows (State.setShadow_follows h60 hp) rfl rfl)
    clear_value y68
    have h127 : Follows z y69 := (State.raise_follows (State.wr_follows h126))
    clear_value y69
    have h128 : Follows z y70 := (State.mirrorEntries_follows h127)
    clear_value y70
    exact (ResFollows.next (State.complete_follows h128))

theorem execMapReadback_follows {a0 s1 : _} (hs1 : Follows z s1) : ResFollows z (execMapReadback a0 s1) := by
  unfold execMapReadback
  refine ResFollows.next ?_
  refine State.run_follows hs1 ?_
  · intro x3 x5 h4
    extract_lets -merge -useContext -underBinder y6 y7 y8 y9
    clear_value y6 y7 y8 y9
    exact (AnsFollows.ite AnsFollows.refuse (Ans.written_follows (State.writeBuf_follows h4) (fun _ h66 => (AnsFollows.ok h66))))

theorem State.setTimer_follows {s0 a1 a2 a3 : _} (hs0 : Follows z s0) : Follows z (State.setTimer s0 a1 a2 a3) := by
  unfold State.setTimer
  exact (State.mapSel_follows hs0 rfl rfl)

theorem State.countSwitch_follows {s0 a1 : _} (hs0 : Follows z s0) : Follows z (State.countSwitch s0 a1) := by
  unfold State.countSwitch
  extract_lets -merge -useContext -underBinder y0
  have h60 : Follows z y0 := (Follows.ite (State.raise_follows (State.inc_follows hs0)) hs0)
  clear_value y0
  exact (State.mapSel_follows h60 rfl rfl)

theorem State.storeSel_follows {s0 a1 a2 a3 : _} (hs0 : Follows z s0) : Follows z (State.storeSel s0 a1 a2 a3) := by
  unfold State.storeSel
  extract_lets -merge -useContext -underBinder y0 y1 y2 y3 y4 y5
  clear_value y0
  have h60 : Follows z y1 := (State.setTimer_follows hs0)
  clear_value y1
  have h61 : Follows z y2 := (State.countSwitch_follows (State.setSel_follows h60))
  clear_value y2 y3
  have h62 : Follows z y4 := (State.setSel_follows h60)
  clear_value y4
  have h63 : Follows z y5 := (State.mapSel_follows h62 rfl rfl)
  clear_value y5
  exact (Follows.ite (Follows.ite (State.mirror_follows h61) h61) (Follows.ite (State.mapPair_follows h63) h63))

theorem State.setLineState_follows {s0 a1 a2 : _} (hs0 : Follows z s0) : Follows z (State.setLineState s0 a1 a2) := by
  unfold State.setLineState
  exact (State.setReg_follows hs0)

theorem State.storeGrp_follows {s0 a1 a2 a3 : _} (hs0 : Follows z s0) : Follows z (State.storeGrp s0 a1 a2 a3) := by
  unfold State.storeGrp
  extract_lets -merge -useContext -underBinder y0 y1 y2 y3 y4 y5 y6 y7 y8 y9 y10
  clear_value y0 y1 y2 y3
  have h60 : Follows z y4 := (State.setTimer_follows hs0)
  clear_value y4
  have h61 : Follows z y5 := (State.wr_follows (State.wr_follows (State.setLineState_follows h60)))
  clear_value y5
  have h62 : Follows z y6 := (State.countSwitch_follows h61)
  clear_value y6
  have h63 : Follows z y7 := (State.countSwitch_follows (State.setLineState_follows h60))
  clear_value y7 y8
  have h64 : Follows z y9 := (State.setLineState_follows h60)
  clear_value y9
  have h65 : Follows z y10 := (State.mapSel_follows h64 rfl rfl)
  clear_value y10
  exact (Follows.ite (Follows.ite (Follows.ite (State.mirror_follows h62) h62) (Follows.ite (State.mirror_follows (State.raise_follows h63)) h63)) (Follows.ite (State.mapPair_follows h65) h65))

theorem State.exercise_follows {s0 a1 a2 a3 : _} (hs0 : Follows z s0) : Follows z (State.exercise s0 a1 a2 a3) := by
  unfold State.exercise
  exact (Follows.ite (State.mapSel_follows hs0 rfl rfl) hs0)

theorem State.evalOne_follows {s0 a1 : _} (hs0 : Follows z s0) : Follows z (State.evalOne s0 a1) := by
  unfold State.evalOne
  extract_lets -merge -useContext -underBinder y0 y1
  clear_value y0 y1
  split
  · split
    · extract_lets -merge -useContext -underBinder y68
      have h128 : Follows z y68 := (State.exercise_follows hs0)
      clear_value y68
      split
      · exact (State.storeSel_follows h128)

theorem State.evalPair_follows {s0 a1 a2 : _} (hs0 : Follows z s0) : Follows z (State.evalPair s0 a1 a2) := by
  unfold State.evalPair
  extract_lets -merge -useContext -underBinder y0 y1 y2 y3
  clear_value y0 y1 y2 y3
  split
  · split
    · split
      · split
        · extract_lets -merge -useContext -underBinder y76 y77 y78 y79 y80 y81 y82 y83
          clear_value y76
          have h136 : Follows z y77 := (State.exercise_follows (State.exercise_follows hs0))
          clear_value y77 y78 y79 y80 y83
          exact (State.storeSel_follows (State.storeSel_follows h136))

theorem State.evalSel_follows {s0 a1 : _} (hs0 : Follows z s0) : Follows z (State.evalSel s0 a1) := by
  unfold State.evalSel
  exact (Follows.ite (Follows.ite (State.evalPair_follows (State.count_follows hs0)) (State.evalOne_follows (State.count_follows hs0))) hs0)

theorem State.evalGrp_follows {s0 a1 : _} (hs0 : Follows z s0) : Follows z (State.evalGrp s0 a1) := by
  unfold State.evalGrp
  extract_lets -merge -useContext -underBinder y0 y1
  clear_value y0 y1
  refine Follows.ite ?_ ?_
  · split
    · split
      · extract_lets -merge -useContext -underBinder y68
        have h128 : Follows z y68 := (State.exercise_follows hs0)
        clear_value y68
        split
        · exact (State.storeGrp_follows h128)
  · exact hs0

theorem State.openBurst_follows {s0 a1 : _} (hs0 : Follows z s0) : Follows z (State.openBurst s0 a1) := by
  unfold State.openBurst
  exact (Follows.ite (State.mapSel_follows hs0 rfl rfl) hs0)

theorem State.evalAll_follows {s0 a1 a2 : _} (hs0 : Follows z s0) : Follows z (State.evalAll s0 a1 a2) := by
  unfold State.evalAll
  exact (Follows.foldl (fun _ _ h0 => (State.evalGrp_follows h0)) (Follows.foldl (fun _ _ h1 => (State.evalSel_follows h1)) hs0 _) _)

theorem execHoldoffExpiry_follows {a0 a1 a2 s3 : _} (hs3 : Follows z s3) : ResFollows z (execHoldoffExpiry a0 a1 a2 s3) := by
  unfold execHoldoffExpiry
  extract_lets -merge -useContext -underBinder y0 y1 y2 y3 y4 y5 y6 y7 y8 y9
  have h60 : Follows z y0 := (State.tick_follows hs3)
  clear_value y0 y1 y2 y3 y4
  have h61 : Follows z y5 := (State.setTimer_follows (State.setLineState_follows h60))
  clear_value y5 y6 y7 y8 y9
  exact (ResFollows.ite (ResFollows.ite (ResFollows.next (State.evalGrp_follows (State.openBurst_follows h61))) (ResFollows.next h60)) (ResFollows.ite (ResFollows.next (State.evalSel_follows (State.openBurst_follows (State.setTimer_follows (State.setSel_follows h60))))) (ResFollows.next h60)))

theorem execWtrExpiry_follows {a0 a1 a2 s3 : _} (hs3 : Follows z s3) : ResFollows z (execWtrExpiry a0 a1 a2 s3) := by
  unfold execWtrExpiry
  extract_lets -merge -useContext -underBinder y0 y1 y2 y3 y4 y5 y6
  have h60 : Follows z y0 := (State.tick_follows hs3)
  clear_value y0 y1 y2 y3
  have h61 : Follows z y4 := (State.setTimer_follows (State.setLineState_follows h60))
  clear_value y4 y5 y6
  exact (ResFollows.ite (ResFollows.ite (ResFollows.next (State.evalGrp_follows (State.openBurst_follows h61))) (ResFollows.next h60)) (ResFollows.ite (ResFollows.next (State.evalSel_follows (State.openBurst_follows (State.setTimer_follows (State.setSel_follows h60))))) (ResFollows.next h60)))

theorem State.showSelUse_follows {s0 : _} (hs0 : Follows z s0) : Follows z (State.showSelUse s0) := by
  unfold State.showSelUse
  exact (State.wr_follows hs0)

theorem selRecords_follows {s0 a1 a2 : _} (hs0 : Follows z s0) : ExcPFollows z (selRecords s0 a1 a2) := by
  unfold selRecords
  extract_lets -merge -useContext -underBinder y0
  clear_value y0
  exact (ExcPFollows.ite (ExcPFollows.ok (Follows.fst_mk hs0)) (ExcPFollows.map (State.readBuf_follows hs0) fun _ => rfl))

theorem State.selDelete_follows {s0 a1 : _} (hs0 : Follows z s0) : AnsFollows z (State.selDelete s0 a1) := by
  unfold State.selDelete
  extract_lets -merge -useContext -underBinder y0 y1 y2 y3 y4
  clear_value y0 y1 y2
  have h60 : Follows z y4 := hs0.selOf (fun c => Store.wf_foldl (fun _ _ h => Store.wf_put h _ _) _ c.selectors) (fun c => c.monitors)
  clear_value y4
  exact (AnsFollows.ite AnsFollows.refuse (AnsFollows.ite AnsFollows.refuse (AnsFollows.ok (State.mirrorSettings_follows (State.showSelUse_follows h60)))))

theorem wf_putSels (l : List W128) {sels : List (Nat × W128)} {i : Nat} (h : Store.wf selDefault sels = true) :
    Store.wf selDefault (putSels sels i l) = true := by
  induction l generalizing sels i with
  | nil => exact h
  | cons r rs ih => exact ih (Store.wf_put h _ _)

theorem State.selStore_follows {a0 s1 a2 : _} (hs1 : Follows z s1) : AnsFollows z (State.selStore a0 s1 a2) := by
  unfold State.selStore
  extract_lets -merge -useContext -underBinder y0
  clear_value y0
  refine AnsFollows.ite ?_ ?_
  · exact AnsFollows.refuse
  · split
    · exact AnsFollows.refuseWith
    · extract_lets -merge -useContext -underBinder y65 y66 y67 y68 y69 y70
      clear_value y65 y67 y68 y69 y70
      refine AnsFollows.ite ?_ ?_
      · exact AnsFollows.refuse
      · refine AnsFollows.ite ?_ ?_
        · exact AnsFollows.refuse
        · split
          · exact AnsFollows.refuseWith
          · extract_lets -merge -useContext -underBinder y128 y129 y130 y131
            have h188 : Follows z y128 := (State.showSelUse_follows (hs1.selOf (fun c => wf_putSels _ c.selectors) (fun c => c.monitors)))
            clear_value y128
            have h189 : Follows z y129 := (Follows.ite h188 (State.countRefs_follows h188))
            clear_value y129 y130
            have h190 : Follows z y131 := (State.mirrorSettings_follows h189)
            clear_value y131
            exact (AnsFollows.ok (State.wakeDemands_follows (State.evalAll_follows (State.openBurst_follows h190))))

theorem State.selWriteWork_follows {s0 a1 a2 : _} (hs0 : Follows z s0) : AnsFollows z (State.selWriteWork s0 a1 a2) := by
  unfold State.selWriteWork
  exact (AnsFollows.ite (State.selDelete_follows hs0) (Ans.reading_follows (selRecords_follows hs0) (fun _ _ h0 => (State.selStore_follows h0))))

theorem groupRecord_follows {s0 a1 a2 : _} (hs0 : Follows z s0) : ExcPFollows z (groupRecord s0 a1 a2) := by
  unfold groupRecord
  exact (ExcPFollows.ite (ExcPFollows.ok (Follows.fst_mk hs0)) (ExcPFollows.map (State.readBuf_follows hs0) fun _ => rfl))

theorem State.forgetAps_follows {s0 a1 : _} (hs0 : Follows z s0) : Follows z (State.forgetAps s0 a1) := by
  unfold State.forgetAps
  exact (State.mapLine_follows hs0)

theorem State.grpDelete_follows {s0 a1 a2 : _} (hs0 : Follows z s0) : AnsFollows z (State.grpDelete s0 a1 a2) := by
  unfold State.grpDelete
  extract_lets -merge -useContext -underBinder y0 y1
  have h60 : Follows z y0 := (State.setReg_follows (State.setReg_follows (State.setReg_follows hs0)))
  clear_value y0
  have h61 : Follows z y1 := (State.mapSel_follows h60 rfl rfl)
  clear_value y1
  exact (AnsFollows.ite AnsFollows.refuse (AnsFollows.ite AnsFollows.refuse (AnsFollows.ok (State.mirrorSettings_follows h61))))

theorem State.grpStore_follows {a0 a1 s2 a3 : _} (hs2 : Follows z s2) : AnsFollows z (State.grpStore a0 a1 s2 a3) := by
  unfold State.grpStore
  extract_lets -merge -useContext -underBinder y0 y1 y2 y3
  clear_value y0 y1 y2 y3
  refine AnsFollows.ite ?_ ?_
  · exact AnsFollows.refuse
  · split
    · exact AnsFollows.refuseWith
    · extract_lets -merge -useContext -underBinder y65 y66
      have h125 : Follows z y65 := (Follows.ite hs2 (State.forgetAps_follows hs2))
      clear_value y65
      have h126 : Follows z y66 := (State.mirrorSettings_follows (State.setReg_follows h125))
      clear_value y66
      exact (AnsFollows.ok (State.wakeDemands_follows (State.evalAll_follows (State.openBurst_follows h126))))

theorem State.grpWriteWork_follows {s0 a1 a2 : _} (hs0 : Follows z s0) : AnsFollows z (State.grpWriteWork s0 a1 a2) := by
  unfold State.grpWriteWork
  extract_lets -merge -useContext -underBinder y0
  clear_value y0
  exact (AnsFollows.ite (State.grpDelete_follows hs0) (Ans.reading_follows (groupRecord_follows hs0) (fun _ _ h60 => (State.grpStore_follows h60))))

theorem execSelWrite_follows {a0 s1 : _} (hs1 : Follows z s1) : ResFollows z (execSelWrite a0 s1) := by
  unfold execSelWrite
  exact (ResFollows.next (State.run_follows hs1 (fun _ _ h0 => (AnsFollows.ite AnsFollows.refuse (AnsFollows.ite (State.selWriteWork_follows h0) (State.grpWriteWork_follows h0))))))

theorem State.selCommandWork_follows {s0 a1 : _} (hs0 : Follows z s0) : AnsFollows z (State.selCommandWork s0 a1) := by
  unfold State.selCommandWork
  extract_lets -merge -useContext -underBinder y0 y1 y2 y3 y4 y5
  clear_value y0 y1 y2 y3
  have h60 : Follows z y4 := (Follows.foldl (fun _ _ h61 => (State.setSel_follows h61)) hs0 _)
  clear_value y4 y5
  exact (AnsFollows.ite AnsFollows.refuse (AnsFollows.ite (AnsFollows.ok (State.evalAll_follows (State.openBurst_follows (State.mirrorSettings_follows h60)))) (AnsFollows.ite (AnsFollows.ok (State.evalAll_follows (State.openBurst_follows (State.mirrorSettings_follows (State.setLineState_follows hs0))))) (AnsFollows.ok hs0))))

theorem execSelCommand_follows {a0 s1 : _} (hs1 : Follows z s1) : ResFollows z (execSelCommand a0 s1) := by
  unfold execSelCommand
  exact (ResFollows.next (State.run_follows hs1 (fun _ _ h0 => (State.selCommandWork_follows h0))))

theorem State.repairSel_follows {s0 a1 : _} (hs0 : Follows z s0) : Follows z (State.repairSel s0 a1) := by
  unfold State.repairSel
  split
  · exact (State.setSel_follows hs0)
  · exact hs0

theorem execSelStatus_follows {a0 s1 : _} (hs1 : Follows z s1) : ResFollows z (execSelStatus a0 s1) := by
  unfold execSelStatus
  refine ResFollows.next ?_
  refine State.run_follows hs1 ?_
  · intro x3 x5 h4
    extract_lets -merge -useContext -underBinder y6 y7 y8 y9 y10
    clear_value y6 y7 y8
    have h66 : Follows z y9 := (Follows.ite (Follows.foldl (fun _ _ h67 => (State.repairSel_follows h67)) h4 _) h4)
    clear_value y9 y10
    exact (Ans.written_follows (State.writeBuf_follows h66) (fun _ h68 => (AnsFollows.ok h68)))

theorem State.putMon_follows {s0 a1 a2 : _} (hs0 : Follows z s0) : Follows z (State.putMon s0 a1 a2) := by
  unfold State.putMon
  extract_lets -merge -useContext -underBinder y0 y1 y2 y3 y4
  have h60 : Follows z y0 := (State.mapSel_follows hs0 rfl rfl)
  clear_value y0 y1 y2 y3
  have h61 : Follows z y4 := (State.setMon_follows h60)
  clear_value y4
  exact (Follows.ite (Follows.freshAt _ h61 h60) (State.setMon_follows h60))

theorem State.showMonUse_follows {s0 : _} (hs0 : Follows z s0) : Follows z (State.showMonUse s0) := by
  unfold State.showMonUse
  exact (State.wr_follows hs0)

theorem monRecords_follows {s0 a1 a2 : _} (hs0 : Follows z s0) : ExcPFollows z (monRecords s0 a1 a2) := by
  unfold monRecords
  exact (ExcPFollows.ite (ExcPFollows.ok (Follows.fst_mk hs0)) (ExcPFollows.map (State.readBuf_follows hs0) fun _ => rfl))

theorem State.monStore_follows {a0 s1 a2 : _} (hs1 : Follows z s1) : AnsFollows z (State.monStore a0 s1 a2) := by
  unfold State.monStore
  extract_lets -merge -useContext -underBinder y0 y1 y2 y3 y4 y5 y6 y7
  clear_value y0 y1 y2 y3 y4 y5
  have h60 : Follows z y6 := (State.showMonUse_follows (Follows.foldl (fun _ _ h61 => (State.putMon_follows h61)) hs1 _))
  clear_value y6 y7
  exact (AnsFollows.ite AnsFollows.refuse (AnsFollows.ite AnsFollows.refuse (AnsFollows.ite AnsFollows.refuseWith (AnsFollows.ok (State.wakeDemands_follows (State.mirrorSettings_follows h60))))))

theorem State.monWork_follows {s0 a1 a2 : _} (hs0 : Follows z s0) : AnsFollows z (State.monWork s0 a1 a2) := by
  unfold State.monWork
  exact (Ans.reading_follows (monRecords_follows hs0) (fun _ _ h0 => (State.monStore_follows h0)))

theorem execMonConfigure_follows {a0 s1 : _} (hs1 : Follows z s1) : ResFollows z (execMonConfigure a0 s1) := by
  unfold execMonConfigure
  exact (ResFollows.next (State.run_follows hs1 (fun _ _ h0 => (AnsFollows.ite AnsFollows.refuse (State.monWork_follows h0)))))

theorem State.mirrorGrp_follows {s0 a1 : _} (hs0 : Follows z s0) : Follows z (State.mirrorGrp s0 a1) := by
  unfold State.mirrorGrp
  exact (State.mirror_follows hs0)

theorem State.writeLineGrp_follows {s0 a1 a2 : _} (hs0 : Follows z s0) : Follows z (State.writeLineGrp s0 a1 a2) := by
  unfold State.writeLineGrp
  extract_lets -merge -useContext -underBinder y0 y1 y2 y3
  clear_value y0
  have h60 : Follows z y1 := (State.wr_follows hs0)
  clear_value y1
  have h61 : Follows z y2 := (Follows.ite (State.wr_follows h60) h60)
  clear_value y2
  have h62 : Follows z y3 := (Follows.ite (State.raise_follows (State.inc_follows h61)) h61)
  clear_value y3
  exact (Follows.ite (Follows.ite (State.mirrorGrp_follows h62) h62) hs0)

theorem execLineSelWrite_follows {a0 a1 a2 a3 s4 : _} (hs4 : Follows z s4) : ResFollows z (execLineSelWrite a0 a1 a2 a3 s4) := by
  unfold execLineSelWrite
  exact (ResFollows.ite (ResFollows.next (State.postedUr_follows (State.tick_follows hs4))) (ResFollows.next (State.writeLineGrp_follows (State.tick_follows hs4))))

theorem State.writeApsTx_follows {s0 a1 a2 : _} (hs0 : Follows z s0) : Follows z (State.writeApsTx s0 a1 a2) := by
  unfold State.writeApsTx
  extract_lets -merge -useContext -underBinder y0 y1
  clear_value y0
  have h60 : Follows z y1 := (State.wr_follows hs0)
  clear_value y1
  exact (Follows.ite (Follows.ite (State.mirrorGrp_follows h60) h60) hs0)

theorem execApsTxWrite_follows {a0 a1 a2 a3 s4 : _} (hs4 : Follows z s4) : ResFollows z (execApsTxWrite a0 a1 a2 a3 s4) := by
  unfold execApsTxWrite
  exact (ResFollows.ite (ResFollows.next (State.postedUr_follows (State.tick_follows hs4))) (ResFollows.next (State.writeApsTx_follows (State.tick_follows hs4))))

end Sys2Proof.Machine
end

