-- ==== Sys2Proof/Laws/FollowsCore.lean ====
section
/-! SUPPORT. Laws/FollowsCore.lean: engines and timing: each operation and each command keeps what `Follows` says. -/
namespace Sys2Proof.Machine

variable {z : State}

theorem State.writeGenConst_follows {s0 a1 a2 : _} (hs0 : Follows z s0) : Follows z (State.writeGenConst s0 a1 a2) := by
  unfold State.writeGenConst
  extract_lets -merge -useContext -underBinder y0
  have h60 : Follows z y0 := (State.setReg_follows hs0)
  clear_value y0
  exact (Follows.ite h60 (State.mapCore_follows h60))

theorem execGenConstWrite_follows {a0 a1 a2 a3 s4 : _} (hs4 : Follows z s4) : ResFollows z (execGenConstWrite a0 a1 a2 a3 s4) := by
  unfold execGenConstWrite
  exact (ResFollows.ite (ResFollows.next (State.postedUr_follows (State.tick_follows hs4))) (ResFollows.next (State.writeGenConst_follows (State.tick_follows hs4))))

theorem State.writeConstHold_follows {s0 a1 : _} (hs0 : Follows z s0) : Follows z (State.writeConstHold s0 a1) := by
  unfold State.writeConstHold
  extract_lets -merge -useContext -underBinder y0
  have h60 : Follows z y0 := (Follows.ite (State.mapCore_follows hs0) hs0)
  clear_value y0
  exact (State.setFlag_follows h60)

theorem execConstHold_follows {a0 a1 a2 s3 : _} (hs3 : Follows z s3) : ResFollows z (execConstHold a0 a1 a2 s3) := by
  unfold execConstHold
  exact (ResFollows.ite (ResFollows.next (State.postedUr_follows (State.tick_follows hs3))) (ResFollows.next (State.writeConstHold_follows (State.tick_follows hs3))))

theorem execPrbsRestart_follows {a0 a1 s2 : _} (hs2 : Follows z s2) : ResFollows z (execPrbsRestart a0 a1 s2) := by
  unfold execPrbsRestart
  exact (ResFollows.ite (ResFollows.next (State.postedUr_follows (State.tick_follows hs2))) (ResFollows.next (State.mapCore_follows (State.tick_follows hs2))))

theorem execPrtIdleWrite_follows {a0 a1 a2 a3 s4 : _} (hs4 : Follows z s4) : ResFollows z (execPrtIdleWrite a0 a1 a2 a3 s4) := by
  unfold execPrtIdleWrite
  exact (ResFollows.ite (ResFollows.next (State.postedUr_follows (State.tick_follows hs4))) (ResFollows.next (State.wr_follows (State.tick_follows hs4))))

theorem execRearm_follows {a0 a1 s2 : _} (hs2 : Follows z s2) : ResFollows z (execRearm a0 a1 s2) := by
  unfold execRearm
  exact (ResFollows.ite (ResFollows.next (State.postedUr_follows (State.tick_follows hs2))) (ResFollows.next (State.wr_follows (State.tick_follows hs2))))

theorem State.openInput_follows {s0 : _} (hs0 : Follows z s0) : Follows z (State.openInput s0) := by
  unfold State.openInput
  exact (Follows.ite hs0 (State.mapCore_follows hs0))

theorem State.putInput_follows {s0 a1 a2 : _} (hs0 : Follows z s0) : Follows z (State.putInput s0 a1 a2) := by
  unfold State.putInput
  exact (State.mapCore_follows (State.openInput_follows hs0))

theorem execInputWriteStart_follows {a0 s1 : _} (hs1 : Follows z s1) : ResFollows z (execInputWriteStart a0 s1) := by
  unfold execInputWriteStart
  extract_lets -merge -useContext -underBinder y0
  have h60 : Follows z y0 := (State.tick_follows hs1)
  clear_value y0
  exact (ResFollows.ite (ResFollows.next (State.openInput_follows h60)) (ResFollows.next h60))

theorem execGrainStart_follows {a0 a1 s2 : _} (hs2 : Follows z s2) : ResFollows z (execGrainStart a0 a1 s2) := by
  unfold execGrainStart
  extract_lets -merge -useContext -underBinder y0 y1
  have h60 : Follows z y0 := (State.tick_follows hs2)
  clear_value y0 y1
  refine ResFollows.ite ?_ ?_
  · split
    · exact (ResFollows.next (State.count_follows h60))
    · exact (ResFollows.next (State.mapEng_follows (State.count_follows (State.count_follows h60)) rfl))
  · exact (ResFollows.next h60)

theorem State.readEntry_follows {s0 a1 a2 : _} (hs0 : Follows z s0) : Follows z (State.readEntry s0 a1 a2) := by
  unfold State.readEntry
  split
  · exact hs0
  · exact (State.raise_follows (State.inc_follows (State.setPage_follows hs0 (fun c => (wf_putEntry (Canonical.page (Follows.canon hs0 c) _))))))
  · extract_lets -merge -useContext -underBinder y8 y9 y10
    have h68 : Follows z y8 := (State.wr_follows (State.wr_follows (State.inc_follows hs0)))
    clear_value y8 y9
    have h69 : Follows z y10 := (State.raise_follows (State.raise_follows (State.setFlag_follows h68)))
    clear_value y10
    exact (Follows.ite (State.setPage_follows h69 (fun c => (wf_putEntry (Canonical.page (Follows.canon h69 c) _)))) h69)

theorem State.dsCe_follows {a0 s1 a2 : _} (hs1 : Follows z s1) : Follows z (State.dsCe a0 s1 a2) := by
  unfold State.dsCe
  exact (State.raise_follows (State.inc_follows (State.inc_follows hs1)))

theorem State.dsUe_follows {a0 s1 a2 : _} (hs1 : Follows z s1) : Follows z (State.dsUe a0 s1 a2) := by
  unfold State.dsUe
  extract_lets -merge -useContext -underBinder y0 y1 y2
  clear_value y0
  have h60 : Follows z y1 := (State.wr_follows (State.wr_follows (State.inc_follows hs1)))
  clear_value y1
  have h61 : Follows z y2 := (State.raise_follows (State.raise_follows (State.wr_follows h60)))
  clear_value y2
  exact (State.mapEng_follows h61 rfl)

theorem State.countSpares_follows {s0 : _} (hs0 : Follows z s0) : Follows z (State.countSpares s0) := by
  unfold State.countSpares
  exact (State.wr_follows hs0)

theorem State.startMove_follows {s0 a1 a2 : _} (hs0 : Follows z s0) : Follows z (State.startMove s0 a1 a2) := by
  unfold State.startMove
  split
  · exact (State.raise_follows hs0)
  · exact (State.mapEng_follows hs0 rfl)

theorem State.moveOut_follows {s0 a1 : _} (hs0 : Follows z s0) : Follows z (State.moveOut s0 a1) := by
  unfold State.moveOut
  exact (Follows.ite (State.startMove_follows hs0) hs0)

theorem execGrainComplete_follows {a0 a1 a2 a3 a4 s5 : _} (hs5 : Follows z s5) : ResFollows z (execGrainComplete a0 a1 a2 a3 a4 s5) := by
  unfold execGrainComplete
  extract_lets -merge -useContext -underBinder y0
  have h60 : Follows z y0 := (State.tick_follows hs5)
  clear_value y0
  split
  · exact (ResFollows.next h60)
  · extract_lets -merge -useContext -underBinder y66 y67 y68 y69 y70 y71 y72 y73 y74 y75 y76 y77 y78
    clear_value y66 y67 y68 y69 y70 y71
    have h126 : Follows z y72 := (State.setPage_follows h60 (fun c => (wf_upsetPage (Canonical.page (Follows.canon h60 c) _))))
    clear_value y72
    have h127 : Follows z y73 := (Follows.foldl (fun _ _ h128 => (State.readEntry_follows h128)) h126 _)
    clear_value y73
    have h129 : Follows z y74 := (Follows.foldl (fun _ _ h130 => (State.dsUe_follows h130)) (Follows.foldl (fun _ _ h131 => (State.dsCe_follows h131)) h127 _) _)
    clear_value y74
    have h132 : Follows z y75 := (Follows.foldl (fun _ _ h133 => (State.moveOut_follows h133)) h129 _)
    clear_value y75
    have h134 : Follows z y76 := (State.mapEng_follows h132 rfl)
    clear_value y76 y77
    have h135 : Follows z y78 := (State.count_follows (State.count_follows (State.count_follows h134)))
    clear_value y78
    exact (ResFollows.ite (ResFollows.next (State.mapEng_follows h60 rfl)) (ResFollows.ite (ResFollows.next (State.boost_follows (State.raise_follows h135))) (ResFollows.next h135)))

theorem execGrainLate_follows {a0 a1 a2 s3 : _} (hs3 : Follows z s3) : ResFollows z (execGrainLate a0 a1 a2 s3) := by
  unfold execGrainLate
  extract_lets -merge -useContext -underBinder y0 y1 y2 y3
  have h60 : Follows z y0 := (State.tick_follows hs3)
  clear_value y0 y1 y2
  have h61 : Follows z y3 := (State.inc_follows (State.inc_follows (State.count_follows h60)))
  clear_value y3
  exact (ResFollows.ite (ResFollows.next (State.mapEng_follows h61 rfl)) (ResFollows.next h60))

theorem State.toHistory_follows {s0 a1 : _} (hs0 : Follows z s0) : Follows z (State.toHistory s0 a1) := by
  unfold State.toHistory
  extract_lets -merge -useContext -underBinder y0
  clear_value y0
  exact Follows.ite hs0 (hs0.hist fun c => Store.wf_foldl (fun _ _ h => Store.wf_put h _ _) y0 c.history)

theorem State.takePosition_follows {s0 : _} (hs0 : Follows z s0) : Follows z (State.takePosition s0) := by
  unfold State.takePosition
  extract_lets -merge -useContext -underBinder y0 y1 y2 y3
  clear_value y0 y1 y2
  have h60 : Follows z y3 := (Follows.foldl (fun _ _ h61 => (State.toHistory_follows h61)) hs0 _)
  clear_value y3
  exact (State.mapEng_follows h60 rfl)

theorem State.governClose_follows {s0 a1 a2 : _} (hs0 : Follows z s0) : Follows z (State.governClose s0 a1 a2) := by
  unfold State.governClose
  extract_lets -merge -useContext -underBinder y0 y1 y2 y3 y4 y5 y6 y7
  clear_value y0 y1 y2 y3 y4 y5
  have h60 : Follows z y6 := (State.mapEng_follows hs0 rfl)
  clear_value y6
  have h61 : (∀ a0, Follows z a0 → Follows z (y7 a0)) := (fun _ h62 => (State.mapEng_follows h62 rfl))
  clear_value y7
  exact (Follows.ite (State.raise_follows (State.mapEng_follows (State.boost_follows h60) rfl)) (Follows.ite (Follows.ite (h61 _ (State.mapEng_follows h60 rfl)) (Follows.ite (h61 _ (State.commandV_follows h60)) h60)) (Follows.ite (Follows.ite (h61 _ (State.commandV_follows h60)) (Follows.ite (h61 _ (State.mapEng_follows h60 rfl)) h60)) h60)))

theorem State.latePersist_follows {s0 a1 : _} (hs0 : Follows z s0) : Follows z (State.latePersist s0 a1) := by
  unfold State.latePersist
  extract_lets -merge -useContext -underBinder y0 y1 y2 y3
  clear_value y0 y1 y2
  have h60 : Follows z y3 := (State.mapEng_follows hs0 rfl)
  clear_value y3
  exact (Follows.ite (State.raise_follows (State.raise_follows h60)) (Follows.ite (State.setFlag_follows h60) h60))

theorem State.closeCandle_follows {s0 a1 : _} (hs0 : Follows z s0) : Follows z (State.closeCandle s0 a1) := by
  unfold State.closeCandle
  extract_lets -merge -useContext -underBinder y0 y1 y2 y3 y4 y5 y6 y7 y8
  clear_value y0 y1
  have h60 : Follows z y2 := (State.latePersist_follows hs0)
  clear_value y2
  have h61 : Follows z y3 := (State.setFlag_follows (State.wr_follows (State.wr_follows h60)))
  clear_value y3
  have h62 : Follows z y4 := (State.wr_follows (State.wr_follows h61))
  clear_value y4
  have h63 : Follows z y5 := (Follows.ite (State.wr_follows (State.wr_follows h62)) h62)
  clear_value y5
  have h64 : Follows z y6 := (Follows.ite (State.raise_follows (State.inc_follows h63)) h63)
  clear_value y6
  have h65 : Follows z y7 := (State.mapEng_follows h64 rfl)
  clear_value y7
  have h66 : Follows z y8 := (Follows.ite (State.setFlag_follows h65) h65)
  clear_value y8
  exact (State.governClose_follows h66)

theorem State.markMoves_follows {s0 : _} (hs0 : Follows z s0) : Follows z (State.markMoves s0) := by
  unfold State.markMoves
  extract_lets -merge -useContext -underBinder y0
  have h60 : Follows z y0 := (Follows.foldl (fun _ _ h61 => (Follows.ite (State.wr_follows (State.wr_follows (State.wr_follows h61))) h61)) hs0 _)
  clear_value y0
  exact (State.countSpares_follows (State.mapEng_follows h60 rfl))

theorem execBankMove_follows {a0 a1 s2 : _} (hs2 : Follows z s2) : ResFollows z (execBankMove a0 a1 s2) := by
  unfold execBankMove
  extract_lets -merge -useContext -underBinder y0
  have h60 : Follows z y0 := (State.tick_follows hs2)
  clear_value y0
  split
  · extract_lets -merge -useContext -underBinder y64 y65
    have h124 : Follows z y64 := (State.wr_follows (State.wr_follows h60))
    clear_value y64
    have h125 : Follows z y65 := (State.mapEng_follows h124 rfl)
    clear_value y65
    exact (ResFollows.ite (ResFollows.next (State.raiseIf_follows h125)) (ResFollows.next h60))
  · exact (ResFollows.next (State.moveOut_follows h60))

theorem State.marchDone_follows {s0 a1 a2 : _} (hs0 : Follows z s0) : Follows z (State.marchDone s0 a1 a2) := by
  unfold State.marchDone
  extract_lets -merge -useContext -underBinder y0 y1 y2 y3
  have h60 : Follows z y0 := (State.mapEng_follows hs0 rfl)
  clear_value y0
  have h61 : Follows z y1 := (State.bump_follows (State.setFlag_follows (State.wr_follows h60)))
  clear_value y1
  have h62 : Follows z y2 := (Follows.ite (State.wr_follows (State.wr_follows h61)) (State.raise_follows (State.wr_follows h61)))
  clear_value y2
  have h63 : Follows z y3 := (State.raiseIf_follows (State.countSpares_follows h62))
  clear_value y3
  exact (Follows.ite (Follows.ite (Follows.foldl (fun _ _ h64 => (State.moveOut_follows h64)) h63 _) h63) hs0)

theorem State.coreMark_follows {s0 : _} (hs0 : Follows z s0) : Follows z (State.coreMark s0) := by
  unfold State.coreMark
  extract_lets -merge -useContext -underBinder y0 y1 y2 y3 y4 y5 y6 y7 y8
  clear_value y0
  have h60 : Follows z y1 := (State.openInput_follows hs0)
  clear_value y1
  have h61 : Follows z y2 := by
    unfold y2
    split
    · exact (State.mapEng_follows (State.wr_follows h60) rfl)
    · exact h60
  clear_value y2 y3 y4 y5 y6
  have h67 : Follows z y7 := (State.mapCore_follows h61)
  clear_value y7
  have h68 : Follows z y8 := (State.mapEng_follows h67 rfl)
  clear_value y8
  exact (State.markMoves_follows h68)

theorem State.mapRef_follows {s0 a1 a2 : _} (hs0 : Follows z s0) : Follows z (State.mapRef s0 a1 a2) := by
  unfold State.mapRef
  exact (State.mapTmg_follows hs0)

theorem State.refreshRef_follows {s0 a1 : _} (hs0 : Follows z s0) : Follows z (State.refreshRef s0 a1) := by
  unfold State.refreshRef
  extract_lets -merge -useContext -underBinder y0 y1 y2 y3 y4 y5 y6 y7 y8 y9 y10
  clear_value y0 y1 y2 y3
  have h60 : Follows z y4 := (State.setFlag_follows (State.wr_follows (State.wr_follows hs0)))
  clear_value y4
  have h61 : Follows z y5 := (Follows.ite (State.raise_follows h60) h60)
  clear_value y5
  have h62 : Follows z y6 := (State.mapRef_follows h61)
  clear_value y6 y7 y8
  have h63 : Follows z y9 := (State.wr_follows (State.setFlag_follows h62))
  clear_value y9
  have h64 : Follows z y10 := (State.setFlag_follows h63)
  clear_value y10
  exact (Follows.ite (State.setReg_follows hs0) (Follows.ite (State.raise_follows h64) h64))

theorem State.showHist_follows {s0 : _} (hs0 : Follows z s0) : Follows z (State.showHist s0) := by
  unfold State.showHist
  extract_lets -merge -useContext -underBinder y0
  clear_value y0
  exact (State.wr_follows (State.wr_follows hs0))

theorem State.setOut_follows {s0 a1 : _} (hs0 : Follows z s0) : Follows z (State.setOut s0 a1) := by
  unfold State.setOut
  exact (State.wr_follows (State.wr_follows hs0))

theorem State.outHist_follows {s0 : _} (hs0 : Follows z s0) : Follows z (State.outHist s0) := by
  unfold State.outHist
  split
  · exact (State.setOut_follows hs0)
  · extract_lets -merge -useContext -underBinder y5
    have h65 : Follows z y5 := (State.setOut_follows hs0)
    clear_value y5
    exact (Follows.freshAt _ h65 hs0)

theorem State.showQl_follows {s0 : _} (hs0 : Follows z s0) : Follows z (State.showQl s0) := by
  unfold State.showQl
  extract_lets -merge -useContext -underBinder y0
  clear_value y0
  exact (State.wr_follows hs0)

theorem State.noteClk_follows {s0 s1 : _} (hs0 : Follows z s0) (hs1 : Follows z s1) : Follows z (State.noteClk s0 s1) := by
  unfold State.noteClk
  extract_lets -merge -useContext -underBinder y0
  clear_value y0
  exact (State.mapTmg_follows hs1)

theorem State.enter_follows {s0 a1 : _} (hs0 : Follows z s0) : Follows z (State.enter s0 a1) := by
  unfold State.enter
  exact (Follows.ite hs0 (State.noteClk_follows hs0 (State.raise_follows (State.wr_follows hs0))))

theorem State.endSwitch_follows {s0 : _} (hs0 : Follows z s0) : Follows z (State.endSwitch s0) := by
  unfold State.endSwitch
  exact (State.mapTmg_follows (State.setFlag_follows hs0))

theorem State.freeBuildOut_follows {s0 : _} (hs0 : Follows z s0) : Follows z (State.freeBuildOut s0) := by
  unfold State.freeBuildOut
  extract_lets -merge -useContext -underBinder y0
  have h60 : Follows z y0 := (State.setReg_follows hs0)
  clear_value y0
  exact (Follows.freshAt _ h60 hs0)

theorem State.acquireRef_follows {s0 a1 : _} (hs0 : Follows z s0) : Follows z (State.acquireRef s0 a1) := by
  unfold State.acquireRef
  extract_lets -merge -useContext -underBinder y0 y1
  have h60 : Follows z y0 := (Follows.ite (State.freeBuildOut_follows hs0) hs0)
  clear_value y0
  have h61 : Follows z y1 := (State.setFlag_follows (State.raise_follows (State.wr_follows (State.endSwitch_follows h60))))
  clear_value y1
  exact (State.mapTmg_follows (State.enter_follows h61))

theorem State.noRef_follows {s0 : _} (hs0 : Follows z s0) : Follows z (State.noRef s0) := by
  unfold State.noRef
  extract_lets -merge -useContext -underBinder y0 y1
  clear_value y0
  have h60 : Follows z y1 := (Follows.ite (State.outHist_follows hs0) hs0)
  clear_value y1
  exact (State.enter_follows (State.setFlag_follows (State.setFlag_follows (State.endSwitch_follows h60))))

theorem State.aim_follows {s0 a1 : _} (hs0 : Follows z s0) : Follows z (State.aim s0 a1) := by
  unfold State.aim
  extract_lets -merge -useContext -underBinder y0
  have h60 : Follows z y0 := (State.raise_follows (State.wr_follows hs0))
  clear_value y0
  exact (State.mapTmg_follows h60)

theorem State.freeze_follows {s0 : _} (hs0 : Follows z s0) : Follows z (State.freeze s0) := by
  unfold State.freeze
  exact (State.enter_follows (State.setFlag_follows (State.outHist_follows hs0)))

theorem State.startHold_follows {s0 : _} (hs0 : Follows z s0) : Follows z (State.startHold s0) := by
  unfold State.startHold
  extract_lets -merge -useContext -underBinder y0
  have h60 : Follows z y0 := (State.setFlag_follows (State.freeze_follows hs0))
  clear_value y0
  exact (State.mapTmg_follows h60)

theorem State.follow_follows {s0 a1 : _} (hs0 : Follows z s0) : Follows z (State.follow s0 a1) := by
  unfold State.follow
  extract_lets -merge -useContext -underBinder y0
  clear_value y0
  split
  · exact (State.acquireRef_follows hs0)
  · exact hs0
  · exact (Follows.ite hs0 (State.acquireRef_follows hs0))
  · exact (State.noRef_follows hs0)
  · exact (Follows.ite hs0 (State.aim_follows (State.freeze_follows hs0)))
  · exact (State.noRef_follows hs0)
  · extract_lets -merge -useContext -underBinder y85
    have h145 : Follows z y85 := (State.aim_follows (State.raiseIf_follows hs0))
    clear_value y85
    exact (Follows.ite hs0 (Follows.ite hs0 (State.mapTmg_follows h145)))
  · exact (Follows.ite hs0 (State.noRef_follows hs0))
  · exact (State.acquireRef_follows hs0)
  · exact (State.acquireRef_follows hs0)
  · exact hs0

theorem State.select_follows {s0 : _} (hs0 : Follows z s0) : Follows z (State.select s0) := by
  unfold State.select
  extract_lets -merge -useContext -underBinder y0
  have h60 : Follows z y0 := by
    unfold y0
    split
    · exact (Follows.ite (State.setFlag_follows hs0) hs0)
    · exact hs0
  clear_value y0
  exact (State.showQl_follows (State.follow_follows h60))

theorem State.keepRef_follows {s0 : _} (hs0 : Follows z s0) : Follows z (State.keepRef s0) := by
  unfold State.keepRef
  exact (Follows.ite (State.enter_follows (State.setFlag_follows (State.endSwitch_follows (State.outHist_follows hs0)))) hs0)

theorem State.trackMate_follows {s0 : _} (hs0 : Follows z s0) : Follows z (State.trackMate s0) := by
  unfold State.trackMate
  extract_lets -merge -useContext -underBinder y0 y1 y2
  clear_value y0
  have h60 : Follows z y1 := (State.raise_follows (State.setFlag_follows (State.endSwitch_follows hs0)))
  clear_value y1
  have h61 : Follows z y2 := (Follows.ite (Follows.ite hs0 (State.mapTmg_follows (State.enter_follows h60))) (Follows.ite (State.enter_follows (State.setFlag_follows (State.endSwitch_follows (State.outHist_follows hs0)))) (State.keepRef_follows hs0)))
  clear_value y2
  exact (State.showQl_follows h61)

theorem State.watchSelected_follows {s0 : _} (hs0 : Follows z s0) : Follows z (State.watchSelected s0) := by
  unfold State.watchSelected
  extract_lets -merge -useContext -underBinder y0 y1
  clear_value y0
  have h60 : Follows z y1 := (State.raise_follows (State.refreshRef_follows (State.mapRef_follows hs0)))
  clear_value y1
  exact (Follows.ite (Follows.ite (State.startHold_follows hs0) (Follows.ite (State.enter_follows (State.freeBuildOut_follows (State.endSwitch_follows h60))) hs0)) hs0)

theorem State.refreshRefs_follows {s0 : _} (hs0 : Follows z s0) : Follows z (State.refreshRefs s0) := by
  unfold State.refreshRefs
  exact (State.showQl_follows (State.watchSelected_follows (Follows.foldl (fun _ _ h0 => (State.refreshRef_follows h0)) hs0 _)))

theorem execRefLoss_follows {a0 a1 a2 s3 : _} (hs3 : Follows z s3) : ResFollows z (execRefLoss a0 a1 a2 s3) := by
  unfold execRefLoss
  extract_lets -merge -useContext -underBinder y0 y1
  have h60 : Follows z y0 := (State.tick_follows hs3)
  clear_value y0
  have h61 : Follows z y1 := (State.mapRef_follows h60)
  clear_value y1
  exact (ResFollows.ite (ResFollows.next (State.refreshRefs_follows h61)) (ResFollows.next h60))

theorem execRefWtrExpiry_follows {a0 a1 s2 : _} (hs2 : Follows z s2) : ResFollows z (execRefWtrExpiry a0 a1 s2) := by
  unfold execRefWtrExpiry
  extract_lets -merge -useContext -underBinder y0
  have h60 : Follows z y0 := (State.tick_follows hs2)
  clear_value y0
  split
  · extract_lets -merge -useContext -underBinder y64
    have h124 : Follows z y64 := (State.refreshRefs_follows (State.mapRef_follows h60))
    clear_value y64
    exact (ResFollows.ite (ResFollows.next (State.raiseIf_follows h124)) (ResFollows.next h60))
  · exact (ResFollows.next (State.refreshRefs_follows h60))

theorem State.testSuspect_follows {s0 s1 a2 : _} (_hs0 : Follows z s0) (hs1 : Follows z s1) : Follows z (State.testSuspect s0 s1 a2) := by
  unfold State.testSuspect
  extract_lets -merge -useContext -underBinder y0 y1
  clear_value y0 y1
  refine Follows.ite ?_ ?_
  · exact (State.setReg_follows (State.setFlag_follows hs1))
  · split
    · exact (State.setReg_follows hs1)
    · extract_lets -merge -useContext -underBinder y65 y66
      have h125 : Follows z y65 := (State.setReg_follows hs1)
      clear_value y65 y66
      exact (Follows.ite (State.raise_follows (State.raiseIf_follows h125)) (Follows.ite (State.setFlag_follows h125) h125))

theorem execMonitorWindowEnd_follows {a0 a1 a2 a3 s4 : _} (hs4 : Follows z s4) : ResFollows z (execMonitorWindowEnd a0 a1 a2 a3 s4) := by
  unfold execMonitorWindowEnd
  extract_lets -merge -useContext -underBinder y0 y1 y2 y3 y4 y5 y6 y7 y8 y9 y10 y11 y12 y13
  have h60 : Follows z y0 := (State.tick_follows hs4)
  clear_value y0 y1
  have h61 : Follows z y2 := (Follows.foldl (fun _ _ h62 => (State.mapRef_follows (State.setReg_follows h62))) h60 _)
  clear_value y2
  have h63 : Follows z y3 := (Follows.foldl (fun _ _ h64 => (State.mapRef_follows h64)) h61 _)
  clear_value y3 y4
  have h65 : Follows z y5 := (State.mapTmg_follows h63)
  clear_value y5
  have h66 : Follows z y6 := (Follows.ite (State.setOut_follows h65) h65)
  clear_value y6
  have h67 : Follows z y7 := (State.refreshRefs_follows (State.showHist_follows h66))
  clear_value y7
  have h68 : Follows z y8 := (Follows.foldl (fun _ _ h69 => (State.testSuspect_follows h67 h69)) h67 _)
  clear_value y8 y9 y10 y11
  have h70 : Follows z y12 := (State.mapTmg_follows h68)
  clear_value y12
  have h71 : Follows z y13 := (Follows.ite (Follows.ite (State.enter_follows h70) h70) h68)
  clear_value y13
  exact (ResFollows.ite (ResFollows.next (State.mirror_follows (State.showQl_follows h71))) (ResFollows.next h60))

theorem execSelection_follows {a0 s1 : _} (hs1 : Follows z s1) : ResFollows z (execSelection a0 s1) := by
  unfold execSelection
  extract_lets -merge -useContext -underBinder y0 y1
  have h60 : Follows z y0 := (State.tick_follows hs1)
  clear_value y0
  have h61 : Follows z y1 := (State.refreshRefs_follows (State.mapTmg_follows h60))
  clear_value y1
  exact (ResFollows.ite (ResFollows.ite (ResFollows.next (State.select_follows h61)) (ResFollows.next (State.trackMate_follows h61))) (ResFollows.next h60))

theorem execAcquireTimeout_follows {a0 s1 : _} (hs1 : Follows z s1) : ResFollows z (execAcquireTimeout a0 s1) := by
  unfold execAcquireTimeout
  extract_lets -merge -useContext -underBinder y0 y1 y2 y3 y4
  have h60 : Follows z y0 := (State.tick_follows hs1)
  clear_value y0 y1 y2
  have h61 : Follows z y3 := (State.mapRef_follows h60)
  clear_value y3
  have h62 : Follows z y4 := (State.select_follows (Follows.ite (State.raise_follows h61) (State.refreshRefs_follows h61)))
  clear_value y4
  exact (ResFollows.ite (ResFollows.next (Follows.ite (State.mapTmg_follows h62) h62)) (ResFollows.next h60))

theorem execTimingHoldoffEnd_follows {a0 s1 : _} (hs1 : Follows z s1) : ResFollows z (execTimingHoldoffEnd a0 s1) := by
  unfold execTimingHoldoffEnd
  extract_lets -merge -useContext -underBinder y0
  have h60 : Follows z y0 := (State.tick_follows hs1)
  clear_value y0
  split
  · extract_lets -merge -useContext -underBinder y64
    have h124 : Follows z y64 := (State.refreshRefs_follows (State.mapTmg_follows h60))
    clear_value y64
    exact (ResFollows.ite (ResFollows.next (Follows.ite (State.select_follows h124) (State.trackMate_follows h124))) (ResFollows.next h60))
  · exact (ResFollows.next h60)

theorem execVerificationComplete_follows {a0 a1 a2 s3 : _} (hs3 : Follows z s3) : ResFollows z (execVerificationComplete a0 a1 a2 s3) := by
  unfold execVerificationComplete
  extract_lets -merge -useContext -underBinder y0 y1
  have h60 : Follows z y0 := (State.tick_follows hs3)
  clear_value y0 y1
  split
  · exact (ResFollows.ite (ResFollows.next (State.mapTmg_follows h60)) (ResFollows.next h60))
  · exact (ResFollows.next h60)

theorem execSwitchCommit_follows {a0 s1 : _} (hs1 : Follows z s1) : ResFollows z (execSwitchCommit a0 s1) := by
  unfold execSwitchCommit
  extract_lets -merge -useContext -underBinder y0
  have h60 : Follows z y0 := (State.tick_follows hs1)
  clear_value y0
  refine ResFollows.ite ?_ ?_
  · refine ResFollows.ite ?_ ?_
    · exact (ResFollows.next (Follows.ite (State.showQl_follows (State.enter_follows (State.endSwitch_follows h60))) h60))
    · split
      · extract_lets -merge -useContext -underBinder y66 y67 y68 y69
        clear_value y66
        have h126 : Follows z y67 := (State.raise_follows (State.wr_follows h60))
        clear_value y67
        have h127 : Follows z y68 := (State.setReg_follows (State.raiseIf_follows h126))
        clear_value y68
        have h128 : Follows z y69 := (State.endSwitch_follows h127)
        clear_value y69
        exact (ResFollows.ite (ResFollows.ite (ResFollows.next (State.showQl_follows (State.enter_follows h128))) (ResFollows.next (State.showQl_follows (State.mapTmg_follows (State.enter_follows h128))))) (ResFollows.next h60))
      · exact (ResFollows.next h60)
  · exact (ResFollows.next h60)

theorem State.failEntry_follows {s0 a1 a2 a3 : _} (hs0 : Follows z s0) : Follows z (State.failEntry s0 a1 a2 a3) := by
  unfold State.failEntry
  extract_lets -merge -useContext -underBinder y0 y1 y2
  have h60 : Follows z y0 := (State.setFlag_follows (State.raise_follows (State.raise_follows hs0)))
  clear_value y0
  have h61 : Follows z y1 := (State.setFlag_follows h60)
  clear_value y1
  have h62 : Follows z y2 := (Follows.ite (Follows.ite (State.freeze_follows h61) (State.mapTmg_follows h61)) h60)
  clear_value y2
  exact (Follows.ite (State.mapTmg_follows (State.setFlag_follows h62)) h62)

theorem State.setRefEntry_follows {s0 a1 a2 : _} (hs0 : Follows z s0) : Follows z (State.setRefEntry s0 a1 a2) := by
  unfold State.setRefEntry
  extract_lets -merge -useContext -underBinder y0 y1 y2 y3 y4 y5 y6
  clear_value y0
  have h60 : Follows z y1 := (State.setReg_follows hs0)
  clear_value y1 y2 y3
  have h61 : Follows z y4 := (State.mapRef_follows h60)
  clear_value y4
  have h62 : Follows z y5 := (State.setReg_follows h61)
  clear_value y5
  have h63 : Follows z y6 := (State.setReg_follows (State.setReg_follows h62))
  clear_value y6
  exact (Follows.ite h60 (Follows.ite (State.failEntry_follows h63) h63))

theorem State.external_follows {s0 a1 a2 : _} (hs0 : Follows z s0) : Follows z (State.external s0 a1 a2) := by
  unfold State.external
  split
  · exact (State.setFlag_follows (State.setFlag_follows (State.setFlag_follows hs0)))
  · exact (State.raise_follows hs0)
  · exact (State.raise_follows (Follows.foldl (fun _ _ h3 => (State.setFlag_follows h3)) hs0 _))
  · extract_lets -merge -useContext -underBinder y8
    have h68 : Follows z y8 := (State.raise_follows hs0)
    clear_value y8
    exact (Follows.ite h68 (State.enter_follows (State.setFlag_follows (State.endSwitch_follows (State.outHist_follows h68)))))

theorem State.startOutputs_follows {s0 : _} (hs0 : Follows z s0) : Follows z (State.startOutputs s0) := by
  unfold State.startOutputs
  exact (Follows.ite hs0 (State.mapTmg_follows (State.wr_follows (State.wr_follows hs0))))

theorem State.applyTiming_follows {s0 a1 : _} (hs0 : Follows z s0) : Follows z (State.applyTiming s0 a1) := by
  unfold State.applyTiming
  extract_lets -merge -useContext -underBinder y0 y1
  clear_value y0
  have h60 : Follows z y1 := (State.startOutputs_follows hs0)
  clear_value y1
  split
  · exact (State.wakeDemands_follows (State.setRefEntry_follows h60))
  · exact (State.setReg_follows (State.setReg_follows (State.setReg_follows h60)))
  · exact (State.external_follows h60)
  · exact (State.noteClk_follows h60 (State.setReg_follows h60))

theorem execTimingConfigure_follows {a0 s1 : _} (hs1 : Follows z s1) : ResFollows z (execTimingConfigure a0 s1) := by
  unfold execTimingConfigure
  exact (ResFollows.next (State.run_follows hs1 (fun _ _ h0 => (AnsFollows.ite (AnsFollows.ok (State.mirrorSettings_follows (State.applyTiming_follows h0))) AnsFollows.refuse))))

theorem State.endRealign_follows {s0 a1 a2 : _} (hs0 : Follows z s0) : Follows z (State.endRealign s0 a1 a2) := by
  unfold State.endRealign
  split
  · exact hs0
  · extract_lets -merge -useContext -underBinder y5
    clear_value y5
    exact (State.complete_follows (State.raise_follows (State.mapTmg_follows hs0)))

theorem execTimingRealign_follows {a0 s1 : _} (hs1 : Follows z s1) : ResFollows z (execTimingRealign a0 s1) := by
  unfold execTimingRealign
  refine ResFollows.next ?_
  refine State.run_follows hs1 ?_
  · intro x3 x5 h4
    extract_lets -merge -useContext -underBinder y6 y7 y8
    clear_value y6 y7 y8
    exact (AnsFollows.ite AnsFollows.refuse (AnsFollows.ite AnsFollows.refuse (AnsFollows.accepted (State.mapTmg_follows h4))))

theorem State.checkRealign_follows {s0 a1 : _} (hs0 : Follows z s0) : Follows z (State.checkRealign s0 a1) := by
  unfold State.checkRealign
  split
  · exact (Follows.ite (State.endRealign_follows hs0) hs0)
  · exact hs0

theorem State.fsyncTakes_follows {s0 a1 : _} (hs0 : Follows z s0) : Follows z (State.fsyncTakes s0 a1) := by
  unfold State.fsyncTakes
  extract_lets -merge -useContext -underBinder y0
  have h60 : Follows z y0 := (State.wr_follows hs0)
  clear_value y0
  exact (State.mapTmg_follows h60)

theorem State.ppsTakes_follows {s0 a1 : _} (hs0 : Follows z s0) : Follows z (State.ppsTakes s0 a1) := by
  unfold State.ppsTakes
  extract_lets -merge -useContext -underBinder y0
  have h60 : Follows z y0 := (State.wr_follows hs0)
  clear_value y0
  exact (State.mapTmg_follows h60)

theorem execRealignPulse_follows {a0 a1 a2 s3 : _} (hs3 : Follows z s3) : ResFollows z (execRealignPulse a0 a1 a2 s3) := by
  unfold execRealignPulse
  extract_lets -merge -useContext -underBinder y0
  have h60 : Follows z y0 := (State.tick_follows hs3)
  clear_value y0
  split
  · exact (ResFollows.next h60)
  · extract_lets -merge -useContext -underBinder y66
    clear_value y66
    exact (ResFollows.ite (ResFollows.ite (ResFollows.ite (ResFollows.next (State.checkRealign_follows (State.ppsTakes_follows h60))) (ResFollows.next (State.mapTmg_follows h60))) (ResFollows.next h60)) (ResFollows.ite (ResFollows.next (State.checkRealign_follows (State.fsyncTakes_follows h60))) (ResFollows.ite (ResFollows.next (State.endRealign_follows h60)) (ResFollows.next h60))))

theorem State.followAlign_follows {s0 a1 a2 : _} (hs0 : Follows z s0) : Follows z (State.followAlign s0 a1 a2) := by
  unfold State.followAlign
  extract_lets -merge -useContext -underBinder y0
  have h60 : Follows z y0 := (State.wr_follows (State.wr_follows hs0))
  clear_value y0
  exact (Follows.ite (State.mapTmg_follows h60) hs0)

theorem execRealignTimeout_follows {a0 a1 s2 : _} (hs2 : Follows z s2) : ResFollows z (execRealignTimeout a0 a1 s2) := by
  unfold execRealignTimeout
  extract_lets -merge -useContext -underBinder y0
  have h60 : Follows z y0 := (State.tick_follows hs2)
  clear_value y0
  split
  · exact (ResFollows.next h60)
  · exact (ResFollows.ite (ResFollows.next (State.endRealign_follows h60)) (ResFollows.next h60))

theorem execTimingStatus_follows {a0 s1 : _} (hs1 : Follows z s1) : ResFollows z (execTimingStatus a0 s1) := by
  unfold execTimingStatus
  refine ResFollows.next ?_
  refine State.run_follows hs1 ?_
  · intro x3 x5 h4
    extract_lets -merge -useContext -underBinder y6
    clear_value y6
    exact (AnsFollows.ok h4)

end Sys2Proof.Machine
end

