-- ==== Sys2Proof/Laws/FollowsPorts.lean ====
section
/-! SUPPORT. Laws/FollowsPorts.lean: ports and the walk: each operation and each command keeps what `Follows` says. -/
namespace Sys2Proof.Machine

variable {z : State}

theorem State.writeStruct_follows {s0 a1 a2 : _} (hs0 : Follows z s0) : Follows z (State.writeStruct s0 a1 a2) := by
  unfold State.writeStruct
  exact (Follows.foldl (fun _ _ h0 => (State.setReg_follows h0)) hs0 _)

theorem State.freshPath_follows {a0 s1 a2 : _} (hs1 : Follows z s1) : Follows z (State.freshPath a0 s1 a2) := by
  unfold State.freshPath
  exact (State.mapLine_follows (State.wr_follows (State.acquirePath_follows hs1)))

theorem State.changeStruct_follows {s0 a1 a2 : _} (hs0 : Follows z s0) : Follows z (State.changeStruct s0 a1 a2) := by
  unfold State.changeStruct
  extract_lets -merge -useContext -underBinder y0 y1 y2
  have h60 : Follows z y0 := (State.writeStruct_follows hs0)
  clear_value y0 y1 y2
  exact (Follows.foldl (fun _ _ h61 => (State.freshPath_follows h61)) h60 _)

theorem State.showPlls_follows {s0 a1 : _} (hs0 : Follows z s0) : Follows z (State.showPlls s0 a1) := by
  unfold State.showPlls
  exact (Follows.foldl (fun _ _ h0 => (Follows.ite h0 (State.setFlag_follows h0))) hs0 _)

theorem State.configure_follows {s0 a1 a2 : _} (hs0 : Follows z s0) : Follows z (State.configure s0 a1 a2) := by
  unfold State.configure
  extract_lets -merge -useContext -underBinder y0 y1 y2 y3 y4 y5 y6 y7 y8 y9 y10 y11
  clear_value y0 y1 y2 y3 y4 y5
  have h60 : Follows z y6 := (State.wr_follows hs0)
  clear_value y6 y7
  have h61 : Follows z y8 := (State.wr_follows (State.wr_follows (State.wr_follows h60)))
  clear_value y8
  have h62 : Follows z y9 := (State.wr_follows (State.wr_follows h61))
  clear_value y9
  have h63 : Follows z y10 := (Follows.ite (Follows.foldl (fun _ _ h64 => (State.setFlag_follows h64)) h62 _) h62)
  clear_value y10
  have h65 : Follows z y11 := (State.showPlls_follows h63)
  clear_value y11
  refine Follows.ite ?_ ?_
  · exact (State.mapDyn_follows h60)
  · split
    · exact h65
    · exact (State.changeStruct_follows h65)

theorem execPortConfigure_follows {a0 s1 : _} (hs1 : Follows z s1) : ResFollows z (execPortConfigure a0 s1) := by
  unfold execPortConfigure
  refine ResFollows.next ?_
  refine State.run_follows hs1 ?_
  · intro x3 x5 h4
    extract_lets -merge -useContext -underBinder y6
    clear_value y6
    exact (Ans.reading_follows (ExcPFollows.ite (ExcPFollows.ok (Follows.fst_mk h4)) (State.readBuf_follows h4)) (fun _ _ h66 => (AnsFollows.ite AnsFollows.refuse (AnsFollows.ite AnsFollows.refuse (AnsFollows.ite AnsFollows.refuse (AnsFollows.ok (State.configure_follows h66)))))))

theorem State.keepSent_follows {s0 a1 : _} (hs0 : Follows z s0) : Follows z (State.keepSent s0 a1) := by
  unfold State.keepSent
  extract_lets -merge -useContext -underBinder y0
  clear_value y0
  exact (State.mapLine_follows hs0)

theorem State.applyLive_follows {s0 a1 : _} (hs0 : Follows z s0) : Follows z (State.applyLive s0 a1) := by
  unfold State.applyLive
  split
  · exact hs0
  · extract_lets -merge -useContext -underBinder y5 y6
    have h65 : Follows z y5 := (State.mapDyn_follows (State.keepSent_follows hs0))
    clear_value y5
    have h66 : Follows z y6 := (State.wr_follows (State.wr_follows (State.wr_follows h65)))
    clear_value y6
    split
    · exact h66
    · exact (State.changeStruct_follows h66)

theorem State.toDepth_follows {s0 a1 a2 : _} (hs0 : Follows z s0) : Follows z (State.toDepth s0 a1 a2) := by
  unfold State.toDepth
  extract_lets -merge -useContext -underBinder y0 y1
  clear_value y0
  have h60 : Follows z y1 := (State.mapDyn_follows (State.raise_follows (State.wr_follows hs0)))
  clear_value y1
  exact (Follows.ite (State.startRx_follows h60) (Follows.ite (State.wr_follows h60) h60))

theorem State.evalDepth_follows {s0 a1 : _} (hs0 : Follows z s0) : Follows z (State.evalDepth s0 a1) := by
  unfold State.evalDepth
  extract_lets -merge -useContext -underBinder y0 y1
  clear_value y0
  have h60 : Follows z y1 := (State.mapDyn_follows hs0)
  clear_value y1
  exact (Follows.ite (State.wakeTo_follows h60) hs0)

theorem execDepthEvaluation_follows {a0 s1 : _} (hs1 : Follows z s1) : ResFollows z (execDepthEvaluation a0 s1) := by
  unfold execDepthEvaluation
  extract_lets -merge -useContext -underBinder y0
  have h60 : Follows z y0 := (State.tick_follows hs1)
  clear_value y0
  exact (ResFollows.ite (ResFollows.next (Follows.foldl (fun _ _ h61 => (State.evalDepth_follows h61)) (State.mapLine_follows h60) _)) (ResFollows.next h60))

theorem execPortDeepen_follows {a0 a1 s2 : _} (hs2 : Follows z s2) : ResFollows z (execPortDeepen a0 a1 s2) := by
  unfold execPortDeepen
  extract_lets -merge -useContext -underBinder y0 y1 y2 y3
  have h60 : Follows z y0 := (State.tick_follows hs2)
  clear_value y0 y1 y2 y3
  exact (ResFollows.ite (ResFollows.next (State.refreshRefs_follows (State.toDepth_follows h60))) (ResFollows.next h60))

theorem execPortWakeDone_follows {a0 a1 s2 : _} (hs2 : Follows z s2) : ResFollows z (execPortWakeDone a0 a1 s2) := by
  unfold execPortWakeDone
  extract_lets -merge -useContext -underBinder y0
  have h60 : Follows z y0 := (State.tick_follows hs2)
  clear_value y0
  split
  · exact (ResFollows.next h60)
  · exact (ResFollows.next (State.toDepth_follows h60))

theorem execLatencyBudget_follows {a0 s1 : _} (hs1 : Follows z s1) : ResFollows z (execLatencyBudget a0 s1) := by
  unfold execLatencyBudget
  exact (ResFollows.next (State.run_follows hs1 (fun _ _ h0 => (AnsFollows.ok (Follows.foldl (fun _ _ h1 => (State.setReg_follows h1)) h0 _)))))

theorem State.clearHistory_follows {s0 a1 : _} (hs0 : Follows z s0) : Follows z (State.clearHistory s0 a1) :=
  hs0.hist fun c => Store.wf_filter c.history _

theorem State.enablePort_follows {s0 a1 : _} (hs0 : Follows z s0) : Follows z (State.enablePort s0 a1) := by
  unfold State.enablePort
  extract_lets -merge -useContext -underBinder y0 y1 y2
  clear_value y0
  have h60 : Follows z y1 := (State.setFlag_follows (State.raise_follows (State.raise_follows hs0)))
  clear_value y1
  have h61 : Follows z y2 := (State.mapDyn_follows (State.showPlls_follows (State.clearHistory_follows (State.wr_follows h60))))
  clear_value y2
  exact (State.startRx_follows h61)

theorem State.enableQuad_follows {s0 : _} (hs0 : Follows z s0) : Follows z (State.enableQuad s0) := by
  unfold State.enableQuad
  split
  · exact hs0
  · extract_lets -merge -useContext -underBinder y6 y7 y8
    clear_value y6
    have h66 : Follows z y7 := (Follows.foldl (fun _ _ h67 => (Follows.ite (State.enablePort_follows h67) h67)) hs0 _)
    clear_value y7
    exact (Follows.boot h66 rfl rfl rfl)

theorem execPortEnable_follows {a0 s1 : _} (hs1 : Follows z s1) : ResFollows z (execPortEnable a0 s1) := by
  unfold execPortEnable
  refine ResFollows.next ?_
  refine State.run_follows hs1 ?_
  · intro x3 x5 h4
    extract_lets -merge -useContext -underBinder y6
    clear_value y6
    exact (AnsFollows.ite AnsFollows.refuse (AnsFollows.ite (AnsFollows.ok h4) (AnsFollows.accepted (State.enablePort_follows h4))))

theorem execPllLock_follows {a0 a1 s2 : _} (hs2 : Follows z s2) : ResFollows z (execPllLock a0 a1 s2) := by
  unfold execPllLock
  extract_lets -merge -useContext -underBinder y0
  have h60 : Follows z y0 := (State.tick_follows hs2)
  clear_value y0
  exact (ResFollows.next (State.showPlls_follows (Follows.foldl (fun _ _ h61 => (State.mapDyn_follows (State.raise_follows h61))) h60 _)))

theorem execPllUnlock_follows {a0 a1 s2 : _} (hs2 : Follows z s2) : ResFollows z (execPllUnlock a0 a1 s2) := by
  unfold execPllUnlock
  extract_lets -merge -useContext -underBinder y0
  have h60 : Follows z y0 := (State.tick_follows hs2)
  clear_value y0
  exact (ResFollows.next (State.showPlls_follows (Follows.foldl (fun _ _ h61 => (Follows.ite (State.mapDyn_follows (State.raise_follows (State.setFlag_follows h61))) h61)) h60 _)))

theorem State.markPort_follows {a0 s1 a2 : _} (hs1 : Follows z s1) : Follows z (State.markPort a0 s1 a2) := by
  unfold State.markPort
  extract_lets -merge -useContext -underBinder y0
  have h60 : Follows z y0 := (State.applyLive_follows hs1)
  clear_value y0
  split
  · extract_lets -merge -useContext -underBinder y63 y64
    have h123 : Follows z y63 := (State.setFlag_follows (State.raise_follows h60))
    clear_value y63
    have h124 : Follows z y64 := (State.mapDyn_follows h123)
    clear_value y64
    exact (State.completePort_follows h124)
  · exact (Follows.ite (State.mapDyn_follows h60) h60)

theorem execPortDisable_follows {a0 s1 : _} (hs1 : Follows z s1) : ResFollows z (execPortDisable a0 s1) := by
  unfold execPortDisable
  refine ResFollows.next ?_
  refine State.run_follows hs1 ?_
  · intro x3 x5 h4
    extract_lets -merge -useContext -underBinder y6
    clear_value y6
    exact (AnsFollows.ite AnsFollows.refuse (AnsFollows.ite AnsFollows.refuseWith (AnsFollows.accepted (State.mapDyn_follows (State.raise_follows (State.raise_follows h4))))))

theorem State.markDisable_follows {s0 a1 : _} (hs0 : Follows z s0) : Follows z (State.markDisable s0 a1) := by
  unfold State.markDisable
  split
  · extract_lets -merge -useContext -underBinder y4 y5
    clear_value y4
    have h64 : Follows z y5 := (State.mapDyn_follows hs0)
    clear_value y5
    exact (Follows.ite (State.mapDyn_follows hs0) (Follows.ite (Follows.ite h64 hs0) hs0))
  · exact hs0

theorem State.portOff_follows {s0 a1 : _} (hs0 : Follows z s0) : Follows z (State.portOff s0 a1) := by
  unfold State.portOff
  extract_lets -merge -useContext -underBinder y0 y1 y2 y3 y4
  have h60 : Follows z y0 := (State.wr_follows (State.setFlag_follows (State.setFlag_follows hs0)))
  clear_value y0
  have h61 : Follows z y1 := (State.acquire_follows (State.showPlls_follows (State.wr_follows h60)))
  clear_value y1
  have h62 : Follows z y2 := (Follows.foldl (fun _ _ h63 => (State.setFramer_follows h63)) (State.setFramer_follows h61) _)
  clear_value y2
  have h64 : Follows z y3 := (State.refreshFrame_follows h62)
  clear_value y3
  have h65 : Follows z y4 := (Follows.foldl (fun _ _ h66 => (State.setDef_follows h66)) h64 _)
  clear_value y4
  exact (State.refreshRefs_follows (State.mapDyn_follows h65))

theorem execPortDisableDone_follows {a0 a1 a2 s3 : _} (hs3 : Follows z s3) : ResFollows z (execPortDisableDone a0 a1 a2 s3) := by
  unfold execPortDisableDone
  extract_lets -merge -useContext -underBinder y0 y1
  have h60 : Follows z y0 := (State.tick_follows hs3)
  clear_value y0 y1
  split
  · extract_lets -merge -useContext -underBinder y67 y68
    have h127 : Follows z y67 := (State.raise_follows (State.setFlag_follows (State.portOff_follows h60)))
    clear_value y67
    have h128 : Follows z y68 := (State.mapDyn_follows h127)
    clear_value y68
    exact (ResFollows.ite (ResFollows.next (State.completePort_follows h128)) (ResFollows.next h60))
  · exact (ResFollows.next h60)

theorem execPortStatus_follows {a0 s1 : _} (hs1 : Follows z s1) : ResFollows z (execPortStatus a0 s1) := by
  unfold execPortStatus
  refine ResFollows.next ?_
  refine State.run_follows hs1 ?_
  · intro x3 x5 h4
    extract_lets -merge -useContext -underBinder y6
    clear_value y6
    exact (AnsFollows.ok h4)

theorem execCandidateMatch_follows {a0 a1 a2 a3 a4 a5 s6 : _} (hs6 : Follows z s6) : ResFollows z (execCandidateMatch a0 a1 a2 a3 a4 a5 s6) := by
  unfold execCandidateMatch
  extract_lets -merge -useContext -underBinder y0 y1 y2 y3 y4 y5 y6
  have h60 : Follows z y0 := (State.tick_follows hs6)
  clear_value y0 y1 y2 y3 y4 y5 y6
  exact (ResFollows.ite (ResFollows.ite (ResFollows.next (State.inc_follows h60)) (ResFollows.next (State.afterFramer_follows (State.setFramer_follows h60)))) (ResFollows.next h60))

theorem execCandidateVerify_follows {a0 a1 a2 a3 a4 a5 s6 : _} (hs6 : Follows z s6) : ResFollows z (execCandidateVerify a0 a1 a2 a3 a4 a5 s6) := by
  unfold execCandidateVerify
  extract_lets -merge -useContext -underBinder y0 y1 y2 y3
  have h60 : Follows z y0 := (State.tick_follows hs6)
  clear_value y0 y1 y2 y3
  split
  · exact (ResFollows.next h60)
  · extract_lets -merge -useContext -underBinder y66
    clear_value y66
    exact (ResFollows.ite (ResFollows.next h60) (ResFollows.ite (ResFollows.next (State.afterFramer_follows (State.setFramer_follows h60))) (ResFollows.next (State.afterFramer_follows (State.setFramer_follows h60)))))

theorem execCdrLockChange_follows {a0 a1 a2 s3 : _} (hs3 : Follows z s3) : ResFollows z (execCdrLockChange a0 a1 a2 s3) := by
  unfold execCdrLockChange
  extract_lets -merge -useContext -underBinder y0 y1 y2 y3
  have h60 : Follows z y0 := (State.tick_follows hs3)
  clear_value y0 y1 y2
  have h61 : Follows z y3 := (State.setBitAt_follows h60)
  clear_value y3
  exact (ResFollows.ite (ResFollows.ite (ResFollows.next h61) (ResFollows.next (State.setLos_follows (State.raise_follows h61)))) (ResFollows.next h60))

theorem execLosTimer_follows {a0 a1 a2 s3 : _} (hs3 : Follows z s3) : ResFollows z (execLosTimer a0 a1 a2 s3) := by
  unfold execLosTimer
  extract_lets -merge -useContext -underBinder y0 y1
  have h60 : Follows z y0 := (State.tick_follows hs3)
  clear_value y0 y1
  refine ResFollows.ite ?_ ?_
  · split
    · exact (ResFollows.next (State.setLos_follows h60))
    · exact (ResFollows.ite (ResFollows.next h60) (ResFollows.next (State.setLos_follows h60)))
    · exact (ResFollows.ite (ResFollows.next (State.setLos_follows h60)) (ResFollows.next h60))
  · exact (ResFollows.next h60)

theorem execLofTimer_follows {a0 a1 a2 s3 : _} (hs3 : Follows z s3) : ResFollows z (execLofTimer a0 a1 a2 s3) := by
  unfold execLofTimer
  extract_lets -merge -useContext -underBinder y0 y1
  have h60 : Follows z y0 := (State.tick_follows hs3)
  clear_value y0 y1
  exact (ResFollows.ite (ResFollows.ite (ResFollows.ite (ResFollows.next (State.updateRdi_follows (State.setDef_follows h60))) (ResFollows.next h60)) (ResFollows.ite (ResFollows.next (State.updateRdi_follows (State.setDef_follows h60))) (ResFollows.next h60))) (ResFollows.next h60))

theorem State.tickMon_follows {s0 a1 : _} (hs0 : Follows z s0) : Follows z (State.tickMon s0 a1) := by
  unfold State.tickMon
  extract_lets -merge -useContext -underBinder y0
  clear_value y0
  split
  · exact hs0
  · extract_lets -merge -useContext -underBinder y65
    clear_value y65
    exact (State.mapSel_follows hs0 rfl rfl)

theorem State.noteUe_follows {s0 a1 a2 : _} (hs0 : Follows z s0) : Follows z (State.noteUe s0 a1 a2) := by
  unfold State.noteUe
  exact (State.raise_follows (State.raise_follows (State.wr_follows (State.wr_follows (State.inc_follows hs0)))))

theorem State.readSel_follows {s0 a1 a2 : _} (hs0 : Follows z s0) : Follows z (State.readSel s0 a1 a2) := by
  unfold State.readSel
  extract_lets -merge -useContext -underBinder y0
  clear_value y0
  split
  · exact (State.setSel_follows hs0)
  · exact (State.setSel_follows hs0)
  · extract_lets -merge -useContext -underBinder y68
    have h128 : Follows z y68 := (State.setSel_follows hs0)
    clear_value y68
    exact (Follows.ite h128 (State.noteUe_follows (State.mapSel_follows h128 rfl rfl)))

theorem State.readMon_follows {s0 a1 a2 : _} (hs0 : Follows z s0) : Follows z (State.readMon s0 a1 a2).1 := by
  unfold State.readMon
  extract_lets -merge -useContext -underBinder y0 y1
  clear_value y0 y1
  split
  · exact (Follows.fst_mk (State.setMon_follows hs0))
  · exact (Follows.fst_mk (State.setMon_follows hs0))
  · exact (Follows.ite_fst (Follows.fst_mk (State.setMon_follows hs0)) (Follows.fst_mk (State.noteUe_follows (State.setMon_follows hs0))))

theorem walkMon_follows {a0 a1 a2 : _} (ha1 : Follows z a1.1) : Follows z (walkMon a0 a1 a2).1 := by
  unfold walkMon
  extract_lets -merge -useContext -underBinder y0 y1 y2
  have h60 : Follows z y0 := ha1
  clear_value y1 y2
  exact (Follows.ite_fst ha1 (Follows.fst_mk (State.setMon_follows h60)))

theorem State.closeBurst_follows {s0 : _} (hs0 : Follows z s0) : Follows z (State.closeBurst s0) := by
  unfold State.closeBurst
  split
  · exact hs0
  · extract_lets -merge -useContext -underBinder y5 y6
    clear_value y5
    have h65 : Follows z y6 := (State.wr_follows (State.wr_follows hs0))
    clear_value y6
    exact (State.mapSel_follows (State.raiseIf_follows h65) rfl rfl)

theorem State.walk_follows {s0 a1 : _} (hs0 : Follows z s0) : Follows z (State.walk s0 a1) := by
  unfold State.walk
  extract_lets -merge -useContext -underBinder y0 y1 y2 y3 y4 y5 y6 y7 y8
  have h60 : Follows z y0 := (Follows.foldl (fun _ _ h61 => (State.tickMon_follows h61)) hs0 _)
  clear_value y0
  have h62 : Follows z y1.1 := (Follows.foldl_fst (fun _ _ h63 => (walkMon_follows h63)) (Follows.fst_mk h60) _)
  clear_value y1 y2
  have h64 : Follows z y3 := (State.mapLine_follows h62)
  clear_value y3
  have h65 : Follows z y4 := (State.count_follows h64)
  clear_value y4 y5 y6 y7
  have h66 : Follows z y8 := (Follows.ite (State.openBurst_follows h65) (Follows.ite h65 (State.closeBurst_follows h65)))
  clear_value y8
  exact (State.mapSel_follows (State.evalAll_follows h66) rfl rfl)

theorem State.applyItem_follows {s0 a1 : _} (hs0 : Follows z s0) : Follows z (State.applyItem s0 a1) := by
  unfold State.applyItem
  extract_lets -merge -useContext -underBinder y0 y1 y2 y3 y4 y5 y6 y7 y8 y9
  clear_value y0 y1 y2
  have h60 : (∀ a0 a1, Follows z a0 → Follows z (y3 a0 a1)) := by
    unfold y3
    intro x62 x64 h63
    extract_lets -merge -useContext -underBinder y65
    have h125 : Follows z y65 := (Follows.ite (State.raise_follows (State.inc_follows h63)) h63)
    clear_value y65
    exact (State.mapPair_follows h125)
  clear_value y3 y4 y5
  have h126 : Follows z y6 := (State.wr_follows (State.wr_follows hs0))
  clear_value y6
  have h127 : Follows z y7 := (State.wr_follows (State.wr_follows h126))
  clear_value y7 y8 y9
  exact (Follows.ite (Follows.ite hs0 (h60 _ _ h127)) (Follows.ite hs0 (h60 _ _ (State.setSel_follows hs0))))

theorem State.applyMirrored_follows {s0 : _} (hs0 : Follows z s0) : Follows z (State.applyMirrored s0) := by
  unfold State.applyMirrored
  extract_lets -merge -useContext -underBinder y0 y1
  clear_value y0
  have h60 : Follows z y1 := (State.mapMate_follows hs0)
  clear_value y1
  exact (Follows.foldl (fun _ _ h61 => (State.applyItem_follows h61)) h60 _)

theorem State.checkDis_follows {s0 : _} (hs0 : Follows z s0) : Follows z (State.checkDis s0) := by
  unfold State.checkDis
  extract_lets -merge -useContext -underBinder y0 y1
  clear_value y0
  have h60 : Follows z y1 := (State.mapPair_follows hs0)
  clear_value y1
  refine Follows.ite ?_ ?_
  · refine Follows.foldl ?_ ?_ _
    · intro x63 x65 h64
      extract_lets -merge -useContext -underBinder y66
      have h126 : Follows z y66 := (State.wr_follows (State.wr_follows (State.inc_follows h64)))
      clear_value y66
      exact (Follows.ite (State.mapPair_follows (State.raise_follows (State.raise_follows h126))) h64)
    · exact h60
  · exact h60

theorem State.completeWhere_follows {s0 a1 a2 a3 a4 a5 : _} (hs0 : Follows z s0) : Follows z (State.completeWhere s0 a1 a2 a3 a4 a5) := by
  unfold State.completeWhere
  split
  · exact hs0
  · split
    · exact hs0
    · exact (State.outcome_follows hs0)

theorem State.mapRun_follows {s0 a1 a2 : _} (hs0 : Follows z s0) : Follows z (State.mapRun s0 a1 a2) := by
  unfold State.mapRun
  exact (State.mapPwr_follows hs0)

theorem State.endRun_follows {s0 a1 a2 a3 a4 a5 : _} (hs0 : Follows z s0) : Follows z (State.endRun s0 a1 a2 a3 a4 a5) := by
  unfold State.endRun
  split
  · exact hs0
  · extract_lets -merge -useContext -underBinder y5 y6
    clear_value y5
    have h65 : Follows z y6 := (State.raise_follows (State.mapRun_follows hs0))
    clear_value y6
    exact (State.completeWhere_follows h65)

theorem State.dropRun_follows {s0 a1 : _} (hs0 : Follows z s0) : Follows z (State.dropRun s0 a1) := by
  unfold State.dropRun
  exact (State.mapPwr_follows hs0)

theorem State.wantResync_follows {s0 : _} (hs0 : Follows z s0) : Follows z (State.wantResync s0) := by
  unfold State.wantResync
  extract_lets -merge -useContext -underBinder y0
  have h60 : Follows z y0 := (State.mapMate_follows hs0)
  clear_value y0
  exact (Follows.ite hs0 (Follows.ite (State.mapMate_follows (State.sendRec_follows h60)) h60))

theorem State.emptyStack_follows {s0 : _} (hs0 : Follows z s0) : Follows z (State.emptyStack s0) := by
  unfold State.emptyStack
  extract_lets -merge -useContext -underBinder y0 y1 y2 y3 y4
  have h0 : Follows z y0 := hs0.of_canon (Nat.le_refl _) (Nat.le_refl _) rfl rfl fun c => ⟨c.1, c.2, c.3, c.4, c.5, c.6, rfl, rfl⟩
  clear_value y0
  have h1 : Follows z y1 := Follows.ite (State.wr_follows h0) h0
  clear_value y1
  have h2 : Follows z y2 := h1.of_canon (Nat.le_refl _) (Nat.le_refl _) rfl rfl fun c =>
    ⟨Store.wf_filter c.regs _, c.2, c.3, c.4, rfl, rfl, c.7, c.8⟩
  clear_value y2
  have h3 : Follows z y3 := State.showDirty_follows (State.wr_follows (State.setFlag_follows h2))
  clear_value y3
  have h4 : Follows z y4 := State.countRefs_follows (State.wr_follows (State.wr_follows h3))
  clear_value y4
  exact State.mapMate_follows (State.showMonUse_follows (State.showSelUse_follows h4))

theorem State.restartTx_follows {s0 : _} (hs0 : Follows z s0) : Follows z (State.restartTx s0) := by
  unfold State.restartTx
  exact (Follows.foldl (fun _ _ h0 => (Follows.ite (State.mapDyn_follows h0) h0)) hs0 _)

theorem State.endMarch_follows {s0 : _} (hs0 : Follows z s0) : Follows z (State.endMarch s0) := by
  unfold State.endMarch
  exact (State.restartTx_follows (State.emptyStack_follows (State.mapPwr_follows hs0)))

theorem State.endPrbs_follows {s0 a1 : _} (hs0 : Follows z s0) : Follows z (State.endPrbs s0 a1) := by
  unfold State.endPrbs
  extract_lets -merge -useContext -underBinder y0 y1
  have h60 : Follows z y0 := (State.mapPwr_follows hs0)
  clear_value y0
  have h61 : Follows z y1 := (State.mapDyn_follows h60)
  clear_value y1
  exact (Follows.ite (State.startRx_follows h61) h61)

end Sys2Proof.Machine
end

