-- ==== Sys2Proof/Laws/FollowsPair.lean ====
section
/-! SUPPORT. Laws/FollowsPair.lean: the pair, the mate link, power and the tally: each operation and each command keeps what `Follows` says. -/
namespace Sys2Proof.Machine

variable {z : State}

theorem State.refreshFault_follows {s0 : _} (hs0 : Follows z s0) : Follows z (State.refreshFault s0) := by
  unfold State.refreshFault
  exact (State.setFlag_follows hs0)

theorem State.refreshPair_follows {s0 : _} (hs0 : Follows z s0) : Follows z (State.refreshPair s0) := by
  unfold State.refreshPair
  extract_lets -merge -useContext -underBinder y0 y1 y2 y3 y4 y5 y6
  clear_value y0
  have h60 : Follows z y1 := (State.setFlag_follows (State.setFlag_follows hs0))
  clear_value y1
  have h61 : Follows z y2 := (State.setFlag_follows h60)
  clear_value y2
  have h62 : Follows z y3 := (State.setFlag_follows (State.setFlag_follows h61))
  clear_value y3
  have h63 : Follows z y4 := (State.setFlag_follows (State.wr_follows h62))
  clear_value y4
  have h64 : Follows z y5 := (State.setFlag_follows (State.wr_follows h63))
  clear_value y5
  have h65 : Follows z y6 := (State.wr_follows h64)
  clear_value y6
  exact (State.restartTx_follows (State.wakeDemands_follows h65))

theorem State.learn_follows {s0 a1 : _} (hs0 : Follows z s0) : Follows z (State.learn s0 a1) := by
  unfold State.learn
  exact (Follows.ite (State.wr_follows hs0) hs0)

theorem State.endSwaps_follows {a0 a1 a2 a3 s4 : _} (hs4 : Follows z s4) : Follows z (State.endSwaps a0 a1 a2 a3 s4) := by
  induction a3 generalizing s4 with
  | zero => exact State.mapPair_follows hs4
  | succ n ih => exact ih (State.complete_follows hs4)

theorem State.startActing_follows {s0 : _} (hs0 : Follows z s0) : Follows z (State.startActing s0) := by
  unfold State.startActing
  extract_lets -merge -useContext -underBinder y0 y1 y2 y3 y4 y5 y6
  clear_value y0
  have h60 : Follows z y1 := (State.raise_follows (State.setFlag_follows hs0))
  clear_value y1
  have h61 : Follows z y2 := (State.mapPair_follows h60)
  clear_value y2
  have h62 : Follows z y3 := (State.mapMate_follows h61)
  clear_value y3
  have h63 : Follows z y4 := (State.mapSel_follows h62 rfl rfl)
  clear_value y4 y5 y6
  exact (State.refreshPair_follows (State.evalAll_follows (State.openBurst_follows h63)))

theorem State.stopActing_follows {s0 a1 a2 : _} (hs0 : Follows z s0) : Follows z (State.stopActing s0 a1 a2) := by
  unfold State.stopActing
  extract_lets -merge -useContext -underBinder y0 y1 y2 y3 y4 y5 y6 y7 y8
  clear_value y0
  have h60 : Follows z y1 := (State.sendRec_follows hs0)
  clear_value y1
  have h61 : Follows z y2 := (State.raise_follows (State.setFlag_follows h60))
  clear_value y2
  have h62 : Follows z y3 := (State.setFlag_follows (State.raiseIf_follows h61))
  clear_value y3 y4
  have h63 : Follows z y5 := (State.mapPair_follows h62)
  clear_value y5 y6
  have h64 : Follows z y7 := (Follows.ite (State.mapMate_follows h63) (Follows.ite (State.mapMate_follows h63) h63))
  clear_value y7
  have h65 : Follows z y8 := (Follows.ite (State.endSwaps_follows h64) (State.endSwaps_follows h64))
  clear_value y8
  exact (State.refreshPair_follows h65)

theorem State.lapse_follows {s0 a1 : _} (hs0 : Follows z s0) : Follows z (State.lapse s0 a1) := by
  unfold State.lapse
  extract_lets -merge -useContext -underBinder y0 y1 y2
  clear_value y0
  have h60 : Follows z y1 := (State.mapPair_follows hs0)
  clear_value y1
  have h61 : Follows z y2 := (Follows.ite (State.endSwaps_follows (State.setFlag_follows h60)) h60)
  clear_value y2
  exact (State.refreshPair_follows h61)

theorem State.query_follows {s0 a1 a2 a3 a4 : _} (hs0 : Follows z s0) (ha4 : (∀ a0 a1 a2, Follows z a0 → OptFollows z (a4 a0 a1 a2))) : Follows z (State.query s0 a1 a2 a3 a4) := by
  unfold State.query
  extract_lets -merge -useContext -underBinder y0 y1 y2 y3
  have h60 : Follows z y0 := (State.refreshPair_follows hs0)
  clear_value y0
  have h61 : (∀ a0 a1, Follows z a0 → Follows z (y1 a0 a1)) := (fun _ _ h62 => (State.mapPair_follows h62))
  clear_value y1 y2
  have h63 : OptFollows z y3 := (OptFollows.ite (ha4 _ _ _ h60) OptFollows.none)
  clear_value y3
  refine Follows.ite ?_ ?_
  · exact h60
  · refine Follows.ite ?_ ?_
    · exact (h61 _ _ h60)
    · refine Follows.ite ?_ ?_
      · exact h60
      · have h64 := h63
        revert h64
        split
        · intro h64
          extract_lets -merge -useContext -underBinder y67
          have h127 : Follows z y67 := (State.refreshPair_follows (State.inc_follows h64))
          clear_value y67
          exact (h61 _ _ h127)
        · intro h64
          exact (h61 _ _ (State.inc_follows h60))

theorem State.poll_follows {s0 a1 a2 : _} (hs0 : Follows z s0) : OptFollows z (State.poll s0 a1 a2) := by
  unfold State.poll
  extract_lets -merge -useContext -underBinder y0 y1
  clear_value y0
  have h60 : Follows z y1 := (Follows.ite (State.mapPair_follows hs0) hs0)
  clear_value y1
  exact (OptFollows.ite (OptFollows.some hs0) (OptFollows.ite (OptFollows.some (State.mapMate_follows (State.raise_follows (State.raise_follows h60)))) (OptFollows.some h60)))

theorem State.grant_follows {a0 s1 a2 a3 : _} (hs1 : Follows z s1) : OptFollows z (State.grant a0 s1 a2 a3) := by
  unfold State.grant
  extract_lets -merge -useContext -underBinder y0 y1 y2
  clear_value y0
  have h60 : Follows z y1 := (State.mapPair_follows (State.wr_follows hs1))
  clear_value y1
  have h61 : Follows z y2 := (State.endMarch_follows h60)
  clear_value y2
  exact (OptFollows.ite (OptFollows.ite (OptFollows.some (State.endRun_follows (Follows.freshAt _ h61 h60))) (OptFollows.some h60)) OptFollows.none)

theorem State.renew_follows {s0 a1 a2 : _} (hs0 : Follows z s0) : OptFollows z (State.renew s0 a1 a2) := by
  unfold State.renew
  exact (OptFollows.ite (OptFollows.some (State.mapPair_follows hs0)) OptFollows.none)

theorem State.revoke_follows {s0 a1 a2 : _} (hs0 : Follows z s0) : OptFollows z (State.revoke s0 a1 a2) := by
  unfold State.revoke
  exact (OptFollows.ite (OptFollows.some (State.mapPair_follows hs0)) OptFollows.none)

theorem State.handover_follows {s0 a1 a2 : _} (hs0 : Follows z s0) : OptFollows z (State.handover s0 a1 a2) := by
  unfold State.handover
  extract_lets -merge -useContext -underBinder y0 y1 y2
  clear_value y0 y1
  have h60 : Follows z y2 := (State.mapPair_follows hs0)
  clear_value y2
  exact (OptFollows.ite (OptFollows.some (State.sendRec_follows h60)) OptFollows.none)

theorem execPoll_follows {a0 a1 s2 : _} (hs2 : Follows z s2) : ResFollows z (execPoll a0 a1 s2) := by
  unfold execPoll
  exact (ResFollows.next (State.query_follows (State.tick_follows hs2) (fun _ _ _ h0 => (State.poll_follows h0))))

theorem execGrant_follows {a0 a1 a2 s3 : _} (hs3 : Follows z s3) : ResFollows z (execGrant a0 a1 a2 s3) := by
  unfold execGrant
  exact (ResFollows.next (State.query_follows (State.tick_follows hs3) (fun _ _ _ h0 => (State.grant_follows h0))))

theorem execRenew_follows {a0 a1 s2 : _} (hs2 : Follows z s2) : ResFollows z (execRenew a0 a1 s2) := by
  unfold execRenew
  exact (ResFollows.next (State.query_follows (State.tick_follows hs2) (fun _ _ _ h0 => (State.renew_follows h0))))

theorem execRevoke_follows {a0 a1 s2 : _} (hs2 : Follows z s2) : ResFollows z (execRevoke a0 a1 s2) := by
  unfold execRevoke
  exact (ResFollows.next (State.query_follows (State.tick_follows hs2) (fun _ _ _ h0 => (State.revoke_follows h0))))

theorem execHandover_follows {a0 a1 s2 : _} (hs2 : Follows z s2) : ResFollows z (execHandover a0 a1 s2) := by
  unfold execHandover
  exact (ResFollows.next (State.query_follows (State.tick_follows hs2) (fun _ _ _ h0 => (State.handover_follows h0))))

theorem execArbAbort_follows {a0 s1 : _} (hs1 : Follows z s1) : ResFollows z (execArbAbort a0 s1) := by
  unfold execArbAbort
  exact (ResFollows.next (State.mapPair_follows (State.tick_follows hs1)))

theorem execLeaseExpiry_follows {a0 a1 s2 : _} (hs2 : Follows z s2) : ResFollows z (execLeaseExpiry a0 a1 s2) := by
  unfold execLeaseExpiry
  extract_lets -merge -useContext -underBinder y0
  have h60 : Follows z y0 := (State.tick_follows hs2)
  clear_value y0
  split
  · exact (ResFollows.next h60)
  · exact (ResFollows.ite (ResFollows.ite (ResFollows.next (State.stopActing_follows h60)) (ResFollows.next h60)) (ResFollows.ite (ResFollows.next (State.refreshPair_follows (State.mapPair_follows h60))) (ResFollows.next h60)))

theorem execGuardEnd_follows {a0 s1 : _} (hs1 : Follows z s1) : ResFollows z (execGuardEnd a0 s1) := by
  unfold execGuardEnd
  extract_lets -merge -useContext -underBinder y0
  have h60 : Follows z y0 := (State.tick_follows hs1)
  clear_value y0
  split
  · exact (ResFollows.next h60)
  · exact (ResFollows.ite (ResFollows.next (State.startActing_follows h60)) (ResFollows.next h60))

theorem execDrillTimer_follows {a0 s1 : _} (hs1 : Follows z s1) : ResFollows z (execDrillTimer a0 s1) := by
  unfold execDrillTimer
  extract_lets -merge -useContext -underBinder y0
  have h60 : Follows z y0 := (State.tick_follows hs1)
  clear_value y0
  exact (ResFollows.ite (ResFollows.next (State.refreshPair_follows (State.raise_follows (State.raise_follows h60)))) (ResFollows.next h60))

theorem execHandoverMark_follows {a0 a1 s2 : _} (hs2 : Follows z s2) : ResFollows z (execHandoverMark a0 a1 s2) := by
  unfold execHandoverMark
  extract_lets -merge -useContext -underBinder y0
  have h60 : Follows z y0 := (State.tick_follows hs2)
  clear_value y0
  split
  · exact (ResFollows.next h60)
  · exact (ResFollows.ite (ResFollows.next (State.stopActing_follows h60)) (ResFollows.next h60))

theorem execNewHolderActs_follows {a0 s1 : _} (hs1 : Follows z s1) : ResFollows z (execNewHolderActs a0 s1) := by
  unfold execNewHolderActs
  extract_lets -merge -useContext -underBinder y0
  have h60 : Follows z y0 := (State.tick_follows hs1)
  clear_value y0
  split
  · exact (ResFollows.next h60)
  · exact (ResFollows.ite (ResFollows.next (State.startActing_follows h60)) (ResFollows.next h60))

theorem execHandoverLapse_follows {a0 a1 s2 : _} (hs2 : Follows z s2) : ResFollows z (execHandoverLapse a0 a1 s2) := by
  unfold execHandoverLapse
  extract_lets -merge -useContext -underBinder y0
  have h60 : Follows z y0 := (State.tick_follows hs2)
  clear_value y0
  split
  · exact (ResFollows.next h60)
  · exact (ResFollows.ite (ResFollows.next (State.lapse_follows h60)) (ResFollows.next h60))

theorem execOldHolderTxIdle_follows {a0 s1 : _} (hs1 : Follows z s1) : ResFollows z (execOldHolderTxIdle a0 s1) := by
  unfold execOldHolderTxIdle
  extract_lets -merge -useContext -underBinder y0
  have h60 : Follows z y0 := (State.tick_follows hs1)
  clear_value y0
  split
  · exact (ResFollows.next h60)
  · extract_lets -merge -useContext -underBinder y66 y67
    have h126 : Follows z y66 := (State.mapPair_follows h60)
    clear_value y66
    have h127 : Follows z y67 := (Follows.ite h126 (Follows.foldl (fun _ _ h128 => (Follows.ite h128 (Follows.ite h128 (State.mapDyn_follows h128)))) h126 _))
    clear_value y67
    exact (ResFollows.ite (ResFollows.next (State.refreshPair_follows h127)) (ResFollows.next h60))

theorem execPairSwapTimeout_follows {a0 a1 s2 : _} (hs2 : Follows z s2) : ResFollows z (execPairSwapTimeout a0 a1 s2) := by
  unfold execPairSwapTimeout
  extract_lets -merge -useContext -underBinder y0
  have h60 : Follows z y0 := (State.tick_follows hs2)
  clear_value y0
  split
  · exact (ResFollows.next h60)
  · extract_lets -merge -useContext -underBinder y67
    have h127 : Follows z y67 := (State.mapPair_follows (State.setFlag_follows h60))
    clear_value y67
    exact (ResFollows.ite (ResFollows.next (State.refreshPair_follows (State.complete_follows h127))) (ResFollows.next h60))

theorem State.applyPair_follows {s0 a1 a2 : _} (hs0 : Follows z s0) : Follows z (State.applyPair s0 a1 a2) := by
  unfold State.applyPair
  extract_lets -merge -useContext -underBinder y0 y1 y2 y3
  clear_value y0
  have h60 : Follows z y1 := (State.wr_follows (State.wr_follows (State.wr_follows hs0)))
  clear_value y1
  have h61 : Follows z y2 := (Follows.ite (State.wr_follows h60) h60)
  clear_value y2
  have h62 : Follows z y3 := (State.wr_follows h61)
  clear_value y3
  exact (Follows.ite (State.refreshPair_follows (State.mapPair_follows h62)) (State.refreshPair_follows h61))

theorem execPairConfigure_follows {a0 s1 : _} (hs1 : Follows z s1) : ResFollows z (execPairConfigure a0 s1) := by
  unfold execPairConfigure
  refine ResFollows.next ?_
  refine State.run_follows hs1 ?_
  · intro x3 x5 h4
    extract_lets -merge -useContext -underBinder y6
    clear_value y6
    exact (AnsFollows.ite AnsFollows.refuse (AnsFollows.ite AnsFollows.refuse (AnsFollows.ite AnsFollows.refuse (AnsFollows.ok (State.applyPair_follows (State.mirrorSettings_follows h4))))))

theorem execPairSwap_follows {a0 s1 : _} (hs1 : Follows z s1) : ResFollows z (execPairSwap a0 s1) := by
  unfold execPairSwap
  exact (ResFollows.next (State.run_follows hs1 (fun _ _ h0 => (AnsFollows.ite AnsFollows.refuse (AnsFollows.ite AnsFollows.refuse (AnsFollows.accepted (State.refreshPair_follows (State.mapPair_follows (State.raise_follows (State.raise_follows h0))))))))))

theorem execPairStatus_follows {a0 s1 : _} (hs1 : Follows z s1) : ResFollows z (execPairStatus a0 s1) := by
  unfold execPairStatus
  refine ResFollows.next ?_
  refine State.run_follows hs1 ?_
  · intro x3 x5 h4
    extract_lets -merge -useContext -underBinder y6
    have h66 : Follows z y6 := (State.refreshPair_follows h4)
    clear_value y6
    exact (AnsFollows.ok (State.mapPair_follows h66))

theorem State.pairMark_follows {s0 a1 : _} (hs0 : Follows z s0) : Follows z (State.pairMark s0 a1) := by
  have h : ∀ y, Follows z y → Follows z (if y.mode = 0 ∧ y.acting = false ∧ y.booted = true then y.startActing else y) :=
    fun _ h => Follows.ite (State.startActing_follows h) h
  refine h _ ?_
  split
  · exact Follows.ite (State.stopActing_follows hs0) (State.mapPair_follows hs0)
  · exact hs0

theorem State.setLane_follows {s0 a1 a2 : _} (hs0 : Follows z s0) : Follows z (State.setLane s0 a1 a2) := by
  unfold State.setLane
  exact (State.mapMate_follows hs0)

theorem State.linkState_follows {s0 : _} (hs0 : Follows z s0) : Follows z (State.linkState s0) := by
  unfold State.linkState
  extract_lets -merge -useContext -underBinder y0 y1 y2 y3
  clear_value y0
  have h60 : Follows z y1 := (State.raise_follows (State.raise_follows hs0))
  clear_value y1
  have h61 : Follows z y2 := (State.mapMate_follows (State.raise_follows (State.setFlag_follows hs0)))
  clear_value y2
  have h62 : Follows z y3 := (State.resetMaster_follows h61)
  clear_value y3
  exact (Follows.ite hs0 (Follows.ite (State.refreshPair_follows (Follows.ite h60 (State.trackMate_follows h60))) (State.refreshPair_follows (Follows.ite h62 (State.trackMate_follows h62)))))

theorem State.setFn_follows {s0 a1 : _} (hs0 : Follows z s0) : Follows z (State.setFn s0 a1) := by
  unfold State.setFn
  exact (State.wr_follows (State.wr_follows hs0))

theorem State.mateMark_follows {s0 : _} (hs0 : Follows z s0) : Follows z (State.mateMark s0) := by
  unfold State.mateMark
  extract_lets -merge -useContext -underBinder y0
  clear_value y0
  exact (State.mapMate_follows hs0)

theorem execMateFrameRx_follows {a0 a1 a2 a3 s4 : _} (hs4 : Follows z s4) : ResFollows z (execMateFrameRx a0 a1 a2 a3 s4) := by
  unfold execMateFrameRx
  extract_lets -merge -useContext -underBinder y0 y1 y2 y3 y4 y5
  have h60 : Follows z y0 := (State.tick_follows hs4)
  clear_value y0 y1 y2 y3 y4
  have h61 : Follows z y5 := (State.linkState_follows (State.setLane_follows h60))
  clear_value y5
  exact (ResFollows.ite (ResFollows.next h60) (ResFollows.ite (ResFollows.next (Follows.ite (State.followAlign_follows (State.setFn_follows h61)) h61)) (ResFollows.ite (ResFollows.next (State.setLane_follows h60)) (ResFollows.next (State.setLane_follows h60)))))

theorem execMateLaneDrop_follows {a0 a1 s2 : _} (hs2 : Follows z s2) : ResFollows z (execMateLaneDrop a0 a1 s2) := by
  unfold execMateLaneDrop
  extract_lets -merge -useContext -underBinder y0 y1
  have h60 : Follows z y0 := (State.tick_follows hs2)
  clear_value y0 y1
  exact (ResFollows.ite (ResFollows.next (State.linkState_follows (State.setLane_follows h60))) (ResFollows.next h60))

theorem State.takeBeat_follows {s0 a1 a2 a3 : _} (hs0 : Follows z s0) : Follows z (State.takeBeat s0 a1 a2 a3) := by
  unfold State.takeBeat
  extract_lets -merge -useContext -underBinder y0 y1 y2 y3 y4 y5 y6 y7 y8
  clear_value y0
  have h60 : Follows z y1 := (State.mapMate_follows (State.learn_follows hs0))
  clear_value y1
  have h61 : Follows z y2 := (State.setFlag_follows h60)
  clear_value y2
  have h62 : Follows z y3 := (State.mapPair_follows h61)
  clear_value y3 y4
  have h63 : Follows z y5 := (State.mapTmg_follows (State.mapMate_follows h62))
  clear_value y5
  have h64 : Follows z y6 := (State.raise_follows h63)
  clear_value y6
  have h65 : Follows z y7 := (Follows.ite h63 (State.wantResync_follows (State.mapMate_follows h63)))
  clear_value y7
  have h66 : Follows z y8 := (Follows.ite (Follows.ite (Follows.ite (State.mapPair_follows h64) h64) (Follows.ite (State.wantResync_follows h65) h65)) (Follows.ite (State.mapPair_follows h62) h62))
  clear_value y8
  exact (State.refreshPair_follows (Follows.ite h66 (State.trackMate_follows h66)))

theorem State.takeStop_follows {s0 a1 a2 : _} (hs0 : Follows z s0) : Follows z (State.takeStop s0 a1 a2) := by
  unfold State.takeStop
  extract_lets -merge -useContext -underBinder y0
  have h60 : Follows z y0 := (State.learn_follows hs0)
  clear_value y0
  exact (Follows.ite (Follows.ite (State.mapPair_follows h60) (State.refreshPair_follows (State.mapPair_follows h60))) h60)

theorem State.takeHandover_follows {s0 a1 a2 a3 : _} (hs0 : Follows z s0) : Follows z (State.takeHandover s0 a1 a2 a3) := by
  unfold State.takeHandover
  extract_lets -merge -useContext -underBinder y0
  have h60 : Follows z y0 := (State.learn_follows hs0)
  clear_value y0
  exact (Follows.ite h60 (State.refreshPair_follows (State.mapPair_follows h60)))

theorem State.takeEntries_follows {s0 a1 : _} (hs0 : Follows z s0) : Follows z (State.takeEntries s0 a1) := by
  unfold State.takeEntries
  extract_lets -merge -useContext -underBinder y0
  have h60 : Follows z y0 := by
    unfold y0
    refine Follows.foldl ?_ ?_ _
    · intro x63 x65 h64
      extract_lets -merge -useContext -underBinder y66
      have h126 : Follows z y66 := (State.setShadow_follows h64 (fun c => (wf_putEntry (Canonical.shadow (Follows.canon h64 c)))))
      clear_value y66
      exact (Follows.ite (State.mapMap_follows h126 rfl rfl) h126)
    · exact hs0
  clear_value y0
  exact (State.showDirty_follows (State.setFlag_follows h60))

theorem State.discardMirrored_follows {s0 a1 : _} (hs0 : Follows z s0) : Follows z (State.discardMirrored s0 a1) := by
  unfold State.discardMirrored
  extract_lets -merge -useContext -underBinder y0
  have h60 : Follows z y0 := (State.raise_follows (State.mapMate_follows hs0))
  clear_value y0
  exact (Follows.ite (State.wantResync_follows h60) h60)

theorem State.takeArm_follows {s0 a1 a2 : _} (hs0 : Follows z s0) : Follows z (State.takeArm s0 a1 a2) := by
  unfold State.takeArm
  exact (Follows.ite (State.mapMate_follows (State.preboost_follows hs0)) (State.discardMirrored_follows hs0))

theorem State.takeSelState_follows {s0 a1 : _} (hs0 : Follows z s0) : Follows z (State.takeSelState s0 a1) := by
  unfold State.takeSelState
  extract_lets -merge -useContext -underBinder y0
  clear_value y0
  exact (State.mapMate_follows (State.inc_follows hs0))

theorem Ans.mirrored_follows {a0 : _} (ha0 : AnsFollows z a0) : OptFollows z (Ans.mirrored a0) := by
  induction a0 with
  | ok => exact ha0
  | since u a ih => exact ih ha0.2
  | _ => trivial

theorem State.applyCommand_follows {s0 a1 a2 : _} (hs0 : Follows z s0) : OptFollows z (State.applyCommand s0 a1 a2) := by
  unfold State.applyCommand
  extract_lets -merge -useContext -underBinder y0 y1
  clear_value y0 y1
  split
  · exact (OptFollows.some (State.plainWrite_follows hs0))
  · exact (OptFollows.ite (Ans.mirrored_follows (State.selWriteWork_follows hs0)) (Ans.mirrored_follows (State.grpWriteWork_follows hs0)))
  · exact (OptFollows.ite (Ans.mirrored_follows (State.selCommandWork_follows hs0)) OptFollows.none)
  · exact (Ans.mirrored_follows (State.monWork_follows hs0))
  · exact (OptFollows.ite (OptFollows.some (State.applyTiming_follows hs0)) OptFollows.none)
  · exact (OptFollows.some (State.applyPair_follows hs0))
  · exact OptFollows.none

theorem State.takeSettings_follows {s0 a1 a2 a3 a4 a5 : _} (hs0 : Follows z s0) : Follows z (State.takeSettings s0 a1 a2 a3 a4 a5) := by
  unfold State.takeSettings
  extract_lets -merge -useContext -underBinder y0 y1 y2
  clear_value y0 y1
  have h60 : Follows z y2 := (State.mapMate_follows hs0)
  clear_value y2
  refine Follows.ite ?_ ?_
  · refine Follows.ite ?_ ?_
    · exact (State.wantResync_follows h60)
    · split
      · rename_i x63 x64
        have h61 : Follows z x63 := OptFollows.of_some x64 (State.applyCommand_follows h60)
        exact h61
      · exact (State.wantResync_follows h60)
  · exact (State.mapMate_follows hs0)

theorem State.applyBody_follows {s0 a1 a2 : _} (hs0 : Follows z s0) : Follows z (State.applyBody s0 a1 a2) := by
  unfold State.applyBody
  split
  · exact (State.takeEntries_follows hs0)
  · exact (State.takeArm_follows hs0)
  · exact (Follows.ite (State.discardMirrored_follows hs0) hs0)
  · exact (State.takeSelState_follows hs0)
  · exact (State.mapTmg_follows hs0)
  · exact (State.takeSettings_follows hs0)
  · exact (State.refreshPair_follows (State.mapMate_follows hs0))
  · extract_lets -merge -useContext -underBinder y25
    clear_value y25
    exact (State.mapMate_follows hs0)
  · exact (State.mapMate_follows hs0)
  · exact hs0

theorem State.noteRec_follows {s0 a1 : _} (hs0 : Follows z s0) : Follows z (State.noteRec s0 a1) := by
  unfold State.noteRec
  exact (Follows.ite hs0 (State.count_follows (State.raise_follows (State.wr_follows (State.wr_follows hs0)))))

theorem State.olderBeat_follows {s0 a1 : _} (hs0 : Follows z s0) : Follows z (State.olderBeat s0 a1) := by
  unfold State.olderBeat
  split
  · exact (Follows.ite (State.raise_follows hs0) hs0)
  · exact hs0

theorem State.mateRecord_follows {s0 a1 a2 : _} (hs0 : Follows z s0) : Follows z (State.mateRecord s0 a1 a2) := by
  unfold State.mateRecord
  extract_lets -merge -useContext -underBinder y0 y1 y2 y3
  clear_value y0
  have h1 : Follows z y1 := State.mapMate_follows hs0
  clear_value y1
  have h2 : Follows z y2 := Follows.ite (State.wantResync_follows h1) h1
  clear_value y2
  refine Follows.ite hs0 (Follows.ite (State.wantResync_follows hs0) (Follows.ite (State.olderBeat_follows h2) ?_))
  have hn : Follows z (y2.noteRec y3) := State.noteRec_follows h2
  cases a2 with
  | heartbeat => exact State.takeBeat_follows hn
  | stop => exact State.takeStop_follows hn
  | handover => exact State.takeHandover_follows hn
  | resyncReq => exact Follows.ite (State.mapMate_follows h2) h2
  | resyncBegin => exact Follows.ite h2 (State.applyBody_follows hn)
  | _ => exact Follows.ite h2 (Follows.ite (State.mapMate_follows h2) (State.applyBody_follows hn))

theorem execHeartbeatRecord_follows {a0 a1 a2 s3 : _} (hs3 : Follows z s3) : ResFollows z (execHeartbeatRecord a0 a1 a2 s3) := by
  unfold execHeartbeatRecord
  exact (ResFollows.next (State.mateRecord_follows (State.tick_follows hs3)))

theorem execStopRecord_follows {a0 a1 a2 a3 s4 : _} (hs4 : Follows z s4) : ResFollows z (execStopRecord a0 a1 a2 a3 s4) := by
  unfold execStopRecord
  exact (ResFollows.next (State.mateRecord_follows (State.tick_follows hs4)))

theorem execHandoverRecord_follows {a0 a1 a2 a3 s4 : _} (hs4 : Follows z s4) : ResFollows z (execHandoverRecord a0 a1 a2 a3 s4) := by
  unfold execHandoverRecord
  exact (ResFollows.next (State.mateRecord_follows (State.tick_follows hs4)))

theorem execMapEntries_follows {a0 a1 a2 s3 : _} (hs3 : Follows z s3) : ResFollows z (execMapEntries a0 a1 a2 s3) := by
  unfold execMapEntries
  exact (ResFollows.next (State.mateRecord_follows (State.tick_follows hs3)))

theorem execCommitArm_follows {a0 a1 a2 a3 a4 s5 : _} (hs5 : Follows z s5) : ResFollows z (execCommitArm a0 a1 a2 a3 a4 s5) := by
  unfold execCommitArm
  exact (ResFollows.next (State.mateRecord_follows (State.tick_follows hs5)))

theorem execCommitCancel_follows {a0 a1 a2 s3 : _} (hs3 : Follows z s3) : ResFollows z (execCommitCancel a0 a1 a2 s3) := by
  unfold execCommitCancel
  exact (ResFollows.next (State.mateRecord_follows (State.tick_follows hs3)))

theorem execSelState_follows {a0 a1 a2 s3 : _} (hs3 : Follows z s3) : ResFollows z (execSelState a0 a1 a2 s3) := by
  unfold execSelState
  exact (ResFollows.next (State.mateRecord_follows (State.tick_follows hs3)))

theorem execHistoryRecord_follows {a0 a1 a2 a3 a4 s5 : _} (hs5 : Follows z s5) : ResFollows z (execHistoryRecord a0 a1 a2 a3 a4 s5) := by
  unfold execHistoryRecord
  exact (ResFollows.next (State.mateRecord_follows (State.tick_follows hs5)))

theorem execSettingsRecord_follows {a0 a1 a2 a3 a4 a5 s6 : _} (hs6 : Follows z s6) : ResFollows z (execSettingsRecord a0 a1 a2 a3 a4 a5 s6) := by
  unfold execSettingsRecord
  exact (ResFollows.next (State.mateRecord_follows (State.tick_follows hs6)))

theorem execResyncBegin_follows {a0 a1 a2 s3 : _} (hs3 : Follows z s3) : ResFollows z (execResyncBegin a0 a1 a2 s3) := by
  unfold execResyncBegin
  exact (ResFollows.next (State.mateRecord_follows (State.tick_follows hs3)))

theorem execResyncData_follows {a0 a1 a2 s3 : _} (hs3 : Follows z s3) : ResFollows z (execResyncData a0 a1 a2 s3) := by
  unfold execResyncData
  exact (ResFollows.next (State.mateRecord_follows (State.tick_follows hs3)))

theorem execResyncEnd_follows {a0 a1 a2 s3 : _} (hs3 : Follows z s3) : ResFollows z (execResyncEnd a0 a1 a2 s3) := by
  unfold execResyncEnd
  exact (ResFollows.next (State.mateRecord_follows (State.tick_follows hs3)))

theorem execResyncReq_follows {a0 a1 s2 : _} (hs2 : Follows z s2) : ResFollows z (execResyncReq a0 a1 s2) := by
  unfold execResyncReq
  exact (ResFollows.next (State.mateRecord_follows (State.tick_follows hs2)))

theorem execMirroredSwap_follows {a0 s1 : _} (hs1 : Follows z s1) : ResFollows z (execMirroredSwap a0 s1) := by
  unfold execMirroredSwap
  extract_lets -merge -useContext -underBinder y0
  have h60 : Follows z y0 := (State.tick_follows hs1)
  clear_value y0
  split
  · exact (ResFollows.next h60)
  · refine ResFollows.ite ?_ ?_
    · split
      · extract_lets -merge -useContext -underBinder y69 y70
        clear_value y69
        have h129 : Follows z y70 := (State.mapMate_follows (State.mapMap_follows h60 rfl rfl))
        clear_value y70
        exact (ResFollows.ite (ResFollows.next (State.swapPages_follows h129)) (ResFollows.next (State.discardMirrored_follows h60)))
      · exact (ResFollows.next (State.discardMirrored_follows h60))
    · exact (ResFollows.next h60)

theorem execResyncStart_follows {a0 s1 : _} (hs1 : Follows z s1) : ResFollows z (execResyncStart a0 s1) := by
  unfold execResyncStart
  extract_lets -merge -useContext -underBinder y0 y1 y2 y3
  have h60 : Follows z y0 := (State.tick_follows hs1)
  clear_value y0
  have h61 : Follows z y1 := (State.mapMate_follows (State.resetMaster_follows h60))
  clear_value y1 y2
  have h62 : Follows z y3 := (Follows.foldl (fun _ _ h63 => (State.sendRec_follows h63)) (State.sendRec_follows h61) _)
  clear_value y3
  exact (ResFollows.ite (ResFollows.next (State.sendRec_follows h62)) (ResFollows.next h60))

theorem State.putWord_follows {s0 a1 : _} (hs0 : Follows z s0) : Follows z (State.putWord s0 a1) := by
  unfold State.putWord
  extract_lets -merge -useContext -underBinder y0 y1 y2 y3
  clear_value y0 y1 y2 y3
  split
  · exact (Follows.ite (State.setPage_follows hs0 (fun c => (wf_putEntry (Canonical.shadow (Follows.canon hs0 c))))) hs0)
  · exact (Follows.ite (hs0.selOf (fun c => Store.wf_put c.selectors _ _) (fun c => c.monitors)) hs0)
  · exact (Follows.ite (hs0.selOf (fun c => c.selectors) (fun c => Store.wf_put c.monitors _ _)) hs0)
  · exact (Follows.ite (State.setReg_follows hs0) hs0)
  · split
    · exact (State.setReg_follows hs0)
    · exact hs0
  · exact (State.mapTmg_follows hs0)
  · exact hs0

theorem State.timersReceived_follows {s0 : _} (hs0 : Follows z s0) : Follows z (State.timersReceived s0) := by
  unfold State.timersReceived
  extract_lets -merge -useContext -underBinder y0 y1 y2
  clear_value y0 y1 y2
  exact (State.mapSel_follows hs0 rfl rfl)

theorem State.swapReceived_follows {s0 a1 : _} (hs0 : Follows z s0) : Follows z (State.swapReceived s0 a1) := by
  unfold State.swapReceived
  extract_lets -merge -useContext -underBinder y0 y1 y2 y3 y4 y5 y6 y7 y8 y9 y10
  have h60 : Follows z y0 := (State.mapMap_follows hs0 rfl rfl)
  clear_value y0
  have h61 : Follows z y1 := h60.selOf (fun _ => rfl) (fun _ => rfl)
  clear_value y1
  have h62 : Follows z y2 := (State.mapTmg_follows (State.setPage_follows h61 fun _ => rfl))
  clear_value y2
  have h63 : Follows z y3 := State.timersReceived_follows (Follows.foldl (fun _ _ h => State.putWord_follows h) h62 _)
  clear_value y3 y4
  have h65 : Follows z y5 := State.wr_follows h63
  clear_value y5
  have h66 : Follows z y6 := (State.mapMap_follows (State.setShadow_follows h65 (fun c => wf_foldl_page (fun _ _ h => wf_putEntry h) _ (Canonical.active (h65.canon c)))) rfl rfl)
  clear_value y6
  have h67 : Follows z y7 := (Follows.ite (State.wr_follows h66) h66)
  clear_value y7
  have h68 : Follows z y8 := (State.bump_follows (State.raise_follows (State.wr_follows h67)))
  clear_value y8 y9
  have h69 : Follows z y10 := (State.wr_follows (State.wr_follows (State.wr_follows h68)))
  clear_value y10
  exact (State.reherd_follows (State.mapMate_follows (State.mapCore_follows (State.countRefs_follows (State.showMonUse_follows (State.showSelUse_follows (State.showDirty_follows (State.setFlag_follows h69))))))))

theorem execResyncSwap_follows {a0 s1 : _} (hs1 : Follows z s1) : ResFollows z (execResyncSwap a0 s1) := by
  unfold execResyncSwap
  extract_lets -merge -useContext -underBinder y0
  have h60 : Follows z y0 := (State.tick_follows hs1)
  clear_value y0
  split
  · exact (ResFollows.next h60)
  · extract_lets -merge -useContext -underBinder y66 y67 y68
    have h126 : Follows z y66 := (State.swapReceived_follows (State.mapMate_follows h60))
    clear_value y66
    have h127 : Follows z y67 := (State.raise_follows (State.setFlag_follows h126))
    clear_value y67
    have h128 : Follows z y68 := (Follows.foldl (fun _ _ h129 => (Follows.ite h129 (State.applyBody_follows (State.noteRec_follows h129)))) h127 _)
    clear_value y68
    exact (ResFollows.ite (ResFollows.next (State.refreshPair_follows h128)) (ResFollows.next h60))

theorem State.setLast_follows {s0 a1 : _} (hs0 : Follows z s0) : Follows z (State.setLast s0 a1) := by
  unfold State.setLast
  exact (State.mapPwr_follows hs0)

theorem execAvsReadback_follows {a0 a1 a2 s3 : _} (hs3 : Follows z s3) : ResFollows z (execAvsReadback a0 a1 a2 s3) := by
  unfold execAvsReadback
  extract_lets -merge -useContext -underBinder y0 y1 y2 y3 y4 y5 y6
  have h60 : Follows z y0 := (State.tick_follows hs3)
  clear_value y0
  have h61 : Follows z y1 := (State.setLast_follows h60)
  clear_value y1 y2 y3
  have h62 : Follows z y4 := (Follows.ite (State.wr_follows h61) h61)
  clear_value y4 y5
  have h63 : Follows z y6 := (State.mapPwr_follows h62)
  clear_value y6
  exact (ResFollows.ite (ResFollows.ite (ResFollows.next (State.setFlag_follows h63)) (ResFollows.ite (ResFollows.next (State.commandV_follows (State.raise_follows (State.raise_follows h63)))) (ResFollows.ite (ResFollows.next (State.commandV_follows h63)) (ResFollows.next h63)))) (ResFollows.next h60))

theorem execPowerEstimate_follows {a0 a1 a2 a3 s4 : _} (hs4 : Follows z s4) : ResFollows z (execPowerEstimate a0 a1 a2 a3 s4) := by
  unfold execPowerEstimate
  extract_lets -merge -useContext -underBinder y0 y1 y2 y3 y4 y5 y6 y7 y8 y9
  have h60 : Follows z y0 := (State.tick_follows hs4)
  clear_value y0
  have h61 : Follows z y1 := (State.wr_follows (State.wr_follows (State.setLast_follows h60)))
  clear_value y1
  have h62 : Follows z y2 := (State.wr_follows h61)
  clear_value y2
  have h63 : Follows z y3 := (Follows.ite (State.wr_follows h62) h62)
  clear_value y3 y4 y5
  have h64 : Follows z y6 := (State.mapPwr_follows h63)
  clear_value y6 y7
  have h65 : Follows z y8 := (Follows.ite (State.raise_follows (State.raise_follows h64)) (Follows.ite (State.setFlag_follows h64) h64))
  clear_value y8 y9
  exact (ResFollows.ite (ResFollows.ite (ResFollows.next (State.raise_follows (State.raise_follows h65))) (ResFollows.ite (ResFollows.next (State.setFlag_follows h65)) (ResFollows.next h65))) (ResFollows.next h60))

theorem execPowerBudget_follows {a0 s1 : _} (hs1 : Follows z s1) : ResFollows z (execPowerBudget a0 s1) := by
  unfold execPowerBudget
  refine ResFollows.next ?_
  refine State.run_follows hs1 ?_
  · intro x3 x5 h4
    extract_lets -merge -useContext -underBinder y6 y7
    clear_value y6 y7
    exact (AnsFollows.ite AnsFollows.refuse (AnsFollows.ok (State.wr_follows (State.wr_follows h4))))

theorem State.releaseWork_follows {s0 a1 : _} (hs0 : Follows z s0) : Follows z (State.releaseWork s0 a1) := by
  unfold State.releaseWork
  extract_lets -merge -useContext -underBinder y0 y1 y2 y3 y4 y5 y6 y7 y8
  clear_value y0 y1 y2
  have h60 : Follows z y3 := (State.raiseIf_follows (State.wr_follows hs0))
  clear_value y3 y4 y5 y6 y7 y8
  exact (Follows.ite (State.wr_follows h60) (Follows.ite (State.wr_follows h60) (State.wr_follows h60)))

theorem State.rotateAll_follows {s0 : _} (hs0 : Follows z s0) : Follows z (State.rotateAll s0).1 := by
  unfold State.rotateAll
  refine Follows.foldl_fst ?_ ?_ _
  · intro x1 x3 h2
    extract_lets -merge -useContext -underBinder y4
    have h64 : Follows z y4 := h2
    refine Follows.ite_fst ?_ ?_
    · exact h2
    · split
      · exact h2
      · exact (Follows.fst_mk (State.startMove_follows h64))
  · exact (Follows.fst_mk hs0)

theorem execBankRotationStep_follows {a0 a1 s2 : _} (hs2 : Follows z s2) : ResFollows z (execBankRotationStep a0 a1 s2) := by
  unfold execBankRotationStep
  extract_lets -merge -useContext -underBinder y0 y1
  have h60 : Follows z y0 := (State.tick_follows hs2)
  clear_value y0 y1
  refine ResFollows.ite ?_ ?_
  · split
    · rename_i x63 _ x65
      have h61 : Follows z x63 := Follows.of_fst x65 (State.rotateAll_follows (State.setLast_follows (State.mapEng_follows h60 rfl)))
      exact (ResFollows.ite (ResFollows.ite (ResFollows.next (State.endRun_follows h61)) (ResFollows.next (State.mapPwr_follows h61))) (ResFollows.next h61))
  · exact (ResFollows.next h60)

theorem execMarchTestDone_follows {a0 a1 a2 a3 s4 : _} (hs4 : Follows z s4) : ResFollows z (execMarchTestDone a0 a1 a2 a3 s4) := by
  unfold execMarchTestDone
  extract_lets -merge -useContext -underBinder y0 y1 y2 y3 y4
  have h60 : Follows z y0 := (State.tick_follows hs4)
  clear_value y0 y1
  have h61 : Follows z y2 := (State.refreshPair_follows (State.refreshFault_follows (State.marchDone_follows h60)))
  clear_value y2
  have h62 : Follows z y3 := (State.mapPwr_follows h61)
  clear_value y3
  have h63 : Follows z y4 := (State.mapRun_follows h62)
  clear_value y4
  refine ResFollows.ite ?_ ?_
  · split
    · exact (ResFollows.ite (ResFollows.next (State.endRun_follows h63)) (ResFollows.next h63))
    · exact (ResFollows.next h63)
  · exact (ResFollows.next h61)

theorem Found.s_follows {a0 : _} (ha0 : Follows z a0.s) : Follows z (Found.s a0) := by
  unfold Found.s
  exact ha0

theorem scrubEntry_follows {a0 a1 a2 : _} (ha1 : Follows z a1.s) : Follows z (scrubEntry a0 a1 a2).s := by
  unfold scrubEntry
  split
  · exact ha1
  · exact (Follows.found_mk (State.setPage_follows ha1 (fun c => (wf_putEntry (Canonical.page (Follows.canon ha1 c) _)))))
  · extract_lets -merge -useContext -underBinder y8
    clear_value y8
    exact (Follows.found_mk (State.readEntry_follows ha1))

theorem scrubSel_follows {a0 a1 : _} (ha0 : Follows z a0.s) : Follows z (scrubSel a0 a1).s := by
  unfold scrubSel
  split
  · exact ha0
  · exact (Follows.found_mk (State.setSel_follows ha0))
  · exact (Follows.found_mk ha0)

theorem scrubMon_follows {a0 a1 : _} (ha0 : Follows z a0.s) : Follows z (scrubMon a0 a1).s := by
  unfold scrubMon
  split
  · exact ha0
  · exact (Follows.found_mk (State.setMon_follows ha0))
  · exact (Follows.found_mk ha0)

theorem State.upsetSel_follows {s0 a1 : _} (hs0 : Follows z s0) : Follows z (State.upsetSel s0 a1) := by
  unfold State.upsetSel
  extract_lets -merge -useContext -underBinder y0
  clear_value y0
  split
  · exact (State.readSel_follows hs0)
  · exact (State.setSel_follows hs0)

theorem State.upsetMon_follows {s0 a1 : _} (hs0 : Follows z s0) : Follows z (State.upsetMon s0 a1) := by
  unfold State.upsetMon
  extract_lets -merge -useContext -underBinder y0
  clear_value y0
  split
  · extract_lets -merge -useContext -underBinder y62 y63 y64
    have h122 : Follows z y62.1 := (State.readMon_follows hs0)
    clear_value y62 y63 y64
    exact (Follows.ite (State.evalAll_follows (State.openBurst_follows h122)) h122)
  · exact (State.setMon_follows hs0)

theorem State.scrub_follows {s0 a1 a2 a3 a4 a5 a6 : _} (hs0 : Follows z s0) : Follows z (State.scrub s0 a1 a2 a3 a4 a5 a6).s := by
  unfold State.scrub
  extract_lets -merge -useContext -underBinder y0 y1 y2 y3 y4 y5 y6 y7
  clear_value y0 y1 y2
  have h60 : Follows z y3 := (State.setPage_follows hs0 (fun c => (wf_upsetPage (Canonical.page (Follows.canon hs0 c) _))))
  clear_value y3 y4
  have h61 : Follows z y5 := (Follows.foldl (fun _ _ h62 => (State.upsetSel_follows h62)) hs0 _)
  clear_value y5 y6
  have h63 : Follows z y7 := (Follows.foldl (fun _ _ h64 => (State.upsetMon_follows h64)) hs0 _)
  clear_value y7
  exact (Follows.ite_found (Follows.foldl_found (fun _ _ h65 => (scrubEntry_follows h65)) (Follows.found_mk h60) _) (Follows.ite_found (Follows.foldl_found (fun _ _ h66 => (scrubSel_follows h66)) (Follows.found_mk h61) _) (Follows.ite_found (Follows.foldl_found (fun _ _ h67 => (scrubMon_follows h67)) (Follows.found_mk h63) _) (Follows.found_mk hs0))))

theorem execScrubUnit_follows {a0 a1 a2 a3 a4 a5 a6 s7 : _} (hs7 : Follows z s7) : ResFollows z (execScrubUnit a0 a1 a2 a3 a4 a5 a6 s7) := by
  unfold execScrubUnit
  extract_lets -merge -useContext -underBinder y0 y1 y2 y3 y4 y5 y6
  have h60 : Follows z y0 := (State.tick_follows hs7)
  clear_value y0 y1
  have h61 : Follows z y2.s := (State.scrub_follows h60)
  clear_value y2
  have h62 : Follows z y3 := (State.setLast_follows (State.raiseIf_follows (State.inc_follows h61)))
  clear_value y3
  have h63 : Follows z y4 := (State.mapPwr_follows h62)
  clear_value y4
  have h64 : Follows z y5 := (Follows.ite (State.bump_follows h63) h63)
  clear_value y5
  have h65 : Follows z y6 := (State.mapRun_follows h64)
  clear_value y6
  refine ResFollows.ite ?_ ?_
  · split
    · exact (ResFollows.ite (ResFollows.next (State.endRun_follows h65)) (ResFollows.next h65))
    · exact (ResFollows.next h65)
  · exact (ResFollows.next h60)

theorem execSpotCheck_follows {a0 a1 a2 s3 : _} (hs3 : Follows z s3) : ResFollows z (execSpotCheck a0 a1 a2 s3) := by
  unfold execSpotCheck
  extract_lets -merge -useContext -underBinder y0 y1 y2 y3 y4 y5
  have h60 : Follows z y0 := (State.tick_follows hs3)
  clear_value y0 y1
  have h61 : Follows z y2 := (State.mapPwr_follows h60)
  clear_value y2
  have h62 : Follows z y3 := (State.setLast_follows h61)
  clear_value y3
  have h63 : Follows z y4 := by
    unfold y4
    split
    · exact h62
    · extract_lets -merge -useContext -underBinder y67 y68 y69 y70
      clear_value y67 y68
      have h127 : Follows z y69 := (State.raise_follows (State.inc_follows h62))
      clear_value y69
      have h128 : Follows z y70 := (State.mapPwr_follows h127)
      clear_value y70
      exact (State.refreshPair_follows (State.refreshFault_follows h128))
  clear_value y4
  have h129 : Follows z y5 := (State.mapRun_follows h63)
  clear_value y5
  refine ResFollows.ite ?_ ?_
  · split
    · exact (ResFollows.ite (ResFollows.next (State.endRun_follows h129)) (ResFollows.next h129))
    · exact (ResFollows.next h129)
  · exact (ResFollows.next h60)

theorem execSelftest_follows {a0 s1 : _} (hs1 : Follows z s1) : ResFollows z (execSelftest a0 s1) := by
  unfold execSelftest
  refine ResFollows.next ?_
  refine State.run_follows hs1 ?_
  · intro x3 x5 h4
    extract_lets -merge -useContext -underBinder y6 y7 y8 y9 y10 y11
    clear_value y6 y7 y8 y9
    have h66 : Follows z y10 := (State.mapPwr_follows h4)
    clear_value y10
    have h67 : Follows z y11 := (Follows.ite (State.mapDyn_follows (State.mapPwr_follows h66)) (Follows.ite (State.refreshPair_follows (State.mapPwr_follows h66)) h66))
    clear_value y11
    exact (AnsFollows.ite AnsFollows.refuse (AnsFollows.ite AnsFollows.refuse (AnsFollows.ite AnsFollows.refuse (AnsFollows.accepted h67))))

theorem execSelftestResult_follows {a0 s1 : _} (hs1 : Follows z s1) : ResFollows z (execSelftestResult a0 s1) := by
  unfold execSelftestResult
  refine ResFollows.next ?_
  refine State.run_follows hs1 ?_
  · intro x3 x5 h4
    extract_lets -merge -useContext -underBinder y6 y7
    clear_value y6 y7
    split
    · exact AnsFollows.refuse
    · exact (AnsFollows.ite (AnsFollows.ok h4) AnsFollows.refuse)

theorem execEyeScanDone_follows {a0 a1 a2 a3 a4 s5 : _} (hs5 : Follows z s5) : ResFollows z (execEyeScanDone a0 a1 a2 a3 a4 s5) := by
  unfold execEyeScanDone
  extract_lets -merge -useContext -underBinder y0 y1 y2
  have h60 : Follows z y0 := (State.tick_follows hs5)
  clear_value y0 y1
  have h61 : Follows z y2 := (Follows.fresh _ h60)
  clear_value y2
  exact (ResFollows.ite (ResFollows.next (State.endRun_follows (State.setLast_follows h61))) (ResFollows.next h60))

theorem execLanePrbsEnd_follows {a0 a1 a2 a3 a4 s5 : _} (hs5 : Follows z s5) : ResFollows z (execLanePrbsEnd a0 a1 a2 a3 a4 s5) := by
  unfold execLanePrbsEnd
  extract_lets -merge -useContext -underBinder y0
  have h60 : Follows z y0 := (State.tick_follows hs5)
  clear_value y0
  split
  · exact (ResFollows.next h60)
  · extract_lets -merge -useContext -underBinder y66 y67
    have h126 : Follows z y66 := (State.endPrbs_follows h60)
    clear_value y66
    have h127 : Follows z y67 := (State.mapPwr_follows h126)
    clear_value y67
    exact (ResFollows.ite (ResFollows.next (State.refreshPair_follows (State.refreshFault_follows (State.endRun_follows h127)))) (ResFollows.next h60))

theorem execStackMarchDone_follows {a0 a1 a2 a3 s4 : _} (hs4 : Follows z s4) : ResFollows z (execStackMarchDone a0 a1 a2 a3 s4) := by
  unfold execStackMarchDone
  extract_lets -merge -useContext -underBinder y0 y1 y2
  have h60 : Follows z y0 := (State.tick_follows hs4)
  clear_value y0
  have h61 : Follows z y1 := (State.mapPwr_follows (State.endMarch_follows h60))
  clear_value y1
  have h62 : Follows z y2 := (State.endRun_follows h61)
  clear_value y2
  exact (ResFollows.ite (ResFollows.next (State.refreshPair_follows (State.wantResync_follows (State.refreshFault_follows h62)))) (ResFollows.next h60))

theorem State.stopTests_follows {s0 : _} (hs0 : Follows z s0) : Follows z (State.stopTests s0) := by
  unfold State.stopTests
  extract_lets -merge -useContext -underBinder y0 y1 y2
  have h60 : Follows z y0 := (Follows.foldl (fun _ _ h61 => (State.dropRun_follows h61)) hs0 _)
  clear_value y0
  have h62 : Follows z y1 := (Follows.foldl (fun _ _ h63 => (State.endPrbs_follows h63)) h60 _)
  clear_value y1
  have h64 : Follows z y2 := (State.mapPwr_follows h62)
  clear_value y2
  exact (Follows.ite h64 (State.refreshPair_follows (State.wantResync_follows (State.endMarch_follows h64))))

theorem State.zeroCnt_follows {s0 a1 : _} (hs0 : Follows z s0) : Follows z (State.zeroCnt s0 a1) := by
  unfold State.zeroCnt
  exact (State.setFlag_follows (State.wr_follows (State.wr_follows hs0)))

theorem State.periodAdds_follows {s0 a1 : _} (hs0 : Follows z s0) : Follows z (State.periodAdds s0 a1) := by
  unfold State.periodAdds
  extract_lets -merge -useContext -underBinder y0
  have h60 : Follows z y0 := (Follows.foldl (fun _ _ h61 => (Follows.ite (State.tallyAdd_follows h61) h61)) hs0 _)
  clear_value y0
  refine Follows.foldl ?_ ?_ _
  · intro x63 x65 h64
    extract_lets -merge -useContext -underBinder y66
    clear_value y66
    exact (Follows.ite (State.tallyAdd_follows h64) h64)
  · exact h60

theorem State.keepEng_follows {s0 : _} (hs0 : Follows z s0) : Follows z (State.keepEng s0) := by
  unfold State.keepEng
  exact (State.mapTally_follows hs0)

theorem execCandleRecordClose_follows {a0 a1 a2 a3 a4 s5 : _} (hs5 : Follows z s5) : ResFollows z (execCandleRecordClose a0 a1 a2 a3 a4 s5) := by
  unfold execCandleRecordClose
  extract_lets -merge -useContext -underBinder y0
  have h60 : Follows z y0 := (State.tick_follows hs5)
  clear_value y0
  split
  · exact (ResFollows.next h60)
  · extract_lets -merge -useContext -underBinder y66 y67 y68 y69 y70 y71 y72
    clear_value y66
    have h126 : Follows z y67 := (State.closeCandle_follows h60)
    clear_value y67
    have h127 : Follows z y68 := (State.wr_follows (State.wr_follows (State.wr_follows (State.wr_follows h126))))
    clear_value y68
    have h128 : Follows z y69 := (State.wr_follows h127)
    clear_value y69
    have h129 : Follows z y70 := (State.mapTally_follows h128)
    clear_value y70
    have h130 : Follows z y71 := (State.releaseWork_follows h129)
    clear_value y71
    have h131 : Follows z y72 := (Follows.ite (State.mapPins_follows h130) h130)
    clear_value y72
    exact (ResFollows.next (State.refreshPair_follows (State.refreshFault_follows h131)))

theorem State.dumpMark_follows {s0 a1 a2 a3 : _} (hs0 : Follows z s0) : Follows z (State.dumpMark s0 a1 a2 a3) := by
  unfold State.dumpMark
  extract_lets -merge -useContext -underBinder y0 y1
  clear_value y0
  have h60 : Follows z y1 := (Follows.foldl (fun _ _ h61 => (State.zeroCnt_follows h61)) hs0 _)
  clear_value y1
  exact (State.mapTally_follows h60)

theorem State.skipMark_follows {s0 a1 : _} (hs0 : Follows z s0) : Follows z (State.skipMark s0 a1) := by
  unfold State.skipMark
  extract_lets -merge -useContext -underBinder y0
  have h60 : Follows z y0 := (State.mapTally_follows (State.raise_follows (State.inc_follows hs0)))
  clear_value y0
  exact (Follows.ite h60 (State.mapTally_follows (State.raise_follows (Follows.foldl (fun _ _ h61 => (State.zeroCnt_follows h61)) h60 _))))

theorem State.installDefs_follows {s0 : _} (hs0 : Follows z s0) : Follows z (State.installDefs s0) := by
  unfold State.installDefs
  extract_lets -merge -useContext -underBinder y0
  have h60 : Follows z y0 := (Follows.foldl (fun _ _ h61 => (State.zeroCnt_follows (State.setReg_follows (State.setReg_follows h61)))) hs0 _)
  clear_value y0
  exact (State.mapTally_follows h60)

theorem State.perfDefined_follows {s0 : _} (hs0 : Follows z s0) : Follows z (State.perfDefined s0) := by
  unfold State.perfDefined
  split
  · exact hs0
  · exact (State.retake_follows hs0)

theorem State.installCfg_follows {s0 a1 a2 a3 : _} (hs0 : Follows z s0) : Follows z (State.installCfg s0 a1 a2 a3) := by
  unfold State.installCfg
  split
  · exact hs0
  · extract_lets -merge -useContext -underBinder y6 y7 y8 y9 y10 y11 y12 y13 y14 y15 y16
    clear_value y6
    have h66 : Follows z y7 := (State.mapTally_follows hs0)
    clear_value y7
    have h67 : (∀ a0 a1, Follows z a0 → Follows z (y8 a0 a1)) := (fun _ _ h68 => (State.complete_follows h68))
    clear_value y8 y9
    have h69 : Follows z y10 := (State.wr_follows h66)
    clear_value y10
    have h70 : Follows z y11 := (State.wr_follows (State.wr_follows (State.raise_follows h69)))
    clear_value y11
    have h71 : Follows z y12 := (State.wr_follows (State.wr_follows (State.wr_follows h70)))
    clear_value y12
    have h72 : Follows z y13 := (Follows.ite h69 (State.mapTally_follows h71))
    clear_value y13
    have h73 : Follows z y14 := (Follows.ite (State.mapTally_follows h72) h72)
    clear_value y14
    have h74 : Follows z y15 := (State.setFlag_follows h66)
    clear_value y15
    have h75 : Follows z y16 := (Follows.ite (State.resetMaster_follows h74) h74)
    clear_value y16
    exact (Follows.ite (h67 _ _ h73) (h67 _ _ h75))

theorem State.tallyMark_follows {s0 a1 : _} (hs0 : Follows z s0) : Follows z (State.tallyMark s0 a1) := by
  unfold State.tallyMark
  extract_lets -merge -useContext -underBinder y0 y1 y2 y3 y4 y5 y6 y7 y8 y9 y10 y11 y12 y13 y14
  clear_value y0
  have h60 : Follows z y1 := (State.keepEng_follows hs0)
  clear_value y1 y2 y3 y4 y5 y6 y7 y8 y9 y10
  have h61 : Follows z y11 := (State.skipMark_follows h60)
  clear_value y11
  have h62 : Follows z y12 := (Follows.ite (Follows.ite (State.dumpMark_follows h60) (Follows.freshAt _ h61 h60)) (Follows.ite h60 (State.mapTally_follows h60)))
  clear_value y12
  have h63 : Follows z y13 := (Follows.ite h62 (State.perfDefined_follows (State.installDefs_follows h62)))
  clear_value y13
  have h64 : Follows z y14 := (Follows.ite (Follows.ite (State.complete_follows h63) (State.complete_follows h63)) h63)
  clear_value y14
  exact (State.installCfg_follows h64)

theorem execPerfDefinitionChange_follows {a0 a1 s2 : _} (hs2 : Follows z s2) : ResFollows z (execPerfDefinitionChange a0 a1 s2) := by
  unfold execPerfDefinitionChange
  extract_lets -merge -useContext -underBinder y0
  have h60 : Follows z y0 := (State.tick_follows hs2)
  clear_value y0
  split
  · exact (ResFollows.next h60)
  · split
    · exact (ResFollows.next h60)
    · refine ResFollows.ite ?_ ?_
      · split
        · exact (ResFollows.next (State.finish_follows h60))
        · exact (ResFollows.next h60)
      · exact (ResFollows.next h60)

theorem Dump.giveBack_follows {a0 s1 a2 : _} (hs1 : Follows z s1) : Follows z (Dump.giveBack a0 s1 a2) := by
  unfold Dump.giveBack
  split
  · exact hs1
  · extract_lets -merge -useContext -underBinder y5 y6
    have h65 : Follows z y5 := (State.tallyAdd_follows hs1)
    clear_value y5
    have h66 : Follows z y6 := (State.wr_follows h65)
    clear_value y6
    exact (Follows.ite (State.raise_follows hs1) (State.raiseIf_follows h66))

theorem State.cutSlot_follows {s0 : _} (hs0 : Follows z s0) : Follows z (State.cutSlot s0) := by
  unfold State.cutSlot
  extract_lets -merge -useContext -underBinder y0 y1
  clear_value y0
  have h60 : Follows z y1 := (State.scrWrite_follows hs0)
  clear_value y1
  exact (Follows.ite (Follows.freshAt _ h60 hs0) hs0)

theorem State.cutDump_follows {s0 : _} (hs0 : Follows z s0) : Follows z (State.cutDump s0) := by
  unfold State.cutDump
  split
  · exact hs0
  · extract_lets -merge -useContext -underBinder y5 y6 y7
    have h65 : Follows z y5 := (Follows.foldl (fun _ _ h66 => (Dump.giveBack_follows h66)) (State.cutSlot_follows hs0) _)
    clear_value y5 y6 y7
    exact (State.mapTally_follows h65)

theorem State.stopDumps_follows {s0 : _} (hs0 : Follows z s0) : Follows z (State.stopDumps s0) := by
  unfold State.stopDumps
  exact (Follows.ite (State.resetMaster_follows (State.setFlag_follows (State.cutDump_follows hs0))) hs0)

theorem execDumpErrorStop_follows {a0 s1 : _} (hs1 : Follows z s1) : ResFollows z (execDumpErrorStop a0 s1) := by
  unfold execDumpErrorStop
  extract_lets -merge -useContext -underBinder y0
  have h60 : Follows z y0 := (State.tick_follows hs1)
  clear_value y0
  exact (ResFollows.ite (ResFollows.next (State.raise_follows (State.stopDumps_follows h60))) (ResFollows.next h60))

theorem execDumpWriteDone_follows {a0 s1 : _} (hs1 : Follows z s1) : ResFollows z (execDumpWriteDone a0 s1) := by
  unfold execDumpWriteDone
  extract_lets -merge -useContext -underBinder y0
  have h60 : Follows z y0 := (State.tick_follows hs1)
  clear_value y0
  split
  · exact (ResFollows.next h60)
  · split
    · rename_i x68 x69
      have h66 : Follows z x68 := ExcFollows.of_error x69 (State.devWrite_follows h60)
      exact (ResFollows.next (State.raise_follows (State.stopDumps_follows h66)))
    · rename_i x71 x72
      have h66 : Follows z x71 := ExcFollows.of_ok x72 (State.devWrite_follows h60)
      extract_lets -merge -useContext -underBinder y73 y74 y75
      have h133 : Follows z y73 := (State.raise_follows (State.bump_follows (State.mapTally_follows h66)))
      clear_value y73 y74
      have h134 : Follows z y75 := (State.postNotice_follows h133)
      clear_value y75
      exact (ResFollows.next (Follows.ite h134 (State.resetMaster_follows h134)))

theorem execTallyDumpCiWrite_follows {a0 a1 a2 s3 : _} (hs3 : Follows z s3) : ResFollows z (execTallyDumpCiWrite a0 a1 a2 s3) := by
  unfold execTallyDumpCiWrite
  exact (ResFollows.ite (ResFollows.next (State.postedUr_follows (State.tick_follows hs3))) (ResFollows.next (State.wr_follows (State.tick_follows hs3))))

theorem execPerfConfig_follows {a0 s1 : _} (hs1 : Follows z s1) : ResFollows z (execPerfConfig a0 s1) := by
  unfold execPerfConfig
  refine ResFollows.next ?_
  refine State.run_follows hs1 ?_
  · intro x3 x5 h4
    extract_lets -merge -useContext -underBinder y6 y7 y8 y9 y10 y11 y12
    clear_value y6 y7 y8
    have h66 : ExcPFollows z y9 := (ExcPFollows.ite (ExcPFollows.ok (Follows.fst_mk h4)) (ExcPFollows.map (State.readBuf_follows h4) fun _ => rfl))
    clear_value y9 y10 y11 y12
    exact (AnsFollows.ite (AnsFollows.ite AnsFollows.refuse (Ans.reading_follows h66 (fun _ _ h67 => (AnsFollows.ite (AnsFollows.later (State.mapTally_follows h67)) AnsFollows.refuse)))) (AnsFollows.ite AnsFollows.refuse (AnsFollows.ite AnsFollows.refuse (AnsFollows.later (State.mapTally_follows h4)))))

theorem execPerfDumpNow_follows {a0 s1 : _} (hs1 : Follows z s1) : ResFollows z (execPerfDumpNow a0 s1) := by
  unfold execPerfDumpNow
  exact (ResFollows.next (State.run_follows hs1 (fun _ _ h0 => (AnsFollows.ite AnsFollows.refuse (AnsFollows.later h0)))))

end Sys2Proof.Machine
end

