-- ==== Sys2Proof/Laws/FollowsHost.lean ====
section
/-! SUPPORT. Laws/FollowsHost.lean: SONET receive, mailboxes, MDC, MRAM and the bus: each operation and each command keeps what `Follows` says. -/
namespace Sys2Proof.Machine

variable {z : State}

theorem State.debounce_follows {s0 a1 a2 a3 a4 a5 : _} (hs0 : Follows z s0) : Follows z (State.debounce s0 a1 a2 a3 a4 a5).1 := by
  unfold State.debounce
  extract_lets -merge -useContext -underBinder y0
  have h60 : Follows z y0 := (State.observe_follows hs0)
  clear_value y0
  exact (Follows.fst_mk h60)

theorem State.portCond_follows {s0 a1 a2 a3 a4 a5 : _} (hs0 : Follows z s0) : Follows z (State.portCond s0 a1 a2 a3 a4 a5) := by
  unfold State.portCond
  extract_lets -merge -useContext -underBinder y0
  have h60 : Follows z y0.1 := (State.debounce_follows hs0)
  clear_value y0
  exact (State.setDef_follows h60)

theorem State.pathCond_follows {s0 a1 a2 a3 a4 a5 a6 a7 : _} (hs0 : Follows z s0) : Follows z (State.pathCond s0 a1 a2 a3 a4 a5 a6 a7) := by
  unfold State.pathCond
  extract_lets -merge -useContext -underBinder y0
  have h60 : Follows z y0.1 := (State.debounce_follows hs0)
  clear_value y0
  exact (State.setPathDef_follows h60)

theorem State.addViol_follows {s0 a1 a2 : _} (hs0 : Follows z s0) : Follows z (State.addViol s0 a1 a2) := by
  unfold State.addViol
  exact (Follows.ite hs0 (State.mapLine_follows hs0))

theorem State.refreshTim_follows {s0 a1 a2 : _} (hs0 : Follows z s0) : Follows z (State.refreshTim s0 a1 a2) := by
  unfold State.refreshTim
  exact (Follows.ite hs0 (State.setPathDef_follows hs0))

theorem State.trace_follows {s0 a1 a2 a3 a4 a5 : _} (hs0 : Follows z s0) : Follows z (State.trace s0 a1 a2 a3 a4 a5) := by
  unfold State.trace
  extract_lets -merge -useContext -underBinder y0 y1 y2 y3
  clear_value y0 y1
  have h60 : Follows z y2 := (State.mapLine_follows hs0)
  clear_value y2
  have h61 : Follows z y3 := (Follows.foldl (fun _ _ h62 => (State.wr_follows h62)) h60 _)
  clear_value y3
  exact (Follows.ite (State.refreshTim_follows (State.setFlag_follows h61)) h60)

theorem State.traceByte_follows {a0 a1 a2 s3 a4 : _} (hs3 : Follows z s3) : Follows z (State.traceByte a0 a1 a2 s3 a4) := by
  unfold State.traceByte
  refine Follows.foldl ?_ ?_ _
  · intro x1 x3 h2
    extract_lets -merge -useContext -underBinder y4
    clear_value y4
    split
    · exact (State.trace_follows h2)
    · exact (State.mapLine_follows h2)
  · exact hs3

theorem State.pointer_follows {s0 a1 a2 a3 a4 a5 a6 a7 : _} (hs0 : Follows z s0) : Follows z (State.pointer s0 a1 a2 a3 a4 a5 a6 a7).1 := by
  unfold State.pointer
  extract_lets -merge -useContext -underBinder y0 y1 y2 y3 y4 y5 y6 y7 y8 y9 y10 y11 y12 y13 y14 y15 y16
  clear_value y0 y1 y2 y3 y4 y5 y6 y7 y8 y9 y10 y11 y12 y13
  have h60 : Follows z y14 := (State.observe_follows (State.observe_follows (State.observe_follows hs0)))
  clear_value y14
  have h61 : Follows z y15 := (State.observe_follows h60)
  clear_value y15 y16
  exact (Follows.fst_mk h61)

theorem State.setPtr_follows {s0 a1 a2 a3 a4 a5 : _} (hs0 : Follows z s0) : Follows z (State.setPtr s0 a1 a2 a3 a4 a5) := by
  unfold State.setPtr
  exact (State.setPathDef_follows (State.setPathDef_follows (State.wr_follows hs0)))

theorem State.applyPtr_follows {s0 a1 a2 a3 a4 a5 : _} (hs0 : Follows z s0) : Follows z (State.applyPtr s0 a1 a2 a3 a4 a5) := by
  unfold State.applyPtr
  extract_lets -merge -useContext -underBinder y0
  clear_value y0
  split
  · exact hs0
  · exact (State.setPtr_follows (State.wr_follows hs0))
  · exact (State.inc_follows (State.wr_follows hs0))
  · exact (State.inc_follows (State.wr_follows hs0))
  · exact (State.setPtr_follows hs0)
  · exact (State.setPtr_follows hs0)

theorem State.setVt_follows {s0 a1 a2 a3 : _} (hs0 : Follows z s0) : Follows z (State.setVt s0 a1 a2 a3) := by
  unfold State.setVt
  exact (State.mapLine_follows hs0)

theorem State.takeV5_follows {s0 a1 a2 a3 a4 : _} (hs0 : Follows z s0) : Follows z (State.takeV5 s0 a1 a2 a3 a4).1 := by
  unfold State.takeV5
  extract_lets -merge -useContext -underBinder y0 y1 y2 y3 y4 y5 y6 y7 y8 y9 y10
  clear_value y0 y1
  have h60 : Follows z y2 := (State.inc_follows (State.addViol_follows (State.inc_follows hs0)))
  clear_value y2 y3
  have h61 : Follows z y4 := (State.observe_follows h60)
  clear_value y4 y5
  have h62 : Follows z y6 := (State.observe_follows h61)
  clear_value y6
  have h63 : Follows z y7 := (Follows.ite (State.setPathDef_follows h62) (Follows.ite (State.setPathDef_follows h62) h62))
  clear_value y7 y8
  have h64 : Follows z y9 := (State.observe_follows h63)
  clear_value y9
  have h65 : Follows z y10 := (Follows.ite (State.setPathDef_follows h64) (Follows.ite (State.setPathDef_follows h64) h64))
  clear_value y10
  exact (Follows.fst_mk (State.pathCond_follows h65))

theorem State.takeVtPoh_follows {s0 a1 a2 a3 a4 a5 : _} (hs0 : Follows z s0) : Follows z (State.takeVtPoh s0 a1 a2 a3 a4 a5).1 := by
  unfold State.takeVtPoh
  exact (Follows.ite_fst (State.takeV5_follows hs0) (Follows.fst_mk (Follows.ite (State.traceByte_follows hs0) hs0)))

theorem vtPayload_follows {a0 a1 a2 s3 a4 a5 a6 : _} (hs3 : Follows z s3) : Follows z (vtPayload a0 a1 a2 s3 a4 a5 a6).1 := by
  induction a6 generalizing s3 a4 a5 with
  | nil => exact hs3
  | cons b bs ih =>
    unfold vtPayload
    split
    · exact hs3
    · exact Follows.ite_fst (ih (State.takeVtPoh_follows hs3)) (ih hs3)

theorem State.vtFrame_follows {s0 a1 a2 a3 a4 a5 : _} (hs0 : Follows z s0) : Follows z (State.vtFrame s0 a1 a2 a3 a4 a5).1 := by
  unfold State.vtFrame
  extract_lets -merge -useContext -underBinder y0 y1 y2 y3 y4 y5 y6 y7 y8 y9 y10
  clear_value y0 y1 y2 y3 y4 y5 y6
  have h60 : Follows z y7.1 := (State.pointer_follows hs0)
  clear_value y7
  have h61 : Follows z y8 := (State.applyPtr_follows h60)
  clear_value y8 y9 y10
  split
  · rename_i x64 _ x66
    have h62 : Follows z x64 := Follows.of_fst x66 (Follows.ite_fst (Follows.fst_mk hs0) (Follows.ite_fst (Follows.fst_mk h61) (Follows.fst_mk hs0)))
    extract_lets -merge -useContext -underBinder y67 y68 y69 y70
    clear_value y67 y68
    have h127 : Follows z y69.1 := (vtPayload_follows h62)
    clear_value y69
    have h128 : Follows z y70 := (State.setVt_follows h127)
    clear_value y70
    exact (Follows.ite_fst (Follows.fst_mk h128) (Follows.fst_mk h128))

theorem State.relockVt_follows {a0 a1 a2 a3 a4 a5 a6 a7 : _} (ha6 : Follows z a6.1) : Follows z (State.relockVt a0 a1 a2 a3 a4 a5 a6 a7).1 := by
  unfold State.relockVt
  extract_lets -merge -useContext -underBinder y0 y1 y2 y3 y4 y5 y6 y7 y8 y9 y10 y11
  have h60 : Follows z y0 := ha6
  clear_value y2 y3 y4 y5 y6 y7 y8
  have h61 : Follows z y9 := (State.setPtr_follows h60)
  clear_value y9 y10
  have h62 : Follows z y11.1 := (State.vtFrame_follows h60)
  clear_value y11
  refine Follows.ite_fst ?_ ?_
  · exact (Follows.fst_mk (State.setVt_follows h61))
  · split
    · exact (Follows.fst_mk h62)
    · extract_lets -merge -useContext -underBinder y68 y69
      clear_value y68 y69
      exact (Follows.fst_mk h62)

theorem State.setPath_follows {s0 a1 a2 a3 : _} (hs0 : Follows z s0) : Follows z (State.setPath s0 a1 a2 a3) := by
  unfold State.setPath
  exact (State.mapLine_follows hs0)

theorem State.takeH4_follows {s0 a1 a2 a3 : _} (hs0 : Follows z s0) : Follows z (State.takeH4 s0 a1 a2 a3) := by
  unfold State.takeH4
  extract_lets -merge -useContext -underBinder y0 y1 y2 y3 y4
  clear_value y0 y1 y2
  have h60 : Follows z y3 := (State.pathCond_follows hs0)
  clear_value y3 y4
  exact (State.setPath_follows h60)

theorem State.takeLabels_follows {s0 a1 a2 a3 a4 a5 : _} (hs0 : Follows z s0) : Follows z (State.takeLabels s0 a1 a2 a3 a4 a5) := by
  unfold State.takeLabels
  extract_lets -merge -useContext -underBinder y0 y1 y2 y3 y4
  have h60 : Follows z y0 := (State.pathCond_follows hs0)
  clear_value y0
  have h61 : Follows z y1 := (State.observe_follows h60)
  clear_value y1
  have h62 : Follows z y2 := (Follows.ite (State.setPathDef_follows h61) h61)
  clear_value y2
  have h63 : Follows z y3 := (State.pathCond_follows h62)
  clear_value y3 y4
  exact (State.inc_follows h63)

theorem State.takeSpe_follows {s0 a1 a2 a3 a4 : _} (hs0 : Follows z s0) : Follows z (State.takeSpe s0 a1 a2 a3 a4) := by
  unfold State.takeSpe
  extract_lets -merge -useContext -underBinder y0 y1 y2 y3 y4 y5 y6 y7 y8 y9 y10 y11 y12 y13 y14 y15 y16 y17 y18 y19 y20
  clear_value y0 y1 y2 y3 y4 y5 y6 y7
  have h60 : Follows z y8 := (State.setPath_follows hs0)
  clear_value y8
  have h61 : Follows z y9 := (State.addViol_follows (State.inc_follows h60))
  clear_value y9
  have h62 : Follows z y10 := (State.takeLabels_follows h61)
  clear_value y10
  have h63 : Follows z y11 := (Follows.foldl (fun _ _ h64 => (State.traceByte_follows h64)) h62 _)
  clear_value y11
  have h65 : Follows z y12 := (Follows.ite h63 (State.takeH4_follows h63))
  clear_value y12 y13 y14
  have h66 : Follows z y15.1 := (Follows.foldl_fst (fun _ _ h67 => (State.relockVt_follows h67)) (Follows.fst_mk h65) _)
  clear_value y15 y16 y17 y18 y19 y20
  exact (State.setPath_follows h66)

theorem State.closeSpe_follows {s0 a1 a2 a3 a4 : _} (hs0 : Follows z s0) : Follows z (State.closeSpe s0 a1 a2 a3 a4) := by
  unfold State.closeSpe
  extract_lets -merge -useContext -underBinder y0 y1
  clear_value y0 y1
  split
  · exact hs0
  · exact (Follows.ite (State.takeSpe_follows (State.setPath_follows hs0)) hs0)

theorem State.feed_follows {s0 a1 a2 a3 a4 a5 a6 : _} (hs0 : Follows z s0) : Follows z (State.feed s0 a1 a2 a3 a4 a5 a6) := by
  unfold State.feed
  extract_lets -merge -useContext -underBinder y0 y1 y2 y3 y4 y5 y6 y7 y8
  clear_value y0 y1 y2 y3
  have h60 : Follows z y4 := (Follows.ite hs0 (State.setPath_follows hs0))
  clear_value y4
  have h61 : Follows z y5 := (State.closeSpe_follows h60)
  clear_value y5
  have h62 : Follows z y6 := (State.closeSpe_follows h61)
  clear_value y6 y7 y8
  exact (Follows.ite h61 (State.setPath_follows h62))

theorem State.pathFrame_follows {a0 a1 a2 a3 s4 a5 : _} (hs4 : Follows z s4) : Follows z (State.pathFrame a0 a1 a2 a3 s4 a5) := by
  unfold State.pathFrame
  extract_lets -merge -useContext -underBinder y0 y1 y2 y3 y4 y5 y6 y7 y8 y9 y10 y11 y12 y13 y14 y15 y16 y17 y18 y19 y20 y21 y22 y23
  clear_value y1 y2 y3 y4 y5 y6 y7
  have h60 : Follows z y8 := (Follows.ite (State.feed_follows hs4) hs4)
  clear_value y8 y9 y10 y11 y12 y13 y14 y15 y16
  have h61 : Follows z y17.1 := (State.pointer_follows h60)
  clear_value y17
  have h62 : Follows z y18 := (State.applyPtr_follows h61)
  clear_value y18 y19
  have h63 : Follows z y20 := (State.setPath_follows h62)
  clear_value y20 y21 y22 y23
  refine Follows.ite ?_ ?_
  · exact (Follows.ite (State.feed_follows h63) (Follows.ite (State.feed_follows h63) (State.feed_follows h63)))
  · refine Follows.foldl ?_ ?_ _
    · intro x66 x68 h67
      extract_lets -merge -useContext -underBinder y69
      clear_value y69
      exact (State.setVt_follows h67)
    · exact (State.closeSpe_follows h63)

theorem State.takeAps_follows {s0 a1 a2 a3 : _} (hs0 : Follows z s0) : Follows z (State.takeAps s0 a1 a2 a3) := by
  unfold State.takeAps
  extract_lets -merge -useContext -underBinder y0 y1
  clear_value y0
  have h60 : Follows z y1 := (State.observe_follows hs0)
  clear_value y1
  split
  · exact h60
  · exact (Follows.ite (State.raise_follows (State.wr_follows h60)) h60)

theorem State.takeQl_follows {s0 a1 a2 : _} (hs0 : Follows z s0) : Follows z (State.takeQl s0 a1 a2) := by
  unfold State.takeQl
  extract_lets -merge -useContext -underBinder y0
  have h60 : Follows z y0 := (State.observe_follows hs0)
  clear_value y0
  exact (Follows.ite (State.raise_follows (State.wr_follows h60)) h60)

theorem State.queueOh_follows {s0 a1 a2 a3 : _} (hs0 : Follows z s0) : Follows z (State.queueOh s0 a1 a2 a3) := by
  unfold State.queueOh
  exact (State.mapLine_follows hs0)

theorem State.lineOverhead_follows {s0 a1 a2 a3 a4 a5 a6 : _} (hs0 : Follows z s0) : Follows z (State.lineOverhead s0 a1 a2 a3 a4 a5 a6) := by
  unfold State.lineOverhead
  extract_lets -merge -useContext -underBinder y0 y1 y2 y3 y4 y5 y6 y7 y8 y9 y10 y11
  clear_value y0 y1 y2 y3
  have h60 : Follows z y4 := (State.mapPrx_follows hs0)
  clear_value y4
  have h61 : Follows z y5 := (State.inc_follows (State.inc_follows h60))
  clear_value y5
  have h62 : Follows z y6 := (Follows.ite h61 (State.addViol_follows h61))
  clear_value y6
  have h63 : Follows z y7 := (State.inc_follows h62)
  clear_value y7
  have h64 : Follows z y8 := (State.wr_follows h63)
  clear_value y8
  have h65 : Follows z y9 := (State.takeQl_follows (State.takeAps_follows h64))
  clear_value y9 y10
  have h66 : Follows z y11 := (State.portCond_follows (State.portCond_follows h65))
  clear_value y11
  exact (State.queueOh_follows h66)

theorem State.dropRuns_follows {s0 a1 a2 : _} (hs0 : Follows z s0) : Follows z (State.dropRuns s0 a1 a2) := by
  unfold State.dropRuns
  extract_lets -merge -useContext -underBinder y0 y1
  have h60 : Follows z y0 := (State.mapPrx_follows hs0)
  clear_value y0 y1
  exact (State.mapLine_follows h60)

theorem State.falseLock_follows {s0 a1 a2 : _} (hs0 : Follows z s0) : Follows z (State.falseLock s0 a1 a2) := by
  unfold State.falseLock
  extract_lets -merge -useContext -underBinder y0
  have h60 : Follows z y0 := (State.dropRuns_follows (State.inc_follows hs0))
  clear_value y0
  exact (State.afterFramer_follows (Follows.foldl (fun _ _ h61 => (State.setFramer_follows h61)) h60 _))

theorem State.checkFrame_follows {s0 a1 a2 a3 a4 a5 : _} (hs0 : Follows z s0) : Follows z (State.checkFrame s0 a1 a2 a3 a4 a5) := by
  unfold State.checkFrame
  extract_lets -merge -useContext -underBinder y0 y1
  clear_value y0
  have h60 : Follows z y1 := by
    unfold y1
    refine Follows.foldl ?_ ?_ _
    · intro x63 x65 h64
      extract_lets -merge -useContext -underBinder y66 y67 y68
      clear_value y66 y67 y68
      exact (Follows.ite (State.setFramer_follows h64) h64)
    · exact hs0
  clear_value y1
  exact (State.afterFramer_follows h60)

theorem State.setTx_follows {s0 a1 a2 : _} (hs0 : Follows z s0) : Follows z (State.setTx s0 a1 a2) := by
  unfold State.setTx
  exact (State.mapLine_follows hs0)

theorem State.sonetFrame_follows {s0 a1 a2 a3 a4 : _} (hs0 : Follows z s0) : Follows z (State.sonetFrame s0 a1 a2 a3 a4) := by
  unfold State.sonetFrame
  extract_lets -merge -useContext -underBinder y0 y1 y2 y3 y4 y5 y6 y7 y8
  clear_value y0 y1
  have h60 : Follows z y2 := (State.checkFrame_follows hs0)
  clear_value y2 y3
  have h61 : Follows z y4 := (State.lineOverhead_follows h60)
  clear_value y4
  have h62 : Follows z y5 := (Follows.foldl (fun _ _ h63 => (State.pathFrame_follows h63)) h61 _)
  clear_value y5 y6
  have h64 : Follows z y7 := (State.mapPrx_follows h62)
  clear_value y7
  have h65 : Follows z y8 := (Follows.ite (State.falseLock_follows h64) h64)
  clear_value y8
  exact (Follows.ite (Follows.ite (Follows.ite (State.updateRdi_follows h61) (State.updateRdi_follows h65)) (State.dropRuns_follows h60)) hs0)

theorem execSonetFrameRx_follows {a0 a1 a2 a3 s4 : _} (hs4 : Follows z s4) : ResFollows z (execSonetFrameRx a0 a1 a2 a3 s4) := by
  unfold execSonetFrameRx
  extract_lets -merge -useContext -underBinder y0 y1 y2 y3 y4
  have h60 : Follows z y0 := (State.tick_follows hs4)
  clear_value y0 y1 y2 y3
  have h61 : Follows z y4 := (Follows.ite (State.setTx_follows h60) h60)
  clear_value y4
  exact (ResFollows.ite (ResFollows.next (State.refreshRefs_follows (State.sonetFrame_follows h61))) (ResFollows.next h60))

theorem execEcho_follows {a0 s1 : _} (hs1 : Follows z s1) : ResFollows z (execEcho a0 s1) := by
  unfold execEcho
  exact (ResFollows.next (State.run_follows hs1 (fun _ _ h0 => (AnsFollows.ok h0))))

theorem State.stage_follows {s0 a1 a2 a3 : _} (hs0 : Follows z s0) : Follows z (State.stage s0 a1 a2 a3) := by
  unfold State.stage
  exact (State.mapMbx_follows hs0)

theorem State.applyStaged_follows {s0 a1 a2 : _} (hs0 : Follows z s0) : Follows z (State.applyStaged s0 a1 a2) := by
  induction a2 generalizing s0 with
  | nil => exact hs0
  | cons a as ih =>
    unfold State.applyStaged
    split
    · exact ih hs0
    · exact ih (State.stage_follows (State.plainWrite_follows hs0))

theorem State.noticeWrite_follows {s0 a1 a2 a3 a4 : _} (hs0 : Follows z s0) : Follows z (State.noticeWrite s0 a1 a2 a3 a4) := by
  unfold State.noticeWrite
  extract_lets -merge -useContext -underBinder y0
  have h60 : Follows z y0 := (State.stage_follows hs0)
  clear_value y0
  exact (Follows.ite (State.raise_follows hs0) (Follows.ite (State.applyStaged_follows h60) h60))

theorem execH2dNoticeWrite_follows {a0 a1 a2 a3 a4 s5 : _} (hs5 : Follows z s5) : ResFollows z (execH2dNoticeWrite a0 a1 a2 a3 a4 s5) := by
  unfold execH2dNoticeWrite
  exact (ResFollows.ite (ResFollows.next (State.postedUr_follows (State.tick_follows hs5))) (ResFollows.next (State.noticeWrite_follows (State.tick_follows hs5))))

theorem State.postHost_follows {s0 a1 : _} (hs0 : Follows z s0) : Follows z (State.postHost s0 a1) := by
  unfold State.postHost
  exact (Follows.ite hs0 (State.mapMbx_follows (State.setBitAt_follows hs0)))

theorem execH2dNoticePost_follows {a0 a1 a2 s3 : _} (hs3 : Follows z s3) : ResFollows z (execH2dNoticePost a0 a1 a2 s3) := by
  unfold execH2dNoticePost
  exact (ResFollows.ite (ResFollows.next (State.postedUr_follows (State.tick_follows hs3))) (ResFollows.next (Follows.foldl (fun _ _ h0 => (Follows.ite (State.postHost_follows h0) h0)) (State.tick_follows hs3) _)))

theorem State.takeD2h_follows {s0 a1 : _} (hs0 : Follows z s0) : Follows z (State.takeD2h s0 a1) := by
  unfold State.takeD2h
  extract_lets -merge -useContext -underBinder y0 y1 y2
  have h60 : Follows z y0 := (State.mapMbx_follows (State.setBitAt_follows hs0))
  clear_value y0 y1 y2
  exact (Follows.ite (Follows.ite (State.setRing_follows h60) (Follows.ite (Follows.rest h60) h60)) hs0)

theorem execD2hNoticeTake_follows {a0 a1 a2 s3 : _} (hs3 : Follows z s3) : ResFollows z (execD2hNoticeTake a0 a1 a2 s3) := by
  unfold execD2hNoticeTake
  exact (ResFollows.ite (ResFollows.next (State.postedUr_follows (State.tick_follows hs3))) (ResFollows.next (Follows.foldl (fun _ _ h0 => (Follows.ite (State.takeD2h_follows h0) h0)) (State.tick_follows hs3) _)))

theorem State.clearHost_follows {s0 a1 : _} (hs0 : Follows z s0) : Follows z (State.clearHost s0 a1) := by
  unfold State.clearHost
  exact (State.mapMbx_follows (State.setBitAt_follows hs0))

theorem State.takeRingNotice_follows {s0 a1 : _} (hs0 : Follows z s0) : Follows z (State.takeRingNotice s0 a1) := by
  unfold State.takeRingNotice
  extract_lets -merge -useContext -underBinder y0 y1 y2 y3 y4
  clear_value y0
  have h60 : Follows z y1 := (State.clearHost_follows hs0)
  clear_value y1 y2
  have h61 : Follows z y3 := (State.setRing_follows h60)
  clear_value y3 y4
  exact (Follows.ite (State.setRing_follows h61) (State.raise_follows h61))

theorem execH2dNoticeTake_follows {a0 a1 s2 : _} (hs2 : Follows z s2) : ResFollows z (execH2dNoticeTake a0 a1 s2) := by
  unfold execH2dNoticeTake
  extract_lets -merge -useContext -underBinder y0
  have h60 : Follows z y0 := (State.tick_follows hs2)
  clear_value y0
  exact (ResFollows.ite (ResFollows.ite (ResFollows.ite (ResFollows.next (State.takeRingNotice_follows h60)) (ResFollows.next h60)) (ResFollows.ite (ResFollows.next (State.clearHost_follows h60)) (ResFollows.next h60))) (ResFollows.next h60))

theorem State.holdNotices_follows {s0 : _} (hs0 : Follows z s0) : Follows z (State.holdNotices s0) := by
  unfold State.holdNotices
  exact (Follows.ite hs0 (State.mapMbx_follows (State.setFlag_follows hs0)))

theorem State.releaseNotices_follows {s0 : _} (hs0 : Follows z s0) : Follows z (State.releaseNotices s0) := by
  unfold State.releaseNotices
  exact (Follows.ite (State.mapMbx_follows (State.setFlag_follows hs0)) hs0)

theorem execNoticeTimeout_follows {a0 a1 a2 s3 : _} (hs3 : Follows z s3) : ResFollows z (execNoticeTimeout a0 a1 a2 s3) := by
  unfold execNoticeTimeout
  extract_lets -merge -useContext -underBinder y0 y1 y2
  have h60 : Follows z y0 := (State.tick_follows hs3)
  clear_value y0 y1
  have h61 : Follows z y2 := (State.mapMbx_follows h60)
  clear_value y2
  exact (ResFollows.ite (ResFollows.ite (ResFollows.ite (ResFollows.next h61) (ResFollows.next (State.raise_follows (State.setBitAt_follows h61)))) (ResFollows.next h60)) (ResFollows.ite (ResFollows.next (State.setBitAt_follows (State.mapMbx_follows h60))) (ResFollows.next h60)))

theorem State.setRingSize_follows {s0 a1 a2 : _} (hs0 : Follows z s0) : Follows z (State.setRingSize s0 a1 a2) := by
  unfold State.setRingSize
  extract_lets -merge -useContext -underBinder y0 y1 y2
  clear_value y0 y1
  have h60 : Follows z y2 := (Follows.ite (State.wr_follows hs0) hs0)
  clear_value y2
  exact (Follows.ite (State.wr_follows h60) h60)

theorem State.ringEnable_follows {s0 a1 a2 : _} (hs0 : Follows z s0) : Follows z (State.ringEnable s0 a1 a2) := by
  unfold State.ringEnable
  extract_lets -merge -useContext -underBinder y0
  have h60 : Follows z y0 := (State.setBitAt_follows (State.setRing_follows (State.setRingSize_follows hs0)))
  clear_value y0
  exact (Follows.ite hs0 (State.raise_follows (State.wr_follows (State.wr_follows (State.wr_follows h60)))))

theorem State.handBack_follows {s0 a1 : _} (hs0 : Follows z s0) : Follows z (State.handBack s0 a1) := by
  unfold State.handBack
  extract_lets -merge -useContext -underBinder y0
  exact (Follows.ite (Follows.mtx hs0 rfl) hs0)

theorem State.writeRingOn_follows {s0 a1 a2 : _} (hs0 : Follows z s0) : Follows z (State.writeRingOn s0 a1 a2) := by
  unfold State.writeRingOn
  extract_lets -merge -useContext -underBinder y0
  have h60 : Follows z y0 := (State.ringEnable_follows hs0)
  clear_value y0
  exact (Follows.ite (State.handBack_follows (State.handBack_follows h60)) h60)

theorem execRingEnable_follows {a0 a1 a2 a3 s4 : _} (hs4 : Follows z s4) : ResFollows z (execRingEnable a0 a1 a2 a3 s4) := by
  unfold execRingEnable
  exact (ResFollows.ite (ResFollows.next (State.postedUr_follows (State.tick_follows hs4))) (ResFollows.next (State.writeRingOn_follows (State.tick_follows hs4))))

theorem State.ringDisable_follows {s0 a1 a2 : _} (hs0 : Follows z s0) : Follows z (State.ringDisable s0 a1 a2) := by
  unfold State.ringDisable
  extract_lets -merge -useContext -underBinder y0 y1 y2 y3 y4
  have h60 : Follows z y0 := (State.setFlag_follows (State.setFlag_follows hs0))
  clear_value y0
  have h61 : Follows z y1 := (State.mapMbx_follows h60)
  clear_value y1
  have h62 : Follows z y2 := (State.setBitAt_follows (State.clearHost_follows h61))
  clear_value y2
  have h63 : Follows z y3 := (State.setBitAt_follows (State.setBitAt_follows (State.setBitAt_follows h62)))
  clear_value y3 y4
  exact (Follows.ite (State.setRing_follows h63) (State.setRingSize_follows hs0))

theorem execRingDisable_follows {a0 a1 a2 a3 s4 : _} (hs4 : Follows z s4) : ResFollows z (execRingDisable a0 a1 a2 a3 s4) := by
  unfold execRingDisable
  exact (ResFollows.ite (ResFollows.next (State.postedUr_follows (State.tick_follows hs4))) (ResFollows.next (State.ringDisable_follows (State.tick_follows hs4))))

theorem execRplCiWrite_follows {a0 a1 a2 a3 s4 : _} (hs4 : Follows z s4) : ResFollows z (execRplCiWrite a0 a1 a2 a3 s4) := by
  unfold execRplCiWrite
  exact (ResFollows.ite (ResFollows.next (State.postedUr_follows (State.tick_follows hs4))) (ResFollows.next (State.unstall_follows (State.wr_follows (State.tick_follows hs4)))))

theorem State.fetchDesc_follows {s0 a1 a2 : _} (hs0 : Follows z s0) : ExcPFollows z (State.fetchDesc s0 a1 a2) := by
  unfold State.fetchDesc
  extract_lets -merge -useContext -underBinder y0
  clear_value y0
  exact (ExcPFollows.map (State.devRead_follows hs0) fun _ => rfl)

theorem State.intake_follows {s0 a1 a2 a3 : _} (hs0 : Follows z s0) : Follows z (State.intake s0 a1 a2 a3) := by
  unfold State.intake
  extract_lets -merge -useContext -underBinder y0
  clear_value y0
  split
  · exact (State.sendReply_follows hs0)
  · exact (Follows.ite (State.sendReply_follows hs0) (State.mapMbx_follows hs0))

theorem State.takeDesc_follows {s0 a1 a2 a3 a4 : _} (hs0 : Follows z s0) : Follows z (State.takeDesc s0 a1 a2 a3 a4) := by
  unfold State.takeDesc
  extract_lets -merge -useContext -underBinder y0 y1 y2 y3 y4
  clear_value y0
  have h60 : Follows z y1 := (State.count_follows (State.bump_follows hs0))
  clear_value y1
  have h61 : Follows z y2 := (Follows.ite (State.sendReply_follows h60) (State.intake_follows h60))
  clear_value y2 y3 y4
  exact (Follows.ite (Follows.ite h61 (State.setRing_follows h61)) (State.setRing_follows (State.raise_follows hs0)))

theorem State.takeFromRing_follows {s0 a1 a2 a3 a4 : _} (hs0 : Follows z s0) : Follows z (State.takeFromRing s0 a1 a2 a3 a4) := by
  unfold State.takeFromRing
  split
  · rename_i x2 x3
    have h0 : Follows z x2 := ExcPFollows.of_error x3 (State.fetchDesc_follows hs0)
    extract_lets -merge -useContext -underBinder y4
    clear_value y4
    exact (State.setRing_follows (State.raise_follows h0))
  · rename_i x65 _ x67
    have h0 : Follows z x65 := ExcPFollows.of_ok x67 (State.fetchDesc_follows hs0)
    exact (State.takeDesc_follows h0)

theorem execDescriptorTake_follows {a0 a1 a2 a3 s4 : _} (hs4 : Follows z s4) : ResFollows z (execDescriptorTake a0 a1 a2 a3 s4) := by
  unfold execDescriptorTake
  extract_lets -merge -useContext -underBinder y0
  have h60 : Follows z y0 := (State.tick_follows hs4)
  clear_value y0
  refine ResFollows.ite ?_ ?_
  · split
    · split
      · exact (ResFollows.next h60)
      · exact (ResFollows.next (State.intake_follows (State.mapMbx_follows (State.count_follows h60))))
    · exact (ResFollows.next (State.takeFromRing_follows (State.mapMbx_follows h60)))
  · exact (ResFollows.next h60)

theorem execSpiStatus_follows {a0 s1 : _} (hs1 : Follows z s1) : ResFollows z (execSpiStatus a0 s1) := by
  unfold execSpiStatus
  extract_lets -merge -useContext -underBinder y0 y1 y2
  have h60 : Follows z y0 := (State.tick_follows hs1)
  clear_value y0 y1
  have h61 : Follows z y2 := (State.answer_follows h60)
  clear_value y2
  exact (ResFollows.next (State.mapMbx_follows h61))

theorem execCmdWrite_follows {a0 a1 s2 : _} (hs2 : Follows z s2) : ResFollows z (execCmdWrite a0 a1 s2) := by
  unfold execCmdWrite
  extract_lets -merge -useContext -underBinder y0
  have h60 : Follows z y0 := (State.tick_follows hs2)
  clear_value y0
  exact (ResFollows.ite (ResFollows.next (State.mapMbx_follows h60)) (ResFollows.next (State.mapMbx_follows h60)))

theorem execRplRead_follows {a0 s1 : _} (hs1 : Follows z s1) : ResFollows z (execRplRead a0 s1) := by
  unfold execRplRead
  extract_lets -merge -useContext -underBinder y0
  have h60 : Follows z y0 := (State.tick_follows hs1)
  clear_value y0
  split
  · exact (ResFollows.next (State.answer_follows h60))
  · exact (ResFollows.next (State.mapMbx_follows (State.answer_follows h60)))

theorem State.noteRaised_follows {s0 : _} (hs0 : Follows z s0) : Follows z (State.noteRaised s0) := by
  unfold State.noteRaised
  extract_lets -merge -useContext -underBinder y0
  clear_value y0
  exact (State.mapMbx_follows hs0)

theorem State.eventSummary_follows {s0 a1 : _} (hs0 : Follows z s0) : Follows z (State.eventSummary s0 a1) := by
  unfold State.eventSummary
  extract_lets -merge -useContext -underBinder y0 y1 y2 y3 y4
  have h60 : Follows z y0 := (State.noteRaised_follows hs0)
  clear_value y0 y1
  have h61 : Follows z y2 := (State.mapMbx_follows h60)
  clear_value y2 y3 y4
  refine Follows.ite ?_ ?_
  · split
    · rename_i x64 x65
      have h62 : Follows z x64 := ExcFollows.of_error x65 (State.devWrite_follows h61)
      exact h62
    · rename_i x67 x68
      have h62 : Follows z x67 := ExcFollows.of_ok x68 (State.devWrite_follows h61)
      exact (State.postNotice_follows (State.mapMbx_follows h62))
  · exact h61

theorem State.writeD2hMask_follows {s0 a1 : _} (hs0 : Follows z s0) : Follows z (State.writeD2hMask s0 a1) := by
  unfold State.writeD2hMask
  extract_lets -merge -useContext -underBinder y0 y1
  clear_value y0
  have h60 : Follows z y1 := (State.setReg_follows hs0)
  clear_value y1
  exact (Follows.foldl (fun _ _ h61 => (Follows.ite (State.notifyHost_follows h61) h61)) h60 _)

theorem State.mbxHostReset_follows {s0 : _} (hs0 : Follows z s0) : Follows z (State.mbxHostReset s0) := by
  unfold State.mbxHostReset
  extract_lets -merge -useContext -underBinder y0 y1 y2 y3 y4 y5
  have h60 : Follows z y0 := (State.bump_follows hs0)
  clear_value y0
  have h61 : Follows z y1 := (State.wr_follows (State.wr_follows (State.wr_follows (State.wr_follows (State.wr_follows h60)))))
  clear_value y1
  have h62 : Follows z y2 := (State.setFlag_follows (State.setFlag_follows (State.setFlag_follows h61)))
  clear_value y2
  have h63 : Follows z y3 := (State.setFlag_follows (State.setFlag_follows h62))
  clear_value y3
  have h64 : Follows z y4 := (State.wr_follows h63)
  clear_value y4 y5
  exact (State.mapMbx_follows h64)

theorem State.setFwRun_follows {s0 a1 : _} (hs0 : Follows z s0) : Follows z (State.setFwRun s0 a1) := by
  unfold State.setFwRun
  exact (Follows.ite hs0 (State.raise_follows (State.setFlag_follows hs0)))

theorem State.staleRing_follows {s0 a1 : _} (hs0 : Follows z s0) : Follows z (State.staleRing s0 a1) := by
  unfold State.staleRing
  extract_lets -merge -useContext -underBinder y0 y1 y2 y3
  clear_value y0 y1
  have h60 : Follows z y2 := (State.wr_follows hs0)
  clear_value y2 y3
  exact (Follows.ite (State.setRing_follows (State.setBitAt_follows h60)) h60)

theorem State.mbxFirmwareReset_follows {s0 : _} (hs0 : Follows z s0) : Follows z (State.mbxFirmwareReset s0) := by
  unfold State.mbxFirmwareReset
  extract_lets -merge -useContext -underBinder y0 y1 y2
  have h60 : Follows z y0 := (State.wr_follows hs0)
  clear_value y0
  have h61 : Follows z y1 := (State.releaseNotices_follows (State.staleRing_follows (State.staleRing_follows h60)))
  clear_value y1
  have h62 : Follows z y2 := (State.wr_follows (State.setFwRun_follows h61))
  clear_value y2
  exact (State.mapMbx_follows h62)

theorem State.oweReplies_follows {a0 a1 s2 : _} (hs2 : Follows z s2) : Follows z (State.oweReplies a0 a1 s2) := by
  induction a1 generalizing s2 with
  | zero => exact hs2
  | succ n ih =>
    unfold State.oweReplies
    split
    · exact hs2
    · split
      · exact hs2
      · split
        · exact ih (State.finish_follows hs2)
        · exact ih (State.finish_follows hs2)

theorem State.discardStale_follows {a0 a1 a2 s3 : _} (hs3 : Follows z s3) : Follows z (State.discardStale a0 a1 a2 s3) := by
  induction a2 generalizing s3 with
  | nil => exact hs3
  | cons d ds ih =>
    unfold State.discardStale
    exact Follows.ite (ih (State.takeFromRing_follows hs3)) hs3

theorem State.restartRing_follows {s0 a1 a2 a3 : _} (hs0 : Follows z s0) : Follows z (State.restartRing s0 a1 a2 a3) := by
  unfold State.restartRing
  extract_lets -merge -useContext -underBinder y0 y1 y2 y3
  clear_value y0 y1
  have h60 : Follows z y2 := (Follows.ite (State.takeRingNotice_follows hs0) hs0)
  clear_value y2
  have h61 : Follows z y3 := (Follows.ite h60 (State.setBitAt_follows h60))
  clear_value y3
  exact (Follows.ite (State.discardStale_follows h61) hs0)

theorem State.dropStale_follows {s0 a1 : _} (hs0 : Follows z s0) : Follows z (State.dropStale s0 a1) := by
  unfold State.dropStale
  exact (Follows.ite (State.inc_follows (State.setBitAt_follows (State.clearHost_follows hs0))) hs0)

theorem execFirmwareRestart_follows {a0 a1 a2 a3 s4 : _} (hs4 : Follows z s4) : ResFollows z (execFirmwareRestart a0 a1 a2 a3 s4) := by
  unfold execFirmwareRestart
  extract_lets -merge -useContext -underBinder y0 y1 y2 y3
  have h60 : Follows z y0 := (State.tick_follows hs4)
  clear_value y0
  have h61 : Follows z y1 := (State.wr_follows (State.bump_follows (State.setFwRun_follows h60)))
  clear_value y1
  have h62 : Follows z y2 := (State.oweReplies_follows h61)
  clear_value y2
  have h63 : Follows z y3 := (Follows.foldl (fun _ _ h64 => (State.dropStale_follows h64)) h62 _)
  clear_value y3
  exact (ResFollows.ite (ResFollows.next h60) (ResFollows.next (State.restartRing_follows (State.restartRing_follows h63))))

theorem State.mapChan_follows {s0 a1 a2 : _} (hs0 : Follows z s0) : Follows z (State.mapChan s0 a1 a2) := by
  unfold State.mapChan
  exact (State.mapMdc_follows hs0)

theorem State.addRoute_follows {s0 a1 : _} (hs0 : Follows z s0) : OptFollows z (State.addRoute s0 a1) := by
  unfold State.addRoute
  extract_lets -merge -useContext -underBinder y0 y1 y2 y3 y4
  clear_value y0 y1 y2
  have h60 : Follows z y3 := (State.mapMdc_follows hs0)
  clear_value y3 y4
  exact (OptFollows.ite OptFollows.none (OptFollows.ite (OptFollows.some h60) (OptFollows.some (State.mapMdc_follows (State.wr_follows (State.wr_follows h60))))))

theorem execMdcRoute_follows {a0 s1 : _} (hs1 : Follows z s1) : ResFollows z (execMdcRoute a0 s1) := by
  unfold execMdcRoute
  refine ResFollows.next ?_
  refine State.run_follows hs1 ?_
  · intro x3 x5 h4
    split
    · exact AnsFollows.refuse
    · rename_i x10 x11
      have h6 : Follows z x10 := OptFollows.of_some x11 (State.addRoute_follows h4)
      exact (AnsFollows.ok h6)

theorem execMdcStatus_follows {a0 s1 : _} (hs1 : Follows z s1) : ResFollows z (execMdcStatus a0 s1) := by
  unfold execMdcStatus
  refine ResFollows.next ?_
  refine State.run_follows hs1 ?_
  · intro x3 x5 h4
    extract_lets -merge -useContext -underBinder y6 y7
    clear_value y6 y7
    exact (AnsFollows.ok h4)

theorem execMdcRdWrite_follows {a0 a1 a2 a3 s4 : _} (hs4 : Follows z s4) : ResFollows z (execMdcRdWrite a0 a1 a2 a3 s4) := by
  unfold execMdcRdWrite
  exact (ResFollows.ite (ResFollows.next (State.postedUr_follows (State.tick_follows hs4))) (ResFollows.next (State.setReg_follows (State.tick_follows hs4))))

theorem execMdcWrWrite_follows {a0 a1 a2 a3 s4 : _} (hs4 : Follows z s4) : ResFollows z (execMdcWrWrite a0 a1 a2 a3 s4) := by
  unfold execMdcWrWrite
  exact (ResFollows.ite (ResFollows.next (State.postedUr_follows (State.tick_follows hs4))) (ResFollows.next (State.setReg_follows (State.tick_follows hs4))))

theorem State.devPut_follows {s0 a1 a2 : _} (hs0 : Follows z s0) : Follows z (State.devPut s0 a1 a2) := by
  unfold State.devPut
  split
  · rename_i x2 x3
    have h0 : Follows z x2 := ExcFollows.of_ok x3 (State.devWrite_follows hs0)
    exact h0
  · rename_i x5 x6
    have h0 : Follows z x5 := ExcFollows.of_error x6 (State.devWrite_follows hs0)
    exact h0

theorem State.ringPut_follows {s0 a1 a2 a3 a4 : _} (hs0 : Follows z s0) : Follows z (State.ringPut s0 a1 a2 a3 a4) := by
  unfold State.ringPut
  extract_lets -merge -useContext -underBinder y0 y1 y2
  clear_value y0 y1
  have h60 : Follows z y2 := (State.devPut_follows hs0)
  clear_value y2
  exact (Follows.ite h60 (State.devPut_follows h60))

theorem State.ringTake_follows {s0 a1 a2 a3 a4 a5 : _} (hs0 : Follows z s0) : Follows z (State.ringTake s0 a1 a2 a3 a4 a5).1 := by
  unfold State.ringTake
  extract_lets -merge -useContext -underBinder y0 y1
  clear_value y0 y1
  refine Follows.ite_fst ?_ ?_
  · split
    · rename_i x62 x63
      have h60 : Follows z x62 := ExcPFollows.of_error x63 (State.devRead_follows hs0)
      exact (Follows.fst_mk h60)
    · rename_i x65 _ x67
      have h60 : Follows z x65 := ExcPFollows.of_ok x67 (State.devRead_follows hs0)
      refine Follows.ite_fst ?_ ?_
      · exact (Follows.fst_mk h60)
      · split
        · rename_i x70 x71
          have h68 : Follows z x70 := ExcPFollows.of_error x71 (State.devRead_follows h60)
          exact (Follows.fst_mk h68)
        · rename_i x73 _ x75
          have h68 : Follows z x73 := ExcPFollows.of_ok x75 (State.devRead_follows h60)
          exact (Follows.fst_mk h68)
  · exact (Follows.fst_mk hs0)

theorem State.pointerPage_follows {s0 a1 : _} (hs0 : Follows z s0) : Follows z (State.pointerPage s0 a1) := by
  unfold State.pointerPage
  extract_lets -merge -useContext -underBinder y0 y1
  clear_value y0 y1
  exact (State.devPut_follows hs0)

theorem State.extract_follows {a0 s1 a2 : _} (hs1 : Follows z s1) : Follows z (State.extract a0 s1 a2) := by
  unfold State.extract
  extract_lets -merge -useContext -underBinder y0 y1
  clear_value y1
  split
  · exact hs1
  · extract_lets -merge -useContext -underBinder y64 y65 y66
    clear_value y64 y65 y66
    exact (Follows.ite (Follows.ite (State.pointerPage_follows (State.mapChan_follows (State.ringPut_follows hs1))) (State.pointerPage_follows (State.raise_follows (State.mapChan_follows hs1)))) (State.mapChan_follows hs1))

theorem State.shortFrame_follows {s0 a1 : _} (hs0 : Follows z s0) : Follows z (State.shortFrame s0 a1) := by
  unfold State.shortFrame
  exact (State.raise_follows (State.mapChan_follows hs0))

theorem State.insertHost_follows {a0 s1 a2 : _} (hs1 : Follows z s1) : Follows z (State.insertHost a0 s1 a2) := by
  unfold State.insertHost
  extract_lets -merge -useContext -underBinder y0 y1 y2 y3 y4 y5 y6 y7
  clear_value y1 y2 y3
  have h60 : Follows z y4.1 := (State.ringTake_follows hs1)
  clear_value y4 y5
  have h61 : Follows z y6 := (State.mapMdc_follows h60)
  clear_value y6
  have h62 : Follows z y7 := (Follows.ite h61 (State.pointerPage_follows (State.mapChan_follows h61)))
  clear_value y7
  exact (Follows.ite (Follows.ite (State.shortFrame_follows h62) h62) hs1)

theorem State.mdcMark_follows {s0 a1 : _} (hs0 : Follows z s0) : Follows z (State.mdcMark s0 a1) := by
  unfold State.mdcMark
  extract_lets -merge -useContext -underBinder y0 y1 y2 y3 y4 y5 y6
  clear_value y0
  have h60 : Follows z y1 := (Follows.foldl (fun _ _ h61 => (State.extract_follows h61)) hs0 _)
  clear_value y1 y2 y3 y4
  have h62 : Follows z y5 := (Follows.foldl (fun _ _ h63 => (Follows.ite (State.mapChan_follows h63) h63)) h60 _)
  clear_value y5
  have h64 : Follows z y6 := (State.mapMdc_follows h62)
  clear_value y6
  exact (Follows.foldl (fun _ _ h65 => (State.insertHost_follows h65)) h64 _)

theorem State.putSlots_follows {s0 a1 a2 : _} (hs0 : Follows z s0) : Follows z (State.putSlots s0 a1 a2) := by
  induction a1 generalizing s0 a2 with
  | nil => exact hs0
  | cons x xs ih =>
    unfold State.putSlots
    extract_lets -merge -useContext -underBinder y0 y1 y2 y3
    have h2 : Follows z y2 := State.mapMdc_follows hs0
    clear_value y2
    have h3 : Follows z y3 := Follows.ite (State.shortFrame_follows h2) h2
    clear_value y3
    exact ih h3

theorem execMdcDiFrame_follows {a0 a1 a2 s3 : _} (hs3 : Follows z s3) : ResFollows z (execMdcDiFrame a0 a1 a2 s3) := by
  unfold execMdcDiFrame
  extract_lets -merge -useContext -underBinder y0 y1 y2
  have h60 : Follows z y0 := (State.tick_follows hs3)
  clear_value y0 y1 y2
  exact (ResFollows.ite (ResFollows.ite (ResFollows.next (State.putSlots_follows h60)) (ResFollows.next (Follows.foldl (fun _ _ h61 => (State.shortFrame_follows h61)) (State.raise_follows h60) _))) (ResFollows.next h60))

theorem State.mramWrite_follows {s0 a1 a2 : _} (hs0 : Follows z s0) : Follows z (State.mramWrite s0 a1 a2) :=
  hs0.mram fun c => by
    have h := Store.wf_putAll c.mram a1 a2
    exact h

theorem State.eraseSlot_follows {s0 a1 : _} (hs0 : Follows z s0) : Follows z (State.eraseSlot s0 a1) := by
  refine hs0.mram fun c => ?_
  dsimp only
  split
  all_goals
    refine Store.wf_congr (Store.wf_filter c.mram _) fun e he => ?_
    have hk := (List.mem_filter.1 he).2
    simp only [Bool.or_eq_true, decide_eq_true_eq] at hk
    simp only [BootSt.mramDef, imgBase] at hk ⊢
    split_ifs at hk ⊢ <;> first | rfl | omega

theorem State.showRec_follows {s0 : _} (hs0 : Follows z s0) : Follows z (State.showRec s0) := by
  unfold State.showRec
  extract_lets -merge -useContext -underBinder y0 y1 y2 y3 y4
  clear_value y0 y1
  have h60 : Follows z y2 := (State.wr_follows (State.wr_follows (State.wr_follows hs0)))
  clear_value y2
  have h61 : Follows z y3 := (State.wr_follows (State.wr_follows (State.wr_follows h60)))
  clear_value y3
  have h62 : Follows z y4 := (State.wr_follows (State.setFlag_follows h61))
  clear_value y4
  exact (Follows.foldl (fun _ _ h63 => (Follows.ite (State.wr_follows h63) (State.wr_follows h63))) h62 _)

theorem State.writeRec_follows {s0 a1 : _} (hs0 : Follows z s0) : Follows z (State.writeRec s0 a1) := by
  unfold State.writeRec
  extract_lets -merge -useContext -underBinder y0 y1
  clear_value y0 y1
  exact (State.showRec_follows (State.mramWrite_follows hs0))

theorem State.logStep_follows {s0 a1 a2 : _} (hs0 : Follows z s0) : Follows z (State.logStep s0 a1 a2) := by
  unfold State.logStep
  extract_lets -merge -useContext -underBinder y0
  clear_value y0
  exact (State.mapBoot_follows (State.mramWrite_follows hs0) rfl rfl rfl)

theorem State.loadImage_follows {s0 a1 a2 : _} (hs0 : Follows z s0) : Follows z (State.loadImage s0 a1 a2) := by
  unfold State.loadImage
  extract_lets -merge -useContext -underBinder y0
  have h0 : Follows z y0 := State.scrWrite_follows hs0
  clear_value y0
  refine State.mapBoot_follows h0 ?_ ?_ ?_ <;> split <;> rfl

theorem State.clearHeader_follows {s0 a1 : _} (hs0 : Follows z s0) : Follows z (State.clearHeader s0 a1) := by
  unfold State.clearHeader
  exact (State.mramWrite_follows hs0)

theorem State.unpin_follows {s0 : _} (hs0 : Follows z s0) : Follows z (State.unpin s0) := by
  unfold State.unpin
  extract_lets -merge -useContext -underBinder y0 y1 y2
  clear_value y0 y1
  have h60 : Follows z y2 := (Follows.foldl (fun _ _ h61 => (State.clearHeader_follows h61)) hs0 _)
  clear_value y2
  exact (Follows.ite (State.writeRec_follows h60) hs0)

theorem State.inForce_follows {s0 a1 : _} (hs0 : Follows z s0) : Follows z (State.inForce s0 a1) := by
  unfold State.inForce
  split
  · extract_lets -merge -useContext -underBinder y2
    clear_value y2
    exact (State.wr_follows (State.setFlag_follows (State.wr_follows (State.wr_follows hs0))))
  · exact (State.wr_follows (State.raise_follows (State.wr_follows (State.wr_follows hs0))))

theorem Res.after_follows {a0 s1 : _} (ha0 : ResFollows z a0) (hs1 : Follows z s1) : Follows z (Res.after a0 s1) := by
  unfold Res.after
  have h0 := ha0
  revert h0
  split
  · intro h0
    exact h0
  · intro h0
    exact hs1

theorem State.clearD2hTmo_follows {s0 a1 a2 : _} (hs0 : Follows z s0) : Follows z (State.clearD2hTmo s0 a1 a2) := by
  unfold State.clearD2hTmo
  exact (Follows.ite (State.setReg_follows hs0) hs0)

theorem State.pairWrite_follows {s0 a1 a2 a3 a4 : _} (hs0 : Follows z s0) : Follows z (State.pairWrite s0 a1 a2 a3 a4) := by
  unfold State.pairWrite
  extract_lets -merge -useContext -underBinder y0
  have h60 : Follows z y0 := (State.stage_follows hs0)
  clear_value y0
  exact (Follows.ite h60 (State.applyStaged_follows h60))

theorem State.writeHerd_follows {s0 a1 : _} (hs0 : Follows z s0) : Follows z (State.writeHerd s0 a1) := by
  unfold State.writeHerd
  extract_lets -merge -useContext -underBinder y0
  clear_value y0
  exact (Follows.ite (State.mirrorSettings_follows (State.plainWrite_follows hs0)) hs0)

theorem State.writeTti_follows {s0 a1 a2 a3 a4 : _} (hs0 : Follows z s0) : Follows z (State.writeTti s0 a1 a2 a3 a4) := by
  unfold State.writeTti
  extract_lets -merge -useContext -underBinder y0 y1 y2 y3
  clear_value y0
  have h60 : Follows z y1 := (State.clearTti_follows (State.plainWrite_follows hs0))
  clear_value y1
  have h61 : Follows z y2 := (Follows.foldl (fun _ _ h62 => (State.clearTti_follows h62)) h60 _)
  clear_value y2
  have h63 : (∀ a0 a1, Follows z a0 → Follows z (y3 a0 a1)) := by
    unfold y3
    intro x65 x67 h66
    split
    · exact (State.refreshTim_follows h66)
    · exact h66
  clear_value y3
  exact (h63 _ _ (h63 _ _ h61))

theorem State.writePrt_follows {s0 a1 a2 a3 : _} (hs0 : Follows z s0) : Follows z (State.writePrt s0 a1 a2 a3) := by
  unfold State.writePrt
  extract_lets -merge -useContext -underBinder y0 y1
  clear_value y0 y1
  exact (Follows.ite (Follows.ite (State.plainWrite_follows hs0) hs0) (Follows.ite (State.writeTti_follows hs0) (Follows.ite (State.writeTti_follows hs0) (Follows.ite (State.setReg_follows hs0) (State.plainWrite_follows hs0)))))

theorem State.writeMdcCtrl_follows {s0 a1 : _} (hs0 : Follows z s0) : Follows z (State.writeMdcCtrl s0 a1) := by
  unfold State.writeMdcCtrl
  extract_lets -merge -useContext -underBinder y0 y1 y2
  clear_value y0 y1 y2
  exact (State.plainWrite_follows hs0)

theorem State.writeMbx_follows {s0 a1 a2 a3 : _} (hs0 : Follows z s0) : Follows z (State.writeMbx s0 a1 a2 a3) := by
  unfold State.writeMbx
  extract_lets -merge -useContext -underBinder y0 y1 y2
  clear_value y0 y1 y2
  exact (Follows.ite hs0 (Follows.ite (Follows.foldl (fun _ _ h60 => (Follows.ite (State.postHost_follows h60) h60)) hs0 _) (Follows.ite (Follows.foldl (fun _ _ h61 => (Follows.ite (State.takeD2h_follows h61) h61)) hs0 _) (Follows.ite (State.writeD2hMask_follows hs0) (Follows.ite (State.clearD2hTmo_follows hs0) (Follows.ite (Follows.ite (State.plainWrite_follows hs0) hs0) (Follows.ite (State.pairWrite_follows hs0) (Follows.ite (State.pairWrite_follows hs0) (Follows.ite (State.pairWrite_follows hs0) (Follows.ite (State.pairWrite_follows hs0) (Follows.ite (Follows.ite (State.writeRingOn_follows hs0) (State.ringDisable_follows hs0)) (Follows.ite (State.unstall_follows (State.wr_follows hs0)) (Follows.ite (State.pairWrite_follows hs0) (Follows.ite (State.noticeWrite_follows hs0) (State.plainWrite_follows hs0)))))))))))))))

theorem State.regStore_follows {s0 a1 a2 a3 : _} (hs0 : Follows z s0) : Follows z (State.regStore s0 a1 a2 a3) := by
  unfold State.regStore
  extract_lets -merge -useContext -underBinder y0 y1
  clear_value y0
  have h60 : Follows z y1 := (State.writeConstHold_follows hs0)
  clear_value y1
  exact (Follows.ite (Follows.ite hs0 (State.plainWrite_follows hs0)) (Follows.ite (State.writeMbx_follows hs0) (Follows.ite (State.plainWrite_follows hs0) (Follows.ite (Res.after_follows (execMtxRotWrite_follows hs0) hs0) (Follows.ite (Res.after_follows (execScrOwnWrite_follows hs0) hs0) (Follows.ite (State.plainWrite_follows hs0) (Follows.ite (State.writeHerd_follows hs0) (Follows.ite (State.plainWrite_follows hs0) (Follows.ite (Follows.ite (State.plainWrite_follows hs0) hs0) (Follows.ite (Follows.ite (State.wr_follows hs0) hs0) (Follows.ite (Follows.ite (State.mapCore_follows h60) h60) (Follows.ite (State.writeGenConst_follows hs0) (Follows.ite (State.writeLineGrp_follows hs0) (Follows.ite (State.writeApsTx_follows hs0) (Follows.ite (Res.after_follows (execSemAcqWrite_follows hs0) hs0) (Follows.ite (State.writePrt_follows hs0) (Follows.ite (State.writeMdcCtrl_follows hs0) (Follows.ite (State.pairWrite_follows hs0) (State.plainWrite_follows hs0)))))))))))))))))))

theorem State.regWrite_follows {s0 a1 a2 a3 : _} (hs0 : Follows z s0) : Follows z (State.regWrite s0 a1 a2 a3) := by
  unfold State.regWrite
  exact (Follows.ite (State.noteRaised_follows (State.regStore_follows (State.noteRaised_follows hs0))) (State.regStore_follows hs0))

theorem State.winByte_follows {s0 a1 a2 : _} (hs0 : Follows z s0) : Follows z (State.winByte s0 a1 a2) := by
  unfold State.winByte
  extract_lets -merge -useContext -underBinder y0
  clear_value y0
  exact (Follows.ite (State.setPage_follows hs0 (fun c => (wf_putEntry (Canonical.page (Follows.canon hs0 c) _)))) (Follows.ite (State.setSel_follows hs0) (Follows.ite (State.setMon_follows hs0) hs0)))

theorem State.winWrite_follows {s0 a1 a2 : _} (hs0 : Follows z s0) : Follows z (State.winWrite s0 a1 a2) := by
  induction a2 generalizing s0 a1 with
  | nil => exact hs0
  | cons b bs ih =>
    cases b with
    | none => exact ih hs0
    | some b => exact ih (State.winByte_follows hs0)

theorem State.writeBurst_follows {s0 a1 a2 a3 : _} (hs0 : Follows z s0) : ExnFollows z (State.writeBurst s0 a1 a2 a3) := by
  unfold State.writeBurst
  split
  · exact ExnFollows.error
  · refine ExnFollows.ok ?_
    split
    · exact (State.scrPatch_follows hs0)
    · exact (State.scrPatch_follows hs0)
    · exact (Follows.ite (State.winWrite_follows hs0) (State.regWrite_follows hs0))

theorem State.busWrite_follows {s0 a1 a2 a3 : _} (hs0 : Follows z s0) : Follows z (State.busWrite s0 a1 a2 a3) := by
  unfold State.busWrite
  refine Follows.foldl ?_ ?_ _
  · intro x1 x3 h2
    split
    · rename_i x6 x7
      have h4 : Follows z x6 := ExnFollows.of_ok x7 (State.writeBurst_follows h2)
      exact h4
    · exact (State.busError_follows h2)
  · exact hs0

theorem State.bar2Write_follows {s0 a1 a2 : _} (hs0 : Follows z s0) : Follows z (State.bar2Write s0 a1 a2) := by
  unfold State.bar2Write
  exact (Follows.ite (Follows.ite (State.mapWindow_follows hs0) (State.dropMapWindow_follows hs0)) (Follows.ite (State.dropWindow_follows hs0) (State.postedUr_follows hs0)))

theorem execRegisterWrite_follows {a0 a1 a2 a3 s4 : _} (hs4 : Follows z s4) : ResFollows z (execRegisterWrite a0 a1 a2 a3 s4) := by
  unfold execRegisterWrite
  extract_lets -merge -useContext -underBinder y0
  have h60 : Follows z y0 := (State.tick_follows hs4)
  clear_value y0
  split
  · exact (ResFollows.ite (ResFollows.next (State.postedUr_follows h60)) (ResFollows.next (State.busWrite_follows h60)))
  · split
    · exact (ResFollows.next (State.postedUr_follows h60))
    · exact (ResFollows.next (State.busWrite_follows h60))
  · exact (ResFollows.ite (ResFollows.next (State.postedUr_follows h60)) (ResFollows.next (State.bar2Write_follows h60)))
  · exact (ResFollows.next (State.postedUr_follows h60))

theorem State.timeRegs_follows {s0 : _} (hs0 : Follows z s0) : Follows z (State.timeRegs s0) := by
  unfold State.timeRegs
  extract_lets -merge -useContext -underBinder y0
  clear_value y0
  exact (State.wr_follows (State.refreshPair_follows hs0))

theorem State.freeBytes_follows {s0 a1 : _} (hs0 : Follows z s0) : Follows z (State.freeBytes s0 a1).1 := by
  unfold State.freeBytes
  exact (Follows.fst_mk (Follows.fresh _ hs0))

theorem State.winRead_follows {s0 a1 a2 : _} (hs0 : Follows z s0) : Follows z (State.winRead s0 a1 a2).1 := by
  unfold State.winRead
  extract_lets -merge -useContext -underBinder y0
  clear_value y0
  exact (Follows.ite_fst (Follows.fst_mk hs0) (Follows.ite_fst (Follows.fst_mk hs0) (Follows.ite_fst (Follows.fst_mk hs0) (State.freeBytes_follows hs0))))

theorem State.regRead_follows {s0 a1 a2 : _} (hs0 : Follows z s0) : Follows z (State.regRead s0 a1 a2).1 := by
  unfold State.regRead
  extract_lets -merge -useContext -underBinder y0 y1 y2
  have h60 : Follows z y0.1 := (State.semRead_follows hs0)
  clear_value y0
  have h61 : Follows z y1 := (State.timeRegs_follows hs0)
  clear_value y1 y2
  exact (Follows.ite_fst (Follows.fst_mk h60) (Follows.ite_fst (State.freeBytes_follows hs0) (Follows.fst_mk (State.readClear_follows h61))))

theorem State.readBurst_follows {s0 a1 a2 a3 : _} (hs0 : Follows z s0) : ExnPFollows z (State.readBurst s0 a1 a2 a3) := by
  unfold State.readBurst
  split
  · exact ExnPFollows.error
  · extract_lets -merge -useContext -underBinder y5
    clear_value y5
    split
    · exact (ExnPFollows.ite (ExnPFollows.ok (State.freeBytes_follows hs0)) (ExnPFollows.ite ExnPFollows.error (ExnPFollows.ok (Follows.fst_mk (State.corrected_follows hs0)))))
    · exact (ExnPFollows.ite (ExnPFollows.ok (Follows.fst_mk hs0)) (ExnPFollows.ite (ExnPFollows.ok (State.winRead_follows hs0)) (ExnPFollows.ok (State.regRead_follows hs0))))

theorem State.busRead_follows {s0 a1 a2 a3 : _} (hs0 : Follows z s0) : Follows z (State.busRead s0 a1 a2 a3).1 := by
  unfold State.busRead
  refine Follows.foldl_fst ?_ ?_ _
  · intro x1 x3 h2
    split
    · exact h2
    · split
      · rename_i x11 x12
        have h9 : Follows z x11.1 := ExnPFollows.of_ok x12 (State.readBurst_follows h2)
        exact (Follows.fst_mk h9)
      · exact (Follows.fst_mk (State.busError_follows h2))
  · exact (Follows.fst_mk hs0)

theorem State.answerBus_follows {a0 : _} (ha0 : Follows z a0.1) : Follows z (State.answerBus a0) := by
  unfold State.answerBus
  split
  · exact (State.answer_follows ha0)
  · exact ha0

theorem State.answerHost_follows {s0 a1 : _} (hs0 : Follows z s0) : Follows z (State.answerHost s0 a1) := by
  unfold State.answerHost
  split
  · exact (State.answer_follows hs0)
  · exact (State.tellMaster_follows hs0)

theorem execReadClear_follows {a0 a1 a2 s3 : _} (hs3 : Follows z s3) : ResFollows z (execReadClear a0 a1 a2 s3) := by
  unfold execReadClear
  extract_lets -merge -useContext -underBinder y0 y1
  have h60 : Follows z y0 := (State.tick_follows hs3)
  clear_value y0 y1
  split
  · exact (ResFollows.ite (ResFollows.next (State.tellMaster_follows h60)) (ResFollows.next (State.answerBus_follows (State.busRead_follows h60))))
  · split
    · exact (ResFollows.next (State.tellMaster_follows h60))
    · exact (ResFollows.next (State.answerBus_follows (State.busRead_follows h60)))
  · exact (ResFollows.next (State.answerHost_follows h60))
  · exact (ResFollows.next (State.answerHost_follows h60))

theorem State.spiBurst_follows {s0 a1 : _} (hs0 : Follows z s0) : Follows z (State.spiBurst s0 a1) := by
  unfold State.spiBurst
  split
  · rename_i x2 x3
    have h0 : Follows z x2 := ExnFollows.of_ok x3 (ExnFollows.ite (State.writeBurst_follows hs0) ExnFollows.error)
    exact h0
  · exact (State.logError_follows hs0)

theorem execMemWrite_follows {a0 a1 a2 s3 : _} (hs3 : Follows z s3) : ResFollows z (execMemWrite a0 a1 a2 s3) := by
  unfold execMemWrite
  exact (ResFollows.next (Follows.foldl (fun _ _ h0 => (State.spiBurst_follows h0)) (State.tick_follows hs3) _))

theorem State.spiPiece_follows {a0 a1 : _} (ha0 : Follows z a0.1) : Follows z (State.spiPiece a0 a1).1 := by
  unfold State.spiPiece
  split
  · rename_i x2 x3
    have h0 : Follows z x2.1 := ExnPFollows.of_ok x3 (State.readBurst_follows ha0)
    exact (Follows.fst_mk h0)
  · extract_lets -merge -useContext -underBinder y7
    have h67 : Follows z y7.1 := (State.freeBytes_follows (State.logError_follows ha0))
    clear_value y7
    exact (Follows.fst_mk h67)

theorem execMemRead_follows {a0 a1 a2 a3 a4 s5 : _} (hs5 : Follows z s5) : ResFollows z (execMemRead a0 a1 a2 a3 a4 s5) := by
  unfold execMemRead
  extract_lets -merge -useContext -underBinder y0
  have h60 : Follows z y0.1 := (Follows.foldl_fst (fun _ _ h61 => (State.spiPiece_follows h61)) (Follows.fst_mk (State.upsetWords_follows (State.tick_follows hs5))) _)
  clear_value y0
  exact (ResFollows.next (State.answer_follows h60))

theorem execHostReset_follows {a0 a1 a2 a3 s4 : _} (hs4 : Follows z s4) : ResFollows z (execHostReset a0 a1 a2 a3 s4) := by
  unfold execHostReset
  extract_lets -merge -useContext -underBinder y0 y1
  have h60 : Follows z y0 := (State.stopDumps_follows (State.resetMaster_follows (State.mbxHostReset_follows (State.tick_follows hs4))))
  clear_value y0
  have h61 : Follows z y1 := (State.mapMbx_follows h60)
  clear_value y1
  split
  · exact (ResFollows.next h61)
  · exact (ResFollows.next (State.mapPins_follows h61))
  · exact (ResFollows.next (State.mapPins_follows h61))

end Sys2Proof.Machine
end

