-- ==== Sys2Proof/Laws/FollowsBoot.lean ====
section
/-! SUPPORT. Laws/FollowsBoot.lean: settings and boot: each operation and each command keeps what `Follows` says. -/
namespace Sys2Proof.Machine

variable {z : State}

theorem State.fwWrite_follows {s0 a1 a2 : _} (hs0 : Follows z s0) : Follows z (State.fwWrite s0 a1 a2) := by
  unfold State.fwWrite
  exact (State.regWrite_follows hs0)

theorem State.applyItem6_follows {s0 a1 : _} (hs0 : Follows z s0) : Follows z (State.applyItem6 s0 a1) := by
  unfold State.applyItem6
  extract_lets -merge -useContext -underBinder y0
  clear_value y0
  split
  · exact (Follows.foldl (fun _ _ h62 => (State.fwWrite_follows h62)) hs0 _)
  · extract_lets -merge -useContext -underBinder y65 y66
    clear_value y65 y66
    exact (Follows.ite (State.applyPair_follows hs0) hs0)
  · extract_lets -merge -useContext -underBinder y127
    have h187 : Follows z y127 := (State.fwWrite_follows (State.fwWrite_follows (State.wr_follows hs0)))
    clear_value y127
    exact (State.fwWrite_follows (State.fwWrite_follows h187))
  · exact (Follows.foldl (fun _ _ h190 => (State.fwWrite_follows h190)) hs0 _)
  · exact (State.fwWrite_follows (State.fwWrite_follows (State.fwWrite_follows hs0)))
  · extract_lets -merge -useContext -underBinder y195 y196
    have h255 : Follows z y195 := (State.wr_follows hs0)
    clear_value y195 y196
    exact (State.mapTally_follows h255)
  · exact (State.fwWrite_follows (State.wr_follows hs0))
  · exact (State.mapBoot_follows hs0 rfl rfl rfl)
  · exact hs0

theorem State.applyItem8_follows {a0 s1 a2 : _} (hs1 : Follows z s1) : Follows z (State.applyItem8 a0 s1 a2) := by
  unfold State.applyItem8
  extract_lets -merge -useContext -underBinder y0 y1
  clear_value y0
  have h60 : (∀ a0 a1 a2 a3, Follows z a0 → Follows z (y1 a0 a1 a2 a3)) := by
    unfold y1
    intro x62 x64 x65 x66 h63
    extract_lets -merge -useContext -underBinder y67
    clear_value y67
    exact (Follows.ite (State.applyTiming_follows h63) h63)
  clear_value y1
  split
  · extract_lets -merge -useContext -underBinder y129 y130
    have h189 : Follows z y129 := (h60 _ _ _ _ hs1)
    clear_value y129
    have h190 : Follows z y130 := (State.wr_follows (h60 _ _ _ _ h189))
    clear_value y130
    exact (State.mapTmg_follows h190)
  · exact (Follows.ite (h60 _ _ _ _ hs1) hs1)
  · exact hs1

theorem State.restorePort_follows {a0 a1 s2 a3 : _} (hs2 : Follows z s2) : Follows z (State.restorePort a0 a1 s2 a3) := by
  unfold State.restorePort
  extract_lets -merge -useContext -underBinder y0 y1 y2 y3 y4 y5
  clear_value y0 y1 y2 y3
  have h60 : Follows z y4 := (State.fwWrite_follows (State.configure_follows hs2))
  clear_value y4
  have h61 : Follows z y5 := (Follows.ite (Follows.foldl (fun _ _ h62 => (State.fwWrite_follows h62)) h60 _) h60)
  clear_value y5
  exact (Follows.ite (Follows.ite (State.enablePort_follows h61) h61) hs2)

theorem State.applyItem10_follows {a0 a1 s2 a3 : _} (hs2 : Follows z s2) : Follows z (State.applyItem10 a0 a1 s2 a3) := by
  unfold State.applyItem10
  split
  · exact (State.restorePort_follows hs2)
  · extract_lets -merge -useContext -underBinder y4
    clear_value y4
    exact (Follows.ite (Follows.foldl (fun _ _ h64 => (State.fwWrite_follows (State.fwWrite_follows h64))) hs2 _) hs2)
  · extract_lets -merge -useContext -underBinder y67
    have h127 : Follows z y67 := (State.fwWrite_follows hs2)
    clear_value y67
    refine Follows.foldl ?_ ?_ _
    · intro x129 x131 h130
      extract_lets -merge -useContext -underBinder y132
      clear_value y132
      refine Follows.ite ?_ ?_
      · have h := State.addRoute_follows (z := z) (a1 := y132) h130
        cases ho : x129.addRoute y132 with
        | none => exact h130
        | some r => exact OptFollows.of_some ho h
      · exact h130
    · exact h127
  · exact hs2

theorem State.restoreMap_follows {s0 a1 a2 a3 : _} (hs0 : Follows z s0) (hp : Canonical z → Store.wf entryDefault a1 = true) :
    Follows z (State.restoreMap s0 a1 a2 a3) := by
  unfold State.restoreMap
  extract_lets -merge -useContext -underBinder y0 y1 y2 y3
  have h0 : Follows z y0 := State.setPage_follows (State.setPage_follows hs0 hp) hp
  clear_value y0
  have h1 : Follows z y1 := State.raise_follows (State.bump_follows (State.raise_follows (State.wr_follows h0)))
  clear_value y1
  have h2 : Follows z y2 := State.wr_follows (State.wr_follows (State.wr_follows h1))
  clear_value y2
  have h3 : Follows z y3 := State.wr_follows h2
  clear_value y3
  exact State.countRefs_follows (State.showDirty_follows (State.mapMap_follows h3 rfl rfl))

theorem State.openSession_follows {s0 a1 a2 : _} (hs0 : Follows z s0) : Follows z (State.openSession s0 a1 a2) := by
  unfold State.openSession
  exact (State.wr_follows (State.raise_follows hs0))

theorem State.closeStaging_follows {s0 : _} (hs0 : Follows z s0) : Follows z (State.closeStaging s0) := by
  unfold State.closeStaging
  exact (State.mapBoot_follows (State.wr_follows (State.setFlag_follows hs0)) rfl rfl rfl)

theorem State.emptySlot_follows {s0 a1 : _} (hs0 : Follows z s0) : Follows z (State.emptySlot s0 a1) := by
  unfold State.emptySlot
  exact (State.writeRec_follows hs0)

theorem State.dropStaging_follows {s0 : _} (hs0 : Follows z s0) : Follows z (State.dropStaging s0) := by
  unfold State.dropStaging
  exact (Follows.ite (State.closeStaging_follows (State.emptySlot_follows hs0)) hs0)

theorem State.startRecord_follows {s0 a1 a2 a3 a4 : _} (hs0 : Follows z s0) : Follows z (State.startRecord s0 a1 a2 a3 a4) := by
  unfold State.startRecord
  extract_lets -merge -useContext -underBinder y0
  clear_value y0
  exact (State.mapBoot_follows (State.openSession_follows (Follows.ite (State.clearHeader_follows hs0) hs0)) rfl rfl rfl)

theorem execSettingsSave_follows {a0 s1 : _} (hs1 : Follows z s1) : ResFollows z (execSettingsSave a0 s1) := by
  unfold execSettingsSave
  refine ResFollows.next ?_
  refine State.run_follows hs1 ?_
  · intro x3 x5 h4
    extract_lets -merge -useContext -underBinder y6
    clear_value y6
    exact (AnsFollows.ite AnsFollows.refuse (AnsFollows.ite AnsFollows.refuse (AnsFollows.accepted (State.startRecord_follows h4))))

theorem execSettingsRestore_follows {a0 s1 : _} (hs1 : Follows z s1) : ResFollows z (execSettingsRestore a0 s1) := by
  unfold execSettingsRestore
  refine ResFollows.next ?_
  refine State.run_follows hs1 ?_
  · intro x3 x5 h4
    extract_lets -merge -useContext -underBinder y6
    clear_value y6
    exact (AnsFollows.ite AnsFollows.refuse (Ans.reading_follows (ExcPFollows.ite (ExcPFollows.ok (Follows.fst_mk h4)) (ExcPFollows.map (State.readBuf_follows h4) fun _ => rfl)) (fun _ _ h66 => (AnsFollows.ite AnsFollows.refuse (AnsFollows.ite AnsFollows.refuse (AnsFollows.ite AnsFollows.refuse (AnsFollows.ite AnsFollows.refuseWith (AnsFollows.accepted (State.startRecord_follows h66)))))))))

theorem execSettingsWritten_follows {a0 a1 a2 s3 : _} (hs3 : Follows z s3) : ResFollows z (execSettingsWritten a0 a1 a2 s3) := by
  unfold execSettingsWritten
  extract_lets -merge -useContext -underBinder y0
  have h60 : Follows z y0 := (State.tick_follows hs3)
  clear_value y0
  split
  · exact (ResFollows.next h60)
  · extract_lets -merge -useContext -underBinder y66 y67 y68
    clear_value y66
    have h126 : Follows z y67 := (State.mapBoot_follows (State.setFlag_follows h60) rfl rfl rfl)
    clear_value y67 y68
    refine ResFollows.ite ?_ ?_
    · exact (ResFollows.next (State.complete_follows h126))
    · split
      · rename_i x129 x130
        have h127 : Follows z x129 := ExcFollows.of_error x130 (ExcFollows.ite (State.writeBuf_follows h126) (ExcFollows.ok h126))
        exact (ResFollows.next (State.complete_follows h127))
      · rename_i x132 x133
        have h127 : Follows z x132 := ExcFollows.of_ok x133 (ExcFollows.ite (State.writeBuf_follows h126) (ExcFollows.ok h126))
        extract_lets -merge -useContext -underBinder y134 y135 y136
        have h194 : Follows z y134 := (State.mramWrite_follows h127)
        clear_value y134
        have h195 : Follows z y135 := (State.writeRec_follows (State.raise_follows h194))
        clear_value y135 y136
        exact (ResFollows.next (State.complete_follows h195))

theorem State.deviceReset_follows {s0 : _} (hs0 : Follows z s0) : Follows z (State.deviceReset s0) :=
  hs0.of_canon (Nat.le_refl _) (Nat.le_refl _) rfl rfl fun c =>
    ⟨Store.wf_filter c.regs _, rfl, c.mram, rfl, rfl, rfl, rfl, rfl⟩

theorem execPorNLow_follows {a0 s1 : _} (hs1 : Follows z s1) : ResFollows z (execPorNLow a0 s1) := by
  unfold execPorNLow
  exact (ResFollows.next (State.deviceReset_follows (State.tick_follows hs1)))

theorem execSupplyMonitorTrip_follows {a0 s1 : _} (hs1 : Follows z s1) : ResFollows z (execSupplyMonitorTrip a0 s1) := by
  unfold execSupplyMonitorTrip
  exact (ResFollows.next (State.deviceReset_follows (State.tick_follows hs1)))

theorem State.enterRecovery_follows {s0 : _} (hs0 : Follows z s0) : Follows z (State.enterRecovery s0) := by
  unfold State.enterRecovery
  extract_lets -merge -useContext -underBinder y0 y1 y2
  clear_value y1
  have h60 : Follows z y2 := (Follows.mtxPins hs0 rfl)
  clear_value y2
  exact (State.setFwRun_follows (State.wr_follows (State.setFlag_follows (State.wr_follows h60))))

theorem State.beginStep_follows {s0 a1 : _} (hs0 : Follows z s0) : Follows z (State.beginStep s0 a1) := by
  unfold State.beginStep
  extract_lets -merge -useContext -underBinder y0
  have h60 : Follows z y0 := (State.wr_follows (State.wr_follows hs0))
  clear_value y0
  exact (Follows.ite (State.enterRecovery_follows hs0) (State.mapBoot_follows (State.logStep_follows h60) rfl rfl rfl))

theorem State.endStep_follows {s0 a1 a2 : _} (hs0 : Follows z s0) : Follows z (State.endStep s0 a1 a2) := by
  unfold State.endStep
  extract_lets -merge -useContext -underBinder y0
  have h60 : Follows z y0 := (State.wr_follows (State.logStep_follows hs0))
  clear_value y0
  exact (State.raiseIf_follows h60)

theorem State.retireBank_follows {s0 a1 : _} (hs0 : Follows z s0) : Follows z (State.retireBank s0 a1) := by
  unfold State.retireBank
  refine Follows.ite ?_ ?_
  · exact (State.raise_follows (State.wr_follows hs0))
  · split
    · exact (State.raise_follows hs0)
    · extract_lets -merge -useContext -underBinder y5 y6
      clear_value y5
      have h65 : Follows z y6 := (State.wr_follows (State.wr_follows (State.wr_follows hs0)))
      clear_value y6
      exact (State.raise_follows (State.wr_follows h65))

theorem State.retireBanks_follows {s0 a1 : _} (hs0 : Follows z s0) : Follows z (State.retireBanks s0 a1) := by
  unfold State.retireBanks
  extract_lets -merge -useContext -underBinder y0
  clear_value y0
  exact (State.countSpares_follows (Follows.foldl (fun _ _ h60 => (State.retireBank_follows h60)) (Follows.foldl (fun _ _ h61 => (State.retireBank_follows h61)) hs0 _) _))

theorem State.settleImages_follows {s0 : _} (hs0 : Follows z s0) : Follows z (State.settleImages s0) := by
  unfold State.settleImages
  extract_lets -merge -useContext -underBinder y0 y1
  clear_value y0
  have h60 : Follows z y1 := (Follows.ite (State.logStep_follows (State.writeRec_follows hs0)) hs0)
  clear_value y1
  exact (Follows.ite (State.writeRec_follows h60) h60)

theorem State.tryImages_follows {a0 a1 s2 : _} (hs2 : Follows z s2) : Follows z (State.tryImages a0 a1 s2).1 := by
  induction a1 generalizing a0 s2 with
  | nil => exact State.enterRecovery_follows hs2
  | cons k ks ih =>
    unfold State.tryImages
    split
    · exact Follows.fst_mk (State.wr_follows (State.wr_follows (State.loadImage_follows hs2)))
    · exact ih (State.logStep_follows (State.writeRec_follows hs2))

theorem State.startFirmware_follows {s0 : _} (hs0 : Follows z s0) : Follows z (State.startFirmware s0) := by
  unfold State.startFirmware
  extract_lets -merge -useContext -underBinder y0
  have h60 : Follows z y0 := (State.bump_follows (State.wr_follows (State.raise_follows hs0)))
  clear_value y0
  exact (Follows.foldl (fun _ _ h61 => (State.giveBank_follows h61)) h60 _)

theorem State.bootSettings_follows {s0 a1 : _} (hs0 : Follows z s0) : Follows z (State.bootSettings s0 a1).1 := by
  unfold State.bootSettings
  extract_lets -merge -useContext -underBinder y0 y1 y2
  have h60 : Follows z y0 := (State.unpin_follows hs0)
  clear_value y0 y1
  have h61 : Follows z y2 := (State.inForce_follows h60)
  clear_value y2
  exact (Follows.fst_mk (Follows.foldl (fun _ _ h62 => (State.applyItem6_follows h62)) h61 _))

theorem wf_expandRuns (rs : List W8) : Store.wf entryDefault (expandRuns rs) = true := by
  refine wf_foldl_page (fun p e h => ?_) _ rfl
  split
  · exact wf_putEntry h
  · exact h

theorem restoredPage_wf {s : State} {rs : List W8} {p : List (Nat × W64)} {l b : Nat} (e : s.restoredPage rs = some (p, l, b)) :
    Store.wf entryDefault p = true := by
  unfold State.restoredPage at e
  dsimp only at e
  split at e
  · rename_i hc
    obtain ⟨rfl, -⟩ := Prod.mk.inj (Option.some.inj e)
    exact mapCheck_wf (wf_expandRuns rs) hc
  · cases e

theorem State.bootMap_follows {s0 a1 : _} (hs0 : Follows z s0) : Follows z (State.bootMap s0 a1).1 := by
  unfold State.bootMap
  refine Follows.ite_fst ?_ ?_
  · exact (Follows.fst_mk hs0)
  · refine Follows.ite_fst ?_ ?_
    · exact (Follows.fst_mk hs0)
    · split
      · exact (Follows.fst_mk hs0)
      · split
        · exact (Follows.fst_mk hs0)
        · split
          · exact (Follows.fst_mk hs0)
          · rename_i x16
            exact (Follows.fst_mk (State.restoreMap_follows hs0 (fun _ => restoredPage_wf x16)))

theorem State.bootReady_follows {s0 : _} (hs0 : Follows z s0) : Follows z (State.bootReady s0) := by
  unfold State.bootReady
  extract_lets -merge -useContext -underBinder y0 y1 y2 y3
  have h60 : Follows z y0 := (State.mapPwr_follows hs0)
  clear_value y0
  have h61 : Follows z y1 := (State.mapPins_follows h60)
  clear_value y1
  have h62 : Follows z y2 := (State.raise_follows (State.wr_follows (State.setFwRun_follows h61)))
  clear_value y2
  have h63 : Follows z y3 := (State.refreshFault_follows (State.mapBoot_follows (State.wr_follows h62) rfl rfl rfl))
  clear_value y3
  exact (Follows.ite (State.startActing_follows h63) (State.refreshPair_follows h63))

theorem State.stepWork_follows {a0 s1 a2 : _} (hs1 : Follows z s1) : Follows z (State.stepWork a0 s1 a2).1 := by
  unfold State.stepWork
  extract_lets -merge -useContext -underBinder y0
  clear_value y0
  split
  · exact (Follows.fst_mk (State.mapPwr_follows hs1))
  · exact (Follows.fst_mk (Follows.ite hs1 (State.retireBanks_follows hs1)))
  · extract_lets -merge -useContext -underBinder y63
    have h123 : Follows z y63 := (State.settleImages_follows hs1)
    clear_value y63
    exact (State.tryImages_follows h123)
  · exact (Follows.fst_mk (State.startFirmware_follows hs1))
  · extract_lets -merge -useContext -underBinder y126
    have h186 : Follows z y126.1 := (State.bootSettings_follows hs1)
    clear_value y126
    exact (Follows.fst_mk h186)
  · extract_lets -merge -useContext -underBinder y188
    have h248 : Follows z y188.1 := (State.bootMap_follows hs1)
    clear_value y188
    exact (Follows.fst_mk h248)
  · exact (Follows.fst_mk (Follows.ite hs1 (Follows.foldl (fun _ _ h250 => (State.applyItem8_follows h250)) hs1 _)))
  · extract_lets -merge -useContext -underBinder y252
    have h312 : Follows z y252 := (Follows.foldl (fun _ _ h313 => (State.applyItem10_follows h313)) hs1 _)
    clear_value y252
    exact (Follows.fst_mk (Follows.ite (State.enableQuad_follows (State.mapBoot_follows h312 rfl rfl rfl)) h312))
  · exact (Follows.fst_mk hs1)

theorem State.bootStep_follows {a0 s1 a2 : _} (hs1 : Follows z s1) : Follows z (State.bootStep a0 s1 a2) := by
  unfold State.bootStep
  extract_lets -merge -useContext -underBinder y0
  have h60 : Follows z y0 := (State.tick_follows hs1)
  clear_value y0
  refine Follows.ite ?_ ?_
  · split
    · rename_i x63 x64
      have h61 : Follows z x63 := Follows.of_fst x64 (State.stepWork_follows h60)
      exact h61
    · rename_i x66 _ x68
      have h61 : Follows z x66 := Follows.of_fst x68 (State.stepWork_follows h60)
      extract_lets -merge -useContext -underBinder y69
      have h129 : Follows z y69 := (State.endStep_follows h61)
      clear_value y69
      exact (Follows.ite (State.bootReady_follows h129) (State.beginStep_follows h129))
  · exact hs1

theorem State.lastFail_follows {s0 : _} (hs0 : Follows z s0) : Follows z (State.lastFail s0) := by
  unfold State.lastFail
  split
  · exact (State.wr_follows (State.wr_follows hs0))
  · exact (State.wr_follows (State.wr_follows hs0))
  · exact (State.raise_follows hs0)
  · exact (State.raise_follows hs0)
  · exact (State.raise_follows hs0)
  · exact hs0

theorem State.beginBoot_follows {s0 : _} (hs0 : Follows z s0) : Follows z (State.beginBoot s0) := by
  unfold State.beginBoot
  extract_lets -merge -useContext -underBinder y0
  have h60 : Follows z y0 := (State.mapBoot_follows hs0 rfl rfl rfl)
  clear_value y0
  exact (State.beginStep_follows (State.writeRec_follows (State.mapBoot_follows (State.lastFail_follows h60) rfl rfl rfl)))

theorem execBootSequence_follows {a0 a1 a2 s3 : _} (hs3 : Follows z s3) : ResFollows z (execBootSequence a0 a1 a2 s3) := by
  unfold execBootSequence
  extract_lets -merge -useContext -underBinder y0 y1
  have h60 : Follows z y0 := (State.tick_follows hs3)
  clear_value y0
  have h61 : Follows z y1 := (Follows.ite (State.beginBoot_follows h60) h60)
  clear_value y1
  exact (ResFollows.next (Follows.foldl (fun _ _ h62 => (State.bootStep_follows h62)) h61 _))

theorem execBootWatchdog_follows {a0 a1 s2 : _} (hs2 : Follows z s2) : ResFollows z (execBootWatchdog a0 a1 s2) := by
  unfold execBootWatchdog
  extract_lets -merge -useContext -underBinder y0 y1 y2
  have h60 : Follows z y0 := (State.tick_follows hs2)
  clear_value y0 y1
  have h61 : Follows z y2 := (State.writeRec_follows (State.logStep_follows h60))
  clear_value y2
  exact (ResFollows.ite (ResFollows.next (State.deviceReset_follows h61)) (ResFollows.next h60))

theorem execFailcntClear_follows {a0 s1 : _} (hs1 : Follows z s1) : ResFollows z (execFailcntClear a0 s1) := by
  unfold execFailcntClear
  extract_lets -merge -useContext -underBinder y0
  have h60 : Follows z y0 := (State.tick_follows hs1)
  clear_value y0
  exact (ResFollows.ite (ResFollows.next (State.writeRec_follows h60)) (ResFollows.next h60))

end Sys2Proof.Machine
end

