-- ==== Sys2Proof/Laws/FollowsLine.lean ====
section
/-! SUPPORT. Laws/FollowsLine.lean: line receive and transmit, the frame mark: each operation and each command keeps what `Follows` says. -/
namespace Sys2Proof.Machine

variable {z : State}

theorem State.setClient_follows {s0 a1 a2 : _} (hs0 : Follows z s0) : Follows z (State.setClient s0 a1 a2) := by
  unfold State.setClient
  exact (State.mapLine_follows hs0)

theorem State.clientFrames_follows {a0 a1 a2 s3 : _} (hs3 : Follows z s3) : Follows z (State.clientFrames a0 a1 a2 s3) := by
  induction a2 generalizing s3 with
  | zero => exact hs3
  | succ n ih =>
    unfold State.clientFrames
    extract_lets y0
    clear_value y0
    refine Follows.ite ?_ (State.setClient_follows hs3)
    split
    · exact hs3
    · extract_lets y1 y2
      have h1 : Follows z y1 := State.setClient_follows hs3
      clear_value y1
      have h2 : Follows z y2 := Follows.ite (State.setTx_follows h1) h1
      clear_value y2
      exact ih (State.sonetFrame_follows h2)

theorem State.takeClient_follows {s0 a1 a2 a3 : _} (hs0 : Follows z s0) : Follows z (State.takeClient s0 a1 a2 a3) := by
  unfold State.takeClient
  extract_lets -merge -useContext -underBinder y0 y1 y2
  clear_value y0 y1 y2
  exact (State.clientFrames_follows (State.setClient_follows hs0))

theorem State.checkFas_follows {s0 a1 a2 a3 a4 : _} (hs0 : Follows z s0) : Follows z (State.checkFas s0 a1 a2 a3 a4) := by
  unfold State.checkFas
  extract_lets -merge -useContext -underBinder y0 y1
  clear_value y0
  have h60 : Follows z y1 := by
    unfold y1
    refine Follows.foldl ?_ ?_ _
    · intro x63 x65 h64
      extract_lets -merge -useContext -underBinder y66 y67 y68
      clear_value y66 y67 y68
      exact (Follows.ite (State.setFramer_follows h64) h64)
    · exact hs0
  clear_value y1
  exact (State.afterFramer_follows h60)

theorem State.takeMfas_follows {s0 a1 a2 : _} (hs0 : Follows z s0) : Follows z (State.takeMfas s0 a1 a2) := by
  unfold State.takeMfas
  extract_lets -merge -useContext -underBinder y0 y1 y2 y3 y4
  clear_value y0 y1
  have h60 : Follows z y2.1 := (State.debounce_follows hs0)
  clear_value y2 y3
  have h61 : Follows z y4 := (State.mapPrx_follows h60)
  clear_value y4
  exact (Follows.ite (State.setDef_follows h61) h61)

theorem State.takePt_follows {s0 a1 a2 a3 : _} (hs0 : Follows z s0) : Follows z (State.takePt s0 a1 a2 a3) := by
  unfold State.takePt
  extract_lets -merge -useContext -underBinder y0
  have h60 : Follows z y0 := (State.observe_follows hs0)
  clear_value y0
  exact (Follows.ite (Follows.ite (State.setDef_follows (State.wr_follows h60)) h60) hs0)

theorem State.otnTrace_follows {a0 a1 s2 a3 : _} (hs2 : Follows z s2) : Follows z (State.otnTrace a0 a1 s2 a3) := by
  unfold State.otnTrace
  refine Follows.foldl ?_ ?_ _
  · intro x1 x3 h2
    extract_lets -merge -useContext -underBinder y4 y5
    clear_value y4 y5
    exact (Follows.ite (State.trace_follows h2) (State.mapLine_follows h2))
  · exact hs2

theorem State.oweBei_follows {s0 a1 a2 a3 : _} (hs0 : Follows z s0) : Follows z (State.oweBei s0 a1 a2 a3) := by
  unfold State.oweBei
  extract_lets -merge -useContext -underBinder y0
  clear_value y0
  exact (State.mapLine_follows hs0)

theorem State.takeBip_follows {s0 a1 a2 : _} (hs0 : Follows z s0) : Follows z (State.takeBip s0 a1 a2) := by
  unfold State.takeBip
  extract_lets -merge -useContext -underBinder y0 y1 y2 y3 y4 y5 y6
  clear_value y0 y1 y2 y3
  have h60 : Follows z y4 := (State.mapPrx_follows hs0)
  clear_value y4
  have h61 : Follows z y5 := (State.oweBei_follows h60)
  clear_value y5
  have h62 : Follows z y6 := (State.inc_follows (State.inc_follows h61))
  clear_value y6
  exact (State.addViol_follows h62)

theorem State.otnOverhead_follows {s0 a1 a2 a3 : _} (hs0 : Follows z s0) : Follows z (State.otnOverhead s0 a1 a2 a3) := by
  unfold State.otnOverhead
  extract_lets -merge -useContext -underBinder y0 y1 y2 y3 y4 y5 y6 y7 y8 y9
  clear_value y0 y1 y2 y3
  have h60 : Follows z y4 := (State.takeBip_follows (State.takeMfas_follows hs0))
  clear_value y4
  have h61 : Follows z y5 := (State.inc_follows (State.inc_follows h60))
  clear_value y5
  have h62 : Follows z y6 := (State.inc_follows h61)
  clear_value y6
  have h63 : Follows z y7 := (State.portCond_follows (State.portCond_follows h62))
  clear_value y7
  have h64 : Follows z y8 := (State.portCond_follows (State.portCond_follows (State.portCond_follows h63)))
  clear_value y8
  have h65 : Follows z y9 := (State.takePt_follows (State.wr_follows h64))
  clear_value y9
  exact (Follows.foldl (fun _ _ h66 => (State.otnTrace_follows h66)) h65 _)

theorem State.loopOtu_follows {s0 a1 a2 : _} (hs0 : Follows z s0) : Follows z (State.loopOtu s0 a1 a2) := by
  unfold State.loopOtu
  exact (Follows.ite (State.mapLine_follows hs0) hs0)

theorem execOtnFrameRx_follows {a0 a1 a2 a3 a4 a5 a6 a7 s8 : _} (hs8 : Follows z s8) : ResFollows z (execOtnFrameRx a0 a1 a2 a3 a4 a5 a6 a7 s8) := by
  unfold execOtnFrameRx
  extract_lets -merge -useContext -underBinder y0 y1 y2 y3 y4 y5 y6 y7 y8
  have h60 : Follows z y0 := (State.tick_follows hs8)
  clear_value y0 y1 y2 y3 y4
  have h61 : Follows z y5 := (State.portCond_follows h60)
  clear_value y5
  have h62 : Follows z y6 := (State.checkFas_follows (State.loopOtu_follows h61))
  clear_value y6 y7
  have h63 : Follows z y8 := (State.takeClient_follows (State.otnOverhead_follows h62))
  clear_value y8
  exact (ResFollows.ite (ResFollows.ite (ResFollows.next (State.refreshRefs_follows (State.updateRdi_follows h63))) (ResFollows.next (State.refreshRefs_follows (State.updateRdi_follows (State.dropRuns_follows h62))))) (ResFollows.next h60))

theorem State.checkFaw_follows {s0 a1 a2 a3 : _} (hs0 : Follows z s0) : Follows z (State.checkFaw s0 a1 a2 a3) := by
  unfold State.checkFaw
  extract_lets -merge -useContext -underBinder y0 y1 y2
  clear_value y0 y1 y2
  exact (State.afterFramer_follows (State.setFramer_follows hs0))

theorem State.ziuthOverhead_follows {s0 a1 a2 a3 a4 a5 : _} (hs0 : Follows z s0) : Follows z (State.ziuthOverhead s0 a1 a2 a3 a4 a5) := by
  unfold State.ziuthOverhead
  extract_lets -merge -useContext -underBinder y0 y1 y2 y3 y4 y5 y6 y7
  clear_value y0
  have h60 : Follows z y1 := (State.inc_follows (State.inc_follows (State.inc_follows hs0)))
  clear_value y1
  have h61 : Follows z y2 := (State.mapPrx_follows (State.addViol_follows h60))
  clear_value y2 y3
  have h62 : Follows z y4 := (State.wr_follows (State.wr_follows h61))
  clear_value y4
  have h63 : Follows z y5 := (State.wr_follows h62)
  clear_value y5
  have h64 : Follows z y6 := (State.inc_follows (State.inc_follows (State.inc_follows h63)))
  clear_value y6
  have h65 : Follows z y7 := (State.portCond_follows (State.takeQl_follows h64))
  clear_value y7
  exact (State.queueOh_follows h65)

theorem execZiuthFrameRx_follows {a0 a1 a2 a3 a4 a5 s6 : _} (hs6 : Follows z s6) : ResFollows z (execZiuthFrameRx a0 a1 a2 a3 a4 a5 s6) := by
  unfold execZiuthFrameRx
  extract_lets -merge -useContext -underBinder y0 y1 y2 y3 y4 y5 y6 y7 y8 y9 y10 y11
  have h60 : Follows z y0 := (State.tick_follows hs6)
  clear_value y0 y1 y2 y3 y4
  have h61 : Follows z y6 := (Follows.ite (State.setTx_follows h60) h60)
  clear_value y6
  have h62 : Follows z y7 := (State.checkFaw_follows h61)
  clear_value y7
  have h63 : Follows z y8 := (State.ziuthOverhead_follows h62)
  clear_value y8 y9 y10
  have h64 : Follows z y11 := (Follows.ite (State.setPath_follows h63) h63)
  clear_value y11
  exact (ResFollows.ite (ResFollows.ite (ResFollows.ite (ResFollows.next (State.refreshRefs_follows (State.updateRdi_follows h64))) (ResFollows.next (State.refreshRefs_follows (State.updateRdi_follows (State.dropRuns_follows h62))))) (ResFollows.next h61)) (ResFollows.next h60))

theorem State.markTx_follows {s0 : _} (hs0 : Follows z s0) : Follows z (State.markTx s0) := by
  unfold State.markTx
  exact (State.mapLine_follows hs0)

theorem State.sendVt_follows {a0 a1 a2 a3 a4 a5 a6 : _} (ha5 : Follows z a5.1) : Follows z (State.sendVt a0 a1 a2 a3 a4 a5 a6).1 := by
  unfold State.sendVt
  extract_lets -merge -useContext -underBinder y0 y1 y2 y3 y4 y5 y6 y7 y8 y9 y10 y11 y12
  have h60 : Follows z y0 := ha5
  clear_value y1 y2 y3 y4 y5 y6 y7 y8 y9 y10 y11 y12
  exact (Follows.fst_mk (State.mapLine_follows h60))

theorem State.sendSpe_follows {s0 a1 a2 a3 a4 a5 : _} (hs0 : Follows z s0) : Follows z (State.sendSpe s0 a1 a2 a3 a4 a5).1 := by
  unfold State.sendSpe
  extract_lets -merge -useContext -underBinder y0 y1 y2 y3 y4 y5 y6
  clear_value y0 y1 y2 y3 y4 y5
  have h60 : Follows z y6.1 := (Follows.foldl_fst (fun _ _ h61 => (State.sendVt_follows h61)) (Follows.fst_mk hs0) _)
  clear_value y6
  exact (Follows.fst_mk h60)

theorem State.sendSonet_follows {s0 a1 a2 a3 a4 : _} (hs0 : Follows z s0) : Follows z (State.sendSonet s0 a1 a2 a3 a4).1 := by
  unfold State.sendSonet
  extract_lets -merge -useContext -underBinder y0 y1 y2 y3 y4 y5 y6 y7 y8
  clear_value y0 y1 y2 y3
  have h60 : (∀ a0 a1, Follows z a0.1 → Follows z (y4 a0 a1).1) := by
    unfold y4
    intro x62 x64 h63
    extract_lets -merge -useContext -underBinder y65
    have h125 : Follows z y65.1 := (State.sendSpe_follows h63)
    clear_value y65
    exact (Follows.fst_mk h125)
  clear_value y4
  have h126 : Follows z y5.1 := (Follows.foldl_fst h60 (Follows.fst_mk hs0) _)
  clear_value y5 y6 y7 y8
  exact (Follows.fst_mk h126)

theorem State.asSent_follows {s0 a1 a2 : _} (hs0 : Follows z s0) : Follows z (State.asSent s0 a1 a2) := by
  unfold State.asSent
  split
  · exact hs0
  · extract_lets -merge -useContext -underBinder y5
    have h65 : Follows z y5 := (State.wr_follows hs0)
    clear_value y5
    split
    · exact (State.writeStruct_follows h65)
    · exact h65

theorem State.sendPort_follows {a0 s1 a2 : _} (hs1 : Follows z s1) : Follows z (State.sendPort a0 s1 a2) := by
  unfold State.sendPort
  extract_lets -merge -useContext -underBinder y0 y1 y2
  clear_value y1 y2
  split
  · exact hs1
  · extract_lets -merge -useContext -underBinder y65 y66 y67 y68
    have h125 : Follows z y65.1 := (State.sendSonet_follows (State.asSent_follows hs1))
    clear_value y65
    have h126 : Follows z y66 := (State.setTx_follows (Follows.rest hs1))
    clear_value y66 y67 y68
    exact (Follows.ite hs1 (Follows.ite (State.setTx_follows hs1) (Follows.ite hs1 (Follows.ite (State.mapLine_follows h126) h126))))

theorem execPositionTake_follows {a0 s1 : _} (hs1 : Follows z s1) : ResFollows z (execPositionTake a0 s1) := by
  unfold execPositionTake
  extract_lets -merge -useContext -underBinder y0 y1 y2
  have h60 : Follows z y0 := (State.tick_follows hs1)
  clear_value y0
  have h61 : Follows z y1 := (State.takePosition_follows h60)
  clear_value y1 y2
  exact (ResFollows.ite (ResFollows.ite (ResFollows.next (Follows.foldl (fun _ _ h62 => (State.sendPort_follows h62)) h61 _)) (ResFollows.next h61)) (ResFollows.next h60))

theorem State.slip_follows {s0 a1 a2 a3 : _} (hs0 : Follows z s0) : Follows z (State.slip s0 a1 a2 a3) := by
  unfold State.slip
  exact (Follows.ite hs0 (State.raise_follows (State.inc_follows hs0)))

theorem State.closePath_follows {a0 a1 a2 : _} (ha1 : Follows z a1.1) : Follows z (State.closePath a0 a1 a2).1 := by
  unfold State.closePath
  extract_lets -merge -useContext -underBinder y0 y1 y2 y3 y4
  have h60 : Follows z y0 := ha1
  clear_value y1 y2 y3 y4
  split
  · extract_lets -merge -useContext -underBinder y64
    have h124 : Follows z y64 := (State.slip_follows (State.setPath_follows h60))
    clear_value y64
    exact (Follows.fst_mk h124)
  · extract_lets -merge -useContext -underBinder y127 y128 y129
    clear_value y127 y128
    have h187 : Follows z y129 := (State.setPath_follows h60)
    clear_value y129
    split
    · exact (Follows.fst_mk (State.slip_follows h187))
    · exact (Follows.fst_mk h187)

theorem State.closeOh_follows {s0 a1 : _} (hs0 : Follows z s0) : Follows z (State.closeOh s0 a1) := by
  unfold State.closeOh
  extract_lets -merge -useContext -underBinder y0 y1 y2 y3 y4
  clear_value y0 y1 y2 y3 y4
  exact (State.mapLine_follows hs0)

theorem State.closePort_follows {a0 a1 : _} (ha0 : Follows z a0.1) : Follows z (State.closePort a0 a1).1 := by
  unfold State.closePort
  extract_lets -merge -useContext -underBinder y0 y1 y2 y3 y4
  have h60 : Follows z y0.1 := (Follows.foldl_fst (fun _ _ h61 => (State.closePath_follows h61)) (Follows.fst_mk ha0) _)
  clear_value y0
  have h62 : Follows z y1 := (State.closeOh_follows h60)
  clear_value y1 y2 y3 y4
  exact (Follows.fst_mk (State.count_follows h62))

theorem State.closeInput_follows {s0 : _} (hs0 : Follows z s0) : Follows z (State.closeInput s0) := by
  unfold State.closeInput
  extract_lets -merge -useContext -underBinder y0
  have h60 : Follows z y0.1 := (Follows.foldl_fst (fun _ _ h61 => (State.closePort_follows h61)) (Follows.fst_mk hs0) _)
  clear_value y0
  exact (Follows.ite (State.putInput_follows h60) hs0)

theorem State.readUpsets_follows {s0 a1 a2 : _} (hs0 : Follows z s0) : Follows z (State.readUpsets s0 a1 a2).1 := by
  unfold State.readUpsets
  extract_lets -merge -useContext -underBinder y0
  have h60 : Follows z y0 := (Follows.foldl (fun _ _ h61 => (State.readSel_follows h61)) hs0 _)
  clear_value y0
  refine Follows.foldl_fst ?_ ?_ _
  · intro x63 x65 h64
    extract_lets -merge -useContext -underBinder y66
    have h126 : Follows z y66.1 := (State.readMon_follows h64)
    clear_value y66
    exact (Follows.fst_mk h126)
  · exact (Follows.fst_mk h60)

theorem State.marchMark_follows {s0 : _} (hs0 : Follows z s0) : Follows z (State.marchMark s0) := by
  unfold State.marchMark
  exact (Follows.ite (Follows.foldl (fun _ _ h0 => (State.mapDyn_follows h0)) (State.mapPwr_follows hs0) _) hs0)

theorem State.endFrame_follows {s0 a1 a2 a3 : _} (hs0 : Follows z s0) : Follows z (State.endFrame s0 a1 a2 a3) := by
  unfold State.endFrame
  extract_lets -merge -useContext -underBinder y0 y1 y2
  have h60 : Follows z y0 := (State.setPcie_follows (State.upsetWords_follows hs0))
  clear_value y0
  have h61 : Follows z y1 := (State.closeInput_follows (State.mapPair_follows (State.mateMark_follows h60)))
  clear_value y1
  have h62 : Follows z y2 := (State.periodAdds_follows h61)
  clear_value y2
  exact (State.setFn_follows h62)

theorem State.sampleMark_follows {s0 a1 a2 a3 : _} (hs0 : Follows z s0) : Follows z (State.sampleMark s0 a1 a2 a3).1 := by
  unfold State.sampleMark
  extract_lets -merge -useContext -underBinder y0 y1
  have h60 : Follows z y0 := (State.pairMark_follows (State.tallyMark_follows hs0))
  clear_value y0
  have h61 : Follows z y1.1 := (Follows.ite_fst (Follows.fst_mk h60) (State.readUpsets_follows h60))
  clear_value y1
  exact (Follows.fst_mk (State.coreMark_follows (State.marchMark_follows (State.applyMirrored_follows h61))))

theorem State.beginFrame_follows {s0 a1 a2 a3 a4 : _} (hs0 : Follows z s0) : Follows z (State.beginFrame s0 a1 a2 a3 a4) := by
  unfold State.beginFrame
  extract_lets -merge -useContext -underBinder y0 y1 y2 y3 y4
  have h60 : Follows z y0 := (Follows.foldl (fun _ _ h61 => (State.markPort_follows h61)) hs0 _)
  clear_value y0
  have h62 : Follows z y1 := (Follows.ite h60 (State.walk_follows h60))
  clear_value y1
  have h63 : Follows z y2 := (State.markTx_follows (Follows.foldl (fun _ _ h64 => (State.markDisable_follows h64)) h62 _))
  clear_value y2
  have h65 : Follows z y3 := (State.wakeDemands_follows (State.mdcMark_follows h63))
  clear_value y3
  have h66 : Follows z y4 := (State.checkDis_follows (State.sendFor_follows h65))
  clear_value y4
  exact (State.refreshPair_follows (State.refreshFault_follows (State.refreshRefs_follows (State.enableQuad_follows (State.eventSummary_follows h66)))))

theorem execFrameMark_follows {a0 a1 a2 a3 a4 a5 a6 s7 : _} (hs7 : Follows z s7) : ResFollows z (execFrameMark a0 a1 a2 a3 a4 a5 a6 s7) := by
  unfold execFrameMark
  extract_lets -merge -useContext -underBinder y0
  have h60 : Follows z y0.1 := (State.sampleMark_follows (State.endFrame_follows (State.tick_follows hs7)))
  clear_value y0
  exact (ResFollows.next (State.beginFrame_follows h60))

end Sys2Proof.Machine
end

