-- ==== Sys2Proof/Laws/FollowsUpdate.lean ====
section
/-! SUPPORT. Laws/FollowsUpdate.lean: firmware update and pins: each operation and each command keeps what `Follows` says. -/
namespace Sys2Proof.Machine

variable {z : State}

theorem execGetInfo_follows {a0 s1 : _} (hs1 : Follows z s1) : ResFollows z (execGetInfo a0 s1) := by
  unfold execGetInfo
  exact (ResFollows.next (State.run_follows hs1 (fun _ _ h0 => (AnsFollows.ok h0))))

theorem execMapSnapshot_follows {a0 s1 : _} (hs1 : Follows z s1) : ResFollows z (execMapSnapshot a0 s1) := by
  unfold execMapSnapshot
  refine ResFollows.next ?_
  refine State.run_follows hs1 ?_
  · intro x3 x5 h4
    extract_lets -merge -useContext -underBinder y6
    have h66 : Follows z y6 := by
      unfold y6
      split
      · exact (State.mramWrite_follows h4)
      · exact h4
    clear_value y6
    exact (AnsFollows.ite AnsFollows.refuse (AnsFollows.ite AnsFollows.refuse (AnsFollows.later (State.mapMap_follows (State.wr_follows h66) rfl rfl))))

theorem execMapSnapshotDone_follows {a0 a1 s2 : _} (hs2 : Follows z s2) : ResFollows z (execMapSnapshotDone a0 a1 s2) := by
  unfold execMapSnapshotDone
  extract_lets -merge -useContext -underBinder y0 y1 y2 y3 y4 y5 y6 y7
  have h60 : Follows z y0 := (State.tick_follows hs2)
  clear_value y0 y1 y2 y3 y4 y5
  have h61 : Follows z y6 := (State.mapBoot_follows (State.mramWrite_follows (State.mramWrite_follows h60)) rfl rfl rfl)
  clear_value y6
  have h62 : Follows z y7 := (State.writeRec_follows (State.mapMap_follows (State.wr_follows h61) rfl rfl))
  clear_value y7
  exact (ResFollows.ite (ResFollows.next (State.complete_follows h62)) (ResFollows.next h60))

theorem State.openStaging_follows {s0 a1 a2 : _} (hs0 : Follows z s0) : Follows z (State.openStaging s0 a1 a2) := by
  unfold State.openStaging
  extract_lets -merge -useContext -underBinder y0 y1
  have h60 : Follows z y0 := (State.eraseSlot_follows (Follows.ite (State.closeStaging_follows hs0) (State.dropStaging_follows hs0)))
  clear_value y0
  have h61 : Follows z y1 := (State.writeRec_follows h60)
  clear_value y1
  exact (State.wr_follows (State.wr_follows (State.openSession_follows h61)))

theorem execFwStage_follows {a0 s1 : _} (hs1 : Follows z s1) : ResFollows z (execFwStage a0 s1) := by
  unfold execFwStage
  refine ResFollows.next ?_
  refine State.run_follows hs1 ?_
  · intro x6 x8 h7
    refine AnsFollows.ite ?_ ?_
    · exact AnsFollows.refuse
    · refine AnsFollows.ite ?_ ?_
      · exact AnsFollows.refuse
      · refine AnsFollows.ite ?_ ?_
        · exact AnsFollows.refuse
        · refine AnsFollows.ite ?_ ?_
          · exact AnsFollows.refuse
          · refine Ans.reading_follows (State.readBuf_follows h7) ?_
            · intro x15 x17 h16
              extract_lets -merge -useContext -underBinder y18 y19
              have h78 : Follows z y18 := (Follows.ite (State.openStaging_follows h16) h16)
              clear_value y18 y19
              exact (AnsFollows.accepted (State.mapBoot_follows h78 rfl rfl rfl))

theorem execFwStageChunkWritten_follows {a0 a1 s2 : _} (hs2 : Follows z s2) : ResFollows z (execFwStageChunkWritten a0 a1 s2) := by
  unfold execFwStageChunkWritten
  extract_lets -merge -useContext -underBinder y0
  have h60 : Follows z y0 := (State.tick_follows hs2)
  clear_value y0
  split
  · exact (ResFollows.next h60)
  · extract_lets -merge -useContext -underBinder y67 y68 y69 y70
    have h127 : Follows z y67 := (State.mapBoot_follows h60 rfl rfl rfl)
    clear_value y67 y68
    have h128 : Follows z y69 := (State.wr_follows (State.mramWrite_follows h127))
    clear_value y69
    have h129 : Follows z y70 := (State.closeStaging_follows h128)
    clear_value y70
    refine ResFollows.ite ?_ ?_
    · refine ResFollows.ite ?_ ?_
      · split
        · exact (ResFollows.next (State.complete_follows (State.emptySlot_follows h129)))
        · extract_lets -merge -useContext -underBinder y135 y136
          clear_value y135
          have h195 : Follows z y136 := (State.raise_follows (State.writeRec_follows h129))
          clear_value y136
          exact (ResFollows.next (State.complete_follows h195))
      · exact (ResFollows.next (State.complete_follows h128))
    · exact (ResFollows.next (State.complete_follows h127))

theorem execStagingTimeout_follows {a0 s1 : _} (hs1 : Follows z s1) : ResFollows z (execStagingTimeout a0 s1) := by
  unfold execStagingTimeout
  extract_lets -merge -useContext -underBinder y0
  have h60 : Follows z y0 := (State.tick_follows hs1)
  clear_value y0
  exact (ResFollows.ite (ResFollows.next (State.dropStaging_follows h60)) (ResFollows.next h60))

theorem State.endAct_follows {s0 : _} (hs0 : Follows z s0) : Follows z (State.endAct s0) := by
  unfold State.endAct
  exact (State.mapBoot_follows hs0 rfl rfl rfl)

theorem State.closeAct_follows {s0 : _} (hs0 : Follows z s0) : Follows z (State.closeAct s0) := by
  unfold State.closeAct
  exact (State.setFlag_follows (State.endAct_follows hs0))

theorem execFwActivate_follows {a0 s1 : _} (hs1 : Follows z s1) : ResFollows z (execFwActivate a0 s1) := by
  unfold execFwActivate
  refine ResFollows.next ?_
  refine State.run_follows hs1 ?_
  · intro x3 x5 h4
    extract_lets -merge -useContext -underBinder y6 y7 y8 y9
    clear_value y6 y7 y8
    have h66 : Follows z y9 := (State.mapBoot_follows (State.openSession_follows h4) rfl rfl rfl)
    clear_value y9
    refine AnsFollows.ite ?_ ?_
    · exact AnsFollows.refuse
    · refine AnsFollows.ite ?_ ?_
      · exact AnsFollows.refuse
      · refine AnsFollows.ite ?_ ?_
        · exact AnsFollows.refuse
        · refine AnsFollows.ite ?_ ?_
          · exact AnsFollows.refuse
          · split
            · exact (AnsFollows.accepted h66)
            · extract_lets -merge -useContext -underBinder y72
              clear_value y72
              exact (AnsFollows.ite AnsFollows.refuseWith (AnsFollows.accepted h66))

theorem State.startDrain_follows {s0 a1 : _} (hs0 : Follows z s0) : Follows z (State.startDrain s0 a1) := by
  unfold State.startDrain
  exact (State.mapBoot_follows (State.holdNotices_follows hs0) rfl rfl rfl)

theorem execFwImageCopied_follows {a0 a1 s2 : _} (hs2 : Follows z s2) : ResFollows z (execFwImageCopied a0 a1 s2) := by
  unfold execFwImageCopied
  extract_lets -merge -useContext -underBinder y0 y1 y2
  have h60 : Follows z y0 := (State.tick_follows hs2)
  clear_value y0 y1
  have h61 : Follows z y2 := (State.writeRec_follows h60)
  clear_value y2
  refine ResFollows.ite ?_ ?_
  · exact (ResFollows.next h60)
  · refine ResFollows.ite ?_ ?_
    · exact (ResFollows.next (State.deviceReset_follows (State.complete_follows (State.closeAct_follows h61))))
    · split
      · exact (ResFollows.next (State.complete_follows (State.closeAct_follows h60)))
      · exact (ResFollows.next (State.startDrain_follows (State.loadImage_follows h60)))

theorem State.changeSlot_follows {s0 : _} (hs0 : Follows z s0) : Follows z (State.changeSlot s0) := by
  unfold State.changeSlot
  extract_lets -merge -useContext -underBinder y0
  have h60 : Follows z y0 := (State.wr_follows (State.wr_follows hs0))
  clear_value y0
  exact (State.bump_follows h60)

theorem State.freeCoreSems_follows {s0 : _} (hs0 : Follows z s0) : Follows z (State.freeCoreSems s0) := by
  unfold State.freeCoreSems
  refine Follows.foldl ?_ ?_ _
  · intro x1 x3 h2
    split
    · exact (Follows.ite (State.setHolder_follows h2) h2)
    · exact h2
  · exact hs0

theorem execFwHandoverMark_follows {a0 s1 : _} (hs1 : Follows z s1) : ResFollows z (execFwHandoverMark a0 s1) := by
  unfold execFwHandoverMark
  extract_lets -merge -useContext -underBinder y0 y1
  have h60 : Follows z y0 := (State.tick_follows hs1)
  clear_value y0
  have h61 : Follows z y1 := (State.changeSlot_follows (State.wr_follows (State.setFwRun_follows (State.freeCoreSems_follows h60))))
  clear_value y1
  exact (ResFollows.ite (ResFollows.next (State.mapBoot_follows h61 rfl rfl rfl)) (ResFollows.next h60))

theorem execFwDrainLimit_follows {a0 a1 s2 : _} (hs2 : Follows z s2) : ResFollows z (execFwDrainLimit a0 a1 s2) := by
  unfold execFwDrainLimit
  extract_lets -merge -useContext -underBinder y0 y1 y2
  have h60 : Follows z y0 := (State.tick_follows hs2)
  clear_value y0 y1
  have h61 : Follows z y2 := (State.releaseNotices_follows h60)
  clear_value y2
  exact (ResFollows.ite (ResFollows.ite (ResFollows.ite (ResFollows.next (State.complete_follows (State.endAct_follows h61))) (ResFollows.next (State.endAct_follows h61))) (ResFollows.next (State.complete_follows (State.closeAct_follows h61)))) (ResFollows.next h60))

theorem State.endWindow_follows {s0 a1 : _} (hs0 : Follows z s0) : Follows z (State.endWindow s0 a1) := by
  unfold State.endWindow
  extract_lets -merge -useContext -underBinder y0
  have h60 : Follows z y0 := (State.oweReplies_follows hs0)
  clear_value y0
  exact (State.wr_follows (State.releaseNotices_follows (State.setFwRun_follows h60)))

theorem State.endTrial_follows {s0 a1 : _} (hs0 : Follows z s0) : Follows z (State.endTrial s0 a1) := by
  unfold State.endTrial
  extract_lets -merge -useContext -underBinder y0 y1 y2 y3
  clear_value y0
  have h60 : Follows z y1 := (State.unpin_follows hs0)
  clear_value y1
  have h61 : Follows z y2 := (State.writeRec_follows h60)
  clear_value y2
  have h62 : Follows z y3 := (Follows.ite (State.inForce_follows h61) h61)
  clear_value y3
  exact (State.closeAct_follows (State.raise_follows (State.setFlag_follows h62)))

theorem State.rewriteSettings_follows {s0 a1 : _} (hs0 : Follows z s0) : Follows z (State.rewriteSettings s0 a1) := by
  unfold State.rewriteSettings
  split
  · exact hs0
  · extract_lets -merge -useContext -underBinder y5 y6 y7
    have h65 : Follows z y5 := (State.writeRec_follows hs0)
    clear_value y5 y6
    have h66 : Follows z y7 := (State.mramWrite_follows h65)
    clear_value y7
    exact (State.inForce_follows (State.raise_follows h66))

theorem State.revert_follows {s0 a1 a2 a3 : _} (hs0 : Follows z s0) : Follows z (State.revert s0 a1 a2 a3) := by
  unfold State.revert
  extract_lets -merge -useContext -underBinder y0 y1
  clear_value y0
  have h60 : Follows z y1 := (State.raise_follows (State.endWindow_follows (State.changeSlot_follows hs0)))
  clear_value y1
  exact (Follows.ite (Follows.ite (State.complete_follows (State.endAct_follows h60)) (State.endAct_follows h60)) (State.complete_follows (State.closeAct_follows h60)))

theorem execNewFirmwareStarted_follows {a0 a1 s2 : _} (hs2 : Follows z s2) : ResFollows z (execNewFirmwareStarted a0 a1 s2) := by
  unfold execNewFirmwareStarted
  extract_lets -merge -useContext -underBinder y0 y1 y2
  have h60 : Follows z y0 := (State.tick_follows hs2)
  clear_value y0 y1
  have h61 : Follows z y2 := (State.endWindow_follows (State.endTrial_follows h60))
  clear_value y2
  refine ResFollows.ite ?_ ?_
  · exact (ResFollows.next h60)
  · refine ResFollows.ite ?_ ?_
    · exact (ResFollows.next (Follows.ite (State.complete_follows h61) h61))
    · split
      · exact (ResFollows.next (State.revert_follows h60))
      · extract_lets -merge -useContext -underBinder y67 y68 y69
        have h127 : Follows z y67 := (State.writeRec_follows (State.rewriteSettings_follows h60))
        clear_value y67
        have h128 : Follows z y68 := (State.raise_follows (State.endWindow_follows (State.endAct_follows h127)))
        clear_value y68
        have h129 : Follows z y69 := (State.mapBoot_follows (State.raise_follows h128) rfl rfl rfl)
        clear_value y69
        exact (ResFollows.next (State.complete_follows h129))

theorem execFwRevert_follows {a0 a1 a2 s3 : _} (hs3 : Follows z s3) : ResFollows z (execFwRevert a0 a1 a2 s3) := by
  unfold execFwRevert
  extract_lets -merge -useContext -underBinder y0 y1
  have h60 : Follows z y0 := (State.tick_follows hs3)
  clear_value y0 y1
  refine ResFollows.ite ?_ ?_
  · exact (ResFollows.next h60)
  · split
    · exact (ResFollows.ite (ResFollows.next (State.revert_follows h60)) (ResFollows.next h60))
    · split
      · exact (ResFollows.next h60)
      · exact (ResFollows.next (State.revert_follows h60))
    · exact (ResFollows.next (State.revert_follows h60))

theorem State.startBack_follows {s0 a1 : _} (hs0 : Follows z s0) : Follows z (State.startBack s0 a1) := by
  unfold State.startBack
  exact (State.startDrain_follows hs0)

theorem execTrialExpiry_follows {a0 s1 : _} (hs1 : Follows z s1) : ResFollows z (execTrialExpiry a0 s1) := by
  unfold execTrialExpiry
  extract_lets -merge -useContext -underBinder y0
  have h60 : Follows z y0 := (State.tick_follows hs1)
  clear_value y0
  exact (ResFollows.ite (ResFollows.next (State.startBack_follows (State.setFlag_follows (State.raise_follows h60)))) (ResFollows.next h60))

theorem execFwConfirm_follows {a0 s1 : _} (hs1 : Follows z s1) : ResFollows z (execFwConfirm a0 s1) := by
  unfold execFwConfirm
  refine ResFollows.next ?_
  refine State.run_follows hs1 ?_
  · intro x3 x5 h4
    extract_lets -merge -useContext -underBinder y6 y7 y8 y9 y10
    clear_value y6
    have h66 : Follows z y7 := (State.writeRec_follows h4)
    clear_value y7 y8
    have h67 : Follows z y9 := (Follows.ite (State.wr_follows h66) h66)
    clear_value y9
    have h68 : Follows z y10 := (State.wr_follows (State.raise_follows (State.setFlag_follows h67)))
    clear_value y10
    exact (AnsFollows.ite AnsFollows.refuse (AnsFollows.ite AnsFollows.refuse (AnsFollows.ok (State.closeAct_follows h68))))

theorem execFwAbort_follows {a0 s1 : _} (hs1 : Follows z s1) : ResFollows z (execFwAbort a0 s1) := by
  unfold execFwAbort
  exact (ResFollows.next (State.run_follows hs1 (fun _ _ h0 => (AnsFollows.ite AnsFollows.refuse (AnsFollows.ite AnsFollows.refuse (AnsFollows.ite (AnsFollows.later (State.startBack_follows (State.dropStaging_follows h0))) (AnsFollows.ite (AnsFollows.ok (State.dropStaging_follows h0)) (AnsFollows.ok h0))))))))

theorem execMramCheckDone_follows {a0 a1 s2 : _} (hs2 : Follows z s2) : ResFollows z (execMramCheckDone a0 a1 s2) := by
  unfold execMramCheckDone
  extract_lets -merge -useContext -underBinder y0 y1 y2
  have h60 : Follows z y0 := (State.tick_follows hs2)
  clear_value y0 y1
  have h61 : Follows z y2 := (Follows.fresh _ h60)
  clear_value y2
  exact (ResFollows.ite (ResFollows.next (State.endRun_follows (State.setLast_follows h61))) (ResFollows.next h60))

theorem State.bootFirmwareReset_follows {s0 a1 : _} (hs0 : Follows z s0) : Follows z (State.bootFirmwareReset s0 a1) := by
  unfold State.bootFirmwareReset
  extract_lets -merge -useContext -underBinder y0 y1 y2 y3 y4 y5
  have h60 : Follows z y0 := (State.mapBoot_follows (State.dropStaging_follows hs0) rfl rfl rfl)
  clear_value y0
  have h61 : Follows z y1 := (State.releaseNotices_follows (State.setFwRun_follows (State.setFlag_follows h60)))
  clear_value y1 y2 y3
  have h62 : Follows z y4 := (State.wr_follows (State.wr_follows h61))
  clear_value y4
  have h63 : Follows z y5 := (Follows.ite (State.endTrial_follows h62) (State.closeAct_follows h61))
  clear_value y5
  exact (Follows.ite (State.complete_follows h63) h63)

theorem execFirmwareReset_follows {a0 a1 a2 s3 : _} (hs3 : Follows z s3) : ResFollows z (execFirmwareReset a0 a1 a2 s3) := by
  unfold execFirmwareReset
  extract_lets -merge -useContext -underBinder y0 y1 y2
  have h60 : Follows z y0 := (State.tick_follows hs3)
  clear_value y0
  have h61 : Follows z y1 := (State.stopTests_follows (State.resetCores_follows (State.mbxFirmwareReset_follows (State.bootFirmwareReset_follows h60))))
  clear_value y1
  have h62 : Follows z y2 := (Follows.ite (State.dropCommit_follows h61) h61)
  clear_value y2
  exact (ResFollows.ite (ResFollows.next (State.revert_follows h60)) (ResFollows.ite (ResFollows.next (State.mapTally_follows h62)) (ResFollows.next h60)))

theorem execI2cWrite_follows {a0 a1 a2 s3 : _} (hs3 : Follows z s3) : ResFollows z (execI2cWrite a0 a1 a2 s3) := by
  unfold execI2cWrite
  extract_lets -merge -useContext -underBinder y0
  have h60 : Follows z y0 := (State.tick_follows hs3)
  clear_value y0
  split
  · exact (ResFollows.next h60)
  · exact (ResFollows.next (State.mapPins_follows h60))

theorem execI2cRead_follows {a0 a1 s2 : _} (hs2 : Follows z s2) : ResFollows z (execI2cRead a0 a1 s2) := by
  unfold execI2cRead
  extract_lets -merge -useContext -underBinder y0 y1 y2 y3 y4 y5 y6
  have h60 : Follows z y0 := (State.tick_follows hs2)
  clear_value y0
  have h61 : Follows z y1 := (State.refreshPair_follows h60)
  clear_value y1 y2
  have h62 : Follows z y3.1 := by
    unfold y3
    split
    · exact (Follows.fst_mk h61)
    · exact (Follows.fst_mk (Follows.fresh _ h61))
  clear_value y3
  have h68 : Follows z y4 := h62
  have h69 : Follows z y6 := (Follows.mtx h68 rfl)
  clear_value y6
  exact (ResFollows.ite (ResFollows.next (State.mapPins_follows h69)) (ResFollows.next h60))

theorem State.setJtag_follows {s0 a1 : _} (hs0 : Follows z s0) : Follows z (State.setJtag s0 a1) := by
  unfold State.setJtag
  exact (State.mapPins_follows hs0)

theorem execJtagInstruction_follows {a0 a1 s2 : _} (hs2 : Follows z s2) : ResFollows z (execJtagInstruction a0 a1 s2) := by
  unfold execJtagInstruction
  extract_lets -merge -useContext -underBinder y0
  have h60 : Follows z y0 := (State.tick_follows hs2)
  clear_value y0
  exact (ResFollows.next (State.setJtag_follows h60))

theorem execFuseDbg_follows {a0 a1 s2 : _} (hs2 : Follows z s2) : ResFollows z (execFuseDbg a0 a1 s2) := by
  unfold execFuseDbg
  extract_lets -merge -useContext -underBinder y0 y1
  have h60 : Follows z y0 := (State.tick_follows hs2)
  clear_value y0
  have h61 : Follows z y1 := (State.setJtag_follows (State.raise_follows h60))
  clear_value y1
  exact (ResFollows.ite (ResFollows.next (Follows.ite (State.setBitAt_follows h61) h61)) (ResFollows.next (State.setJtag_follows h60)))

theorem execPerstNRise_follows {a0 a1 a2 s3 : _} (hs3 : Follows z s3) : ResFollows z (execPerstNRise a0 a1 a2 s3) := by
  unfold execPerstNRise
  extract_lets -merge -useContext -underBinder y0 y1
  have h60 : Follows z y0 := (State.tick_follows hs3)
  clear_value y0 y1
  exact (ResFollows.next (State.mapPins_follows h60))

end Sys2Proof.Machine
end

