-- ==== Sys2Proof/Laws/State.lean ====
section
/-! SUPPORT. Laws/State.lean: what each update of the state does to each field, and registers and fields read after a write. -/
namespace Sys2Proof.Machine

theorem testBit_bits (x lo w i : Nat) : (bits x lo w).testBit i = (decide (i < w) && x.testBit (lo + i)) := by
  rw [bits, Nat.testBit_mod_two_pow, Nat.testBit_div_two_pow, Nat.add_comm]

theorem bits_lt (x lo w : Nat) : bits x lo w < 2 ^ w := Nat.mod_lt _ (Nat.two_pow_pos w)

theorem testBit_mask (lo w i : Nat) : ((2 ^ w - 1) * 2 ^ lo).testBit i = (decide (lo ≤ i) && decide (i < lo + w)) := by
  rw [Nat.mul_comm, Nat.testBit_two_pow_mul]
  by_cases h : lo ≤ i
  · simp only [h, decide_true, Bool.true_and, Nat.testBit_two_pow_sub_one]
    congr 1
    simp only [eq_iff_iff]
    omega
  · simp [h]

theorem testBit_insertBits (x : W32) (lo w v i : Nat) (hi : i < 32) :
    (insertBits x lo w v).toNat.testBit i =
      if lo ≤ i ∧ i < lo + w then v.testBit (i - lo) else x.toNat.testBit i := by
  have hm : (maskOf lo w).getLsbD i = (decide (lo ≤ i) && decide (i < lo + w)) := by
    rw [maskOf, BitVec.getLsbD_ofNat, testBit_mask]; simp [hi]
  have hv : (BitVec.ofNat 32 (v % 2 ^ w * 2 ^ lo)).getLsbD i = (decide (lo ≤ i) && decide (i < lo + w) && v.testBit (i - lo)) := by
    rw [BitVec.getLsbD_ofNat, Nat.mul_comm, Nat.testBit_two_pow_mul, Nat.testBit_mod_two_pow]
    by_cases h : lo ≤ i
    · have : (i - lo < w) = (i < lo + w) := by simp only [eq_iff_iff]; omega
      simp [h, hi, this]
    · simp [h]
  rw [insertBits, BitVec.testBit_toNat, BitVec.getLsbD_or, BitVec.getLsbD_and, BitVec.getLsbD_not, hm, hv, BitVec.testBit_toNat]
  by_cases h : lo ≤ i ∧ i < lo + w
  · simp [h]
  · simp only [if_neg h]
    rcases not_and_or.1 h with h | h <;> simp [h, hi]

/-- A field that was just set reads back the low bits of what was set. -/
theorem bits_insertBits_same (x : W32) (lo w v : Nat) (h : lo + w ≤ 32) : bits (insertBits x lo w v).toNat lo w = v % 2 ^ w := by
  apply Nat.eq_of_testBit_eq
  intro i
  rw [testBit_bits, Nat.testBit_mod_two_pow]
  by_cases hi : i < w
  · rw [testBit_insertBits _ _ _ _ _ (by omega), if_pos (by omega), Nat.add_sub_cancel_left]
  · simp [hi]

/-- Setting a field leaves a field that does not overlap it alone. -/
theorem bits_insertBits_other (x : W32) (lo w v lo' w' : Nat) (h : lo' + w' ≤ lo ∨ lo + w ≤ lo') (h' : lo' + w' ≤ 32) :
    bits (insertBits x lo w v).toNat lo' w' = bits x.toNat lo' w' := by
  apply Nat.eq_of_testBit_eq
  intro i
  rw [testBit_bits, testBit_bits]
  by_cases hi : i < w'
  · rw [testBit_insertBits _ _ _ _ _ (by omega), if_neg (by omega)]
  · simp [hi]

/-- A register that was just written reads as written, every other as before. -/
@[simp] theorem State.reg_setReg (s : State) (a b : Nat) (v : W32) : (s.setReg a v).reg b = if a = b then v else s.reg b :=
  Store.get_put

/-- A field that was just written reads as written. -/
@[simp] theorem State.rd_wr_same (s : State) (f : Fld) (v : Nat) (h : f.lo + f.w ≤ 32) : (s.wr f v).rd f = v % 2 ^ f.w := by
  simp [State.rd, State.wr, bits_insertBits_same _ _ _ _ h]

/-- A write of a field leaves every field at another address alone. -/
theorem State.rd_wr_addr (s : State) {f g : Fld} (v : Nat) (h : f.addr ≠ g.addr) : (s.wr f v).rd g = s.rd g := by
  simp [State.rd, State.wr, h]

/-- A write of a field leaves every field that does not overlap it alone. -/
theorem State.rd_wr_field (s : State) {f g : Fld} (v : Nat) (h : g.lo + g.w ≤ f.lo ∨ f.lo + f.w ≤ g.lo) (hg : g.lo + g.w ≤ 32) :
    (s.wr f v).rd g = s.rd g := by
  by_cases ha : f.addr = g.addr
  · simp [State.rd, State.wr, ha, bits_insertBits_other _ _ _ _ _ _ h hg]
  · exact State.rd_wr_addr s v ha

/-- Two fields that share no bit. -/
def Fld.apart (f g : Fld) : Bool :=
  decide (f.addr ≠ g.addr) || ((decide (g.lo + g.w ≤ f.lo) || decide (f.lo + f.w ≤ g.lo)) && decide (g.lo + g.w ≤ 32))

/-- A write of a field leaves every field apart from it alone. -/
theorem State.rd_wr_apart (s : State) {f g : Fld} (v : Nat) (h : f.apart g = true) : (s.wr f v).rd g = s.rd g := by
  simp only [Fld.apart, Bool.or_eq_true, Bool.and_eq_true, decide_eq_true_eq] at h
  rcases h with h | ⟨h, hg⟩
  · exact State.rd_wr_addr s v h
  · exact State.rd_wr_field s v h hg

/-! ### One lemma for each field of each update -/

@[simp] theorem State.mapMbx_now (s : State) (f : Mbx → Mbx) : (s.mapMbx f).now = s.now := rfl
@[simp] theorem State.mapMbx_fresh (s : State) (f : Mbx → Mbx) : (s.mapMbx f).fresh = s.fresh := rfl
@[simp] theorem State.mapMbx_pending (s : State) (f : Mbx → Mbx) : (s.mapMbx f).pending = s.pending := rfl
@[simp] theorem State.mapMbx_out (s : State) (f : Mbx → Mbx) : (s.mapMbx f).out = s.out := rfl
@[simp] theorem State.mapMbx_regs (s : State) (f : Mbx → Mbx) : (s.mapMbx f).regs = s.regs := rfl
@[simp] theorem State.mapMbx_mbx (s : State) (f : Mbx → Mbx) : (s.mapMbx f).mbx = f s.mbx := rfl
@[simp] theorem State.mapMbx_mtx (s : State) (f : Mbx → Mbx) : (s.mapMbx f).mtx = s.mtx := rfl
@[simp] theorem State.mapMbx_map (s : State) (f : Mbx → Mbx) : (s.mapMbx f).map = s.map := rfl
@[simp] theorem State.mapMbx_pair (s : State) (f : Mbx → Mbx) : (s.mapMbx f).pair = s.pair := rfl
@[simp] theorem State.mapMbx_mate (s : State) (f : Mbx → Mbx) : (s.mapMbx f).mate = s.mate := rfl
@[simp] theorem State.mapMbx_sel (s : State) (f : Mbx → Mbx) : (s.mapMbx f).sel = s.sel := rfl
@[simp] theorem State.mapMbx_core (s : State) (f : Mbx → Mbx) : (s.mapMbx f).core = s.core := rfl
@[simp] theorem State.mapMbx_eng (s : State) (f : Mbx → Mbx) : (s.mapMbx f).eng = s.eng := rfl
@[simp] theorem State.mapMbx_line (s : State) (f : Mbx → Mbx) : (s.mapMbx f).line = s.line := rfl
@[simp] theorem State.mapMbx_tmg (s : State) (f : Mbx → Mbx) : (s.mapMbx f).tmg = s.tmg := rfl
@[simp] theorem State.mapMbx_mdc (s : State) (f : Mbx → Mbx) : (s.mapMbx f).mdc = s.mdc := rfl
@[simp] theorem State.mapMbx_pwr (s : State) (f : Mbx → Mbx) : (s.mapMbx f).pwr = s.pwr := rfl
@[simp] theorem State.mapMbx_tally (s : State) (f : Mbx → Mbx) : (s.mapMbx f).tally = s.tally := rfl
@[simp] theorem State.mapMbx_boot (s : State) (f : Mbx → Mbx) : (s.mapMbx f).boot = s.boot := rfl
@[simp] theorem State.mapMbx_pins (s : State) (f : Mbx → Mbx) : (s.mapMbx f).pins = s.pins := rfl
@[simp] theorem State.mapMbx_reg (s : State) (f : Mbx → Mbx) (a : Nat) : (s.mapMbx f).reg a = s.reg a := rfl
@[simp] theorem State.mapMbx_rd (s : State) (f : Mbx → Mbx) (a : Fld) : (s.mapMbx f).rd a = s.rd a := rfl
@[simp] theorem State.mapMtx_now (s : State) (f : Mtx → Mtx) : (s.mapMtx f).now = s.now := rfl
@[simp] theorem State.mapMtx_fresh (s : State) (f : Mtx → Mtx) : (s.mapMtx f).fresh = s.fresh := rfl
@[simp] theorem State.mapMtx_pending (s : State) (f : Mtx → Mtx) : (s.mapMtx f).pending = s.pending := rfl
@[simp] theorem State.mapMtx_out (s : State) (f : Mtx → Mtx) : (s.mapMtx f).out = s.out := rfl
@[simp] theorem State.mapMtx_regs (s : State) (f : Mtx → Mtx) : (s.mapMtx f).regs = s.regs := rfl
@[simp] theorem State.mapMtx_mbx (s : State) (f : Mtx → Mtx) : (s.mapMtx f).mbx = s.mbx := rfl
@[simp] theorem State.mapMtx_mtx (s : State) (f : Mtx → Mtx) : (s.mapMtx f).mtx = f s.mtx := rfl
@[simp] theorem State.mapMtx_map (s : State) (f : Mtx → Mtx) : (s.mapMtx f).map = s.map := rfl
@[simp] theorem State.mapMtx_pair (s : State) (f : Mtx → Mtx) : (s.mapMtx f).pair = s.pair := rfl
@[simp] theorem State.mapMtx_mate (s : State) (f : Mtx → Mtx) : (s.mapMtx f).mate = s.mate := rfl
@[simp] theorem State.mapMtx_sel (s : State) (f : Mtx → Mtx) : (s.mapMtx f).sel = s.sel := rfl
@[simp] theorem State.mapMtx_core (s : State) (f : Mtx → Mtx) : (s.mapMtx f).core = s.core := rfl
@[simp] theorem State.mapMtx_eng (s : State) (f : Mtx → Mtx) : (s.mapMtx f).eng = s.eng := rfl
@[simp] theorem State.mapMtx_line (s : State) (f : Mtx → Mtx) : (s.mapMtx f).line = s.line := rfl
@[simp] theorem State.mapMtx_tmg (s : State) (f : Mtx → Mtx) : (s.mapMtx f).tmg = s.tmg := rfl
@[simp] theorem State.mapMtx_mdc (s : State) (f : Mtx → Mtx) : (s.mapMtx f).mdc = s.mdc := rfl
@[simp] theorem State.mapMtx_pwr (s : State) (f : Mtx → Mtx) : (s.mapMtx f).pwr = s.pwr := rfl
@[simp] theorem State.mapMtx_tally (s : State) (f : Mtx → Mtx) : (s.mapMtx f).tally = s.tally := rfl
@[simp] theorem State.mapMtx_boot (s : State) (f : Mtx → Mtx) : (s.mapMtx f).boot = s.boot := rfl
@[simp] theorem State.mapMtx_pins (s : State) (f : Mtx → Mtx) : (s.mapMtx f).pins = s.pins := rfl
@[simp] theorem State.mapMtx_reg (s : State) (f : Mtx → Mtx) (a : Nat) : (s.mapMtx f).reg a = s.reg a := rfl
@[simp] theorem State.mapMtx_rd (s : State) (f : Mtx → Mtx) (a : Fld) : (s.mapMtx f).rd a = s.rd a := rfl
@[simp] theorem State.mapMap_now (s : State) (f : MapSt → MapSt) : (s.mapMap f).now = s.now := rfl
@[simp] theorem State.mapMap_fresh (s : State) (f : MapSt → MapSt) : (s.mapMap f).fresh = s.fresh := rfl
@[simp] theorem State.mapMap_pending (s : State) (f : MapSt → MapSt) : (s.mapMap f).pending = s.pending := rfl
@[simp] theorem State.mapMap_out (s : State) (f : MapSt → MapSt) : (s.mapMap f).out = s.out := rfl
@[simp] theorem State.mapMap_regs (s : State) (f : MapSt → MapSt) : (s.mapMap f).regs = s.regs := rfl
@[simp] theorem State.mapMap_mbx (s : State) (f : MapSt → MapSt) : (s.mapMap f).mbx = s.mbx := rfl
@[simp] theorem State.mapMap_mtx (s : State) (f : MapSt → MapSt) : (s.mapMap f).mtx = s.mtx := rfl
@[simp] theorem State.mapMap_map (s : State) (f : MapSt → MapSt) : (s.mapMap f).map = f s.map := rfl
@[simp] theorem State.mapMap_pair (s : State) (f : MapSt → MapSt) : (s.mapMap f).pair = s.pair := rfl
@[simp] theorem State.mapMap_mate (s : State) (f : MapSt → MapSt) : (s.mapMap f).mate = s.mate := rfl
@[simp] theorem State.mapMap_sel (s : State) (f : MapSt → MapSt) : (s.mapMap f).sel = s.sel := rfl
@[simp] theorem State.mapMap_core (s : State) (f : MapSt → MapSt) : (s.mapMap f).core = s.core := rfl
@[simp] theorem State.mapMap_eng (s : State) (f : MapSt → MapSt) : (s.mapMap f).eng = s.eng := rfl
@[simp] theorem State.mapMap_line (s : State) (f : MapSt → MapSt) : (s.mapMap f).line = s.line := rfl
@[simp] theorem State.mapMap_tmg (s : State) (f : MapSt → MapSt) : (s.mapMap f).tmg = s.tmg := rfl
@[simp] theorem State.mapMap_mdc (s : State) (f : MapSt → MapSt) : (s.mapMap f).mdc = s.mdc := rfl
@[simp] theorem State.mapMap_pwr (s : State) (f : MapSt → MapSt) : (s.mapMap f).pwr = s.pwr := rfl
@[simp] theorem State.mapMap_tally (s : State) (f : MapSt → MapSt) : (s.mapMap f).tally = s.tally := rfl
@[simp] theorem State.mapMap_boot (s : State) (f : MapSt → MapSt) : (s.mapMap f).boot = s.boot := rfl
@[simp] theorem State.mapMap_pins (s : State) (f : MapSt → MapSt) : (s.mapMap f).pins = s.pins := rfl
@[simp] theorem State.mapMap_reg (s : State) (f : MapSt → MapSt) (a : Nat) : (s.mapMap f).reg a = s.reg a := rfl
@[simp] theorem State.mapMap_rd (s : State) (f : MapSt → MapSt) (a : Fld) : (s.mapMap f).rd a = s.rd a := rfl
@[simp] theorem State.mapPair_now (s : State) (f : PairSt → PairSt) : (s.mapPair f).now = s.now := rfl
@[simp] theorem State.mapPair_fresh (s : State) (f : PairSt → PairSt) : (s.mapPair f).fresh = s.fresh := rfl
@[simp] theorem State.mapPair_pending (s : State) (f : PairSt → PairSt) : (s.mapPair f).pending = s.pending := rfl
@[simp] theorem State.mapPair_out (s : State) (f : PairSt → PairSt) : (s.mapPair f).out = s.out := rfl
@[simp] theorem State.mapPair_regs (s : State) (f : PairSt → PairSt) : (s.mapPair f).regs = s.regs := rfl
@[simp] theorem State.mapPair_mbx (s : State) (f : PairSt → PairSt) : (s.mapPair f).mbx = s.mbx := rfl
@[simp] theorem State.mapPair_mtx (s : State) (f : PairSt → PairSt) : (s.mapPair f).mtx = s.mtx := rfl
@[simp] theorem State.mapPair_map (s : State) (f : PairSt → PairSt) : (s.mapPair f).map = s.map := rfl
@[simp] theorem State.mapPair_pair (s : State) (f : PairSt → PairSt) : (s.mapPair f).pair = f s.pair := rfl
@[simp] theorem State.mapPair_mate (s : State) (f : PairSt → PairSt) : (s.mapPair f).mate = s.mate := rfl
@[simp] theorem State.mapPair_sel (s : State) (f : PairSt → PairSt) : (s.mapPair f).sel = s.sel := rfl
@[simp] theorem State.mapPair_core (s : State) (f : PairSt → PairSt) : (s.mapPair f).core = s.core := rfl
@[simp] theorem State.mapPair_eng (s : State) (f : PairSt → PairSt) : (s.mapPair f).eng = s.eng := rfl
@[simp] theorem State.mapPair_line (s : State) (f : PairSt → PairSt) : (s.mapPair f).line = s.line := rfl
@[simp] theorem State.mapPair_tmg (s : State) (f : PairSt → PairSt) : (s.mapPair f).tmg = s.tmg := rfl
@[simp] theorem State.mapPair_mdc (s : State) (f : PairSt → PairSt) : (s.mapPair f).mdc = s.mdc := rfl
@[simp] theorem State.mapPair_pwr (s : State) (f : PairSt → PairSt) : (s.mapPair f).pwr = s.pwr := rfl
@[simp] theorem State.mapPair_tally (s : State) (f : PairSt → PairSt) : (s.mapPair f).tally = s.tally := rfl
@[simp] theorem State.mapPair_boot (s : State) (f : PairSt → PairSt) : (s.mapPair f).boot = s.boot := rfl
@[simp] theorem State.mapPair_pins (s : State) (f : PairSt → PairSt) : (s.mapPair f).pins = s.pins := rfl
@[simp] theorem State.mapPair_reg (s : State) (f : PairSt → PairSt) (a : Nat) : (s.mapPair f).reg a = s.reg a := rfl
@[simp] theorem State.mapPair_rd (s : State) (f : PairSt → PairSt) (a : Fld) : (s.mapPair f).rd a = s.rd a := rfl
@[simp] theorem State.mapMate_now (s : State) (f : MateSt → MateSt) : (s.mapMate f).now = s.now := rfl
@[simp] theorem State.mapMate_fresh (s : State) (f : MateSt → MateSt) : (s.mapMate f).fresh = s.fresh := rfl
@[simp] theorem State.mapMate_pending (s : State) (f : MateSt → MateSt) : (s.mapMate f).pending = s.pending := rfl
@[simp] theorem State.mapMate_out (s : State) (f : MateSt → MateSt) : (s.mapMate f).out = s.out := rfl
@[simp] theorem State.mapMate_regs (s : State) (f : MateSt → MateSt) : (s.mapMate f).regs = s.regs := rfl
@[simp] theorem State.mapMate_mbx (s : State) (f : MateSt → MateSt) : (s.mapMate f).mbx = s.mbx := rfl
@[simp] theorem State.mapMate_mtx (s : State) (f : MateSt → MateSt) : (s.mapMate f).mtx = s.mtx := rfl
@[simp] theorem State.mapMate_map (s : State) (f : MateSt → MateSt) : (s.mapMate f).map = s.map := rfl
@[simp] theorem State.mapMate_pair (s : State) (f : MateSt → MateSt) : (s.mapMate f).pair = s.pair := rfl
@[simp] theorem State.mapMate_mate (s : State) (f : MateSt → MateSt) : (s.mapMate f).mate = f s.mate := rfl
@[simp] theorem State.mapMate_sel (s : State) (f : MateSt → MateSt) : (s.mapMate f).sel = s.sel := rfl
@[simp] theorem State.mapMate_core (s : State) (f : MateSt → MateSt) : (s.mapMate f).core = s.core := rfl
@[simp] theorem State.mapMate_eng (s : State) (f : MateSt → MateSt) : (s.mapMate f).eng = s.eng := rfl
@[simp] theorem State.mapMate_line (s : State) (f : MateSt → MateSt) : (s.mapMate f).line = s.line := rfl
@[simp] theorem State.mapMate_tmg (s : State) (f : MateSt → MateSt) : (s.mapMate f).tmg = s.tmg := rfl
@[simp] theorem State.mapMate_mdc (s : State) (f : MateSt → MateSt) : (s.mapMate f).mdc = s.mdc := rfl
@[simp] theorem State.mapMate_pwr (s : State) (f : MateSt → MateSt) : (s.mapMate f).pwr = s.pwr := rfl
@[simp] theorem State.mapMate_tally (s : State) (f : MateSt → MateSt) : (s.mapMate f).tally = s.tally := rfl
@[simp] theorem State.mapMate_boot (s : State) (f : MateSt → MateSt) : (s.mapMate f).boot = s.boot := rfl
@[simp] theorem State.mapMate_pins (s : State) (f : MateSt → MateSt) : (s.mapMate f).pins = s.pins := rfl
@[simp] theorem State.mapMate_reg (s : State) (f : MateSt → MateSt) (a : Nat) : (s.mapMate f).reg a = s.reg a := rfl
@[simp] theorem State.mapMate_rd (s : State) (f : MateSt → MateSt) (a : Fld) : (s.mapMate f).rd a = s.rd a := rfl
@[simp] theorem State.mapSel_now (s : State) (f : SelSt → SelSt) : (s.mapSel f).now = s.now := rfl
@[simp] theorem State.mapSel_fresh (s : State) (f : SelSt → SelSt) : (s.mapSel f).fresh = s.fresh := rfl
@[simp] theorem State.mapSel_pending (s : State) (f : SelSt → SelSt) : (s.mapSel f).pending = s.pending := rfl
@[simp] theorem State.mapSel_out (s : State) (f : SelSt → SelSt) : (s.mapSel f).out = s.out := rfl
@[simp] theorem State.mapSel_regs (s : State) (f : SelSt → SelSt) : (s.mapSel f).regs = s.regs := rfl
@[simp] theorem State.mapSel_mbx (s : State) (f : SelSt → SelSt) : (s.mapSel f).mbx = s.mbx := rfl
@[simp] theorem State.mapSel_mtx (s : State) (f : SelSt → SelSt) : (s.mapSel f).mtx = s.mtx := rfl
@[simp] theorem State.mapSel_map (s : State) (f : SelSt → SelSt) : (s.mapSel f).map = s.map := rfl
@[simp] theorem State.mapSel_pair (s : State) (f : SelSt → SelSt) : (s.mapSel f).pair = s.pair := rfl
@[simp] theorem State.mapSel_mate (s : State) (f : SelSt → SelSt) : (s.mapSel f).mate = s.mate := rfl
@[simp] theorem State.mapSel_sel (s : State) (f : SelSt → SelSt) : (s.mapSel f).sel = f s.sel := rfl
@[simp] theorem State.mapSel_core (s : State) (f : SelSt → SelSt) : (s.mapSel f).core = s.core := rfl
@[simp] theorem State.mapSel_eng (s : State) (f : SelSt → SelSt) : (s.mapSel f).eng = s.eng := rfl
@[simp] theorem State.mapSel_line (s : State) (f : SelSt → SelSt) : (s.mapSel f).line = s.line := rfl
@[simp] theorem State.mapSel_tmg (s : State) (f : SelSt → SelSt) : (s.mapSel f).tmg = s.tmg := rfl
@[simp] theorem State.mapSel_mdc (s : State) (f : SelSt → SelSt) : (s.mapSel f).mdc = s.mdc := rfl
@[simp] theorem State.mapSel_pwr (s : State) (f : SelSt → SelSt) : (s.mapSel f).pwr = s.pwr := rfl
@[simp] theorem State.mapSel_tally (s : State) (f : SelSt → SelSt) : (s.mapSel f).tally = s.tally := rfl
@[simp] theorem State.mapSel_boot (s : State) (f : SelSt → SelSt) : (s.mapSel f).boot = s.boot := rfl
@[simp] theorem State.mapSel_pins (s : State) (f : SelSt → SelSt) : (s.mapSel f).pins = s.pins := rfl
@[simp] theorem State.mapSel_reg (s : State) (f : SelSt → SelSt) (a : Nat) : (s.mapSel f).reg a = s.reg a := rfl
@[simp] theorem State.mapSel_rd (s : State) (f : SelSt → SelSt) (a : Fld) : (s.mapSel f).rd a = s.rd a := rfl
@[simp] theorem State.mapCore_now (s : State) (f : CoreSt → CoreSt) : (s.mapCore f).now = s.now := rfl
@[simp] theorem State.mapCore_fresh (s : State) (f : CoreSt → CoreSt) : (s.mapCore f).fresh = s.fresh := rfl
@[simp] theorem State.mapCore_pending (s : State) (f : CoreSt → CoreSt) : (s.mapCore f).pending = s.pending := rfl
@[simp] theorem State.mapCore_out (s : State) (f : CoreSt → CoreSt) : (s.mapCore f).out = s.out := rfl
@[simp] theorem State.mapCore_regs (s : State) (f : CoreSt → CoreSt) : (s.mapCore f).regs = s.regs := rfl
@[simp] theorem State.mapCore_mbx (s : State) (f : CoreSt → CoreSt) : (s.mapCore f).mbx = s.mbx := rfl
@[simp] theorem State.mapCore_mtx (s : State) (f : CoreSt → CoreSt) : (s.mapCore f).mtx = s.mtx := rfl
@[simp] theorem State.mapCore_map (s : State) (f : CoreSt → CoreSt) : (s.mapCore f).map = s.map := rfl
@[simp] theorem State.mapCore_pair (s : State) (f : CoreSt → CoreSt) : (s.mapCore f).pair = s.pair := rfl
@[simp] theorem State.mapCore_mate (s : State) (f : CoreSt → CoreSt) : (s.mapCore f).mate = s.mate := rfl
@[simp] theorem State.mapCore_sel (s : State) (f : CoreSt → CoreSt) : (s.mapCore f).sel = s.sel := rfl
@[simp] theorem State.mapCore_core (s : State) (f : CoreSt → CoreSt) : (s.mapCore f).core = f s.core := rfl
@[simp] theorem State.mapCore_eng (s : State) (f : CoreSt → CoreSt) : (s.mapCore f).eng = s.eng := rfl
@[simp] theorem State.mapCore_line (s : State) (f : CoreSt → CoreSt) : (s.mapCore f).line = s.line := rfl
@[simp] theorem State.mapCore_tmg (s : State) (f : CoreSt → CoreSt) : (s.mapCore f).tmg = s.tmg := rfl
@[simp] theorem State.mapCore_mdc (s : State) (f : CoreSt → CoreSt) : (s.mapCore f).mdc = s.mdc := rfl
@[simp] theorem State.mapCore_pwr (s : State) (f : CoreSt → CoreSt) : (s.mapCore f).pwr = s.pwr := rfl
@[simp] theorem State.mapCore_tally (s : State) (f : CoreSt → CoreSt) : (s.mapCore f).tally = s.tally := rfl
@[simp] theorem State.mapCore_boot (s : State) (f : CoreSt → CoreSt) : (s.mapCore f).boot = s.boot := rfl
@[simp] theorem State.mapCore_pins (s : State) (f : CoreSt → CoreSt) : (s.mapCore f).pins = s.pins := rfl
@[simp] theorem State.mapCore_reg (s : State) (f : CoreSt → CoreSt) (a : Nat) : (s.mapCore f).reg a = s.reg a := rfl
@[simp] theorem State.mapCore_rd (s : State) (f : CoreSt → CoreSt) (a : Fld) : (s.mapCore f).rd a = s.rd a := rfl
@[simp] theorem State.mapEng_now (s : State) (f : EngSt → EngSt) : (s.mapEng f).now = s.now := rfl
@[simp] theorem State.mapEng_fresh (s : State) (f : EngSt → EngSt) : (s.mapEng f).fresh = s.fresh := rfl
@[simp] theorem State.mapEng_pending (s : State) (f : EngSt → EngSt) : (s.mapEng f).pending = s.pending := rfl
@[simp] theorem State.mapEng_out (s : State) (f : EngSt → EngSt) : (s.mapEng f).out = s.out := rfl
@[simp] theorem State.mapEng_regs (s : State) (f : EngSt → EngSt) : (s.mapEng f).regs = s.regs := rfl
@[simp] theorem State.mapEng_mbx (s : State) (f : EngSt → EngSt) : (s.mapEng f).mbx = s.mbx := rfl
@[simp] theorem State.mapEng_mtx (s : State) (f : EngSt → EngSt) : (s.mapEng f).mtx = s.mtx := rfl
@[simp] theorem State.mapEng_map (s : State) (f : EngSt → EngSt) : (s.mapEng f).map = s.map := rfl
@[simp] theorem State.mapEng_pair (s : State) (f : EngSt → EngSt) : (s.mapEng f).pair = s.pair := rfl
@[simp] theorem State.mapEng_mate (s : State) (f : EngSt → EngSt) : (s.mapEng f).mate = s.mate := rfl
@[simp] theorem State.mapEng_sel (s : State) (f : EngSt → EngSt) : (s.mapEng f).sel = s.sel := rfl
@[simp] theorem State.mapEng_core (s : State) (f : EngSt → EngSt) : (s.mapEng f).core = s.core := rfl
@[simp] theorem State.mapEng_eng (s : State) (f : EngSt → EngSt) : (s.mapEng f).eng = f s.eng := rfl
@[simp] theorem State.mapEng_line (s : State) (f : EngSt → EngSt) : (s.mapEng f).line = s.line := rfl
@[simp] theorem State.mapEng_tmg (s : State) (f : EngSt → EngSt) : (s.mapEng f).tmg = s.tmg := rfl
@[simp] theorem State.mapEng_mdc (s : State) (f : EngSt → EngSt) : (s.mapEng f).mdc = s.mdc := rfl
@[simp] theorem State.mapEng_pwr (s : State) (f : EngSt → EngSt) : (s.mapEng f).pwr = s.pwr := rfl
@[simp] theorem State.mapEng_tally (s : State) (f : EngSt → EngSt) : (s.mapEng f).tally = s.tally := rfl
@[simp] theorem State.mapEng_boot (s : State) (f : EngSt → EngSt) : (s.mapEng f).boot = s.boot := rfl
@[simp] theorem State.mapEng_pins (s : State) (f : EngSt → EngSt) : (s.mapEng f).pins = s.pins := rfl
@[simp] theorem State.mapEng_reg (s : State) (f : EngSt → EngSt) (a : Nat) : (s.mapEng f).reg a = s.reg a := rfl
@[simp] theorem State.mapEng_rd (s : State) (f : EngSt → EngSt) (a : Fld) : (s.mapEng f).rd a = s.rd a := rfl
@[simp] theorem State.mapLine_now (s : State) (f : LineSt → LineSt) : (s.mapLine f).now = s.now := rfl
@[simp] theorem State.mapLine_fresh (s : State) (f : LineSt → LineSt) : (s.mapLine f).fresh = s.fresh := rfl
@[simp] theorem State.mapLine_pending (s : State) (f : LineSt → LineSt) : (s.mapLine f).pending = s.pending := rfl
@[simp] theorem State.mapLine_out (s : State) (f : LineSt → LineSt) : (s.mapLine f).out = s.out := rfl
@[simp] theorem State.mapLine_regs (s : State) (f : LineSt → LineSt) : (s.mapLine f).regs = s.regs := rfl
@[simp] theorem State.mapLine_mbx (s : State) (f : LineSt → LineSt) : (s.mapLine f).mbx = s.mbx := rfl
@[simp] theorem State.mapLine_mtx (s : State) (f : LineSt → LineSt) : (s.mapLine f).mtx = s.mtx := rfl
@[simp] theorem State.mapLine_map (s : State) (f : LineSt → LineSt) : (s.mapLine f).map = s.map := rfl
@[simp] theorem State.mapLine_pair (s : State) (f : LineSt → LineSt) : (s.mapLine f).pair = s.pair := rfl
@[simp] theorem State.mapLine_mate (s : State) (f : LineSt → LineSt) : (s.mapLine f).mate = s.mate := rfl
@[simp] theorem State.mapLine_sel (s : State) (f : LineSt → LineSt) : (s.mapLine f).sel = s.sel := rfl
@[simp] theorem State.mapLine_core (s : State) (f : LineSt → LineSt) : (s.mapLine f).core = s.core := rfl
@[simp] theorem State.mapLine_eng (s : State) (f : LineSt → LineSt) : (s.mapLine f).eng = s.eng := rfl
@[simp] theorem State.mapLine_line (s : State) (f : LineSt → LineSt) : (s.mapLine f).line = f s.line := rfl
@[simp] theorem State.mapLine_tmg (s : State) (f : LineSt → LineSt) : (s.mapLine f).tmg = s.tmg := rfl
@[simp] theorem State.mapLine_mdc (s : State) (f : LineSt → LineSt) : (s.mapLine f).mdc = s.mdc := rfl
@[simp] theorem State.mapLine_pwr (s : State) (f : LineSt → LineSt) : (s.mapLine f).pwr = s.pwr := rfl
@[simp] theorem State.mapLine_tally (s : State) (f : LineSt → LineSt) : (s.mapLine f).tally = s.tally := rfl
@[simp] theorem State.mapLine_boot (s : State) (f : LineSt → LineSt) : (s.mapLine f).boot = s.boot := rfl
@[simp] theorem State.mapLine_pins (s : State) (f : LineSt → LineSt) : (s.mapLine f).pins = s.pins := rfl
@[simp] theorem State.mapLine_reg (s : State) (f : LineSt → LineSt) (a : Nat) : (s.mapLine f).reg a = s.reg a := rfl
@[simp] theorem State.mapLine_rd (s : State) (f : LineSt → LineSt) (a : Fld) : (s.mapLine f).rd a = s.rd a := rfl
@[simp] theorem State.mapTmg_now (s : State) (f : TmgSt → TmgSt) : (s.mapTmg f).now = s.now := rfl
@[simp] theorem State.mapTmg_fresh (s : State) (f : TmgSt → TmgSt) : (s.mapTmg f).fresh = s.fresh := rfl
@[simp] theorem State.mapTmg_pending (s : State) (f : TmgSt → TmgSt) : (s.mapTmg f).pending = s.pending := rfl
@[simp] theorem State.mapTmg_out (s : State) (f : TmgSt → TmgSt) : (s.mapTmg f).out = s.out := rfl
@[simp] theorem State.mapTmg_regs (s : State) (f : TmgSt → TmgSt) : (s.mapTmg f).regs = s.regs := rfl
@[simp] theorem State.mapTmg_mbx (s : State) (f : TmgSt → TmgSt) : (s.mapTmg f).mbx = s.mbx := rfl
@[simp] theorem State.mapTmg_mtx (s : State) (f : TmgSt → TmgSt) : (s.mapTmg f).mtx = s.mtx := rfl
@[simp] theorem State.mapTmg_map (s : State) (f : TmgSt → TmgSt) : (s.mapTmg f).map = s.map := rfl
@[simp] theorem State.mapTmg_pair (s : State) (f : TmgSt → TmgSt) : (s.mapTmg f).pair = s.pair := rfl
@[simp] theorem State.mapTmg_mate (s : State) (f : TmgSt → TmgSt) : (s.mapTmg f).mate = s.mate := rfl
@[simp] theorem State.mapTmg_sel (s : State) (f : TmgSt → TmgSt) : (s.mapTmg f).sel = s.sel := rfl
@[simp] theorem State.mapTmg_core (s : State) (f : TmgSt → TmgSt) : (s.mapTmg f).core = s.core := rfl
@[simp] theorem State.mapTmg_eng (s : State) (f : TmgSt → TmgSt) : (s.mapTmg f).eng = s.eng := rfl
@[simp] theorem State.mapTmg_line (s : State) (f : TmgSt → TmgSt) : (s.mapTmg f).line = s.line := rfl
@[simp] theorem State.mapTmg_tmg (s : State) (f : TmgSt → TmgSt) : (s.mapTmg f).tmg = f s.tmg := rfl
@[simp] theorem State.mapTmg_mdc (s : State) (f : TmgSt → TmgSt) : (s.mapTmg f).mdc = s.mdc := rfl
@[simp] theorem State.mapTmg_pwr (s : State) (f : TmgSt → TmgSt) : (s.mapTmg f).pwr = s.pwr := rfl
@[simp] theorem State.mapTmg_tally (s : State) (f : TmgSt → TmgSt) : (s.mapTmg f).tally = s.tally := rfl
@[simp] theorem State.mapTmg_boot (s : State) (f : TmgSt → TmgSt) : (s.mapTmg f).boot = s.boot := rfl
@[simp] theorem State.mapTmg_pins (s : State) (f : TmgSt → TmgSt) : (s.mapTmg f).pins = s.pins := rfl
@[simp] theorem State.mapTmg_reg (s : State) (f : TmgSt → TmgSt) (a : Nat) : (s.mapTmg f).reg a = s.reg a := rfl
@[simp] theorem State.mapTmg_rd (s : State) (f : TmgSt → TmgSt) (a : Fld) : (s.mapTmg f).rd a = s.rd a := rfl
@[simp] theorem State.mapMdc_now (s : State) (f : MdcSt → MdcSt) : (s.mapMdc f).now = s.now := rfl
@[simp] theorem State.mapMdc_fresh (s : State) (f : MdcSt → MdcSt) : (s.mapMdc f).fresh = s.fresh := rfl
@[simp] theorem State.mapMdc_pending (s : State) (f : MdcSt → MdcSt) : (s.mapMdc f).pending = s.pending := rfl
@[simp] theorem State.mapMdc_out (s : State) (f : MdcSt → MdcSt) : (s.mapMdc f).out = s.out := rfl
@[simp] theorem State.mapMdc_regs (s : State) (f : MdcSt → MdcSt) : (s.mapMdc f).regs = s.regs := rfl
@[simp] theorem State.mapMdc_mbx (s : State) (f : MdcSt → MdcSt) : (s.mapMdc f).mbx = s.mbx := rfl
@[simp] theorem State.mapMdc_mtx (s : State) (f : MdcSt → MdcSt) : (s.mapMdc f).mtx = s.mtx := rfl
@[simp] theorem State.mapMdc_map (s : State) (f : MdcSt → MdcSt) : (s.mapMdc f).map = s.map := rfl
@[simp] theorem State.mapMdc_pair (s : State) (f : MdcSt → MdcSt) : (s.mapMdc f).pair = s.pair := rfl
@[simp] theorem State.mapMdc_mate (s : State) (f : MdcSt → MdcSt) : (s.mapMdc f).mate = s.mate := rfl
@[simp] theorem State.mapMdc_sel (s : State) (f : MdcSt → MdcSt) : (s.mapMdc f).sel = s.sel := rfl
@[simp] theorem State.mapMdc_core (s : State) (f : MdcSt → MdcSt) : (s.mapMdc f).core = s.core := rfl
@[simp] theorem State.mapMdc_eng (s : State) (f : MdcSt → MdcSt) : (s.mapMdc f).eng = s.eng := rfl
@[simp] theorem State.mapMdc_line (s : State) (f : MdcSt → MdcSt) : (s.mapMdc f).line = s.line := rfl
@[simp] theorem State.mapMdc_tmg (s : State) (f : MdcSt → MdcSt) : (s.mapMdc f).tmg = s.tmg := rfl
@[simp] theorem State.mapMdc_mdc (s : State) (f : MdcSt → MdcSt) : (s.mapMdc f).mdc = f s.mdc := rfl
@[simp] theorem State.mapMdc_pwr (s : State) (f : MdcSt → MdcSt) : (s.mapMdc f).pwr = s.pwr := rfl
@[simp] theorem State.mapMdc_tally (s : State) (f : MdcSt → MdcSt) : (s.mapMdc f).tally = s.tally := rfl
@[simp] theorem State.mapMdc_boot (s : State) (f : MdcSt → MdcSt) : (s.mapMdc f).boot = s.boot := rfl
@[simp] theorem State.mapMdc_pins (s : State) (f : MdcSt → MdcSt) : (s.mapMdc f).pins = s.pins := rfl
@[simp] theorem State.mapMdc_reg (s : State) (f : MdcSt → MdcSt) (a : Nat) : (s.mapMdc f).reg a = s.reg a := rfl
@[simp] theorem State.mapMdc_rd (s : State) (f : MdcSt → MdcSt) (a : Fld) : (s.mapMdc f).rd a = s.rd a := rfl
@[simp] theorem State.mapPwr_now (s : State) (f : PwrSt → PwrSt) : (s.mapPwr f).now = s.now := rfl
@[simp] theorem State.mapPwr_fresh (s : State) (f : PwrSt → PwrSt) : (s.mapPwr f).fresh = s.fresh := rfl
@[simp] theorem State.mapPwr_pending (s : State) (f : PwrSt → PwrSt) : (s.mapPwr f).pending = s.pending := rfl
@[simp] theorem State.mapPwr_out (s : State) (f : PwrSt → PwrSt) : (s.mapPwr f).out = s.out := rfl
@[simp] theorem State.mapPwr_regs (s : State) (f : PwrSt → PwrSt) : (s.mapPwr f).regs = s.regs := rfl
@[simp] theorem State.mapPwr_mbx (s : State) (f : PwrSt → PwrSt) : (s.mapPwr f).mbx = s.mbx := rfl
@[simp] theorem State.mapPwr_mtx (s : State) (f : PwrSt → PwrSt) : (s.mapPwr f).mtx = s.mtx := rfl
@[simp] theorem State.mapPwr_map (s : State) (f : PwrSt → PwrSt) : (s.mapPwr f).map = s.map := rfl
@[simp] theorem State.mapPwr_pair (s : State) (f : PwrSt → PwrSt) : (s.mapPwr f).pair = s.pair := rfl
@[simp] theorem State.mapPwr_mate (s : State) (f : PwrSt → PwrSt) : (s.mapPwr f).mate = s.mate := rfl
@[simp] theorem State.mapPwr_sel (s : State) (f : PwrSt → PwrSt) : (s.mapPwr f).sel = s.sel := rfl
@[simp] theorem State.mapPwr_core (s : State) (f : PwrSt → PwrSt) : (s.mapPwr f).core = s.core := rfl
@[simp] theorem State.mapPwr_eng (s : State) (f : PwrSt → PwrSt) : (s.mapPwr f).eng = s.eng := rfl
@[simp] theorem State.mapPwr_line (s : State) (f : PwrSt → PwrSt) : (s.mapPwr f).line = s.line := rfl
@[simp] theorem State.mapPwr_tmg (s : State) (f : PwrSt → PwrSt) : (s.mapPwr f).tmg = s.tmg := rfl
@[simp] theorem State.mapPwr_mdc (s : State) (f : PwrSt → PwrSt) : (s.mapPwr f).mdc = s.mdc := rfl
@[simp] theorem State.mapPwr_pwr (s : State) (f : PwrSt → PwrSt) : (s.mapPwr f).pwr = f s.pwr := rfl
@[simp] theorem State.mapPwr_tally (s : State) (f : PwrSt → PwrSt) : (s.mapPwr f).tally = s.tally := rfl
@[simp] theorem State.mapPwr_boot (s : State) (f : PwrSt → PwrSt) : (s.mapPwr f).boot = s.boot := rfl
@[simp] theorem State.mapPwr_pins (s : State) (f : PwrSt → PwrSt) : (s.mapPwr f).pins = s.pins := rfl
@[simp] theorem State.mapPwr_reg (s : State) (f : PwrSt → PwrSt) (a : Nat) : (s.mapPwr f).reg a = s.reg a := rfl
@[simp] theorem State.mapPwr_rd (s : State) (f : PwrSt → PwrSt) (a : Fld) : (s.mapPwr f).rd a = s.rd a := rfl
@[simp] theorem State.mapTally_now (s : State) (f : TallySt → TallySt) : (s.mapTally f).now = s.now := rfl
@[simp] theorem State.mapTally_fresh (s : State) (f : TallySt → TallySt) : (s.mapTally f).fresh = s.fresh := rfl
@[simp] theorem State.mapTally_pending (s : State) (f : TallySt → TallySt) : (s.mapTally f).pending = s.pending := rfl
@[simp] theorem State.mapTally_out (s : State) (f : TallySt → TallySt) : (s.mapTally f).out = s.out := rfl
@[simp] theorem State.mapTally_regs (s : State) (f : TallySt → TallySt) : (s.mapTally f).regs = s.regs := rfl
@[simp] theorem State.mapTally_mbx (s : State) (f : TallySt → TallySt) : (s.mapTally f).mbx = s.mbx := rfl
@[simp] theorem State.mapTally_mtx (s : State) (f : TallySt → TallySt) : (s.mapTally f).mtx = s.mtx := rfl
@[simp] theorem State.mapTally_map (s : State) (f : TallySt → TallySt) : (s.mapTally f).map = s.map := rfl
@[simp] theorem State.mapTally_pair (s : State) (f : TallySt → TallySt) : (s.mapTally f).pair = s.pair := rfl
@[simp] theorem State.mapTally_mate (s : State) (f : TallySt → TallySt) : (s.mapTally f).mate = s.mate := rfl
@[simp] theorem State.mapTally_sel (s : State) (f : TallySt → TallySt) : (s.mapTally f).sel = s.sel := rfl
@[simp] theorem State.mapTally_core (s : State) (f : TallySt → TallySt) : (s.mapTally f).core = s.core := rfl
@[simp] theorem State.mapTally_eng (s : State) (f : TallySt → TallySt) : (s.mapTally f).eng = s.eng := rfl
@[simp] theorem State.mapTally_line (s : State) (f : TallySt → TallySt) : (s.mapTally f).line = s.line := rfl
@[simp] theorem State.mapTally_tmg (s : State) (f : TallySt → TallySt) : (s.mapTally f).tmg = s.tmg := rfl
@[simp] theorem State.mapTally_mdc (s : State) (f : TallySt → TallySt) : (s.mapTally f).mdc = s.mdc := rfl
@[simp] theorem State.mapTally_pwr (s : State) (f : TallySt → TallySt) : (s.mapTally f).pwr = s.pwr := rfl
@[simp] theorem State.mapTally_tally (s : State) (f : TallySt → TallySt) : (s.mapTally f).tally = f s.tally := rfl
@[simp] theorem State.mapTally_boot (s : State) (f : TallySt → TallySt) : (s.mapTally f).boot = s.boot := rfl
@[simp] theorem State.mapTally_pins (s : State) (f : TallySt → TallySt) : (s.mapTally f).pins = s.pins := rfl
@[simp] theorem State.mapTally_reg (s : State) (f : TallySt → TallySt) (a : Nat) : (s.mapTally f).reg a = s.reg a := rfl
@[simp] theorem State.mapTally_rd (s : State) (f : TallySt → TallySt) (a : Fld) : (s.mapTally f).rd a = s.rd a := rfl
@[simp] theorem State.mapBoot_now (s : State) (f : BootSt → BootSt) : (s.mapBoot f).now = s.now := rfl
@[simp] theorem State.mapBoot_fresh (s : State) (f : BootSt → BootSt) : (s.mapBoot f).fresh = s.fresh := rfl
@[simp] theorem State.mapBoot_pending (s : State) (f : BootSt → BootSt) : (s.mapBoot f).pending = s.pending := rfl
@[simp] theorem State.mapBoot_out (s : State) (f : BootSt → BootSt) : (s.mapBoot f).out = s.out := rfl
@[simp] theorem State.mapBoot_regs (s : State) (f : BootSt → BootSt) : (s.mapBoot f).regs = s.regs := rfl
@[simp] theorem State.mapBoot_mbx (s : State) (f : BootSt → BootSt) : (s.mapBoot f).mbx = s.mbx := rfl
@[simp] theorem State.mapBoot_mtx (s : State) (f : BootSt → BootSt) : (s.mapBoot f).mtx = s.mtx := rfl
@[simp] theorem State.mapBoot_map (s : State) (f : BootSt → BootSt) : (s.mapBoot f).map = s.map := rfl
@[simp] theorem State.mapBoot_pair (s : State) (f : BootSt → BootSt) : (s.mapBoot f).pair = s.pair := rfl
@[simp] theorem State.mapBoot_mate (s : State) (f : BootSt → BootSt) : (s.mapBoot f).mate = s.mate := rfl
@[simp] theorem State.mapBoot_sel (s : State) (f : BootSt → BootSt) : (s.mapBoot f).sel = s.sel := rfl
@[simp] theorem State.mapBoot_core (s : State) (f : BootSt → BootSt) : (s.mapBoot f).core = s.core := rfl
@[simp] theorem State.mapBoot_eng (s : State) (f : BootSt → BootSt) : (s.mapBoot f).eng = s.eng := rfl
@[simp] theorem State.mapBoot_line (s : State) (f : BootSt → BootSt) : (s.mapBoot f).line = s.line := rfl
@[simp] theorem State.mapBoot_tmg (s : State) (f : BootSt → BootSt) : (s.mapBoot f).tmg = s.tmg := rfl
@[simp] theorem State.mapBoot_mdc (s : State) (f : BootSt → BootSt) : (s.mapBoot f).mdc = s.mdc := rfl
@[simp] theorem State.mapBoot_pwr (s : State) (f : BootSt → BootSt) : (s.mapBoot f).pwr = s.pwr := rfl
@[simp] theorem State.mapBoot_tally (s : State) (f : BootSt → BootSt) : (s.mapBoot f).tally = s.tally := rfl
@[simp] theorem State.mapBoot_boot (s : State) (f : BootSt → BootSt) : (s.mapBoot f).boot = f s.boot := rfl
@[simp] theorem State.mapBoot_pins (s : State) (f : BootSt → BootSt) : (s.mapBoot f).pins = s.pins := rfl
@[simp] theorem State.mapBoot_reg (s : State) (f : BootSt → BootSt) (a : Nat) : (s.mapBoot f).reg a = s.reg a := rfl
@[simp] theorem State.mapBoot_rd (s : State) (f : BootSt → BootSt) (a : Fld) : (s.mapBoot f).rd a = s.rd a := rfl
@[simp] theorem State.mapPins_now (s : State) (f : PinSt → PinSt) : (s.mapPins f).now = s.now := rfl
@[simp] theorem State.mapPins_fresh (s : State) (f : PinSt → PinSt) : (s.mapPins f).fresh = s.fresh := rfl
@[simp] theorem State.mapPins_pending (s : State) (f : PinSt → PinSt) : (s.mapPins f).pending = s.pending := rfl
@[simp] theorem State.mapPins_out (s : State) (f : PinSt → PinSt) : (s.mapPins f).out = s.out := rfl
@[simp] theorem State.mapPins_regs (s : State) (f : PinSt → PinSt) : (s.mapPins f).regs = s.regs := rfl
@[simp] theorem State.mapPins_mbx (s : State) (f : PinSt → PinSt) : (s.mapPins f).mbx = s.mbx := rfl
@[simp] theorem State.mapPins_mtx (s : State) (f : PinSt → PinSt) : (s.mapPins f).mtx = s.mtx := rfl
@[simp] theorem State.mapPins_map (s : State) (f : PinSt → PinSt) : (s.mapPins f).map = s.map := rfl
@[simp] theorem State.mapPins_pair (s : State) (f : PinSt → PinSt) : (s.mapPins f).pair = s.pair := rfl
@[simp] theorem State.mapPins_mate (s : State) (f : PinSt → PinSt) : (s.mapPins f).mate = s.mate := rfl
@[simp] theorem State.mapPins_sel (s : State) (f : PinSt → PinSt) : (s.mapPins f).sel = s.sel := rfl
@[simp] theorem State.mapPins_core (s : State) (f : PinSt → PinSt) : (s.mapPins f).core = s.core := rfl
@[simp] theorem State.mapPins_eng (s : State) (f : PinSt → PinSt) : (s.mapPins f).eng = s.eng := rfl
@[simp] theorem State.mapPins_line (s : State) (f : PinSt → PinSt) : (s.mapPins f).line = s.line := rfl
@[simp] theorem State.mapPins_tmg (s : State) (f : PinSt → PinSt) : (s.mapPins f).tmg = s.tmg := rfl
@[simp] theorem State.mapPins_mdc (s : State) (f : PinSt → PinSt) : (s.mapPins f).mdc = s.mdc := rfl
@[simp] theorem State.mapPins_pwr (s : State) (f : PinSt → PinSt) : (s.mapPins f).pwr = s.pwr := rfl
@[simp] theorem State.mapPins_tally (s : State) (f : PinSt → PinSt) : (s.mapPins f).tally = s.tally := rfl
@[simp] theorem State.mapPins_boot (s : State) (f : PinSt → PinSt) : (s.mapPins f).boot = s.boot := rfl
@[simp] theorem State.mapPins_pins (s : State) (f : PinSt → PinSt) : (s.mapPins f).pins = f s.pins := rfl
@[simp] theorem State.mapPins_reg (s : State) (f : PinSt → PinSt) (a : Nat) : (s.mapPins f).reg a = s.reg a := rfl
@[simp] theorem State.mapPins_rd (s : State) (f : PinSt → PinSt) (a : Fld) : (s.mapPins f).rd a = s.rd a := rfl
@[simp] theorem State.tick_now (s : State) (t : Nat) : (s.tick t).now = max s.now t := rfl
@[simp] theorem State.tick_fresh (s : State) (t : Nat) : (s.tick t).fresh = s.fresh := rfl
@[simp] theorem State.tick_pending (s : State) (t : Nat) : (s.tick t).pending = s.pending := rfl
@[simp] theorem State.tick_out (s : State) (t : Nat) : (s.tick t).out = s.out := rfl
@[simp] theorem State.tick_regs (s : State) (t : Nat) : (s.tick t).regs = s.regs := rfl
@[simp] theorem State.tick_mbx (s : State) (t : Nat) : (s.tick t).mbx = s.mbx := rfl
@[simp] theorem State.tick_mtx (s : State) (t : Nat) : (s.tick t).mtx = s.mtx := rfl
@[simp] theorem State.tick_map (s : State) (t : Nat) : (s.tick t).map = s.map := rfl
@[simp] theorem State.tick_pair (s : State) (t : Nat) : (s.tick t).pair = s.pair := rfl
@[simp] theorem State.tick_mate (s : State) (t : Nat) : (s.tick t).mate = s.mate := rfl
@[simp] theorem State.tick_sel (s : State) (t : Nat) : (s.tick t).sel = s.sel := rfl
@[simp] theorem State.tick_core (s : State) (t : Nat) : (s.tick t).core = s.core := rfl
@[simp] theorem State.tick_eng (s : State) (t : Nat) : (s.tick t).eng = s.eng := rfl
@[simp] theorem State.tick_line (s : State) (t : Nat) : (s.tick t).line = s.line := rfl
@[simp] theorem State.tick_tmg (s : State) (t : Nat) : (s.tick t).tmg = s.tmg := rfl
@[simp] theorem State.tick_mdc (s : State) (t : Nat) : (s.tick t).mdc = s.mdc := rfl
@[simp] theorem State.tick_pwr (s : State) (t : Nat) : (s.tick t).pwr = s.pwr := rfl
@[simp] theorem State.tick_tally (s : State) (t : Nat) : (s.tick t).tally = s.tally := rfl
@[simp] theorem State.tick_boot (s : State) (t : Nat) : (s.tick t).boot = s.boot := rfl
@[simp] theorem State.tick_pins (s : State) (t : Nat) : (s.tick t).pins = s.pins := rfl
@[simp] theorem State.setReg_now (s : State) (a : Nat) (v : W32) : (s.setReg a v).now = s.now := rfl
@[simp] theorem State.setReg_fresh (s : State) (a : Nat) (v : W32) : (s.setReg a v).fresh = s.fresh := rfl
@[simp] theorem State.setReg_pending (s : State) (a : Nat) (v : W32) : (s.setReg a v).pending = s.pending := rfl
@[simp] theorem State.setReg_out (s : State) (a : Nat) (v : W32) : (s.setReg a v).out = s.out := rfl
@[simp] theorem State.setReg_mbx (s : State) (a : Nat) (v : W32) : (s.setReg a v).mbx = s.mbx := rfl
@[simp] theorem State.setReg_mtx (s : State) (a : Nat) (v : W32) : (s.setReg a v).mtx = s.mtx := rfl
@[simp] theorem State.setReg_map (s : State) (a : Nat) (v : W32) : (s.setReg a v).map = s.map := rfl
@[simp] theorem State.setReg_pair (s : State) (a : Nat) (v : W32) : (s.setReg a v).pair = s.pair := rfl
@[simp] theorem State.setReg_mate (s : State) (a : Nat) (v : W32) : (s.setReg a v).mate = s.mate := rfl
@[simp] theorem State.setReg_sel (s : State) (a : Nat) (v : W32) : (s.setReg a v).sel = s.sel := rfl
@[simp] theorem State.setReg_core (s : State) (a : Nat) (v : W32) : (s.setReg a v).core = s.core := rfl
@[simp] theorem State.setReg_eng (s : State) (a : Nat) (v : W32) : (s.setReg a v).eng = s.eng := rfl
@[simp] theorem State.setReg_line (s : State) (a : Nat) (v : W32) : (s.setReg a v).line = s.line := rfl
@[simp] theorem State.setReg_tmg (s : State) (a : Nat) (v : W32) : (s.setReg a v).tmg = s.tmg := rfl
@[simp] theorem State.setReg_mdc (s : State) (a : Nat) (v : W32) : (s.setReg a v).mdc = s.mdc := rfl
@[simp] theorem State.setReg_pwr (s : State) (a : Nat) (v : W32) : (s.setReg a v).pwr = s.pwr := rfl
@[simp] theorem State.setReg_tally (s : State) (a : Nat) (v : W32) : (s.setReg a v).tally = s.tally := rfl
@[simp] theorem State.setReg_boot (s : State) (a : Nat) (v : W32) : (s.setReg a v).boot = s.boot := rfl
@[simp] theorem State.setReg_pins (s : State) (a : Nat) (v : W32) : (s.setReg a v).pins = s.pins := rfl
@[simp] theorem State.wr_now (s : State) (f : Fld) (v : Nat) : (s.wr f v).now = s.now := rfl
@[simp] theorem State.wr_fresh (s : State) (f : Fld) (v : Nat) : (s.wr f v).fresh = s.fresh := rfl
@[simp] theorem State.wr_pending (s : State) (f : Fld) (v : Nat) : (s.wr f v).pending = s.pending := rfl
@[simp] theorem State.wr_out (s : State) (f : Fld) (v : Nat) : (s.wr f v).out = s.out := rfl
@[simp] theorem State.wr_mbx (s : State) (f : Fld) (v : Nat) : (s.wr f v).mbx = s.mbx := rfl
@[simp] theorem State.wr_mtx (s : State) (f : Fld) (v : Nat) : (s.wr f v).mtx = s.mtx := rfl
@[simp] theorem State.wr_map (s : State) (f : Fld) (v : Nat) : (s.wr f v).map = s.map := rfl
@[simp] theorem State.wr_pair (s : State) (f : Fld) (v : Nat) : (s.wr f v).pair = s.pair := rfl
@[simp] theorem State.wr_mate (s : State) (f : Fld) (v : Nat) : (s.wr f v).mate = s.mate := rfl
@[simp] theorem State.wr_sel (s : State) (f : Fld) (v : Nat) : (s.wr f v).sel = s.sel := rfl
@[simp] theorem State.wr_core (s : State) (f : Fld) (v : Nat) : (s.wr f v).core = s.core := rfl
@[simp] theorem State.wr_eng (s : State) (f : Fld) (v : Nat) : (s.wr f v).eng = s.eng := rfl
@[simp] theorem State.wr_line (s : State) (f : Fld) (v : Nat) : (s.wr f v).line = s.line := rfl
@[simp] theorem State.wr_tmg (s : State) (f : Fld) (v : Nat) : (s.wr f v).tmg = s.tmg := rfl
@[simp] theorem State.wr_mdc (s : State) (f : Fld) (v : Nat) : (s.wr f v).mdc = s.mdc := rfl
@[simp] theorem State.wr_pwr (s : State) (f : Fld) (v : Nat) : (s.wr f v).pwr = s.pwr := rfl
@[simp] theorem State.wr_tally (s : State) (f : Fld) (v : Nat) : (s.wr f v).tally = s.tally := rfl
@[simp] theorem State.wr_boot (s : State) (f : Fld) (v : Nat) : (s.wr f v).boot = s.boot := rfl
@[simp] theorem State.wr_pins (s : State) (f : Fld) (v : Nat) : (s.wr f v).pins = s.pins := rfl
@[simp] theorem State.emit_now (s : State) (o : Out) : (s.emit o).now = s.now := rfl
@[simp] theorem State.emit_fresh (s : State) (o : Out) : (s.emit o).fresh = s.fresh := rfl
@[simp] theorem State.emit_pending (s : State) (o : Out) : (s.emit o).pending = s.pending := rfl
@[simp] theorem State.emit_out (s : State) (o : Out) : (s.emit o).out = s.out ++ [o] := rfl
@[simp] theorem State.emit_regs (s : State) (o : Out) : (s.emit o).regs = s.regs := rfl
@[simp] theorem State.emit_mbx (s : State) (o : Out) : (s.emit o).mbx = s.mbx := rfl
@[simp] theorem State.emit_mtx (s : State) (o : Out) : (s.emit o).mtx = s.mtx := rfl
@[simp] theorem State.emit_map (s : State) (o : Out) : (s.emit o).map = s.map := rfl
@[simp] theorem State.emit_pair (s : State) (o : Out) : (s.emit o).pair = s.pair := rfl
@[simp] theorem State.emit_mate (s : State) (o : Out) : (s.emit o).mate = s.mate := rfl
@[simp] theorem State.emit_sel (s : State) (o : Out) : (s.emit o).sel = s.sel := rfl
@[simp] theorem State.emit_core (s : State) (o : Out) : (s.emit o).core = s.core := rfl
@[simp] theorem State.emit_eng (s : State) (o : Out) : (s.emit o).eng = s.eng := rfl
@[simp] theorem State.emit_line (s : State) (o : Out) : (s.emit o).line = s.line := rfl
@[simp] theorem State.emit_tmg (s : State) (o : Out) : (s.emit o).tmg = s.tmg := rfl
@[simp] theorem State.emit_mdc (s : State) (o : Out) : (s.emit o).mdc = s.mdc := rfl
@[simp] theorem State.emit_pwr (s : State) (o : Out) : (s.emit o).pwr = s.pwr := rfl
@[simp] theorem State.emit_tally (s : State) (o : Out) : (s.emit o).tally = s.tally := rfl
@[simp] theorem State.emit_boot (s : State) (o : Out) : (s.emit o).boot = s.boot := rfl
@[simp] theorem State.emit_pins (s : State) (o : Out) : (s.emit o).pins = s.pins := rfl
@[simp] theorem State.tick_reg (s : State) (t : Nat) (b : Nat) : (s.tick t).reg b = s.reg b := rfl
@[simp] theorem State.tick_rd (s : State) (t : Nat) (b : Fld) : (s.tick t).rd b = s.rd b := rfl
@[simp] theorem State.emit_reg (s : State) (o : Out) (b : Nat) : (s.emit o).reg b = s.reg b := rfl
@[simp] theorem State.emit_rd (s : State) (o : Out) (b : Fld) : (s.emit o).rd b = s.rd b := rfl

end Sys2Proof.Machine
end

