-- ==== Sys2Proof/Laws/Frames.lean ====
section
/-! SUPPORT. Laws/Frames.lean: what leaves a register alone, for the frames of the statements (`RegsKept`), and what time alone does
not change. -/
namespace Sys2Proof.Machine

/-- A command's answer is known, so that what holds of the state holds of some next state. -/
theorem next_of {r : Res} {u : State} {P : State → Prop} (h : r = .next u) (hp : P u) : ∃ s', r = .next s' ∧ P s' := ⟨u, h, hp⟩

/-- Any register after a write of a field. -/
theorem reg_wr (s : State) (f : Fld) (v b : Nat) :
    (s.wr f v).reg b = if f.addr = b then insertBits (s.reg f.addr) f.lo f.w v else s.reg b := State.reg_setReg ..

@[simp] theorem barred_tick (s : State) (t m : Nat) : (s.tick t).barred m = s.barred m := rfl
@[simp] theorem holder_tick (s : State) (t n : Nat) : (s.tick t).holder n = s.holder n := rfl
@[simp] theorem owner_tick (s : State) (t b : Nat) : (s.tick t).owner b = s.owner b := rfl
@[simp] theorem flag_tick (s : State) (t : Nat) (f : Fld) : (s.tick t).flag f = s.flag f := rfl

/-- A bit of a field as a flag. -/
theorem bitAt_def (s : State) (f : Fld) (n : Nat) : s.bitAt f n = s.flag { addr := f.addr, lo := f.lo + n, w := 1 } := rfl

theorem kept_refl {s u : State} {as : List Nat} (e : u.regs = s.regs) : RegsKept s u as := fun a _ => by simp [State.reg, e]
theorem kept_trans {s t u : State} {as : List Nat} (h : RegsKept s t as) (g : RegsKept t u as) : RegsKept s u as :=
  fun a ha => (g a ha).trans (h a ha)
theorem kept_of {s t u : State} {as : List Nat} (h : RegsKept s t as) (e : u.regs = t.regs) : RegsKept s u as :=
  kept_trans h (kept_refl e)
theorem kept_mono {s u : State} {as bs : List Nat} (h : RegsKept s u as) (sub : ∀ a ∈ as, a ∈ bs) : RegsKept s u bs :=
  fun a ha => h a fun k => ha (sub a k)
theorem kept_wr {s : State} {f : Fld} {v : Nat} {as : List Nat} (h : f.addr ∈ as) : RegsKept s (s.wr f v) as := fun a ha => by
  rw [reg_wr, if_neg]; rintro rfl; exact ha h
theorem kept_setReg {s : State} {b : Nat} {v : W32} {as : List Nat} (h : b ∈ as) : RegsKept s (s.setReg b v) as := fun a ha => by
  rw [State.reg_setReg, if_neg]; rintro rfl; exact ha h

end Sys2Proof.Machine
end

