-- ==== Sys2Proof/WellFormed.lean ====
section
/-! DEFINITION. WellFormed.lean: the tick of a command, and what the operands of a well-formed command keep beyond their types. -/
namespace Sys2Proof

/-- A port has one lane or four (R150). -/
def laneCountOk (n : Nat) : Bool := n == 1 || n == 4

/-- Ticks in the order of time. -/
def rising : List Nat → Bool
  | a :: b :: l => decide (a ≤ b) && rising (b :: l)
  | _ => true

/-- A trained PCIe link has one, two or four lanes; generation 0 is a link that is down (R280). -/
def linkOk (gen : Fin 6) (width : Fin 8) : Bool := gen == 0 || [1, 2, 4].contains width.val

/-- One access of a bus master or of the host: not empty, within a 128-byte block on the bus, and M0's in a BAR (R287, R288). -/
def burstOk (m : Master) (via : Via) (addr : W32) (n : Nat) : Bool :=
  decide (1 ≤ n) && decide (n ≤ 128) && if via = .bus then decide (addr.toNat % 128 + n ≤ 128) else m == 0

/-- The tick at which a command happens (R9). -/
def Instr.tick : Instr → Nat
  | .echo x => x.t
  | .getInfo x => x.t
  | .portConfigure x => x.t
  | .portEnable x => x.t
  | .portDisable x => x.t
  | .portStatus x => x.t
  | .mapWriteRange x => x.t
  | .mapCommit x => x.t
  | .mapReadback x => x.t
  | .mapCheck x => x.t
  | .mapSnapshot x => x.t
  | .selWrite x => x.t
  | .selCommand x => x.t
  | .selStatus x => x.t
  | .monConfigure x => x.t
  | .timingConfigure x => x.t
  | .timingRealign x => x.t
  | .timingStatus x => x.t
  | .pairConfigure x => x.t
  | .pairSwap x => x.t
  | .pairStatus x => x.t
  | .powerBudget x => x.t
  | .latencyBudget x => x.t
  | .selftest x => x.t
  | .selftestResult x => x.t
  | .fwStage x => x.t
  | .fwActivate x => x.t
  | .fwConfirm x => x.t
  | .fwAbort x => x.t
  | .perfConfig x => x.t
  | .perfDumpNow x => x.t
  | .mdcRoute x => x.t
  | .mdcStatus x => x.t
  | .settingsSave x => x.t
  | .settingsRestore x => x.t
  | .poll t _ => t
  | .grant t _ _ => t
  | .renew t _ => t
  | .revoke t _ => t
  | .handover t _ => t
  | .arbAbort t => t
  | .spiStatus t => t
  | .cmdWrite t _ => t
  | .rplRead t => t
  | .memWrite t _ _ => t
  | .memRead t _ _ _ _ => t
  | .i2cWrite t _ _ => t
  | .i2cRead t _ => t
  | .fuseDbg t _ => t
  | .jtagInstruction t _ => t
  | .genConstWrite t _ _ _ => t
  | .constHold t _ _ => t
  | .prbsRestart t _ => t
  | .prtIdleWrite t _ _ _ => t
  | .rearm t _ => t
  | .lineSelWrite t _ _ _ => t
  | .apsTxWrite t _ _ _ => t
  | .h2dNoticeWrite t _ _ _ _ => t
  | .h2dNoticePost t _ _ => t
  | .d2hNoticeTake t _ _ => t
  | .ringEnable t _ _ _ => t
  | .ringDisable t _ _ _ => t
  | .rplCiWrite t _ _ _ => t
  | .mdcRdWrite t _ _ _ => t
  | .mdcWrWrite t _ _ _ => t
  | .tallyDumpCiWrite t _ _ => t
  | .semAcqRead t _ _ => t
  | .semAcqWrite t _ _ => t
  | .scrOwnWrite t _ _ _ => t
  | .scrOwnHandoverDone t _ => t
  | .remapWrite t _ _ => t
  | .lockSet t _ _ => t
  | .mtxRotWrite t _ _ => t
  | .registerWrite t _ _ _ => t
  | .readClear t _ _ => t
  | .defaultTargetError t _ _ _ _ => t
  | .mapWindowWrite t _ _ => t
  | .selectorWindowWrite t _ _ => t
  | .porNLow t => t
  | .supplyMonitorTrip t => t
  | .bootSequence t _ _ => t
  | .bootWatchdog t _ => t
  | .failcntClear t => t
  | .hostReset t _ _ _ => t
  | .perstNRise t _ _ => t
  | .firmwareReset t _ _ => t
  | .firmwareRestart t _ _ _ => t
  | .frameMark t _ _ _ _ _ _ => t
  | .grainStart t _ => t
  | .grainComplete t _ _ _ _ => t
  | .grainLate t _ _ => t
  | .positionTake t => t
  | .inputWriteStart t => t
  | .candleRecordClose t _ _ _ _ => t
  | .mapCheckDone t _ _ => t
  | .mapCommitArm t => t
  | .commitDeadline t _ => t
  | .mapSwap t _ => t
  | .copyForwardDone t _ => t
  | .mapSnapshotDone t _ => t
  | .bankRotationStep t _ => t
  | .bankMove t _ => t
  | .marchTestDone t _ _ _ => t
  | .holdoffExpiry t _ _ => t
  | .wtrExpiry t _ _ => t
  | .cdrLockChange t _ _ => t
  | .candidateMatch t _ _ _ _ _ => t
  | .candidateVerify t _ _ _ _ _ => t
  | .ziuthFrameRx t _ _ _ _ _ => t
  | .sonetFrameRx t _ _ _ => t
  | .otnFrameRx t _ _ _ _ _ _ _ => t
  | .lofTimer t _ _ => t
  | .losTimer t _ _ => t
  | .rdiHoldExpiry t _ => t
  | .pllLock t _ => t
  | .portDisableDone t _ _ => t
  | .depthEvaluation t => t
  | .portDeepen t _ => t
  | .portWakeDone t _ => t
  | .mdcDiFrame t _ _ => t
  | .mateFrameRx t _ _ _ => t
  | .mateLaneDrop t _ => t
  | .heartbeatRecord t _ _ => t
  | .stopRecord t _ _ _ => t
  | .handoverRecord t _ _ _ => t
  | .mapEntries t _ _ => t
  | .commitArm t _ _ _ _ => t
  | .commitCancel t _ _ => t
  | .selState t _ _ => t
  | .historyRecord t _ _ _ _ => t
  | .settingsRecord t _ _ _ _ _ => t
  | .resyncBegin t _ _ => t
  | .resyncData t _ _ => t
  | .resyncEnd t _ _ => t
  | .resyncReq t _ => t
  | .resyncStart t => t
  | .resyncSwap t => t
  | .mirroredSwap t => t
  | .leaseExpiry t _ => t
  | .guardEnd t => t
  | .drillTimer t => t
  | .handoverMark t _ => t
  | .newHolderActs t => t
  | .handoverLapse t _ => t
  | .oldHolderTxIdle t => t
  | .pairSwapTimeout t _ => t
  | .refLoss t _ _ => t
  | .monitorWindowEnd t _ _ _ => t
  | .refWtrExpiry t _ => t
  | .selection t => t
  | .acquireTimeout t => t
  | .timingHoldoffEnd t => t
  | .verificationComplete t _ _ => t
  | .switchCommit t => t
  | .realignPulse t _ _ => t
  | .realignTimeout t _ => t
  | .avsReadback t _ _ => t
  | .powerEstimate t _ _ _ => t
  | .scrubUnit t _ _ _ _ _ _ => t
  | .spotCheck t _ _ => t
  | .eyeScanDone t _ _ _ _ => t
  | .mramCheckDone t _ => t
  | .lanePrbsEnd t _ _ _ _ => t
  | .stackMarchDone t _ _ _ => t
  | .h2dNoticeTake t _ => t
  | .descriptorTake t _ _ _ => t
  | .noticeTimeout t _ _ => t
  | .dumpWriteDone t => t
  | .dumpErrorStop t => t
  | .perfDefinitionChange t _ => t
  | .stagingTimeout t => t
  | .fwHandoverMark t => t
  | .fwDrainLimit t _ => t
  | .fwRevert t _ _ => t
  | .trialExpiry t => t
  | .pllUnlock t _ => t
  | .fwStageChunkWritten t _ => t
  | .fwImageCopied t _ => t
  | .newFirmwareStarted t _ => t
  | .settingsWritten t _ _ => t

/-- The same command at another tick. -/
def Instr.atTick (u : Nat) : Instr → Instr
  | .echo x => .echo { x with t := u }
  | .getInfo x => .getInfo { x with t := u }
  | .portConfigure x => .portConfigure { x with t := u }
  | .portEnable x => .portEnable { x with t := u }
  | .portDisable x => .portDisable { x with t := u }
  | .portStatus x => .portStatus { x with t := u }
  | .mapWriteRange x => .mapWriteRange { x with t := u }
  | .mapCommit x => .mapCommit { x with t := u }
  | .mapReadback x => .mapReadback { x with t := u }
  | .mapCheck x => .mapCheck { x with t := u }
  | .mapSnapshot x => .mapSnapshot { x with t := u }
  | .selWrite x => .selWrite { x with t := u }
  | .selCommand x => .selCommand { x with t := u }
  | .selStatus x => .selStatus { x with t := u }
  | .monConfigure x => .monConfigure { x with t := u }
  | .timingConfigure x => .timingConfigure { x with t := u }
  | .timingRealign x => .timingRealign { x with t := u }
  | .timingStatus x => .timingStatus { x with t := u }
  | .pairConfigure x => .pairConfigure { x with t := u }
  | .pairSwap x => .pairSwap { x with t := u }
  | .pairStatus x => .pairStatus { x with t := u }
  | .powerBudget x => .powerBudget { x with t := u }
  | .latencyBudget x => .latencyBudget { x with t := u }
  | .selftest x => .selftest { x with t := u }
  | .selftestResult x => .selftestResult { x with t := u }
  | .fwStage x => .fwStage { x with t := u }
  | .fwActivate x => .fwActivate { x with t := u }
  | .fwConfirm x => .fwConfirm { x with t := u }
  | .fwAbort x => .fwAbort { x with t := u }
  | .perfConfig x => .perfConfig { x with t := u }
  | .perfDumpNow x => .perfDumpNow { x with t := u }
  | .mdcRoute x => .mdcRoute { x with t := u }
  | .mdcStatus x => .mdcStatus { x with t := u }
  | .settingsSave x => .settingsSave { x with t := u }
  | .settingsRestore x => .settingsRestore { x with t := u }
  | .poll _ q => .poll u q
  | .grant _ q rplOk => .grant u q rplOk
  | .renew _ q => .renew u q
  | .revoke _ q => .revoke u q
  | .handover _ q => .handover u q
  | .arbAbort _ => .arbAbort u
  | .spiStatus _ => .spiStatus u
  | .cmdWrite _ d => .cmdWrite u d
  | .rplRead _ => .rplRead u
  | .memWrite _ addr data => .memWrite u addr data
  | .memRead _ addr n ce ue => .memRead u addr n ce ue
  | .i2cWrite _ addr data => .i2cWrite u addr data
  | .i2cRead _ addr => .i2cRead u addr
  | .fuseDbg _ testEn => .fuseDbg u testEn
  | .jtagInstruction _ ir => .jtagInstruction u ir
  | .genConstWrite _ m w v => .genConstWrite u m w v
  | .constHold _ m b => .constHold u m b
  | .prbsRestart _ m => .prbsRestart u m
  | .prtIdleWrite _ m p b => .prtIdleWrite u m p b
  | .rearm _ m => .rearm u m
  | .lineSelWrite _ m w v => .lineSelWrite u m w v
  | .apsTxWrite _ m w v => .apsTxWrite u m w v
  | .h2dNoticeWrite _ m ch w v => .h2dNoticeWrite u m ch w v
  | .h2dNoticePost _ m v => .h2dNoticePost u m v
  | .d2hNoticeTake _ m v => .d2hNoticeTake u m v
  | .ringEnable _ m r v => .ringEnable u m r v
  | .ringDisable _ m r v => .ringDisable u m r v
  | .rplCiWrite _ m r v => .rplCiWrite u m r v
  | .mdcRdWrite _ m c v => .mdcRdWrite u m c v
  | .mdcWrWrite _ m c v => .mdcWrWrite u m c v
  | .tallyDumpCiWrite _ m v => .tallyDumpCiWrite u m v
  | .semAcqRead _ m n => .semAcqRead u m n
  | .semAcqWrite _ m n => .semAcqWrite u m n
  | .scrOwnWrite _ m b v => .scrOwnWrite u m b v
  | .scrOwnHandoverDone _ b => .scrOwnHandoverDone u b
  | .remapWrite _ m v => .remapWrite u m v
  | .lockSet _ m b => .lockSet u m b
  | .mtxRotWrite _ m v => .mtxRotWrite u m v
  | .registerWrite _ m a data => .registerWrite u m a data
  | .readClear _ m r => .readClear u m r
  | .defaultTargetError _ m addr write cause => .defaultTargetError u m addr write cause
  | .mapWindowWrite _ off data => .mapWindowWrite u off data
  | .selectorWindowWrite _ off data => .selectorWindowWrite u off data
  | .porNLow _ => .porNLow u
  | .supplyMonitorTrip _ => .supplyMonitorTrip u
  | .bootSequence _ n e => .bootSequence u n e
  | .bootWatchdog _ fatal => .bootWatchdog u fatal
  | .failcntClear _ => .failcntClear u
  | .hostReset _ cause gen width => .hostReset u cause gen width
  | .perstNRise _ gen width => .perstNRise u gen width
  | .firmwareReset _ fatal rplOk => .firmwareReset u fatal rplOk
  | .firmwareRestart _ d0 d1 rplOk => .firmwareRestart u d0 d1 rplOk
  | .frameMark _ up cfg rd occ rplOk evtOk => .frameMark u up cfg rd occ rplOk evtOk
  | .grainStart _ e => .grainStart u e
  | .grainComplete _ e ce ue up => .grainComplete u e ce ue up
  | .grainLate _ prev g => .grainLate u prev g
  | .positionTake _ => .positionTake u
  | .inputWriteStart _ => .inputWriteStart u
  | .candleRecordClose _ retired wasted front back => .candleRecordClose u retired wasted front back
  | .mapCheckDone _ up rplOk => .mapCheckDone u up rplOk
  | .mapCommitArm _ => .mapCommitArm u
  | .commitDeadline _ rplOk => .commitDeadline u rplOk
  | .mapSwap _ rplOk => .mapSwap u rplOk
  | .copyForwardDone _ rplOk => .copyForwardDone u rplOk
  | .mapSnapshotDone _ rplOk => .mapSnapshotDone u rplOk
  | .bankRotationStep _ rplOk => .bankRotationStep u rplOk
  | .bankMove _ b => .bankMove u b
  | .marchTestDone _ x pass rplOk => .marchTestDone u x pass rplOk
  | .holdoffExpiry _ grp n => .holdoffExpiry u grp n
  | .wtrExpiry _ grp n => .wtrExpiry u grp n
  | .cdrLockChange _ lane locked => .cdrLockChange u lane locked
  | .candidateMatch _ lane client pos word ctr => .candidateMatch u lane client pos word ctr
  | .candidateVerify _ lane client pos word ctr => .candidateVerify u lane client pos word ctr
  | .ziuthFrameRx _ p half faw code pad => .ziuthFrameRx u p half faw code pad
  | .sonetFrameRx _ p starts lanes => .sonetFrameRx u p starts lanes
  | .otnFrameRx _ p starts l0 l1 l2 l3 ais => .otnFrameRx u p starts l0 l1 l2 l3 ais
  | .lofTimer _ p client => .lofTimer u p client
  | .losTimer _ p ev => .losTimer u p ev
  | .rdiHoldExpiry _ p => .rdiHoldExpiry u p
  | .pllLock _ p => .pllLock u p
  | .portDisableDone _ p rplOk => .portDisableDone u p rplOk
  | .depthEvaluation _ => .depthEvaluation u
  | .portDeepen _ p => .portDeepen u p
  | .portWakeDone _ p => .portWakeDone u p
  | .mdcDiFrame _ port1 frame => .mdcDiFrame u port1 frame
  | .mateFrameRx _ lane line al => .mateFrameRx u lane line al
  | .mateLaneDrop _ lane => .mateLaneDrop u lane
  | .heartbeatRecord _ h body => .heartbeatRecord u h body
  | .stopRecord _ h lastFrame cause => .stopRecord u h lastFrame cause
  | .handoverRecord _ h mark epoch => .handoverRecord u h mark epoch
  | .mapEntries _ h entries => .mapEntries u h entries
  | .commitArm _ h target checkId sent => .commitArm u h target checkId sent
  | .commitCancel _ h target => .commitCancel u h target
  | .selState _ h items => .selState u h items
  | .historyRecord _ h offset recorded fn => .historyRecord u h offset recorded fn
  | .settingsRecord _ h off total d data => .settingsRecord u h off total d data
  | .resyncBegin _ h fn => .resyncBegin u h fn
  | .resyncData _ h d => .resyncData u h d
  | .resyncEnd _ h records => .resyncEnd u h records
  | .resyncReq _ h => .resyncReq u h
  | .resyncStart _ => .resyncStart u
  | .resyncSwap _ => .resyncSwap u
  | .mirroredSwap _ => .mirroredSwap u
  | .leaseExpiry _ rplOk => .leaseExpiry u rplOk
  | .guardEnd _ => .guardEnd u
  | .drillTimer _ => .drillTimer u
  | .handoverMark _ rplOk => .handoverMark u rplOk
  | .newHolderActs _ => .newHolderActs u
  | .handoverLapse _ rplOk => .handoverLapse u rplOk
  | .oldHolderTxIdle _ => .oldHolderTxIdle u
  | .pairSwapTimeout _ rplOk => .pairSwapTimeout u rplOk
  | .refLoss _ n present => .refLoss u n present
  | .monitorWindowEnd _ freqs out mate => .monitorWindowEnd u freqs out mate
  | .refWtrExpiry _ n => .refWtrExpiry u n
  | .selection _ => .selection u
  | .acquireTimeout _ => .acquireTimeout u
  | .timingHoldoffEnd _ => .timingHoldoffEnd u
  | .verificationComplete _ phase df => .verificationComplete u phase df
  | .switchCommit _ => .switchCommit u
  | .realignPulse _ pps rplOk => .realignPulse u pps rplOk
  | .realignTimeout _ rplOk => .realignTimeout u rplOk
  | .avsReadback _ ok mv => .avsReadback u ok mv
  | .powerEstimate _ base total tj => .powerEstimate u base total tj
  | .scrubUnit _ mapUp selUp monUp ce ue rplOk => .scrubUnit u mapUp selUp monUp ce ue rplOk
  | .spotCheck _ bad rplOk => .spotCheck u bad rplOk
  | .eyeScanDone _ width height worst rplOk => .eyeScanDone u width height worst rplOk
  | .mramCheckDone _ rplOk => .mramCheckDone u rplOk
  | .lanePrbsEnd _ p errors unlocked rplOk => .lanePrbsEnd u p errors unlocked rplOk
  | .stackMarchDone _ failed first rplOk => .stackMarchDone u failed first rplOk
  | .h2dNoticeTake _ ch => .h2dNoticeTake u ch
  | .descriptorTake _ src d rplOk => .descriptorTake u src d rplOk
  | .noticeTimeout _ host ch => .noticeTimeout u host ch
  | .dumpWriteDone _ => .dumpWriteDone u
  | .dumpErrorStop _ => .dumpErrorStop u
  | .perfDefinitionChange _ rplOk => .perfDefinitionChange u rplOk
  | .stagingTimeout _ => .stagingTimeout u
  | .fwHandoverMark _ => .fwHandoverMark u
  | .fwDrainLimit _ rplOk => .fwDrainLimit u rplOk
  | .fwRevert _ cause rplOk => .fwRevert u cause rplOk
  | .trialExpiry _ => .trialExpiry u
  | .pllUnlock _ p => .pllUnlock u p
  | .fwStageChunkWritten _ rplOk => .fwStageChunkWritten u rplOk
  | .fwImageCopied _ rplOk => .fwImageCopied u rplOk
  | .newFirmwareStarted _ rplOk => .newFirmwareStarted u rplOk
  | .settingsWritten _ outOk rplOk => .settingsWritten u outOk rplOk

/-- The operands keep their ranges. -/
def Instr.wf : Instr → Bool
  | .echo _ => true
  | .getInfo _ => true
  | .portConfigure _ => true
  | .portEnable _ => true
  | .portDisable _ => true
  | .portStatus _ => true
  | .mapWriteRange _ => true
  | .mapCommit _ => true
  | .mapReadback _ => true
  | .mapCheck _ => true
  | .mapSnapshot _ => true
  | .selWrite _ => true
  | .selCommand _ => true
  | .selStatus _ => true
  | .monConfigure _ => true
  | .timingConfigure _ => true
  | .timingRealign _ => true
  | .timingStatus _ => true
  | .pairConfigure _ => true
  | .pairSwap _ => true
  | .pairStatus _ => true
  | .powerBudget _ => true
  | .latencyBudget _ => true
  | .selftest _ => true
  | .selftestResult _ => true
  | .fwStage _ => true
  | .fwActivate _ => true
  | .fwConfirm _ => true
  | .fwAbort _ => true
  | .perfConfig _ => true
  | .perfDumpNow _ => true
  | .mdcRoute _ => true
  | .mdcStatus _ => true
  | .settingsSave _ => true
  | .settingsRestore _ => true
  | .poll _ _ => true
  | .grant _ _ _ => true
  | .renew _ _ => true
  | .revoke _ _ => true
  | .handover _ _ => true
  | .arbAbort _ => true
  | .spiStatus _ => true
  | .cmdWrite _ d => decide (d.length = 16)
  | .rplRead _ => true
  | .memWrite _ _ _ => true
  | .memRead _ _ _ _ _ => true
  | .i2cWrite _ _ _ => true
  | .i2cRead _ _ => true
  | .fuseDbg _ _ => true
  | .jtagInstruction _ _ => true
  | .genConstWrite _ _ _ _ => true
  | .constHold _ _ _ => true
  | .prbsRestart _ _ => true
  | .prtIdleWrite _ _ _ _ => true
  | .rearm _ _ => true
  | .lineSelWrite _ _ _ _ => true
  | .apsTxWrite _ _ _ _ => true
  | .h2dNoticeWrite _ _ _ _ _ => true
  | .h2dNoticePost _ _ _ => true
  | .d2hNoticeTake _ _ _ => true
  | .ringEnable _ _ _ _ => true
  | .ringDisable _ _ _ _ => true
  | .rplCiWrite _ _ _ _ => true
  | .mdcRdWrite _ _ _ _ => true
  | .mdcWrWrite _ _ _ _ => true
  | .tallyDumpCiWrite _ _ _ => true
  | .semAcqRead _ _ _ => true
  | .semAcqWrite _ _ _ => true
  | .scrOwnWrite _ _ _ _ => true
  | .scrOwnHandoverDone _ _ => true
  | .remapWrite _ _ _ => true
  | .lockSet _ _ _ => true
  | .mtxRotWrite _ _ _ => true
  | .registerWrite _ m a data => burstOk m a.via a.addr data.length
  | .readClear _ m r => burstOk m r.via r.addr r.be.length
  | .defaultTargetError _ _ _ _ _ => true
  | .mapWindowWrite _ _ _ => true
  | .selectorWindowWrite _ _ _ => true
  | .porNLow _ => true
  | .supplyMonitorTrip _ => true
  | .bootSequence _ _ e => decide (e.ends.length = 11) && rising e.ends
  | .bootWatchdog _ _ => true
  | .failcntClear _ => true
  | .hostReset _ _ gen width => linkOk gen width
  | .perstNRise _ gen width => linkOk gen width
  | .firmwareReset _ _ _ => true
  | .firmwareRestart _ d0 d1 _ => (d0 ++ d1).all fun d => d.all fun x => decide (x.length = 16)
  | .frameMark _ _ cfg rd occ _ _ => decide (rd.map Prod.fst).Nodup && decide (occ.map Prod.fst).Nodup && cfg.all fun c => decide (c.vecs ≤ 32)
  | .grainStart _ _ => true
  | .grainComplete _ _ _ _ _ => true
  | .grainLate _ _ _ => true
  | .positionTake _ => true
  | .inputWriteStart _ => true
  | .candleRecordClose _ _ _ _ _ => true
  | .mapCheckDone _ _ _ => true
  | .mapCommitArm _ => true
  | .commitDeadline _ _ => true
  | .mapSwap _ _ => true
  | .copyForwardDone _ _ => true
  | .mapSnapshotDone _ _ => true
  | .bankRotationStep _ _ => true
  | .bankMove _ _ => true
  | .marchTestDone _ _ _ _ => true
  | .holdoffExpiry _ _ _ => true
  | .wtrExpiry _ _ _ => true
  | .cdrLockChange _ _ _ => true
  | .candidateMatch _ _ _ _ _ _ => true
  | .candidateVerify _ _ _ _ _ _ => true
  | .ziuthFrameRx _ _ _ _ _ _ => true
  | .sonetFrameRx _ _ starts lanes => laneCountOk starts.length && decide (lanes.length = starts.length)
  | .otnFrameRx _ _ starts l0 l1 l2 l3 _ => laneCountOk starts.length && ([l0, l1, l2, l3].drop starts.length).all List.isEmpty
  | .lofTimer _ _ _ => true
  | .losTimer _ _ _ => true
  | .rdiHoldExpiry _ _ => true
  | .pllLock _ _ => true
  | .portDisableDone _ _ _ => true
  | .depthEvaluation _ => true
  | .portDeepen _ _ => true
  | .portWakeDone _ _ => true
  | .mdcDiFrame _ _ frame => [12500, 6250, 3125].contains frame.length
  | .mateFrameRx _ _ _ _ => true
  | .mateLaneDrop _ _ => true
  | .heartbeatRecord _ _ _ => true
  | .stopRecord _ _ _ _ => true
  | .handoverRecord _ _ _ _ => true
  | .mapEntries _ _ _ => true
  | .commitArm _ _ _ _ _ => true
  | .commitCancel _ _ _ => true
  | .selState _ _ _ => true
  | .historyRecord _ _ _ _ _ => true
  | .settingsRecord _ _ _ _ d data => decide (d.length = 16) && decide (data.length ≤ 65448)
  | .resyncBegin _ _ _ => true
  | .resyncData _ _ d => decide (d.data.length % 8 = 0) && decide (d.data.length ≤ 65512) && decide (d.off.toNat % 8 = 0)
  | .resyncEnd _ _ _ => true
  | .resyncReq _ _ => true
  | .resyncStart _ => true
  | .resyncSwap _ => true
  | .mirroredSwap _ => true
  | .leaseExpiry _ _ => true
  | .guardEnd _ => true
  | .drillTimer _ => true
  | .handoverMark _ _ => true
  | .newHolderActs _ => true
  | .handoverLapse _ _ => true
  | .oldHolderTxIdle _ => true
  | .pairSwapTimeout _ _ => true
  | .refLoss _ _ _ => true
  | .monitorWindowEnd _ freqs _ _ => decide (freqs.map Prod.fst).Nodup
  | .refWtrExpiry _ _ => true
  | .selection _ => true
  | .acquireTimeout _ => true
  | .timingHoldoffEnd _ => true
  | .verificationComplete _ _ _ => true
  | .switchCommit _ => true
  | .realignPulse _ _ _ => true
  | .realignTimeout _ _ => true
  | .avsReadback _ _ _ => true
  | .powerEstimate _ _ _ _ => true
  | .scrubUnit _ _ _ _ _ _ _ => true
  | .spotCheck _ _ _ => true
  | .eyeScanDone _ _ _ _ _ => true
  | .mramCheckDone _ _ => true
  | .lanePrbsEnd _ _ _ _ _ => true
  | .stackMarchDone _ _ _ _ => true
  | .h2dNoticeTake _ _ => true
  | .descriptorTake _ src d _ => decide (src ≠ .spi ∨ d = none) && d.all fun x => decide (x.length = 16)
  | .noticeTimeout _ _ _ => true
  | .dumpWriteDone _ => true
  | .dumpErrorStop _ => true
  | .perfDefinitionChange _ _ => true
  | .stagingTimeout _ => true
  | .fwHandoverMark _ => true
  | .fwDrainLimit _ _ => true
  | .fwRevert _ _ _ => true
  | .trialExpiry _ => true
  | .pllUnlock _ _ => true
  | .fwStageChunkWritten _ _ => true
  | .fwImageCopied _ _ => true
  | .newFirmwareStarted _ _ => true
  | .settingsWritten _ _ _ => true

end Sys2Proof
end

