-- ==== Sys2Proof/Laws/PerInstr.lean ====
section
/-! SUPPORT. Laws/PerInstr.lean: one lemma per command: moving it in time changes its tick and nothing that well-formedness sees. -/
namespace Sys2Proof.Laws.Timed

/-- The command moved to tick `u` happens at `u`, is well-formed exactly when it was, and moving it again forgets the first move. -/
def Statement (i : Instr) : Prop :=
  ∀ u v, (i.atTick u).tick = u ∧ (i.atTick u).wf = i.wf ∧ (i.atTick u).atTick v = i.atTick v

theorem echo (x : Exe) : Statement (.echo x) := fun _ _ => ⟨rfl, rfl, rfl⟩
theorem getInfo (x : Exe) : Statement (.getInfo x) := fun _ _ => ⟨rfl, rfl, rfl⟩
theorem portConfigure (x : Exe) : Statement (.portConfigure x) := fun _ _ => ⟨rfl, rfl, rfl⟩
theorem portEnable (x : Exe) : Statement (.portEnable x) := fun _ _ => ⟨rfl, rfl, rfl⟩
theorem portDisable (x : Exe) : Statement (.portDisable x) := fun _ _ => ⟨rfl, rfl, rfl⟩
theorem portStatus (x : Exe) : Statement (.portStatus x) := fun _ _ => ⟨rfl, rfl, rfl⟩
theorem mapWriteRange (x : Exe) : Statement (.mapWriteRange x) := fun _ _ => ⟨rfl, rfl, rfl⟩
theorem mapCommit (x : Exe) : Statement (.mapCommit x) := fun _ _ => ⟨rfl, rfl, rfl⟩
theorem mapReadback (x : Exe) : Statement (.mapReadback x) := fun _ _ => ⟨rfl, rfl, rfl⟩
theorem mapCheck (x : Exe) : Statement (.mapCheck x) := fun _ _ => ⟨rfl, rfl, rfl⟩
theorem mapSnapshot (x : Exe) : Statement (.mapSnapshot x) := fun _ _ => ⟨rfl, rfl, rfl⟩
theorem selWrite (x : Exe) : Statement (.selWrite x) := fun _ _ => ⟨rfl, rfl, rfl⟩
theorem selCommand (x : Exe) : Statement (.selCommand x) := fun _ _ => ⟨rfl, rfl, rfl⟩
theorem selStatus (x : Exe) : Statement (.selStatus x) := fun _ _ => ⟨rfl, rfl, rfl⟩
theorem monConfigure (x : Exe) : Statement (.monConfigure x) := fun _ _ => ⟨rfl, rfl, rfl⟩
theorem timingConfigure (x : Exe) : Statement (.timingConfigure x) := fun _ _ => ⟨rfl, rfl, rfl⟩
theorem timingRealign (x : Exe) : Statement (.timingRealign x) := fun _ _ => ⟨rfl, rfl, rfl⟩
theorem timingStatus (x : Exe) : Statement (.timingStatus x) := fun _ _ => ⟨rfl, rfl, rfl⟩
theorem pairConfigure (x : Exe) : Statement (.pairConfigure x) := fun _ _ => ⟨rfl, rfl, rfl⟩
theorem pairSwap (x : Exe) : Statement (.pairSwap x) := fun _ _ => ⟨rfl, rfl, rfl⟩
theorem pairStatus (x : Exe) : Statement (.pairStatus x) := fun _ _ => ⟨rfl, rfl, rfl⟩
theorem powerBudget (x : Exe) : Statement (.powerBudget x) := fun _ _ => ⟨rfl, rfl, rfl⟩
theorem latencyBudget (x : Exe) : Statement (.latencyBudget x) := fun _ _ => ⟨rfl, rfl, rfl⟩
theorem selftest (x : Exe) : Statement (.selftest x) := fun _ _ => ⟨rfl, rfl, rfl⟩
theorem selftestResult (x : Exe) : Statement (.selftestResult x) := fun _ _ => ⟨rfl, rfl, rfl⟩
theorem fwStage (x : Exe) : Statement (.fwStage x) := fun _ _ => ⟨rfl, rfl, rfl⟩
theorem fwActivate (x : Exe) : Statement (.fwActivate x) := fun _ _ => ⟨rfl, rfl, rfl⟩
theorem fwConfirm (x : Exe) : Statement (.fwConfirm x) := fun _ _ => ⟨rfl, rfl, rfl⟩
theorem fwAbort (x : Exe) : Statement (.fwAbort x) := fun _ _ => ⟨rfl, rfl, rfl⟩
theorem perfConfig (x : Exe) : Statement (.perfConfig x) := fun _ _ => ⟨rfl, rfl, rfl⟩
theorem perfDumpNow (x : Exe) : Statement (.perfDumpNow x) := fun _ _ => ⟨rfl, rfl, rfl⟩
theorem mdcRoute (x : Exe) : Statement (.mdcRoute x) := fun _ _ => ⟨rfl, rfl, rfl⟩
theorem mdcStatus (x : Exe) : Statement (.mdcStatus x) := fun _ _ => ⟨rfl, rfl, rfl⟩
theorem settingsSave (x : Exe) : Statement (.settingsSave x) := fun _ _ => ⟨rfl, rfl, rfl⟩
theorem settingsRestore (x : Exe) : Statement (.settingsRestore x) := fun _ _ => ⟨rfl, rfl, rfl⟩
theorem poll (t : Nat) (q : Query) : Statement (.poll t q) := fun _ _ => ⟨rfl, rfl, rfl⟩
theorem grant (t : Nat) (q : Query) (rplOk : Bool) : Statement (.grant t q rplOk) := fun _ _ => ⟨rfl, rfl, rfl⟩
theorem renew (t : Nat) (q : Query) : Statement (.renew t q) := fun _ _ => ⟨rfl, rfl, rfl⟩
theorem revoke (t : Nat) (q : Query) : Statement (.revoke t q) := fun _ _ => ⟨rfl, rfl, rfl⟩
theorem handover (t : Nat) (q : Query) : Statement (.handover t q) := fun _ _ => ⟨rfl, rfl, rfl⟩
theorem arbAbort (t : Nat) : Statement (.arbAbort t) := fun _ _ => ⟨rfl, rfl, rfl⟩
theorem spiStatus (t : Nat) : Statement (.spiStatus t) := fun _ _ => ⟨rfl, rfl, rfl⟩
theorem cmdWrite (t : Nat) (d : List W32) : Statement (.cmdWrite t d) := fun _ _ => ⟨rfl, rfl, rfl⟩
theorem rplRead (t : Nat) : Statement (.rplRead t) := fun _ _ => ⟨rfl, rfl, rfl⟩
theorem memWrite (t : Nat) (addr : W32) (data : List W8) : Statement (.memWrite t addr data) := fun _ _ => ⟨rfl, rfl, rfl⟩
theorem memRead (t : Nat) (addr : W32) (n : Nat) (ce ue : List (Fin 262144)) : Statement (.memRead t addr n ce ue) := fun _ _ => ⟨rfl, rfl, rfl⟩
theorem i2cWrite (t : Nat) (addr : BitVec 7) (data : List W8) : Statement (.i2cWrite t addr data) := fun _ _ => ⟨rfl, rfl, rfl⟩
theorem i2cRead (t : Nat) (addr : BitVec 7) : Statement (.i2cRead t addr) := fun _ _ => ⟨rfl, rfl, rfl⟩
theorem fuseDbg (t : Nat) (testEn : Bool) : Statement (.fuseDbg t testEn) := fun _ _ => ⟨rfl, rfl, rfl⟩
theorem jtagInstruction (t : Nat) (ir : Jtag) : Statement (.jtagInstruction t ir) := fun _ _ => ⟨rfl, rfl, rfl⟩
theorem genConstWrite (t : Nat) (m : Master) (w : Fin 3240) (v : W32) : Statement (.genConstWrite t m w v) := fun _ _ => ⟨rfl, rfl, rfl⟩
theorem constHold (t : Nat) (m : Master) (b : Bool) : Statement (.constHold t m b) := fun _ _ => ⟨rfl, rfl, rfl⟩
theorem prbsRestart (t : Nat) (m : Master) : Statement (.prbsRestart t m) := fun _ _ => ⟨rfl, rfl, rfl⟩
theorem prtIdleWrite (t : Nat) (m : Master) (p : Port) (b : W8) : Statement (.prtIdleWrite t m p b) := fun _ _ => ⟨rfl, rfl, rfl⟩
theorem rearm (t : Nat) (m : Master) : Statement (.rearm t m) := fun _ _ => ⟨rfl, rfl, rfl⟩
theorem lineSelWrite (t : Nat) (m : Master) (w : Port) (v : W32) : Statement (.lineSelWrite t m w v) := fun _ _ => ⟨rfl, rfl, rfl⟩
theorem apsTxWrite (t : Nat) (m : Master) (w : Port) (v : W32) : Statement (.apsTxWrite t m w v) := fun _ _ => ⟨rfl, rfl, rfl⟩
theorem h2dNoticeWrite (t : Nat) (m : Master) (ch : Fin 32) (w : Fin 4) (v : W32) : Statement (.h2dNoticeWrite t m ch w v) := fun _ _ => ⟨rfl, rfl, rfl⟩
theorem h2dNoticePost (t : Nat) (m : Master) (v : W32) : Statement (.h2dNoticePost t m v) := fun _ _ => ⟨rfl, rfl, rfl⟩
theorem d2hNoticeTake (t : Nat) (m : Master) (v : W32) : Statement (.d2hNoticeTake t m v) := fun _ _ => ⟨rfl, rfl, rfl⟩
theorem ringEnable (t : Nat) (m : Master) (r : Fin 2) (v : W32) : Statement (.ringEnable t m r v) := fun _ _ => ⟨rfl, rfl, rfl⟩
theorem ringDisable (t : Nat) (m : Master) (r : Fin 2) (v : W32) : Statement (.ringDisable t m r v) := fun _ _ => ⟨rfl, rfl, rfl⟩
theorem rplCiWrite (t : Nat) (m : Master) (r : Fin 2) (v : W32) : Statement (.rplCiWrite t m r v) := fun _ _ => ⟨rfl, rfl, rfl⟩
theorem mdcRdWrite (t : Nat) (m : Master) (c : Fin 256) (v : W32) : Statement (.mdcRdWrite t m c v) := fun _ _ => ⟨rfl, rfl, rfl⟩
theorem mdcWrWrite (t : Nat) (m : Master) (c : Fin 256) (v : W32) : Statement (.mdcWrWrite t m c v) := fun _ _ => ⟨rfl, rfl, rfl⟩
theorem tallyDumpCiWrite (t : Nat) (m : Master) (v : W32) : Statement (.tallyDumpCiWrite t m v) := fun _ _ => ⟨rfl, rfl, rfl⟩
theorem semAcqRead (t : Nat) (m : Master) (n : Fin 32) : Statement (.semAcqRead t m n) := fun _ _ => ⟨rfl, rfl, rfl⟩
theorem semAcqWrite (t : Nat) (m : Master) (n : Fin 32) : Statement (.semAcqWrite t m n) := fun _ _ => ⟨rfl, rfl, rfl⟩
theorem scrOwnWrite (t : Nat) (m : Master) (b : Fin 16) (v : W32) : Statement (.scrOwnWrite t m b v) := fun _ _ => ⟨rfl, rfl, rfl⟩
theorem scrOwnHandoverDone (t : Nat) (b : Fin 16) : Statement (.scrOwnHandoverDone t b) := fun _ _ => ⟨rfl, rfl, rfl⟩
theorem remapWrite (t : Nat) (m : Master) (v : W32) : Statement (.remapWrite t m v) := fun _ _ => ⟨rfl, rfl, rfl⟩
theorem lockSet (t : Nat) (m : Master) (b : LockBlk) : Statement (.lockSet t m b) := fun _ _ => ⟨rfl, rfl, rfl⟩
theorem mtxRotWrite (t : Nat) (m : Master) (v : W32) : Statement (.mtxRotWrite t m v) := fun _ _ => ⟨rfl, rfl, rfl⟩
theorem registerWrite (t : Nat) (m : Master) (a : BusPlace) (data : List (Option W8)) : Statement (.registerWrite t m a data) := fun _ _ => ⟨rfl, rfl, rfl⟩
theorem readClear (t : Nat) (m : Master) (r : Reading) : Statement (.readClear t m r) := fun _ _ => ⟨rfl, rfl, rfl⟩
theorem defaultTargetError (t : Nat) (m : Master) (addr : W32) (write : Bool) (cause : BitVec 3) : Statement (.defaultTargetError t m addr write cause) := fun _ _ => ⟨rfl, rfl, rfl⟩
theorem mapWindowWrite (t : Nat) (off : BitVec 28) (data : List W8) : Statement (.mapWindowWrite t off data) := fun _ _ => ⟨rfl, rfl, rfl⟩
theorem selectorWindowWrite (t : Nat) (off : BitVec 24) (data : List W8) : Statement (.selectorWindowWrite t off data) := fun _ _ => ⟨rfl, rfl, rfl⟩
theorem porNLow (t : Nat) : Statement (.porNLow t) := fun _ _ => ⟨rfl, rfl, rfl⟩
theorem supplyMonitorTrip (t : Nat) : Statement (.supplyMonitorTrip t) := fun _ _ => ⟨rfl, rfl, rfl⟩
theorem bootSequence (t : Nat) (n : Fin 12) (e : BootEnv) : Statement (.bootSequence t n e) := fun _ _ => ⟨rfl, rfl, rfl⟩
theorem bootWatchdog (t : Nat) (fatal : Bool) : Statement (.bootWatchdog t fatal) := fun _ _ => ⟨rfl, rfl, rfl⟩
theorem failcntClear (t : Nat) : Statement (.failcntClear t) := fun _ _ => ⟨rfl, rfl, rfl⟩
theorem hostReset (t : Nat) (cause : HostResetCause) (gen : Fin 6) (width : Fin 8) : Statement (.hostReset t cause gen width) := fun _ _ => ⟨rfl, rfl, rfl⟩
theorem perstNRise (t : Nat) (gen : Fin 6) (width : Fin 8) : Statement (.perstNRise t gen width) := fun _ _ => ⟨rfl, rfl, rfl⟩
theorem firmwareReset (t : Nat) (fatal rplOk : Bool) : Statement (.firmwareReset t fatal rplOk) := fun _ _ => ⟨rfl, rfl, rfl⟩
theorem firmwareRestart (t : Nat) (d0 d1 : List (Option (List W32))) (rplOk : Bool) : Statement (.firmwareRestart t d0 d1 rplOk) := fun _ _ => ⟨rfl, rfl, rfl⟩
theorem frameMark (t : Nat) (up : Upsets) (cfg : Option PcieCfg) (rd : List (Fin 256 × List W8)) (occ : List (Fin 64 × W32)) (rplOk evtOk : Bool) : Statement (.frameMark t up cfg rd occ rplOk evtOk) := fun _ _ => ⟨rfl, rfl, rfl⟩
theorem grainStart (t : Nat) (e : Claim) : Statement (.grainStart t e) := fun _ _ => ⟨rfl, rfl, rfl⟩
theorem grainComplete (t : Nat) (e : Fin 256) (ce ue : List (Nat × Nat)) (up : List (Nat × W64)) : Statement (.grainComplete t e ce ue up) := fun _ _ => ⟨rfl, rfl, rfl⟩
theorem grainLate (t : Nat) (prev : Bool) (g : Fin 60750) : Statement (.grainLate t prev g) := fun _ _ => ⟨rfl, rfl, rfl⟩
theorem positionTake (t : Nat) : Statement (.positionTake t) := fun _ _ => ⟨rfl, rfl, rfl⟩
theorem inputWriteStart (t : Nat) : Statement (.inputWriteStart t) := fun _ _ => ⟨rfl, rfl, rfl⟩
theorem candleRecordClose (t : Nat) (retired wasted front back : W32) : Statement (.candleRecordClose t retired wasted front back) := fun _ _ => ⟨rfl, rfl, rfl⟩
theorem mapCheckDone (t : Nat) (up : List (Nat × W64)) (rplOk : Bool) : Statement (.mapCheckDone t up rplOk) := fun _ _ => ⟨rfl, rfl, rfl⟩
theorem mapCommitArm (t : Nat) : Statement (.mapCommitArm t) := fun _ _ => ⟨rfl, rfl, rfl⟩
theorem commitDeadline (t : Nat) (rplOk : Bool) : Statement (.commitDeadline t rplOk) := fun _ _ => ⟨rfl, rfl, rfl⟩
theorem mapSwap (t : Nat) (rplOk : Bool) : Statement (.mapSwap t rplOk) := fun _ _ => ⟨rfl, rfl, rfl⟩
theorem copyForwardDone (t : Nat) (rplOk : Bool) : Statement (.copyForwardDone t rplOk) := fun _ _ => ⟨rfl, rfl, rfl⟩
theorem mapSnapshotDone (t : Nat) (rplOk : Bool) : Statement (.mapSnapshotDone t rplOk) := fun _ _ => ⟨rfl, rfl, rfl⟩
theorem bankRotationStep (t : Nat) (rplOk : Bool) : Statement (.bankRotationStep t rplOk) := fun _ _ => ⟨rfl, rfl, rfl⟩
theorem bankMove (t : Nat) (b : Fin 2048) : Statement (.bankMove t b) := fun _ _ => ⟨rfl, rfl, rfl⟩
theorem marchTestDone (t : Nat) (x : Fin 2112) (pass rplOk : Bool) : Statement (.marchTestDone t x pass rplOk) := fun _ _ => ⟨rfl, rfl, rfl⟩
theorem holdoffExpiry (t : Nat) (grp : Bool) (n : BitVec 20) : Statement (.holdoffExpiry t grp n) := fun _ _ => ⟨rfl, rfl, rfl⟩
theorem wtrExpiry (t : Nat) (grp : Bool) (n : BitVec 20) : Statement (.wtrExpiry t grp n) := fun _ _ => ⟨rfl, rfl, rfl⟩
theorem cdrLockChange (t : Nat) (lane : Port) (locked : Bool) : Statement (.cdrLockChange t lane locked) := fun _ _ => ⟨rfl, rfl, rfl⟩
theorem candidateMatch (t : Nat) (lane : Port) (client : Bool) (pos : Nat) (word : BitVec 64) (ctr : W16) : Statement (.candidateMatch t lane client pos word ctr) := fun _ _ => ⟨rfl, rfl, rfl⟩
theorem candidateVerify (t : Nat) (lane : Port) (client : Bool) (pos : Nat) (word : BitVec 64) (ctr : W16) : Statement (.candidateVerify t lane client pos word ctr) := fun _ _ => ⟨rfl, rfl, rfl⟩
theorem ziuthFrameRx (t : Nat) (p : Port) (half : Bool) (faw code pad : List (Fin 4)) : Statement (.ziuthFrameRx t p half faw code pad) := fun _ _ => ⟨rfl, rfl, rfl⟩
theorem sonetFrameRx (t : Nat) (p : Port) (starts : List Nat) (lanes : List (List W8)) : Statement (.sonetFrameRx t p starts lanes) := fun _ _ => ⟨rfl, rfl, rfl⟩
theorem otnFrameRx (t : Nat) (p : Port) (starts : List Nat) (l0 l1 l2 l3 : List W8) (ais : Bool) : Statement (.otnFrameRx t p starts l0 l1 l2 l3 ais) := fun _ _ => ⟨rfl, rfl, rfl⟩
theorem lofTimer (t : Nat) (p : Port) (client : Bool) : Statement (.lofTimer t p client) := fun _ _ => ⟨rfl, rfl, rfl⟩
theorem losTimer (t : Nat) (p : Port) (ev : LosEvent) : Statement (.losTimer t p ev) := fun _ _ => ⟨rfl, rfl, rfl⟩
theorem rdiHoldExpiry (t : Nat) (p : Port) : Statement (.rdiHoldExpiry t p) := fun _ _ => ⟨rfl, rfl, rfl⟩
theorem pllLock (t : Nat) (p : Port) : Statement (.pllLock t p) := fun _ _ => ⟨rfl, rfl, rfl⟩
theorem portDisableDone (t : Nat) (p : Port) (rplOk : Bool) : Statement (.portDisableDone t p rplOk) := fun _ _ => ⟨rfl, rfl, rfl⟩
theorem depthEvaluation (t : Nat) : Statement (.depthEvaluation t) := fun _ _ => ⟨rfl, rfl, rfl⟩
theorem portDeepen (t : Nat) (p : Port) : Statement (.portDeepen t p) := fun _ _ => ⟨rfl, rfl, rfl⟩
theorem portWakeDone (t : Nat) (p : Port) : Statement (.portWakeDone t p) := fun _ _ => ⟨rfl, rfl, rfl⟩
theorem mdcDiFrame (t : Nat) (port1 : Bool) (frame : List Bool) : Statement (.mdcDiFrame t port1 frame) := fun _ _ => ⟨rfl, rfl, rfl⟩
theorem mateFrameRx (t : Nat) (lane : Fin 2) (line : LaneSymbols) (al : Alignment) : Statement (.mateFrameRx t lane line al) := fun _ _ => ⟨rfl, rfl, rfl⟩
theorem mateLaneDrop (t : Nat) (lane : Fin 2) : Statement (.mateLaneDrop t lane) := fun _ _ => ⟨rfl, rfl, rfl⟩
theorem heartbeatRecord (t : Nat) (h : RecHdr) (body : W64) : Statement (.heartbeatRecord t h body) := fun _ _ => ⟨rfl, rfl, rfl⟩
theorem stopRecord (t : Nat) (h : RecHdr) (lastFrame : W16) (cause : BitVec 3) : Statement (.stopRecord t h lastFrame cause) := fun _ _ => ⟨rfl, rfl, rfl⟩
theorem handoverRecord (t : Nat) (h : RecHdr) (mark : W16) (epoch : W8) : Statement (.handoverRecord t h mark epoch) := fun _ _ => ⟨rfl, rfl, rfl⟩
theorem mapEntries (t : Nat) (h : RecHdr) (entries : List (BitVec 25 × W64)) : Statement (.mapEntries t h entries) := fun _ _ => ⟨rfl, rfl, rfl⟩
theorem commitArm (t : Nat) (h : RecHdr) (target checkId : W16) (sent : W32) : Statement (.commitArm t h target checkId sent) := fun _ _ => ⟨rfl, rfl, rfl⟩
theorem commitCancel (t : Nat) (h : RecHdr) (target : W16) : Statement (.commitCancel t h target) := fun _ _ => ⟨rfl, rfl, rfl⟩
theorem selState (t : Nat) (h : RecHdr) (items : List W64) : Statement (.selState t h items) := fun _ _ => ⟨rfl, rfl, rfl⟩
theorem historyRecord (t : Nat) (h : RecHdr) (offset : W32) (recorded : Bool) (fn : W16) : Statement (.historyRecord t h offset recorded fn) := fun _ _ => ⟨rfl, rfl, rfl⟩
theorem settingsRecord (t : Nat) (h : RecHdr) (off total : W32) (d : List W32) (data : List W8) : Statement (.settingsRecord t h off total d data) := fun _ _ => ⟨rfl, rfl, rfl⟩
theorem resyncBegin (t : Nat) (h : RecHdr) (fn : W16) : Statement (.resyncBegin t h fn) := fun _ _ => ⟨rfl, rfl, rfl⟩
theorem resyncData (t : Nat) (h : RecHdr) (d : ResyncPiece) : Statement (.resyncData t h d) := fun _ _ => ⟨rfl, rfl, rfl⟩
theorem resyncEnd (t : Nat) (h : RecHdr) (records : W32) : Statement (.resyncEnd t h records) := fun _ _ => ⟨rfl, rfl, rfl⟩
theorem resyncReq (t : Nat) (h : RecHdr) : Statement (.resyncReq t h) := fun _ _ => ⟨rfl, rfl, rfl⟩
theorem resyncStart (t : Nat) : Statement (.resyncStart t) := fun _ _ => ⟨rfl, rfl, rfl⟩
theorem resyncSwap (t : Nat) : Statement (.resyncSwap t) := fun _ _ => ⟨rfl, rfl, rfl⟩
theorem mirroredSwap (t : Nat) : Statement (.mirroredSwap t) := fun _ _ => ⟨rfl, rfl, rfl⟩
theorem leaseExpiry (t : Nat) (rplOk : Bool) : Statement (.leaseExpiry t rplOk) := fun _ _ => ⟨rfl, rfl, rfl⟩
theorem guardEnd (t : Nat) : Statement (.guardEnd t) := fun _ _ => ⟨rfl, rfl, rfl⟩
theorem drillTimer (t : Nat) : Statement (.drillTimer t) := fun _ _ => ⟨rfl, rfl, rfl⟩
theorem handoverMark (t : Nat) (rplOk : Bool) : Statement (.handoverMark t rplOk) := fun _ _ => ⟨rfl, rfl, rfl⟩
theorem newHolderActs (t : Nat) : Statement (.newHolderActs t) := fun _ _ => ⟨rfl, rfl, rfl⟩
theorem handoverLapse (t : Nat) (rplOk : Bool) : Statement (.handoverLapse t rplOk) := fun _ _ => ⟨rfl, rfl, rfl⟩
theorem oldHolderTxIdle (t : Nat) : Statement (.oldHolderTxIdle t) := fun _ _ => ⟨rfl, rfl, rfl⟩
theorem pairSwapTimeout (t : Nat) (rplOk : Bool) : Statement (.pairSwapTimeout t rplOk) := fun _ _ => ⟨rfl, rfl, rfl⟩
theorem refLoss (t : Nat) (n : Fin 16) (present : Bool) : Statement (.refLoss t n present) := fun _ _ => ⟨rfl, rfl, rfl⟩
theorem monitorWindowEnd (t : Nat) (freqs : List (Fin 16 × Int)) (out mate : Int) : Statement (.monitorWindowEnd t freqs out mate) := fun _ _ => ⟨rfl, rfl, rfl⟩
theorem refWtrExpiry (t : Nat) (n : Fin 16) : Statement (.refWtrExpiry t n) := fun _ _ => ⟨rfl, rfl, rfl⟩
theorem selection (t : Nat) : Statement (.selection t) := fun _ _ => ⟨rfl, rfl, rfl⟩
theorem acquireTimeout (t : Nat) : Statement (.acquireTimeout t) := fun _ _ => ⟨rfl, rfl, rfl⟩
theorem timingHoldoffEnd (t : Nat) : Statement (.timingHoldoffEnd t) := fun _ _ => ⟨rfl, rfl, rfl⟩
theorem verificationComplete (t : Nat) (phase df : Int) : Statement (.verificationComplete t phase df) := fun _ _ => ⟨rfl, rfl, rfl⟩
theorem switchCommit (t : Nat) : Statement (.switchCommit t) := fun _ _ => ⟨rfl, rfl, rfl⟩
theorem realignPulse (t : Nat) (pps rplOk : Bool) : Statement (.realignPulse t pps rplOk) := fun _ _ => ⟨rfl, rfl, rfl⟩
theorem realignTimeout (t : Nat) (rplOk : Bool) : Statement (.realignTimeout t rplOk) := fun _ _ => ⟨rfl, rfl, rfl⟩
theorem avsReadback (t : Nat) (ok : Bool) (mv : BitVec 10) : Statement (.avsReadback t ok mv) := fun _ _ => ⟨rfl, rfl, rfl⟩
theorem powerEstimate (t : Nat) (base total : W16) (tj : BitVec 8) : Statement (.powerEstimate t base total tj) := fun _ _ => ⟨rfl, rfl, rfl⟩
theorem scrubUnit (t : Nat) (mapUp : List (BitVec 25 × W64)) (selUp : List (BitVec 20 × W128)) (monUp : List (BitVec 21 × W64)) (ce ue : Nat) (rplOk : Bool) : Statement (.scrubUnit t mapUp selUp monUp ce ue rplOk) := fun _ _ => ⟨rfl, rfl, rfl⟩
theorem spotCheck (t : Nat) (bad : Option (Fin 256)) (rplOk : Bool) : Statement (.spotCheck t bad rplOk) := fun _ _ => ⟨rfl, rfl, rfl⟩
theorem eyeScanDone (t : Nat) (width height : W16) (worst : Fin 4) (rplOk : Bool) : Statement (.eyeScanDone t width height worst rplOk) := fun _ _ => ⟨rfl, rfl, rfl⟩
theorem mramCheckDone (t : Nat) (rplOk : Bool) : Statement (.mramCheckDone t rplOk) := fun _ _ => ⟨rfl, rfl, rfl⟩
theorem lanePrbsEnd (t : Nat) (p : Port) (errors : W32) (unlocked : BitVec 4) (rplOk : Bool) : Statement (.lanePrbsEnd t p errors unlocked rplOk) := fun _ _ => ⟨rfl, rfl, rfl⟩
theorem stackMarchDone (t : Nat) (failed first : W32) (rplOk : Bool) : Statement (.stackMarchDone t failed first rplOk) := fun _ _ => ⟨rfl, rfl, rfl⟩
theorem h2dNoticeTake (t : Nat) (ch : Fin 32) : Statement (.h2dNoticeTake t ch) := fun _ _ => ⟨rfl, rfl, rfl⟩
theorem descriptorTake (t : Nat) (src : Src) (d : Option (List W32)) (rplOk : Bool) : Statement (.descriptorTake t src d rplOk) := fun _ _ => ⟨rfl, rfl, rfl⟩
theorem noticeTimeout (t : Nat) (host : Bool) (ch : Fin 32) : Statement (.noticeTimeout t host ch) := fun _ _ => ⟨rfl, rfl, rfl⟩
theorem dumpWriteDone (t : Nat) : Statement (.dumpWriteDone t) := fun _ _ => ⟨rfl, rfl, rfl⟩
theorem dumpErrorStop (t : Nat) : Statement (.dumpErrorStop t) := fun _ _ => ⟨rfl, rfl, rfl⟩
theorem perfDefinitionChange (t : Nat) (rplOk : Bool) : Statement (.perfDefinitionChange t rplOk) := fun _ _ => ⟨rfl, rfl, rfl⟩
theorem stagingTimeout (t : Nat) : Statement (.stagingTimeout t) := fun _ _ => ⟨rfl, rfl, rfl⟩
theorem fwHandoverMark (t : Nat) : Statement (.fwHandoverMark t) := fun _ _ => ⟨rfl, rfl, rfl⟩
theorem fwDrainLimit (t : Nat) (rplOk : Bool) : Statement (.fwDrainLimit t rplOk) := fun _ _ => ⟨rfl, rfl, rfl⟩
theorem fwRevert (t : Nat) (cause : RevertCause) (rplOk : Bool) : Statement (.fwRevert t cause rplOk) := fun _ _ => ⟨rfl, rfl, rfl⟩
theorem trialExpiry (t : Nat) : Statement (.trialExpiry t) := fun _ _ => ⟨rfl, rfl, rfl⟩
theorem pllUnlock (t : Nat) (p : Port) : Statement (.pllUnlock t p) := fun _ _ => ⟨rfl, rfl, rfl⟩
theorem fwStageChunkWritten (t : Nat) (rplOk : Bool) : Statement (.fwStageChunkWritten t rplOk) := fun _ _ => ⟨rfl, rfl, rfl⟩
theorem fwImageCopied (t : Nat) (rplOk : Bool) : Statement (.fwImageCopied t rplOk) := fun _ _ => ⟨rfl, rfl, rfl⟩
theorem newFirmwareStarted (t : Nat) (rplOk : Bool) : Statement (.newFirmwareStarted t rplOk) := fun _ _ => ⟨rfl, rfl, rfl⟩
theorem settingsWritten (t : Nat) (outOk rplOk : Bool) : Statement (.settingsWritten t outOk rplOk) := fun _ _ => ⟨rfl, rfl, rfl⟩

end Sys2Proof.Laws.Timed
end

