-- ==== Sys2Proof/Tests/Slice0.lean ====
section
/-! SUPPORT. Tests/Slice0.lean: ill-formed operands that the checks refuse, and for each statement of the certificates that has
hypotheses a concrete state and operands that meet them. Each test is about one command or one state. -/
namespace Sys2Proof.Tests
open Sys2Proof.Machine
set_option Elab.async false

/-! ### Ill-formed commands -/

theorem test_wf_cmdWrite : (Instr.cmdWrite 0 [1]).wf = false ∧ (Instr.cmdWrite 0 (List.replicate 16 0)).wf = true := by decide
theorem test_wf_descriptorTake : (Instr.descriptorTake 0 .spi (some (List.replicate 16 0)) true).wf = false ∧
    (Instr.descriptorTake 0 .ring0 (some [1, 2]) true).wf = false ∧ (Instr.descriptorTake 0 .ring1 none true).wf = true := by decide
theorem test_wf_firmwareRestart : (Instr.firmwareRestart 0 [some [1]] [] true).wf = false := by decide
theorem test_wf_sonetFrameRx : (Instr.sonetFrameRx 0 3 [1, 2] [[], []]).wf = false ∧ (Instr.sonetFrameRx 0 3 [1] []).wf = false ∧
    (Instr.sonetFrameRx 0 3 [1] [[]]).wf = true := by decide
theorem test_wf_otnFrameRx : (Instr.otnFrameRx 0 3 [1, 2] [] [] [] [] false).wf = false ∧
    (Instr.otnFrameRx 0 3 [1] [] [5] [] [] false).wf = false ∧
    (Instr.otnFrameRx 0 3 [1, 2, 3, 4] [] [] [] [] false).wf = true := by decide
theorem test_wf_bursts : (Instr.registerWrite 0 2 ⟨.bus, 0x1000007C⟩ (List.replicate 5 none)).wf = false ∧
    (Instr.registerWrite 0 2 ⟨.bar0, 0⟩ [none]).wf = false ∧ (Instr.readClear 0 0 ⟨.bar0, 0x7C, List.replicate 5 true⟩).wf = true ∧
    (Instr.readClear 0 0 ⟨.bus, 0, []⟩).wf = false := by decide
theorem test_wf_bootSequence : (Instr.bootSequence 0 1 ⟨[5], true, []⟩).wf = false ∧
    (Instr.bootSequence 0 1 ⟨[1, 2, 3, 4, 5, 6, 7, 8, 9, 11, 10], true, []⟩).wf = false := by decide
theorem test_wf_settingsRecord : (Instr.settingsRecord 0 ⟨0, true, 0, 0, 0⟩ 0 0 [7] []).wf = false ∧
    (Instr.settingsRecord 0 ⟨0, true, 0, 0, 0⟩ 0 0 (List.replicate 16 0) (List.replicate 65449 0)).wf = false := by decide +kernel
theorem test_wf_resyncData : (Instr.resyncData 0 ⟨0, true, 0, 0, 0⟩ ⟨2, 4, []⟩).wf = false ∧
    (Instr.resyncData 0 ⟨0, true, 0, 0, 0⟩ ⟨2, 8, [1, 2]⟩).wf = false := by decide
theorem test_wf_mdcDiFrame : (Instr.mdcDiFrame 0 false [true]).wf = false := by decide
theorem test_wf_links : (Instr.hostReset 0 .flr 3 7).wf = false ∧ (Instr.perstNRise 0 1 3).wf = false ∧ (Instr.perstNRise 0 3 4).wf = true := by decide
theorem test_wf_frameMark : (Instr.frameMark 0 ⟨[], [], []⟩ none [(2, []), (2, [1])] [] true true).wf = false ∧
    (Instr.frameMark 0 ⟨[], [], []⟩ none [] [(1, 5), (1, 6)] true true).wf = false ∧
    (Instr.frameMark 0 ⟨[], [], []⟩ (some ⟨33, 0, true⟩) [] [] true true).wf = false := by decide
theorem test_wf_monitorWindowEnd : (Instr.monitorWindowEnd 0 [(3, 1), (3, 2)] 0 0).wf = false := by decide
theorem test_noTableWord : decodeTableWord 32 7 = none := by decide

/-! ### Helpers -/

/-- A descriptor: opcode, PLEN, FLAGS and parameter words, filled up with zeros (R254). -/
def desc (op plen flags : Nat) (ps : List W32) : List W32 :=
  ([BitVec.ofNat 32 op, BitVec.ofNat 32 (flags + 65536 * plen)] ++ ps ++ List.replicate 14 0).take 16

/-- A command taken from ring 0 and not started. -/
def cmd (op plen flags : Nat) (ps : List W32) : Taken :=
  { src := .ring0, d := desc op plen flags ps, epoch := 0, phase := .waiting, drop := false, done := none, lost := false, old := false }

/-- The firmware runs. -/
def run0 : State := (State.reset.raise F.MBX_STATUS_FW_RUN).wr F.BOOT_STATUS_PHASE 2

/-- The firmware runs and the device acts. -/
def act0 : State := run0.raise F.PAIR_STAT_ACTING

/-- A state that has taken one command. -/
def one (s : State) (k : Taken) : State := { s with mbx := { s.mbx with taken := [k] } }

/-- A command of ring 0 at tick 7 whose host-memory writes succeed. -/
def x0 : Exe := { t := 7, src := .ring0, inp := none, outOk := true, rplOk := true }

/-- A command of ring 0 with the bytes of its input buffer. -/
def xIn (bs : List W8) : Exe := { x0 with inp := some bs }

/-- `Starts` as a truth value. -/
def startsB (s : State) (o : Opc) (x : Exe) (i : Nat) (k : Taken) : Bool :=
  decide ((s.tick x.t).pick o x.src = some (i, k)) && formOk o.row k.d && (!o.row.holder || s.acting)

theorem starts_of {s : State} {o : Opc} {x : Exe} {i : Nat} {k : Taken} (h : startsB s o x i k = true) : Starts s o x i k := by
  simp only [startsB, Bool.and_eq_true, decide_eq_true_eq] at h
  exact ⟨h.1.1, h.1.2, fun e => by simpa [e] using h.2⟩

theorem starts_and {s : State} {o : Opc} {x : Exe} {i : Nat} {k : Taken} {P : Prop} [Decidable P]
    (h : (startsB s o x i k && decide P) = true) : Starts s o x i k ∧ P := by
  simp only [Bool.and_eq_true, decide_eq_true_eq] at h
  exact ⟨starts_of h.1, h.2⟩

/-! ### Witnesses: state, time, matrix -/

theorem witness_StepRunsFrontCommand : ({ State.reset with pending := [.arbAbort 3] } : State).pending = .arbAbort 3 :: [] ∧
    State.reset.pending = [] := by decide

theorem reset_canonical : Canonical State.reset := ⟨rfl, rfl, rfl, rfl, rfl, rfl, rfl, rfl⟩

theorem witness_StepKeepsStoresCanonical : Canonical State.reset ∧ step State.reset = .next State.reset := ⟨reset_canonical, rfl⟩

theorem witness_HostBarredUntilStep5 : State.reset.rd F.BOOT_RESULT_RES5 = 3 ∧ State.reset.rd F.BOOT_STATUS_PHASE ≠ 4 := by decide +kernel

/-- Boot step 5 has ended, so the host is served. -/
def open0 : State := State.reset.wr F.BOOT_RESULT_RES5 0

theorem witness_SemaphoresAndBankHandover :
    (open0.barred 0 = false ∧ open0.holder 3 = none) ∧
    (State.reset.barred 2 = false ∧ (State.reset.setHolder 3 (some 2)).holder 3 = some 2) ∧
    (State.reset.barred 8 = false ∧ (State.reset.owner 15 = 8 ∨ 8 = 1) ∧ bitOf (0x18000 : W32).toNat 16 = true ∧
      bits (0x18000 : W32).toNat 12 4 ≤ 8 ∧ Store.get (fun _ => none) State.reset.mtx.hand 15 = none) ∧
    (open0.barred 0 = false ∧ open0.owner 4 ≠ 0 ∧ 0 ≠ 1) ∧
    Store.get (fun _ => none) ({ State.reset with mtx := { State.reset.mtx with hand := [(4, some 0)] } } : State).mtx.hand 4 = some 0 := by
  decide +kernel

theorem witness_RemapLockAndErrorCapture :
    (State.reset.barred 8 = false ∧ State.reset.flag F.SYS_CTRL_LOCK = false) ∧
    (open0.barred 0 = false ∧ ¬(((1 ≤ 0 ∧ 0 ≤ 4) ∨ 0 = 8) ∧ open0.flag F.SYS_CTRL_LOCK = false)) ∧
    ¬ ((8 : Master).val = 0 ∧ (LockBlk.sys = .sys ∨ LockBlk.sys = .mtx)) ∧ ((0 : Master).val = 0 ∧ (LockBlk.mtx = .sys ∨ LockBlk.mtx = .mtx)) ∧
    State.reset.flag F.MTX_ERR_INFO_VALID = false ∧ (State.reset.raise F.MTX_ERR_INFO_VALID).flag F.MTX_ERR_INFO_VALID = true := by
  decide +kernel

theorem witness_RotateAmounts : open0.barred 0 = false ∧ State.reset.barred 3 = false := by decide +kernel

theorem witness_OnlyOwnerReachesBank :
    (State.reset.barred 8 = false ∧ (0x1FFFFF : Nat) < 0x200000 ∧ 0x1FFFFF % 128 + 1 ≤ 128 ∧ (0x181FFFFF : W32).toNat = 0x18000000 + 0x1FFFFF ∧
      State.reset.owner (0x1FFFFF / 0x20000) = 8 ∧ Store.get (fun _ => none) State.reset.mtx.hand (0x1FFFFF / 0x20000) = none) ∧
    (open0.barred 0 = false ∧ (0x10000000 : W32).toNat = 0x10000000 + 0 ∧ open0.owner (0 / 0x20000) ≠ 0 ∧ 0 % 128 + 128 ≤ 128 ∧
      bar0Addr (0x1000000 : W32).toNat = some (0x10000000 : W32).toNat) := by decide +kernel

/-- A scratchpad word whose check bits show an error. -/
def damaged (ue : Bool) : State := State.reset.upsetScr 0x3FFFF ue
theorem witness_ScratchpadAccess :
    (State.reset.barred 8 = false ∧ (0x1FFFFC : Nat) < 0x200000 ∧ 0x1FFFFC % 128 + 4 ≤ 128 ∧ (0x101FFFFC : W32).toNat = 0x10000000 + 0x1FFFFC ∧
      State.reset.owner (0x1FFFFC / 0x20000) = 8 ∧ Store.get (fun _ => none) State.reset.mtx.hand 15 = none ∧
      State.reset.scrUe 0x1FFFFC 4 = false ∧ State.reset.scrCe 0x1FFFFC 4 = 0 ∧
      (damaged false).scrUe 0x1FFFFC 4 = false ∧ (damaged false).scrCe 0x1FFFFC 4 = 1 ∧ (damaged true).scrUe 0x1FFFFC 4 = true) ∧
    (0x3FFFE + 2 ≤ 0x200000 ∧ 0x3FFFE / 0x20000 = (0x3FFFE + 2 - 1) / 0x20000 ∧ (0x1003FFFE : W32).toNat = 0x10000000 + 0x3FFFE ∧
      (State.reset.wr (F.SCR_OWN_OWNER 1) 0).owner (0x3FFFE / 0x20000) = 0 ∧
      Store.get (fun _ => none) (State.reset.wr (F.SCR_OWN_OWNER 1) 0).mtx.hand 1 = none ∧ 0x3FFFE % 128 + 2 ≤ 128 ∧
      (State.reset.upsetScr 0x7FFF false).scrCe 0x3FFFE 2 = 1 ∧ (State.reset.upsetScr 0x7FFF false).scrUe 0x3FFFE 2 = false) := by
  decide +kernel

theorem witness_RotatedAlias : State.reset.barred 8 = false ∧ (0x18000008 : W32).toNat = 0x18000000 + 8 ∧ 8 % 128 + 120 ≤ 128 ∧
    State.reset.owner (8 / 0x20000) = 8 ∧ Store.get (fun _ => none) State.reset.mtx.hand (8 / 0x20000) = none ∧
    State.reset.scrUe 8 120 = false := by decide +kernel

theorem witness_RegisterAccessCodes :
    State.reset.barred 1 = false ∧ (0x40030000 : W32).toNat % 4 = 0 ∧ (State.reset.rowLocked 0x40030000).map (·.2) = some false ∧
      ((State.reset.setReg 0x40030000 0x80000000).rowLocked 0x40030000).map (·.2) = some true ∧
      (RegTable.find 0x40040400).isSome = true := by decide +kernel

/-! ### Witnesses: resets, pins, boot, opcodes -/

theorem witness_HostResetEffects : (State.reset.setHolder 31 (some 0)).holder 31 = some 0 ∧
    (State.reset.wr (F.SCR_OWN_OWNER 15) 0).owner 15 = 0 ∧ Store.get (fun _ => none) (State.reset.wr (F.SCR_OWN_OWNER 15) 0).mtx.hand 15 = none ∧
    (State.reset.raise F.TALLY_DUMP_CFG_EN).flag F.TALLY_DUMP_CFG_EN = true := by decide +kernel

theorem witness_PinAndI2cCommands : (State.reset.wr F.BOOT_RESULT_RES1 0).i2cAnswers = true ∧
    (State.reset.wr F.BOOT_STATUS_PHASE 4).i2cAnswers = true ∧ State.reset.pins.i2cPtr = 0 ∧
    (State.reset.raise F.FUSE_CFG_DEBUG_DISABLE).flag F.FUSE_CFG_DEBUG_DISABLE = true ∧ run0.flag F.MBX_STATUS_FW_RUN = true := by decide +kernel

theorem witness_DeviceResets : Instr.supplyMonitorTrip 4 = .porNLow 4 ∨ Instr.supplyMonitorTrip 4 = .supplyMonitorTrip 4 := .inr rfl

/-- Boot step 11 is in progress. -/
def step11 : State := (State.reset.wr F.BOOT_STATUS_STEP 11).wr F.BOOT_STATUS_PHASE 1
/-- Each step ends at once. -/
def env0 : BootEnv := ⟨List.replicate 11 5, true, []⟩

theorem witness_BootStepsAndFailures :
    State.reset.inStep 0 = true ∧
    (step11.inStep 11 = true ∧ ((step11.tick 5).tick (env0.ends.getD 10 0)).now < step11.boot.stepAt + stepLimit 11) ∧
    (step11.rd F.BOOT_STATUS_STEP = 11 ∧ step11.boot.stepAt + stepLimit 11 ≤ max step11.now 50000000) ∧
    (run0.rd F.BOOT_STATUS_PHASE = 2 ∧ run0.boot.stepAt + 3600 * secTicks ≤ max run0.now 360000000000) := by decide +kernel

theorem witness_BootStep_work (e : BootEnv) (u : State) : ∃ m, (u.stepWork e 11) = (u, some m) := ⟨_, rfl⟩
theorem witness_BootStep_two : ((State.reset.stepWork env0 2).2).isSome = true := rfl

theorem witness_EchoReturnsParameters : Starts (one run0 (cmd 0x01 8 0 [5, 6])) .echo x0 0 (cmd 0x01 8 0 [5, 6]) := starts_of (by decide +kernel)

theorem witness_CommandsTurnedAway :
    (run0.tick 7).pick .echo .ring0 = none ∧
    (((one run0 (cmd 0x01 60 0 [])).tick 7).pick .echo .ring0 = some (0, cmd 0x01 60 0 []) ∧ formOk Opc.echo.row (cmd 0x01 60 0 []).d = false) ∧
    (((one run0 (cmd 0x51 0 0 [])).tick 7).pick .pairSwap .ring0 = some (0, cmd 0x51 0 0 []) ∧ Opc.pairSwap.row.holder = true ∧
      (one run0 (cmd 0x51 0 0 [])).acting = false) := by decide +kernel

/-- The running firmware is on trial. -/
def trial0 : State := run0.raise F.BOOT_STATUS_TRIAL

theorem witness_getInfo : Starts (one run0 (cmd 0x02 0 0 [])) .getInfo x0 0 (cmd 0x02 0 0 []) := starts_of (by decide +kernel)
theorem witness_fwConfirm : Starts (one trial0 (cmd 0x82 4 0 [1])) .fwConfirm x0 0 (cmd 0x82 4 0 [1]) ∧
    (onlyBits (word (cmd 0x82 4 0 [1]).d 2) 1 = true ∧ trial0.otherSource x0.src = false ∧ trial0.flag F.BOOT_STATUS_TRIAL = true ∧
      trial0.boot.act.back = false) := starts_and (by decide +kernel)
theorem witness_fwAbort : Starts (one trial0 (cmd 0x83 4 0 [1])) .fwAbort x0 0 (cmd 0x83 4 0 [1]) ∧
    (onlyBits (word (cmd 0x83 4 0 [1]).d 2) 1 = true ∧ bitOf (word (cmd 0x83 4 0 [1]).d 2) 0 = true ∧ trial0.boot.act.phase = .none ∧
      trial0.flag F.BOOT_STATUS_TRIAL = true ∧ (run0.raise F.BOOT_STAGE_STAGING).flag F.BOOT_STAGE_STAGING = true ∧
      run0.flag F.BOOT_STATUS_TRIAL = false ∧ run0.flag F.BOOT_STAGE_STAGING = false) := starts_and (by decide +kernel)
theorem witness_mapSnapshot : Starts (one run0 (cmd 0x24 0 0 [])) .mapSnapshot x0 0 (cmd 0x24 0 0 []) ∧ run0.mapBusy = false :=
  starts_and (by decide +kernel)
theorem witness_firmwareResetAndRestart : (run0.rd F.BOOT_STATUS_PHASE = 2 ∧ run0.flag F.BOOT_STATUS_TRIAL = false ∧
      (run0.setHolder 31 (some 4)).holder 31 = some 4) ∧
    ((run0.setFlag F.MBX_STATUS_FW_RUN false).rd F.BOOT_STATUS_PHASE = 2 ∧
      (run0.setFlag F.MBX_STATUS_FW_RUN false).flag F.MBX_STATUS_FW_RUN = false ∧
      ∀ ch, ch < 32 → (run0.setFlag F.MBX_STATUS_FW_RUN false).bitAt F.MBX_STALE_STALE ch = false) := by decide +kernel

/-! ### Witnesses: staging, activation, settings -/

/-- A state whose MRAM holds bytes at an offset. -/
def putMram (s : State) (a : Nat) (bs : List W8) : State :=
  { s with boot := { s.boot with mram := s.boot.mram ++ bs.zipIdx.map fun x => (a + x.2, x.1) } }

/-- A boot record in both copies, with image 1 staged, and settings slots without a record. -/
def mramSt (s : State) : State :=
  let r := { BootRec.blank with stA := 4, stB := 2 }.bytes
  (List.range 8).foldl (fun s k => putMram s (setBase k) (List.replicate 16 0)) (putMram (putMram s 0 r) 0x4000 r)

/-- FW_STAGE of 4 bytes with FIRST for image slot 1. -/
def stageCmd : Taken := cmd 0x80 20 0 [3, 0, 4, 0, 0]
theorem witness_StagingOfImages : Starts (one run0 stageCmd) .fwStage (xIn [1, 2, 3, 4]) 0 stageCmd ∧
    (onlyBits (word stageCmd.d 2) 7 = true ∧ onlyBits (word stageCmd.d 3) 0x7FFFF = true ∧ onlyBits (word stageCmd.d 4) 0x1FFFF = true ∧
      word stageCmd.d 4 = 4 ∧ (one run0 stageCmd).addrOk .ring0 (word64 stageCmd.d 5) 4 = true ∧ run0.otherSource .ring0 = false ∧
      run0.stageBad stageCmd.d = false ∧ run0.flag F.BOOT_STATUS_TRIAL = false ∧ run0.boot.act.phase = .none ∧
      run0.boot.chunks.any (fun c => c.live && c.last) = false ∧
      bitOf (word stageCmd.d 2) 1 = true) := starts_and (by decide +kernel)
theorem witness_stageBuf : ((one run0 stageCmd).tick 7).readBuf (word64 stageCmd.d 5) (word stageCmd.d 4) (xIn [1, 2, 3, 4]) =
    .ok ((one run0 stageCmd).tick 7, [1, 2, 3, 4]) := rfl

/-- The next chunk of 4 bytes for image slot 1, in a session of ring 0. -/
def stageCmd2 : Taken := cmd 0x80 20 0 [1, 4, 4, 0, 0]
def staging0 : State := ((run0.raise F.BOOT_STAGE_STAGING).wr F.BOOT_STAGE_SLOT 1).wr F.BOOT_STAGE_OFFSET 4
theorem witness_StagingOfImages_next : Starts (one staging0 stageCmd2) .fwStage (xIn [1, 2, 3, 4]) 0 stageCmd2 ∧
    (staging0.otherSource .ring0 = false ∧ staging0.stageBad stageCmd2.d = false ∧ bitOf (word stageCmd2.d 2) 1 = false ∧
      staging0.boot.stageAt + 600 * secTicks ≤ max staging0.now 60000000000) := starts_and (by decide +kernel)

theorem witness_chunks : ∀ last live, ∃ c : Chunk, ({ run0 with boot := { run0.boot with chunks := [c] } } : State).boot.chunks = c :: [] ∧
    c.live = live ∧ c.last = last ∧ run0.flag F.MBX_STATUS_FW_RUN = true :=
  fun last live => ⟨⟨1, 0, [5], last, live⟩, rfl, rfl, rfl, by decide +kernel⟩

def activateCmd : Taken := cmd 0x81 8 0 [1, 60]
theorem witness_ActivationOfImages : Starts (one (mramSt run0) activateCmd) .fwActivate x0 0 activateCmd ∧
    (onlyBits (word activateCmd.d 2) 1 = true ∧ onlyBits (word activateCmd.d 3) 0xFFF = true ∧ word activateCmd.d 3 = 60 ∧
      (mramSt run0).bootRec.img (bits (word activateCmd.d 2) 0 1) = 2 ∧ bits (word activateCmd.d 2) 0 1 ≠ (mramSt run0).runImg ∧
      (mramSt run0).otherSource .ring0 = false ∧ (mramSt run0).flag F.BOOT_STATUS_TRIAL = false ∧ (mramSt run0).intrusive = false ∧
      (mramSt run0).boot.act.phase = .none ∧ (mramSt run0).setRecords = []) := starts_and (by decide +kernel)
theorem witness_bootNoImage : ((putMram (putMram (State.reset) 0 (BootRec.blank).bytes) 0x4000 (BootRec.blank).bytes).stepWork env0 4).2 = none := by
  decide +kernel

/-- An activation in a phase since tick 0. -/
def actIn (s : State) (p : ActPhase) (back : Bool) : State :=
  { s with boot := { s.boot with act := { phase := p, since := 0, slot := 1, trial := 60, w := 0, back := back, abort := false } } }
theorem witness_ActivationOfImages_course :
    ((actIn run0 .copy false).boot.act.phase = .copy ∧ run0.flag F.MBX_STATUS_FW_RUN = true ∧ (actIn run0 .copy false).recovery = false ∧
      (actIn (run0.wr F.BOOT_STATUS_PHASE 4) .copy false).recovery = true) ∧
    ((actIn run0 .drain false).boot.act.phase = .drain ∧ (actIn run0 .drain false).drained = true ∧ run0.core.markT = max run0.now 0) ∧
    ((actIn run0 .drain false).boot.act.since + secTicks ≤ max run0.now 100000000 ∧ (actIn run0 .drain true).boot.act.back = true) ∧
    ((actIn run0 .window false).boot.act.phase = .window ∧ max run0.now 2000000 ≤ (actIn run0 .window false).boot.act.since + 20 * msTicks ∧
      (actIn run0 .window false).boot.act.since + 20 * msTicks ≤ max run0.now 2000000) ∧
    (trial0.flag F.BOOT_STATUS_TRIAL = true ∧ trial0.boot.trialEnd ≤ max trial0.now 5 ∧ trial0.boot.act.phase = .none ∧
      trial0.flag F.MBX_STATUS_FW_RUN = true) := by decide +kernel

/-- A settings record of format 1 without items. -/
def setRec : List W8 := buildRecord 1 5 0 []
def saveCmd : Taken := cmd 0xB0 8 0 [0, 0]
def restoreCmd : Taken := cmd 0xB1 16 0 [0, 0x1000, 0, 64]
/-- The running image reads settings of format 1. -/
def readsSt : State := putMram run0 (imgBase 0 + 0x18) [1, 0, 1, 0]
theorem witness_SettingsRestore : Starts (one readsSt restoreCmd) .settingsRestore (xIn setRec) 0 restoreCmd ∧
    (onlyBits (word restoreCmd.d 2) 1 = true ∧ onlyBits (word restoreCmd.d 5) 0x1FFFF = true ∧ bitOf (word restoreCmd.d 2) 0 = false ∧
      word restoreCmd.d 5 = 64 ∧ readsSt.addrOk .ring0 (word64 restoreCmd.d 3) 64 = true ∧
      recValid setRec = true ∧
      readsSt.flag F.BOOT_STATUS_TRIAL = false ∧ readsSt.reads readsSt.runImg setRec = true ∧ setRec = setRec.take (recWord setRec 0xC)) :=
  starts_and (by decide +kernel)
theorem witness_restoreBuf : ((one readsSt restoreCmd).tick 7).readBuf (word64 restoreCmd.d 3) (word restoreCmd.d 5) (xIn setRec) =
    .ok ((one readsSt restoreCmd).tick 7, setRec) := by
  have h : setRec.length = 64 := by decide +kernel
  have e : word64 restoreCmd.d 3 = 0x1000 ∧ word restoreCmd.d 5 = 64 := by decide +kernel
  rw [e.1, e.2]
  simp [State.readBuf, State.devRead, secondForm, xIn, h, List.take_of_length_le]
def defaultsCmd : Taken := cmd 0xB1 16 0 [1, 0, 0, 0]
theorem witness_SettingsDefaults : Starts (one readsSt defaultsCmd) .settingsRestore x0 0 defaultsCmd ∧
    (bitOf (word defaultsCmd.d 2) 0 = true ∧ onlyBits (word defaultsCmd.d 5) 0x1FFFF = true ∧ recValid (buildRecord 1 5 7 []) = true) :=
  starts_and (by decide +kernel)
theorem witness_SettingsRecords_written : ∀ save, ∃ s : State, ∃ r : PendRec, s.flag F.MBX_STATUS_FW_RUN = true ∧ s.boot.record = some r ∧
    r.save = save ∧ r.bytes.length ≤ 131072 ∧ r.buf = 0 ∧ s.map.snap = true :=
  fun save => ⟨{ run0 with boot := { run0.boot with record := some ⟨setRec, 0, 0, save⟩ }, map := { run0.map with snap := true } },
    ⟨setRec, 0, 0, save⟩, show run0.flag F.MBX_STATUS_FW_RUN = true by decide +kernel, rfl, rfl, show setRec.length ≤ 131072 by decide +kernel, rfl, rfl⟩
/-- A record on its way into the MRAM with a buffer in host memory, and one that is too long. -/
theorem witness_SettingsRecords_buffer : (⟨setRec, 0, 0x1000, true⟩ : PendRec).buf ≠ 0 ∧ secondForm (0x1000 : W64) = false ∧
    131072 < (⟨List.replicate 131073 0, 0, 0, true⟩ : PendRec).bytes.length := by
  refine ⟨by decide, by decide, ?_⟩
  simp only [List.length_replicate]; omega

theorem witness_SettingsSave : Starts (one run0 saveCmd) .settingsSave x0 0 saveCmd ∧
    (run0.otherSource .ring0 = false ∧ run0.boot.record = none ∧ word64 saveCmd.d 2 = 0) :=
  ⟨starts_of (by decide +kernel), by decide +kernel, rfl, by decide +kernel⟩

/-- An operation that can fail answers a value. -/
def okB {ε α : Type} : Except ε α → Bool
  | .ok _ => true
  | .error _ => false

/-! ### Witnesses: SPI, notices, rings, descriptors -/

/-- A state with a descriptor in the SPI slot and a reply in the SPI FIFO. -/
def spi0 : State := { run0 with mbx := { run0.mbx with spiSlot := some (desc 0x01 4 0 [9]), spiFifo := [List.replicate 8 7] } }
theorem witness_SpiPath : run0.mbx.spiSlot = none ∧ spi0.mbx.spiSlot ≠ none ∧ run0.mbx.spiFifo = [] ∧
    spi0.mbx.spiFifo = List.replicate 8 7 :: [] := by decide +kernel

theorem witness_NoticesAndDoorbells :
    (open0.barred 0 = false ∧ open0.bitAt F.H2D_DB_DB 31 = false ∧ (0 : Fin 4).val < 3 ∧ (3 : Fin 4).val = 3) ∧
    ((open0.setBitAt F.H2D_DB_DB 2 true).barred 0 = false ∧ (open0.setBitAt F.H2D_DB_DB 2 true).bitAt F.H2D_DB_DB 2 = true) ∧
    ((open0.stage 0 (0x40010100 + 16 * 31) (some 4)).stagedAt 0 (0x40010100 + 16 * 31) = some 4) ∧
    ((open0.setBitAt F.D2H_DB_DB 0 true).bitAt F.D2H_DB_DB 0 = true ∧ bitOf (1 : W32).toNat 0 = true) := by decide +kernel

/-- Ring 0 with 16 descriptors and 32 replies, enabled, with one descriptor announced. -/
def ring0 : State := (((run0.raise (F.MBX_RING_CTRL_EN 0)).wr (F.MBX_RING_CTRL_CK 0) 4).wr (F.MBX_RING_CTRL_RK 0) 5).setRing 0 { Ring.reset with prod := 1 }
theorem witness_RingControl : (open0.barred 0 = false ∧ open0.flag (F.MBX_RING_CTRL_EN 1) = false ∧ 4 ≤ bits (0x540 : W32).toNat 4 4 ∧
      bits (0x540 : W32).toNat 4 4 ≤ 12 ∧ 5 ≤ bits (0x540 : W32).toNat 8 4 ∧ bits (0x540 : W32).toNat 8 4 ≤ 13 ∧
      bits (0xDC0 : W32).toNat 4 4 = 12 ∧ bits (0xDC0 : W32).toNat 8 4 = 13) ∧
    (ring0.barred 8 = false ∧ ring0.flag (F.MBX_RING_CTRL_EN 0) = true) := by decide +kernel

/-- A notice of one descriptor posted for ring 0. -/
def posted0 : State := ((ring0.setBitAt F.H2D_DB_DB 0 true).wr (F.H2D_NOTICE_LEN_LEN 0) 64).wr (F.H2D_NOTICE_TAG_TAG 0) 1
theorem witness_NoticesAndDescriptorsTaken :
    (posted0.bitAt F.H2D_DB_DB 0 = true ∧ posted0.flag F.MBX_STATUS_FW_RUN = true ∧ (posted0.wr F.H2D_MASK_MASK 0).bitAt F.H2D_MASK_MASK 0 = false ∧
      posted0.flag (F.MBX_RING_CTRL_EN 0) = true ∧ posted0.noticeMatches 0 = true ∧
      (posted0.wr (F.H2D_NOTICE_LEN_LEN 0) 128).noticeMatches 0 = false ∧
      (run0.setBitAt F.H2D_DB_DB 0 true).bitAt F.H2D_DB_DB 0 = true ∧ run0.flag (F.MBX_RING_CTRL_EN 0) = false ∧
      (∀ ch ∈ [30, 31], ((posted0.wr F.H2D_MASK_MASK 0).setBitAt F.H2D_DB_DB ch true).bitAt F.H2D_DB_DB ch = true ∧
        (posted0.wr F.H2D_MASK_MASK 0).bitAt F.H2D_MASK_MASK ch = false) ∧ run0.flag F.FUSE_CFG_DEBUG_DISABLE = false) ∧
    (let s : State := { run0 with mbx := { run0.mbx with hPost := [(31, some 0)], dPost := [(2, some 0)] } }
     s.flag F.MBX_STATUS_TMO_HOLD = false ∧ Store.get (fun _ => none) s.mbx.hPost 31 = some 0 ∧ Store.get (fun _ => none) s.mbx.dPost 2 = some 0 ∧
      0 + s.rd F.MBX_TMO_CFG_MS * 100000 ≤ max s.now 100000000) := by decide +kernel

/-- Ring 0 with as many unread replies as it holds. -/
def full0 : State := ring0.wr (F.RPL_PI_PI 0) 32
theorem witness_DescriptorsTaken :
    (ring0.flag F.MBX_STATUS_FW_RUN = true ∧ ring0.flag F.MBX_STATUS_TMO_HOLD = false ∧ ring0.oldLeft = false ∧ ring0.recovery = false ∧
      (desc 0x01 0 0 []).length = 16 ∧ ring0.nextSrc = some .ring0 ∧ ring0.staleHere 0 = false ∧
      ring0.cmdBase 0 < 0x8000000000000000 - 64 * ring0.cmdSize 0 ∧ ring0.hasRoom .ring0 (needOf (desc 0x01 0 0 [])) = true ∧
      (findOpc (opcode (desc 0x01 0 0 []))).isSome = true) ∧
    (ring0.hasRoom .ring0 (needOf (desc 0x03 0 0 [])) = true ∧ findOpc (opcode (desc 0x03 0 0 [])) = none ∧ (desc 0x03 0 0 []).length = 16 ∧
      ring0.rplBase 0 < 0x8000000000000000 - 32 * ring0.rplSize 0) ∧
    (full0.flag F.MBX_STATUS_FW_RUN = true ∧ full0.nextSrc = some .ring0 ∧ full0.staleHere 0 = false ∧
      full0.hasRoom .ring0 (needOf (desc 0x01 0 0 [])) = false ∧ full0.rplFits 0 = false) ∧
    (spi0.flag F.MBX_STATUS_FW_RUN = true ∧ spi0.oldLeft = false ∧ spi0.recovery = false ∧ spi0.nextSrc = some .spi ∧
      spi0.mbx.spiSlot = some (desc 0x01 4 0 [9]) ∧ (findOpc (opcode (desc 0x01 4 0 [9]))).isSome = true) := by decide +kernel

theorem witness_RepliesToRings : (cmd 0x01 0 0 []).src ≠ .spi ∧ (cmd 0x01 0 0 []).drop = false ∧
    (cmd 0x01 0 0 []).epoch.toNat = ring0.rd F.MBX_EPOCH_EPOCH ∧
    ring0.rplBase (cmd 0x01 0 0 []).src.num < 0x8000000000000000 - 32 * ring0.rplSize (cmd 0x01 0 0 []).src.num ∧
    ring0.rplFits (cmd 0x01 0 0 []).src.num = true := by decide +kernel

/-! ### Witnesses: map -/

/-- The host is served by an acting device. -/
def host0 : State := act0.wr F.BOOT_RESULT_RES5 0
def rangeCmd : Taken := cmd 0x20 20 0 [31103999, 1, 2, 0x1FFFFFF, 0]
def readbackCmd : Taken := cmd 0x22 20 0 [31103999, 1, 1, 0x1000, 0]
theorem witness_MapWindowRangeAndReadback :
    (host0.barred 0 = false ∧ host0.acting = true ∧ host0.map.commit = none ∧ (0xED4DFF8 : BitVec 28).toNat % 8 = 0 ∧
      (0xED4DFF8 : BitVec 28).toNat + 8 * 1 ≤ 8 * 31104000 ∧ (List.replicate 8 (1 : W8)).length = 8 * 1) ∧
    ((0xED4DFF9 : BitVec 28).toNat % 8 ≠ 0 ∧ 8 * 31104000 < (0xED4E000 : BitVec 28).toNat + 8) ∧
    (open0.barred 0 = false ∧ open0.acting = false) := by decide +kernel
theorem witness_mapWriteRange : Starts (one act0 rangeCmd) .mapWriteRange x0 0 rangeCmd ∧
    (mapWriteRangeOk rangeCmd.d = true ∧ (one act0 rangeCmd).writeRangeCase .ring0 rangeCmd.d = true ∧ word rangeCmd.d 4 = 2 ∧
      act0.map.commit = none) := starts_and (by decide +kernel)
def rangeBufCmd : Taken := cmd 0x20 20 0 [31103999, 1, 0, 0x1000, 0]
theorem witness_mapWriteRange_buffer : Starts (one act0 rangeBufCmd) .mapWriteRange (xIn [1, 2, 3, 4, 5, 6, 7, 8]) 0 rangeBufCmd ∧
    (mapWriteRangeOk rangeBufCmd.d = true ∧ (one act0 rangeBufCmd).writeRangeCase .ring0 rangeBufCmd.d = true ∧ word rangeBufCmd.d 4 = 0 ∧
      okB (((one act0 rangeBufCmd).tick 7).readBuf (word64 rangeBufCmd.d 5) 8 (xIn [1, 2, 3, 4, 5, 6, 7, 8])) = true) := starts_and (by decide +kernel)
theorem witness_mapReadback : Starts (one run0 readbackCmd) .mapReadback x0 0 readbackCmd ∧
    (mapReadbackOk .ring0 (one run0 readbackCmd) readbackCmd.d = true ∧ run0.map.copy = none ∧
      okB (((one run0 readbackCmd).tick 7).writeBuf (word64 readbackCmd.d 5) [1, 2, 3, 4, 5, 6, 7, 8] x0) = true) := starts_and (by decide +kernel)

def checkCmd : Taken := cmd 0x23 4 0 [0]
theorem witness_mapCheck : Starts (one run0 checkCmd) .mapCheck x0 0 checkCmd ∧ (onlyBits (word checkCmd.d 2) 1 = true ∧ run0.mapBusy = false) :=
  starts_and (by decide +kernel)
/-- A check of the dirty entries runs. -/
def checking (s : State) : State := { s with map := { s.map with check := some ⟨false, false, 1024⟩ } }
theorem witness_mapCheckDone : (checking run0).flag F.CORE_STATUS_BG_SUSPENDED = false ∧ (checking run0).map.check = some ⟨false, false, 1024⟩ ∧
    (checking run0).map.commit = none ∧ (match ((checking run0).tick 3).runCheck ⟨false, false, 1024⟩ with | .ok p m _ _ => p.isEmpty && m.isEmpty | _ => false) = true := by
  decide +kernel
/-- Slot 5 of the shadow page reads a reserved source and is dirty. -/
def badMap : State := { run0 with map := { run0.map with page1 := [(5, seal54 33554431)], dirty := [(5, true)], check := some ⟨false, false, 1024⟩ } }
theorem witness_mapCheckDone_bad : badMap.flag F.CORE_STATUS_BG_SUSPENDED = false ∧ badMap.map.commit = none ∧
    (match (badMap.tick 3).runCheck ⟨false, false, 1024⟩ with | .badParam a _ => decide (a = 5) | _ => false) = true := by decide +kernel

def commitCmd : Taken := cmd 0x21 4 0 [2]
theorem witness_mapCommit : Starts (one (act0.raise F.MAP_STATUS_CHECK_VALID) commitCmd) .mapCommit x0 0 commitCmd ∧
    (onlyBits (word commitCmd.d 2) 0xFFFF = true ∧ optOf commitCmd.d = false ∧ act0.mapBusy = false ∧ act0.flag F.PAIR_STAT_HO_PEND = false ∧
      2 ≤ fnDist (BitVec.ofNat 16 (word commitCmd.d 2)) act0.fn ∧ fnDist (BitVec.ofNat 16 (word commitCmd.d 2)) act0.fn < 32768 ∧
      (act0.raise F.MAP_STATUS_CHECK_VALID).flag F.MAP_STATUS_CHECK_VALID = true) := starts_and (by decide +kernel)
def nextCmd : Taken := cmd 0x21 4 1 [0]
theorem witness_mapCommit_next : Starts (one act0 nextCmd) .mapCommit x0 0 nextCmd ∧
    (onlyBits (word nextCmd.d 2) 0xFFFF = true ∧ optOf nextCmd.d = true ∧ act0.flag F.MAP_STATUS_CHECK_VALID = false) := starts_and (by decide +kernel)
/-- A commit for frame `f` is in flight, in state `st` of MAP_STATUS. -/
def committing (f : W16) (st : Nat) (acted : Bool) : State :=
  let s : State := { act0 with
    map := { act0.map with commit := some ⟨f, true, false⟩ }
    pair := { act0.pair with actedPrev := acted }
    core := { act0.core with started := true } }
  s.wr F.MAP_STATUS_STATE st
theorem witness_MapCommits :
    ((committing 2 2 true).map.commit = some ⟨2, true, false⟩ ∧ (committing 2 2 true).rd F.MAP_STATUS_STATE = 2 ∧ 2 ≤ fnDist 2 (committing 2 2 true).fn ∧
      fnDist 2 (committing 2 2 true).fn < 32768) ∧
    ((committing 1 2 true).rd F.MAP_STATUS_STATE = 2 ∧ fnDist 1 (committing 1 2 true).fn < 2) ∧
    ((committing 0 3 true).rd F.MAP_STATUS_STATE = 3 ∧ (0 : W16) = (committing 0 3 true).fn ∧ (committing 0 3 true).core.started = true ∧
      max (committing 0 3 true).now 0 = (committing 0 3 true).core.markT ∧ (committing 0 3 true).pair.actedPrev = true ∧
      (committing 0 3 false).pair.actedPrev = false) ∧
    (let s : State := { run0 with map := { run0.map with copy := some ⟨[(5, true)], 1, 1⟩ } }
     s.flag F.CORE_STATUS_BG_SUSPENDED = false ∧ s.map.copy.isSome = true) := by decide +kernel

/-! ### Witnesses: selectors, groups, monitors -/

/-- An enabled monitor record of a line port (TYPE 5). -/
def monRec (p : Nat) : W64 := seal54 (5 + p * 2 ^ 4 + 2 ^ 32)
/-- An acting device with the monitors of ports 0 and 1 in use. -/
def sel0 : State := (act0.setMon 0 (monRec 0)).setMon 1 (monRec 1)
/-- A SEL_WRITE of one inline record, DELTA 3, MON_W 0, MON_P 1. -/
def selCmd (index : W32) : Taken := cmd 0x30 32 0 [index, 1, 0, 0, 3, 0x4000000, 0, 0]
def selDelCmd : Taken := cmd 0x30 32 0 [0x200005, 1, 0, 0, 0, 0, 0, 0]
theorem witness_SelectorWrites : ∀ b : Bool, let k := selCmd (if b then 0x100000 else 5)
    Starts (one sel0 k) .selWrite x0 0 k ∧
    (selWriteOk k.d = true ∧ (one sel0 k).selWriteCase .ring0 k.d = true ∧ bits (word k.d 2) 22 2 = 0 ∧
      bitOf (word k.d 2) 20 = b ∧ (one sel0 k).selFirst k.d = some (if b then 0 else 5) ∧
      bitOf (word k.d 2) 21 = false ∧ (match selRecords (one sel0 k) k.d x0 with
        | .ok r => decide (r.2.length = 1) && r.2.all sel0.recordOk && pairsOk (putSels sel0.sel.sels (if b then 0 else 5) r.2) [if b then 0 else 5]
        | .error _ => false) = true ∧ selRefs sel0.active 5 = 0 ∧ selRefs sel0.active 0 = 0) := by
  intro b; cases b <;> exact starts_and (by decide +kernel)
theorem witness_SelectorWrites_delete : Starts (one sel0 selDelCmd) .selWrite x0 0 selDelCmd ∧
    (selWriteOk selDelCmd.d = true ∧ (one sel0 selDelCmd).selWriteCase .ring0 selDelCmd.d = true ∧ bitOf (word selDelCmd.d 2) 20 = false ∧
      bitOf (word selDelCmd.d 2) 21 = true ∧ sel0.selReferenced 5 = false ∧ pairsOk sel0.sel.sels [] = true) := starts_and (by decide +kernel)

/-- Working port 0 with protection port 1, in architecture `a`. -/
def grp0 (a : Nat) : State := sel0.setReg 0x40090100 (BitVec.ofNat 32 (1 + a * 64))
def grpDelCmd : Taken := cmd 0x30 32 0 [0x600000, 1, 0, 0, 0, 0, 0, 0]
def grpCmd : Taken := cmd 0x30 32 0 [0x400000, 1, 0, 0, 0x81, 0, 0, 0]
theorem witness_GroupDeleteRefused : Starts (one ((grp0 2).setReg 0x40090100 0x281) grpDelCmd) .selWrite x0 0 grpDelCmd ∧
    (selWriteOk grpDelCmd.d = true ∧ (one (grp0 2) grpDelCmd).selWriteCase .ring0 grpDelCmd.d = true ∧ bits (word grpDelCmd.d 2) 22 2 = 1 ∧
      bitOf (word grpDelCmd.d 2) 21 = true ∧ bits (word grpDelCmd.d 2) 0 20 = 0 ∧
      gUsed (((grp0 2).setReg 0x40090100 0x281).grp 0) = true ∧ gSel (((grp0 2).setReg 0x40090100 0x281).grp 0) = true ∧
      gUsed (sel0.grp 0) = false) := starts_and (by decide +kernel)
theorem witness_LineGroups_new : Starts (one sel0 grpCmd) .selWrite x0 0 grpCmd ∧
    (selWriteOk grpCmd.d = true ∧ (one sel0 grpCmd).selWriteCase .ring0 grpCmd.d = true ∧ bits (word grpCmd.d 2) 22 2 = 1 ∧
      bits (word grpCmd.d 2) 0 20 = 0 ∧ bitOf (word grpCmd.d 2) 21 = false ∧
      (match groupRecord (one sel0 grpCmd) grpCmd.d x0 with | .ok r => decide (r.2 = 0x81) | .error _ => false) = true ∧
      sel0.groupOk 0 0x81 = true ∧ gUsed (sel0.grp 0) = false ∧ (grp0 2).groupOk 0 0x81 = true ∧ gUsed ((grp0 2).grp 0) = true ∧
      overLoad { sel0.checkEnv with groups := [(0, 0x81)] } sel0.active = none) := starts_and (by decide +kernel)
theorem witness_LineGroups : (Starts (one (grp0 2) grpDelCmd) .selWrite x0 0 grpDelCmd ∧
    (gUsed ((grp0 2).grp 0) = true ∧ gSel ((grp0 2).grp 0) = false ∧ gBr ((grp0 2).grp 0) = false)) ∧
    (grp0 3).barred 8 = false ∧ (grp0 3).acting = true ∧ 2 ≤ gArch ((grp0 3).grp 0) ∧ gArch ((grp0 3).grp 0) ≠ 1 ∧
    gArch ((grp0 1).grp 0) = 1 ∧ run0.acting = false := ⟨starts_and (by decide +kernel), by decide +kernel⟩

/-- A VALID selector 5 of monitors 0 and 1, with a timer of phase `ph`. -/
def live0 (ph : Nat) : State :=
  { sel0 with sel := { sel0.sel with
      sels := [(5, seal114 (3 + 2 ^ 28 + 2 ^ 58 + 10 * 2 ^ 96 + ph * 2 ^ 113))], timers := [(5, some 0), (2 ^ 20, some 0)] } }
def selCmdCmd : Taken := cmd 0x31 12 0 [5, 1, 1]
def grpCmdCmd (c : W32) : Taken := cmd 0x31 12 0 [0x400000, c, 0]
theorem witness_selCommand : Starts (one (live0 0) selCmdCmd) .selCommand x0 0 selCmdCmd ∧
    (selCommandOk selCmdCmd.d = true ∧ (live0 0).selCommandCase selCmdCmd.d = true ∧ bits (word selCmdCmd.d 2) 22 2 = 0) :=
  starts_and (by decide +kernel)
theorem witness_grpCommand : Starts (one (grp0 2) (grpCmdCmd 1)) .selCommand x0 0 (grpCmdCmd 1) ∧
    (selCommandOk (grpCmdCmd 1).d = true ∧ (grp0 2).selCommandCase (grpCmdCmd 1).d = true ∧ bits (word (grpCmdCmd 1).d 2) 22 2 = 1 ∧
      storable (((grp0 2).pvOfGrp 0).best.getD 0) (word (grpCmdCmd 1).d 3) = true) := starts_and (by decide +kernel)
theorem witness_grpCommand_rejected :
    Starts (one ((grp0 2).setReg 0x40090200 0x10) (grpCmdCmd 3)) .selCommand x0 0 (grpCmdCmd 3) ∧
    (selCommandOk (grpCmdCmd 3).d = true ∧ ((grp0 2).setReg 0x40090200 0x10).selCommandCase (grpCmdCmd 3).d = true ∧
      bits (word (grpCmdCmd 3).d 2) 22 2 = 1 ∧
      storable ((((grp0 2).setReg 0x40090200 0x10).pvOfGrp 0).best.getD 0) (word (grpCmdCmd 3).d 3) = false) := starts_and (by decide +kernel)
def grpStatCmd : Taken := cmd 0x32 16 0 [0x40002F, 1, 0x1000, 0]
def selStatCmd : Taken := cmd 0x32 16 0 [5, 1, 0x1000, 0]
theorem witness_grpStatus : Starts (one run0 grpStatCmd) .selStatus x0 0 grpStatCmd ∧
    (onlyBits (word grpStatCmd.d 2) 0xCFFFFF = true ∧ bits (word grpStatCmd.d 2) 22 2 = 1 ∧ word grpStatCmd.d 3 = 1 ∧
      bits (word grpStatCmd.d 2) 0 20 + 1 ≤ 48 ∧ (word64 grpStatCmd.d 4).toNat % 8 = 0 ∧ run0.addrOk .ring0 (word64 grpStatCmd.d 4) 32 = true ∧
      okB (run0.writeBuf (word64 grpStatCmd.d 4) [] x0) = true) := starts_and (by decide +kernel)
theorem witness_selStatus : Starts (one (live0 0) selStatCmd) .selStatus x0 0 selStatCmd ∧
    (onlyBits (word selStatCmd.d 2) 0xCFFFFF = true ∧ bits (word selStatCmd.d 2) 22 2 = 0 ∧ word selStatCmd.d 3 = 1 ∧
      (word64 selStatCmd.d 4).toNat % 8 = 0 ∧ run0.addrOk .ring0 (word64 selStatCmd.d 4) 32 = true) := starts_and (by decide +kernel)
def monCmd (index : W32) : Taken := cmd 0x33 16 0 [index, 1, 0x1000, 0]
def monDelCmd : Taken := cmd 0x33 16 0 [0x400007, 1, 0, 0]
theorem witness_monConfigure : ∀ b : Bool, let k := monCmd (if b then 0x200000 else 7)
    Starts (one act0 k) .monConfigure (xIn (leBytes (monRec 7).toNat 8)) 0 k ∧
    (monConfigureOk k.d = true ∧ (one act0 k).monCase .ring0 k.d = true ∧ bitOf (word k.d 2) 21 = b ∧ bitOf (word k.d 2) 22 = false ∧
      (match monRecords (one act0 k) k.d (xIn (leBytes (monRec 7).toNat 8)) with | .ok r => decide (r.2 = [monRec 7]) | .error _ => false) = true ∧
      (b = true → freeBlock (2 ^ 21) 1 act0.usedMons 0 = some 0) ∧
      act0.monRecordOk (monRec 7) = true ∧ mEn (monRec 7) = true ∧ grouped act0.groups 7 = false) := by
  intro b; cases b <;> exact starts_and (by decide +kernel)
theorem witness_monDelete : Starts (one act0 monDelCmd) .monConfigure x0 0 monDelCmd ∧
    (monConfigureOk monDelCmd.d = true ∧ (one act0 monDelCmd).monCase .ring0 monDelCmd.d = true ∧ bitOf (word monDelCmd.d 2) 22 = true ∧
      act0.monNamed 7 = false ∧ grouped act0.groups 7 = false) := starts_and (by decide +kernel)

/-- A selector's view with nothing requested. -/
def pv0 : Pv := { act := false, rev := true, req := 0, cmd := 0, holdoff := 0, wtr := 5, tmr := 0, tph := 0, cond := 0 }
theorem witness_EvaluationAndSelectionTimers : pv0.tph ≠ 1 ∧ ({ pv0 with cmd := 2, cond := 1 } : Pv).has 2 = false ∧ ({ pv0 with cond := 4 } : Pv).has 2 = true ∧
    ({ pv0 with cond := 1 } : Pv).has 0 = true ∧ ({ pv0 with cond := 8 } : Pv).has 3 = true ∧ ({ pv0 with cond := 2 } : Pv).has 1 = true ∧
    pv0.cond = 0 ∧ ({ pv0 with tph := 1, cond := 1, tmr := 5 } : Pv).req < 13 ∧ ({ pv0 with tph := 1, cond := 1, tmr := 5 } : Pv).base.1 < 13 := by
  decide
theorem witness_SelectionTimers : ∀ ph, ph = 1 ∨ ph = 2 →
    (Store.get (fun _ => none) (live0 ph).sel.timers (5 : BitVec 20).toNat = some 0 ∧ (live0 ph).selLive (5 : BitVec 20).toNat = true ∧
      vTph ((live0 ph).selAt 5) = ph ∧ 0 + vTmr ((live0 ph).selAt 5) * 1000000 ≤ max (live0 ph).now 10000000) ∧
    (let s := ((live0 0).setReg 0x40090100 0x81).setReg 0x40090200 (BitVec.ofNat 32 (10 * 2 ^ 7 + ph * 2 ^ 24))
     Store.get (fun _ => none) s.sel.timers (2 ^ 20 + (0 : BitVec 20).toNat) = some 0 ∧ (s.pvOfGrp 0).tph = ph ∧
      0 + (s.pvOfGrp 0).tmr * 1000000 ≤ max s.now 10000000) := by
  intro ph h; rcases h with rfl | rfl <;> decide +kernel

/-! ### Witnesses: core, engines, banks -/

theorem witness_GeneratorCommands : open0.barred 0 = false ∧ open0.flag F.GEN_CTRL_CONST_HOLD = false ∧
    (open0.raise F.GEN_CTRL_CONST_HOLD).barred 0 = false ∧ (open0.raise F.GEN_CTRL_CONST_HOLD).flag F.GEN_CTRL_CONST_HOLD = true := by
  decide +kernel

/-- Frame 3 has begun at tick 100. -/
def frame3 : State := { run0 with core := { run0.core with started := true, frames := 3, markT := 100, samp := { Sample.reset with frame := 3, t := 100 } } }
theorem witness_FrameMarkOrder :
    (let s : State := { frame3 with eng := { frame3.eng with gov := { Governor.reset with aNext := some 256 } } }
     s.eng.gov.aNext = some 256 ∧ s.coreMark.rd F.CORE_STATUS_ENG_ACTIVE = 256 ∧ 255 < s.coreMark.rd F.CORE_STATUS_ENG_ACTIVE ∧ s.pwr.march ≠ 2) ∧
    ({ frame3 with pwr := { frame3.pwr with march := 2 } } : State).pwr.march = 2 := by decide +kernel

/-- Engine 255 is active, and its queue holds grain 255 of frame 3. -/
def queued : State :=
  let s := frame3.wr F.CORE_STATUS_ENG_ACTIVE 256
  { s with eng := { s.eng with taken := 2430, queues := [(255, [⟨3, 255, 256⟩])] } }
/-- Engine 255 holds that grain. -/
def working : State := { queued with eng := { queued.eng with work := [(255, some ⟨3, 255⟩)], queues := [] } }
theorem witness_GrainsAndRecords :
    ((255 : Fin 256).val < queued.rd F.CORE_STATUS_ENG_ACTIVE ∧ Store.get (fun _ => none) queued.eng.work 255 = none ∧
      (queued.tick 110).findWork (((queued.tick 110).lookAt 255).filter fun k => !(queued.tick 110).lostClaim [255] k) =
        some (255, ⟨3, 255⟩, [⟨3, 511, 256⟩]) ∧
      (let s : State := { queued with eng := { queued.eng with queues := [] } }
       (s.tick 110).findWork (((s.tick 110).lookAt 255).filter fun k => !(s.tick 110).lostClaim [] k) = none)) ∧
    (Store.get (fun _ => none) working.eng.work (255 : Fin 256).val = some ⟨3, 255⟩ ∧ working.settled ⟨3, 255⟩ = false ∧
      max working.now 496 - (working.sampleOf 3).t ≤ deadline (grainPos 255)) ∧
    deadline (grainPos 255) < max working.now 100000 - (working.sampleOf 3).t ∧
    (working.core.started = true ∧ working.owed { frame := working.core.frames - b2n false, g := 255 } = true ∧
      (working.sampleOf 3).t + deadline (grainPos 255) ≤ max working.now 496 ∧ 0 < working.core.frames) ∧
    (frame3.frameSettled (frame3.core.frames - 1) = true ∧ frame3.core.inOpen = false ∧ frame3.core.frames % 2 = 1) ∧
    (queued.eng.taken / 810 ≤ queued.core.frames ∧
      (queued.sampleOf (queued.eng.taken / 810)).t + deadline (queued.eng.taken % 810) ≤ max queued.now 450 ∧ queued.eng.taken % 810 ≠ 809) ∧
    (let s : State := { queued with eng := { queued.eng with taken := 3239 } }
     s.eng.taken / 810 ≤ s.core.frames ∧ (s.sampleOf (s.eng.taken / 810)).t + deadline (s.eng.taken % 810) ≤ max s.now 12934 ∧
      s.eng.taken % 810 = 809) ∧
    (let s : State := { queued with eng := { queued.eng with candles := [⟨3, 3, 60750, 1, 0, 0⟩] } }
     s.eng.candles.find? (fun c => decide (60750 ≤ c.settled)) = some ⟨3, 3, 60750, 1, 0, 0⟩) := by decide +kernel

/-- A port enabled in mode `m` with its receiver in frame. -/
def port (p m : Nat) : State :=
  let s := (((run0.wr (F.PRT_CFG_MODE p) m).raise (F.PRT_CFG_ENABLED p)).wr (F.PRT_STATUS_CDR_LOCK p) 1).raise (F.PRT_STATUS_RX_FRAMED p)
  let s := (s.wr (F.PRT_STATUS_DEPTH p) 0).setReg (prtBase p + 0x10C) 0
  { s with line := { s.line with framers := [(p, { Framer.reset with inFrame := true })] } }
theorem witness_toHistory : (port 47 2).pair.frozen.contains 3 = false ∧
    (⟨⟨3, 75 - 1⟩, List.replicate 512 (some 7)⟩ : Built).bytes[511]? = some (some 7) ∧
    (port 47 2).enabled ((74 % 75 * 512 + 511) / 800) = true ∧
    (74 * 512 + 100) % 800 < (port 47 2).cells ((74 * 512 + 100) / 800) ∧ (port 47 2).enabled ((74 * 512 + 100) / 800) = true := by decide +kernel

/-- The tasks of some ranks are released. -/
def freed (bits : Nat) : State := run0.wr F.BG_STATUS_RELEASED bits
/-- A move of logical bank 2047 from physical bank 2109 to bank 2111, begun for frame 1. -/
def move1 : Move := ⟨2047, 2109, 2111, some 1, false⟩
theorem witness_BanksScrubAndSpots :
    (let s0 := (freed 8).raise F.BROT_CTRL_EN
     let s : State := { s0 with eng := { s0.eng with brot := 65535 } }
     s.released 4 = true ∧ s.flag F.CORE_STATUS_BG_SUSPENDED = false ∧ s.flag F.BROT_CTRL_EN = true ∧ s.brotPeriod ≤ s.eng.brot ∧
      s.testRunning 0x01 = false) ∧
    (let s : State := { freed 8 with pwr := { (freed 8).pwr with runs := [⟨1, 1, 0, true, 0, 0, 66, false⟩] } }
     s.released 4 = true ∧ s.testRunning 0x01 = true ∧ s.pwr.rotating = []) ∧
    (let s : State := { frame3 with eng := { frame3.eng with moves := [move1] } }
     s.eng.moves.find? (fun m => decide (m.bank = (2047 : Fin 2048).val)) = some move1 ∧ s.moveOver move1 = true) ∧
    (let s : State := { run0 with eng := { run0.eng with ueBanks := [(2109, true)] } }
     s.eng.moves.find? (fun m => decide (m.bank = (2047 : Fin 2048).val)) = none ∧ s.rd (F.BANK_MAP_PHYS 2047) = 2109 ∧
      s.moveOutDue (s.rd (F.BANK_MAP_PHYS 2047)) = true ∧ s.freshSpare (2109 / 66) = some 2110 ∧
      (((s.wr (F.BANK_STATE_STATE 2110) 3).wr (F.BANK_STATE_STATE 2111) 3).moveOutDue 2109 = true ∧
        ((s.wr (F.BANK_STATE_STATE 2110) 3).wr (F.BANK_STATE_STATE 2111) 3).freshSpare (2109 / 66) = none)) ∧
    (let s : State := { run0 with eng := { run0.eng with testing := [(2111, true)] } }
     Store.get (fun _ => false) s.eng.testing (2111 : Fin 2112).val = true ∧ s.pwr.rotating = []) ∧
    (let s : State := { freed 4 with pwr := { (freed 4).pwr with scrubPos := 575 } }
     s.released 3 = true ∧ s.pwr.march = 0 ∧ s.testRunning 0x02 = false ∧ 544 ≤ s.pwr.scrubPos) ∧
    ((freed 16).released 5 = true ∧ (freed 16).testRunning 0x03 = false) := by decide +kernel

/-! ### Witnesses: lines -/

/-- A port whose receiver searches, its CDR locked as `cdr` says. -/
def hunting (p m : Nat) (cdr : Nat) (f : Framer) : State :=
  let s := (((run0.wr (F.PRT_CFG_MODE p) m).raise (F.PRT_CFG_ENABLED p)).wr (F.PRT_STATUS_CDR_LOCK p) cdr).wr (F.PRT_STATUS_DEPTH p) 0
  { s with line := { s.line with framers := [(p, f)] } }
def cand0 : Cand := ⟨5, 100, 65535⟩
def eight : Framer := { Framer.reset with cands := List.replicate 8 ⟨6, 100, 0⟩ }
theorem witness_FrameSearch :
    ((hunting 47 2 0 Framer.reset).rxOn 47 = true ∧ (hunting 47 2 0 Framer.reset).lowest 47 = 47 ∧ (hunting 47 2 0 Framer.reset).cdr 47 0 = false) ∧
    ((hunting 47 2 1 Framer.reset).cdr 47 0 = true ∧ (hunting 47 2 1 Framer.reset).scanning 47 false = true ∧
      patternOk ((hunting 47 2 1 Framer.reset).prtMode 47) 0x1DF3A5C6E20C5A39 = true) ∧
    (let s := hunting 47 2 1 eight
     s.scanning 47 false = true ∧ (s.framer 47).inFrame = false ∧ ((s.framer 47).barred.any fun b => decide (b.1 = 5) && decide (max s.now 50 < b.2)) = false ∧
      ((s.framer 47).cands.any fun c => decide (c.pos = 5)) = false ∧ 8 ≤ (s.framer 47).cands.length) ∧
    (let s := hunting 47 2 1 { Framer.reset with cands := [cand0] }
     ((s.framer 47).cands.find? fun c => decide (c.pos = 5) && decide (c.due ≤ max s.now 100)) = some cand0 ∧ s.rxOn 47 = true ∧
      (s.framer 47).inFrame = false ∧ s.scanning 47 false = true ∧ verifyOk (s.prtMode 47) 0x1DF3A5C6E20C5A3F cand0.ctr 0 = true ∧
      verifyOk (s.prtMode 47) 0x1DF3A5C6E20C5A39 cand0.ctr 1 = false ∧ isBonded (s.prtMode 47) = false) := by decide +kernel
theorem witness_LineTimers :
    ((port 47 5).rxOn 47 = true ∧ isZiuth ((port 47 5).prtMode 47) = false ∧ isZiuth ((port 47 1).prtMode 47) = true ∧
      (∀ l ∈ (port 47 5).lanes 47, (port 47 5).cdr 47 (l - 47) = true) ∧ ((port 47 5).dyn 47).since + 300000 ≤ max (port 47 5).now 300000) ∧
    ((port 47 9).rxOn 47 = true ∧ isOtn ((port 47 9).prtMode 47) = true ∧ ((port 47 9).dyn 47).clientSince + 300000 ≤ max (port 47 9).now 300000) ∧
    (let s : State := { port 47 5 with line := { (port 47 5).line with ports := [(47, { PortDyn.reset with rdi := true, rdiEnd := some 9 })] } }
     (s.dyn 47).rdiEnd = some 9 ∧ 9 ≤ max s.now 9 ∧ s.rdiDefect 47 = false) := by decide +kernel

/-- A port in frame after `n` errored patterns in a row. -/
def errored (p m n : Nat) : State := { port p m with line := { (port p m).line with framers := [(p, { Framer.reset with inFrame := true, errRun := n })] } }
/-- What LineFramesReceived asks of a port. -/
def aligned (s : State) (p : Nat) : Bool := s.loop p == 0 && s.rxOn p && s.framed p && (s.framer p).inFrame
theorem witness_ziuthFrame : aligned (port 47 2) 47 = true ∧ isZiuth ((port 47 2).prtMode 47) = true ∧ (port 47 2).prtMode 47 = 2 ∧
    (port 47 2).writes 47 = true ∧ ((port 47 2).framer 47).errRun = 0 ∧ aligned (errored 47 2 3) 47 = true ∧
    ((errored 47 2 3).framer 47).errRun = 3 ∧ aligned (port 47 1) 47 = true ∧ (port 47 1).prtMode 47 = 1 := by decide +kernel
theorem witness_ziuthSymbols (n : Nat) (h : 64 ≤ n) : (ziuthBits 2 false (List.replicate n 0 ++ [] ++ [])).length = n ∧
    3 < fawErrors (ziuthBits 2 false (List.replicate n 0 ++ [] ++ [])) := by
  rw [List.append_nil, List.append_nil]
  have e : ziuthBits 2 false (List.replicate n 0) = List.replicate n false := by simp [ziuthBits]
  rw [e, fawErrors, List.take_replicate, Nat.min_eq_left h]
  exact ⟨List.length_replicate, by decide +kernel⟩
theorem witness_ziuthPam (n : Nat) : (ziuthBits 1 true (List.replicate (n + 1) 0 ++ [] ++ [])).length = 2 * n + 1 := by
  simp [ziuthBits, pamBits]; omega
theorem witness_ziuthFits : ziuthFits 2 (64 + 5440 * 610 + 1849) = true ∧ ziuthFits 1 (2 * 3320312 + 1) = true := by decide +kernel
theorem joinLanes_one (d : List W8) : joinLanes [d] = d := by
  apply List.ext_getElem
  · simp [joinLanes]
  · intro i h1 h2
    simp [joinLanes, Nat.mod_one, h2]
theorem witness_sonetFrame : aligned (port 47 7) 47 = true ∧ isSonet ((port 47 7).prtMode 47) = true ∧ isBonded ((port 47 7).prtMode 47) = false ∧
    modeCells ((port 47 7).prtMode 47) = 3 ∧ aligned (errored 47 7 3) 47 = true ∧ ((errored 47 7 3).framer 47).errRun = 3 ∧
    (let d : List W8 := [0xF6, 0xF6, 0xF6, 0x28, 0x28, 0x28] ++ List.replicate 2424 0
     d.length = 810 * 3 ∧ patternOk 4 (laneWord 3 1 0 d) = true) ∧
    (let d : List W8 := List.replicate 2430 0
     d.length = 810 * 3 ∧ patternOk 4 (laneWord 3 1 0 d) = false) := by decide +kernel
theorem witness_otnFrame : aligned (port 47 9) 47 = true ∧ isOtn ((port 47 9).prtMode 47) = true ∧ ((port 47 9).framer 47).errRun < 4 ∧
    isBonded ((port 47 9).prtMode 47) = false ∧ aligned (errored 47 9 4) 47 = true ∧ ((errored 47 9 4).framer 47).errRun = 4 := by decide +kernel
theorem groupsOf_length {α : Type} (n k : Nat) (l : List α) : (groupsOf n k l).length = k := by
  induction k generalizing l with
  | zero => rfl
  | succ k ih => simp [groupsOf, ih]
theorem witness_otnLanes (d : List W8) (h : d.length = 16320) : (otuWire ((port 47 9).joinOtu 47 ([d, [], [], []].take [5].length))).length = 16320 ∧
    (otuWire ((port 47 9).joinOtu 47 ([d, [], [], []].take [5].length))).take 6 = d.take 6 := by
  have e : (port 47 9).joinOtu 47 ([d, [], [], []].take [5].length) = d := if_neg (by decide +kernel)
  rw [e]
  simp [otuWire, groupsOf_length, h]
theorem witness_otnData (b : W8) : (List.replicate 16320 b).length = 16320 ∧ (List.replicate 16320 b).take 6 = List.replicate 6 b ∧
    (otuFas ++ List.replicate 16314 b).length = 16320 ∧ (otuFas ++ List.replicate 16314 b).take 6 = otuFas ∧ List.replicate 6 (0 : W8) ≠ otuFas := by
  refine ⟨List.length_replicate, List.take_replicate, ?_, List.take_left' rfl, by decide⟩
  rw [List.length_append, List.length_replicate]; rfl

/-! ### Witnesses: port commands -/

/-- PORT_CONFIGURE of port 47 in mode `m`. -/
def cfgCmd (m : Nat) : Taken := cmd 0x10 16 0 [BitVec.ofNat 32 (47 + m * 256), 0x7E, 0, 0]
theorem witness_portConfigure : Starts (one act0 (cfgCmd 5)) .portConfigure x0 0 (cfgCmd 5) ∧
    (cfgOk .ring0 (one act0 (cfgCmd 5)) (cfgCmd 5).d = true ∧ cfgStruct (cfgCmd 5).d = false ∧ (one act0 (cfgCmd 5)).cfgBusy (cfgCmd 5).d = false ∧
      ((one act0 (cfgCmd 5)).quadClasses (portOf (cfgCmd 5).d) (cfgMode (cfgCmd 5).d)).length ≤ 2 ∧ act0.enabled 47 = false ∧
      isBonded (cfgMode (cfgCmd 5).d) = false ∧ isBonded (act0.prtMode (portOf (cfgCmd 5).d)) = false) := starts_and (by decide +kernel)
/-- A port enabled in mode 5, to be configured LIVE. -/
def liveCmd : Taken := cmd 0x10 16 1 [BitVec.ofNat 32 (47 + 5 * 256 + 0x1000), 0x7E, 0, 0]
/-- `act0`'s bits on a state. -/
def acting (s : State) : State := s.raise F.PAIR_STAT_ACTING
theorem witness_portConfigure_live : Starts (one (acting (port 47 5)) liveCmd) .portConfigure x0 0 liveCmd ∧
    (cfgOk .ring0 (one (acting (port 47 5)) liveCmd) liveCmd.d = true ∧ cfgStruct liveCmd.d = false ∧
      (one (acting (port 47 5)) liveCmd).cfgBusy liveCmd.d = false ∧
      ((one (acting (port 47 5)) liveCmd).quadClasses (portOf liveCmd.d) (cfgMode liveCmd.d)).length ≤ 2 ∧
      (acting (port 47 5)).enabled (portOf liveCmd.d) = true) := starts_and (by decide +kernel)
/-- PORT_CONFIGURE with a structure of the three cells of mode 7. -/
def structCmd : Taken := cmd 0x10 16 0 [BitVec.ofNat 32 (47 + 7 * 256), 0x17E, 0x1000, 0]
theorem witness_portConfigure_struct : Starts (one act0 structCmd) .portConfigure (xIn (List.replicate 6 0)) 0 structCmd ∧
    (cfgOk .ring0 (one act0 structCmd) structCmd.d = true ∧ cfgStruct structCmd.d = true ∧ (one act0 structCmd).cfgBusy structCmd.d = false ∧
      (match (one act0 structCmd).readBuf (word64 structCmd.d 4) 6 (xIn (List.replicate 6 0)) with
        | .ok r => structOk (halfWords r.2)
        | .error _ => false) = true) := starts_and (by decide +kernel)
/-- PORT_CONFIGURE of the bonded mode 3 on the quad of port 44. -/
def bondCmd : Taken := cmd 0x10 16 0 [BitVec.ofNat 32 (44 + 3 * 256), 0x7E, 0, 0]
theorem witness_portConfigure_bonded : Starts (one act0 bondCmd) .portConfigure x0 0 bondCmd ∧
    (cfgOk .ring0 (one act0 bondCmd) bondCmd.d = true ∧ isBonded (cfgMode bondCmd.d) = true ∧
      (one act0 bondCmd).cfgBusy bondCmd.d = false ∧ ((one act0 bondCmd).quadClasses 44 (cfgMode bondCmd.d)).length ≤ 2) := starts_and (by decide +kernel)
/-- Two other lanes of the quad use PLL classes A and B. -/
def fullQuad : State := (act0.wr (F.PRT_CFG_MODE 44) 1).wr (F.PRT_CFG_MODE 45) 5
theorem witness_portConfigure_classes : Starts (one fullQuad (cfgCmd 9)) .portConfigure x0 0 (cfgCmd 9) ∧
    (cfgOk .ring0 (one fullQuad (cfgCmd 9)) (cfgCmd 9).d = true ∧ (one fullQuad (cfgCmd 9)).cfgBusy (cfgCmd 9).d = false ∧
      2 < ((one fullQuad (cfgCmd 9)).quadClasses (portOf (cfgCmd 9).d) (cfgMode (cfgCmd 9).d)).length) := starts_and (by decide +kernel)
/-- A command of opcode `op` on port 47. -/
def portCmd (op : Nat) : Taken := cmd op 4 0 [47]
theorem witness_portStatus : Starts (one run0 (portCmd 0x13)) .portStatus x0 0 (portCmd 0x13) ∧
    (onlyBits (word (portCmd 0x13).d 2) 0x3F = true ∧ portOf (portCmd 0x13).d < 48) := starts_and (by decide +kernel)
theorem witness_portEnable : Starts (one (act0.wr (F.PRT_CFG_MODE 47) 5) (portCmd 0x11)) .portEnable x0 0 (portCmd 0x11) ∧
    (onlyBits (word (portCmd 0x11).d 2) 0x3F = true ∧ portOf (portCmd 0x11).d = 47 ∧ (act0.wr (F.PRT_CFG_MODE 47) 5).prtMode 47 ≠ 0 ∧
      (act0.wr (F.PRT_CFG_MODE 47) 5).member 47 = false ∧ (act0.wr (F.PRT_CFG_MODE 47) 5).cmdBusy 47 = false ∧
      (act0.wr (F.PRT_CFG_MODE 47) 5).enabled 47 = false ∧ (port 47 5).enabled 47 = true) := starts_and (by decide +kernel)
theorem witness_portDisable : Starts (one (acting (port 47 5)) (portCmd 0x12)) .portDisable x0 0 (portCmd 0x12) ∧
    (onlyBits (word (portCmd 0x12).d 2) 0x3F = true ∧ (port 47 5).member 47 = false ∧ (port 47 5).cmdBusy 47 = false ∧
      (port 47 5).rd (F.PRT_SRC_REFS_COUNT 47) = 0 ∧ (port 47 5).monSelectors 47 = 0 ∧ grouped (port 47 5).groups 47 = false ∧
      optOf (portCmd 0x12).d = false ∧ ((port 47 5).wr (F.PRT_SRC_REFS_COUNT 47) 3).rd (F.PRT_SRC_REFS_COUNT 47) ≠ 0) := starts_and (by decide +kernel)

/-- Port 47 in a state of its own, its budgets allowing D3. -/
def dyn47 (d : PortDyn) : State :=
  let s := (((port 47 5).wr F.PAIR_CFG_MODE 0).wr (F.PRT_BUDGET_TX_WAKE 47) 65535).wr (F.PRT_BUDGET_RX_WAKE 47) 65535
  { s with line := { s.line with ports := [(47, d)] } }
theorem witness_PllsDisableAndSleep :
    ((dyn47 { PortDyn.reset with cmd := .disabling 1 none (some (0, 100)) }).dyn 47).cmd = .disabling 1 none (some (0, 100)) ∧
    100 + 650 ≤ max (port 47 5).now 750 ∧ max (port 47 5).now 749 < 100 + 650 ∧ 47 ∈ (port 47 5).pllUsers 47 ∧
    (port 47 5).line.depthAt + msTicks ≤ max (port 47 5).now 100000 ∧ (port 47 5).enabled 47 = true ∧ (port 47 5).member 47 = false ∧
    (port 47 5).depth 47 ≤ (port 47 5).depthRule 47 ∧
    ((dyn47 PortDyn.reset).wr (F.PRT_BUDGET_TX_WAKE 47) 0 |>.wr (F.PRT_STATUS_DEPTH 47) 3).depthRule 47 < 3 ∧
    (let s := dyn47 { PortDyn.reset with deep3 := some 0 }
     s.depth 47 < min (s.depthRule 47) 3 ∧ deepFor (max s.now 10000000) (s.dyn 47).deep3 = true ∧ s.enabled 47 = true ∧
      (s.dyn 47).wake = none ∧ (s.dyn 47).cmd = .idle) ∧
    ((dyn47 { PortDyn.reset with wake := some 0 }).dyn 47).wake = some 0 ∧ ((dyn47 PortDyn.reset).dyn 47).wake = none := by decide +kernel

/-! ### Witnesses: timing -/

/-- TIMING_CONFIGURE of entry or reference 15. -/
def tmgCmd (op : Nat) (w3 w4 w5 : W32) : Taken := cmd 0x40 16 0 [BitVec.ofNat 32 (op + 0xF00), w3, w4, w5]
/-- The entry of REFIN 3: type 2, 1 PPS, QL given by the host. -/
def refin3 : W32 := 0x1040E
/-- An acting device whose reference 15 is REFIN 3. -/
def ref15 (freq : Nat) : State := act0.setReg 0x4005013C (BitVec.ofNat 32 (0x1000E + freq * 256))
/-- A timing command's form is right, and its chapter's cases are as `ok` says. -/
def timingB (s : State) (k : Taken) (ok : Bool) : Prop :=
  Starts (one s k) .timingConfigure x0 0 k ∧ (timingForm k.d = true ∧ ((one s k).tick 7).timingCase k.d = ok)
theorem witness_timingEntry : timingB act0 (tmgCmd 0 refin3 0 0) true := starts_and (by decide +kernel)
theorem witness_timingGlobals : timingB act0 (tmgCmd 1 0x10 0x80 0x1100A) true := starts_and (by decide +kernel)
theorem witness_timingClear : timingB (ref15 0) (tmgCmd 2 0 0 0) true := starts_and (by decide +kernel)
theorem witness_timingLockout : timingB (ref15 0) (tmgCmd 2 1 0 0) true := starts_and (by decide +kernel)
theorem witness_timingForce : timingB (ref15 0) (tmgCmd 2 2 0 0) true := starts_and (by decide +kernel)
theorem witness_timingForce_fails : timingB act0 (tmgCmd 2 2 0 0) false := starts_and (by decide +kernel)
/-- 72 windows of history. -/
def remembered : State := { act0 with tmg := { act0.tmg with hist := List.replicate 72 (some 5) } }
theorem witness_timingForceHo : timingB remembered (tmgCmd 2 3 0 0) true := starts_and (by decide +kernel)
theorem witness_timingOutputs : timingB act0 (tmgCmd 3 0x2A99 0 0) true := starts_and (by decide +kernel)
/-- TIMING_REALIGN of both outputs. -/
def realignCmd : Taken := cmd 0x41 8 0 [0xF3, 124999]
def realign0 (fs pps : Bool) (ref : Nat) : Realign := ⟨fs, pps, ref, 0, 0, some (0, 0), none, none⟩
/-- A realignment is in flight. -/
def aligning (s : State) (r : Realign) : State := { s with tmg := { s.tmg with realign := some r } }
theorem witness_timingRealign : Starts (one act0 realignCmd) .timingRealign x0 0 realignCmd ∧
    (realignOk realignCmd.d = true ∧ (act0.tick 7).realignCase realignCmd.d = true ∧ act0.tmg.realign = none) := starts_and (by decide +kernel)
/-- TIMING_REALIGN of PPS_OUT to entry 0, which holds no 1 PPS. -/
def realignBadCmd : Taken := cmd 0x41 8 0 [2, 0]
theorem witness_timingRealign_noPps : Starts (one act0 realignBadCmd) .timingRealign x0 0 realignBadCmd ∧
    (realignOk realignBadCmd.d = true ∧ (act0.tick 7).realignCase realignBadCmd.d = false) := starts_and (by decide +kernel)
theorem witness_timingRealign_busy : Starts (one (aligning act0 (realign0 true true 15)) realignCmd) .timingRealign x0 0 realignCmd ∧
    (realignOk realignCmd.d = true ∧ ((aligning act0 (realign0 true true 15)).tick 7).realignCase realignCmd.d = true ∧ (aligning act0 (realign0 true true 15)).tmg.realign ≠ none) :=
  starts_and (by decide +kernel)
theorem witness_timingStatus : Starts (one run0 (cmd 0x42 0 0 [])) .timingStatus x0 0 (cmd 0x42 0 0 []) := starts_of (by decide +kernel)

/-- The DPLL is in state `st` with reference 15 selected. -/
def pll (s : State) (st : Nat) : State := ((s.wr F.TMG_STATE_STATE st).raise F.TMG_STATE_SEL_VALID).wr F.TMG_STATE_SEL_REF 15
/-- Reference 15 has a state of its own. -/
def refSt (s : State) (r : RefSt) : State := { s with tmg := { s.tmg with refs := [(15, r)] } }
theorem witness_ReferencesAndSelection :
    ((pll (ref15 0) 2).refType (15 : Fin 16).val = 2 ∧ (pll (ref15 0) 2).acting = true ∧ (pll (ref15 0) 2).flag F.TMG_STATE_SEL_VALID = true ∧
      (pll (ref15 0) 2).rd F.TMG_STATE_SEL_REF = 15 ∧ (pll (ref15 0) 2).dpll = 2) ∧
    ((refSt (ref15 0) { RefSt.reset with loss := true }).ref 15).loss = true ∧
    (let s := pll (ref15 0) 1
     let s : State := { s with tmg := { s.tmg with inBand := 1 } }
     s.tmg.winAt + secTicks ≤ max s.now 100000000 ∧ s.refUsed 15 = true ∧ s.dpll = 1 ∧ s.flag F.TMG_STATE_MATE = false ∧
      s.rd F.TMG_STATE_SEL_REF = (15 : Fin 16).val ∧ s.isPps 15 = false ∧
      ((sat32 1000).toInt - 0).natAbs ≤ 1000 ∧ 1 ≤ s.tmg.inBand ∧ (s.raise F.TMG_STATE_MATE).flag F.TMG_STATE_MATE = true) ∧
    (let s := refSt (ref15 0) { RefSt.reset with wtr := some 9 }
     (s.ref (15 : Fin 16).val).wtr = some 9 ∧ 9 ≤ max s.now 9 ∧ s.refUsed 15 = true ∧ (s.tick 9).refCause 15 = 0 ∧
      s.flag (F.TMG_REF_STAT_FAIL 15) = false ∧ s.flag (F.TMG_REF_STAT_LOCKOUT 15) = false) := by decide +kernel
theorem witness_Selection :
    (act0.tmg.selAt + msTicks ≤ max act0.now 100000 ∧ act0.acting = true ∧ run0.acting = false) ∧
    (act0.dpll = 0 ∧ (pll act0 2).dpll = 2 ∧ (pll act0 2).flag F.TMG_STATE_SEL_VALID = true ∧ (pll act0 2).rd F.TMG_STATE_SEL_REF = 15 ∧
      (pll act0 1).dpll = 1 ∧ (pll act0 3).dpll = 3 ∧ (pll act0 5).dpll = 5 ∧ (pll act0 4).dpll = 4 ∧ (pll act0 4).tmg.hold = none ∧
      (pll act0 4).flag F.TMG_STATE_TGT_VALID = false) ∧
    (let s := (pll (ref15 0) 1).wr F.TMG_TIMERS_WTR 5
     s.acting = true ∧ s.dpll = 1 ∧ s.flag F.TMG_STATE_SEL_VALID = true ∧ s.rd F.TMG_STATE_SEL_REF = 15 ∧ s.refUsed 15 = true ∧
      s.rd F.TMG_TIMERS_WTR ≠ 0 ∧ s.tmg.acqAt + (if s.isPps 15 then 900 else 60) * secTicks ≤ max s.now 90000000000) ∧
    (let s : State := { pll (ref15 0) 4 with tmg := { (ref15 0).tmg with hold := some 9 } }
     s.tmg.hold = some 9 ∧ 9 ≤ max s.now 9 ∧ s.dpll = 4 ∧ s.acting = true) := by decide +kernel
theorem witness_SwitchAndRealign :
    (let s := (((pll (ref15 0) 4).raise F.TMG_STATE_TGT_VALID).wr F.TMG_STATE_TARGET 15)
     let u : State := { s with tmg := { s.tmg with verify := some 0 } }
     u.tmg.verify = some 0 ∧ u.dpll = 4 ∧ u.flag F.TMG_STATE_TGT_VALID = true ∧ u.cands.contains (u.rd F.TMG_STATE_TARGET) = true ∧
      0 + u.rd F.TMG_TIMERS_VERIFY * 10 * msTicks ≤ max u.now 100000000) ∧
    (let s : State := { pll act0 4 with
       tmg := { act0.tmg with measured := some (-7, 5001, 3) }
       core := { act0.core with markT := 3, started := true } }
     s.dpll = 4 ∧ s.core.started = true ∧ max s.now 3 = s.core.markT ∧ s.tmg.back = false ∧ s.tmg.measured = some (-7, 5001, 3) ∧ 3 ≤ s.core.markT) ∧
    (let s : State := { pll act0 4 with
       tmg := { act0.tmg with back := true, verify := some 2 }
       core := { act0.core with markT := 3, started := true } }
     s.dpll = 4 ∧ s.core.started = true ∧ max s.now 3 = s.core.markT ∧ s.tmg.back = true ∧ s.tmg.verify = some 2 ∧ 2 ≤ s.core.markT) ∧
    (∀ fs ∈ [false, true],
     let s : State := aligning { act0 with core := { act0.core with started := true } } (realign0 fs true 15)
     s.tmg.realign = some (realign0 fs true 15) ∧ (s.tick 0).ppsDue (realign0 fs true 15) = true ∧ (s.tick 0).pulseFree ppsPeriod s.tmg.ppsPh 0 = true) ∧
    (let s : State := aligning { act0 with
       core := { act0.core with started := true, markT := 12500, frames := 1 } } { realign0 false true 15 with phase := some (12501, 12501) }
     let s : State := { s with tmg := { s.tmg with ppsPh := 12500 } }
     (s.tick 12501).ppsDue { realign0 false true 15 with phase := some (12501, 12501) } = true ∧
      (s.tick 12501).pulseFree ppsPeriod s.tmg.ppsPh 12501 = false) ∧
    (∀ pps ∈ [false, true],
     let s : State := aligning { act0 with core := { act0.core with started := true, markT := 12500, frames := 1 } }
       ⟨true, pps, 15, 124999, 0, none, none, none⟩
     (s.tick 24999).sincePhase frameTicks (124999 / 10) = 0 ∧
      (s.tick 24999).pulseFree frameTicks (s.rd F.TMG_ALIGN_FSYNC_OFS / 10) 0 = true) ∧
    (realign0 false false 15).fs = false ∧ (realign0 false true 14).ref ≠ 15 ∧ (realign0 false true 14).ppsFn = none ∧
    (realign0 false true 14).start + 220000000 ≤ max act0.now 220000000 := by decide +kernel

/-! ### Witnesses: pair -/

/-- A standby that is ready and whose outputs are enabled, in MODE 01. -/
def standby : State := (run0.wr F.BOOT_RESULT_RES9 0).setFlag F.PAIR_STAT_STALE false
/-- A lease of epoch 7 to tick `e`. -/
def leased (s : State) (e : Nat) : State := { s with pair := { s.pair with lease := some ⟨7, e⟩ } }
/-- A query with its parity. -/
def query (op e : Nat) : W16 := let q := BitVec.ofNat 16 (op * 4096 + e * 16); if parity q.toNat 16 then q else q + 1
/-- A query with odd parity, ARG making it up. -/
def qArgd (op e : Nat) : W16 := let q := BitVec.ofNat 16 (op * 4096 + e * 16); if parity q.toNat 16 then q else q + 8
/-- The acting holder of epoch 7 whose mate is up and ready. -/
def holder : State :=
  let s := ((leased standby 100000000).raise F.PAIR_STAT_ACTING).raise F.PAIR_STAT_MATE_UP
  { s with core := { s.core with started := true }, mate := { s.mate with hb := some ⟨0, 2, 0, 7⟩ } }
theorem witness_ArbiterQueries :
    (standby.alive = true ∧ standby.mode ≠ 0 ∧ queryOk (qArgd 0 0) = true ∧ qOp (qArgd 0 0) = 0 ∧ queryOk 0 = false) ∧
    (let s : State := { standby with mate := { standby.mate with downAt := 0 } }
     qArg (qArgd 0 0) = true ∧ s.acting = false ∧ s.mateUp = false ∧ s.mate.downAt + s.leaseTicks < max s.now 10000000000) ∧
    (qOp (query 0 9) = 0 ∧ queryOk (query 0 9) = true ∧ holder.pair.lease = some ⟨7, 100000000⟩ ∧ epochNewer (qEpoch (query 0 9)) 7 = true ∧
      holder.pair.ho = none) ∧
    (queryOk (query 1 1) = true ∧ qOp (query 1 1) = 1 ∧ standby.pair.lease = none ∧ epochNewer (qEpoch (query 1 1)) standby.epoch = true ∧
      standby.readyNow = true ∧ qArg (query 1 1) = false ∧ (standby.tick 9).hoGrant (qEpoch (query 1 1)) = false ∧ (standby.tick 9).mateQuiet = true ∧
      (let s : State := { standby with pair := { standby.pair with ho := some ⟨9, 100000000, 1, false, false⟩ } }
       (s.tick 9).hoGrant (qEpoch (query 1 1)) = true)) ∧
    ((leased standby 9).pair.lease ≠ none ∧ queryOk (query 2 7) = true ∧ qOp (query 2 7) = 2 ∧ (leased standby 9).holds (qEpoch (query 2 7)) = true ∧
      (leased standby 9).alive = true ∧ (leased standby 9).mode ≠ 0) ∧
    (queryOk (query 3 7) = true ∧ qOp (query 3 7) = 3 ∧ holder.holds (qEpoch (query 3 7)) = true ∧ holder.acting = true ∧ holder.alive = true ∧ holder.mode ≠ 0) ∧
    (queryOk (query 4 7) = true ∧ qOp (query 4 7) = 4 ∧ holder.holds (qEpoch (query 4 7)) = true ∧ holder.mateUp = true ∧ holder.hbBit 1 = true ∧
      holder.pair.ho = none) := by decide +kernel

/-- A handover in one of its states. -/
def handing (s : State) (h : Handover) : State := { s with pair := { s.pair with ho := some h } }
/-- A frame mark at tick `m`. -/
def marked (s : State) (m : Nat) : State := { s with core := { s.core with started := true, markT := m } }
theorem witness_LampEvents :
    (let s := marked (leased holder 12500) 0
     s.pair.lease = some ⟨7, 12500⟩ ∧ s.acting = true ∧ s.mode ≠ 0 ∧ s.core.started = true ∧ max s.now 0 = s.core.markT ∧
      12500 ≤ s.core.markT + frameTicks ∧ (marked (leased holder 12501) 0).core.markT + frameTicks < 12501) ∧
    ((leased standby 9).acting = false ∧ 9 ≤ max (leased standby 9).now 9) ∧
    (let s : State := leased (marked standby 5) 12506
     let s : State := { s with pair := { s.pair with guardAt := some 5 } }
     s.pair.guardAt = some 5 ∧ s.core.started = true ∧ max s.now 5 = s.core.markT ∧ 5 ≤ s.core.markT ∧ s.pair.lease = some ⟨7, 12506⟩ ∧
      s.core.markT + frameTicks < 12506) ∧
    (let s := marked (handing holder ⟨0, 0, 8, true, true⟩) 0
     s.acting = true ∧ s.fn = 0 ∧ s.pair.ho = some ⟨0, 0, 8, true, true⟩ ∧ s.core.started = true ∧ max s.now 0 = s.core.markT) ∧
    (let s := marked (handing (leased (standby.wr F.FRAME_NUM_FN 16) 12501) ⟨0, 0, 7, false, true⟩) 0
     s.acting = false ∧ s.core.markT + frameTicks < 12501 ∧ 16 ≤ fnDist s.fn 0 ∧ fnDist s.fn 0 < 32768) ∧
    (let s := handing standby ⟨9, 5, 7, false, false⟩
     s.pair.ho = some ⟨9, 5, 7, false, false⟩ ∧ 5 < max s.now 0 + guardTicks) ∧
    (holder.pair.drillAt ≤ max holder.now 9 ∧ holder.flag F.PAIR_STAT_SWAP_REQ = false ∧ holder.acting = true) ∧
    (let s : State := { (standby.wr F.PAIR_CFG_MODE 2).raise F.PAIR_STAT_MATE_UP with
       pair := { standby.pair with idleFn := some 2 }
       core := { standby.core with frames := 2 } }
     let s := s.raise F.PAIR_STAT_MATE_ACTING
     s.pair.idleFn = some 2 ∧ s.core.frames = 2 ∧ s.core.markT + 650 ≤ max s.now 650 ∧ s.mode = 2 ∧ s.acting = false ∧ s.mateUp = true ∧
      s.flag F.PAIR_STAT_MATE_ACTING = true ∧ s.pair.ho = none ∧ s.pair.guardAt = none ∧ s.rd (F.PRT_CFG_LOOP 47) = 0 ∧ (s.dyn 47).tx ≠ 3) ∧
    (let s : State := { holder with pair := { holder.pair with swapAt := [0] } }
     s.pair.swapAt = [0] ∧ 0 + 5 * secTicks ≤ max s.now 500000000 ∧ s.pair.ho = none) := by decide +kernel

/-- PAIR_CONFIGURE in MODE `m`. -/
def pairCmd (m : Nat) : Taken := cmd 0x50 12 0 [BitVec.ofNat 32 (4 + m), 200, 720]
theorem witness_pairConfigure : Starts (one run0 (pairCmd 2)) .pairConfigure x0 0 (pairCmd 2) ∧
    (onlyBits (word (pairCmd 2).d 2) 7 = true ∧ bits (word (pairCmd 2).d 2) 0 2 ≠ 3 ∧ onlyBits (word (pairCmd 2).d 3) 0xFF = true ∧
      onlyBits (word (pairCmd 2).d 4) 0x3FF = true ∧ run0.fresh0 = true ∧ run0.acting = false ∧ pairRanges (pairCmd 2).d = true ∧
      bits (word (pairCmd 2).d 2) 0 2 ≠ 0 ∧ ({ run0 with pair := { run0.pair with hasActed := true } } : State).fresh0 = false) :=
  starts_and (by decide +kernel)
/-- PAIR_CONFIGURE on a device that has acted and does not act, with a value out of range, and in MODE 00 beside a mate. -/
theorem witness_pairConfigure_turned :
    Starts (one { run0 with pair := { run0.pair with hasActed := true } } (pairCmd 2)) .pairConfigure x0 0 (pairCmd 2) ∧
    Starts (one run0 (cmd 0x50 12 0 [6, 0, 0])) .pairConfigure x0 0 (cmd 0x50 12 0 [6, 0, 0]) ∧ pairRanges (cmd 0x50 12 0 [6, 0, 0]).d = false ∧
    (Starts (one holder (pairCmd 0)) .pairConfigure x0 0 (pairCmd 0) ∧
      (holder.acting = true ∧ pairRanges (pairCmd 0).d = true ∧ holder.mode ≠ 0 ∧ holder.mateUp = true)) :=
  ⟨starts_of (by decide +kernel), starts_of (by decide +kernel), by decide +kernel, starts_and (by decide +kernel)⟩
def swapCmd : Taken := cmd 0x51 0 0 []
theorem witness_pairSwap : Starts (one holder swapCmd) .pairSwap x0 0 swapCmd ∧
    (holder.pair.ho = none ∧ holder.mateUp = true ∧ holder.hbBit 2 = false ∧ (handing holder ⟨0, 0, 8, true, true⟩).pair.ho ≠ none) :=
  starts_and (by decide +kernel)
theorem witness_pairSwap_turned : Starts (one act0 swapCmd) .pairSwap x0 0 swapCmd ∧ (act0.pair.ho = none ∧ act0.mateUp = false) :=
  starts_and (by decide +kernel)
theorem witness_pairStatus : Starts (one run0 (cmd 0x52 0 0 [])) .pairStatus x0 0 (cmd 0x52 0 0 []) := starts_of (by decide +kernel)

/-! ### Witnesses: mate link -/

/-- The header of the first record from the mate, of a body. -/
def hdrOf (b : MateBody) (last : Bool) : RecHdr :=
  { crc := MateRec.crc { body := b, last := last, seq := 0, fn := 0, epoch := 0 }, last := last, seq := 0, fn := 0, epoch := 0 }
theorem recFits_hdrOf (b : MateBody) (last : Bool) : recFits (hdrOf b last) b = true := by simp [recFits, hdrOf]
/-- A standby whose mate is up. -/
def linked : State := standby.raise F.PAIR_STAT_MATE_UP
theorem taken0 (b : MateBody) (last : Bool) : RecordTaken linked (hdrOf b last) b :=
  ⟨by decide +kernel, by decide +kernel, by decide +kernel, recFits_hdrOf b last, .inl (by decide +kernel), by simp only [hdrOf]; decide +kernel⟩
theorem taken_holder (b : MateBody) (last : Bool) : RecordTaken (linked.raise F.PAIR_STAT_ACTING) (hdrOf b last) b :=
  ⟨by decide +kernel, by decide +kernel, by decide +kernel, recFits_hdrOf b last, .inl (by decide +kernel), by simp only [hdrOf]; decide +kernel⟩
theorem mirrors0 : Mirrors linked := ⟨by decide +kernel, by decide +kernel⟩
theorem inStep0 : InStep linked := ⟨mirrors0, by decide +kernel, by decide +kernel⟩
theorem witness_MateLinkAndLampRecords :
    (linked.mode ≠ 0 ∧ linked.alive = true ∧ (linked.raise F.PAIR_STAT_MATE_ACTING).flag F.PAIR_STAT_MATE_ACTING = true ∧ linked.acting = false) ∧
    (∀ n ∈ [2, 3], let s := linked.setLane 1 ⟨true, 0, false, n, 0, 0, false, 0⟩
     (s.lane (1 : Fin 2).val).frame = true ∧ (s.lane 1).errRun = n ∧ s.mode ≠ 0 ∧ s.alive = true) ∧
    (let s := linked.setLane 1 ⟨false, 0, false, 0, 0, 0, false, 0⟩
     (s.lane (1 : Fin 2).val).frame = false ∧ (s.lane 1).dropped = false ∧ (s.lane 1).since + msTicks ≤ max s.now 100000 ∧ s.mateUp = true ∧
      (s.lane (1 - 1)).dropped = true) := by decide +kernel
/-- The alignment word as 32 PAM4 symbols. -/
def fawSymbols : List (Fin 4) := [0, 1, 2, 1, 2, 2, 0, 2, 3, 3, 1, 1, 2, 0, 1, 3, 2, 3, 0, 3, 0, 0, 2, 0, 1, 1, 3, 3, 0, 2, 3, 1]
/-- Symbols of a frame period that start with the alignment word, or not. -/
theorem witness_mateSymbols (pre : List (Fin 4)) (n : Nat) (h : pre.length = 32) (hn : n = 3320281) :
    ziuthFits 1 (ziuthBits 1 false (pre ++ List.replicate n 0)).length = true ∧
    fawErrors (ziuthBits 1 false (pre ++ List.replicate n 0)) = fawErrors (pre.flatMap pamBits) := by
  have hp : (pre.flatMap pamBits).length = 64 := by simp [List.length_flatMap, pamBits, h]
  have hr : ((List.replicate n (0 : Fin 4)).flatMap pamBits).length = 2 * n := by simp [pamBits]; omega
  have he : ziuthBits 1 false (pre ++ List.replicate n 0) = pre.flatMap pamBits ++ ((List.replicate n 0).flatMap pamBits).dropLast := by
    have hne : (List.replicate n (0 : Fin 4)).flatMap pamBits ≠ [] := by
      intro e; rw [e] at hr; simp at hr; omega
    simp only [ziuthBits, if_true, Bool.false_eq_true, if_false, List.flatMap_append]
    exact List.dropLast_append_of_ne_nil hne
  constructor
  · rw [he, List.length_append, List.length_dropLast, hp, hr, hn]; decide +kernel
  · rw [he, fawErrors, fawErrors, List.take_left' hp, List.take_of_length_le (by omega)]
theorem witness_mateFaw : fawSymbols.length = 32 ∧ fawErrors (fawSymbols.flatMap pamBits) = 0 ∧
    3 < fawErrors ((List.replicate 32 (0 : Fin 4)).flatMap pamBits) := by decide +kernel
theorem witness_RecordTaken : (handing linked ⟨9, 5, 7, false, false⟩).pair.ho = some ⟨9, 5, 7, false, false⟩ ∧ linked.acting = false ∧
    fnFuture 32767 linked.fn = true ∧ fnFuture 0 linked.fn = false ∧ (linked.raise F.PAIR_STAT_ACTING).acting = true ∧
    (let s := (linked.raise F.PAIR_STAT_ACTING).wr F.PAIR_STAT_EPOCH 1
     epochNewer s.epoch 0 = true ∧ s.acting = true ∧ s.mateUp = true) := by decide +kernel
/-- The output settings, mirrored. -/
def settings0 : List W32 := desc 0x40 16 0 [3, 0x2A99, 0, 0]
theorem witness_MirrorRecords : RecordTaken linked (hdrOf (.settings 0 0 settings0 []) true) (.settings 0 0 settings0 []) ∧ InStep linked ∧
    (2 ≤ fnDist 32767 linked.fn ∧ fnDist 32767 linked.fn < 32768 ∧ fnDist 1 linked.fn < 2 ∧ opcode settings0 = 0x40 ∧
      bits (word settings0 2) 0 4 = 3 ∧ timingOk linked settings0 = true) := ⟨taken0 _ true, inStep0, by decide +kernel⟩
/-- A mirrored commit for frame `f`. -/
def mirrored (s : State) (f : W16) : State := { s with mate := { s.mate with mcommit := some ⟨f, 1⟩ } }
theorem witness_MirrorRecords_cancel : RecordTaken (mirrored linked 5) (hdrOf (.commitCancel 5) true) (.commitCancel 5) ∧
    InStep (mirrored linked 5) ∧ (mirrored linked 5).mate.mcommit = some ⟨5, 1⟩ :=
  ⟨⟨by decide +kernel, by decide +kernel, by decide +kernel, recFits_hdrOf _ _, .inl (by decide +kernel), by decide +kernel⟩,
    ⟨⟨by decide +kernel, by decide +kernel⟩, by decide +kernel, by decide +kernel⟩, by decide +kernel⟩
/-- A resynchronisation is being received. -/
def resync0 (s : State) (r : Resync) : State := { s with mate := { s.mate with rs := some r } }
theorem witness_Resynchronisation :
    (let s : State := marked { holder with mate := { holder.mate with reqPend := true } } 0
     s.mate.reqPend = true ∧ s.acting = true ∧ s.core.started = true ∧ max s.now 0 = s.core.markT ∧ s.mode ≠ 0 ∧ s.mateUp = true ∧
      s.flag F.CORE_STATUS_BG_SUSPENDED = false) ∧
    ((resync0 linked ⟨[], false, []⟩).mate.rs = some ⟨[], false, []⟩ ∧ (resync0 linked ⟨[], false, []⟩).mate.reqSent = false ∧
      linked.pair.guardAt = none) ∧
    (let s : State := resync0 (marked linked 0) ⟨[(3, 5, 1), (2, 2, 1), (2, 3, 1)], true, []⟩
     s.core.started = true ∧ max s.now 0 = s.core.markT ∧ s.acting = false ∧ s.mate.rs = some ⟨[(3, 5, 1), (2, 2, 1), (2, 3, 1)], true, []⟩ ∧
      s.flag F.CORE_STATUS_BG_SUSPENDED = false ∧ (s.raise F.CORE_STATUS_BG_SUSPENDED).flag F.CORE_STATUS_BG_SUSPENDED = true) ∧
    (let s : State := marked (mirrored linked 0) 0
     let s : State := { s with mate := { s.mate with hb := some ⟨0, 1, 65535, 0⟩ } }
     s.mate.mcommit = some ⟨0, 1⟩ ∧ (0 : W16) = s.fn ∧ s.mate.hb = some ⟨0, 1, 65535, 0⟩ ∧ (65535 : W16) = s.fn - 1 ∧ s.core.started = true ∧
      max s.now 0 = s.core.markT ∧ (1 : W64).getLsbD 0 = true ∧ (2 : W64).getLsbD 0 = false) := by decide +kernel
theorem witness_Resynchronisation_records :
    RecordTaken (resync0 linked ⟨[], false, []⟩) (hdrOf (.resyncEnd 2) true) (.resyncEnd 2) ∧ Mirrors (resync0 linked ⟨[], false, []⟩) :=
  ⟨⟨by decide +kernel, by decide +kernel, by decide +kernel, recFits_hdrOf _ _, .inl (by decide +kernel), by decide +kernel⟩,
    ⟨by decide +kernel, by decide +kernel⟩⟩

/-! ### Witnesses: power and self-tests -/

/-- POWER_BUDGET with PMAX and TJ_LIMIT. -/
def budgetCmd (pmax tj : Nat) : Taken := cmd 0x60 4 0 [BitVec.ofNat 32 (pmax + tj * 65536)]
theorem witness_PowerSupplyAndBudgets :
    max run0.now 99999 < run0.lastOf 9 + msTicks ∧ run0.pwr.misreads < 2 ∧ run0.rd F.PWR_BUDGET_PMAX = 0 ∧
    ((run0.wr F.PWR_BUDGET_TJ_LIMIT 105).rd F.PWR_BUDGET_TJ_LIMIT : Int) - 3 ≤ (104 : BitVec 8).toInt ∧
    (104 : BitVec 8).toInt < ((run0.wr F.PWR_BUDGET_TJ_LIMIT 105).rd F.PWR_BUDGET_TJ_LIMIT : Int) ∧
    run0.lastOf 9 + msTicks ≤ max run0.now 100000 ∧ (820 : BitVec 10).toNat ≤ (run0.wr F.PWR_VCORE_CMD_MV 800).rd F.PWR_VCORE_CMD_MV + 20 ∧
    (run0.wr F.PWR_VCORE_CMD_MV 800).rd F.PWR_VCORE_CMD_MV + 20 < (821 : BitVec 10).toNat ∧
    ({ run0 with pwr := { run0.pwr with misreads := 2 } } : State).pwr.misreads = 2 ∧ run0.lastOf 8 + msTicks ≤ max run0.now 100000 ∧
    (let s : State := { run0.wr F.PWR_BUDGET_PMAX 500 with pwr := { run0.pwr with overSince := some 0 } }
     s.rd F.PWR_BUDGET_PMAX ≠ 0 ∧ s.rd F.PWR_BUDGET_PMAX < (501 : W16).toNat ∧
      s.pwr.overSince.any (fun t0 => decide (t0 + 100 * msTicks ≤ max s.now 10000000)) = true) ∧
    ((run0.wr F.PWR_BUDGET_TJ_LIMIT 105).rd F.PWR_BUDGET_TJ_LIMIT : Int) ≤ (105 : BitVec 8).toInt ∧
    (101 : BitVec 8).toInt < ((run0.wr F.PWR_BUDGET_TJ_LIMIT 105).rd F.PWR_BUDGET_TJ_LIMIT : Int) - 3 := by decide +kernel
theorem witness_powerBudget : Starts (one run0 (budgetCmd 4000 105)) .powerBudget x0 0 (budgetCmd 4000 105) ∧
    (onlyBits (word (budgetCmd 4000 105).d 2) 0xFFFFFF = true ∧ 500 ≤ bits (word (budgetCmd 4000 105).d 2) 0 16 ∧
      bits (word (budgetCmd 4000 105).d 2) 0 16 ≤ 4000 ∧ 50 ≤ bits (word (budgetCmd 4000 105).d 2) 16 8 ∧
      bits (word (budgetCmd 4000 105).d 2) 16 8 ≤ 105) := starts_and (by decide +kernel)
theorem witness_powerBudget_bad : Starts (one run0 (budgetCmd 499 105)) .powerBudget x0 0 (budgetCmd 499 105) ∧
    (onlyBits (word (budgetCmd 499 105).d 2) 0xFFFFFF = true ∧ bits (word (budgetCmd 499 105).d 2) 0 16 ≠ 0 ∧
      bits (word (budgetCmd 499 105).d 2) 0 16 < 500) := starts_and (by decide +kernel)
theorem witness_powerBudget_tooHot : Starts (one run0 (budgetCmd 0 106)) .powerBudget x0 0 (budgetCmd 0 106) ∧
    (onlyBits (word (budgetCmd 0 106).d 2) 0xFFFFFF = true ∧ 105 < bits (word (budgetCmd 0 106).d 2) 16 8) := starts_and (by decide +kernel)
/-- LATENCY_BUDGET of ports 0 and 47. -/
def latencyCmd : Taken := cmd 0x61 12 0 [1, 0x8000, 99]
theorem witness_latencyBudget : Starts (one run0 latencyCmd) .latencyBudget x0 0 latencyCmd ∧
    (onlyBits (word latencyCmd.d 3) 0xFFFF = true ∧ budgetPorts latencyCmd.d = [0, 47] ∧ ∀ p ∈ budgetPorts latencyCmd.d, run0.member p = false) :=
  starts_and (by decide +kernel)
theorem witness_latencyBudget_none : Starts (one run0 (cmd 0x61 12 0 [0, 0, 99])) .latencyBudget x0 0 (cmd 0x61 12 0 [0, 0, 99]) ∧
    (onlyBits (word (cmd 0x61 12 0 [0, 0, 99]).d 3) 0xFFFF = true ∧ budgetPorts (cmd 0x61 12 0 [0, 0, 99]).d = [] ∧
      ((run0.wr (F.PRT_CFG_MODE 44) 3).raise (F.PRT_CFG_BOND_MEMBER 47)).member 47 = true) := starts_and (by decide +kernel)

/-- SELFTEST of a test. -/
def testCmd (n : Nat) : Taken := cmd 0x70 8 0 [BitVec.ofNat 32 n, 0]
/-- A standby with the lamp released. -/
def freeLamp : State := linked.raise F.PAIR_STAT_MATE_ACTING
/-- PRBS for a millisecond on port 47. -/
def prbsCmd : Taken := cmd 0x70 8 0 [0x2F10, 1]
theorem witness_selftest : Starts (one run0 (testCmd 2)) .selftest x0 0 (testCmd 2) ∧
    (onlyBits (word (testCmd 2).d 2) 0x3FFF = true ∧ testOf (testCmd 2).d = 0x02 ∧ word (testCmd 2).d 3 = 0 ∧ run0.testPortOk (testCmd 2).d = true ∧
      run0.intrusive = false ∧ run0.testRunning (testOf (testCmd 2).d) = false) := starts_and (by decide +kernel)
/-- Port 47 is configured and not enabled. -/
def mode47 : State := run0.wr (F.PRT_CFG_MODE 47) 1
theorem witness_selftest_prbs : Starts (one mode47 prbsCmd) .selftest x0 0 prbsCmd ∧
    (onlyBits (word prbsCmd.d 2) 0x3FFF = true ∧ testOf prbsCmd.d = 0x10 ∧ testPort prbsCmd.d = 47 ∧ word prbsCmd.d 3 = 1 ∧
      mode47.testPortOk prbsCmd.d = true ∧ mode47.enabled 47 = false) := starts_and (by decide +kernel)
theorem witness_selftest_bad : Starts (one run0 (cmd 0x70 8 0 [2, 9])) .selftest x0 0 (cmd 0x70 8 0 [2, 9]) ∧
    (onlyBits (word (cmd 0x70 8 0 [2, 9]).d 2) 0x3FFF = true ∧ testOf (cmd 0x70 8 0 [2, 9]).d = 2 ∧ word (cmd 0x70 8 0 [2, 9]).d 3 ≠ 0) :=
  starts_and (by decide +kernel)
theorem witness_selftest_march : ∀ s ∈ [freeLamp, run0], Starts (one s (testCmd 0x11)) .selftest x0 0 (testCmd 0x11) ∧
    (onlyBits (word (testCmd 0x11).d 2) 0x3FFF = true ∧ testOf (testCmd 0x11).d = 0x11 ∧ word (testCmd 0x11).d 3 = 0 ∧ s.intrusive = false ∧
      s.testPortOk (testCmd 0x11).d = true ∧ freeLamp.released0 = true ∧ run0.released0 = false) := by
  simp only [List.forall_mem_cons, List.not_mem_nil, false_imp_iff, implies_true, and_true]
  exact ⟨starts_and (by decide +kernel), starts_and (by decide +kernel)⟩
/-- A run of a test. -/
def testRun (id test : Nat) (done : Bool) : TestRun := ⟨id, test, 0, true, 3, 4, 1, done⟩
/-- Some runs are kept. -/
def withRuns (s : State) (rs : List TestRun) : State := { s with pwr := { s.pwr with runs := rs } }
theorem witness_selftest_busy : Starts (one (withRuns run0 [testRun 7 2 false]) (testCmd 2)) .selftest x0 0 (testCmd 2) ∧
    (withRuns run0 [testRun 7 2 false]).testRunning 2 = true := starts_and (by decide +kernel)
/-- A finished scrub is kept. -/
def kept0 : State := withRuns run0 [testRun 7 2 true]
theorem witness_selftestResult : Starts (one kept0 (cmd 0x71 4 0 [7])) .selftestResult x0 0 (cmd 0x71 4 0 [7]) ∧
    (onlyBits (word (cmd 0x71 4 0 [7]).d 2) 0xFFFF = true ∧ word (cmd 0x71 4 0 [7]).d 2 ≠ 0xFFFF ∧
      ((kept0.pwr.runs.take 16).find? fun r => decide (r.id = word (cmd 0x71 4 0 [7]).d 2)) = some (testRun 7 2 true) ∧
      (kept0.pwr.runs.take 16).head? = some (testRun 7 2 true) ∧ (testRun 7 2 true).done = true) := starts_and (by decide +kernel)
theorem witness_selftestResult_none : Starts (one (withRuns run0 [testRun 7 2 false]) (cmd 0x71 4 0 [7])) .selftestResult x0 0 (cmd 0x71 4 0 [7]) ∧
    (((withRuns run0 [testRun 7 2 false]).pwr.runs.take 16).find? (fun r => decide (r.id = 7)) = some (testRun 7 2 false) ∧
      (testRun 7 2 false).done = false ∧ (run0.pwr.runs.take 16).head? = none) := starts_and (by decide +kernel)
theorem witness_SelfTests :
    ((withRuns (freed 32) [testRun 7 4 false]).testRunning 0x04 = true ∧ (withRuns (freed 32) [testRun 7 4 false]).released 6 = true) ∧
    ((withRuns (freed 64) [testRun 7 5 false]).testRunning 0x05 = true ∧ (withRuns (freed 64) [testRun 7 5 false]).released 7 = true) ∧
    (let s : State := { run0 with pwr := { run0.pwr with prbs := [(47, some 9)] } }
     Store.get (fun _ => none) s.pwr.prbs (47 : Port).val = some 9 ∧ 9 ≤ max s.now 9 ∧ s.enabled (47 : Port).val = false) ∧
    ({ run0 with pwr := { run0.pwr with march := 2 } } : State).pwr.march = 2 ∧
    (withRuns run0 [testRun 7 2 false]).runOfTest 2 = some (testRun 7 2 false) := by decide +kernel

/-! ### Witnesses: tally, management channels -/

/-- Counter 63 counts event 0x40 of port 47. -/
def counting : State := (run0.setReg 0x400402F8 (BitVec.ofNat 32 (0x40 + 47 * 256 + 2 ^ 22))).setReg 0x400404FC 0xFFFFFFFF
/-- Dumps are enabled and PERF_DUMP_NOW runs. -/
def dumping : State := (one run0 { cmd 0x91 0 0 [] with phase := .working }).raise F.TALLY_DUMP_CFG_EN
theorem witness_CountsAndDumpMarks :
    (evEn (counting.tallyEvt 63) = true ∧ evEvent (counting.tallyEvt 63) = 0x40 ∧ evMode (counting.tallyEvt 63) = 0 ∧
      evArg (counting.tallyEvt 63) = 47 ∧ 2 ^ 32 ≤ (counting.reg (0x40040400 + 4 * 63)).toNat + 1 ∧ evEn (run0.tallyEvt 63) = false) ∧
    (dumping.tally.defs = [] ∧ dumping.tally.cfg = none ∧ dumping.running .perfDumpNow = true ∧ dumping.flag F.TALLY_DUMP_CFG_EN = true ∧
      dumping.dumpRoom = true ∧ (dumping.wr F.TALLY_DUMP_PI_IDX 4096).dumpRoom = false) ∧
    (let s : State := { run0 with tally := { run0.tally with defs := [(63, (0x400001, 5))] } }
     s.tally.defs = [(63, (0x400001, 5))] ∧ s.tally.cfg = none ∧ s.running .perfDumpNow = false ∧ s.flag F.TALLY_DUMP_CFG_EN = false) := by
  decide +kernel

/-- PERF_CONFIG of counter 63. -/
def defCmd (e : W32) : Taken := cmd 0x90 24 0 [0x13F00, 0, 0, 0, e, 5]
/-- PERF_CONFIG of counter 63 with its definition in a buffer. -/
def defBufCmd : Taken := cmd 0x90 24 0 [0x13F00, 0, 0x1000, 0, 0, 0]
theorem witness_perfConfig_buffer : Starts (one run0 defBufCmd) .perfConfig (xIn (leBytes 0x500400001 8)) 0 defBufCmd ∧
    (perfParams defBufCmd.d = true ∧ perfOp defBufCmd.d = 0 ∧ word64 defBufCmd.d 4 ≠ 0 ∧ run0.addrOk .ring0 (word64 defBufCmd.d 4) 8 = true ∧
      run0.addrOk .spi (word64 defBufCmd.d 4) 8 = false ∧
      (match (one run0 defBufCmd).readBuf (word64 defBufCmd.d 4) 8 (xIn (leBytes 0x500400001 8)) with
        | .ok r => (defPairs (bytesWords r.2)).all fun q => defOk q.1.toNat
        | .error _ => false) = true ∧ okB ((one run0 defBufCmd).readBuf (word64 defBufCmd.d 4) 8 x0) = false) := starts_and (by decide +kernel)
/-- PERF_CONFIG of dumps to a ring at `base`. -/
def dumpCmd (en base : W32) : Taken := cmd 0x90 24 0 [1, 0x10004 + en, base, 0, 0, 0]
theorem witness_perfConfig : Starts (one run0 (defCmd 0x400001)) .perfConfig x0 0 (defCmd 0x400001) ∧
    (perfParams (defCmd 0x400001).d = true ∧ perfOp (defCmd 0x400001).d = 0 ∧ word64 (defCmd 0x400001).d 4 = 0 ∧
      defOk ((defCmd 0x400001).d.getD 6 0).toNat = true ∧ defOk ((defCmd 0x4000FF).d.getD 6 0).toNat = false ∧
      perfParams (cmd 0x90 24 0 [2]).d = false) := starts_and (by decide +kernel)
theorem witness_perfConfig_dumps : Starts (one run0 (dumpCmd 1 0x1000)) .perfConfig x0 0 (dumpCmd 1 0x1000) ∧
    (perfParams (dumpCmd 1 0x1000).d = true ∧ perfOp (dumpCmd 1 0x1000).d = 1 ∧ bitOf (word (dumpCmd 1 0x1000).d 3) 0 = true ∧
      run0.addrOk .ring0 (word64 (dumpCmd 1 0x1000).d 4) (1024 * 2 ^ bits (word (dumpCmd 1 0x1000).d 3) 1 4) = true ∧
      run0.flag F.TALLY_DUMP_CFG_EN = false ∧ run0.stopPending = false ∧ perfParams (dumpCmd 0 0).d = true) := starts_and (by decide +kernel)
theorem witness_perfDumpNow : Starts (one (run0.raise F.TALLY_DUMP_CFG_EN) (cmd 0x91 0 0 [])) .perfDumpNow x0 0 (cmd 0x91 0 0 []) ∧
    ((run0.raise F.TALLY_DUMP_CFG_EN).flag F.TALLY_DUMP_CFG_EN = true ∧ (run0.raise F.TALLY_DUMP_CFG_EN).stopPending = false ∧
      run0.flag F.TALLY_DUMP_CFG_EN = false) := starts_and (by decide +kernel)
/-- A PERF_CONFIG whose outcome is due. -/
def dueCmd : Taken := { defCmd 0x400001 with phase := .working, done := some (.ok, [3]) }
theorem witness_perfDefinitionChange :
    (one run0 dueCmd).mbx.taken.findIdx? (fun k => decide (opcode k.d = Opc.perfConfig.row.code) && k.done.isSome && !k.lost) = some 0 ∧
    (one run0 dueCmd).mbx.taken[0]? = some dueCmd ∧ dueCmd.done = some (.ok, [3]) ∧ open0.barred 0 = false := by decide +kernel
/-- A dump is in flight. -/
def flying (s : State) : State := { s with tally := { s.tally with flight := some ⟨List.replicate 1024 0, [], [], []⟩ } }
theorem witness_dumpWriteDone : (flying run0).tally.flight = some ⟨List.replicate 1024 0, [], [], []⟩ ∧
    secondForm ((flying run0).dumpSlot ((flying run0).rd F.TALLY_DUMP_PI_IDX)) = false ∧
    (let s := (run0.wr F.TALLY_BASE_HI_ADDR 0x80000000).wr F.TALLY_BASE_LO_ADDR 0x10000000
     secondForm (s.dumpSlot (s.rd F.TALLY_DUMP_PI_IDX)) = true ∧ s.addrOk .ring0 (s.dumpSlot (s.rd F.TALLY_DUMP_PI_IDX)) 1024 = false) := by
  decide +kernel

/-- MDC_ROUTE of channel 255: ZMDC 3 of port 47 to destination `dest`, slot 63. -/
def routeCmd (dest : Nat) : Taken :=
  cmd 0xA0 24 0 [BitVec.ofNat 32 (255 + 47 * 256 + 5 * 65536 + dest * 2 ^ 20 + 63 * 2 ^ 24), 12, 0x1000, 0, 0x2000, 0]
/-- Port 47 is a Ziuth port. -/
def ziuth47 : State := run0.wr (F.PRT_CFG_MODE 47) 1
theorem witness_mdcRoute : Starts (one ziuth47 (routeCmd 1)) .mdcRoute x0 0 (routeCmd 1) ∧
    (routeOk .ring0 (one ziuth47 (routeCmd 1)) (routeCmd 1).d = true ∧ (routeOf (routeCmd 1).d).dest = 1 ∧
      routeOk .spi (one ziuth47 (routeCmd 1)) (routeCmd 1).d = false) := starts_and (by decide +kernel)
theorem witness_mdcRoute_remove : Starts (one ziuth47 (routeCmd 0)) .mdcRoute x0 0 (routeCmd 0) ∧
    (routeOk .ring0 (one ziuth47 (routeCmd 0)) (routeCmd 0).d = true ∧ (routeOf (routeCmd 0).d).dest = 0) := starts_and (by decide +kernel)
/-- Eleven channels of 32 bytes on serial port 0 at its slowest clock, which takes 379 bytes (R194). -/
def fullSerial : State :=
  let s := ziuth47.wr F.MDC_CTRL_DIV0 2
  { s with mdc := { s.mdc with routes := (List.range 11).map fun k => (k, ⟨BitVec.ofNat 32 (k * 256 + 2 * 65536 + 2 * 2 ^ 20 + k * 2 ^ 24), 0, 0, 0⟩) } }
theorem witness_mdcRoute_full : Starts (one fullSerial (routeCmd 2)) .mdcRoute x0 0 (routeCmd 2) ∧
    (routeOk .ring0 (one fullSerial (routeCmd 2)) (routeCmd 2).d = true ∧ fullSerial.addRoute (routeCmd 2).d = none) := starts_and (by decide +kernel)
theorem witness_mdcStatus : Starts (one run0 (cmd 0xA1 4 0 [255])) .mdcStatus x0 0 (cmd 0xA1 4 0 [255]) ∧
    onlyBits (word (cmd 0xA1 4 0 [255]).d 2) 0xFF = true := starts_and (by decide +kernel)
/-- Channel 255 is slot 63 of serial port 1, which is enabled. -/
def route1 : Nat × Route := (255, ⟨BitVec.ofNat 32 (47 * 256 + 5 * 65536 + 3 * 2 ^ 20 + 63 * 2 ^ 24), 0, 0, 0⟩)
def serial1 : State :=
  let s := (port 47 1).raise F.MDC_CTRL_EN1
  { s with mdc := { s.mdc with layOld := [route1] } }
theorem witness_ManagementChannels : open0.barred 0 = false ∧ State.reset.barred 0 = true ∧ serial1.serialEn (b2n true) = true ∧
    serial1.serialEn (b2n false) = false ∧ slotRoutes serial1.mdc.layOld (b2n true) = [route1] ∧
    (List.replicate 16 false).take 16 ≠ ([0xE4, 0xB2] : List W8).flatMap byteBits ∧
    (let f := ([0xE4, 0xB2] : List W8).flatMap byteBits ++ List.replicate 328 false
     f.take 16 = ([0xE4, 0xB2] : List W8).flatMap byteBits ∧ 88 + 8 * slotBytes serial1.mdc.layOld (b2n true) ≤ f.length) := by decide +kernel
theorem witness_StartedCommandIsAnswered : opcodeRow (.echo x0) = some (.echo, x0) ∧
    Starts (one run0 (cmd 0x01 8 0 [5, 6])) .echo x0 0 (cmd 0x01 8 0 [5, 6]) := ⟨rfl, witness_EchoReturnsParameters⟩

/-! ### Witnesses: an image that authenticates -/

/-- The header, key and signature (352 bytes) of an image whose body is empty, signed for this test. -/
def signedParts : List (Nat × Nat) := [
  (0x494648540100000002000100030000000004000000000000010001000100000038b060a751ac96384cd9327eb1b1e36a, 48),
  (0x21fdb71114be07434c0cc7bf63f6e1da274edebfe76f65fbd51ad2f14898b95b00000000000000000000000000000000, 48),
  (0x0000000000000000000000000000000000000000000000000000000000000000047ae9e1db1160794c70c1ef071be519, 48),
  (0x1f6c66240f4608fbe8a44ecd36c3ed5db97500f2e4d84e3fb45850fd6f4303302bd8ac21444cd80d241538d8034b399a, 48),
  (0x0dee3636eb5cb00b9499d061a571db0f14bb47ed79453948ed63f3a6ccbbf6e74f000000000000000000000000000000, 48),
  (0x000000000000000000000000000000008568a35a879b0d506132993c6d911d3136a731409ab8c5d26fd7a01e81425281, 48),
  (0x453a6c6adf4cd2f38c77a5042815ea48c174d75485d4c3af45ff1838c6bcb2399583764c96a7c8d53c7e2b838bfbe2c6, 48),
  (0xa437d2cdd83caf163d66ae9170bc57780000000000000000000000000000000000000000000000000000000000000000, 48)]
def signed : List W8 := signedParts.flatMap fun x => beBytes x.1 x.2
/-- The digest of its key, as the fuse registers hold it. -/
def keyWords : List W32 := [
  0x6592FFF8, 0x2407FA84, 0xE978D875, 0xA4B099F4, 0x946914D7, 0x8BD948B1,
  0xB860C77E, 0x6714CBE4, 0xECAC5E53, 0x2F07AEF9, 0xCCDC793B, 0xC3B57D27]
/-- The image stands in slot 1, and its key's digest in the fuses; an activation copies it. -/
def copying : State :=
  let s := putMram (actIn run0 .copy false) (imgBase 1) signed
  { s with regs := s.regs ++ keyWords.zipIdx.map fun x => (0x40220010 + 4 * x.2, x.1) }
theorem witness_imageCopied : copying.boot.act.phase = .copy ∧ copying.flag F.MBX_STATUS_FW_RUN = true ∧ copying.recovery = false ∧
    copying.authReason copying.boot.act.slot = none := by decide +kernel
theorem witness_imageCopied_other :
    (putMram copying (imgBase 0) (List.replicate 20 0)).authReason 0 = some 1 ∧ (copying.wr F.BOOT_STATUS_PHASE 4).recovery = true ∧
    (copying.wr F.BOOT_STATUS_PHASE 4).boot.act.phase = .copy ∧ (copying.wr F.BOOT_STATUS_PHASE 4).flag F.MBX_STATUS_FW_RUN = true := by
  decide +kernel

/-! ### Results from outside the model -/

/-- SHA-384 of "abc": the example of FIPS 180-4 (R349 names the hash). -/
theorem test_sha384_abc : sha384 [0x61, 0x62, 0x63] =
    [0xCB, 0x00, 0x75, 0x3F, 0x45, 0xA3, 0x5E, 0x8B, 0xB5, 0xA0, 0x3D, 0x69, 0x9A, 0xC6, 0x50, 0x07, 0x27, 0x2C, 0x32, 0xAB, 0x0E, 0xDE, 0xD1, 0x63,
      0x1A, 0x8B, 0x60, 0x5A, 0x43, 0xFF, 0x5B, 0xED, 0x80, 0x86, 0x07, 0x2B, 0xA1, 0xE7, 0xCC, 0x23, 0x58, 0xBA, 0xEC, 0xA1, 0x34, 0xC8, 0x25, 0xA7] := by decide +kernel

/-- The check value of CRC-32, over "123456789" (R176 names the CRC). -/
theorem test_crc32_check : crc32 [0x31, 0x32, 0x33, 0x34, 0x35, 0x36, 0x37, 0x38, 0x39] = 0xCBF43926 := by decide +kernel

/-- R40: frame 0 is one frame after frame 65,535. -/
theorem test_frame_wraps : fnDist 0 65535 = 1 ∧ fnFuture 0 65535 = true ∧ fnFuture 65535 0 = false := by decide

/-- R302: a second reader is told who holds the semaphore. -/
theorem test_semaphore_held : (match exec (.semAcqRead 2 4 5) (State.reset.setHolder 5 (some 3)) with
    | .next u => decide (u.holder 5 = some 3) && decide (u.mtx.rdData = 50)
    | _ => false) = true := by decide +kernel

/-- R273: a reply to the SPI slot goes into the reply FIFO. -/
theorem test_echo_spi : (match exec (.echo { x0 with src := .spi }) (one run0 { cmd 0x01 8 0 [5, 6] with src := .spi }) with
    | .next s => s.mbx.taken.isEmpty && decide (s.mbx.spiFifo.length = 1)
    | _ => false) = true := by decide +kernel

end Sys2Proof.Tests
end

section
/-! Proofs: what every command and every step of the device keeps (O3, O4). -/
namespace Sys2Proof.Machine

/-- Every command answers a next state that follows the state it runs on: one law per command, in the order of the dispatch. -/
theorem exec_follows {z s : State} (h : Follows z s) (i : Instr) : ResFollows z (exec i s) := by
  unfold exec
  cases i with
  | echo => exact execEcho_follows h
  | getInfo => exact execGetInfo_follows h
  | portConfigure => exact execPortConfigure_follows h
  | portEnable => exact execPortEnable_follows h
  | portDisable => exact execPortDisable_follows h
  | portStatus => exact execPortStatus_follows h
  | mapWriteRange => exact execMapWriteRange_follows h
  | mapCommit => exact execMapCommit_follows h
  | mapReadback => exact execMapReadback_follows h
  | mapCheck => exact execMapCheck_follows h
  | mapSnapshot => exact execMapSnapshot_follows h
  | selWrite => exact execSelWrite_follows h
  | selCommand => exact execSelCommand_follows h
  | selStatus => exact execSelStatus_follows h
  | monConfigure => exact execMonConfigure_follows h
  | timingConfigure => exact execTimingConfigure_follows h
  | timingRealign => exact execTimingRealign_follows h
  | timingStatus => exact execTimingStatus_follows h
  | pairConfigure => exact execPairConfigure_follows h
  | pairSwap => exact execPairSwap_follows h
  | pairStatus => exact execPairStatus_follows h
  | powerBudget => exact execPowerBudget_follows h
  | latencyBudget => exact execLatencyBudget_follows h
  | selftest => exact execSelftest_follows h
  | selftestResult => exact execSelftestResult_follows h
  | fwStage => exact execFwStage_follows h
  | fwActivate => exact execFwActivate_follows h
  | fwConfirm => exact execFwConfirm_follows h
  | fwAbort => exact execFwAbort_follows h
  | perfConfig => exact execPerfConfig_follows h
  | perfDumpNow => exact execPerfDumpNow_follows h
  | mdcRoute => exact execMdcRoute_follows h
  | mdcStatus => exact execMdcStatus_follows h
  | settingsSave => exact execSettingsSave_follows h
  | settingsRestore => exact execSettingsRestore_follows h
  | poll => exact execPoll_follows h
  | grant => exact execGrant_follows h
  | renew => exact execRenew_follows h
  | revoke => exact execRevoke_follows h
  | handover => exact execHandover_follows h
  | arbAbort => exact execArbAbort_follows h
  | spiStatus => exact execSpiStatus_follows h
  | cmdWrite => exact execCmdWrite_follows h
  | rplRead => exact execRplRead_follows h
  | memWrite => exact execMemWrite_follows h
  | memRead => exact execMemRead_follows h
  | i2cWrite => exact execI2cWrite_follows h
  | i2cRead => exact execI2cRead_follows h
  | fuseDbg => exact execFuseDbg_follows h
  | jtagInstruction => exact execJtagInstruction_follows h
  | genConstWrite => exact execGenConstWrite_follows h
  | constHold => exact execConstHold_follows h
  | prbsRestart => exact execPrbsRestart_follows h
  | prtIdleWrite => exact execPrtIdleWrite_follows h
  | rearm => exact execRearm_follows h
  | lineSelWrite => exact execLineSelWrite_follows h
  | apsTxWrite => exact execApsTxWrite_follows h
  | h2dNoticeWrite => exact execH2dNoticeWrite_follows h
  | h2dNoticePost => exact execH2dNoticePost_follows h
  | d2hNoticeTake => exact execD2hNoticeTake_follows h
  | ringEnable => exact execRingEnable_follows h
  | ringDisable => exact execRingDisable_follows h
  | rplCiWrite => exact execRplCiWrite_follows h
  | mdcRdWrite => exact execMdcRdWrite_follows h
  | mdcWrWrite => exact execMdcWrWrite_follows h
  | tallyDumpCiWrite => exact execTallyDumpCiWrite_follows h
  | semAcqRead => exact execSemAcqRead_follows h
  | semAcqWrite => exact execSemAcqWrite_follows h
  | scrOwnWrite => exact execScrOwnWrite_follows h
  | scrOwnHandoverDone => exact execScrOwnHandoverDone_follows h
  | remapWrite => exact execRemapWrite_follows h
  | lockSet => exact execLockSet_follows h
  | mtxRotWrite => exact execMtxRotWrite_follows h
  | registerWrite => exact execRegisterWrite_follows h
  | readClear => exact execReadClear_follows h
  | defaultTargetError => exact execDefaultTargetError_follows h
  | mapWindowWrite => exact execMapWindowWrite_follows h
  | selectorWindowWrite => exact execSelectorWindowWrite_follows h
  | porNLow => exact execPorNLow_follows h
  | supplyMonitorTrip => exact execSupplyMonitorTrip_follows h
  | bootSequence => exact execBootSequence_follows h
  | bootWatchdog => exact execBootWatchdog_follows h
  | failcntClear => exact execFailcntClear_follows h
  | hostReset => exact execHostReset_follows h
  | perstNRise => exact execPerstNRise_follows h
  | firmwareReset => exact execFirmwareReset_follows h
  | firmwareRestart => exact execFirmwareRestart_follows h
  | frameMark => exact execFrameMark_follows h
  | grainStart => exact execGrainStart_follows h
  | grainComplete => exact execGrainComplete_follows h
  | grainLate => exact execGrainLate_follows h
  | positionTake => exact execPositionTake_follows h
  | inputWriteStart => exact execInputWriteStart_follows h
  | candleRecordClose => exact execCandleRecordClose_follows h
  | mapCheckDone => exact execMapCheckDone_follows h
  | mapCommitArm => exact execMapCommitArm_follows h
  | commitDeadline => exact execCommitDeadline_follows h
  | mapSwap => exact execMapSwap_follows h
  | copyForwardDone => exact execCopyForwardDone_follows h
  | mapSnapshotDone => exact execMapSnapshotDone_follows h
  | bankRotationStep => exact execBankRotationStep_follows h
  | bankMove => exact execBankMove_follows h
  | marchTestDone => exact execMarchTestDone_follows h
  | holdoffExpiry => exact execHoldoffExpiry_follows h
  | wtrExpiry => exact execWtrExpiry_follows h
  | cdrLockChange => exact execCdrLockChange_follows h
  | candidateMatch => exact execCandidateMatch_follows h
  | candidateVerify => exact execCandidateVerify_follows h
  | ziuthFrameRx => exact execZiuthFrameRx_follows h
  | sonetFrameRx => exact execSonetFrameRx_follows h
  | otnFrameRx => exact execOtnFrameRx_follows h
  | lofTimer => exact execLofTimer_follows h
  | losTimer => exact execLosTimer_follows h
  | rdiHoldExpiry => exact execRdiHoldExpiry_follows h
  | pllLock => exact execPllLock_follows h
  | portDisableDone => exact execPortDisableDone_follows h
  | depthEvaluation => exact execDepthEvaluation_follows h
  | portDeepen => exact execPortDeepen_follows h
  | portWakeDone => exact execPortWakeDone_follows h
  | mdcDiFrame => exact execMdcDiFrame_follows h
  | mateFrameRx => exact execMateFrameRx_follows h
  | mateLaneDrop => exact execMateLaneDrop_follows h
  | heartbeatRecord => exact execHeartbeatRecord_follows h
  | stopRecord => exact execStopRecord_follows h
  | handoverRecord => exact execHandoverRecord_follows h
  | mapEntries => exact execMapEntries_follows h
  | commitArm => exact execCommitArm_follows h
  | commitCancel => exact execCommitCancel_follows h
  | selState => exact execSelState_follows h
  | historyRecord => exact execHistoryRecord_follows h
  | settingsRecord => exact execSettingsRecord_follows h
  | resyncBegin => exact execResyncBegin_follows h
  | resyncData => exact execResyncData_follows h
  | resyncEnd => exact execResyncEnd_follows h
  | resyncReq => exact execResyncReq_follows h
  | resyncStart => exact execResyncStart_follows h
  | resyncSwap => exact execResyncSwap_follows h
  | mirroredSwap => exact execMirroredSwap_follows h
  | leaseExpiry => exact execLeaseExpiry_follows h
  | guardEnd => exact execGuardEnd_follows h
  | drillTimer => exact execDrillTimer_follows h
  | handoverMark => exact execHandoverMark_follows h
  | newHolderActs => exact execNewHolderActs_follows h
  | handoverLapse => exact execHandoverLapse_follows h
  | oldHolderTxIdle => exact execOldHolderTxIdle_follows h
  | pairSwapTimeout => exact execPairSwapTimeout_follows h
  | refLoss => exact execRefLoss_follows h
  | monitorWindowEnd => exact execMonitorWindowEnd_follows h
  | refWtrExpiry => exact execRefWtrExpiry_follows h
  | selection => exact execSelection_follows h
  | acquireTimeout => exact execAcquireTimeout_follows h
  | timingHoldoffEnd => exact execTimingHoldoffEnd_follows h
  | verificationComplete => exact execVerificationComplete_follows h
  | switchCommit => exact execSwitchCommit_follows h
  | realignPulse => exact execRealignPulse_follows h
  | realignTimeout => exact execRealignTimeout_follows h
  | avsReadback => exact execAvsReadback_follows h
  | powerEstimate => exact execPowerEstimate_follows h
  | scrubUnit => exact execScrubUnit_follows h
  | spotCheck => exact execSpotCheck_follows h
  | eyeScanDone => exact execEyeScanDone_follows h
  | mramCheckDone => exact execMramCheckDone_follows h
  | lanePrbsEnd => exact execLanePrbsEnd_follows h
  | stackMarchDone => exact execStackMarchDone_follows h
  | h2dNoticeTake => exact execH2dNoticeTake_follows h
  | descriptorTake => exact execDescriptorTake_follows h
  | noticeTimeout => exact execNoticeTimeout_follows h
  | dumpWriteDone => exact execDumpWriteDone_follows h
  | dumpErrorStop => exact execDumpErrorStop_follows h
  | perfDefinitionChange => exact execPerfDefinitionChange_follows h
  | stagingTimeout => exact execStagingTimeout_follows h
  | fwHandoverMark => exact execFwHandoverMark_follows h
  | fwDrainLimit => exact execFwDrainLimit_follows h
  | fwRevert => exact execFwRevert_follows h
  | trialExpiry => exact execTrialExpiry_follows h
  | pllUnlock => exact execPllUnlock_follows h
  | fwStageChunkWritten => exact execFwStageChunkWritten_follows h
  | fwImageCopied => exact execFwImageCopied_follows h
  | newFirmwareStarted => exact execNewFirmwareStarted_follows h
  | settingsWritten => exact execSettingsWritten_follows h

theorem ResFollows.exists_next {z : State} {r : Res} (h : ResFollows z r) : ∃ s', r = .next s' ∧ Follows z s' := by
  match r, h with
  | .next s', h => exact ⟨s', rfl, h⟩

theorem exec_eq_next_follows {i : Instr} {s s' : State} (e : exec i s = .next s') : Follows s s' := by
  have h := exec_follows (Follows.refl s) i
  rwa [e] at h

/-- The queue is no store: the canonical form does not depend on it. -/
theorem Canonical.setPending {s : State} (c : Canonical s) (q : List Instr) : Canonical { s with pending := q } :=
  ⟨c.regs, c.scratch, c.mram, c.history, c.selectors, c.monitors, c.page0, c.page1⟩

/-- Everything that a step can do: idle on an empty queue, or run the command at its front. -/
theorem step_cases {s s' : State} (h : step s = .next s') :
    (s.pending = [] ∧ s' = s) ∨ ∃ c rest, s.pending = c :: rest ∧ exec c { s with pending := rest } = .next s' := by
  unfold step at h
  split at h
  case h_1 hq => exact .inl ⟨hq, (Host.Outcome.next.inj h).symm⟩
  case h_2 c rest hq => exact .inr ⟨c, rest, hq, h⟩

/-- Settles O3: every command follows the state it runs on, so it keeps every canonical store. -/
theorem stepKeepsStoresCanonical : Obligations.StepKeepsStoresCanonical := by
  intro s s' hs hstep
  rcases step_cases hstep with ⟨_, rfl⟩ | ⟨c, rest, _, he⟩
  · exact hs
  · exact (exec_eq_next_follows he).canon (hs.setPending rest)

/-- Settles O4: the five parts are what `Follows` says of a command's answer. -/
theorem everyCommandCompletes : Obligations.EveryCommandCompletes := by
  intro c s
  obtain ⟨s', he, hf⟩ := (exec_follows (Follows.refl s) c).exists_next
  obtain ⟨more, hout⟩ := hf.sent
  exact ⟨s', he, hf.queue, hf.time, hf.frees, more, hout.symm⟩

end Sys2Proof.Machine
end

section
/-! Proofs: bits and flags of registers after a write, on top of the laws of the state. -/
namespace Sys2Proof.Machine

theorem bitOf_eq_testBit (x i : Nat) : bitOf x i = x.testBit i := by
  rw [bitOf, bits, Nat.testBit_eq_decide_div_mod_eq, pow_one]
  rfl

theorem bitOf_insertBits {x : W32} {lo w v i : Nat} (hi : i < 32) :
    bitOf (insertBits x lo w v).toNat i = if lo ≤ i ∧ i < lo + w then v.testBit (i - lo) else bitOf x.toNat i := by
  simp only [bitOf_eq_testBit, testBit_insertBits x lo w v i hi]

/-- A bit outside the field that was set. -/
theorem bitOf_insertBits_other {x : W32} {lo w v i : Nat} (hi : i < 32) (h : i < lo ∨ lo + w ≤ i) :
    bitOf (insertBits x lo w v).toNat i = bitOf x.toNat i := by
  rw [bitOf_insertBits hi, if_neg (by omega)]

theorem flag_wr_apart (s : State) {f g : Fld} (v : Nat) (h : f.apart g = true) : (s.wr f v).flag g = s.flag g := by
  simp only [State.flag, s.rd_wr_apart v h]

/-- A one-bit field that was just written. -/
theorem flag_wr_same (s : State) (f : Fld) (v : Nat) (h : f.lo < 32) (hw : f.w = 1) : (s.wr f v).flag f = (v % 2 == 1) := by
  rw [State.flag, s.rd_wr_same f v (by omega), hw, pow_one]

/-- `u` is `s` but for its registers. -/
def OnlyRegs (s u : State) : Prop := ∃ r, u = { s with regs := r }

theorem OnlyRegs.refl (s : State) : OnlyRegs s s := ⟨s.regs, rfl⟩

theorem OnlyRegs.setReg {s u : State} {a : Nat} {v : W32} (h : OnlyRegs s u) : OnlyRegs s (u.setReg a v) := by
  obtain ⟨r, rfl⟩ := h
  exact ⟨_, rfl⟩

theorem OnlyRegs.wr {s u : State} {f : Fld} {v : Nat} (h : OnlyRegs s u) : OnlyRegs s (u.wr f v) := h.setReg

theorem OnlyRegs.eq {s u : State} (h : OnlyRegs s u) : u = { s with regs := u.regs } := by
  obtain ⟨r, rfl⟩ := h
  rfl

end Sys2Proof.Machine
end

section
/-! Proofs: REMAP, the LOCK bits and the capture of error responses (O8). -/
namespace Sys2Proof.Machine

/-- A master that is served when a command comes is served at its tick. -/
theorem not_barred_tick {s : State} {t m : Nat} (hb : s.barred m = false) : ¬(s.tick t).barred m = true := by
  rw [barred_tick, hb]
  decide

/-- What REMAP_WRITE does for a master that is served. -/
theorem exec_remapWrite_of_served {t : Nat} {m : Master} {v : W32} {s : State} (hb : s.barred m.val = false) :
    exec (.remapWrite t m v) s =
      if ((1 ≤ m.val ∧ m.val ≤ 4) ∨ m.val = 8) ∧ s.flag F.SYS_CTRL_LOCK = false then
        .next ((s.tick t).wr F.SYS_CTRL_REMAP (bits v.toNat 0 1))
      else .next (s.tick t) :=
  if_neg (not_barred_tick hb)

/-- What LOCK_SET does for a master that is served. -/
theorem exec_lockSet_of_served {t : Nat} {m : Master} {b : LockBlk} {s : State} (hb : s.barred m.val = false) :
    exec (.lockSet t m b) s =
      if m.val = 0 ∧ (b = .sys ∨ b = .mtx) then .next (s.tick t)
      else .next ((s.tick t).wr { addr := lockBase b, lo := 31, w := 1 } 1) :=
  if_neg (not_barred_tick hb)

/-- What DEFAULT_TARGET_ERROR does for a master that is served. -/
theorem exec_defaultTargetError_of_served {t : Nat} {m : Master} {addr : W32} {write : Bool} {cause : BitVec 3} {s : State}
    (hb : s.barred m.val = false) :
    exec (.defaultTargetError t m addr write cause) s = .next ((s.tick t).busError m.val addr.toNat write cause.toNat) :=
  if_neg (not_barred_tick hb)

/-! ### REMAP and the LOCK bits -/

theorem remapWrite_takes {t : Nat} {m : Master} {v : W32} {s : State} (hb : s.barred m.val = false)
    (hm : (1 ≤ m.val ∧ m.val ≤ 4) ∨ m.val = 8) (hl : s.flag F.SYS_CTRL_LOCK = false) :
    ∃ s', exec (.remapWrite t m v) s = .next s' ∧ s'.rd F.SYS_CTRL_REMAP = bits v.toNat 0 1 ∧
      s'.flag F.SYS_CTRL_LOCK = false ∧ RegsKept s s' [0x40000000] ∧ s' = { s with now := max s.now t, regs := s'.regs } := by
  refine next_of ((exec_remapWrite_of_served hb).trans (if_pos ⟨hm, hl⟩)) ⟨?_, ?_, ?_, rfl⟩
  · rw [State.rd_wr_same _ _ _ (by decide)]
    exact Nat.mod_eq_of_lt (bits_lt ..)
  · rw [flag_wr_apart _ _ (by decide), flag_tick, hl]
  · exact kept_trans (kept_refl rfl) (kept_wr (by decide))

theorem lockSet_takes {t : Nat} {m : Master} {b : LockBlk} {s : State} (hb : s.barred m.val = false)
    (hm : ¬(m.val = 0 ∧ (b = .sys ∨ b = .mtx))) :
    ∃ s', exec (.lockSet t m b) s = .next s' ∧ bitOf (s'.reg (lockBase b)).toNat 31 = true ∧
      (∀ i, i < 31 → bitOf (s'.reg (lockBase b)).toNat i = bitOf (s.reg (lockBase b)).toNat i) ∧
      RegsKept s s' [lockBase b] ∧ s' = { s with now := max s.now t, regs := s'.regs } := by
  refine next_of ((exec_lockSet_of_served hb).trans (if_neg hm)) ⟨?_, fun i hi => ?_, ?_, rfl⟩
  · simp [reg_wr, bitOf_insertBits]
  · rw [reg_wr, if_pos rfl, bitOf_insertBits_other (by omega) (.inl hi), State.tick_reg]
  · exact kept_trans (kept_refl rfl) (kept_wr (List.mem_singleton_self _))

/-! ### Error responses (R296, R297) -/

/-- The capture changes registers only. -/
theorem logError_onlyRegs (s : State) (m addr : Nat) (write : Bool) (cause : Nat) : OnlyRegs s (s.logError m addr write cause) := by
  unfold State.logError
  split
  · exact (OnlyRegs.refl s).wr
  · exact (OnlyRegs.refl s).wr.wr.wr.wr.wr.wr

/-- Telling the master changes what was sent, the note of a posted write, and the error a read or a core sees. -/
theorem tellMaster_eq (s : State) (m : Nat) (write : Bool) :
    s.tellMaster m write = { s with
      out := (s.tellMaster m write).out
      mbx := { s.mbx with urSeen := (s.tellMaster m write).mbx.urSeen }
      mtx := { s.mtx with err := (s.tellMaster m write).mtx.err, rdBytes := (s.tellMaster m write).mtx.rdBytes } } := by
  simp only [State.tellMaster, State.postedUr]
  split_ifs <;> rfl

@[simp] theorem tellMaster_regs (s : State) (m : Nat) (write : Bool) : (s.tellMaster m write).regs = s.regs := by
  rw [tellMaster_eq]

@[simp] theorem tellMaster_reg (s : State) (m : Nat) (write : Bool) (a : Nat) : (s.tellMaster m write).reg a = s.reg a := by
  simp only [State.reg, tellMaster_regs]

@[simp] theorem tellMaster_rd (s : State) (m : Nat) (write : Bool) (f : Fld) : (s.tellMaster m write).rd f = s.rd f := by
  simp only [State.rd, tellMaster_reg]

@[simp] theorem tellMaster_flag (s : State) (m : Nat) (write : Bool) (f : Fld) : (s.tellMaster m write).flag f = s.flag f := by
  simp only [State.flag, tellMaster_rd]

/-- A posted write of the host is recorded as an Unsupported Request. -/
theorem tellMaster_posted (s : State) : (s.tellMaster 0 true).mbx.urSeen = true ∧ (s.tellMaster 0 true).mtx = s.mtx := by
  simp only [State.tellMaster, State.postedUr, and_self, if_true]
  split <;> exact ⟨rfl, rfl⟩

/-- A core, and a read of the host, learn of the error. -/
theorem tellMaster_told {s : State} {m : Nat} {write : Bool} (hm : m ≤ 4) (hw : m = 0 → write = false) :
    (s.tellMaster m write).mtx.err = true ∧ (s.tellMaster m write).mbx = s.mbx := by
  have hp : ¬(m = 0 ∧ write = true) := fun h => by simp [hw h.1] at h
  rw [State.tellMaster, if_neg hp, if_pos hm]
  exact ⟨rfl, rfl⟩

/-- The first error response while VALID is 0 is captured. -/
theorem logError_captures {s : State} {m addr cause : Nat} {write : Bool} (h : s.flag F.MTX_ERR_INFO_VALID = false)
    (hm : m < 2 ^ 4) (ha : addr < 2 ^ 32) (hc : cause < 2 ^ 3) :
    let u := s.logError m addr write cause
    u.rd F.MTX_ERR_ADDR_ADDR = addr ∧ u.rd F.MTX_ERR_INFO_MASTER = m ∧ u.flag F.MTX_ERR_INFO_WRITE = write ∧
      u.rd F.MTX_ERR_INFO_CAUSE = cause ∧ u.flag F.MTX_ERR_INFO_VALID = true ∧ u.flag F.MTX_INT_ERR = true ∧
      u.flag F.MTX_INT_RECLAIM = s.flag F.MTX_INT_RECLAIM ∧ u.flag F.MTX_INT_HANDOVER = s.flag F.MTX_INT_HANDOVER ∧
      RegsKept s u [0x40020010, 0x40020014, 0x40020020] := by
  simp only [State.logError, h, Bool.false_eq_true, if_false, State.raise]
  refine ⟨?_, ?_, ?_, ?_, ?_, ?_, ?_, ?_, ?_⟩
  · simp (disch := decide) only [State.rd_wr_apart, State.rd_wr_same]
    exact Nat.mod_eq_of_lt ha
  · simp (disch := decide) only [State.rd_wr_apart, State.rd_wr_same]
    exact Nat.mod_eq_of_lt hm
  · simp (disch := decide) only [flag_wr_apart, flag_wr_same]
    cases write <;> rfl
  · simp (disch := decide) only [State.rd_wr_apart, State.rd_wr_same]
    exact Nat.mod_eq_of_lt hc
  · simp (disch := decide) only [flag_wr_apart, flag_wr_same]
    rfl
  · simp (disch := decide) only [flag_wr_same]
    rfl
  · simp (disch := decide) only [flag_wr_apart]
  · simp (disch := decide) only [flag_wr_apart]
  · iterate 5 refine kept_trans ?_ (kept_wr (by decide))
    exact kept_wr (by decide)

/-- A later error response is counted and leaves the capture alone. -/
theorem logError_counts {s : State} {m addr cause : Nat} {write : Bool} (h : s.flag F.MTX_ERR_INFO_VALID = true) :
    let u := s.logError m addr write cause
    u.rd F.MTX_ERR_CNT_COUNT = min (2 ^ 32 - 1) (s.rd F.MTX_ERR_CNT_COUNT + 1) ∧ RegsKept s u [0x40020018] := by
  simp only [State.logError, h, if_true, State.inc]
  refine ⟨?_, kept_wr (by decide)⟩
  rw [State.rd_wr_same _ _ _ (by decide)]
  exact Nat.mod_eq_of_lt (show min (2 ^ 32 - 1) _ < 2 ^ 32 by omega)

/-- Settles O8: REMAP and LOCK by who writes them, the error responses by `logError` and `tellMaster`. -/
theorem remapLockAndErrorCapture : Obligations.RemapLockAndErrorCapture := by
  refine ⟨fun t m v b s hb => ⟨remapWrite_takes hb, fun hm => ?_, lockSet_takes hb, fun hm hlk => ?_⟩, fun t m addr write cause s hb => ?_⟩
  · exact (exec_remapWrite_of_served hb).trans (if_neg hm)
  · exact (exec_lockSet_of_served hb).trans (if_pos ⟨hm, hlk⟩)
  · have hlog := (logError_onlyRegs (s.tick t) m.val addr.toNat write cause.toNat).eq
    refine next_of (exec_defaultTargetError_of_served hb) ⟨fun hv => ?_, fun hv => ?_, fun hm hw => ?_, fun hm hw => ?_, ?_⟩
    · have hcap := logError_captures (s := s.tick t) (m := m.val) (write := write) hv (by omega) addr.isLt cause.isLt
      simpa only [State.busError, tellMaster_rd, tellMaster_flag, RegsKept, tellMaster_reg, State.tick_reg, flag_tick] using hcap
    · have hcnt := logError_counts (s := s.tick t) (m := m.val) (addr := addr.toNat) (cause := cause.toNat) (write := write) hv
      simpa only [State.busError, tellMaster_rd, RegsKept, tellMaster_reg, State.tick_reg, State.tick_rd] using hcnt
    · rw [State.busError, hm, hw]
      obtain ⟨hur, hmtx⟩ := tellMaster_posted ((s.tick t).logError 0 addr.toNat true cause.toNat)
      exact ⟨hur, hmtx.trans (by rw [(logError_onlyRegs ..).eq]; rfl)⟩
    · obtain ⟨herr, hmbx⟩ := tellMaster_told (s := (s.tick t).logError m.val addr.toNat write cause.toNat) hm hw
      exact ⟨herr, hmbx.trans (by rw [hlog]; rfl)⟩
    · rw [State.busError, tellMaster_eq, hlog]
      rfl

end Sys2Proof.Machine
end

section
/-! Proofs: bursts that lie in one line, and the register blocks from PWR to PAIR as every master reaches them (R284, R285, R288). -/
namespace Sys2Proof.Machine

theorem ofLe_leBytes (n k : Nat) : ofLe (leBytes n k) = n % 2 ^ (8 * k) := by
  induction k generalizing n with
  | zero => simp [leBytes, ofLe, Nat.mod_one]
  | succ k ih =>
    have hsplit : 2 ^ (8 * (k + 1)) = 256 * 2 ^ (8 * k) := by rw [Nat.mul_succ, Nat.pow_add, Nat.mul_comm]
    rw [leBytes, ofLe, ih, BitVec.toNat_ofNat, hsplit, Nat.mod_mul]

@[simp] theorem length_leBytes (n k : Nat) : (leBytes n k).length = k := by
  induction k generalizing n with
  | zero => rfl
  | succ k ih => rw [leBytes, List.length_cons, ih]

theorem ofNat_ofLe_leBytes (v : W32) : BitVec.ofNat 32 (ofLe (leBytes v.toNat 4)) = v := by
  rw [ofLe_leBytes, Nat.mod_eq_of_lt (show v.toNat < 2 ^ (8 * 4) from v.isLt), BitVec.ofNat_toNat, BitVec.setWidth_eq]

/-- The word that four little-endian bytes with all byte enables spell. -/
theorem beWord_leBytes (v : W32) : beWord ((leBytes v.toNat 4).map some) = v := by
  have hid : (fun b : Option W8 => b.getD 0) ∘ some = id := rfl
  rw [beWord, List.map_map, hid, List.map_id, ofNat_ofLe_leBytes]

theorem burstsOf_single {α : Type} {a : Nat} {bs : List α} (hne : bs ≠ []) (h : a % 128 + bs.length ≤ 128) :
    burstsOf a bs = [(a, bs)] := by
  simp only [burstsOf, bursts, List.isEmpty_iff, hne, if_false,
    List.take_of_length_le (show bs.length ≤ 128 - a % 128 by omega),
    List.drop_of_length_le (show bs.length ≤ 128 - a % 128 by omega), if_true]

theorem busWrite_single {s : State} {m : Master} {a : Nat} {bs : List (Option W8)} (hne : bs ≠ []) (h : a % 128 + bs.length ≤ 128) :
    s.busWrite m a bs = match s.writeBurst m a bs with
      | .ok s => s
      | .error c => s.busError m a true c := by
  rw [State.busWrite, burstsOf_single hne h]
  rfl

theorem busRead_single {s : State} {m a : Nat} {be : List Bool} (hne : be ≠ []) (h : a % 128 + be.length ≤ 128) :
    s.busRead m a be = match s.readBurst m a be with
      | .ok r => (r.1, some r.2)
      | .error c => (s.busError m a false c, none) := by
  rw [State.busRead, burstsOf_single hne h]
  rfl

section
variable {a : Nat} (hlo : 0x40030000 ≤ a) (hhi : a < 0x40070000)
include hlo hhi

/-- Every master is served in the register blocks from PWR to PAIR. -/
theorem refusal_middleBlocks (s : State) (m : Nat) (w : Bool) : s.refusal m a w = none := by
  have above : ∀ lo hi, hi < a → (decide (lo ≤ a) && decide (a ≤ hi)) = false := fun lo hi h => by simp [Nat.not_le.2 h]
  have below : ∀ lo hi, a < lo → (decide (lo ≤ a) && decide (a ≤ hi)) = false := fun lo hi h => by simp [Nat.not_le.2 h]
  have hblk : inBlocks a = true := by simp only [inBlocks, Bool.or_eq_true, Bool.and_eq_true, decide_eq_true_eq]; omega
  simp only [State.refusal, above 0 0x1FFFF (by omega), above 0x10000000 0x101FFFFF (by omega), above 0x18000000 0x181FFFFF (by omega),
    above 0x20000000 0x21FFFFFF (by omega), below 0x80000000 0x8FFFFFFF (by omega), above 0x40008000 0x4000FFFF (by omega),
    below 0x40210000 0x4021FFFF (by omega), below 0x40220000 0x40220FFF (by omega), hblk, Bool.or_self, Bool.false_eq_true, and_false,
    if_false, if_true]

theorem denied_middleBlocks (s : State) (m : Nat) (w : Bool) (h4 : a % 4 = 0) : s.denied m a [true, true, true, true] w = none := by
  rw [State.denied, if_neg (by simp [h4]), refusal_middleBlocks hlo hhi]

theorem scrOffset_middleBlocks : scrOffset a = none := by
  simp only [scrOffset, if_neg (show ¬a < 0x20000 by omega), if_neg (show ¬(0x10000000 ≤ a ∧ a < 0x10200000) by omega),
    if_neg (show ¬(0x18000000 ≤ a ∧ a < 0x18200000) by omega)]

/-- A write of a whole word is a register write. -/
theorem busWrite_middleBlocks (s : State) (m : Master) (v : W32) (h4 : a % 4 = 0) :
    s.busWrite m a ((leBytes v.toNat 4).map some) = s.regWrite m a v := by
  have hbe : ((leBytes v.toNat 4).map some).map Option.isSome = [true, true, true, true] := rfl
  have hlen : ((leBytes v.toNat 4).map some).length = 4 := rfl
  rw [busWrite_single (List.ne_nil_of_length_pos (by rw [hlen]; decide)) (by omega)]
  simp only [State.writeBurst, hbe, denied_middleBlocks hlo hhi s m true h4, scrOffset_middleBlocks hlo hhi,
    if_neg (show ¬0x80000000 ≤ a by omega), beWord_leBytes]

/-- A read of a whole word is a register read. -/
theorem busRead_middleBlocks (s : State) (m : Nat) (h4 : a % 4 = 0) :
    s.busRead m a [true, true, true, true] = ((s.regRead m a).1, some (s.regRead m a).2) := by
  rw [busRead_single (by simp) (by show _ + 4 ≤ _; omega)]
  simp only [State.readBurst, denied_middleBlocks hlo hhi s m false h4, scrOffset_middleBlocks hlo hhi,
    if_neg (show ¬(0x20000000 ≤ a ∧ a < 0x22000000) by omega), if_neg (show ¬0x80000000 ≤ a by omega)]

/-- In these blocks a write follows the access codes, but for the range-checked PWR_SCRUB. -/
theorem regStore_middleBlocks (s : State) (m : Master) (v : W32) (h : a ≠ 0x40030014) : s.regStore m a v = s.plainWrite a v := by
  unfold State.regStore
  simp (disch := omega) only [if_neg]

/-- The registers of these blocks have one copy. -/
theorem regKey_middleBlocks (s : State) : s.regKey a = a := by
  rw [State.regKey, if_neg (by omega)]

/-- A read of a register of these blocks refreshes the registers that follow the time, then clears the RC fields. -/
theorem regRead_middleBlocks (s : State) (m : Nat) :
    s.regRead m a = (s.timeRegs.readClear a, leBytes (s.timeRegs.readWord a).toNat 4) := by
  have hst : unstated m a = false := by
    simp only [unstated, Bool.or_eq_false_iff, Bool.and_eq_false_iff, decide_eq_false_iff_not]
    omega
  simp only [State.regRead, if_neg (show ¬(0x400A0000 ≤ a ∧ a < 0x400A0080) by omega), hst, Bool.false_eq_true, if_false,
    regKey_middleBlocks hlo hhi]

end

end Sys2Proof.Machine
end

section
/-! Proofs: what a write and a read of a register do to its fields (O13; R10, R11). -/
namespace Sys2Proof.Machine

/-! ### The fields of a register do not overlap -/

/-- The fields of a row, in rising order and inside the word. -/
def FieldsApart (fs : List FieldRow) : Prop :=
  (fs.Pairwise fun f g => f.lo + f.w ≤ g.lo) ∧ ∀ f ∈ fs, f.lo + f.w ≤ 32

theorem fieldsApart_of_blocks : ∀ b ∈ RegTable.blocks, ∀ r ∈ b.2.2, FieldsApart r.fields := by
  unfold FieldsApart
  decide +kernel

/-- The row that is found at an address stands in a table of the register blocks. -/
theorem find_mem_blocks {a base : Nat} {r : RegRow} (h : RegTable.find a = some (base, r)) : ∃ b ∈ RegTable.blocks, r ∈ b.2.2 := by
  simp only [RegTable.find] at h
  split at h
  case h_1 => cases h
  case h_2 b0 size rows hb =>
    obtain ⟨r', hr, he⟩ := Option.map_eq_some_iff.1 h
    obtain ⟨_, rfl⟩ := Prod.mk.inj he
    exact ⟨_, List.mem_of_find?_eq_some hb, List.mem_of_find?_eq_some hr⟩

theorem fieldsApart_of_find {a base : Nat} {r : RegRow} (h : RegTable.find a = some (base, r)) : FieldsApart r.fields := by
  obtain ⟨b, hb, hr⟩ := find_mem_blocks h
  exact fieldsApart_of_blocks b hb r hr

/-! ### One pass over the fields of a register -/

theorem bits_congr {x y lo w : Nat} (h : ∀ i, lo ≤ i → i < lo + w → bitOf x i = bitOf y i) : bits x lo w = bits y lo w := by
  apply Nat.eq_of_testBit_eq
  intro i
  rw [testBit_bits, testBit_bits]
  by_cases hi : i < w
  · simpa [hi, bitOf_eq_testBit] using h (lo + i) (by omega) (by omega)
  · simp [hi]

/-- `g` gives the field it is told the value `val` of its old one, and touches no other bit. -/
structure FieldStep (g : W32 → FieldRow → W32) (val : FieldRow → Nat → Nat) : Prop where
  same : ∀ x f, f.lo + f.w ≤ 32 → bits (g x f).toNat f.lo f.w = val f (bits x.toNat f.lo f.w)
  other : ∀ x f i, i < 32 → (i < f.lo ∨ f.lo + f.w ≤ i) → bitOf (g x f).toNat i = bitOf x.toNat i

/-- A pass over all fields leaves reserved bits alone. -/
theorem FieldStep.bitOf_foldl {g : W32 → FieldRow → W32} {val : FieldRow → Nat → Nat} (hg : FieldStep g val) {fs : List FieldRow} {x : W32}
    {i : Nat} (hi : i < 32) (h : ∀ f ∈ fs, i < f.lo ∨ f.lo + f.w ≤ i) : bitOf (fs.foldl g x).toNat i = bitOf x.toNat i := by
  induction fs generalizing x with
  | nil => rfl
  | cons f fs ih =>
    rw [List.foldl_cons, ih fun f' hf' => h f' (List.mem_cons_of_mem _ hf')]
    exact hg.other x f i hi (h f (List.mem_cons_self ..))

/-- A pass over all fields changes each of them once. -/
theorem FieldStep.bits_foldl {g : W32 → FieldRow → W32} {val : FieldRow → Nat → Nat} (hg : FieldStep g val) {fs : List FieldRow} {x : W32}
    (hfs : FieldsApart fs) : ∀ f ∈ fs, bits (fs.foldl g x).toNat f.lo f.w = val f (bits x.toNat f.lo f.w) := by
  induction fs generalizing x with
  | nil => simp
  | cons f fs ih =>
    obtain ⟨hpair, hin⟩ := hfs
    obtain ⟨hf, hpair⟩ := List.pairwise_cons.1 hpair
    have hf32 := hin f (List.mem_cons_self ..)
    intro f' hf'
    rw [List.foldl_cons]
    rcases List.mem_cons.1 hf' with rfl | hmem
    · rw [bits_congr fun i hi hiw => hg.bitOf_foldl (by omega) fun k hk => .inl (by have := hf k hk; omega)]
      exact hg.same x f' hf32
    · have h32 := hin f' hf'
      have hkeep : bits (g x f).toNat f'.lo f'.w = bits x.toNat f'.lo f'.w :=
        bits_congr fun i hi hiw => hg.other x f i (by omega) (.inr (by have := hf f' hmem; omega))
      rw [ih ⟨hpair, fun k hk => hin k (List.mem_cons_of_mem _ hk)⟩ f' hmem, hkeep]

/-- What a write of `v` makes of the value of a field (R10). -/
def writtenField (locked : Bool) (v : W32) (f : FieldRow) (old : Nat) : Nat :=
  let new := bits v.toNat f.lo f.w
  match f.acc with
  | .rw => new
  | .ro | .rc | .wo => old
  | .w1c => old &&& (2 ^ f.w - 1 - new)
  | .w1s => old ||| new
  | .rwl => if locked then old else new

theorem bits_insertBits_of_lt {x : W32} {lo w v : Nat} (h : lo + w ≤ 32) (hv : v < 2 ^ w) : bits (insertBits x lo w v).toNat lo w = v := by
  rw [bits_insertBits_same _ _ _ _ h, Nat.mod_eq_of_lt hv]

theorem writeField_fieldStep (locked : Bool) (v : W32) : FieldStep (writeField locked v) (writtenField locked v) where
  same x f h := by
    have hold := bits_lt x.toNat f.lo f.w
    have hnew := bits_lt v.toNat f.lo f.w
    unfold writeField writtenField
    cases f.acc with
    | rw => exact bits_insertBits_of_lt h hnew
    | ro | rc | wo => rfl
    | w1c => exact bits_insertBits_of_lt h (Nat.lt_of_le_of_lt Nat.and_le_left hold)
    | w1s => exact bits_insertBits_of_lt h (Nat.or_lt_two_pow hold hnew)
    | rwl => cases locked with
      | true => rfl
      | false => exact bits_insertBits_of_lt h hnew
  other x f i hi h := by
    unfold writeField
    cases f.acc with
    | rw | w1c | w1s => exact bitOf_insertBits_other hi h
    | ro | rc | wo => rfl
    | rwl => cases locked with
      | true => rfl
      | false => exact bitOf_insertBits_other hi h

/-- A pass that zeroes the fields of one access code. -/
theorem zeroField_fieldStep (acc : Acc) :
    FieldStep (fun x f => if f.acc = acc then insertBits x f.lo f.w 0 else x) (fun f old => if f.acc = acc then 0 else old) where
  same x f h := by
    split
    · exact bits_insertBits_of_lt h (Nat.two_pow_pos _)
    · rfl
  other x f i hi h := by
    split
    · exact bitOf_insertBits_other hi h
    · rfl

/-! ### Writes -/

theorem find_of_rowLocked {s : State} {a : Nat} {r : RegRow} {locked : Bool} (h : s.rowLocked a = some (r, locked)) :
    ∃ base, RegTable.find a = some (base, r) := by
  obtain ⟨⟨base, r'⟩, hf, he⟩ := Option.map_eq_some_iff.1 h
  obtain ⟨rfl, _⟩ := Prod.mk.inj he
  exact ⟨base, hf⟩

/-- The lock that a write sees depends on the registers alone. -/
theorem rowLocked_congr {s u : State} (h : u.regs = s.regs) (a : Nat) : u.rowLocked a = s.rowLocked a := by
  simp only [State.rowLocked, State.reg, h]

theorem plainWrite_of_rowLocked {s : State} {a : Nat} {v : W32} {r : RegRow} {locked : Bool} (h : s.rowLocked a = some (r, locked)) :
    s.plainWrite a v = s.setReg a (r.fields.foldl (writeField locked v) (s.reg a)) := by
  rw [State.plainWrite, h]

/-- A write by the access codes, of a register with or without interrupts: the word it stores, and all it changes beside. -/
theorem regWrite_middleBlocks {s : State} {m : Master} {a : Nat} {v : W32} {r : RegRow} {locked : Bool} (hlo : 0x40030000 ≤ a)
    (hhi : a < 0x40070000) (h14 : a ≠ 0x40030014) (h : s.rowLocked a = some (r, locked)) :
    ∃ prev new, s.regWrite m a v = { s.setReg a (r.fields.foldl (writeField locked v) (s.reg a)) with
      mbx := { s.mbx with evtPrev := prev, evtNew := new } } := by
  rw [State.regWrite]
  split
  · have hl : s.noteRaised.rowLocked a = some (r, locked) := (rowLocked_congr rfl a).trans h
    rw [regStore_middleBlocks hlo hhi _ _ _ h14, plainWrite_of_rowLocked hl]
    exact ⟨_, _, rfl⟩
  · rw [regStore_middleBlocks hlo hhi _ _ _ h14, plainWrite_of_rowLocked h]
    exact ⟨s.mbx.evtPrev, s.mbx.evtNew, rfl⟩

theorem exec_registerWrite_bus {t : Nat} {m : Master} {addr : W32} {data : List (Option W8)} {s : State} (hb : s.barred m.val = false) :
    exec (.registerWrite t m ⟨.bus, addr⟩ data) s = .next ((s.tick t).busWrite m addr.toNat data) :=
  if_neg (not_barred_tick hb)

theorem exec_readClear_bus {t : Nat} {m : Master} {addr : W32} {be : List Bool} {s : State} (hb : s.barred m.val = false) :
    exec (.readClear t m ⟨.bus, addr, be⟩) s = .next (State.answerBus ((s.tick t).busRead m.val addr.toNat be)) :=
  if_neg (not_barred_tick hb)

/-! ### Reads: what refreshing the registers that follow the time leaves alone -/

/-- `u` is `s` but for the line ports. -/
def OnlyLine (s u : State) : Prop := ∃ l, u = { s with line := l }

theorem OnlyLine.refl (s : State) : OnlyLine s s := ⟨s.line, rfl⟩

theorem OnlyLine.trans {s t u : State} (h : OnlyLine s t) (g : OnlyLine t u) : OnlyLine s u := by
  obtain ⟨l, rfl⟩ := h
  obtain ⟨k, rfl⟩ := g
  exact ⟨k, rfl⟩

theorem OnlyLine.foldl {α : Type} {f : State → α → State} (hf : ∀ s x, OnlyLine s (f s x)) (l : List α) (s : State) :
    OnlyLine s (l.foldl f s) := by
  induction l generalizing s with
  | nil => exact .refl s
  | cons x l ih => exact (hf s x).trans (ih _)

theorem mapDyn_onlyLine (s : State) (p : Nat) (f : PortDyn → PortDyn) : OnlyLine s (s.mapDyn p f) := ⟨_, rfl⟩

theorem wakeDemands_onlyLine (s : State) : OnlyLine s s.wakeDemands := by
  refine .foldl (fun s p => ?_) _ s
  simp only [State.wakeDemand, State.wakeTo]
  split
  · exact mapDyn_onlyLine ..
  · exact .refl s

theorem restartTx_onlyLine (s : State) : OnlyLine s s.restartTx := by
  refine .foldl (fun s p => ?_) _ s
  split
  · exact mapDyn_onlyLine ..
  · exact .refl s

/-- `u` is `s` but for the registers at `as` and the line ports. -/
structure OnlyRegsAndLine (as : List Nat) (s u : State) : Prop where
  kept : RegsKept s u as
  rest : ∃ r l, u = { s with regs := r, line := l }

theorem OnlyRegsAndLine.refl (as : List Nat) (s : State) : OnlyRegsAndLine as s s := ⟨kept_refl rfl, s.regs, s.line, rfl⟩

theorem OnlyRegsAndLine.wr {as : List Nat} {s u : State} {f : Fld} {v : Nat} (h : OnlyRegsAndLine as s u) (hf : f.addr ∈ as) :
    OnlyRegsAndLine as s (u.wr f v) := by
  refine ⟨kept_trans h.kept (kept_wr hf), ?_⟩
  obtain ⟨r, l, rfl⟩ := h.rest
  exact ⟨_, l, rfl⟩

theorem OnlyRegsAndLine.line {as : List Nat} {s u w : State} (h : OnlyRegsAndLine as s u) (g : OnlyLine u w) : OnlyRegsAndLine as s w := by
  obtain ⟨k, rfl⟩ := g
  refine ⟨kept_of h.kept rfl, ?_⟩
  obtain ⟨r, l, rfl⟩ := h.rest
  exact ⟨r, k, rfl⟩

/-- The PAIR registers that follow the state: PAIR_STAT, PAIR_LEASE, PAIR_HO and PAIR_DRILL. -/
theorem refreshPair_onlyRegsAndLine {as : List Nat} {s : State} (h4 : 0x40060004 ∈ as) (h8 : 0x40060008 ∈ as) (hC : 0x4006000C ∈ as)
    (h10 : 0x40060010 ∈ as) : OnlyRegsAndLine as s s.refreshPair :=
  ((((((((((((OnlyRegsAndLine.refl as s).wr h4).wr h4).wr h4).wr h4).wr h4).wr h8).wr h8).wr hC).wr hC).wr h10).line
    (wakeDemands_onlyLine _)).line (restartTx_onlyLine _)

/-- Before a read, the PAIR registers and the seconds left of a trial are brought up to date. -/
theorem timeRegs_onlyRegsAndLine (s : State) :
    OnlyRegsAndLine [0x40060004, 0x40060008, 0x4006000C, 0x40060010, 0x40210024] s s.timeRegs :=
  (refreshPair_onlyRegsAndLine (by simp) (by simp) (by simp) (by simp)).wr (by simp)

theorem readClear_of_find {s : State} {a base : Nat} {r : RegRow} (h : RegTable.find a = some (base, r)) :
    s.readClear a = s.setReg a (r.fields.foldl (fun x f => if f.acc = .rc then insertBits x f.lo f.w 0 else x) (s.reg a)) := by
  rw [State.readClear, h]

theorem readWord_of_find {s : State} {a base : Nat} {r : RegRow} (h : RegTable.find a = some (base, r)) :
    s.readWord a = r.fields.foldl (fun x f => if f.acc = .wo then insertBits x f.lo f.w 0 else x) (s.reg a) := by
  rw [State.readWord, h]

/-- An answered word is what the read data hold. -/
theorem answer_rdData (s : State) (w : W32) : (s.answer (leBytes w.toNat 4)).mtx.rdData = w := by
  have htake : (leBytes w.toNat 4).take 4 = leBytes w.toNat 4 := List.take_of_length_le (by rw [length_leBytes])
  show BitVec.ofNat 32 (ofLe ((leBytes w.toNat 4).take 4)) = w
  rw [htake, ofNat_ofLe_leBytes]

/-- The state after a read of a word in PWR or TALLY: the word in the answer, its RC fields cleared. -/
theorem readClear_pwrTally {t : Nat} {m : Master} {addr : W32} {base : Nat} {r : RegRow} {s : State} (hb : s.barred m.val = false)
    (hlo : 0x40030000 ≤ addr.toNat) (hhi : addr.toNat < 0x40050000) (h4 : addr.toNat % 4 = 0)
    (hf : RegTable.find addr.toNat = some (base, r)) :
    ∃ s', exec (.readClear t m ⟨.bus, addr, [true, true, true, true]⟩) s = .next s' ∧
      (∀ f ∈ r.fields, bits s'.mtx.rdData.toNat f.lo f.w = if f.acc = .wo then 0 else bits (s.reg addr.toNat).toNat f.lo f.w) ∧
      (∀ f ∈ r.fields, bits (s'.reg addr.toNat).toNat f.lo f.w = if f.acc = .rc then 0 else bits (s.reg addr.toNat).toNat f.lo f.w) ∧
      s'.out = s.out ∧ s'.mtx.scr = s.mtx.scr ∧ s'.map = s.map ∧ s'.sel = s.sel := by
  have hapart := fieldsApart_of_find hf
  have hhi' : addr.toNat < 0x40070000 := by omega
  obtain ⟨hkept, rs, ln, hrest⟩ := timeRegs_onlyRegsAndLine (s.tick t)
  have hreg : (s.tick t).timeRegs.reg addr.toNat = s.reg addr.toNat :=
    hkept _ (by simp only [List.mem_cons, List.not_mem_nil, or_false]; omega)
  refine next_of (exec_readClear_bus hb) ?_
  rw [busRead_middleBlocks hlo hhi' _ _ h4, regRead_middleBlocks hlo hhi', readClear_of_find hf]
  refine ⟨?_, ?_, ?_⟩
  · rw [State.answerBus, answer_rdData, readWord_of_find hf, hreg]
    exact (zeroField_fieldStep .wo).bits_foldl hapart
  · have hstored : ∀ (u : State) (v : W32) (bs : List W8), (State.answerBus (u.setReg addr.toNat v, some bs)).reg addr.toNat = v :=
      fun u v bs => (u.reg_setReg ..).trans (if_pos rfl)
    rw [hstored, hreg]
    exact (zeroField_fieldStep .rc).bits_foldl hapart
  · rw [hrest]
    exact ⟨rfl, rfl, rfl, rfl⟩

/-- A write of a word by the access codes, from PWR to PAIR. -/
theorem registerWrite_middleBlocks {t : Nat} {m : Master} {addr v : W32} {r : RegRow} {locked : Bool} {s : State}
    (hb : s.barred m.val = false) (hlo : 0x40030000 ≤ addr.toNat) (hhi : addr.toNat < 0x40070000) (h4 : addr.toNat % 4 = 0)
    (h14 : addr.toNat ≠ 0x40030014) (h : s.rowLocked addr.toNat = some (r, locked)) :
    ∃ s', exec (.registerWrite t m ⟨.bus, addr⟩ ((leBytes v.toNat 4).map some)) s = .next s' ∧
      s'.reg addr.toNat = r.fields.foldl (writeField locked v) (s.reg addr.toNat) ∧ RegsKept s s' [addr.toNat] ∧
      s' = { s with now := max s.now t, regs := s'.regs, mbx := { s.mbx with evtPrev := s'.mbx.evtPrev, evtNew := s'.mbx.evtNew } } := by
  have hl : (s.tick t).rowLocked addr.toNat = some (r, locked) := (rowLocked_congr rfl _).trans h
  obtain ⟨prev, new, hw⟩ := regWrite_middleBlocks (m := m) (v := v) hlo hhi h14 hl
  refine next_of (exec_registerWrite_bus hb) ?_
  rw [busWrite_middleBlocks hlo hhi _ _ _ h4, hw]
  refine ⟨((s.tick t).reg_setReg ..).trans (if_pos rfl), ?_, rfl⟩
  exact kept_of (kept_trans (kept_refl (s.tick_regs t)) (kept_setReg (List.mem_singleton_self _))) rfl

/-- Settles O13: one pass of `writeField` over fields that do not overlap, and one pass that zeroes WO or RC fields. -/
theorem registerAccessCodes : Obligations.RegisterAccessCodes := by
  refine ⟨fun t m addr v r locked s hb hlo hhi h4 h14 hl => ?_, fun t m addr base r s => readClear_pwrTally⟩
  obtain ⟨base, hf⟩ := find_of_rowLocked hl
  obtain ⟨s', he, hreg, hkept, hrest⟩ := registerWrite_middleBlocks (t := t) (v := v) hb hlo hhi h4 h14 hl
  refine ⟨s', he, ?_, ?_, hkept, hrest⟩
  · rw [hreg]
    exact (writeField_fieldStep locked v).bits_foldl (fieldsApart_of_find hf)
  · rw [hreg]
    exact fun i hi hres => (writeField_fieldStep locked v).bitOf_foldl hi hres

end Sys2Proof.Machine
end

section
/-! Proofs: what mirroring to the mate and reading a command's input buffer leave alone. -/
namespace Sys2Proof.Machine

/-! ### Mirroring (R233 to R238) -/

/-- `u` is `s` but for the mate link and registers from TALLY to PAIR. -/
structure OnlyMirror (s u : State) : Prop where
  kept : ∀ a, a < 0x40040000 ∨ 0x40070000 ≤ a → u.reg a = s.reg a
  rest : ∃ r m, u = { s with regs := r, mate := m }

theorem OnlyMirror.refl (s : State) : OnlyMirror s s := ⟨fun _ _ => rfl, s.regs, s.mate, rfl⟩

theorem OnlyMirror.trans {s t u : State} (h : OnlyMirror s t) (g : OnlyMirror t u) : OnlyMirror s u := by
  refine ⟨fun a ha => (g.kept a ha).trans (h.kept a ha), ?_⟩
  obtain ⟨r, m, rfl⟩ := h.rest
  obtain ⟨r', m', rfl⟩ := g.rest
  exact ⟨r', m', rfl⟩

theorem OnlyMirror.wr {s u : State} {f : Fld} {v : Nat} (h : OnlyMirror s u) (hlo : 0x40040000 ≤ f.addr) (hhi : f.addr < 0x40070000) :
    OnlyMirror s (u.wr f v) := by
  refine h.trans ⟨fun a ha => ?_, _, u.mate, rfl⟩
  rw [reg_wr, if_neg (by omega)]

theorem OnlyMirror.mapMate {s u : State} {f : MateSt → MateSt} (h : OnlyMirror s u) : OnlyMirror s (u.mapMate f) :=
  h.trans ⟨fun _ _ => rfl, u.regs, _, rfl⟩

theorem OnlyMirror.ite {c : Prop} [Decidable c] {s a b : State} (h : OnlyMirror s a) (g : OnlyMirror s b) :
    OnlyMirror s (if c then a else b) := by
  split <;> assumption

theorem OnlyMirror.foldl {α : Type} {f : State → α → State} {l : List α} (hf : ∀ s, ∀ x ∈ l, OnlyMirror s (f s x)) (s : State) :
    OnlyMirror s (l.foldl f s) := by
  induction l generalizing s with
  | nil => exact .refl s
  | cons x l ih => exact (hf s x (List.mem_cons_self ..)).trans (ih (fun s y hy => hf s y (List.mem_cons_of_mem _ hy)) _)

theorem OnlyMirror.foldl_fst {α β : Type} {f : State × β → α → State × β} (hf : ∀ z x, OnlyMirror z.1 (f z x).1) (l : List α)
    (z : State × β) : OnlyMirror z.1 (l.foldl f z).1 := by
  induction l generalizing z with
  | nil => exact .refl _
  | cons x l ih => exact (hf z x).trans (ih _)

/-- A field of a register that mirroring keeps. -/
theorem OnlyMirror.rd {s u : State} (h : OnlyMirror s u) {f : Fld} (hf : 0x40070000 ≤ f.addr) : u.rd f = s.rd f := by
  rw [State.rd, State.rd, h.kept _ (.inr hf)]

theorem OnlyMirror.grp {s u : State} (h : OnlyMirror s u) (p : Nat) : u.grp p = s.grp p := h.kept _ (.inr (by omega))

theorem OnlyMirror.sel {s u : State} (h : OnlyMirror s u) : u.sel = s.sel := by
  obtain ⟨r, m, rfl⟩ := h.rest
  rfl

theorem OnlyMirror.map {s u : State} (h : OnlyMirror s u) : u.map = s.map := by
  obtain ⟨r, m, rfl⟩ := h.rest
  rfl

theorem OnlyMirror.out {s u : State} (h : OnlyMirror s u) : u.out = s.out := by
  obtain ⟨r, m, rfl⟩ := h.rest
  rfl

theorem tallyAdd_onlyMirror (s : State) {i : Nat} (n : Nat) (hi : i < 64) : OnlyMirror s (s.tallyAdd i n) := by
  have hcnt : 0x40040400 + i * 0x4 < 0x40070000 := by omega
  have hst : 0x40040500 + i * 0x4 < 0x40070000 := by omega
  have hcount : OnlyMirror s (s.wr (F.TALLY_CNT_COUNT i) (s.rd (F.TALLY_CNT_COUNT i) + n)) :=
    (OnlyMirror.refl s).wr (f := F.TALLY_CNT_COUNT i) (by show _ ≤ 0x40040400 + i * 0x4; omega) hcnt
  simp only [State.tallyAdd, State.raise]
  split
  · exact hcount
  · exact ((hcount.wr (f := F.TALLY_CNT_ST_WRAPS i) (by show _ ≤ 0x40040500 + i * 0x4; omega) hst).wr (f := F.TALLY_CNT_ST_OVF i)
      (by show _ ≤ 0x40040500 + i * 0x4; omega) hst).wr (by decide) (by decide)

theorem count_onlyMirror (s : State) (code arg n : Nat) : OnlyMirror s (s.count code arg n) := by
  rw [State.count]
  split
  · exact .refl s
  · refine .foldl (fun s i hi => ?_) s
    dsimp only
    split
    · exact tallyAdd_onlyMirror s n (List.mem_range.1 hi)
    · exact .refl s

theorem sendFor_onlyMirror (s : State) (fn : W16) (b : MateBody) (last : Bool) : OnlyMirror s (s.sendFor fn b last) := by
  have hmate := fun f => (OnlyMirror.refl s).mapMate (f := f)
  exact .ite (.refl s) (.ite (((hmate _).wr (f := F.PAIR_SEQ_SEQ) (by decide) (by decide)).trans (count_onlyMirror ..)) (hmate _))

theorem mirror_onlyMirror (s : State) (b : MateBody) : OnlyMirror s (s.mirror b) := by
  rw [State.mirror]
  split
  · exact sendFor_onlyMirror ..
  · exact .refl s

theorem mirrorSettings_onlyMirror (s : State) (d : List W32) (data : List W8) : OnlyMirror s (s.mirrorSettings d data) := by
  rw [State.mirrorSettings]
  split
  · exact .foldl_fst (fun z x => sendFor_onlyMirror ..) _ (s, 0, 0)
  · exact .refl s

/-! ### Reading an input buffer (R257) -/

/-- `u` is `s` but for the time and registers before PWR. -/
structure OnlyEarlyRegs (s u : State) : Prop where
  kept : ∀ a, 0x40030000 ≤ a → u.reg a = s.reg a
  rest : ∃ n r, u = { s with now := n, regs := r }

theorem OnlyEarlyRegs.tick (s : State) (t : Nat) : OnlyEarlyRegs s (s.tick t) := ⟨fun _ _ => rfl, _, s.regs, rfl⟩

theorem OnlyEarlyRegs.wr {s u : State} {f : Fld} {v : Nat} (h : OnlyEarlyRegs s u) (hf : f.addr < 0x40030000) : OnlyEarlyRegs s (u.wr f v) := by
  refine ⟨fun a ha => ?_, ?_⟩
  · rw [reg_wr, if_neg (by omega), h.kept a ha]
  · obtain ⟨n, r, rfl⟩ := h.rest
    exact ⟨n, _, rfl⟩

theorem OnlyEarlyRegs.corrected {s u : State} {n : Nat} (h : OnlyEarlyRegs s u) : OnlyEarlyRegs s (u.corrected n) := by
  rw [State.corrected]
  split
  · exact h
  · exact (h.wr (by decide)).wr (by decide)

/-- A read that succeeds counts the words it corrects, and changes nothing else. -/
theorem readBuf_ok {s u r : State} {a : W64} {n : Nat} {x : Exe} {bs : List W8} (h : OnlyEarlyRegs s u) (e : u.readBuf a n x = .ok (r, bs)) :
    OnlyEarlyRegs s r := by
  have hdev : u.devRead 5 a n x.inp = .ok (r, bs) := by
    rw [State.readBuf] at e
    split at e
    · next hd => rw [hd, e]
    · cases e
  simp only [State.devRead] at hdev
  split_ifs at hdev
  · cases hdev
    exact h.corrected
  · split at hdev
    · cases hdev
    · split_ifs at hdev
      cases hdev
      exact h

theorem groupRecord_ok {s u r : State} {d : List W32} {x : Exe} {g : W32} (h : OnlyEarlyRegs s u) (e : groupRecord u d x = .ok (r, g)) :
    OnlyEarlyRegs s r := by
  rw [groupRecord] at e
  split_ifs at e
  · cases e
    exact h
  · cases hr : u.readBuf (word64 d 4) 16 x with
    | error _ => rw [hr] at e; cases e
    | ok p =>
      rw [hr] at e
      cases e
      exact readBuf_ok h hr

section
variable {s u : State} (h : OnlyEarlyRegs s u)
include h

theorem OnlyEarlyRegs.rd {f : Fld} (hf : 0x40030000 ≤ f.addr) : u.rd f = s.rd f := by
  rw [State.rd, State.rd, h.kept _ hf]

theorem OnlyEarlyRegs.flag {f : Fld} (hf : 0x40030000 ≤ f.addr) : u.flag f = s.flag f := by
  rw [State.flag, State.flag, h.rd hf]

theorem OnlyEarlyRegs.sel : u.sel = s.sel := by
  obtain ⟨n, r, rfl⟩ := h.rest
  rfl

theorem OnlyEarlyRegs.map : u.map = s.map := by
  obtain ⟨n, r, rfl⟩ := h.rest
  rfl

theorem OnlyEarlyRegs.grp (p : Nat) : u.grp p = s.grp p := h.kept _ (by omega)

theorem OnlyEarlyRegs.groups : u.groups = s.groups := by simp only [State.groups, h.grp]

theorem OnlyEarlyRegs.prtMode (p : Nat) : u.prtMode p = s.prtMode p := h.rd (by show _ ≤ 0x40100000 + p * 0x1000 + 0; omega)

theorem OnlyEarlyRegs.member (p : Nat) : u.member p = s.member p := h.flag (by show _ ≤ 0x40100000 + p * 0x1000 + 0; omega)

theorem OnlyEarlyRegs.monAt (i : Nat) : u.monAt i = s.monAt i := by simp only [State.monAt, State.monRaw, h.sel]

theorem OnlyEarlyRegs.activeNo : u.activeNo = s.activeNo := h.rd (by decide)

theorem OnlyEarlyRegs.page (n : Nat) : u.page n = s.page n := by simp only [State.page, h.map]

theorem OnlyEarlyRegs.active : u.active = s.active := by rw [State.active, State.active, h.page, h.activeNo]

theorem OnlyEarlyRegs.shadow : u.shadow = s.shadow := by
  rw [State.shadow, State.shadow, State.shadowNo, State.shadowNo, h.page, h.activeNo]

theorem OnlyEarlyRegs.checkEnv : u.checkEnv = s.checkEnv := by
  simp only [State.checkEnv, h.sel, h.groups, h.rd (f := F.MAP_HERD_CFG_HERD_FAN) (by decide), h.flag (f := F.MAP_CTRL_ECC_GEN) (by decide)]

/-- The tests of a group's record read nothing that the read of the record changes. -/
theorem OnlyEarlyRegs.groupOk (w : Nat) (g : W32) : u.groupOk w g = s.groupOk w g := by
  simp only [State.groupOk, h.grp, h.groups, h.prtMode, h.member, h.monAt]

end

end Sys2Proof.Machine
end

section
/-! Proofs: SEL_WRITE of line groups, and writes of LINE_GRP and APS_TX (O34). -/
namespace Sys2Proof.Machine

/-! ### The words of a line group -/

theorem bitOf_of_le {x : W32} {i : Nat} (h : 32 ≤ i) : bitOf x.toNat i = false := by
  rw [bitOf_eq_testBit]
  exact Nat.testBit_lt_two_pow (Nat.lt_of_lt_of_le x.isLt (Nat.pow_le_pow_right (by decide) h))

/-- A one-bit field that was set from bit `i` of `v`. -/
theorem bitOf_insertBits_bit {x : W32} {i v : Nat} (h : i < 32) : bitOf (insertBits x i 1 (bits v i 1)).toNat i = bitOf v i := by
  rw [bitOf_insertBits h, if_pos (by omega), Nat.sub_self, testBit_bits, bitOf_eq_testBit]
  simp

/-- What a write of `v` makes of a LINE_GRP word in ARCH 10 and 11 (R142). -/
def lineGrpWritten (g v : W32) : W32 :=
  let x := insertBits g 9 1 (bits v.toNat 9 1)
  if gArch g = 3 then insertBits x 10 1 (bits v.toNat 10 1) else x

theorem gSel_lineGrpWritten (g v : W32) : gSel (lineGrpWritten g v) = bitOf v.toNat 9 := by
  simp only [gSel, lineGrpWritten]
  split
  · rw [bitOf_insertBits_other (by decide) (.inl (by decide)), bitOf_insertBits_bit (by decide)]
  · rw [bitOf_insertBits_bit (by decide)]

theorem gBr_lineGrpWritten (g v : W32) : gBr (lineGrpWritten g v) = if gArch g = 3 then bitOf v.toNat 10 else gBr g := by
  simp only [gBr, lineGrpWritten]
  split
  · rw [bitOf_insertBits_bit (by decide)]
  · rw [bitOf_insertBits_other (by decide) (.inr (by decide))]

theorem bitOf_lineGrpWritten {g v : W32} {b : Nat} (h9 : b ≠ 9) (h10 : b ≠ 10) : bitOf (lineGrpWritten g v).toNat b = bitOf g.toNat b := by
  by_cases hb : b < 32
  · simp only [lineGrpWritten]
    split
    · rw [bitOf_insertBits_other hb (by omega), bitOf_insertBits_other hb (by omega)]
    · rw [bitOf_insertBits_other hb (by omega)]
  · rw [bitOf_of_le (by omega), bitOf_of_le (by omega)]

/-! ### Writes of LINE_GRP and APS_TX (R142) -/

theorem exec_lineSelWrite_of_served {t : Nat} {m : Master} {w : Port} {v : W32} {s : State} (hb : s.barred m.val = false) :
    exec (.lineSelWrite t m w v) s = .next ((s.tick t).writeLineGrp w.val v) :=
  if_neg (not_barred_tick hb)

theorem exec_apsTxWrite_of_served {t : Nat} {m : Master} {w : Port} {v : W32} {s : State} (hb : s.barred m.val = false) :
    exec (.apsTxWrite t m w v) s = .next ((s.tick t).writeApsTx w.val v) :=
  if_neg (not_barred_tick hb)

theorem mirrorGrp_onlyMirror (s : State) (w : Nat) : OnlyMirror s (s.mirrorGrp w) := mirror_onlyMirror ..

/-- A write of LINE_GRP in ARCH 10 and 11, before the count and the mirroring. -/
def State.putLineGrp (s : State) (w : Nat) (v : W32) : State :=
  let u := s.wr { addr := 0x40090100 + w * 0x4, lo := 9, w := 1 } (bits v.toNat 9 1)
  if gArch (s.grp w) = 3 then u.wr { addr := 0x40090100 + w * 0x4, lo := 10, w := 1 } (bits v.toNat 10 1) else u

theorem putLineGrp_onlyRegs (s : State) (w : Nat) (v : W32) : OnlyRegs s (s.putLineGrp w v) := by
  rw [State.putLineGrp]
  split
  · exact (OnlyRegs.refl s).wr.wr
  · exact (OnlyRegs.refl s).wr

theorem putLineGrp_grp_same (s : State) (w : Nat) (v : W32) : (s.putLineGrp w v).grp w = lineGrpWritten (s.grp w) v := by
  by_cases h : gArch (s.grp w) = 3
  · rw [State.putLineGrp, lineGrpWritten, if_pos h, if_pos h, State.grp, reg_wr, if_pos rfl, reg_wr, if_pos rfl]
    rfl
  · rw [State.putLineGrp, lineGrpWritten, if_neg h, if_neg h, State.grp, reg_wr, if_pos rfl]
    rfl

theorem putLineGrp_reg_other {s : State} {w a : Nat} {v : W32} (h : 0x40090100 + w * 0x4 ≠ a) : (s.putLineGrp w v).reg a = s.reg a := by
  rw [State.putLineGrp]
  split
  · rw [reg_wr, if_neg h, reg_wr, if_neg h]
  · rw [reg_wr, if_neg h]

/-- A change of SEL is counted. -/
def State.countSel (s : State) (changed : Bool) : State :=
  if changed then (s.inc F.SEL_SW_CNT_COUNT 1).raise F.SEL_INT_SW else s

theorem countSel_onlyRegs (s : State) (c : Bool) : OnlyRegs s (s.countSel c) := by
  rw [State.countSel]
  split
  · exact (OnlyRegs.refl s).wr.wr
  · exact .refl s

theorem countSel_reg_other {s : State} {c : Bool} {a : Nat} (hcnt : 0x40090008 ≠ a) (hint : 0x40090020 ≠ a) : (s.countSel c).reg a = s.reg a := by
  rw [State.countSel]
  split
  · rw [State.raise, reg_wr, if_neg hint, State.inc, reg_wr, if_neg hcnt]
  · rfl

theorem countSel_rd (s : State) (c : Bool) : (s.countSel c).rd F.SEL_SW_CNT_COUNT = min (2 ^ 32 - 1) (s.rd F.SEL_SW_CNT_COUNT + b2n c) := by
  have hlt : s.rd F.SEL_SW_CNT_COUNT < 2 ^ 32 := bits_lt ..
  cases c with
  | false => exact (Nat.min_eq_right (by show s.rd F.SEL_SW_CNT_COUNT + 0 ≤ _; omega)).symm
  | true =>
    rw [State.countSel, if_pos rfl, State.raise, State.rd_wr_addr _ _ (by decide), State.inc, State.rd_wr_same _ _ _ (by decide)]
    exact Nat.mod_eq_of_lt (show min (2 ^ 32 - 1) _ < 2 ^ 32 by omega)

/-- A write of LINE_GRP that is taken: the word, the count, and then at most a record to the mate. -/
theorem writeLineGrp_takes {s : State} {w : Nat} {v : W32} (hact : s.acting = true) (harch : 2 ≤ gArch (s.grp w)) :
    OnlyMirror ((s.putLineGrp w v).countSel (bitOf v.toNat 9 != gSel (s.grp w))) (s.writeLineGrp w v) := by
  have hsel : gSel ((s.putLineGrp w v).grp w) = bitOf v.toNat 9 := by rw [putLineGrp_grp_same, gSel_lineGrpWritten]
  rw [State.writeLineGrp, if_pos (by rw [hact, decide_eq_true harch]; rfl), ← hsel]
  exact .ite (mirrorGrp_onlyMirror ..) (.refl _)

theorem writeLineGrp_ignored {s : State} {w : Nat} {v : W32} (h : s.acting = false ∨ gArch (s.grp w) < 2) : s.writeLineGrp w v = s := by
  refine if_neg fun hc => ?_
  simp only [Bool.and_eq_true, decide_eq_true_eq] at hc
  rcases h with h | h
  · simp [h] at hc
  · omega

/-- A write of APS_TX that is taken: the half-word, and then at most a record to the mate. -/
theorem writeApsTx_takes {s : State} {w : Nat} {v : W32} (hact : s.acting = true) (harch : gArch (s.grp w) ≠ 1) :
    OnlyMirror (s.wr { addr := 0x40090300 + w * 0x4, lo := 0, w := 16 } (bits v.toNat 0 16)) (s.writeApsTx w v) := by
  rw [State.writeApsTx, if_pos (by rw [hact, decide_eq_true harch]; rfl)]
  exact .ite (mirrorGrp_onlyMirror ..) (.refl _)

theorem writeApsTx_ignored {s : State} {w : Nat} {v : W32} (h : s.acting = false ∨ gArch (s.grp w) = 1) : s.writeApsTx w v = s := by
  refine if_neg fun hc => ?_
  simp only [Bool.and_eq_true, decide_eq_true_eq] at hc
  rcases h with h | h
  · simp [h] at hc
  · exact hc.2 h

theorem lineSelWrite_takes {t : Nat} {m : Master} {w : Port} {v : W32} {s : State} (hb : s.barred m.val = false) (hact : s.acting = true)
    (harch : 2 ≤ gArch (s.grp w.val)) :
    ∃ s', exec (.lineSelWrite t m w v) s = .next s' ∧ gSel (s'.grp w.val) = bitOf v.toNat 9 ∧
      gBr (s'.grp w.val) = (if gArch (s.grp w.val) = 3 then bitOf v.toNat 10 else gBr (s.grp w.val)) ∧
      (∀ b, b ≠ 9 → b ≠ 10 → bitOf (s'.grp w.val).toNat b = bitOf (s.grp w.val).toNat b) ∧
      (∀ p, p < 48 → p ≠ w.val → s'.grp p = s.grp p) ∧
      s'.rd F.SEL_SW_CNT_COUNT = min (2 ^ 32 - 1) (s.rd F.SEL_SW_CNT_COUNT + b2n (bitOf v.toNat 9 != gSel (s.grp w.val))) ∧
      s'.sel = s.sel ∧ s'.map = s.map ∧ s'.out = s.out := by
  have hm := writeLineGrp_takes (s := s.tick t) (v := v) hact harch
  have hgrp : ∀ p, ((s.tick t).writeLineGrp w.val v).grp p = ((s.tick t).putLineGrp w.val v).grp p :=
    fun p => (hm.grp p).trans (countSel_reg_other (by omega) (by omega))
  have hw : ((s.tick t).writeLineGrp w.val v).grp w.val = lineGrpWritten (s.grp w.val) v := (hgrp _).trans (putLineGrp_grp_same ..)
  refine next_of (exec_lineSelWrite_of_served hb) ⟨?_, ?_, fun b h9 h10 => ?_, fun p _ hp => ?_, ?_, ?_⟩
  · rw [hw, gSel_lineGrpWritten]
  · rw [hw, gBr_lineGrpWritten]
  · rw [hw, bitOf_lineGrpWritten h9 h10]
  · exact (hgrp p).trans (putLineGrp_reg_other (by omega))
  · rw [hm.rd (by decide), countSel_rd, State.rd, putLineGrp_reg_other (by show _ ≠ 0x40090008; omega)]
    rfl
  · rw [hm.sel, hm.map, hm.out, (countSel_onlyRegs ..).eq, (putLineGrp_onlyRegs ..).eq]
    exact ⟨rfl, rfl, rfl⟩

theorem apsTxWrite_takes {t : Nat} {m : Master} {w : Port} {v : W32} {s : State} (hb : s.barred m.val = false) (hact : s.acting = true)
    (harch : gArch (s.grp w.val) ≠ 1) :
    ∃ s', exec (.apsTxWrite t m w v) s = .next s' ∧
      s'.reg (0x40090300 + w.val * 0x4) = insertBits (s.reg (0x40090300 + w.val * 0x4)) 0 16 (bits v.toNat 0 16) ∧
      (∀ p, p < 48 → s'.grp p = s.grp p) ∧ s'.sel = s.sel ∧ s'.map = s.map ∧ s'.out = s.out := by
  have hm := writeApsTx_takes (s := s.tick t) (v := v) hact harch
  refine next_of (exec_apsTxWrite_of_served hb) ⟨?_, fun p hp => ?_, ?_⟩
  · rw [hm.kept _ (.inr (by omega)), reg_wr, if_pos rfl, State.tick_reg]
  · rw [hm.grp, State.grp, reg_wr, if_neg (by show 0x40090300 + w.val * 0x4 ≠ _; omega)]
    rfl
  · exact ⟨hm.sel, hm.map, hm.out⟩

/-! ### SEL_WRITE of a group (R137, R139, R144) -/

/-- The word that a SEL_WRITE of record `g` stores over the word `old` of the group: SEL and BR of a group in use are kept. -/
def groupWord (old g : W32) : W32 :=
  BitVec.ofNat 32 (g.toNat % 2 ^ 9 + bits g.toNat 11 17 * 2 ^ 11 +
    (if gUsed old then b2n (gSel old) * 2 ^ 9 + b2n (gBr old) * 2 ^ 10 else 0))

/-- What the checker sees once `new` stands in the group of port `w`. -/
def State.envWith (s : State) (w : Nat) (new : W32) : CheckEnv :=
  { s.checkEnv with groups := (w, new) :: s.groups.filter fun y => decide (y.1 ≠ w) }

/-- A SEL_WRITE with KIND 01 that starts does the work of the group named by INDEX. -/
theorem exec_selWrite_group {x : Exe} {i : Nat} {k : Taken} {w : Port} {s : State} (hs : Starts s .selWrite x i k)
    (hok : selWriteOk k.d = true) (hcase : s.selWriteCase x.src k.d = true) (hkind : bits (word k.d 2) 22 2 = 1)
    (hidx : bits (word k.d 2) 0 20 = w.val) :
    exec (.selWrite x) s =
      .next ((if bitOf (word k.d 2) 21 then (s.tick x.t).grpDelete k.d w.val
        else .reading (groupRecord (s.tick x.t) k.d x) (State.grpStore k.d w.val)).settle i k x.rplOk (s.tick x.t)) := by
  have hcase' : (s.tick x.t).selWriteCase x.src k.d = true := hcase
  have hw : bits (word k.d 2) 0 6 = w.val := by
    have := w.isLt
    simp only [bits] at hidx ⊢
    omega
  show Host.Outcome.next _ = _
  rw [State.run_starts hs hok]
  simp only [hcase', hkind, State.grpWriteWork, hw, Bool.not_true, Bool.false_eq_true, if_false, Nat.one_ne_zero]

/-- The group of port `w` as a SEL_WRITE of record `g` stores it, before the mirroring. -/
def State.putGroup (s : State) (w : Nat) (g : W32) : State :=
  (if gUsed (s.grp w) then s else s.forgetAps (gProt g)).setReg (0x40090100 + w * 0x4) (groupWord (s.grp w) g)

theorem putGroup_eq (s : State) (w : Nat) (g : W32) : s.putGroup w g = { s with
    line := (s.putGroup w g).line
    regs := Store.put RegTable.reset s.regs (0x40090100 + w * 0x4) (groupWord (s.grp w) g) } := by
  rw [State.putGroup]
  split <;> rfl

theorem putGroup_grp_same (s : State) (w : Nat) (g : W32) : (s.putGroup w g).grp w = groupWord (s.grp w) g :=
  (State.reg_setReg ..).trans (if_pos rfl)

theorem putGroup_grp_other {s : State} {w p : Nat} {g : W32} (h : p ≠ w) : (s.putGroup w g).grp p = s.grp p := by
  rw [putGroup_eq]
  exact (s.reg_setReg ..).trans (if_neg (by omega))

/-- The group of port `w` deleted, before the mirroring. -/
def State.clearGroup (s : State) (w : Nat) : State :=
  (((s.setReg (0x40090100 + w * 0x4) 0).setReg (0x40090200 + w * 0x4) 0).setReg (0x40090300 + w * 0x4) 0).mapSel fun y => { y with
    timers := Store.put (fun _ => none) y.timers (protKey true w) none
    exer := Store.put (fun _ => false) y.exer (protKey true w) false
    shadow := Store.put (fun _ => none) y.shadow (protKey true w) none }

theorem clearGroup_reg (s : State) (w a : Nat) : (s.clearGroup w).reg a =
    if 0x40090300 + w * 0x4 = a then 0 else if 0x40090200 + w * 0x4 = a then 0 else if 0x40090100 + w * 0x4 = a then 0 else s.reg a := by
  show (((s.setReg (0x40090100 + w * 0x4) 0).setReg (0x40090200 + w * 0x4) 0).setReg (0x40090300 + w * 0x4) 0).reg a = _
  rw [State.reg_setReg, State.reg_setReg, State.reg_setReg]

/-- A record that passes the tests of R137 is stored, of a group in use or of one that no bank's ceiling refuses. -/
theorem grpStore_eq_ok {d : List W32} {w : Nat} {s : State} {g : W32} (hok : s.groupOk w g = true)
    (hload : gUsed (s.grp w) = true ∨ (overLoad (s.envWith w (groupWord (s.grp w) g)) s.active = none ∧
      overLoad (s.envWith w (groupWord (s.grp w) g)) s.shadow = none)) :
    State.grpStore d w s g = .ok (((((s.putGroup w g).mirrorSettings d (if word64 d 4 = 0 then [] else leBytes g.toNat 16)).openBurst
      true).evalAll [] [w]).wakeDemands) (grpWords w) := by
  have hnone : (if gUsed (s.grp w) = true then none else (overLoad (s.envWith w (groupWord (s.grp w) g)) s.active).orElse
      fun _ => overLoad (s.envWith w (groupWord (s.grp w) g)) s.shadow) = none := by
    rcases hload with hu | ⟨ha, hsh⟩
    · exact if_pos hu
    · rw [ha, hsh]
      exact ite_self _
  simp only [State.grpStore, hok, Bool.not_true, Bool.false_eq_true, if_false]
  split
  · next hsome => exact nomatch hsome.symm.trans hnone
  · rfl

/-- A group in use with SEL = 0 and BR = 0 is cleared. -/
theorem grpDelete_eq_ok {d : List W32} {w : Nat} {s : State} (hu : gUsed (s.grp w) = true) (hsel : gSel (s.grp w) = false)
    (hbr : gBr (s.grp w) = false) : s.grpDelete d w = .ok ((s.clearGroup w).mirrorSettings d []) (grpWords w) := by
  simp only [State.grpDelete, hu, hsel, hbr, Bool.not_true, Bool.or_self, Bool.false_eq_true, if_false]
  rfl

theorem selWrite_storesGroup {x : Exe} {i : Nat} {k : Taken} {g : W32} {w : Port} {s r : State} (hs : Starts s .selWrite x i k)
    (hok : selWriteOk k.d = true) (hcase : s.selWriteCase x.src k.d = true) (hkind : bits (word k.d 2) 22 2 = 1)
    (hidx : bits (word k.d 2) 0 20 = w.val) (hdel : bitOf (word k.d 2) 21 = false)
    (hrec : groupRecord (s.tick x.t) k.d x = .ok (r, g)) (hgrp : s.groupOk w.val g = true)
    (hload : gUsed (s.grp w.val) = true ∨ (overLoad (s.envWith w.val (groupWord (s.grp w.val) g)) s.active = none ∧
      overLoad (s.envWith w.val (groupWord (s.grp w.val) g)) s.shadow = none)) :
    ∃ u : State, exec (.selWrite x) s =
        .next (((u.openBurst true).evalAll [] [w.val]).wakeDemands.finish i k .ok [BitVec.ofNat 32 w.val, 1] x.rplOk) ∧
      u.grp w.val = groupWord (s.grp w.val) g ∧ (∀ p, p < 48 → p ≠ w.val → u.grp p = s.grp p) ∧ u.sel = s.sel ∧ u.map = s.map := by
  have hr : OnlyEarlyRegs s r := groupRecord_ok (.tick s x.t) hrec
  have hstore := grpStore_eq_ok (d := k.d) (w := w.val) (s := r) (g := g) ((hr.groupOk ..).trans hgrp)
    (by simpa only [State.envWith, hr.grp, hr.checkEnv, hr.groups, hr.active, hr.shadow] using hload)
  have hm := mirrorSettings_onlyMirror (r.putGroup w.val g) k.d (if word64 k.d 4 = 0 then [] else leBytes g.toNat 16)
  refine ⟨(r.putGroup w.val g).mirrorSettings k.d (if word64 k.d 4 = 0 then [] else leBytes g.toNat 16), ?_, ?_, fun p _ hp => ?_, ?_, ?_⟩
  · rw [exec_selWrite_group hs hok hcase hkind hidx, hdel, if_neg (by decide), hrec, Ans.reading, hstore]
    rfl
  · rw [hm.grp, putGroup_grp_same, hr.grp]
  · rw [hm.grp, putGroup_grp_other hp, hr.grp]
  · rw [hm.sel, putGroup_eq, hr.sel]
  · rw [hm.map, putGroup_eq, hr.map]

theorem selWrite_deletesGroup {x : Exe} {i : Nat} {k : Taken} {w : Port} {s : State} (hs : Starts s .selWrite x i k)
    (hok : selWriteOk k.d = true) (hcase : s.selWriteCase x.src k.d = true) (hkind : bits (word k.d 2) 22 2 = 1)
    (hidx : bits (word k.d 2) 0 20 = w.val) (hdel : bitOf (word k.d 2) 21 = true) (hu : gUsed (s.grp w.val) = true)
    (hsel : gSel (s.grp w.val) = false) (hbr : gBr (s.grp w.val) = false) :
    ∃ u : State, exec (.selWrite x) s = .next (u.finish i k .ok [BitVec.ofNat 32 w.val, 1] x.rplOk) ∧ u.grp w.val = 0 ∧
      u.lineState w.val = 0 ∧ (∀ p, p < 48 → p ≠ w.val → u.grp p = s.grp p) ∧ u.sel.sels = s.sel.sels ∧ u.map = s.map := by
  have hw := w.isLt
  have hm := mirrorSettings_onlyMirror ((s.tick x.t).clearGroup w.val) k.d []
  refine ⟨((s.tick x.t).clearGroup w.val).mirrorSettings k.d [], ?_, ?_, ?_, fun p hp48 hp => ?_, ?_, ?_⟩
  · rw [exec_selWrite_group hs hok hcase hkind hidx, hdel, if_pos rfl, grpDelete_eq_ok (s := s.tick x.t) hu hsel hbr]
    rfl
  · rw [hm.grp, State.grp, clearGroup_reg, if_neg (by omega), if_neg (by omega), if_pos rfl]
  · rw [State.lineState, hm.kept _ (.inr (by omega)), clearGroup_reg, if_neg (by omega), if_pos rfl]
    rfl
  · rw [hm.grp, State.grp, clearGroup_reg, if_neg (by omega), if_neg (by omega), if_neg (by omega)]
    rfl
  · rw [hm.sel]
    rfl
  · rw [hm.map]
    rfl

/-- Settles O34: SEL_WRITE by what it stores before it mirrors and evaluates, the registers by what a write is taken for. -/
theorem lineGroups : Obligations.LineGroups := by
  intro x i k g t m w v s r
  refine ⟨fun hs hok hcase hkind hidx => ⟨fun hdel hrec hgrp => ?_, fun hdel hu hsel hbr => ?_⟩, lineSelWrite_takes, apsTxWrite_takes,
    fun hb h => ?_, fun hb h => ?_⟩
  · exact fun hload => selWrite_storesGroup hs hok hcase hkind hidx hdel hrec hgrp hload
  · exact selWrite_deletesGroup hs hok hcase hkind hidx hdel hu hsel hbr
  · rw [exec_lineSelWrite_of_served hb, writeLineGrp_ignored (s := s.tick t) h]
  · rw [exec_apsTxWrite_of_served hb, writeApsTx_ignored (s := s.tick t) h]

end Sys2Proof.Machine
end

section
/-! Proofs: the registers that neither mirroring nor evaluation writes, and the fields that the refresh of PAIR leaves alone. -/
namespace Sys2Proof.Machine

/-! ### Mirroring and evaluation (R122 to R142, R233 to R238) -/

/-- A register that neither mirroring nor evaluation writes: those before TALLY, PAIR_CFG, PAIR_STAT, and those from PRT on. -/
def quietReg (a : Nat) : Prop := a < 0x40040000 ∨ a = 0x40060000 ∨ a = 0x40060004 ∨ 0x40100000 ≤ a

/-- Every such register reads in `u` as in `s`. -/
def QuietKept (s u : State) : Prop := ∀ a, quietReg a → u.reg a = s.reg a

namespace QuietKept

theorem refl (s : State) : QuietKept s s := fun _ _ => rfl

theorem ite {c : Prop} [Decidable c] {s u w : State} (h : QuietKept s u) (g : QuietKept s w) : QuietKept s (if c then u else w) := by
  split <;> assumption

theorem foldl {α : Type} {f : State → α → State} {l : List α} {z : State} (hf : ∀ s, ∀ x ∈ l, QuietKept z s → QuietKept z (f s x)) {s : State}
    (h : QuietKept z s) : QuietKept z (l.foldl f s) := by
  induction l generalizing s with
  | nil => exact h
  | cons x l ih => exact ih (fun s y hy => hf s y (List.mem_cons_of_mem _ hy)) (hf s x (List.mem_cons_self ..) h)

variable {s u : State} (h : QuietKept s u)
include h

theorem mapMate {f : MateSt → MateSt} : QuietKept s (u.mapMate f) := h

theorem mapPair {f : PairSt → PairSt} : QuietKept s (u.mapPair f) := h

theorem mapSel {f : SelSt → SelSt} : QuietKept s (u.mapSel f) := h

theorem setReg {b : Nat} {v : W32} (hb : ¬quietReg b) : QuietKept s (u.setReg b v) := fun a ha => by
  rw [State.reg_setReg, if_neg, h a ha]
  rintro rfl
  exact hb ha

theorem wr {f : Fld} {v : Nat} (hf : ¬quietReg f.addr) : QuietKept s (u.wr f v) := h.setReg hf

theorem rd {f : Fld} (hf : quietReg f.addr) : u.rd f = s.rd f := by rw [State.rd, State.rd, h _ hf]

theorem flag {f : Fld} (hf : quietReg f.addr) : u.flag f = s.flag f := by rw [State.flag, State.flag, h.rd hf]

theorem tallyAdd {i n : Nat} (hi : i < 64) : QuietKept s (u.tallyAdd i n) := by
  have hcount := h.wr (f := F.TALLY_CNT_COUNT i) (v := u.rd (F.TALLY_CNT_COUNT i) + n) (by simp only [quietReg]; omega)
  have hst : ¬quietReg (0x40040500 + i * 0x4) := by simp only [quietReg]; omega
  simp only [State.tallyAdd]
  exact hcount.ite (((hcount.wr (f := F.TALLY_CNT_ST_WRAPS i) hst).wr (f := F.TALLY_CNT_ST_OVF i) hst).wr (by simp [quietReg]))

theorem count {code arg n : Nat} : QuietKept s (u.count code arg n) :=
  h.ite (foldl (fun _ _ hi h => (h.tallyAdd (List.mem_range.1 hi)).ite h) h)

theorem sendFor {fn : W16} {b : MateBody} {last : Bool} : QuietKept s (u.sendFor fn b last) :=
  h.ite ((h.mapMate.wr (by simp [quietReg])).count.ite h.mapMate)

theorem mirror {b : MateBody} : QuietKept s (u.mirror b) := h.sendFor.ite h

theorem countSwitch {c : Bool} : QuietKept s (u.countSwitch c) :=
  (((h.wr (by simp [quietReg])).wr (by simp [quietReg])).ite h).mapSel

theorem setTimer {key tph : Nat} {start : Bool} : QuietKept s (u.setTimer key start tph) := h.mapSel

theorem exercise {key : Nat} {p : Pv} {m : MonPair} : QuietKept s (u.exercise key p m) := h.mapSel.ite h

theorem storeSel {i : Nat} {p : Pv} {start : Bool} : QuietKept s (u.storeSel i p start) := by
  have hset : ∀ v, QuietKept s ((u.setTimer i start p.tph).setSel i v) := fun _ => h.setTimer.mapSel
  exact ((hset _).countSwitch.mirror.ite (hset _).countSwitch).ite ((hset _).mapSel.mapPair.ite (hset _).mapSel)

theorem setLineState {w : Nat} {p : Pv} (hw : w < 48) : QuietKept s (u.setLineState w p) := h.setReg (by simp only [quietReg]; omega)

theorem storeGrp {w : Nat} {p : Pv} {start : Bool} (hw : w < 48) : QuietKept s (u.storeGrp w p start) := by
  have hgrp : ¬quietReg (0x40090100 + w * 0x4) := by simp only [quietReg]; omega
  have haps : ¬quietReg (0x40090300 + w * 0x4) := by simp only [quietReg]; omega
  have hset : ∀ q, QuietKept s ((u.setTimer (protKey true w) start p.tph).setLineState w q) := fun _ => h.setTimer.setLineState hw
  have hself := (((hset p).wr (f := { addr := 0x40090100 + w * 0x4, lo := 9, w := 1 }) (v := b2n p.act) hgrp).wr
    (f := { addr := 0x40090300 + w * 0x4, lo := 0, w := 16 }) (v := apsOf p.req) haps).countSwitch (c := p.act != gSel (u.grp w))
  have hreq := (hset p).countSwitch (c := false)
  exact ((hself.mirror.ite hself).ite ((hreq.wr (by simp [quietReg])).mirror.ite hreq)).ite
    ((hset _).mapSel.mapPair.ite (hset _).mapSel)

theorem evalOne {i : Nat} : QuietKept s (u.evalOne i) := h.exercise.storeSel

theorem evalPair {i j : Nat} : QuietKept s (u.evalPair i j) := h.exercise.exercise.storeSel.storeSel

theorem evalSel {i : Nat} : QuietKept s (u.evalSel i) := (h.count.evalPair.ite h.count.evalOne).ite h

theorem evalGrp {w : Nat} (hw : w < 48) : QuietKept s (u.evalGrp w) := (h.exercise.storeGrp hw).ite h

theorem openBurst {any : Bool} : QuietKept s (u.openBurst any) := h.mapSel.ite h

theorem evalAll {sels grps : List Nat} (hg : ∀ w ∈ grps, w < 48) : QuietKept s (u.evalAll sels grps) :=
  foldl (fun _ w hw h => h.evalGrp (hg w hw)) (foldl (fun _ _ _ h => h.evalSel) h)

end QuietKept

theorem mirrorSettings_quietKept (s : State) (d : List W32) (data : List W8) : QuietKept s (s.mirrorSettings d data) := by
  have hfold : ∀ (n : Nat) (ps : List (List W8)) (z : State × Nat × Nat), QuietKept s z.1 →
      QuietKept s (ps.foldl (fun (acc : State × Nat × Nat) p =>
        (acc.1.sendRec (.settings (BitVec.ofNat 32 acc.2.1) (BitVec.ofNat 32 data.length) d p) (decide (acc.2.2 + 1 = n)),
          acc.2.1 + p.length, acc.2.2 + 1)) z).1 := by
    intro n ps
    induction ps with
    | nil => exact fun _ h => h
    | cons p ps ih => exact fun z h => ih _ h.sendFor
  exact (hfold _ _ (s, 0, 0) (.refl s)).ite (.refl s)

/-- A group stands at a port. -/
theorem lt_of_mem_groups {s : State} {w : Nat} (h : w ∈ s.groups.map Prod.fst) : w < 48 := by
  obtain ⟨x, hx, rfl⟩ := List.mem_map.1 h
  obtain ⟨v, hv, rfl⟩ := List.mem_map.1 (List.mem_of_mem_filter hx)
  exact List.mem_range.1 hv

/-! ### The refresh of PAIR -/

/-- The fields of PAIR that follow the state. -/
def pairFollowers : List Fld :=
  [F.PAIR_STAT_GUARD, F.PAIR_STAT_RESYNC, F.PAIR_STAT_HO_PEND, F.PAIR_STAT_READY, F.PAIR_STAT_EFF_DUPLEX, F.PAIR_LEASE_VALUE,
    F.PAIR_LEASE_VALID, F.PAIR_HO_VALUE, F.PAIR_HO_VALID, F.PAIR_DRILL_MIN_LEFT]

theorem OnlyLine.rd {s u : State} (h : OnlyLine s u) (f : Fld) : u.rd f = s.rd f := by
  obtain ⟨l, rfl⟩ := h
  rfl

/-- A field that does not follow the state keeps its value. -/
theorem refreshPair_rd {s : State} {f : Fld} (h : ∀ g ∈ pairFollowers, g.apart f = true) : s.refreshPair.rd f = s.rd f := by
  simp only [pairFollowers, List.forall_mem_cons] at h
  obtain ⟨hguard, hresync, hpend, hready, hdup, hlease, hvalid, hho, hhov, hdrill, -⟩ := h
  rw [State.refreshPair, (restartTx_onlyLine _).rd, (wakeDemands_onlyLine _).rd, State.rd_wr_apart _ _ hdrill, State.setFlag,
    State.rd_wr_apart _ _ hhov, State.rd_wr_apart _ _ hho, State.setFlag, State.rd_wr_apart _ _ hvalid, State.rd_wr_apart _ _ hlease,
    State.setFlag, State.rd_wr_apart _ _ hdup, State.setFlag, State.rd_wr_apart _ _ hready, State.setFlag, State.rd_wr_apart _ _ hpend,
    State.setFlag, State.rd_wr_apart _ _ hresync, State.setFlag, State.rd_wr_apart _ _ hguard]

theorem refreshPair_flag {s : State} {f : Fld} (h : ∀ g ∈ pairFollowers, g.apart f = true) : s.refreshPair.flag f = s.flag f := by
  rw [State.flag, State.flag, refreshPair_rd h]

@[simp] theorem refreshPair_acting (s : State) : s.refreshPair.acting = s.acting := refreshPair_flag (by decide)

@[simp] theorem refreshPair_pair (s : State) : s.refreshPair.pair = s.pair := by
  obtain ⟨-, r, l, h⟩ := refreshPair_onlyRegsAndLine (as := [0x40060004, 0x40060008, 0x4006000C, 0x40060010]) (s := s) (by simp) (by simp)
    (by simp) (by simp)
  rw [h]

/-- PAIR_LEASE.VALID shows whether there is a lease. -/
theorem refreshPair_leaseValid (s : State) : s.refreshPair.flag F.PAIR_LEASE_VALID = s.pair.lease.isSome := by
  rw [State.refreshPair, State.flag, (restartTx_onlyLine _).rd, (wakeDemands_onlyLine _).rd, ← State.flag]
  simp (disch := decide) only [State.setFlag, flag_wr_apart, flag_wr_same]
  cases s.pair.lease <;> rfl

end Sys2Proof.Machine
end

section
/-! Proofs: PAIR_CONFIGURE, PAIR_SWAP and PAIR_STATUS (O50). -/
namespace Sys2Proof.Machine

/-! ### What PAIR_CONFIGURE stores (R20, R251) -/

/-- The four fields of PAIR_CFG as PAIR_CONFIGURE writes them. -/
def State.putPairCfg (s : State) (d : List W32) : State :=
  (((s.wr F.PAIR_CFG_MODE (bits (word d 2) 0 2)).wr F.PAIR_CFG_LEASE (word d 3)).wr F.PAIR_CFG_DRILL_H (word d 4)).wr F.PAIR_CFG_SIDE
    (bits (word d 2) 2 1)

/-- A device that acts in MODE 00 and leaves it takes a lease of the next epoch. -/
def State.takeNextEpoch (s : State) : State :=
  let s := s.wr F.PAIR_STAT_EPOCH (s.epoch + 1 : W8).toNat
  s.mapPair fun p => { p with lease := some { epoch := s.epoch, exp := s.now + s.leaseTicks } }

/-- PAIR_CONFIGURE stores its fields, starts a lease where a holder leaves MODE 00, and brings PAIR up to date. -/
theorem applyPair_eq (s : State) (d : List W32) : s.applyPair d true =
    if s.mode = 0 ∧ (s.putPairCfg d).mode ≠ 0 ∧ (s.putPairCfg d).acting = true then (s.putPairCfg d).takeNextEpoch.refreshPair
    else (s.putPairCfg d).refreshPair := by
  rw [State.applyPair]
  simp only [if_true]
  rfl

theorem putPairCfg_cfg {s : State} {d : List W32} (hr : pairRanges d = true) :
    (s.putPairCfg d).mode = bits (word d 2) 0 2 ∧ (s.putPairCfg d).rd F.PAIR_CFG_SIDE = bits (word d 2) 2 1 ∧
      (s.putPairCfg d).rd F.PAIR_CFG_LEASE = word d 3 ∧ (s.putPairCfg d).rd F.PAIR_CFG_DRILL_H = word d 4 := by
  simp only [pairRanges, Bool.and_eq_true, decide_eq_true_eq] at hr
  simp (disch := decide) only [State.putPairCfg, State.mode, State.rd_wr_apart, State.rd_wr_same]
  refine ⟨Nat.mod_eq_of_lt (bits_lt ..), Nat.mod_eq_of_lt (bits_lt ..), Nat.mod_eq_of_lt ?_, Nat.mod_eq_of_lt ?_⟩
  · show word d 3 < 256
    omega
  · show word d 4 < 1024
    omega

/-- The fields of PAIR_CFG are not those of PAIR_STAT. -/
theorem putPairCfg_stat (s : State) (d : List W32) : (s.putPairCfg d).acting = s.acting ∧ (s.putPairCfg d).epoch = s.epoch := by
  simp (disch := decide) only [State.putPairCfg, State.acting, flag_wr_apart, State.epoch, State.rd_wr_apart, and_self]

theorem takeNextEpoch_rd {s : State} {f : Fld} (h : F.PAIR_STAT_EPOCH.apart f = true) : s.takeNextEpoch.rd f = s.rd f := by
  rw [State.takeNextEpoch, State.mapPair_rd, State.rd_wr_apart _ _ h]

theorem takeNextEpoch_acting (s : State) : s.takeNextEpoch.acting = s.acting := by
  rw [State.acting, State.acting, State.flag, State.flag, takeNextEpoch_rd (by decide)]

theorem epoch_wr (s : State) (e : W8) : (s.wr F.PAIR_STAT_EPOCH e.toNat).epoch = e := by
  rw [State.epoch, State.rd_wr_same _ _ _ (by decide), Nat.mod_eq_of_lt e.isLt, BitVec.ofNat_toNat, BitVec.setWidth_eq]

theorem takeNextEpoch_epoch (s : State) : s.takeNextEpoch.epoch = s.epoch + 1 := epoch_wr ..

theorem takeNextEpoch_lease (s : State) : s.takeNextEpoch.pair.lease = some { epoch := s.epoch + 1, exp := s.now + s.leaseTicks } := by
  rw [State.takeNextEpoch, State.mapPair_pair, epoch_wr, State.leaseTicks, State.rd_wr_apart _ _ (by decide), State.wr_now, State.leaseTicks]

theorem refreshPair_epoch (s : State) : s.refreshPair.epoch = s.epoch := by rw [State.epoch, refreshPair_rd (by decide), State.epoch]

theorem applyPair_cfg {s : State} {d : List W32} (hr : pairRanges d = true) :
    (s.applyPair d true).mode = bits (word d 2) 0 2 ∧ (s.applyPair d true).rd F.PAIR_CFG_SIDE = bits (word d 2) 2 1 ∧
      (s.applyPair d true).rd F.PAIR_CFG_LEASE = word d 3 ∧ (s.applyPair d true).rd F.PAIR_CFG_DRILL_H = word d 4 := by
  have hcfg := putPairCfg_cfg (s := s) hr
  simp only [State.mode] at hcfg ⊢
  rw [applyPair_eq]
  split
  · simpa (disch := decide) only [refreshPair_rd, takeNextEpoch_rd] using hcfg
  · simpa (disch := decide) only [refreshPair_rd] using hcfg

theorem applyPair_acting (s : State) (d : List W32) : (s.applyPair d true).acting = s.acting := by
  rw [applyPair_eq]
  split
  · rw [refreshPair_acting, takeNextEpoch_acting, (putPairCfg_stat s d).1]
  · rw [refreshPair_acting, (putPairCfg_stat s d).1]

/-- A holder that leaves MODE 00 starts a lease of the next epoch (R242). -/
theorem applyPair_leaves_mode0 {s : State} {d : List W32} (hr : pairRanges d = true) (h0 : s.mode = 0) (hnew : bits (word d 2) 0 2 ≠ 0)
    (hact : s.acting = true) : (s.applyPair d true).epoch = s.epoch + 1 ∧
      (s.applyPair d true).pair.lease = some { epoch := s.epoch + 1, exp := s.now + word d 3 * 10 * msTicks } := by
  obtain ⟨hmode, -, hlease, -⟩ := putPairCfg_cfg (s := s) hr
  obtain ⟨hacting, hepoch⟩ := putPairCfg_stat s d
  rw [applyPair_eq, if_pos ⟨h0, by rwa [hmode], by rwa [hacting]⟩, refreshPair_epoch, refreshPair_pair, takeNextEpoch_epoch, takeNextEpoch_lease,
    hepoch, State.leaseTicks, hlease]
  exact ⟨rfl, rfl⟩

theorem applyPair_keeps_lease {s : State} {d : List W32} (hr : pairRanges d = true)
    (h : s.mode ≠ 0 ∨ bits (word d 2) 0 2 = 0 ∨ s.acting = false) :
    (s.applyPair d true).epoch = s.epoch ∧ (s.applyPair d true).pair.lease = s.pair.lease := by
  obtain ⟨hmode, -⟩ := putPairCfg_cfg (s := s) hr
  obtain ⟨hacting, hepoch⟩ := putPairCfg_stat s d
  rw [applyPair_eq, if_neg, refreshPair_epoch, refreshPair_pair, hepoch]
  · exact ⟨rfl, rfl⟩
  · rintro ⟨h0, hnew, hact⟩
    rw [hmode] at hnew
    rw [hacting] at hact
    simp [h0, hnew, hact] at h

/-! ### PAIR_CONFIGURE -/

/-- What mirroring a command leaves alone of the pair's state. -/
theorem mirrorSettings_pair (s : State) (d : List W32) (data : List W8) :
    let u := s.mirrorSettings d data
    u.mode = s.mode ∧ u.acting = s.acting ∧ u.epoch = s.epoch ∧ u.pair = s.pair ∧ u.now = s.now := by
  have hq := mirrorSettings_quietKept s d data
  obtain ⟨-, r, m, hrest⟩ := mirrorSettings_onlyMirror s d data
  refine ⟨hq.rd (by simp [quietReg]), hq.flag (by simp [quietReg]), congrArg (BitVec.ofNat 8) (hq.rd (by simp [quietReg])), ?_, ?_⟩ <;> rw [hrest]

/-- What PAIR_CONFIGURE answers: one of three refusals, or the settings mirrored and applied. -/
theorem exec_pairConfigure {x : Exe} {i : Nat} {k : Taken} {s : State} (hs : Starts s .pairConfigure x i k)
    (h2 : onlyBits (word k.d 2) 7 = true) (hm : bits (word k.d 2) 0 2 ≠ 3) (h3 : onlyBits (word k.d 3) 0xFF = true)
    (h4 : onlyBits (word k.d 4) 0x3FF = true) :
    exec (.pairConfigure x) s = .next (Ans.settle i k x.rplOk
      (if !s.fresh0 && !s.acting then .refuse .notLampHolder
        else if !pairRanges k.d || (!s.fresh0 && !decide (bits (word k.d 2) 2 1 = s.rd F.PAIR_CFG_SIDE)) then .refuse .badParam
        else if decide (bits (word k.d 2) 0 2 = 0) && s.mode != 0 && (s.pair.lease.isSome || s.mateUp) then .refuse .busy
        else .ok (((s.tick x.t).mirrorSettings k.d []).applyPair k.d true) []) (s.tick x.t)) := by
  show Host.Outcome.next _ = _
  rw [State.run_starts hs (by simp only [h2, h3, h4, hm, ne_eq, not_false_eq_true, decide_true, Bool.and_self])]
  rfl

/-! The three tests of PAIR_CONFIGURE, as the statement has them. -/

theorem not_mayConfigure_iff {s : State} : (!s.fresh0 && !s.acting) = true ↔ ¬(s.fresh0 = true ∨ s.acting = true) := by
  simp

theorem not_goodConfigure_iff {s : State} {d : List W32} :
    (!pairRanges d || (!s.fresh0 && !decide (bits (word d 2) 2 1 = s.rd F.PAIR_CFG_SIDE))) = true ↔
      ¬(pairRanges d = true ∧ (s.fresh0 = true ∨ bits (word d 2) 2 1 = s.rd F.PAIR_CFG_SIDE)) := by
  simp [imp_iff_not_or]

theorem apartConfigure_iff {s : State} {d : List W32} :
    (decide (bits (word d 2) 0 2 = 0) && s.mode != 0 && (s.pair.lease.isSome || s.mateUp)) = true ↔
      bits (word d 2) 0 2 = 0 ∧ s.mode ≠ 0 ∧ (s.pair.lease ≠ none ∨ s.mateUp = true) := by
  simp [and_assoc, Option.isSome_iff_ne_none]

section
variable {x : Exe} {i : Nat} {k : Taken} {s : State} (hs : Starts s .pairConfigure x i k) (h2 : onlyBits (word k.d 2) 7 = true)
  (hm : bits (word k.d 2) 0 2 ≠ 3) (h3 : onlyBits (word k.d 3) 0xFF = true) (h4 : onlyBits (word k.d 4) 0x3FF = true)
include hs h2 hm h3 h4

theorem pairConfigure_notHolder (hmay : ¬(s.fresh0 = true ∨ s.acting = true)) :
    exec (.pairConfigure x) s = .next ((s.tick x.t).finish i k .notLampHolder [] x.rplOk) := by
  rw [exec_pairConfigure hs h2 hm h3 h4, if_pos (not_mayConfigure_iff.2 hmay)]
  rfl

variable (hmay : s.fresh0 = true ∨ s.acting = true)
include hmay

theorem pairConfigure_outOfRange
    (hgood : ¬(pairRanges k.d = true ∧ (s.fresh0 = true ∨ bits (word k.d 2) 2 1 = s.rd F.PAIR_CFG_SIDE))) :
    exec (.pairConfigure x) s = .next ((s.tick x.t).finish i k .badParam [] x.rplOk) := by
  rw [exec_pairConfigure hs h2 hm h3 h4, if_neg fun h => not_mayConfigure_iff.1 h hmay, if_pos (not_goodConfigure_iff.2 hgood)]
  rfl

variable (hgood : pairRanges k.d = true ∧ (s.fresh0 = true ∨ bits (word k.d 2) 2 1 = s.rd F.PAIR_CFG_SIDE))
include hgood

theorem pairConfigure_busy (hapart : bits (word k.d 2) 0 2 = 0 ∧ s.mode ≠ 0 ∧ (s.pair.lease ≠ none ∨ s.mateUp = true)) :
    exec (.pairConfigure x) s = .next ((s.tick x.t).finish i k .busy [] x.rplOk) := by
  rw [exec_pairConfigure hs h2 hm h3 h4, if_neg fun h => not_mayConfigure_iff.1 h hmay, if_neg fun h => not_goodConfigure_iff.1 h hgood,
    if_pos (apartConfigure_iff.2 hapart)]
  rfl

theorem pairConfigure_taken (hapart : ¬(bits (word k.d 2) 0 2 = 0 ∧ s.mode ≠ 0 ∧ (s.pair.lease ≠ none ∨ s.mateUp = true))) :
    ∃ u : State, exec (.pairConfigure x) s = .next (u.finish i k .ok [] x.rplOk) ∧ u.mode = bits (word k.d 2) 0 2 ∧
      u.rd F.PAIR_CFG_SIDE = bits (word k.d 2) 2 1 ∧ u.rd F.PAIR_CFG_LEASE = word k.d 3 ∧ u.rd F.PAIR_CFG_DRILL_H = word k.d 4 ∧
      u.acting = s.acting ∧
      (s.mode = 0 → bits (word k.d 2) 0 2 ≠ 0 → s.acting = true → u.epoch = s.epoch + 1 ∧
        u.pair.lease = some { epoch := s.epoch + 1, exp := max s.now x.t + word k.d 3 * 10 * msTicks }) ∧
      ((s.mode ≠ 0 ∨ bits (word k.d 2) 0 2 = 0 ∨ s.acting = false) → u.epoch = s.epoch ∧ u.pair.lease = s.pair.lease) := by
  have hranges := hgood.1
  obtain ⟨hmode, hact, hepoch, hpair, hnow⟩ := mirrorSettings_pair (s.tick x.t) k.d []
  obtain ⟨hmode', hside, hlease, hdrill⟩ := applyPair_cfg (s := (s.tick x.t).mirrorSettings k.d []) hranges
  refine ⟨((s.tick x.t).mirrorSettings k.d []).applyPair k.d true, ?_, hmode', hside, hlease, hdrill, ?_, fun h0 hnew ha => ?_, fun h => ?_⟩
  · rw [exec_pairConfigure hs h2 hm h3 h4, if_neg fun h => not_mayConfigure_iff.1 h hmay, if_neg fun h => not_goodConfigure_iff.1 h hgood,
      if_neg fun h => hapart (apartConfigure_iff.1 h)]
    rfl
  · exact (applyPair_acting ..).trans hact
  · have hleave := applyPair_leaves_mode0 hranges (hmode.trans h0) hnew (hact.trans ha)
    rwa [hepoch, hnow] at hleave
  · have hkeep := applyPair_keeps_lease (s := (s.tick x.t).mirrorSettings k.d []) hranges (by rwa [hmode, hact])
    rwa [hepoch, hpair] at hkeep

end

/-! ### PAIR_SWAP (R242, R252) and PAIR_STATUS (R20, R251) -/

/-- SWAP_REQ and DRILL_DUE are raised, and the request waits for its handover. -/
def State.requestSwap (s : State) : State :=
  (((s.raise F.PAIR_STAT_SWAP_REQ).raise F.PAIR_INT_DRILL_DUE).mapPair fun p => { p with swapAt := p.swapAt ++ [s.now] }).refreshPair

@[simp] theorem mapPair_flag (s : State) (f : PairSt → PairSt) (g : Fld) : (s.mapPair f).flag g = s.flag g := rfl

theorem exec_pairSwap {x : Exe} {i : Nat} {k : Taken} {s : State} (hs : Starts s .pairSwap x i k) :
    exec (.pairSwap x) s = .next (Ans.settle i k x.rplOk
      (if s.pair.ho.isSome then .refuse .busy else if !s.mateUp || s.hbBit 2 then .refuse .staleMirror
        else .accepted (s.tick x.t).requestSwap []) (s.tick x.t)) := by
  show Host.Outcome.next _ = _
  rw [State.run_starts hs rfl]
  rfl

theorem requestSwap_flag {s : State} : s.requestSwap.flag F.PAIR_STAT_SWAP_REQ = true ∧ s.requestSwap.flag F.PAIR_INT_DRILL_DUE = true ∧
    s.requestSwap.acting = s.acting := by
  refine ⟨?_, ?_, ?_⟩
  · rw [State.requestSwap, refreshPair_flag (by decide), mapPair_flag, State.raise, flag_wr_apart _ _ (by decide), State.raise,
      flag_wr_same _ _ _ (by decide) rfl]
    rfl
  · rw [State.requestSwap, refreshPair_flag (by decide), mapPair_flag, State.raise, flag_wr_same _ _ _ (by decide) rfl]
    rfl
  · rw [State.requestSwap, refreshPair_acting, State.acting, mapPair_flag, State.raise, flag_wr_apart _ _ (by decide), State.raise,
      flag_wr_apart _ _ (by decide), State.acting]

theorem pairSwap_taken {x : Exe} {i : Nat} {k : Taken} {s : State} (hs : Starts s .pairSwap x i k) (hho : s.pair.ho = none)
    (hup : s.mateUp = true) (hstale : s.hbBit 2 = false) :
    ∃ u : State, exec (.pairSwap x) s = .next (u.accept i k [] x.rplOk) ∧ u.flag F.PAIR_STAT_SWAP_REQ = true ∧
      u.flag F.PAIR_INT_DRILL_DUE = true ∧ u.pair.swapAt = s.pair.swapAt ++ [max s.now x.t] ∧ u.acting = true := by
  obtain ⟨hreq, hdue, hact⟩ := requestSwap_flag (s := s.tick x.t)
  refine ⟨(s.tick x.t).requestSwap, ?_, hreq, hdue, ?_, hact.trans (hs.holder rfl)⟩
  · rw [exec_pairSwap hs, hho, hup, hstale]
    rfl
  · rw [State.requestSwap, refreshPair_pair]
    rfl

theorem pairSwap_busy {x : Exe} {i : Nat} {k : Taken} {s : State} (hs : Starts s .pairSwap x i k) (hho : s.pair.ho ≠ none) :
    exec (.pairSwap x) s = .next ((s.tick x.t).finish i k .busy [] x.rplOk) := by
  rw [exec_pairSwap hs, if_pos (Option.isSome_iff_ne_none.2 hho)]
  rfl

theorem pairSwap_stale {x : Exe} {i : Nat} {k : Taken} {s : State} (hs : Starts s .pairSwap x i k) (hho : s.pair.ho = none)
    (h : s.mateUp = false ∨ s.hbBit 2 = true) :
    exec (.pairSwap x) s = .next ((s.tick x.t).finish i k .staleMirror [] x.rplOk) := by
  rw [exec_pairSwap hs, hho, if_neg (by decide), if_pos (by simpa using h)]
  rfl

theorem pairStatus_answers {x : Exe} {i : Nat} {k : Taken} {s : State} (hs : Starts s .pairStatus x i k) :
    ∃ u : State, exec (.pairStatus x) s = .next (u.finish i k .ok [u.reg 0x40060004, u.reg 0x40060008,
        BitVec.ofNat 32 (min s.pair.disSince 0xFFFFFFFF), BitVec.ofNat 32 (min s.pair.dropSince 0xFFFFFFFF)] x.rplOk) ∧
      u.pair.disSince = 0 ∧ u.pair.dropSince = 0 ∧ u.acting = s.acting ∧ u.flag F.PAIR_LEASE_VALID = s.pair.lease.isSome := by
  refine ⟨(s.tick x.t).refreshPair.mapPair fun p => { p with disSince := 0, dropSince := 0 }, ?_, rfl, rfl, ?_, ?_⟩
  · show Host.Outcome.next _ = _
    rw [State.run_starts hs rfl]
    dsimp only
    rw [refreshPair_pair]
    rfl
  · rw [State.acting, mapPair_flag, ← State.acting, refreshPair_acting, State.acting, flag_tick, State.acting]
  · rw [mapPair_flag, refreshPair_leaseValid, State.tick_pair]

/-- Settles O50: PAIR_CONFIGURE by its three tests and by what `applyPair` stores, the others by the refresh of PAIR. -/
theorem pairCommands : Obligations.PairCommands := by
  intro x i k s
  refine ⟨fun hs h2 hm h3 h4 => ⟨?_, ?_, ?_, ?_⟩, fun hs => ⟨?_, ?_, ?_⟩, pairStatus_answers⟩
  · exact pairConfigure_taken hs h2 hm h3 h4
  · exact pairConfigure_notHolder hs h2 hm h3 h4
  · exact pairConfigure_outOfRange hs h2 hm h3 h4
  · exact pairConfigure_busy hs h2 hm h3 h4
  · exact pairSwap_taken hs
  · exact pairSwap_busy hs
  · exact pairSwap_stale hs

end Sys2Proof.Machine
end

section
/-! Proofs: boot steps, their failure, and the hour that clears FAILCNT (O17). -/
namespace Sys2Proof.Machine

/-! ### One step of the boot (R343) -/

theorem inStep_eq_false {s : State} {n k : Nat} (h : s.inStep n = true) (hk : k ≠ n) : s.inStep k = false := by
  have hstep : s.rd F.BOOT_STATUS_STEP = n := by
    simp only [State.inStep, Bool.and_eq_true, beq_iff_eq] at h
    exact h.1
  simp [State.inStep, hstep, hk.symm]

theorem bootStep_not_inStep {e : BootEnv} {s : State} {k : Nat} (h : s.inStep k = false) : s.bootStep e k = s := by
  simp [State.bootStep, h]

/-- The steps before the one in progress are over: nothing happens. -/
theorem bootSteps_before {e : BootEnv} {s : State} {n m : Nat} (h : s.inStep n = true) (hm : m < n) :
    (List.range m).foldl (fun s i => s.bootStep e (i + 1)) s = s := by
  induction m with
  | zero => rfl
  | succ m ih =>
    rw [List.range_succ, List.foldl_append, ih (by omega), List.foldl_cons, List.foldl_nil]
    exact bootStep_not_inStep (inStep_eq_false h (by omega))

theorem exec_bootSequence_begins {t : Nat} {e : BootEnv} {s : State} (h : s.inStep 0 = true) :
    exec (.bootSequence t 0 e) s = .next (s.tick t).beginBoot :=
  congrArg Host.Outcome.next (if_pos h)

/-- BOOT_SEQUENCE in step `n` carries out that step. -/
theorem exec_bootSequence_inStep {t : Nat} {n : Fin 12} {e : BootEnv} {s : State} (h1 : 1 ≤ n.val) (h : s.inStep n.val = true) :
    exec (.bootSequence t n e) s = .next ((s.tick t).bootStep e n.val) := by
  have h' : (s.tick t).inStep n.val = true := h
  obtain ⟨m, hm⟩ : ∃ m, n.val = m + 1 := ⟨n.val - 1, by omega⟩
  show Host.Outcome.next ((List.range n.val).foldl _ (if (s.tick t).inStep 0 = true then _ else _)) = _
  rw [inStep_eq_false h' (by omega), if_neg (by decide), hm, List.range_succ, List.foldl_append, bootSteps_before h' (by omega)]
  rfl

/-- The state in which step `k` ends: that of the tick the command gives. -/
def State.atEnd (s : State) (e : BootEnv) (k : Nat) : State := s.tick (e.ends.getD (k - 1) s.now)

section
variable {e : BootEnv} {s u : State} {k res : Nat} (h : s.inStep k = true) (hlim : (s.atEnd e k).now < s.boot.stepAt + stepLimit k)
include h hlim

theorem bootStep_recovers (hw : (s.atEnd e k).stepWork e k = (u, none)) : s.bootStep e k = u := by
  rw [State.atEnd] at hlim hw
  simp only [State.bootStep, h, hlim, decide_true, Bool.and_self, if_true, hw]

theorem bootStep_ends (hw : (s.atEnd e k).stepWork e k = (u, some res)) :
    s.bootStep e k = if k = 11 then (u.endStep k res).bootReady else (u.endStep k res).beginStep (k + 1) := by
  rw [State.atEnd] at hlim hw
  simp only [State.bootStep, h, hlim, decide_true, Bool.and_self, if_true, hw]

end

/-! ### The end of the boot (R25, R352) -/

/-- The firmware runs, BOOT_DONE is set and the phase is 2: everything of step 11 but the lamp. -/
def State.bootDone (s : State) : State :=
  let s := s.mapPwr fun w => { w with unrec := w.unrec || (List.range 32).any s.noSpare }
  let s := s.mapPins fun p => { p with faultN := !s.pwr.unrec }
  let s := ((s.setFwRun true).wr F.H2D_MASK_MASK s.runMask).raise F.BOOT_INT_BOOT_DONE
  ((s.wr F.BOOT_STATUS_PHASE 2).mapBoot fun b => { b with stepAt := s.now }).refreshFault

theorem bootReady_eq (s : State) :
    s.bootReady = if s.bootDone.mode = 0 ∧ s.bootDone.acting = false then s.bootDone.startActing else s.bootDone.refreshPair := rfl

theorem setFwRun_flag (s : State) (b : Bool) : (s.setFwRun b).flag F.MBX_STATUS_FW_RUN = b := by
  rw [State.setFwRun]
  split
  · assumption
  · rw [State.raise, flag_wr_apart _ _ (by decide), State.setFlag, flag_wr_same _ _ _ (by decide) rfl]
    cases b <;> rfl

theorem setFwRun_rd {s : State} {b : Bool} {f : Fld} (h : F.MBX_STATUS_FW_RUN.apart f = true) (herr : F.MBX_ERR_FW_RUN_CHG.apart f = true) :
    (s.setFwRun b).rd f = s.rd f := by
  rw [State.setFwRun]
  split
  · rfl
  · rw [State.raise, State.rd_wr_apart _ _ herr, State.setFlag, State.rd_wr_apart _ _ h]

theorem bootDone_phase (s : State) : s.bootDone.rd F.BOOT_STATUS_PHASE = 2 := by
  simp only [State.bootDone, State.refreshFault, State.setFlag]
  rw [State.rd_wr_apart _ _ (by decide), State.mapBoot_rd, State.rd_wr_same _ _ _ (by decide)]
  rfl

theorem bootDone_flag (s : State) : s.bootDone.flag F.MBX_STATUS_FW_RUN = true ∧ s.bootDone.flag F.BOOT_INT_BOOT_DONE = true := by
  simp only [State.bootDone, State.refreshFault, State.setFlag, State.raise]
  constructor
  · rw [flag_wr_apart _ _ (by decide), State.flag, State.mapBoot_rd, ← State.flag, flag_wr_apart _ _ (by decide), flag_wr_apart _ _ (by decide),
      flag_wr_apart _ _ (by decide), setFwRun_flag]
  · rw [flag_wr_apart _ _ (by decide), State.flag, State.mapBoot_rd, ← State.flag, flag_wr_apart _ _ (by decide),
      flag_wr_same _ _ _ (by decide) rfl]
    rfl

theorem bootDone_mode (s : State) : s.bootDone.mode = s.mode := by
  simp only [State.bootDone, State.refreshFault, State.setFlag, State.raise, State.mode]
  rw [State.rd_wr_apart _ _ (by decide), State.mapBoot_rd, State.rd_wr_apart _ _ (by decide), State.rd_wr_apart _ _ (by decide),
    State.rd_wr_apart _ _ (by decide), setFwRun_rd (by decide) (by decide), State.mapPins_rd, State.mapPwr_rd]

/-! ### Starting to act -/

/-- To start to act: ACTING is set, what follows it is no register of the boot, and PAIR is brought up to date. -/
theorem startActing_eq (s : State) : ∃ u, s.startActing = u.refreshPair ∧ QuietKept (s.setFlag F.PAIR_STAT_ACTING true) u :=
  ⟨_, rfl, (((QuietKept.refl _).wr (by simp [quietReg])).mapPair.mapMate.mapSel.openBurst).evalAll fun _ => lt_of_mem_groups⟩

theorem startActing_acting (s : State) : s.startActing.acting = true := by
  obtain ⟨u, he, hq⟩ := startActing_eq s
  rw [he, refreshPair_acting, State.acting, hq.flag (by simp [quietReg]), State.setFlag, flag_wr_same _ _ _ (by decide) rfl]
  rfl

/-- A field outside PAIR that evaluation does not write. -/
theorem startActing_rd {s : State} {f : Fld} (hf : quietReg f.addr) (hpair : ∀ g ∈ F.PAIR_STAT_ACTING :: pairFollowers, g.apart f = true) :
    s.startActing.rd f = s.rd f := by
  obtain ⟨u, he, hq⟩ := startActing_eq s
  obtain ⟨hacting, hfollow⟩ := List.forall_mem_cons.1 hpair
  rw [he, refreshPair_rd hfollow, hq.rd hf, State.setFlag, State.rd_wr_apart _ _ hacting]

/-- Taking the lamp or not, the end of the boot leaves the boot's fields as they are. -/
theorem bootReady_rd {s : State} {f : Fld} (hf : quietReg f.addr) (hpair : ∀ g ∈ F.PAIR_STAT_ACTING :: pairFollowers, g.apart f = true) :
    s.bootReady.rd f = s.bootDone.rd f := by
  rw [bootReady_eq]
  split
  · exact startActing_rd hf hpair
  · exact refreshPair_rd (List.forall_mem_cons.1 hpair).2

theorem bootReady_acts {s : State} (h : s.mode = 0) : s.bootReady.acting = true := by
  rw [bootReady_eq]
  split
  · exact startActing_acting _
  · next hc =>
    rw [bootDone_mode, h, eq_self, true_and, Bool.not_eq_false] at hc
    rw [refreshPair_acting, hc]

theorem bootReady_running (s : State) : s.bootReady.rd F.BOOT_STATUS_PHASE = 2 ∧ s.bootReady.flag F.MBX_STATUS_FW_RUN = true ∧
    s.bootReady.flag F.BOOT_INT_BOOT_DONE = true := by
  obtain ⟨hrun, hdone⟩ := bootDone_flag s
  refine ⟨?_, ?_, ?_⟩
  · rw [bootReady_rd (by simp [quietReg]) (by decide), bootDone_phase]
  · rw [State.flag, bootReady_rd (by simp [quietReg]) (by decide), ← State.flag, hrun]
  · rw [State.flag, bootReady_rd (by simp [quietReg]) (by decide), ← State.flag, hdone]

/-- The result of a step stands in the registers of BOOT. -/
theorem endStep_mode {s : State} {k res : Nat} : (s.endStep k res).mode = s.mode := by
  have hres : ∀ u : State, (u.wr ⟨0x40210004, 2 * (k - 1), 2⟩ res).mode = u.mode := fun u => State.rd_wr_addr _ _ (by simp)
  rw [State.endStep, State.raiseIf]
  split
  · rw [State.mode, State.raise, State.rd_wr_apart _ _ (by decide), ← State.mode, hres]
    rfl
  · rw [hres]
    rfl

/-! ### Failure of a step (R344) and the hour of running (R346) -/

theorem get_fuseOnly {l : List (Nat × W32)} {a : Nat} (h : ¬(0x40220000 ≤ a ∧ a < 0x40230000)) :
    Store.get RegTable.reset (fuseOnly l) a = RegTable.reset a := by
  induction l with
  | nil => rfl
  | cons x l ih =>
    rw [fuseOnly, List.filter_cons]
    split
    · next hx =>
      simp only [Bool.and_eq_true, decide_eq_true_eq] at hx
      rw [Store.get, if_neg (by rintro rfl; exact h hx)]
      exact ih
    · exact ih

/-- A device reset returns every register but the fuses to its reset value (R22, R370). -/
theorem deviceReset_reg {s : State} {a : Nat} (h : ¬(0x40220000 ≤ a ∧ a < 0x40230000)) : s.deviceReset.reg a = RegTable.reset a :=
  get_fuseOnly h

/-- It keeps the MRAM and the last entry of the step log, and nothing of the map and the mailboxes. -/
theorem deviceReset_memory (s : State) : s.deviceReset.boot.mram = s.boot.mram ∧ s.deviceReset.boot.lastLog = s.boot.lastLog ∧
    s.deviceReset.map = MapSt.reset ∧ s.deviceReset.mbx = Mbx.reset := ⟨rfl, rfl, rfl, rfl⟩

theorem OnlyRegs.foldl {α : Type} {f : State → α → State} {z : State} (hf : ∀ s x, OnlyRegs z s → OnlyRegs z (f s x)) (l : List α) {s : State}
    (h : OnlyRegs z s) : OnlyRegs z (l.foldl f s) := by
  induction l generalizing s with
  | nil => exact h
  | cons x l ih => exact ih (hf s x h)

theorem showRec_onlyRegs (s : State) : OnlyRegs s s.showRec := by
  refine .foldl (fun u k h => ?_) _ (OnlyRegs.refl s).wr.wr.wr.wr.wr.wr.wr.wr
  split <;> exact h.wr

/-- Writing the boot record leaves the last entry of the step log alone. -/
theorem writeRec_lastLog (s : State) (f : BootRec → BootRec) : (s.writeRec f).boot.lastLog = s.boot.lastLog := by
  rw [State.writeRec, (showRec_onlyRegs _).eq]
  rfl

theorem bootWatchdog_fails {t : Nat} {fatal : Bool} {k : Nat} {s : State} (hk : s.rd F.BOOT_STATUS_STEP = k) (h1 : 1 ≤ k)
    (h : s.inStep k = true) (hf : fatal = true ∨ s.boot.stepAt + stepLimit k ≤ max s.now t) :
    exec (.bootWatchdog t fatal) s =
      .next (((s.tick t).logStep k (if fatal then 5 else 4)).writeRec fun r => r.setCnt k (min 15 (r.cnt k + 1))).deviceReset := by
  subst hk
  exact if_pos ⟨h1, h, hf⟩

/-- Settles O17: the steps before the one in progress do nothing, and `bootReady` ends the boot; a failure is a device reset. -/
theorem bootStepsAndFailures : Obligations.BootStepsAndFailures := by
  refine ⟨fun t n e u res s => ⟨exec_bootSequence_begins, fun h1 h hlim => ⟨fun hw => ?_, fun hw => ⟨fun hn => ?_, fun hn => ?_⟩⟩⟩,
    fun t fatal k s => ⟨fun hk h1 h hf => ?_, fun hphase hhour => ?_⟩⟩
  · rw [exec_bootSequence_inStep h1 h, bootStep_recovers (s := s.tick t) h hlim hw]
  · rw [exec_bootSequence_inStep h1 h, bootStep_ends (s := s.tick t) h hlim hw, if_neg (by omega)]
  · obtain ⟨hphase, hrun, hdone⟩ := bootReady_running (u.endStep n.val res)
    refine next_of (exec_bootSequence_inStep h1 h) ?_
    rw [bootStep_ends (s := s.tick t) h hlim hw, if_pos hn]
    exact ⟨hphase, hrun, hdone, fun hm => bootReady_acts (endStep_mode.trans hm)⟩
  · obtain ⟨hmram, hlog, hmap, hmbx⟩ := deviceReset_memory
      (((s.tick t).logStep k (if fatal then 5 else 4)).writeRec fun r => r.setCnt k (min 15 (r.cnt k + 1)))
    exact next_of (bootWatchdog_fails hk h1 h hf) ⟨hmram, hlog.trans (writeRec_lastLog _ _), fun _ => deviceReset_reg, hmap, hmbx⟩
  · exact if_pos ⟨hphase, hhour⟩

end Sys2Proof.Machine
end

section
/-! Proofs: the distance of two frames whose numbers wrap (O6; R40). -/
namespace Sys2Proof.Machine

theorem fnDist_eq (a b : W16) : fnDist a b = (a.toNat + 65536 - b.toNat) % 65536 := by
  have hb : b.toNat < 65536 := b.isLt
  rw [fnDist, BitVec.toNat_sub, show a.toNat + 65536 - b.toNat = 2 ^ 16 - b.toNat + a.toNat by omega]

theorem fnFuture_iff (a b : W16) : fnFuture a b = true ↔ 1 ≤ fnDist a b ∧ fnDist a b ≤ 32767 := by
  simp only [fnFuture, Bool.and_eq_true, decide_eq_true_eq]

theorem fnDist_eq_zero {a b : W16} : fnDist a b = 0 ↔ a = b := by
  have ha : a.toNat < 65536 := a.isLt
  have hb : b.toNat < 65536 := b.isLt
  rw [fnDist_eq, ← BitVec.toNat_inj]
  omega

/-- Settles O6: the distance is below 65,536 and is 0 for the same frame alone. -/
theorem frameOrder : Obligations.FrameOrder := by
  intro a b
  have hlt : fnDist a b < 65536 := (a - b).isLt
  rw [← fnDist_eq]
  refine ⟨rfl, fnFuture_iff a b, ?_, fnDist_eq_zero⟩
  rw [Ne, ← fnDist_eq_zero, ← Bool.not_eq_true, fnFuture_iff]
  omega

end Sys2Proof.Machine
end

section
/-! Proofs: the commands of the generator block and REARM (O37; R38, R105, R398). -/
namespace Sys2Proof.Machine

theorem flag_setReg_other (s : State) {a : Nat} {v : W32} {f : Fld} (h : a ≠ f.addr) : (s.setReg a v).flag f = s.flag f := by
  rw [State.flag, State.rd, State.reg_setReg, if_neg h]
  rfl

/-! ### What each command does for a master that is served -/

section
variable {t : Nat} {m : Master} {s : State} (hb : s.barred m.val = false)
include hb

theorem exec_genConstWrite_of_served {w : Fin 3240} {v : W32} :
    exec (.genConstWrite t m w v) s = .next ((s.tick t).writeGenConst w.val v) := if_neg (not_barred_tick hb)

theorem exec_constHold_of_served {b : Bool} : exec (.constHold t m b) s = .next ((s.tick t).writeConstHold b) :=
  if_neg (not_barred_tick hb)

theorem exec_prbsRestart_of_served :
    exec (.prbsRestart t m) s = .next ((s.tick t).mapCore fun c => { c with prbsReq := true }) := if_neg (not_barred_tick hb)

theorem exec_prtIdleWrite_of_served {p : Port} {b : W8} :
    exec (.prtIdleWrite t m p b) s = .next ((s.tick t).wr (F.PRT_IDLE_IDLE p.val) b.toNat) := if_neg (not_barred_tick hb)

theorem exec_rearm_of_served : exec (.rearm t m) s = .next ((s.tick t).wr F.CANDLE_WORST_MIN_SLACK 0xFFF) :=
  if_neg (not_barred_tick hb)

end

/-! ### Constant words (R38) -/

/-- A constant word is stored, and becomes live unless CONST_HOLD is 1. -/
theorem writeGenConst_eq (s : State) (w : Nat) (v : W32) :
    s.writeGenConst w v = { s.setReg (0x40088000 + 4 * w) v with
      core := if s.flag F.GEN_CTRL_CONST_HOLD then s.core else { s.core with gen := Store.put genDefault s.core.gen w v } } := by
  have hflag := flag_setReg_other s (a := 0x40088000 + 4 * w) (v := v) (f := F.GEN_CTRL_CONST_HOLD) (by show _ ≠ 0x40087004; omega)
  rw [State.writeGenConst, hflag]
  split <;> rfl

theorem genConstWrite_stores {t : Nat} {m : Master} {w : Fin 3240} {v : W32} {s : State} (hb : s.barred m.val = false) :
    ∃ s', exec (.genConstWrite t m w v) s = .next s' ∧ s'.reg (0x40088000 + 4 * w.val) = v ∧
      (s.flag F.GEN_CTRL_CONST_HOLD = false → ∀ j, Store.get genDefault s'.core.gen j =
        if j = w.val then v else Store.get genDefault s.core.gen j) ∧
      (s.flag F.GEN_CTRL_CONST_HOLD = true → s'.core = s.core) ∧ RegsKept s s' [0x40088000 + 4 * w.val] ∧
      s' = { s with now := max s.now t, regs := s'.regs, core := { s.core with gen := s'.core.gen } } := by
  refine next_of (exec_genConstWrite_of_served hb) ?_
  rw [writeGenConst_eq, flag_tick]
  refine ⟨?_, fun hlive j => ?_, fun hheld => if_pos hheld, ?_, ?_⟩
  · exact ((s.tick t).reg_setReg ..).trans (if_pos rfl)
  · simp only [hlive, Bool.false_eq_true, if_false, Store.get_put, eq_comm, State.tick_core]
  · exact kept_of (kept_trans (kept_refl (s.tick_regs t)) (kept_setReg (List.mem_singleton_self _))) rfl
  · cases s.flag F.GEN_CTRL_CONST_HOLD <;> rfl

/-- What a store lists is read; a key that a filter drops because it has the default value reads the default. -/
theorem Store.get_filter_map_range {α : Type} [DecidableEq α] {d : Nat → α} (f : Nat → α) {n j : Nat} (h : j < n) {p : Nat × α → Bool}
    (hp : ∀ k, p (k, f k) = decide (f k ≠ d k)) : Store.get d (((List.range n).map fun k => (k, f k)).filter p) j = f j := by
  have main : ∀ l : List Nat, Store.get d ((l.map fun k => (k, f k)).filter p) j = if j ∈ l then f j else d j := by
    intro l
    induction l with
    | nil => rfl
    | cons k l ih =>
      rw [List.map_cons, List.filter_cons, hp]
      by_cases hk : k = j
      · subst hk
        by_cases hd : f k = d k
        · simp [hd, ih]
        · simp [hd, Store.get]
      · by_cases hd : f k = d k
        · simp [hd, ih, Ne.symm hk]
        · simp [hd, ih, Ne.symm hk, Store.get, hk]
  rw [main, if_pos (List.mem_range.2 h)]

/-- The words that become live when CONST_HOLD is cleared are those of the registers. -/
theorem get_shadowConsts (s : State) {j : Nat} (h : j < 3240) :
    Store.get genDefault s.shadowConsts j = s.reg (0x40088000 + 4 * j) :=
  Store.get_filter_map_range (fun w => s.reg (0x40088000 + 4 * w)) h fun _ => rfl

theorem constHold_sets {t : Nat} {m : Master} {s : State} (hb : s.barred m.val = false) :
    ∃ s', exec (.constHold t m true) s = .next s' ∧ s'.flag F.GEN_CTRL_CONST_HOLD = true ∧ RegsKept s s' [0x40087004] ∧
      s' = { s with now := max s.now t, regs := s'.regs } := by
  refine next_of (exec_constHold_of_served hb) ?_
  rw [State.writeConstHold, Bool.not_true, Bool.and_false]
  exact ⟨flag_wr_same _ _ _ (by decide) rfl, kept_trans (kept_refl (s.tick_regs t)) (kept_wr (by decide)), rfl⟩

/-- Clearing CONST_HOLD lets the words of the registers become live. -/
theorem writeConstHold_false {s : State} (hh : s.flag F.GEN_CTRL_CONST_HOLD = true) :
    s.writeConstHold false = (s.mapCore fun c => { c with gen := s.shadowConsts }).setFlag F.GEN_CTRL_CONST_HOLD false := by
  rw [State.writeConstHold, hh]
  rfl

theorem constHold_clears {t : Nat} {m : Master} {s : State} (hb : s.barred m.val = false) (hh : s.flag F.GEN_CTRL_CONST_HOLD = true) :
    ∃ s', exec (.constHold t m false) s = .next s' ∧ s'.flag F.GEN_CTRL_CONST_HOLD = false ∧
      (∀ j, j < 3240 → Store.get genDefault s'.core.gen j = s.reg (0x40088000 + 4 * j)) ∧ RegsKept s s' [0x40087004] ∧
      s' = { s with now := max s.now t, regs := s'.regs, core := { s.core with gen := s'.core.gen } } := by
  refine next_of (exec_constHold_of_served hb) ?_
  have hget : ∀ j, j < 3240 → Store.get genDefault (s.tick t).shadowConsts j = s.reg (0x40088000 + 4 * j) :=
    fun j hj => get_shadowConsts (s.tick t) hj
  rw [writeConstHold_false (s := s.tick t) hh, State.setFlag]
  generalize (s.tick t).shadowConsts = words at hget
  exact ⟨flag_wr_same _ _ _ (by decide) rfl, hget, kept_trans (kept_refl rfl) (kept_wr (by decide)), rfl⟩

/-! ### Idle bytes and the candle (R38, R105) -/

theorem prtIdleWrite_stores {t : Nat} {m : Master} {p : Port} {b : W8} {s : State} (hb : s.barred m.val = false) :
    ∃ s', exec (.prtIdleWrite t m p b) s = .next s' ∧ s'.rd (F.PRT_IDLE_IDLE p.val) = b.toNat ∧
      RegsKept s s' [(F.PRT_IDLE_IDLE p.val).addr] ∧ s' = { s with now := max s.now t, regs := s'.regs } := by
  refine next_of (exec_prtIdleWrite_of_served hb) ⟨?_, ?_, rfl⟩
  · rw [State.rd_wr_same _ _ _ (show 0 + 8 ≤ 32 by decide)]
    exact Nat.mod_eq_of_lt b.isLt
  · exact kept_trans (kept_refl (s.tick_regs t)) (kept_wr (List.mem_singleton_self _))

theorem rearm_resets {t : Nat} {m : Master} {s : State} (hb : s.barred m.val = false) :
    ∃ s', exec (.rearm t m) s = .next s' ∧ s'.rd F.CANDLE_WORST_MIN_SLACK = 0xFFF ∧ s'.rd F.CANDLE_WORST_FN = s.rd F.CANDLE_WORST_FN ∧
      RegsKept s s' [0x4008001C] ∧ s' = { s with now := max s.now t, regs := s'.regs } := by
  refine next_of (exec_rearm_of_served hb) ⟨?_, ?_, ?_, rfl⟩
  · rw [State.rd_wr_same _ _ _ (by decide)]
    rfl
  · rw [State.rd_wr_apart _ _ (by decide), State.tick_rd]
  · exact kept_trans (kept_refl (s.tick_regs t)) (kept_wr (by decide))

/-- Settles O37: constant words by `writeGenConst` and `shadowConsts`, the others by the one field they write. -/
theorem generatorCommands : Obligations.GeneratorCommands := fun _ _ _ _ _ _ _ hb =>
  ⟨genConstWrite_stores hb, constHold_sets hb, constHold_clears hb, exec_prbsRestart_of_served hb, prtIdleWrite_stores hb, rearm_resets hb⟩

end Sys2Proof.Machine
end

section
/-! Proofs: a register that received frames leave alone, through paths, traces, defects and overhead (R173, R180 to R190). -/
namespace Sys2Proof.Machine

/-- Register `a` reads in `u` as in `s`. -/
def RegKept (a : Nat) (s u : State) : Prop := u.reg a = s.reg a

namespace RegKept

variable {a : Nat} {s u w : State}

theorem refl (a : Nat) (s : State) : RegKept a s s := rfl

theorem trans (h : RegKept a s u) (g : RegKept a u w) : RegKept a s w := Eq.trans g h

theorem rd (h : RegKept a s u) {f : Fld} (hf : f.addr = a) : u.rd f = s.rd f := by
  subst hf
  rw [State.rd, State.rd, h]

theorem flag (h : RegKept a s u) {f : Fld} (hf : f.addr = a) : u.flag f = s.flag f := by rw [State.flag, State.flag, h.rd hf]

theorem ite {c : Prop} [Decidable c] (h : RegKept a s u) (g : RegKept a s w) : RegKept a s (if c then u else w) := by
  split <;> assumption

theorem ite_fst {β : Type} {c : Prop} [Decidable c] {x y : State × β} (h : RegKept a s x.1) (g : RegKept a s y.1) :
    RegKept a s (if c then x else y).1 := by
  split <;> assumption

theorem of_fst {β : Type} {x : State × β} {v : State} {y : β} (e : x = (v, y)) (h : RegKept a s x.1) : RegKept a s v := by
  subst e
  exact h

theorem foldl {α : Type} {f : State → α → State} {l : List α} (h : RegKept a s u) (hf : ∀ v x, RegKept a s v → RegKept a s (f v x)) :
    RegKept a s (l.foldl f u) := by
  induction l generalizing u with
  | nil => exact h
  | cons x l ih => exact ih (hf u x h)

theorem foldl_fst {α β : Type} {f : State × β → α → State × β} {l : List α} {z : State × β} (h : RegKept a s z.1)
    (hf : ∀ v x, RegKept a s v.1 → RegKept a s (f v x).1) : RegKept a s (l.foldl f z).1 := by
  induction l generalizing z with
  | nil => exact h
  | cons x l ih => exact ih (hf z x h)

section
variable (h : RegKept a s u)
include h

theorem wr {f : Fld} {v : Nat} (hf : f.addr ≠ a) : RegKept a s (u.wr f v) := by
  rw [RegKept, reg_wr, if_neg hf, h]

theorem inc {f : Fld} {n : Nat} (hf : f.addr ≠ a) : RegKept a s (u.inc f n) := h.wr hf

theorem raise {f : Fld} (hf : f.addr ≠ a) : RegKept a s (u.raise f) := h.wr hf

theorem setFlag {f : Fld} {b : Bool} (hf : f.addr ≠ a) : RegKept a s (u.setFlag f b) := h.wr hf

/-! The line state is no register. -/

theorem mapLine {f : LineSt → LineSt} : RegKept a s (u.mapLine f) := h

theorem mapDyn {p : Nat} {f : PortDyn → PortDyn} : RegKept a s (u.mapDyn p f) := h

theorem mapPrx {p : Nat} {f : PortRx → PortRx} : RegKept a s (u.mapPrx p f) := h

theorem setFramer {k : Nat} {f : Framer} : RegKept a s (u.setFramer k f) := h

theorem observe {k v : Nat} : RegKept a s (u.observe k v) := h

theorem setVt {p code : Nat} {x : VtRx} : RegKept a s (u.setVt p code x) := h

theorem setPath {p code : Nat} {x : PathRx} : RegKept a s (u.setPath p code x) := h

theorem setTx {p : Nat} {bs : List W8} : RegKept a s (u.setTx p bs) := h

theorem setClient {p : Nat} {c : ClientRx} : RegKept a s (u.setClient p c) := h

theorem queueOh {p t : Nat} {bs : List W8} : RegKept a s (u.queueOh p t bs) := h

theorem dropRuns {p : Nat} {client : Bool} : RegKept a s (u.dropRuns p client) := h

theorem addViol {key n : Nat} : RegKept a s (u.addViol key n) := h.ite h.mapLine

theorem updateRdi {p : Nat} : RegKept a s (u.updateRdi p) := h.mapDyn.ite h.mapDyn

theorem endClient {p : Nat} : RegKept a s (u.endClient p) := h.mapDyn.ite h

theorem loopOtu {p : Nat} {d : List W8} : RegKept a s (u.loopOtu p d) := h.mapLine.ite h

/-! Defects of a port. -/

theorem setDef {p i : Nat} {b : Bool} (hdef : prtBase p + 0x10C ≠ a) (hint : prtBase p + 0x110 ≠ a) : RegKept a s (u.setDef p i b) :=
  h.ite ((h.wr hdef).wr hint)

theorem portCond {p id i n : Nat} {b : Bool} (hdef : prtBase p + 0x10C ≠ a) (hint : prtBase p + 0x110 ≠ a) :
    RegKept a s (u.portCond p id i n b) :=
  h.observe.setDef hdef hint

end

end RegKept

/-! ### Paths -/

/-- A register of port `p` that its paths and traces leave alone: below the trace slots, and not PRT_DEF_INT. -/
def aside (p a : Nat) : Prop := prtBase p ≤ a ∧ a < prtBase p + 0xA00 ∧ a ≠ prtBase p + 0x110

theorem aside.path_ne {p a : Nat} (ha : aside p a) (o code : Nat) : prtBase p + o + pathKey code ≠ a := by
  obtain ⟨_, hlt, _⟩ := ha
  simp only [prtBase, pathKey] at hlt ⊢
  omega

theorem aside.tti_ne {p a : Nat} (ha : aside p a) {o : Nat} (ho : 0xA00 ≤ o) (n : Nat) : prtBase p + o + n * 0x4 ≠ a := by
  obtain ⟨_, hlt, _⟩ := ha
  omega

theorem aside.defInt_ne {p a : Nat} (ha : aside p a) : prtBase p + 0x110 ≠ a := Ne.symm ha.2.2

namespace RegKept
section
variable {p a : Nat} {s u : State} (h : RegKept a s u) (ha : aside p a)
include h ha

theorem setPathNow {code v : Nat} {silent : Bool} : RegKept a s (u.setPathNow p code v silent) := by
  have hwr := (h.wr (f := F.PATH_DEF_NOW p code) (v := v) (ha.path_ne _ _)).wr (f := F.PATH_DEF_SEEN p code)
    (v := u.rd (F.PATH_DEF_SEEN p code) ||| v) (ha.path_ne _ _)
  exact h.ite (hwr.ite (hwr.raise ha.defInt_ne))

theorem setPathDef {code i : Nat} {b : Bool} : RegKept a s (u.setPathDef p code i b) := h.setPathNow ha

theorem pathCond {code id i n m : Nat} {b : Bool} : RegKept a s (u.pathCond p code id i n m b) := h.observe.setPathDef ha

/-- A defect that one condition sets and another clears. -/
theorem setOrClear {code i : Nat} {c d : Prop} [Decidable c] [Decidable d] :
    RegKept a s (if c then u.setPathDef p code i true else if d then u.setPathDef p code i false else u) :=
  (h.setPathDef ha).ite ((h.setPathDef ha).ite h)

theorem setPtr {code st : Nat} {ais lop : Bool} : RegKept a s (u.setPtr p code st ais lop) :=
  ((h.wr (by exact ha.path_ne _ _)).setPathDef ha).setPathDef ha

theorem applyPtr {code max v : Nat} {act : PtrAct} : RegKept a s (u.applyPtr p code max v act) := by
  cases act with
  | keep => exact h
  | inc | dec => exact (h.wr (by exact ha.path_ne _ _)).inc (by exact ha.path_ne _ _)
  | jump => exact (h.wr (by exact ha.path_ne _ _)).setPtr ha
  | ais | lop => exact h.setPtr ha

omit ha in
theorem pointer {code word max adj : Nat} {ones ok : Bool} : RegKept a s (u.pointer p code word ones ok max adj).1 :=
  h.observe.observe.observe.observe

/-! Traces (R187). -/

theorem refreshTim {code : Nat} : RegKept a s (u.refreshTim p code) := h.ite (h.setPathDef ha)

theorem trace {k code : Nat} {tr cmp : List W8} : RegKept a s (u.trace p k code tr cmp) := by
  unfold State.trace
  extract_lets x n noted shown
  have hnoted : RegKept a s noted := h.mapLine
  have hshown : RegKept a s shown := hnoted.foldl fun _ _ hv => hv.wr (ha.tti_ne (by decide) _)
  exact ((hshown.setFlag (ha.tti_ne (by decide) _)).refreshTim ha).ite hnoted

theorem traceByte {code : Nat} {b : W8} {kind : Nat} : RegKept a s (State.traceByte p code b u kind) := by
  refine h.foldl fun _ _ hv => ?_
  extract_lets x
  split
  · exact hv.trace ha
  · exact hv.mapLine

/-! VTs (R182, R184, R188). -/

theorem takeV5 {code : Nat} {b : W8} {acc : Option W8} : RegKept a s (u.takeV5 p code b acc).1 := by
  have hcounted : ∀ n m, RegKept a s (((u.inc (F.PATH_BIP_COUNT p code) n).addViol (pathAt p code) n).inc (F.PATH_REI_COUNT p code) m) :=
    fun n m => (h.inc (ha.path_ne _ _)).addViol.inc (ha.path_ne _ _)
  exact (((hcounted _ _).observe.observe.setOrClear ha).observe.setOrClear ha).pathCond ha

theorem takeVtPoh {code k : Nat} {b : W8} {acc : Option W8} : RegKept a s (u.takeVtPoh p code k b acc).1 :=
  (h.takeV5 ha).ite_fst ((h.traceByte ha).ite h)

theorem vtPayload {code n : Nat} {x : VtRx} {put : List (Nat × W8)} {bs : List W8} : RegKept a s (vtPayload p code n u x put bs).1 := by
  induction bs generalizing u x put with
  | nil => exact h
  | cons b bs ih =>
    unfold Machine.vtPayload
    split
    · exact h
    · exact (ih (h.takeVtPoh ha)).ite_fst (ih h)

theorem vtFrame {code phase : Nat} {vt2 : Bool} {bs : List W8} : RegKept a s (u.vtFrame p code phase vt2 bs).1 := by
  unfold State.vtFrame
  extract_lets n max x b0 word adj off pointed applied start ok
  have happlied : RegKept a s applied := h.pointer.applyPtr ha
  clear_value applied pointed
  split
  next v y hv =>
    have hread : RegKept a s v := of_fst hv (h.ite_fst (ite_fst happlied h))
    extract_lets data y' put done
    have hdone : RegKept a s done := (hread.vtPayload ha).setVt
    clear_value done put
    exact ite_fst hdone hdone

omit h in
theorem relockVt {f m phase : Nat} {lom : Bool} {spe : List (Option W8)} {z : State × List (Nat × Option W8) × List (Nat × List W8)}
    {c : Nat × Nat × Nat × Bool} (hz : RegKept a s z.1) : RegKept a s (State.relockVt p f m phase lom spe z c).1 := by
  unfold State.relockVt
  extract_lets v cell g k vt2 code n at_ blank lost x framed
  have hframed : RegKept a s framed.1 := hz.vtFrame ha
  clear_value framed
  refine ite_fst (hz.setPtr ha).setVt ?_
  split <;> exact hframed

/-! SPEs and pointers (R182 to R184, R190). -/

theorem takeH4 {code : Nat} {b : W8} : RegKept a s (u.takeH4 p code b) := (h.pathCond ha).setPath

theorem takeLabels {code : Nat} {vts : Bool} {c2 g1 : W8} : RegKept a s (u.takeLabels p code vts c2 g1) := by
  unfold State.takeLabels
  extract_lets unequipped labelled matched rdi n
  have hlabelled : RegKept a s labelled := (h.pathCond ha).observe
  have hmatched : RegKept a s matched := (hlabelled.setPathDef ha).ite hlabelled
  exact (hmatched.pathCond ha).inc (ha.path_ne _ _)

theorem takeSpe {f m : Nat} {spe : Spe} : RegKept a s (u.takeSpe p f m spe) := by
  unfold State.takeSpe
  extract_lets code raw vts x mask n whole phase stored counted labelled traced phased lom list z
  have hcounted : RegKept a s counted := (h.setPath.inc (ha.path_ne _ _)).addViol
  have htraced : RegKept a s traced := (hcounted.takeLabels ha).foldl fun _ _ hv => hv.traceByte ha
  have hphased : RegKept a s phased := htraced.ite (htraced.takeH4 ha)
  have hz : RegKept a s z.1 := foldl_fst hphased fun _ _ hv => relockVt ha hv
  exact hz.setPath

theorem closeSpe {f m : Nat} {force : Bool} : RegKept a s (u.closeSpe p f m force) := by
  unfold State.closeSpe
  extract_lets code x
  split
  · exact h
  · exact (h.setPath.takeSpe ha).ite h

theorem feed {f m i0 : Nat} {bs : List W8} {t0 : Nat → Nat} : RegKept a s (u.feed p f m i0 bs t0) := by
  unfold State.feed
  extract_lets code k isOpen x filled closed
  have hclosed : RegKept a s closed := (h.ite h.setPath).closeSpe ha
  exact hclosed.ite (hclosed.closeSpe ha).setPath

theorem pathFrame {starts : List Nat} {n : Nat} {bs : List W8} {hd : Nat × Nat} : RegKept a s (State.pathFrame starts n p bs u hd) := by
  unfold State.pathFrame
  extract_lets f m code places x0 t off was fed row ptr w members conc ones x adj pointed applied y counted o rest vts
  have hfed : RegKept a s fed := (h.feed ha).ite h
  clear_value fed
  have happlied : RegKept a s applied := hfed.pointer.applyPtr ha
  clear_value applied
  have hcounted : RegKept a s counted := happlied.setPath
  clear_value counted
  exact ((hcounted.feed ha).ite ((hcounted.feed ha).ite (hcounted.feed ha))).ite
    ((hcounted.closeSpe ha).foldl fun _ _ hv => hv.setVt)

/-! Loss of the frame (R173). -/

theorem clearTti {k : Nat} : RegKept a s (State.clearTti p u k) := (h.setFlag (ha.tti_ne (by decide) _)).mapLine

theorem acquirePath {silent : Bool} {code : Nat} : RegKept a s (State.acquirePath silent p u code) :=
  foldl ((h.setPathNow ha).wr (ha.path_ne _ _)) fun _ _ hv => hv.clearTti ha

theorem acquire {silent : Bool} : RegKept a s (u.acquire p silent) := h.foldl fun _ _ hv => hv.acquirePath ha

theorem refreshClient {was : Bool} : RegKept a s (u.refreshClient p was) := h.ite (h.mapDyn.ite (h.mapDyn.acquire ha))

end

end RegKept

/-! ### The frame of a port and its overhead -/

/-- A register of port `p` apart from its defects, counters, PRT_FRM and PRT_QL_RX, which every frame may change: PRT_STATUS, and those
from PRT_J0_RX up to the trace slots. -/
def calm (p a : Nat) : Prop := a = prtBase p + 0x4 ∨ (prtBase p + 0x144 ≤ a ∧ a < prtBase p + 0xA00)

theorem calm.aside {p a : Nat} (ha : calm p a) : aside p a := by
  unfold calm at ha
  unfold Machine.aside
  omega

theorem calm.mid_ne {p a o : Nat} (ha : calm p a) (hlo : 4 < o := by decide) (hhi : o < 0x144 := by decide) : prtBase p + o ≠ a := by
  unfold calm at ha
  omega

theorem calm.cnt_ne {p a n : Nat} (ha : calm p a) (hn : n < 8 := by decide) : prtBase p + 0x120 + n * 0x4 ≠ a := by
  unfold calm at ha
  omega

theorem calm.before_ne {p a b : Nat} (ha : calm p a) (hb : b < 0x40100000) : b ≠ a := by
  simp only [calm, prtBase] at ha
  omega

namespace RegKept
section
variable {p a : Nat} {s u : State} (h : RegKept a s u) (ha : calm p a)
include h ha

theorem condition {id i n : Nat} {b : Bool} : RegKept a s (u.portCond p id i n b) := h.portCond ha.mid_ne ha.mid_ne

theorem defect {i : Nat} {b : Bool} : RegKept a s (u.setDef p i b) := h.setDef ha.mid_ne ha.mid_ne

omit ha in
theorem takeQl {b : W8} (hql : prtBase p + 0x140 ≠ a) : RegKept a s (u.takeQl p b) :=
  ((h.observe.wr hql).raise hql).ite h.observe

theorem takeAps {k1 k2 : W8} : RegKept a s (u.takeAps p k1 k2) := by
  unfold State.takeAps
  extract_lets v observed
  have hobserved : RegKept a s observed := h.observe
  split
  · exact hobserved
  next g hg =>
    have hlt := lt_of_mem_groups (List.mem_map_of_mem (List.mem_of_find?_eq_some hg))
    have haddr : 0x40090400 + g.1 * 4 ≠ a := ha.before_ne (by omega)
    exact ((hobserved.wr haddr).raise (ha.before_ne (by decide))).ite hobserved

/-- What follows J0 in the overhead of a line frame. -/
theorem afterJ0 {k1 k2 ql : W8} {ais rdi : Bool} {t : Nat} {bs : List W8} :
    RegKept a s (((((u.takeAps p k1 k2).takeQl p ql).portCond p 2 3 5 ais).portCond p 3 4 5 rdi).queueOh p t bs) :=
  ((((h.takeAps ha).takeQl ha.mid_ne).condition ha).condition ha).queueOh

theorem lineOverhead {n t : Nat} {raw bs : List W8} {client : Bool} (hj0 : prtBase p + 0x144 ≠ a) :
    RegKept a s (u.lineOverhead p n t raw bs client) := by
  unfold State.lineOverhead
  extract_lets r oh b1 b2 parity counted viol rei j0 aps k conds
  have hcounted : RegKept a s counted := (h.mapPrx.inc ha.cnt_ne).inc ha.cnt_ne
  have hviol : RegKept a s viol := hcounted.ite hcounted.addViol
  have hj0 : RegKept a s j0 := (hviol.inc ha.cnt_ne).wr hj0
  exact hj0.afterJ0 ha

theorem falseLock_client : RegKept a s (u.falseLock p true) :=
  RegKept.refreshClient (foldl (h.inc ha.mid_ne).dropRuns fun _ _ hv => hv.setFramer) ha.aside

theorem refreshFrame (h4 : prtBase p + 4 ≠ a) : RegKept a s (u.refreshFrame p) := by
  unfold State.refreshFrame
  extract_lets all skew now state lanes skewed framed since gone
  have hstate : RegKept a s state := (h.setFlag ha.mid_ne).wr ha.mid_ne
  clear_value state
  have hskewed : RegKept a s skewed := (hstate.wr ha.mid_ne).defect ha
  clear_value skewed
  have hsince : RegKept a s since := (((hskewed.setFlag h4).raise ha.mid_ne).defect ha).mapDyn
  clear_value since
  have hgone : RegKept a s gone := (hsince.setFlag ha.mid_ne).ite (hsince.endClient.acquire ha.aside)
  clear_value gone
  exact (hskewed.defect ha).ite hgone.updateRdi

theorem falseLock_port (h4 : prtBase p + 4 ≠ a) : RegKept a s (u.falseLock p false) :=
  refreshFrame (foldl (h.inc ha.mid_ne).dropRuns fun _ _ hv => hv.setFramer) ha h4

/-! The client of an OTN port (R169, R189). -/

theorem checkFrame_client {n : Nat} {starts : List Nat} {raw : List W8} : RegKept a s (u.checkFrame p n true starts raw) := by
  unfold State.checkFrame
  extract_lets ks checked
  have hchecked : RegKept a s checked := h.foldl fun _ _ hv => hv.setFramer.ite hv
  exact hchecked.refreshClient ha.aside

theorem sonetFrame_client {starts : List Nat} {raw : List W8} (hj0 : prtBase p + 0x144 ≠ a) :
    RegKept a s (u.sonetFrame p true starts raw) := by
  unfold State.sonetFrame
  extract_lets n t checked bs noted paths run counted locked
  have hchecked : RegKept a s checked := h.checkFrame_client ha
  clear_value checked
  have hnoted : RegKept a s noted := hchecked.lineOverhead ha hj0
  clear_value noted
  have hpaths : RegKept a s paths := hnoted.foldl fun _ _ hv => hv.pathFrame ha.aside
  clear_value paths
  have hlocked : RegKept a s locked := (hpaths.mapPrx.falseLock_client ha).ite hpaths.mapPrx
  exact ((hnoted.updateRdi.ite hlocked.updateRdi).ite hchecked.dropRuns).ite h

theorem clientFrames {n fuel : Nat} (hj0 : prtBase p + 0x144 ≠ a) : RegKept a s (State.clientFrames p n fuel u) := by
  induction fuel generalizing u with
  | zero => exact h
  | succ fuel ih =>
    unfold State.clientFrames
    extract_lets f
    refine ite ?_ h.setClient
    split
    · exact h
    · exact ih ((h.setClient.setTx.ite h.setClient).sonetFrame_client ha hj0)

theorem takeClient {t : Nat} {d : List W8} (hj0 : prtBase p + 0x144 ≠ a) : RegKept a s (u.takeClient p t d) :=
  h.setClient.clientFrames ha hj0

/-! The overhead of an OTU frame (R187, R189, R190). -/

theorem takeMfas {mfas : Nat} : RegKept a s (u.takeMfas p mfas) := (h.observe.mapPrx.defect ha).ite h.observe.mapPrx

theorem takeBip {d : List W8} : RegKept a s (u.takeBip p d) := by
  have howed : ∀ {f sm pm}, RegKept a s ((u.mapPrx p f).oweBei p sm pm) := h
  exact ((howed.inc ha.cnt_ne).inc ha.cnt_ne).addViol

theorem takePt {mfas : Nat} {b : W8} (hpt : prtBase p + 0x14C ≠ a) : RegKept a s (u.takePt p mfas b) :=
  (((h.observe.wr hpt).defect ha).ite h.observe).ite h

theorem otnTrace {mfas : Nat} {y : Nat × W8} : RegKept a s (State.otnTrace p mfas u y) :=
  h.foldl fun _ _ hv => (hv.trace ha.aside).ite hv.mapLine

theorem otnOverhead {corr : Nat} {d : List W8} (hpt : prtBase p + 0x14C ≠ a) : RegKept a s (u.otnOverhead p corr d) := by
  unfold State.otnOverhead
  extract_lets mfas sm pm stat noted bei corrected bdi status shown
  have hnoted : RegKept a s noted := (h.takeMfas ha).takeBip ha
  clear_value noted
  have hcorrected : RegKept a s corrected := ((hnoted.inc ha.cnt_ne).inc ha.cnt_ne).inc ha.cnt_ne
  have hbdi : RegKept a s bdi := (hcorrected.condition ha).condition ha
  clear_value bdi
  have hstatus : RegKept a s status := ((hbdi.condition ha).condition ha).condition ha
  clear_value status
  exact foldl ((hstatus.wr hpt).takePt ha hpt) fun _ _ hv => hv.otnTrace ha

end
end RegKept

theorem takePt_stat (s : State) (p mfas : Nat) (b : W8) : (s.takePt p mfas b).rd (F.PRT_OTN_RX_STAT p) = s.rd (F.PRT_OTN_RX_STAT p) := by
  have hdef : ∀ (u : State) (c : Bool), (u.setDef p 12 c).rd (F.PRT_OTN_RX_STAT p) = u.rd (F.PRT_OTN_RX_STAT p) := fun u c =>
    ((RegKept.refl (prtBase p + 0x14C) u).setDef (by omega) (by omega)).rd rfl
  unfold State.takePt
  extract_lets observed
  split
  · split
    · rw [hdef, State.rd_wr_field _ _ (.inr (by decide : (0 : Nat) + 8 ≤ 8)) (by decide : (8 : Nat) + 3 ≤ 32)]
      rfl
    · rfl
  · rfl

/-- The overhead of an OTU frame shows its ODU status (R189). -/
theorem otnOverhead_stat (s : State) (p corr : Nat) (d : List W8) :
    (s.otnOverhead p corr d).rd (F.PRT_OTN_RX_STAT p) = bits (otuAt d 2 11).toNat 0 3 := by
  unfold State.otnOverhead
  extract_lets mfas sm pm stat noted bei corrected bdi status shown
  have hcalm : calm p (prtBase p + 0x14C) := .inr (by omega)
  rw [(RegKept.foldl (.refl _ shown) fun _ _ hv => hv.otnTrace hcalm).rd rfl, takePt_stat, State.rd_wr_same _ _ _ (by decide : (8 : Nat) + 3 ≤ 32)]
  exact Nat.mod_eq_of_lt (bits_lt ..)

/-- The overhead of a line frame shows its J0 (R180). -/
theorem lineOverhead_j0 (s : State) (p n t : Nat) (raw bs : List W8) (client : Bool) :
    (s.lineOverhead p n t raw bs client).rd (F.PRT_J0_RX_J0 p) = (lineAt n bs 0 2 0).toNat := by
  unfold State.lineOverhead
  extract_lets r oh b1 b2 parity counted viol rei j0 aps k conds
  have hcalm : calm p (prtBase p + 0x144) := .inr (by omega)
  rw [((RegKept.refl _ j0).afterJ0 hcalm).rd rfl, State.rd_wr_same _ _ _ (by decide : (0 : Nat) + 8 ≤ 32)]
  exact Nat.mod_eq_of_lt (BitVec.isLt _)

end Sys2Proof.Machine
end

section
/-! Proofs: what bringing the references up to date leaves alone (R205, R209). -/
namespace Sys2Proof.Machine

/-- Nothing of the line ports changes between `s` and `u`: their registers read the same, and the line state is the same. -/
structure LineKept (s u : State) : Prop where
  reg : ∀ a, 0x40100000 ≤ a → u.reg a = s.reg a
  line : u.line = s.line

namespace LineKept

variable {s u w : State}

theorem refl (s : State) : LineKept s s := ⟨fun _ _ => rfl, rfl⟩

theorem ite {c : Prop} [Decidable c] (h : LineKept s u) (g : LineKept s w) : LineKept s (if c then u else w) := by
  split <;> assumption

theorem foldl {α : Type} {f : State → α → State} {l : List α} (h : LineKept s u)
    (hf : ∀ v, ∀ x ∈ l, LineKept s v → LineKept s (f v x)) :
    LineKept s (l.foldl f u) := by
  induction l generalizing u with
  | nil => exact h
  | cons x l ih => exact ih (hf u x (List.mem_cons_self ..) h) fun v y hy => hf v y (List.mem_cons_of_mem _ hy)

variable (h : LineKept s u)
include h

theorem setReg {b : Nat} {v : W32} (hb : b < 0x40100000) : LineKept s (u.setReg b v) where
  reg a ha := by rw [State.reg_setReg, if_neg (by omega), h.reg a ha]
  line := h.line

theorem wr {f : Fld} {v : Nat} (hf : f.addr < 0x40100000) : LineKept s (u.wr f v) := h.setReg hf

theorem mapTmg {f : TmgSt → TmgSt} : LineKept s (u.mapTmg f) := ⟨h.reg, h.line⟩

theorem setFresh {n : Nat} : LineKept s { u with fresh := n } := ⟨h.reg, h.line⟩

theorem showQl : LineKept s u.showQl := h.wr (by decide)

theorem noteClk {v : State} : LineKept s (v.noteClk u) := ⟨h.reg, h.line⟩

theorem enter {st : Nat} : LineKept s (u.enter st) := h.ite (noteClk ((h.wr (by decide)).wr (by decide)))

theorem setOut {f : Int} : LineKept s (u.setOut f) := (h.wr (by decide)).wr (by decide)

theorem outHist : LineKept s u.outHist := by
  unfold State.outHist
  split
  · exact h.setOut
  · exact h.setOut.setFresh

theorem startHold : LineKept s u.startHold := by
  unfold State.startHold
  extract_lets held
  have hheld : LineKept s held := (h.outHist.wr (by decide)).enter.wr (by decide)
  exact hheld.mapTmg

theorem refreshRef {n : Nat} (hn : n < 16) : LineKept s (u.refreshRef n) := by
  have hstat : 0x40050140 + n * 0x4 < 0x40100000 := by omega
  unfold State.refreshRef
  extract_lets other hard was wtr conditions failed noted run left running avail
  have hfailed : LineKept s failed :=
    (((h.wr hstat).wr hstat).wr hstat).wr (by decide) |>.ite (((h.wr hstat).wr hstat).wr hstat)
  have hrunning : LineKept s running := (hfailed.mapTmg.wr hstat).wr hstat
  clear_value running
  have havail : LineKept s avail := hrunning.wr hstat
  exact (h.setReg hstat).ite ((havail.wr (by decide)).ite havail)

theorem watchSelected : LineKept s u.watchSelected := by
  have hn : u.rd F.TMG_STATE_SEL_REF < 16 := bits_lt ..
  have hfreed : ∀ {v : State}, LineKept s v → LineKept s (v.endSwitch.freeBuildOut.enter 2) := fun hv =>
    LineKept.enter (((hv.wr (by decide)).mapTmg.setReg (by decide)).setFresh)
  exact (h.startHold.ite ((hfreed ((h.mapTmg.refreshRef hn).wr (by decide))).ite h)).ite h

theorem refreshRefs : LineKept s u.refreshRefs :=
  (h.foldl fun _ _ hx hv => hv.refreshRef (List.mem_range.1 hx)).watchSelected.showQl

end LineKept
end Sys2Proof.Machine
end

section
/-! Proofs: what the check of a frame's pattern makes of a port of one lane (R169, R170, R172). -/
namespace Sys2Proof.Machine

/-- PRT_FRM and SKEW of a port whose lanes are, or are not, in frame. -/
def State.showFrame (s : State) (p : Nat) (now : Bool) (cands lanes : Nat) : State :=
  (((s.setFlag (F.PRT_FRM_STATE p) now).wr (F.PRT_FRM_CAND p) cands).wr (F.PRT_FRM_LANE_IN p) lanes).setDef p 14 false

/-- A framed port leaves the frame: RX_FRAMED falls, OOF sets, the client and the paths are lost. -/
def State.leaveFrame (s : State) (p : Nat) (f : PortDyn → PortDyn) : State :=
  ((((((s.setFlag (F.PRT_STATUS_RX_FRAMED p) false).raise (F.PRT_INT_FRAMED_CHG p)).setDef p 1 true).mapDyn p f).endClient p).acquire p
    false).updateRdi p

theorem showFrame_kept {a p : Nat} (s : State) {now : Bool} {c v : Nat} (hfrm : prtBase p + 0x100 ≠ a) (hdef : prtBase p + 0x10C ≠ a)
    (hint : prtBase p + 0x110 ≠ a) : RegKept a s (s.showFrame p now c v) :=
  ((((RegKept.refl a s).setFlag hfrm).wr hfrm).wr hfrm).setDef hdef hint

theorem lanes_single {s : State} {p : Nat} (hb : isBonded (s.prtMode p) = false) : s.lanes p = [p] := by
  rw [State.lanes, hb]
  rfl

/-- What the registers of a framed port of one lane make of its framer. -/
theorem refreshFrame_single {s : State} {p : Nat} (hb : isBonded (s.prtMode p) = false) (hf : s.framed p = true) :
    ∃ c v f, s.refreshFrame p = if (s.framer p).inFrame then (s.showFrame p true c v).setDef p 1 false
      else (s.showFrame p false c v).leaveFrame p f := by
  have hin : s.lanesIn p = (s.framer p).inFrame := by simp [State.lanesIn, lanes_single hb]
  have hdist : s.lanesDistinct p = true := by
    have h8 : s.prtMode p ≠ 8 := by
      intro h8
      rw [h8] at hb
      cases hb
    simp [State.lanesDistinct, h8]
  have hshown : ∀ now c v, (s.showFrame p now c v).framed p = true := fun now c v =>
    ((showFrame_kept (a := prtBase p + 0x4) s (by omega) (by omega) (by omega)).flag rfl).trans hf
  simp only [State.refreshFrame, hb, hin, hdist, Bool.false_and, Bool.not_false, Bool.and_true]
  cases (s.framer p).inFrame with
  | true => exact ⟨_, _, id, if_pos (hshown true _ _)⟩
  | false => exact ⟨_, _, _, if_neg fun e => Bool.noConfusion ((hshown false _ _).symm.trans e)⟩

/-! ### Fields of the line state that the loss of a frame leaves alone -/

theorem OnlyRegs.line {s u : State} (h : OnlyRegs s u) : u.line = s.line := by
  obtain ⟨r, rfl⟩ := h
  rfl

theorem OnlyRegs.ite {s u w : State} {c : Prop} [Decidable c] (h : OnlyRegs s u) (g : OnlyRegs s w) : OnlyRegs s (if c then u else w) := by
  split <;> assumption

theorem OnlyRegs.setDef {s u : State} {p i : Nat} {b : Bool} (h : OnlyRegs s u) : OnlyRegs s (u.setDef p i b) :=
  h.ite h.wr.wr

theorem OnlyRegs.setPathNow {s u : State} {p code v : Nat} {silent : Bool} (h : OnlyRegs s u) :
    OnlyRegs s (u.setPathNow p code v silent) := h.ite (h.wr.wr.ite h.wr.wr.wr)

@[simp] theorem setDef_line (s : State) (p i : Nat) (b : Bool) : (s.setDef p i b).line = s.line := (OnlyRegs.refl s).setDef.line

theorem showFrame_onlyRegs (s : State) (p : Nat) (now : Bool) (c v : Nat) : OnlyRegs s (s.showFrame p now c v) :=
  (OnlyRegs.refl s).wr.wr.wr.setDef

/-- A defect that was just set or cleared. -/
theorem setDef_pdef_same {s : State} {p i : Nat} {b : Bool} (hi : i < 32) : (s.setDef p i b).pdef p i = b := by
  unfold State.setDef
  split
  · assumption
  · rw [State.pdef, bitAt_def, State.setBitAt, flag_wr_apart _ _ (by simp [Fld.apart]), State.setBitAt,
      flag_wr_same _ _ _ (show 0 + i < 32 by omega) rfl]
    cases b <;> rfl

/-- The other defects. -/
theorem setDef_pdef_other {s : State} {p i j : Nat} {b : Bool} (hij : i ≠ j) (hj : j < 32) : (s.setDef p i b).pdef p j = s.pdef p j := by
  unfold State.setDef
  split
  · rfl
  · simp only [State.pdef, bitAt_def, State.setBitAt]
    rw [flag_wr_apart _ _ (by simp [Fld.apart]), flag_wr_apart]
    simp only [Fld.apart, Bool.or_eq_true, Bool.and_eq_true, decide_eq_true_eq]
    omega

theorem foldl_keeps {α β : Type} {g : State → β} {f : State → α → State} (hf : ∀ s x, g (f s x) = g s) (l : List α) (s : State) :
    g (l.foldl f s) = g s := by
  induction l generalizing s with
  | nil => rfl
  | cons x l ih => exact (ih _).trans (hf s x)

theorem clearTti_framers (p : Nat) (s : State) (k : Nat) : (State.clearTti p s k).line.framers = s.line.framers := by
  simp only [State.clearTti, State.setFlag, State.mapLine_line, State.wr_line]

theorem acquire_framers (s : State) (p : Nat) (silent : Bool) : (s.acquire p silent).line.framers = s.line.framers := by
  refine foldl_keeps (g := fun s => s.line.framers) (fun u code => ?_) _ s
  have hpath : ((u.setPathNow p code 0 silent).wr (F.PATH_PTR_PSTATE p code) 2).line.framers = u.line.framers :=
    congrArg LineSt.framers (OnlyRegs.refl u).setPathNow.wr.line
  exact (foldl_keeps (g := fun s => s.line.framers) (fun u k => clearTti_framers p u k) _ _).trans hpath

theorem updateRdi_framers (s : State) (p : Nat) : (s.updateRdi p).line.framers = s.line.framers := by
  unfold State.updateRdi
  split <;> rfl

theorem framer_setFramer_same (s : State) (k : Nat) (f : Framer) : (s.setFramer k f).framer k = f := Store.get_put_same

theorem framer_setFramer_other (s : State) {k j : Nat} {f : Framer} (h : k ≠ j) : (s.setFramer k f).framer j = s.framer j :=
  Store.get_put_other h

/-- The end of the client is no loss of the line's own framer. -/
theorem endClient_framer (s : State) (p : Nat) : (s.endClient p).framer p = s.framer p := by
  have hput : ∀ u : State, ((u.setFramer (64 + p) Framer.reset).mapLine
      fun l => { l with clients := Store.put (fun _ => ClientRx.reset) l.clients p ClientRx.reset }).framer p = u.framer p :=
    fun u => framer_setFramer_other u (k := 64 + p) (j := p) (f := Framer.reset) (by omega)
  refine (hput _).trans ?_
  split <;> rfl

/-! ### Out of frame -/

/-- Port `p` is out of frame: RX_FRAMED is 0, OOF is set, and the framer of its lane has lost the pattern. -/
structure OutOfFrame (p : Nat) (s : State) : Prop where
  framed : s.framed p = false
  oof : s.pdef p 1 = true
  framer : (s.framer p).inFrame = false

theorem OutOfFrame.of_kept {p : Nat} {s u : State} (h : OutOfFrame p s) (h4 : RegKept (prtBase p + 0x4) s u)
    (h10C : RegKept (prtBase p + 0x10C) s u) (hfr : u.line.framers = s.line.framers) : OutOfFrame p u where
  framed := (h4.flag rfl).trans h.framed
  oof := (h10C.flag rfl).trans h.oof
  framer := by rw [State.framer, hfr]; exact h.framer

theorem OutOfFrame.mapDyn {p : Nat} {s : State} (h : OutOfFrame p s) (f : PortDyn → PortDyn) : OutOfFrame p (s.mapDyn p f) :=
  h.of_kept (RegKept.refl _ s).mapDyn (RegKept.refl _ s).mapDyn rfl

theorem OutOfFrame.dropRuns {p : Nat} {s : State} (h : OutOfFrame p s) (client : Bool) : OutOfFrame p (s.dropRuns p client) :=
  h.of_kept (RegKept.refl _ s).dropRuns (RegKept.refl _ s).dropRuns rfl

theorem OutOfFrame.updateRdi {p : Nat} {s : State} (h : OutOfFrame p s) : OutOfFrame p (s.updateRdi p) :=
  h.of_kept (RegKept.refl _ s).updateRdi (RegKept.refl _ s).updateRdi (updateRdi_framers s p)

theorem OutOfFrame.refreshRefs {p : Nat} {s : State} (h : OutOfFrame p s) : OutOfFrame p s.refreshRefs := by
  obtain ⟨hreg, hline⟩ := (LineKept.refl s).refreshRefs
  exact h.of_kept (hreg _ (by simp only [prtBase]; omega)) (hreg _ (by simp only [prtBase]; omega)) (by rw [hline])

theorem OutOfFrame.endClient {p : Nat} {s : State} (h : OutOfFrame p s) : OutOfFrame p (s.endClient p) where
  framed := ((RegKept.refl _ s).endClient.flag rfl).trans h.framed
  oof := ((RegKept.refl _ s).endClient.flag rfl).trans h.oof
  framer := (congrArg Framer.inFrame (endClient_framer s p)).trans h.framer

theorem OutOfFrame.acquire {p : Nat} {s : State} (h : OutOfFrame p s) {silent : Bool} : OutOfFrame p (s.acquire p silent) := by
  have haside : ∀ o, o < 0x110 → aside p (prtBase p + o) := fun o ho => ⟨by omega, by omega, by omega⟩
  exact h.of_kept ((RegKept.refl _ s).acquire (haside _ (by decide))) ((RegKept.refl _ s).acquire (haside _ (by decide)))
    (acquire_framers s p silent)

theorem leaveFrame_outOfFrame {s : State} {p : Nat} {f : PortDyn → PortDyn} (hin : (s.framer p).inFrame = false) :
    OutOfFrame p (s.leaveFrame p f) := by
  have hlost : OutOfFrame p (((s.setFlag (F.PRT_STATUS_RX_FRAMED p) false).raise (F.PRT_INT_FRAMED_CHG p)).setDef p 1 true) := by
    refine ⟨?_, setDef_pdef_same (by decide), ?_⟩
    · have hkept : RegKept (prtBase p + 0x4) (s.setFlag (F.PRT_STATUS_RX_FRAMED p) false)
          (((s.setFlag (F.PRT_STATUS_RX_FRAMED p) false).raise (F.PRT_INT_FRAMED_CHG p)).setDef p 1 true) :=
        ((RegKept.refl _ _).raise (by simp)).setDef (by omega) (by omega)
      exact (hkept.flag rfl).trans (flag_wr_same _ _ _ (by decide : (7 : Nat) < 32) rfl)
    · rw [State.framer, setDef_line]
      exact hin
  unfold State.leaveFrame
  generalize ((s.setFlag (F.PRT_STATUS_RX_FRAMED p) false).raise (F.PRT_INT_FRAMED_CHG p)).setDef p 1 true = u at hlost
  exact ((hlost.mapDyn f).endClient.acquire).updateRdi

/-! ### The check of a frame's pattern -/

/-- A framer in frame after a check that has now failed `run` times in a row, of which `k` end its alignment. -/
def Framer.checked (f : Framer) (k run start ctr now len : Nat) : Framer :=
  let g := { f with errRun := run, start := start, ctr := ctr }
  if k ≤ run then g.lose now len else g

theorem checked_inFrame (f : Framer) (k run start ctr now len : Nat) :
    (f.checked k run start ctr now len).inFrame = (f.inFrame && decide (run < k)) := by
  unfold Framer.checked
  split
  · next h => simp [Framer.lose, Nat.not_lt.2 h]
  · next h => simp [Nat.not_le.1 h]

section
variable {s : State} {p : Nat} (hb : isBonded (s.prtMode p) = false)
include hb

theorem checkFrame_single {n : Nat} {starts : List Nat} {raw : List W8} (hin : (s.framer p).inFrame = true) :
    s.checkFrame p n false starts raw = (s.setFramer p ((s.framer p).checked 4
      (if patternOk 4 (laneWord n 1 0 raw) then 0 else (s.framer p).errRun + 1) (starts.getD 0 s.now) (s.framer p).ctr
      s.now frameTicks)).refreshFrame p := by
  have hks : s.framersOf p false = [p] := lanes_single hb
  rw [State.checkFrame, hks]
  exact congrArg (State.refreshFrame · p) (if_pos hin)

theorem checkFas_single {starts : List Nat} {bad : Bool} {mfas : Nat} (hin : (s.framer p).inFrame = true) :
    s.checkFas p starts bad mfas = (s.setFramer p ((s.framer p).checked 5
      (if bad then (s.framer p).errRun + 1 else 0) (starts.getD 0 s.now) mfas s.now (frameLen (s.prtMode p)))).refreshFrame p := by
  rw [State.checkFas, lanes_single hb]
  exact congrArg (State.refreshFrame · p) (if_pos (by simp [hin, hb]))

variable (hf : s.framed p = true) {f : Framer}
include hf

/-- A framer that stays in frame leaves every register alone but PRT_FRM and the defects. -/
theorem refreshFrame_stays (hin : f.inFrame = true) : ∃ c v,
    (s.setFramer p f).refreshFrame p = ((s.setFramer p f).showFrame p true c v).setDef p 1 false := by
  obtain ⟨c, v, _, h⟩ := refreshFrame_single (s := s.setFramer p f) hb hf
  rw [framer_setFramer_same, if_pos hin] at h
  exact ⟨c, v, h⟩

/-- A framer that has lost its frame takes the port out of frame. -/
theorem refreshFrame_leaves (hin : f.inFrame = false) : OutOfFrame p ((s.setFramer p f).refreshFrame p) := by
  obtain ⟨c, v, g, h⟩ := refreshFrame_single (s := s.setFramer p f) hb hf
  rw [framer_setFramer_same, hin] at h
  rw [h]
  refine leaveFrame_outOfFrame ?_
  rw [State.framer, (showFrame_onlyRegs ..).line, ← State.framer, framer_setFramer_same, hin]

theorem refreshFrame_stays_kept {a : Nat} (hin : f.inFrame = true) (hfrm : prtBase p + 0x100 ≠ a) (hdef : prtBase p + 0x10C ≠ a)
    (hint : prtBase p + 0x110 ≠ a) : RegKept a s ((s.setFramer p f).refreshFrame p) := by
  obtain ⟨c, v, h⟩ := refreshFrame_stays hb hf hin
  rw [h]
  exact (RegKept.refl a s).setFramer.trans ((showFrame_kept _ hfrm hdef hint).setDef hdef hint)

theorem refreshFrame_stays_framed (hin : f.inFrame = true) : ((s.setFramer p f).refreshFrame p).framed p = true :=
  ((refreshFrame_stays_kept (a := prtBase p + 0x4) hb hf hin (by omega) (by omega) (by omega)).flag rfl).trans hf

end

end Sys2Proof.Machine
end

section
/-! Proofs: line frames that the ports receive (O42). -/
namespace Sys2Proof.Machine

/-! ### What a port sends under facility loopback (R168) -/

/-- Under facility loopback the received frame is the one that the port sends. -/
def State.sentBack (s : State) (p : Nat) (bs : List W8) : State := if s.loop p = 1 then s.setTx p bs else s

theorem sentBack_eq (s : State) (p : Nat) (bs : List W8) : ∃ tx, s.sentBack p bs = { s with line := { s.line with tx := tx } } := by
  unfold State.sentBack
  split
  · exact ⟨_, rfl⟩
  · exact ⟨s.line.tx, rfl⟩

/-! ### SONET/SDH (R169, R180) -/

section
variable {s : State} {p : Nat} {starts : List Nat} {raw : List W8} (hrx : s.rxOn p = true)
  (hlen : raw.length = 810 * modeCells (s.prtMode p)) (hb : isBonded (s.prtMode p) = false) (hf : s.framed p = true)
  (hin : (s.framer p).inFrame = true)
include hrx hlen hb hf hin

/-- A frame whose pattern stands shows its J0, whatever its paths and a false lock bring. -/
theorem sonetFrame_j0 (hok : patternOk 4 (laneWord (modeCells (s.prtMode p)) 1 0 raw) = true) :
    (s.sonetFrame p false starts raw).rd (F.PRT_J0_RX_J0 p) =
      (lineAt (modeCells (s.prtMode p)) (scramble (modeCells (s.prtMode p)) raw) 0 2 0).toNat := by
  have hcalm : calm p (prtBase p + 0x144) := .inr (by omega)
  unfold State.sonetFrame
  extract_lets n t checked bs noted paths run counted locked
  have hframed : checked.framed p = true := by
    rw [show checked = _ from checkFrame_single hb hin]
    exact refreshFrame_stays_framed hb hf (by rw [checked_inFrame, hin, if_pos hok]; decide)
  have hnoted : noted.rd (F.PRT_J0_RX_J0 p) = (lineAt n bs 0 2 0).toNat := lineOverhead_j0 ..
  have hpaths : RegKept (prtBase p + 0x144) noted paths := (RegKept.refl _ noted).foldl fun _ _ hv => hv.pathFrame hcalm.aside
  have hlocked : RegKept (prtBase p + 0x144) noted locked := (hpaths.mapPrx.falseLock_port hcalm (by omega)).ite hpaths.mapPrx
  rw [if_pos (by simp [hrx, hlen, n]), if_pos (show checked.inFrame p false = true from hframed)]
  exact (((RegKept.refl _ noted).updateRdi.ite hlocked.updateRdi).rd rfl).trans hnoted

/-- The fourth errored pattern in a row ends the alignment. -/
theorem sonetFrame_loses (hbad : patternOk 4 (laneWord (modeCells (s.prtMode p)) 1 0 raw) = false) (hrun : 3 ≤ (s.framer p).errRun) :
    OutOfFrame p (s.sonetFrame p false starts raw) := by
  unfold State.sonetFrame
  extract_lets n t checked bs noted paths run counted locked
  have hout : OutOfFrame p checked := by
    rw [show checked = _ from checkFrame_single hb hin]
    refine refreshFrame_leaves hb hf ?_
    rw [checked_inFrame, hbad, if_neg Bool.false_ne_true, decide_eq_false (by omega), Bool.and_false]
  have hlost : checked.inFrame p false = false := hout.framed
  rw [if_pos (by simp [hrx, hlen, n]), if_neg (by rw [hlost]; decide)]
  exact hout.dropRuns false

end

theorem exec_sonetFrameRx_sonet {t : Nat} {p : Port} {starts : List Nat} {lanes : List (List W8)} {s : State}
    (hs : isSonet (s.prtMode p.val) = true) :
    exec (.sonetFrameRx t p starts lanes) s = .next
      (((s.tick t).sentBack p.val (scramble (modeCells (s.prtMode p.val))
        (joinLanes (if s.loop p.val = 2 then s.laneBytes p.val else lanes)))).sonetFrame p.val false starts (joinLanes (if s.loop p.val = 2 then s.laneBytes p.val else lanes))).refreshRefs := if_pos hs

/-- Bringing the references up to date leaves the registers of a port alone. -/
theorem refreshRefs_rd (s : State) {p o : Nat} {f : Fld} (hf : f.addr = prtBase p + o) : s.refreshRefs.rd f = s.rd f :=
  RegKept.rd ((LineKept.refl s).refreshRefs.reg (prtBase p + o) (by simp only [prtBase]; omega)) hf

theorem sonetFrameRx_receives {t : Nat} {p : Port} {starts : List Nat} {lanes : List (List W8)} {data : List W8} {s : State}
    (hrx : s.rxOn p.val = true) (hs : isSonet (s.prtMode p.val) = true)
    (hdata : data = joinLanes (if s.loop p.val = 2 then s.laneBytes p.val else lanes)) (hb : isBonded (s.prtMode p.val) = false)
    (hf : s.framed p.val = true) (hin : (s.framer p.val).inFrame = true) (hlen : data.length = 810 * modeCells (s.prtMode p.val)) :
    (patternOk 4 (laneWord (modeCells (s.prtMode p.val)) 1 0 data) = true → ∃ s', exec (.sonetFrameRx t p starts lanes) s = .next s' ∧
      s'.rd (F.PRT_J0_RX_J0 p.val) =
        (lineAt (modeCells (s.prtMode p.val)) (scramble (modeCells (s.prtMode p.val)) data) 0 2 0).toNat) ∧
    (patternOk 4 (laneWord (modeCells (s.prtMode p.val)) 1 0 data) = false → 3 ≤ (s.framer p.val).errRun →
      ∃ s', exec (.sonetFrameRx t p starts lanes) s = .next s' ∧ OutOfFrame p.val s') := by
  have hexec := exec_sonetFrameRx_sonet (t := t) (starts := starts) (lanes := lanes) hs
  rw [← hdata] at hexec
  obtain ⟨tx, hsent⟩ := sentBack_eq (s.tick t) p.val (scramble (modeCells (s.prtMode p.val)) data)
  rw [hsent] at hexec
  refine ⟨fun hok => next_of hexec ?_, fun hbad hrun => next_of hexec ?_⟩
  · rw [refreshRefs_rd _ rfl]
    exact sonetFrame_j0 (s := { s.tick t with line := { (s.tick t).line with tx := tx } }) hrx hlen hb hf hin hok
  · exact (sonetFrame_loses (s := { s.tick t with line := { (s.tick t).line with tx := tx } }) hrx hlen hb hf hin hbad hrun).refreshRefs

/-! ### OTN (R151, R169, R189) -/

/-- The state in which the FAS of an OTU frame is checked: its AIS noted, and the frame sent back under facility loopback. -/
def State.otuNoted (s : State) (p : Nat) (ais : Bool) (d : List W8) : State := (s.portCond p 11 6 3 ais).loopOtu p d

theorem otuNoted_kept {a p : Nat} (s : State) {ais : Bool} {d : List W8} (hdef : prtBase p + 0x10C ≠ a) (hint : prtBase p + 0x110 ≠ a) :
    RegKept a s (s.otuNoted p ais d) := ((RegKept.refl a s).portCond hdef hint).loopOtu

theorem otuNoted_framers (s : State) (p : Nat) (ais : Bool) (d : List W8) : (s.otuNoted p ais d).line.framers = s.line.framers := by
  have hcond : (s.portCond p 11 6 3 ais).line.framers = s.line.framers := by
    unfold State.portCond
    rw [setDef_line]
    rfl
  rw [← hcond, State.otuNoted, State.loopOtu]
  split <;> rfl

theorem fecOtu_congr {s u : State} {p : Nat} (h : RegKept (prtBase p + 0x108) s u) (d : List W8) : u.fecOtu p d = s.fecOtu p d := by
  rw [State.fecOtu, State.fecOtu, h.flag rfl]

theorem exec_otnFrameRx_works {t : Nat} {p : Port} {starts : List Nat} {l0 l1 l2 l3 d : List W8} {lanes : List (List W8)} {ais : Bool} {s : State}
    (hrx : s.rxOn p.val = true) (ho : isOtn (s.prtMode p.val) = true)
    (hlanes : lanes = if s.loop p.val = 2 then otuLanes (s.prtMode p.val) (Store.get (fun _ => OtuTx.reset) s.line.otu p.val).last
      else [l0, l1, l2, l3].take starts.length) (hd : d = otuWire (s.joinOtu p.val lanes)) (hlen : d.length = 16320) :
    let u := ((s.tick t).otuNoted p.val ais d).checkFas p.val starts (decide (d.take 6 ≠ otuFas))
      (((s.tick t).portCond p.val 11 6 3 ais).laneMfas p.val lanes)
    exec (.otnFrameRx t p starts l0 l1 l2 l3 ais) s =
      if u.framed p.val then .next ((((u.otnOverhead p.val (u.fecOtu p.val d).2 (u.fecOtu p.val d).1).takeClient p.val (starts.foldl max 0)
        (u.fecOtu p.val d).1).updateRdi p.val).refreshRefs)
      else .next (((u.dropRuns p.val false).updateRdi p.val).refreshRefs) := by
  subst hlanes hd
  exact if_pos ⟨ho, hrx, hlen⟩

section
variable {s : State} {p : Nat} (hb : isBonded (s.prtMode p) = false) (hf : s.framed p = true) (hin : (s.framer p).inFrame = true)
include hb hf hin

/-- The check of the FAS of a port of one lane, as that of its framer. -/
theorem otuNoted_checkFas (starts : List Nat) (ais bad : Bool) (d : List W8) (mfas : Nat) :
    isBonded ((s.otuNoted p ais d).prtMode p) = false ∧ (s.otuNoted p ais d).framed p = true ∧
      ∃ f : Framer, f.inFrame = decide ((if bad then (s.framer p).errRun + 1 else 0) < 5) ∧
        (s.otuNoted p ais d).checkFas p starts bad mfas = ((s.otuNoted p ais d).setFramer p f).refreshFrame p := by
  have hmode : (s.otuNoted p ais d).prtMode p = s.prtMode p :=
    (otuNoted_kept (a := prtBase p + 0x0) s (by omega) (by omega)).rd rfl
  have hframed : (s.otuNoted p ais d).framed p = s.framed p :=
    (otuNoted_kept (a := prtBase p + 0x4) s (by omega) (by omega)).flag rfl
  have hframer : (s.otuNoted p ais d).framer p = s.framer p := by rw [State.framer, otuNoted_framers, State.framer]
  rw [← hmode] at hb
  refine ⟨hb, hframed.trans hf, _, ?_, checkFas_single hb (by rw [hframer, hin])⟩
  rw [checked_inFrame, hframer, hin, Bool.true_and]

theorem checkFas_stays {starts : List Nat} {ais bad : Bool} {d : List W8} {mfas : Nat} (hok : (s.framer p).errRun < 4 ∨ bad = false) :
    let u := (s.otuNoted p ais d).checkFas p starts bad mfas
    u.framed p = true ∧ RegKept (prtBase p + 0x108) s u := by
  obtain ⟨hb', hf', f, hf5, he⟩ := otuNoted_checkFas hb hf hin starts ais bad d mfas
  have hfin : f.inFrame = true := by
    rw [hf5, decide_eq_true_eq]
    split
    · next h => rcases hok with hok | hok <;> [omega; exact absurd h (by rw [hok]; decide)]
    · decide
  rw [he]
  exact ⟨refreshFrame_stays_framed hb' hf' hfin, (otuNoted_kept s (by omega) (by omega)).trans
    (refreshFrame_stays_kept hb' hf' hfin (by omega) (by omega) (by omega))⟩

theorem checkFas_leaves {starts : List Nat} {ais : Bool} {d : List W8} {mfas : Nat} (hrun : 4 ≤ (s.framer p).errRun) :
    OutOfFrame p ((s.otuNoted p ais d).checkFas p starts true mfas) := by
  obtain ⟨hb', hf', f, hf5, he⟩ := otuNoted_checkFas hb hf hin starts ais true d mfas
  rw [he]
  refine refreshFrame_leaves hb' hf' ?_
  rw [hf5, if_pos rfl, decide_eq_false (by omega)]

end

/-- The overhead of an OTU frame and the client frames that it completes leave the port in frame and show its ODU status. -/
theorem otnReceived {u : State} {p corr t : Nat} {d : List W8} (hf : u.framed p = true) :
    let v := (((u.otnOverhead p corr d).takeClient p t d).updateRdi p).refreshRefs
    v.framed p = true ∧ v.rd (F.PRT_OTN_RX_STAT p) = bits (otuAt d 2 11).toNat 0 3 := by
  have hclient : ∀ {a : Nat}, calm p a → prtBase p + 0x144 ≠ a →
      RegKept a (u.otnOverhead p corr d) (((u.otnOverhead p corr d).takeClient p t d).updateRdi p) :=
    fun ha hj0 => ((RegKept.refl _ _).takeClient ha hj0).updateRdi
  constructor
  · have hstatus : RegKept (prtBase p + 0x4) u (((u.otnOverhead p corr d).takeClient p t d).updateRdi p) :=
      ((RegKept.refl _ u).otnOverhead (.inl rfl) (by omega)).trans (hclient (.inl rfl) (by omega))
    rw [State.framed, State.flag, refreshRefs_rd _ rfl, hstatus.rd rfl]
    exact hf
  · rw [refreshRefs_rd _ rfl, (hclient (a := prtBase p + 0x14C) (.inr (by omega)) (by omega)).rd rfl, otnOverhead_stat]

theorem otnFrameRx_receives {t : Nat} {p : Port} {starts : List Nat} {l0 l1 l2 l3 d : List W8} {lanes : List (List W8)} {ais : Bool}
    {s : State} (hrx : s.rxOn p.val = true) (ho : isOtn (s.prtMode p.val) = true)
    (hlanes : lanes = if s.loop p.val = 2 then otuLanes (s.prtMode p.val) (Store.get (fun _ => OtuTx.reset) s.line.otu p.val).last
      else [l0, l1, l2, l3].take starts.length) (hd : d = otuWire (s.joinOtu p.val lanes)) (hlen : d.length = 16320) :
    (∃ s', exec (.otnFrameRx t p starts l0 l1 l2 l3 ais) s = .next s') ∧
    (isBonded (s.prtMode p.val) = false → s.framed p.val = true → (s.framer p.val).inFrame = true →
      ((s.framer p.val).errRun < 4 ∨ d.take 6 = otuFas → ∃ s', exec (.otnFrameRx t p starts l0 l1 l2 l3 ais) s = .next s' ∧
        s'.framed p.val = true ∧ s'.rd (F.PRT_OTN_RX_STAT p.val) = bits (otuAt (s.fecOtu p.val d).1 2 11).toNat 0 3) ∧
      (4 ≤ (s.framer p.val).errRun → d.take 6 ≠ otuFas →
        ∃ s', exec (.otnFrameRx t p starts l0 l1 l2 l3 ais) s = .next s' ∧ OutOfFrame p.val s')) := by
  have hexec := exec_otnFrameRx_works (t := t) (ais := ais) hrx ho hlanes hd hlen
  refine ⟨?_, fun hb hf hin => ⟨fun hok => ?_, fun hrun hfas => ?_⟩⟩
  · rw [hexec]
    split <;> exact ⟨_, rfl⟩
  · obtain ⟨hframed, hcfg⟩ := checkFas_stays (s := s.tick t) (starts := starts) (ais := ais) (d := d) (bad := decide (d.take 6 ≠ otuFas))
      (mfas := ((s.tick t).portCond p.val 11 6 3 ais).laneMfas p.val lanes) hb hf hin (hok.imp_right (by simp [·]))
    refine next_of (hexec.trans (if_pos hframed)) ?_
    rw [fecOtu_congr hcfg]
    exact otnReceived hframed
  · have hout := checkFas_leaves (s := s.tick t) (starts := starts) (ais := ais) (d := d)
      (mfas := ((s.tick t).portCond p.val 11 6 3 ais).laneMfas p.val lanes) hb hf hin hrun
    rw [decide_eq_true hfas] at hexec
    exact next_of (hexec.trans (if_neg (by rw [hout.framed]; decide))) ((hout.dropRuns false).updateRdi.refreshRefs)

/-! ### Ziuth (R49, R169, R176, R177, R190) -/

/-- What the receiver of a Ziuth port in frame keeps as it takes a frame: its configuration and status, LOS, LOF, the ports outside their
registers, the paths, the time and the march. -/
structure ZiuthKept (p : Nat) (s u : State) : Prop where
  cfg : RegKept (prtBase p + 0x0) s u
  status : RegKept (prtBase p + 0x4) s u
  los : u.pdef p 0 = s.pdef p 0
  lof : u.pdef p 2 = s.pdef p 2
  ports : u.line.ports = s.line.ports
  paths : u.line.paths = s.line.paths
  pwr : u.pwr = s.pwr
  now : u.now = s.now

namespace ZiuthKept
variable {p : Nat} {s u w : State}

theorem refl (p : Nat) (s : State) : ZiuthKept p s s := ⟨rfl, rfl, rfl, rfl, rfl, rfl, rfl, rfl⟩

theorem ite {c : Prop} [Decidable c] (h : ZiuthKept p s u) (g : ZiuthKept p s w) : ZiuthKept p s (if c then u else w) := by
  split <;> assumption

variable (h : ZiuthKept p s u)
include h

theorem writes (hz : isZiuth (s.prtMode p) = true) : u.writes p = s.writes p := by
  have hmode : u.prtMode p = s.prtMode p := h.cfg.rd rfl
  have hdyn : u.dyn p = s.dyn p := by rw [State.dyn, h.ports, State.dyn]
  have hrx : u.rxOn p = s.rxOn p := by
    rw [State.rxOn, State.enabled, State.depth, State.member, h.cfg.flag rfl, h.cfg.flag rfl, h.status.rd rfl]
    rfl
  have hotn : isOtn (s.prtMode p) = false := by
    rcases (by simpa [isZiuth] using hz : s.prtMode p = 1 ∨ s.prtMode p = 2) with e | e <;> rw [e] <;> rfl
  have hframed : u.framed p = s.framed p := h.status.flag rfl
  simp only [State.writes, State.inService, hmode, hdyn, hrx, hz, hotn, hframed, h.los, h.lof, h.pwr, Bool.true_or, Bool.not_false]

theorem path (code : Nat) : u.path p code = s.path p code := by rw [State.path, h.paths, State.path]

theorem wr {f : Fld} {v : Nat} (h0 : f.addr ≠ prtBase p + 0x0) (h4 : f.addr ≠ prtBase p + 0x4) (h10C : f.addr ≠ prtBase p + 0x10C) :
    ZiuthKept p s (u.wr f v) where
  cfg := h.cfg.wr h0
  status := h.status.wr h4
  los := (((RegKept.refl _ u).wr h10C).flag rfl).trans h.los
  lof := (((RegKept.refl _ u).wr h10C).flag rfl).trans h.lof
  ports := h.ports
  paths := h.paths
  pwr := h.pwr
  now := h.now

theorem count {i n : Nat} : ZiuthKept p s (u.inc (F.PRT_CNT_COUNT p i) n) :=
  h.wr (show prtBase p + 0x120 + i * 0x4 ≠ _ by omega) (show prtBase p + 0x120 + i * 0x4 ≠ _ by omega)
    (show prtBase p + 0x120 + i * 0x4 ≠ _ by omega)

theorem setDef {i : Nat} {b : Bool} (h0 : i ≠ 0) (h2 : i ≠ 2) : ZiuthKept p s (u.setDef p i b) := by
  have hregs := (OnlyRegs.refl u).setDef (p := p) (i := i) (b := b)
  exact {
    cfg := h.cfg.setDef (by omega) (by omega)
    status := h.status.setDef (by omega) (by omega)
    los := (setDef_pdef_other h0 (by decide)).trans h.los
    lof := (setDef_pdef_other h2 (by decide)).trans h.lof
    ports := (congrArg LineSt.ports hregs.line).trans h.ports
    paths := (congrArg LineSt.paths hregs.line).trans h.paths
    pwr := (congrArg State.pwr hregs.eq).trans h.pwr
    now := (congrArg State.now hregs.eq).trans h.now }

/-- The rest of the line state. -/
theorem mapLine {f : LineSt → LineSt} (hports : (f u.line).ports = u.line.ports) (hpaths : (f u.line).paths = u.line.paths) :
    ZiuthKept p s (u.mapLine f) :=
  ⟨h.cfg, h.status, h.los, h.lof, hports.trans h.ports, hpaths.trans h.paths, h.pwr, h.now⟩

theorem observe {k v : Nat} : ZiuthKept p s (u.observe k v) := h.mapLine rfl rfl

theorem addViol {key n : Nat} : ZiuthKept p s (u.addViol key n) := h.ite (h.mapLine rfl rfl)

theorem takeQl {b : W8} : ZiuthKept p s (u.takeQl p b) :=
  ((h.observe.wr (by simp) (by simp) (by simp)).wr (by simp) (by simp) (by simp)).ite h.observe

theorem portCond {id i n : Nat} {b : Bool} (h0 : i ≠ 0) (h2 : i ≠ 2) : ZiuthKept p s (u.portCond p id i n b) := h.observe.setDef h0 h2

theorem ziuthOverhead {corr uncorr : Nat} {bad : Bool} {data : List W8} : ZiuthKept p s (u.ziuthOverhead p corr uncorr bad data) := by
  unfold State.ziuthOverhead
  extract_lets b counted noted far shown crc farCounted taken
  have hcounted : ZiuthKept p s counted := h.count.count.count
  clear_value counted
  have hnoted : ZiuthKept p s noted := hcounted.addViol.mapLine rfl rfl
  clear_value noted
  have hcrc : ZiuthKept p s crc :=
    ((hnoted.wr (by simp) (by simp) (by simp)).wr (by simp) (by simp) (by simp)).wr (by simp) (by simp) (by simp)
  clear_value crc
  have hfar : ZiuthKept p s farCounted := hcrc.count.count.count
  clear_value farCounted
  exact (hfar.takeQl.portCond (by decide) (by decide)).mapLine rfl rfl

end ZiuthKept

/-- A port whose framer stays in frame keeps them as well. -/
theorem refreshFrame_stays_ziuthKept {s : State} {p : Nat} {f : Framer} (hb : isBonded (s.prtMode p) = false) (hf : s.framed p = true)
    (hin : f.inFrame = true) : ZiuthKept p s ((s.setFramer p f).refreshFrame p) := by
  obtain ⟨c, v, h⟩ := refreshFrame_stays hb hf hin
  have hset : ZiuthKept p s (s.setFramer p f) := (ZiuthKept.refl p s).mapLine rfl rfl
  rw [h]
  exact ((((hset.wr (by simp) (by simp) (by simp)).wr (by simp) (by simp) (by simp)).wr (by simp) (by simp) (by simp)).setDef (by decide)
    (by decide)).setDef (by decide) (by decide)

/-- The overhead of a Ziuth frame shows what the far end could not correct, and counts the symbols that were corrected here (R177). -/
theorem ziuthOverhead_shows (s : State) (p corr uncorr : Nat) (bad : Bool) (data : List W8) :
    (s.ziuthOverhead p corr uncorr bad data).rd (F.PRT_BC_RX_UNCORR p) = (data.getD 6 0).toNat ∧
      (s.ziuthOverhead p corr uncorr bad data).rd (F.PRT_CNT_COUNT p 0) = min (2 ^ 32 - 1) (s.rd (F.PRT_CNT_COUNT p 0) + corr) := by
  unfold State.ziuthOverhead
  extract_lets b counted noted far shown crc farCounted taken
  constructor
  · have hbc : calm p (prtBase p + 0x148) := .inr (by omega)
    have hlater : RegKept (prtBase p + 0x148) crc (taken.queueOh p taken.now ((data.drop 8).take 128)) :=
      (((((RegKept.refl _ crc).inc hbc.cnt_ne).inc hbc.cnt_ne).inc hbc.cnt_ne).takeQl
        (by omega)).condition hbc |>.queueOh
    rw [hlater.rd rfl, State.rd_wr_field _ _ (.inl (by decide : (16 : Nat) + 8 ≤ 24)) (by decide : (16 : Nat) + 8 ≤ 32),
      State.rd_wr_same _ _ _ (by decide : (16 : Nat) + 8 ≤ 32)]
    exact Nat.mod_eq_of_lt (BitVec.isLt _)
  · have hother : ∀ {u v : State} {i n : Nat}, i ≠ 0 → RegKept (prtBase p + 0x120 + 0 * 0x4) u v →
        RegKept (prtBase p + 0x120 + 0 * 0x4) u (v.inc (F.PRT_CNT_COUNT p i) n) :=
      fun hi h => h.inc (show prtBase p + 0x120 + _ * 0x4 ≠ _ by omega)
    have hnoted : RegKept (prtBase p + 0x120 + 0 * 0x4) (s.inc (F.PRT_CNT_COUNT p 0) corr) noted :=
      (hother (by decide) (hother (by decide) (.refl ..))).addViol.mapPrx
    have hcrc : RegKept (prtBase p + 0x120 + 0 * 0x4) (s.inc (F.PRT_CNT_COUNT p 0) corr) crc :=
      ((hnoted.wr (by simp)).wr (by simp)).wr (by simp)
    have hlater : RegKept (prtBase p + 0x120 + 0 * 0x4) (s.inc (F.PRT_CNT_COUNT p 0) corr)
        (taken.queueOh p taken.now ((data.drop 8).take 128)) :=
      ((hother (by decide) (hother (by decide) (hother (by decide) hcrc))).takeQl (by omega)).portCond (by omega) (by omega) |>.queueOh
    rw [hlater.rd rfl, State.inc, State.rd_wr_same _ _ _ (by decide : (0 : Nat) + 32 ≤ 32)]
    exact Nat.mod_eq_of_lt (show min (2 ^ 32 - 1) _ < 2 ^ 32 by omega)

/-- The payload of a Ziuth frame waits for the input frame of its t0, where the port writes (R49). -/
def State.queuePayload (s : State) (p mode : Nat) (data : List W8) : State :=
  if s.writes p then
    s.setPath p portCode { s.path p portCode with
      done := (s.path p portCode).done ++ [{ t0 := 810 * s.now, bytes := (ziuthPayload mode data).map some, shut := [], poh := [] }] }
  else s

theorem queuePayload_kept (a : Nat) (s : State) (p mode : Nat) (data : List W8) : RegKept a s (s.queuePayload p mode data) :=
  (RegKept.refl a s).setPath.ite (.refl a s)

theorem queuePayload_done {s : State} {p mode : Nat} {data : List W8} (h : s.writes p = true) :
    ((s.queuePayload p mode data).path p portCode).done = (s.path p portCode).done ++
      [{ t0 := 810 * s.now, bytes := (ziuthPayload mode data).map some, shut := [], poh := [] }] := by
  rw [State.queuePayload, if_pos h]
  exact congrArg PathRx.done Store.get_put_same

theorem updateRdi_path (s : State) (p code : Nat) : (s.updateRdi p).path p code = s.path p code := by
  unfold State.updateRdi
  split <;> rfl

theorem exec_ziuthFrameRx_works {t : Nat} {p : Port} {half : Bool} {faw code pad : List (Fin 4)} {line : List Bool}
    {x : List W8 × Nat × Nat} {s : State} (hrx : s.rxOn p.val = true) (hz : isZiuth (s.prtMode p.val) = true) (hf : s.framed p.val = true)
    (hline : line = if s.loop p.val = 2 then ziuthLine (s.prtMode p.val) (s.lastTx p.val)
      else ziuthBits (s.prtMode p.val) half (faw ++ code ++ pad))
    (hx : x = ziuthDecode (s.prtMode p.val) line) (hfit : ziuthFits (s.prtMode p.val) line.length = true) :
    let u := ((s.tick t).sentBack p.val x.1).checkFaw p.val (fawErrors line) (256 * (x.1.getD 0 0).toNat + (x.1.getD 1 0).toNat)
    exec (.ziuthFrameRx t p half faw code pad) s =
      if u.framed p.val then .next ((((u.ziuthOverhead p.val x.2.1 x.2.2 (!ziuthCrcOk x.1) x.1).queuePayload p.val (s.prtMode p.val) x.1).updateRdi
        p.val).refreshRefs)
      else .next (((u.dropRuns p.val false).updateRdi p.val).refreshRefs) := by
  have hsent : ((s.tick t).sentBack p.val x.1).framed p.val = true := by
    obtain ⟨tx, h⟩ := sentBack_eq (s.tick t) p.val x.1
    rw [h]
    exact hf
  subst hx hline
  exact (if_pos ⟨hz, hrx, hfit⟩).trans (if_pos hsent)

/-- A Ziuth port has one lane. -/
theorem not_bonded_of_ziuth {m : Nat} (h : isZiuth m = true) : isBonded m = false := by
  rcases (by simpa [isZiuth] using h : m = 1 ∨ m = 2) with rfl | rfl <;> rfl

theorem checkFaw_eq (s : State) (p e zfc : Nat) : s.checkFaw p e zfc = (s.setFramer p ((s.framer p).checked 4
    (if 3 < e then (s.framer p).errRun + 1 else 0) s.now zfc s.now frameTicks)).refreshFrame p := rfl

section
variable {s : State} {p e zfc : Nat} (hz : isZiuth (s.prtMode p) = true) (hf : s.framed p = true) (hin : (s.framer p).inFrame = true)
include hz hf hin

theorem checkFaw_stays (hok : e ≤ 3 ∨ (s.framer p).errRun < 3) :
    (s.checkFaw p e zfc).framed p = true ∧ ZiuthKept p s (s.checkFaw p e zfc) ∧
      RegKept (prtBase p + 0x120 + 0 * 0x4) s (s.checkFaw p e zfc) := by
  have hb := not_bonded_of_ziuth hz
  have hrun : (if 3 < e then (s.framer p).errRun + 1 else 0) < 4 := by split <;> omega
  have hfin : ((s.framer p).checked 4 (if 3 < e then (s.framer p).errRun + 1 else 0) s.now zfc s.now frameTicks).inFrame = true := by
    rw [checked_inFrame, hin, decide_eq_true hrun, Bool.and_true]
  rw [checkFaw_eq]
  exact ⟨refreshFrame_stays_framed hb hf hfin, refreshFrame_stays_ziuthKept hb hf hfin,
    refreshFrame_stays_kept hb hf hfin (by omega) (by omega) (by omega)⟩

omit hin in
theorem checkFaw_leaves (he : 3 < e) (hrun : 3 ≤ (s.framer p).errRun) : OutOfFrame p (s.checkFaw p e zfc) := by
  rw [checkFaw_eq]
  refine refreshFrame_leaves (not_bonded_of_ziuth hz) hf ?_
  rw [checked_inFrame, if_pos he, decide_eq_false (by omega), Bool.and_false]

end

/-- A Ziuth frame of a port that stays in frame: its payload waits, and the back channel and the corrections are recorded. -/
theorem ziuthReceived {s u : State} {p corr uncorr : Nat} {bad : Bool} {data : List W8} (hz : isZiuth (s.prtMode p) = true)
    (hf : s.framed p = true) (hkept : ZiuthKept p s u) (hcnt : RegKept (prtBase p + 0x120 + 0 * 0x4) s u) :
    let v := (((u.ziuthOverhead p corr uncorr bad data).queuePayload p (s.prtMode p) data).updateRdi p).refreshRefs
    v.framed p = true ∧
      (s.writes p = true → (v.path p portCode).done = (s.path p portCode).done ++
        [{ t0 := 810 * s.now, bytes := (ziuthPayload (s.prtMode p) data).map some, shut := [], poh := [] }]) ∧
      v.rd (F.PRT_BC_RX_UNCORR p) = (data.getD 6 0).toNat ∧
      v.rd (F.PRT_CNT_COUNT p 0) = min (2 ^ 32 - 1) (s.rd (F.PRT_CNT_COUNT p 0) + corr) := by
  have hover : ZiuthKept p s (u.ziuthOverhead p corr uncorr bad data) := hkept.ziuthOverhead
  obtain ⟨huncorr, hcount⟩ := ziuthOverhead_shows u p corr uncorr bad data
  rw [hcnt.rd rfl] at hcount
  generalize u.ziuthOverhead p corr uncorr bad data = w at hover huncorr hcount
  have hrd : ∀ {f : Fld} {o : Nat}, f.addr = prtBase p + o →
      ((w.queuePayload p (s.prtMode p) data).updateRdi p).refreshRefs.rd f = w.rd f := fun {f o} ho =>
    (refreshRefs_rd _ ho).trans ((queuePayload_kept f.addr w p (s.prtMode p) data).updateRdi.rd rfl)
  refine ⟨?_, fun hw => ?_, (hrd rfl).trans huncorr, (hrd (show prtBase p + 0x120 + 0 * 0x4 = prtBase p + 0x120 by omega)).trans hcount⟩
  · rw [State.framed, State.flag, hrd rfl]
    exact (hover.status.flag rfl).trans hf
  · rw [State.path, (LineKept.refl _).refreshRefs.line, ← State.path, updateRdi_path, queuePayload_done ((hover.writes hz).trans hw), hover.path,
      hover.now]

theorem ziuthFrameRx_receives {t : Nat} {p : Port} {half : Bool} {faw code pad : List (Fin 4)} {line : List Bool}
    {x : List W8 × Nat × Nat} {s : State} (hrx : s.rxOn p.val = true) (hz : isZiuth (s.prtMode p.val) = true) (hf : s.framed p.val = true)
    (hin : (s.framer p.val).inFrame = true)
    (hline : line = if s.loop p.val = 2 then ziuthLine (s.prtMode p.val) (s.lastTx p.val)
      else ziuthBits (s.prtMode p.val) half (faw ++ code ++ pad))
    (hx : x = ziuthDecode (s.prtMode p.val) line) (hfit : ziuthFits (s.prtMode p.val) line.length = true) :
    (fawErrors line ≤ 3 ∨ (s.framer p.val).errRun < 3 → ∃ s', exec (.ziuthFrameRx t p half faw code pad) s = .next s' ∧
      s'.framed p.val = true ∧
      (s.writes p.val = true → (s'.path p.val portCode).done = (s.path p.val portCode).done ++
        [{ t0 := 810 * max s.now t, bytes := (ziuthPayload (s.prtMode p.val) x.1).map some, shut := [], poh := [] }]) ∧
      s'.rd (F.PRT_BC_RX_UNCORR p.val) = (x.1.getD 6 0).toNat ∧
      s'.rd (F.PRT_CNT_COUNT p.val 0) = min (2 ^ 32 - 1) (s.rd (F.PRT_CNT_COUNT p.val 0) + x.2.1)) ∧
    (3 < fawErrors line → 3 ≤ (s.framer p.val).errRun →
      ∃ s', exec (.ziuthFrameRx t p half faw code pad) s = .next s' ∧ OutOfFrame p.val s') := by
  have hexec := exec_ziuthFrameRx_works (t := t) hrx hz hf hline hx hfit
  obtain ⟨tx, hsent⟩ := sentBack_eq (s.tick t) p.val x.1
  rw [hsent] at hexec
  refine ⟨fun hok => ?_, fun herr hrun => ?_⟩
  · obtain ⟨hframed, hkept, hcnt⟩ := checkFaw_stays (s := { s.tick t with line := { (s.tick t).line with tx := tx } }) (p := p.val)
      (zfc := 256 * (x.1.getD 0 0).toNat + (x.1.getD 1 0).toNat) hz hf hin hok
    exact next_of (hexec.trans (if_pos hframed)) (ziuthReceived
      (s := { s.tick t with line := { (s.tick t).line with tx := tx } }) hz hf hkept hcnt)
  · have hout := checkFaw_leaves (s := { s.tick t with line := { (s.tick t).line with tx := tx } }) (p := p.val)
      (zfc := 256 * (x.1.getD 0 0).toNat + (x.1.getD 1 0).toNat) hz hf herr hrun
    exact next_of (hexec.trans (if_neg (by rw [hout.framed]; decide))) ((hout.dropRuns false).updateRdi.refreshRefs)

/-! ### The three commands -/

theorem exists_outOfFrame {r : Res} {p : Nat} (h : ∃ s', r = .next s' ∧ OutOfFrame p s') :
    ∃ s', r = .next s' ∧ s'.framed p = false ∧ s'.pdef p 1 = true ∧ (s'.framer p).inFrame = false := by
  obtain ⟨s', he, hout⟩ := h
  exact ⟨s', he, hout.framed, hout.oof, hout.framer⟩

/-- Settles O42: the check of the pattern decides whether the port stays in frame; where it does, what follows leaves the recorded values. -/
theorem lineFramesReceived : Obligations.LineFramesReceived := by
  intro t p half faw code pad starts lanes l0 l1 l2 l3 ais s hrx
  refine ⟨fun hz hf hin hfit => ?_, fun hs => ⟨exec_sonetFrameRx_sonet hs, fun hb hf hin hlen => ?_⟩, fun ho hlen => ?_⟩
  · obtain ⟨hstays, hleaves⟩ := ziuthFrameRx_receives (t := t) hrx hz hf hin rfl rfl hfit
    exact ⟨hstays, fun herr hrun => exists_outOfFrame (hleaves herr hrun)⟩
  · obtain ⟨hstays, hleaves⟩ := sonetFrameRx_receives (t := t) (starts := starts) hrx hs rfl hb hf hin hlen
    exact ⟨hstays, fun hbad hrun => exists_outOfFrame (hleaves hbad hrun)⟩
  · obtain ⟨hnext, hrest⟩ := otnFrameRx_receives (t := t) (ais := ais) hrx ho rfl rfl hlen
    refine ⟨hnext, fun hb hf hin => ?_⟩
    obtain ⟨hstays, hleaves⟩ := hrest hb hf hin
    exact ⟨hstays, fun hrun hfas => exists_outOfFrame (hleaves hrun hfas)⟩

end Sys2Proof.Machine
end

section
/-! Proofs: the pages of the map, and what entry writes and page updates leave alone (R54, R60 to R64). -/
namespace Sys2Proof.Machine

/-! ### The two pages (R60) -/

theorem activeNo_lt_two (s : State) : s.activeNo < 2 := bits_lt ..

/-- `u` is `s` but for the map state outside its registers. -/
def OnlyMap (s u : State) : Prop := ∃ m, u = { s with map := m }

theorem OnlyMap.refl (s : State) : OnlyMap s s := ⟨s.map, rfl⟩

theorem OnlyMap.trans {s t u : State} (h : OnlyMap s t) (g : OnlyMap t u) : OnlyMap s u := by
  obtain ⟨m, rfl⟩ := h
  obtain ⟨n, rfl⟩ := g
  exact ⟨n, rfl⟩

theorem OnlyMap.regs {s u : State} (h : OnlyMap s u) : u.regs = s.regs := by
  obtain ⟨m, rfl⟩ := h
  rfl

/-- The pages and their roles are those of `s`. -/
structure SamePages (s u : State) : Prop where
  no : u.activeNo = s.activeNo
  page0 : u.map.page0 = s.map.page0
  page1 : u.map.page1 = s.map.page1

theorem SamePages.page {s u : State} (h : SamePages s u) (n : Nat) : u.page n = s.page n := by
  rw [State.page, State.page, h.page0, h.page1]

theorem SamePages.active {s u : State} (h : SamePages s u) : u.active = s.active := by
  rw [State.active, State.active, h.page, h.no]

theorem SamePages.shadow {s u : State} (h : SamePages s u) : u.shadow = s.shadow := by
  rw [State.shadow, State.shadow, State.shadowNo, State.shadowNo, h.page, h.no]

theorem page_setPage_same (s : State) (n : Nat) (p : List (Nat × W64)) : (s.setPage n p).page n = p := by
  by_cases h : n = 0
  · simp [State.setPage, State.page, h]
  · simp [State.setPage, State.page, h]

theorem page_setPage_other {s : State} {n m : Nat} {p : List (Nat × W64)} (h : n = 0 ↔ m ≠ 0) : (s.setPage n p).page m = s.page m := by
  by_cases hn : n = 0
  · simp [State.setPage, State.page, hn, h.1 hn]
  · simp [State.setPage, State.page, hn, not_not.1 (mt h.2 hn)]

@[simp] theorem shadow_setShadow (s : State) (p : List (Nat × W64)) : (s.setShadow p).shadow = p := page_setPage_same ..

@[simp] theorem active_setShadow (s : State) (p : List (Nat × W64)) : (s.setShadow p).active = s.active := by
  have hno := activeNo_lt_two s
  exact page_setPage_other (n := s.shadowNo) (m := s.activeNo) (by rw [State.shadowNo]; omega)

/-- Replacing the shadow page changes the pages alone. -/
theorem setShadow_map (s : State) (p : List (Nat × W64)) :
    (s.setShadow p).map = { s.map with page0 := (s.setShadow p).map.page0, page1 := (s.setShadow p).map.page1 } := by
  show (if s.shadowNo = 0 then { s.map with page0 := p } else { s.map with page1 := p }) = _
  simp only [State.setShadow, State.setPage, State.mapMap_map]
  split <;> rfl

theorem entryAt_putEntry (p : List (Nat × W64)) (a b : Nat) (e : W64) :
    entryAt (putEntry p a e) b = if a = b then e else entryAt p b := Store.get_put

/-! ### Mirroring of entries leaves the map alone -/

theorem mirrorEntries_onlyMirror (s : State) (es : List (Nat × W64)) : OnlyMirror s (s.mirrorEntries es) := by
  rw [State.mirrorEntries]
  split
  · exact (OnlyMirror.foldl (fun _ _ _ => sendFor_onlyMirror ..) s).mapMate
  · exact .refl s

theorem OnlyMirror.flag {s u : State} (h : OnlyMirror s u) {f : Fld} (hf : 0x40070000 ≤ f.addr) : u.flag f = s.flag f := by
  rw [State.flag, State.flag, h.rd hf]

theorem OnlyMirror.samePages {s u : State} (h : OnlyMirror s u) : SamePages s u :=
  ⟨h.rd (by decide), by rw [h.map], by rw [h.map]⟩

end Sys2Proof.Machine
end

section
/-! Proofs: the course of a commit (O31; R75 to R80). -/
namespace Sys2Proof.Machine

/-! ### MAP_COMMIT is taken (R75 to R77) -/

/-- What MAP_COMMIT makes of the map once it is taken for `target`: STATE is 2, the commit is in flight, and an unchecked page is checked. -/
def State.takeCommit (s : State) (target : W16) (named : Bool) : State :=
  (s.wr F.MAP_STATUS_STATE 2).mapMap fun m =>
    { m with
      commit := some { target := target, named := named, unchecked := !s.flag F.MAP_STATUS_CHECK_VALID }
      check := if !s.flag F.MAP_STATUS_CHECK_VALID then some { full := false, stale := false, fan := s.rd F.MAP_HERD_CFG_HERD_FAN } else none }

/-- The frame that MAP_COMMIT names, or with NEXT the device. -/
def State.commitTarget (s : State) (d : List W32) : W16 := if optOf d then s.pickTarget else BitVec.ofNat 16 (word d 2)

theorem takeCommit_map (s : State) (target : W16) (named : Bool) :
    (s.takeCommit target named).map.commit = some { target := target, named := named, unchecked := !s.flag F.MAP_STATUS_CHECK_VALID } ∧
      (s.takeCommit target named).map.check.isSome = (!s.flag F.MAP_STATUS_CHECK_VALID) ∧
      (s.takeCommit target named).map.page0 = s.map.page0 ∧ (s.takeCommit target named).map.page1 = s.map.page1 := by
  refine ⟨rfl, ?_, rfl, rfl⟩
  rw [State.takeCommit, State.mapMap_map]
  cases s.flag F.MAP_STATUS_CHECK_VALID <;> rfl

theorem takeCommit_state (s : State) (target : W16) (named : Bool) : (s.takeCommit target named).rd F.MAP_STATUS_STATE = 2 := by
  rw [State.takeCommit, State.mapMap_rd, State.rd_wr_same _ _ _ (by decide)]
  rfl

section
variable {x : Exe} {i : Nat} {k : Taken} {s : State} (hs : Starts s .mapCommit x i k) (h2 : onlyBits (word k.d 2) 0xFFFF = true)
  (hbusy : s.mapBusy = false) (hho : s.flag F.PAIR_STAT_HO_PEND = false)
include hs h2 hbusy hho

/-- What MAP_COMMIT answers while nothing of the map is in progress. -/
theorem exec_mapCommit {target : W16} (ht : (s.tick x.t).commitTarget k.d = target) : exec (.mapCommit x) s = .next (Ans.settle i k x.rplOk
    (if !optOf k.d && (decide (fnDist target s.fn < 2) || decide (32768 ≤ fnDist target s.fn)) then .refuse .commitTooLate
      else if !optOf k.d || s.flag F.MAP_STATUS_CHECK_VALID then
        .accepted (((s.tick x.t).takeCommit target (!optOf k.d || s.flag F.MAP_STATUS_CHECK_VALID)).wr F.MAP_FN_TARGET_FN target.toNat)
          [BitVec.ofNat 32 target.toNat]
      else .later ((s.tick x.t).takeCommit target (!optOf k.d || s.flag F.MAP_STATUS_CHECK_VALID))) (s.tick x.t)) := by
  subst ht
  have hidle : (s.tick x.t).mapBusy = false ∧ (s.tick x.t).flag F.PAIR_STAT_HO_PEND = false := ⟨hbusy, hho⟩
  show Host.Outcome.next _ = _
  rw [State.run_starts hs h2]
  simp only [hidle, Bool.or_self, Bool.false_eq_true, if_false, Bool.not_not]
  rfl

/-- A target in time, or one that the device names for a checked page, is accepted. -/
theorem mapCommit_accepted {target : W16} (ht : (s.tick x.t).commitTarget k.d = target)
    (h : (optOf k.d = false ∧ 2 ≤ fnDist target s.fn ∧ fnDist target s.fn < 32768) ∨
      (optOf k.d = true ∧ s.flag F.MAP_STATUS_CHECK_VALID = true)) :
    ∃ u : State, exec (.mapCommit x) s = .next (u.accept i k [BitVec.ofNat 32 target.toNat] x.rplOk) ∧
      u.map.commit = some { target := target, named := true, unchecked := !s.flag F.MAP_STATUS_CHECK_VALID } ∧
      u.map.check.isSome = (!s.flag F.MAP_STATUS_CHECK_VALID) ∧
      u.rd F.MAP_STATUS_STATE = 2 ∧ u.rd F.MAP_FN_TARGET_FN = target.toNat ∧ u.map.page0 = s.map.page0 ∧ u.map.page1 = s.map.page1 := by
  have hnamed : (!optOf k.d || s.flag F.MAP_STATUS_CHECK_VALID) = true := by
    rcases h with ⟨hopt, -⟩ | ⟨-, hvalid⟩
    · rw [hopt]; rfl
    · rw [hvalid, Bool.or_true]
  have hintime : (!optOf k.d && (decide (fnDist target s.fn < 2) || decide (32768 ≤ fnDist target s.fn))) = false := by
    rcases h with ⟨-, hlo, hhi⟩ | ⟨hopt, -⟩
    · simp [Nat.not_lt.2 hlo, Nat.not_le.2 hhi]
    · rw [hopt]; rfl
  obtain ⟨hcommit, hcheck, hp0, hp1⟩ := takeCommit_map (s.tick x.t) target true
  refine ⟨((s.tick x.t).takeCommit target true).wr F.MAP_FN_TARGET_FN target.toNat, ?_, hcommit, hcheck, ?_, ?_, hp0, hp1⟩
  · rw [exec_mapCommit hs h2 hbusy hho ht, hintime, hnamed]
    rfl
  · rw [State.rd_wr_apart _ _ (by decide), takeCommit_state]
  · rw [State.rd_wr_same _ _ _ (by decide)]
    exact Nat.mod_eq_of_lt target.isLt

/-- With NEXT on an unchecked page the target waits for the check, and so does ACCEPTED. -/
theorem mapCommit_waits {target : W16} (ht : (s.tick x.t).commitTarget k.d = target) (hopt : optOf k.d = true)
    (hvalid : s.flag F.MAP_STATUS_CHECK_VALID = false) :
    ∃ s', exec (.mapCommit x) s = .next s' ∧ s'.mbx.taken = s.mbx.taken.set i { k with phase := .working } ∧ s'.out = s.out ∧
      s'.map.commit = some { target := target, named := false, unchecked := true } ∧ s'.map.check.isSome = true ∧
      s'.rd F.MAP_STATUS_STATE = 2 ∧ s'.map.page0 = s.map.page0 ∧ s'.map.page1 = s.map.page1 := by
  obtain ⟨hcommit, hcheck, hp0, hp1⟩ := takeCommit_map (s.tick x.t) target false
  rw [flag_tick, hvalid] at hcommit hcheck
  refine next_of (u := ((s.tick x.t).takeCommit target false).retake i (some { k with phase := .working })) ?_
    ⟨rfl, rfl, hcommit, hcheck, takeCommit_state (s.tick x.t) target false, hp0, hp1⟩
  rw [exec_mapCommit hs h2 hbusy hho ht, hopt, hvalid]
  rfl

end

/-! ### Arming (R77, R107) and the deadline (R75) -/

/-- A field of the map reads the same after the boost of a heavier commit. -/
theorem preboost_rd {s : State} {n : Nat} {target : W16} {f : Fld} (h : F.PWR_VCORE_CMD_MV.apart f = true) :
    (s.preboost n target).rd f = s.rd f := by
  rw [State.preboost]
  split
  · exact State.rd_wr_apart _ _ h
  · rfl

/-- The boost leaves the map and what was sent alone. -/
theorem preboost_map_out (s : State) (n : Nat) (target : W16) : (s.preboost n target).map = s.map ∧ (s.preboost n target).out = s.out := by
  rw [State.preboost]
  split <;> exact ⟨rfl, rfl⟩

theorem mapCommitArm_arms {t : Nat} {c : CommitRun} {s : State} (hc : s.map.commit = some c) (hn : c.named = true) (hu : c.unchecked = false)
    (hst : s.rd F.MAP_STATUS_STATE = 2) (hlo : 2 ≤ fnDist c.target s.fn) (hhi : fnDist c.target s.fn < 32768) :
    ∃ s', exec (.mapCommitArm t) s = .next s' ∧ s'.rd F.MAP_STATUS_STATE = 3 ∧ s'.map = s.map ∧ s'.out = s.out := by
  have harm : exec (.mapCommitArm t) s = .next ((((s.tick t).wr F.MAP_STATUS_STATE 3).preboost s.map.peakLoad c.target).mirror
      (.commitArm c.target (((s.tick t).wr F.MAP_STATUS_STATE 3).preboost s.map.peakLoad c.target).map.checkId
        (BitVec.ofNat 32 (((s.tick t).wr F.MAP_STATUS_STATE 3).preboost s.map.peakLoad c.target).mate.sent))) := by
    show execMapCommitArm t s = _
    simp only [execMapCommitArm, State.tick_map, hc]
    exact if_pos ⟨hn, hu, hst, hlo, hhi⟩
  obtain ⟨hmap, hout⟩ := preboost_map_out ((s.tick t).wr F.MAP_STATUS_STATE 3) s.map.peakLoad c.target
  refine next_of harm ?_
  generalize MateBody.commitArm _ _ _ = body
  have hm := mirror_onlyMirror (((s.tick t).wr F.MAP_STATUS_STATE 3).preboost s.map.peakLoad c.target) body
  refine ⟨?_, hm.map.trans hmap, hm.out.trans hout⟩
  rw [hm.rd (by decide), preboost_rd (by decide), State.rd_wr_same _ _ _ (by decide)]
  rfl

theorem dropCommit_map (s : State) : s.dropCommit.map = { s.map with commit := none, check := none } := rfl

theorem dropCommit_state (s : State) : s.dropCommit.rd F.MAP_STATUS_STATE = 0 := by
  rw [State.dropCommit, State.mapMap_rd, State.rd_wr_same _ _ _ (by decide)]
  rfl

theorem dropCommit_activeNo (s : State) : s.dropCommit.activeNo = s.activeNo := State.rd_wr_apart _ _ (by decide)

theorem commitDeadline_refuses {t : Nat} {rplOk : Bool} {c : CommitRun} {s : State} (hc : s.map.commit = some c) (hn : c.named = true)
    (hst : s.rd F.MAP_STATUS_STATE = 2) (hlate : fnDist c.target s.fn < 2 ∨ 32768 ≤ fnDist c.target s.fn) :
    ∃ u : State, exec (.commitDeadline t rplOk) s = .next (u.complete .mapCommit .commitTooLate [] rplOk) ∧
      u.map = { s.map with commit := none, check := none } ∧ u.rd F.MAP_STATUS_STATE = 0 ∧ RegsKept s u [0x40070004] := by
  refine ⟨(s.tick t).dropCommit, ?_, dropCommit_map _, dropCommit_state _, ?_⟩
  · show execCommitDeadline t rplOk s = _
    simp only [execCommitDeadline, State.tick_map, hc]
    exact if_pos ⟨hn, hst, hlate⟩
  · exact kept_trans (kept_refl (s.tick_regs t)) (kept_wr (by decide))

/-! ### The swap (R77, R78, R80) -/

/-- The registers of MAP as a swap leaves them. -/
def State.swapRegs (s : State) : State :=
  let u := s.wr F.MAP_STATUS_ACTIVE_PAGE s.shadowNo
  let u := ((u.wr F.MAP_FN_LAST_SWAP_FN u.fn.toNat).raise F.MAP_INT_SWAP).bump F.MAP_COMMIT_CNT_COUNT 1
  let u := ((u.wr F.MAP_HERD_USE_IN_USE (herdUsed s.shadow).length).wr F.MAP_BANK_PEAK_LOAD u.map.peakLoad).wr F.MAP_BANK_PEAK_BANK
    u.map.peakBank
  (u.setFlag F.MAP_STATUS_CHECK_VALID false).wr F.MAP_STATUS_STATE 4

/-- The map outside its registers as a swap leaves it: copy-forward is to come. -/
def State.swapMap (s u : State) : State :=
  u.mapMap fun m =>
    { m with
      commit := none
      copy := some { slots := m.moved.foldl (fun d x => Store.put (fun _ => false) d x.1 true) m.dirty, fn := u.fn,
                     changed := changedEntries s.active s.shadow s.map.dirty }
      dirty := [], redir := [], moved := [], before := [] }

/-- The frame that is being sent is built from the page now active. -/
def State.swapSample (u : State) : State :=
  (u.mapCore fun c => { c with samp := { c.samp with page := u.active, pageNo := u.activeNo } }).mapMate fun m => { m with sent := 0 }

theorem swapPages_eq (s : State) : s.swapPages = (s.swapMap s.swapRegs).swapSample.showDirty.countRefs.reherd.wakeDemands := rfl

theorem swapRegs_onlyRegs (s : State) : OnlyRegs s s.swapRegs := (OnlyRegs.refl s).wr.wr.wr.wr.wr.wr.wr.wr.wr

theorem swapRegs_rd (s : State) : s.swapRegs.rd F.MAP_STATUS_ACTIVE_PAGE = 1 - s.rd F.MAP_STATUS_ACTIVE_PAGE ∧
    s.swapRegs.rd F.MAP_FN_LAST_SWAP_FN = s.fn.toNat ∧ s.swapRegs.rd F.MAP_INT_SWAP = 1 ∧
    s.swapRegs.rd F.MAP_COMMIT_CNT_COUNT = (s.rd F.MAP_COMMIT_CNT_COUNT + 1) % 2 ^ 32 ∧ s.swapRegs.rd F.MAP_STATUS_STATE = 4 := by
  have hno : s.shadowNo < 2 := by rw [State.shadowNo]; omega
  have hfn : (s.wr F.MAP_STATUS_ACTIVE_PAGE s.shadowNo).fn = s.fn := by rw [State.fn, State.rd_wr_apart _ _ (by decide), State.fn]
  simp (disch := decide) only [State.swapRegs, State.raise, State.bump, State.setFlag, State.rd_wr_apart, State.rd_wr_same, hfn]
  exact ⟨Nat.mod_eq_of_lt hno, Nat.mod_eq_of_lt s.fn.isLt, Nat.mod_eq_of_lt (by decide), trivial, Nat.mod_eq_of_lt (by decide)⟩

/-- What follows the swap of the roles: counts, the herd set and demands, that leave the map, the sample and most registers alone. -/
structure AfterSwap (s u : State) : Prop where
  rd : ∀ f : Fld, F.MAP_DIRTY_COUNT.addr ≠ f.addr → f.addr < 0x40100000 → u.rd f = s.rd f
  map : u.map = s.map
  page : u.core.samp.page = s.core.samp.page
  out : u.out = s.out

theorem AfterSwap.trans {s t u : State} (h : AfterSwap s t) (g : AfterSwap t u) : AfterSwap s u :=
  ⟨fun f hd hf => (g.rd f hd hf).trans (h.rd f hd hf), g.map.trans h.map, g.page.trans h.page, g.out.trans h.out⟩

theorem showDirty_afterSwap (s : State) : AfterSwap s s.showDirty := ⟨fun _ hd _ => State.rd_wr_addr _ _ hd, rfl, rfl, rfl⟩

theorem countRefs_afterSwap (s : State) : AfterSwap s s.countRefs := by
  have hfold : ∀ (l : List Nat) (u : State), AfterSwap u
      (l.foldl (fun v p => v.wr (F.PRT_SRC_REFS_COUNT p) (srcRefs v.checkEnv v.active p)) u) := by
    intro l
    induction l with
    | nil => exact fun _ => ⟨fun _ _ _ => rfl, rfl, rfl, rfl⟩
    | cons p l ih =>
      have hne : ∀ f : Fld, f.addr < 0x40100000 → (F.PRT_SRC_REFS_COUNT p).addr ≠ f.addr := fun f hf => by
        show 0x40100000 + p * 0x1000 + 0x10 ≠ f.addr
        omega
      exact fun u => AfterSwap.trans ⟨fun f _ hf => State.rd_wr_addr _ _ (hne f hf), rfl, rfl, rfl⟩ (ih _)
  exact hfold _ s

theorem reherd_afterSwap (s : State) : AfterSwap s s.reherd := by
  refine ⟨fun _ _ _ => rfl, rfl, ?_, rfl⟩
  rw [State.reherd, State.mapCore_core]
  split
  · rfl
  · split <;> rfl

theorem wakeDemands_afterSwap (s : State) : AfterSwap s s.wakeDemands := by
  obtain ⟨l, h⟩ := wakeDemands_onlyLine s
  rw [h]
  exact ⟨fun _ _ _ => rfl, rfl, rfl, rfl⟩

theorem swapPages_afterSwap (s : State) : AfterSwap (s.swapMap s.swapRegs).swapSample s.swapPages := by
  rw [swapPages_eq]
  exact (((showDirty_afterSwap _).trans (countRefs_afterSwap _)).trans (reherd_afterSwap _)).trans (wakeDemands_afterSwap _)

/-- The map and the sample are no registers, and the registers no part of the map. -/
@[simp] theorem swapMap_rd (s u : State) (f : Fld) : (s.swapMap u).rd f = u.rd f := rfl
@[simp] theorem swapSample_rd (u : State) (f : Fld) : u.swapSample.rd f = u.rd f := rfl
@[simp] theorem swapSample_map (u : State) : u.swapSample.map = u.map := rfl

theorem swapSample_page (u : State) : u.swapSample.core.samp.page = u.active := rfl

theorem swapMap_map (s u : State) : (s.swapMap u).map.commit = none ∧ (s.swapMap u).map.dirty = [] ∧ (s.swapMap u).map.page0 = u.map.page0 ∧
    (s.swapMap u).map.page1 = u.map.page1 ∧ (s.swapMap u).swapSample.out = u.out := ⟨rfl, rfl, rfl, rfl, rfl⟩

/-- A field of MAP after a swap. -/
theorem swapPages_rd {s : State} {f : Fld} (hd : F.MAP_DIRTY_COUNT.addr ≠ f.addr) (hf : f.addr < 0x40100000) :
    s.swapPages.rd f = s.swapRegs.rd f := by
  rw [(swapPages_afterSwap s).rd f hd hf, swapSample_rd, swapMap_rd]

/-- The roles of the pages are exchanged, and nothing of them is changed. -/
theorem swapMap_pages (s : State) : (s.swapMap s.swapRegs).active = s.shadow ∧ (s.swapMap s.swapRegs).shadow = s.active := by
  have hlt := activeNo_lt_two s
  have hback : 1 - (1 - s.activeNo) = s.activeNo := by omega
  have hno : (s.swapMap s.swapRegs).activeNo = 1 - s.activeNo := by rw [State.activeNo, swapMap_rd, (swapRegs_rd s).1, State.activeNo]
  obtain ⟨-, -, hp0, hp1, -⟩ := swapMap_map s s.swapRegs
  have hpage : ∀ n, (s.swapMap s.swapRegs).page n = s.page n := fun n => by
    obtain ⟨r, hr⟩ := swapRegs_onlyRegs s
    rw [State.page, State.page, hp0, hp1, hr]
  constructor
  · rw [State.active, hno, hpage, State.shadow, State.shadowNo]
  · rw [State.shadow, State.shadowNo, hno, hpage, hback, State.active]

theorem swapPages_pages (s : State) : s.swapPages.active = s.shadow ∧ s.swapPages.shadow = s.active := by
  have ha := swapPages_afterSwap s
  have hsame : SamePages (s.swapMap s.swapRegs) s.swapPages :=
    ⟨by rw [State.activeNo, ha.rd _ (by decide) (by decide), swapSample_rd, State.activeNo], by rw [ha.map, swapSample_map],
      by rw [ha.map, swapSample_map]⟩
  rw [hsame.active, hsame.shadow]
  exact swapMap_pages s

theorem swapPages_sample (s : State) : s.swapPages.core.samp.page = s.shadow := by
  rw [(swapPages_afterSwap s).page, swapSample_page, (swapMap_pages s).1]

theorem swapPages_map (s : State) : s.swapPages.map.commit = none ∧ s.swapPages.map.dirty = [] ∧ s.swapPages.out = s.out := by
  obtain ⟨hcommit, hdirty, -, -, hout⟩ := swapMap_map s s.swapRegs
  have ha := swapPages_afterSwap s
  obtain ⟨r, hr⟩ := swapRegs_onlyRegs s
  rw [ha.map, swapSample_map, ha.out, hout, hr]
  rw [hr] at hcommit hdirty
  exact ⟨hcommit, hdirty, rfl⟩

theorem exec_mapSwap {t : Nat} {rplOk : Bool} {c : CommitRun} {s : State} (hc : s.map.commit = some c)
    (hst : s.rd F.MAP_STATUS_STATE = 3) (ht : c.target = s.fn) (hstart : s.core.started = true) (hmark : max s.now t = s.core.markT) :
    exec (.mapSwap t rplOk) s = if s.pair.actedPrev then .next (s.tick t).swapPages
      else .next (((s.tick t).dropCommit.sendRec (.commitCancel c.target) true).complete .mapCommit .notLampHolder [] rplOk) := by
  show execMapSwap t rplOk s = _
  simp only [execMapSwap, State.tick_map, hc]
  exact if_pos ⟨hst, ht, hstart, hmark⟩

theorem mapSwap_swaps {t : Nat} {rplOk : Bool} {c : CommitRun} {s : State} (hc : s.map.commit = some c)
    (hst : s.rd F.MAP_STATUS_STATE = 3) (ht : c.target = s.fn) (hstart : s.core.started = true) (hmark : max s.now t = s.core.markT)
    (hacted : s.pair.actedPrev = true) :
    ∃ s', exec (.mapSwap t rplOk) s = .next s' ∧ s'.active = s.shadow ∧ s'.shadow = s.active ∧
      s'.rd F.MAP_STATUS_ACTIVE_PAGE = 1 - s.rd F.MAP_STATUS_ACTIVE_PAGE ∧ s'.rd F.MAP_FN_LAST_SWAP_FN = s.fn.toNat ∧
      s'.flag F.MAP_INT_SWAP = true ∧ s'.rd F.MAP_COMMIT_CNT_COUNT = (s.rd F.MAP_COMMIT_CNT_COUNT + 1) % 2 ^ 32 ∧
      s'.rd F.MAP_STATUS_STATE = 4 ∧ s'.map.commit = none ∧ s'.map.dirty = [] ∧ s'.core.samp.page = s.shadow ∧ s'.out = s.out := by
  obtain ⟨hactive, hshadow⟩ := swapPages_pages (s.tick t)
  obtain ⟨hno, hfn, hint, hcnt, hstate⟩ := swapRegs_rd (s.tick t)
  obtain ⟨hcommit, hdirty, hout⟩ := swapPages_map (s.tick t)
  refine next_of ((exec_mapSwap hc hst ht hstart hmark).trans (if_pos hacted))
    ⟨hactive, hshadow, ?_, ?_, ?_, ?_, ?_, hcommit, hdirty, swapPages_sample (s.tick t), hout⟩
  · rw [swapPages_rd (by decide) (by decide), hno, State.tick_rd]
  · rw [swapPages_rd (by decide) (by decide), hfn]
    rfl
  · rw [State.flag, swapPages_rd (by decide) (by decide), hint]
    rfl
  · rw [swapPages_rd (by decide) (by decide), hcnt, State.tick_rd]
  · rw [swapPages_rd (by decide) (by decide), hstate]

theorem mapSwap_discards {t : Nat} {rplOk : Bool} {c : CommitRun} {s : State} (hc : s.map.commit = some c)
    (hst : s.rd F.MAP_STATUS_STATE = 3) (ht : c.target = s.fn) (hstart : s.core.started = true) (hmark : max s.now t = s.core.markT)
    (hacted : s.pair.actedPrev = false) :
    ∃ u : State, exec (.mapSwap t rplOk) s = .next (u.complete .mapCommit .notLampHolder [] rplOk) ∧ u.map.commit = none ∧
      u.map.page0 = s.map.page0 ∧ u.map.page1 = s.map.page1 ∧ u.rd F.MAP_STATUS_ACTIVE_PAGE = s.rd F.MAP_STATUS_ACTIVE_PAGE := by
  have hm : OnlyMirror (s.tick t).dropCommit ((s.tick t).dropCommit.sendRec (.commitCancel c.target) true) := sendFor_onlyMirror ..
  refine ⟨(s.tick t).dropCommit.sendRec (.commitCancel c.target) true, ?_, ?_, ?_, ?_, ?_⟩
  · exact (exec_mapSwap hc hst ht hstart hmark).trans (if_neg (by rw [hacted]; decide))
  · rw [hm.map, dropCommit_map]
  · rw [hm.map, dropCommit_map]
    rfl
  · rw [hm.map, dropCommit_map]
    rfl
  · exact (hm.rd (by decide)).trans (dropCommit_activeNo (s.tick t))

/-! ### Copy-forward (R79) -/

/-- The shadow page is brought forward: what a finished copy-forward leaves before it is mirrored. -/
def State.endCopy (s : State) (p : List (Nat × W64)) : State :=
  (((s.setShadow p).mapMap fun m => { m with copy := none }).wr F.MAP_STATUS_STATE 0).raise F.MAP_INT_COMMIT_DONE

theorem endCopy_rd (s : State) (p : List (Nat × W64)) : (s.endCopy p).rd F.MAP_STATUS_STATE = 0 ∧
    (s.endCopy p).flag F.MAP_INT_COMMIT_DONE = true ∧ (s.endCopy p).activeNo = s.activeNo := by
  refine ⟨?_, flag_wr_same _ _ _ (by decide) rfl, ?_⟩
  · rw [State.endCopy, State.raise, State.rd_wr_apart _ _ (by decide), State.rd_wr_same _ _ _ (by decide)]
    rfl
  · rw [State.activeNo, State.endCopy, State.raise, State.rd_wr_apart _ _ (by decide), State.rd_wr_apart _ _ (by decide)]
    rfl

theorem endCopy_pages (s : State) (p : List (Nat × W64)) : (s.endCopy p).active = s.active ∧ (s.endCopy p).shadow = p := by
  have hsame : SamePages (s.setShadow p) (s.endCopy p) := ⟨(endCopy_rd s p).2.2, rfl, rfl⟩
  rw [hsame.active, hsame.shadow]
  exact ⟨active_setShadow s p, shadow_setShadow s p⟩

/-- The entries that copy-forward towards `p` changed, as the mirror gets them. -/
def State.copiedEntries (s : State) (cp : CopyRun) (p : List (Nat × W64)) : List (Nat × W64) :=
  ((cp.slots.map Prod.fst ++ herdUsed s.active).filter fun a => decide (entryAt p a ≠ entryAt s.shadow a)).map fun a => (a, entryAt p a)

theorem exec_copyForwardDone {t : Nat} {rplOk : Bool} {cp : CopyRun} {p : List (Nat × W64)} {s u : State}
    (hbg : s.flag F.CORE_STATUS_BG_SUSPENDED = false) (hcp : s.map.copy = some cp)
    (hp : copyForward s.active s.shadow cp.slots s.map.dirty = p) (hu : ((s.tick t).endCopy p).mirrorEntries (s.copiedEntries cp p) = u) :
    exec (.copyForwardDone t rplOk) s = .next (u.complete .mapCommit .ok
      [BitVec.ofNat 32 cp.fn.toNat, BitVec.ofNat 32 cp.changed, BitVec.ofNat 32 (herdUsed u.active).length] rplOk) := by
  subst hu hp
  show execCopyForwardDone t rplOk s = _
  simp only [execCopyForwardDone, flag_tick, hbg, Bool.false_eq_true, if_false, State.tick_map, hcp]
  rfl

theorem copyForwardDone_completes {t : Nat} {rplOk : Bool} {cp : CopyRun} {s : State} (hbg : s.flag F.CORE_STATUS_BG_SUSPENDED = false)
    (hcp : s.map.copy = some cp) :
    ∃ u : State, exec (.copyForwardDone t rplOk) s = .next (u.complete .mapCommit .ok
        [BitVec.ofNat 32 cp.fn.toNat, BitVec.ofNat 32 cp.changed, BitVec.ofNat 32 (herdUsed s.active).length] rplOk) ∧
      u.map.copy = none ∧ u.active = s.active ∧ u.rd F.MAP_STATUS_STATE = 0 ∧ u.flag F.MAP_INT_COMMIT_DONE = true ∧
      u.shadow = copyForward s.active s.shadow cp.slots s.map.dirty := by
  generalize hp : copyForward s.active s.shadow cp.slots s.map.dirty = p
  obtain ⟨hactive, hshadow⟩ := endCopy_pages (s.tick t) p
  obtain ⟨hstate, hdone, -⟩ := endCopy_rd (s.tick t) p
  have hm := mirrorEntries_onlyMirror ((s.tick t).endCopy p) (s.copiedEntries cp p)
  have hsame : (((s.tick t).endCopy p).mirrorEntries (s.copiedEntries cp p)).active = s.active := hm.samePages.active.trans hactive
  have hexec := exec_copyForwardDone (t := t) (rplOk := rplOk) hbg hcp hp rfl
  rw [hsame] at hexec
  refine ⟨_, hexec, ?_, hsame, ?_, ?_, ?_⟩
  · rw [hm.map]
    rfl
  · rw [hm.rd (by decide), hstate]
  · rw [hm.flag (by decide), hdone]
  · rw [hm.samePages.shadow, hshadow]

/-- Settles O31: what MAP_COMMIT takes, then arming, the deadline, the swap and copy-forward, each by what it makes of the map. -/
theorem mapCommits : Obligations.MapCommits := by
  intro x i k t rplOk c cp s
  refine ⟨fun hs h2 hbusy hho => ⟨?_, ?_⟩, mapCommitArm_arms, commitDeadline_refuses, fun hc hst ht hstart hmark => ⟨?_, ?_⟩,
    copyForwardDone_completes⟩
  · exact mapCommit_accepted hs h2 hbusy hho rfl
  · exact mapCommit_waits hs h2 hbusy hho rfl
  · exact mapSwap_swaps hc hst ht hstart hmark
  · exact mapSwap_discards hc hst ht hstart hmark

end Sys2Proof.Machine
end

section
/-! Proofs: host writes of the shadow page and its readback (O29; R60 to R64, R76, R82, R113). -/
namespace Sys2Proof.Machine

/-! ### Sealed entries and the words of a write -/

/-- A sealed word keeps its 56 data bits (R54). -/
theorem seal54_data (d : Nat) : (seal54 d).toNat % 2 ^ 56 = d % 2 ^ 56 := by
  rw [seal54, BitVec.toNat_ofNat, Nat.mod_mod_of_dvd _ (by decide), Nat.add_mul_mod_self_right, Nat.mod_mod]

/-- Sealing a sealed word again changes nothing. -/
theorem seal54_seal54 (d : Nat) : seal54 (seal54 d).toNat = seal54 d := by
  rw [seal54, seal54_data, ← seal54]

theorem length_chunks {n fuel : Nat} (hn : n ≠ 0) {bs : List W8} (h : n * fuel ≤ bs.length) : (chunks n fuel bs).length = fuel := by
  induction fuel generalizing bs with
  | zero => rfl
  | succ fuel ih =>
    rw [Nat.mul_succ] at h
    rw [chunks, if_neg (by omega), List.length_cons, ih (by rw [List.length_drop]; omega)]

/-- `8n` bytes spell `n` words. -/
theorem length_bytesW64 {bs : List W8} {n : Nat} (h : bs.length = 8 * n) : (bytesW64 bs).length = n := by
  rw [bytesW64, List.length_map, h, Nat.mul_div_cancel_left n (by decide), length_chunks (by decide) h.ge]

theorem length_templateRun (mode tmpl k n : Nat) : (templateRun mode tmpl k n).length = n := by
  induction n generalizing k with
  | zero => rfl
  | succ n ih => rw [templateRun, List.length_cons, ih]

/-- The entry that the template gives `k` slots on (R64). -/
def templateEntry (mode tmpl k : Nat) : W64 := seal54 (if mode = 2 then tmpl % 2 ^ 56 - tmpl % 2 ^ 25 + (tmpl % 2 ^ 25 + k) else tmpl)

theorem getD_templateRun {mode tmpl k n j : Nat} (h : j < n) : (templateRun mode tmpl k n).getD j 0 = templateEntry mode tmpl (k + j) := by
  induction n generalizing k j with
  | zero => omega
  | succ n ih =>
    have hcons : templateRun mode tmpl k (n + 1) = templateEntry mode tmpl k :: templateRun mode tmpl (k + 1) n := by
      rw [templateRun, templateEntry, apply_ite seal54]
    rw [hcons]
    cases j with
    | zero => rfl
    | succ j => rw [List.getD_cons_succ, ih (by omega), Nat.add_right_comm, Nat.add_assoc]

/-! ### Entries that a host write brings (R62, R63) -/

/-- The entry stored for `e`: under ECC_GEN the device computes its check bits. -/
def stored (gen : Bool) (e : W64) : W64 := if gen then seal54 e.toNat else e

/-- What storing the entries `es` from slot `a` upward does. -/
structure Stored (gen : Bool) (s u : State) (a : Nat) (es : List W64) : Prop where
  only : OnlyMap s u
  active : u.active = s.active
  commit : u.map.commit = s.map.commit
  wrote : ∀ j, j < es.length → entryAt u.shadow (a + j) = stored gen (es.getD j 0)
  kept : ∀ b, b < a ∨ a + es.length ≤ b → entryAt u.shadow b = entryAt s.shadow b
  dirty : ∀ j, j < es.length → Store.get (fun _ => false) u.map.dirty (a + j) = true
  dirtyKept : ∀ b, b < a ∨ a + es.length ≤ b → Store.get (fun _ => false) u.map.dirty b = Store.get (fun _ => false) s.map.dirty b

theorem hostEntry_onlyMap (gen : Bool) (s : State) (a : Nat) (e : W64) : OnlyMap s (s.hostEntry gen a e) := ⟨_, rfl⟩

theorem hostEntry_active (gen : Bool) (s : State) (a : Nat) (e : W64) : (s.hostEntry gen a e).active = s.active := active_setShadow s _

theorem hostEntry_shadow (gen : Bool) (s : State) (a : Nat) (e : W64) :
    (s.hostEntry gen a e).shadow = putEntry s.shadow a (stored gen e) := shadow_setShadow s _

theorem hostEntry_map (gen : Bool) (s : State) (a : Nat) (e : W64) : (s.hostEntry gen a e).map.commit = s.map.commit ∧
    (s.hostEntry gen a e).map.dirty = Store.put (fun _ => false) s.map.dirty a true := by
  have hmap := setShadow_map s (putEntry s.shadow a (stored gen e))
  have hcommit : (s.setShadow (putEntry s.shadow a (stored gen e))).map.commit = s.map.commit := by rw [hmap]
  have hdirty : (s.setShadow (putEntry s.shadow a (stored gen e))).map.dirty = s.map.dirty := by rw [hmap]
  exact ⟨hcommit, congrArg (fun d => Store.put (fun _ => false) d a true) hdirty⟩

/-- One entry, then those from the next slot. -/
theorem Stored.cons {gen : Bool} {s u : State} {a : Nat} {e : W64} {es : List W64} (h : Stored gen (s.hostEntry gen a e) u (a + 1) es) :
    Stored gen s u a (e :: es) := by
  obtain ⟨hcommit, hdirty⟩ := hostEntry_map gen s a e
  have hentry : ∀ b, entryAt (s.hostEntry gen a e).shadow b = if a = b then stored gen e else entryAt s.shadow b := fun b => by
    rw [hostEntry_shadow, entryAt_putEntry]
  have hmark : ∀ b, Store.get (fun _ => false) (s.hostEntry gen a e).map.dirty b =
      if a = b then true else Store.get (fun _ => false) s.map.dirty b := fun b => by rw [hdirty, Store.get_put]
  refine ⟨(hostEntry_onlyMap gen s a e).trans h.only, h.active.trans (hostEntry_active ..), h.commit.trans hcommit, fun j hj => ?_,
    fun b hb => ?_, fun j hj => ?_, fun b hb => ?_⟩
  · cases j with
    | zero => rw [Nat.add_zero, h.kept a (by omega), hentry, if_pos rfl]; rfl
    | succ j => rw [← Nat.succ_add_eq_add_succ, h.wrote j (Nat.lt_of_succ_lt_succ hj)]; rfl
  · rw [List.length_cons] at hb
    rw [h.kept b (by omega), hentry, if_neg (by omega)]
  · cases j with
    | zero => rw [Nat.add_zero, h.dirtyKept a (by omega), hmark, if_pos rfl]
    | succ j => rw [← Nat.succ_add_eq_add_succ, h.dirty j (Nat.lt_of_succ_lt_succ hj)]
  · rw [List.length_cons] at hb
    rw [h.dirtyKept b (by omega), hmark, if_neg (by omega)]

theorem hostEntries_stored (gen : Bool) (s : State) (a : Nat) (es : List W64) : Stored gen s (State.hostEntries gen s a es) a es := by
  induction es generalizing s a with
  | nil => exact ⟨.refl s, rfl, rfl, fun _ hj => absurd hj (Nat.not_lt_zero _), fun _ _ => rfl,
      fun _ hj => absurd hj (Nat.not_lt_zero _), fun _ _ => rfl⟩
  | cons e es ih => exact (ih (s.hostEntry gen a e) (a + 1)).cons

/-! ### After a host write (R63) -/

theorem wroteShadow_samePages (s : State) : SamePages s s.wroteShadow :=
  ⟨(State.rd_wr_apart _ _ (by decide)).trans (State.rd_wr_apart _ _ (by decide)), rfl, rfl⟩

theorem wroteShadow_checkValid (s : State) : s.wroteShadow.flag F.MAP_STATUS_CHECK_VALID = false :=
  (flag_wr_apart _ _ (by decide)).trans (flag_wr_same _ _ _ (by decide) rfl)

theorem wroteShadow_kept (s : State) : RegsKept s s.wroteShadow [0x40070004, F.MAP_DIRTY_COUNT.addr] :=
  kept_trans (kept_trans (kept_refl rfl) (kept_wr (by decide))) (kept_wr (by decide))

/-- A host write changes the map and registers alone. -/
theorem wroteShadow_of_onlyMap {s u : State} (h : OnlyMap s u) :
    u.wroteShadow = { s with regs := u.wroteShadow.regs, map := u.wroteShadow.map } := by
  obtain ⟨m, rfl⟩ := h
  rfl

/-- What a host write of the shadow page leaves. -/
structure HostWrote (gen : Bool) (s u : State) (a : Nat) (es : List W64) : Prop where
  wrote : ∀ j, j < es.length → entryAt u.shadow (a + j) = stored gen (es.getD j 0)
  kept : ∀ b, b < a ∨ a + es.length ≤ b → entryAt u.shadow b = entryAt s.shadow b
  dirty : ∀ j, j < es.length → Store.get (fun _ => false) u.map.dirty (a + j) = true
  active : u.active = s.active
  unchecked : u.flag F.MAP_STATUS_CHECK_VALID = false
  commit : u.map.commit = s.map.commit
  regs : RegsKept s u [0x40070004, F.MAP_DIRTY_COUNT.addr]
  rest : u = { s with regs := u.regs, map := u.map }

theorem wroteShadow_hostWrote (gen : Bool) (s : State) (a : Nat) (es : List W64) :
    HostWrote gen s (State.hostEntries gen s a es).wroteShadow a es := by
  have h := hostEntries_stored gen s a es
  have hp := wroteShadow_samePages (State.hostEntries gen s a es)
  exact ⟨fun j hj => hp.shadow ▸ h.wrote j hj, fun b hb => hp.shadow ▸ h.kept b hb, h.dirty, hp.active.trans h.active,
    wroteShadow_checkValid _, h.commit, kept_trans (kept_refl h.only.regs) (wroteShadow_kept _), wroteShadow_of_onlyMap h.only⟩

/-! ### The map window and the selector window (R60, R61, R113) -/

theorem rd_inc_same (s : State) {f : Fld} (n : Nat) (h : f.lo + f.w ≤ 32) : (s.inc f n).rd f = min (2 ^ f.w - 1) (s.rd f + n) := by
  have hpos : 0 < 2 ^ f.w := Nat.two_pow_pos _
  rw [State.inc, State.rd_wr_same _ _ _ h, Nat.mod_eq_of_lt (by omega)]

/-- What a dropped write leaves: one more counted drop, the cause, and the rest as it was. -/
theorem dropWindow_counts (s : State) : s.dropWindow.flag F.MAP_INT_WR_DROP = true ∧
    s.dropWindow.rd F.MAP_WR_DROP_COUNT = min (2 ^ 32 - 1) (s.rd F.MAP_WR_DROP_COUNT + 1) ∧ s.dropWindow.sel = s.sel ∧
    s.dropWindow.map = s.map ∧ OnlyRegs s s.dropWindow :=
  ⟨flag_wr_same _ _ _ (by decide) rfl, (State.rd_wr_apart _ _ (by decide)).trans (rd_inc_same _ _ (by decide)), rfl, rfl,
    (OnlyRegs.refl s).wr.wr⟩

theorem dropMapWindow_counts (s : State) : s.dropMapWindow.flag F.MAP_INT_WR_DROP = true ∧
    s.dropMapWindow.rd F.MAP_WR_DROP_COUNT = min (2 ^ 32 - 1) (s.rd F.MAP_WR_DROP_COUNT + 1) ∧ s.dropMapWindow.map = s.map ∧
    (s.acting = false → s.dropMapWindow.rd F.PAIR_WR_DROP_COUNT = min (2 ^ 32 - 1) (s.rd F.PAIR_WR_DROP_COUNT + 1)) := by
  obtain ⟨hint, hcount, -, hmap, -⟩ := dropWindow_counts s
  have hacting : s.dropWindow.acting = s.acting := (flag_wr_apart _ _ (by decide)).trans (flag_wr_apart _ _ (by decide))
  have hpair : s.dropWindow.rd F.PAIR_WR_DROP_COUNT = s.rd F.PAIR_WR_DROP_COUNT :=
    (State.rd_wr_apart _ _ (by decide)).trans (State.rd_wr_apart _ _ (by decide))
  simp only [State.dropMapWindow, hacting]
  generalize s.dropWindow = d at hint hcount hmap hpair
  split
  · next ha => exact ⟨hint, hcount, hmap, fun h => absurd ha (by rw [h]; decide)⟩
  · simp only [State.flag, State.mapPair_rd, State.mapPair_map]
    rw [rd_inc_same d 1 (by decide), State.inc, State.rd_wr_apart d _ (by decide), State.rd_wr_apart d _ (by decide), hpair]
    exact ⟨hint, hcount, hmap, fun _ => rfl⟩

/-- A window write that R61 does not take. -/
def Untaken (s : State) (o : Nat) (data : List W8) : Prop :=
  data = [] ∨ o % 8 ≠ 0 ∨ data.length % 8 ≠ 0 ∨ 8 * lineSlots < o + data.length ∨ s.acting = false ∨ s.map.commit ≠ none

theorem mapWindow_drops {s : State} {o : Nat} {data : List W8} (h : Untaken s o data) : s.mapWindow o data = s.dropMapWindow := by
  refine if_neg fun ⟨hd, ho, hl, hle, ha, hlock⟩ => ?_
  rcases h with h | h | h | h | h | h
  · exact hd h
  · exact h ho
  · exact h hl
  · omega
  · rw [ha] at h; cases h
  · exact h (Option.isNone_iff_eq_none.1 (by simpa [State.shadowLocked] using hlock))

theorem mapWindow_takes {s : State} {o n : Nat} {data : List W8} (hn : 1 ≤ n) (hlen : data.length = 8 * n) (ho : o % 8 = 0)
    (hle : o + 8 * n ≤ 8 * lineSlots) (ha : s.acting = true) (hlock : s.map.commit = none) :
    s.mapWindow o data = (State.hostEntries (s.flag F.MAP_CTRL_ECC_GEN) s (o / 8) (bytesW64 data)).wroteShadow := by
  refine if_pos ⟨?_, ho, by omega, by omega, ha, by rw [State.shadowLocked, hlock]; rfl⟩
  rintro rfl
  rw [List.length_nil] at hlen
  omega

section
variable {t : Nat} {s : State} (hb : s.barred 0 = false)
include hb

theorem exec_mapWindowWrite (off : BitVec 28) (data : List W8) :
    exec (.mapWindowWrite t off data) s = .next ((s.tick t).mapWindow off.toNat data) := if_neg (not_barred_tick hb)

theorem mapWindowWrite_takes {off : BitVec 28} {n : Nat} {data : List W8} (hn : 1 ≤ n) (hlen : data.length = 8 * n) (ho : off.toNat % 8 = 0)
    (hle : off.toNat + 8 * n ≤ 8 * lineSlots) (ha : s.acting = true) (hlock : s.map.commit = none) :
    ∃ s', exec (.mapWindowWrite t off data) s = .next s' ∧
      HostWrote (s.flag F.MAP_CTRL_ECC_GEN) (s.tick t) s' (off.toNat / 8) (bytesW64 data) :=
  ⟨_, (exec_mapWindowWrite hb off data).trans (congrArg _ (mapWindow_takes (s := s.tick t) hn hlen ho hle ha hlock)), wroteShadow_hostWrote ..⟩

theorem mapWindowWrite_drops {off : BitVec 28} {data : List W8} (h : Untaken s off.toNat data) :
    exec (.mapWindowWrite t off data) s = .next (s.tick t).dropMapWindow :=
  (exec_mapWindowWrite hb off data).trans (congrArg _ (mapWindow_drops (s := s.tick t) h))

theorem selectorWindowWrite_drops (off : BitVec 24) (data : List W8) :
    exec (.selectorWindowWrite t off data) s = .next (s.tick t).dropWindow := if_neg (not_barred_tick hb)

end

/-! ### MAP_WRITE_RANGE (R64) and MAP_READBACK (R82) -/

theorem length_getAll {α : Type} [DecidableEq α] (d : Nat → α) (m : List (Nat × α)) (a n : Nat) : (Store.getAll d m a n).length = n := by
  induction n generalizing a with
  | zero => rfl
  | succ n ih => rw [Store.getAll, List.length_cons, ih]

/-- An input buffer that is read has the length asked for. -/
theorem readBuf_length {s r : State} {a : W64} {n : Nat} {x : Exe} {bs : List W8} (e : s.readBuf a n x = .ok (r, bs)) : bs.length = n := by
  have hdev : s.devRead 5 a n x.inp = .ok (r, bs) := by
    rw [State.readBuf] at e
    split at e
    · next hd => rw [hd, e]
    · cases e
  simp only [State.devRead] at hdev
  split_ifs at hdev
  · cases hdev
    exact length_getAll ..
  · split at hdev
    · cases hdev
    · split_ifs at hdev with hlt
      cases hdev
      rw [List.length_take]
      omega

section
variable {x : Exe} {i : Nat} {k : Taken} {s : State} (hs : Starts s .mapWriteRange x i k) (hp : mapWriteRangeOk k.d = true)
  (hcase : s.writeRangeCase x.src k.d = true) (hlock : s.map.commit = none)
include hs hp hcase hlock

/-- What MAP_WRITE_RANGE answers while no commit locks the shadow page. -/
theorem exec_mapWriteRange : exec (.mapWriteRange x) s = .next (Ans.settle i k x.rplOk
    (if word k.d 4 = 0 then
      .reading ((s.tick x.t).readBuf (word64 k.d 5) (8 * word k.d 3) x) fun v bs =>
        .ok (State.hostEntries (v.flag F.MAP_CTRL_ECC_GEN) v (word k.d 2) (bytesW64 bs)).wroteShadow [BitVec.ofNat 32 (word k.d 3)]
    else .ok (State.hostEntries true (s.tick x.t) (word k.d 2)
      (templateRun (word k.d 4) (word64 k.d 5).toNat 0 (word k.d 3))).wroteShadow [BitVec.ofNat 32 (word k.d 3)]) (s.tick x.t)) := by
  have hcase' : (s.tick x.t).writeRangeCase x.src k.d = true := hcase
  have hlock' : (s.tick x.t).shadowLocked = false := congrArg Option.isSome hlock
  show Host.Outcome.next _ = _
  rw [State.run_starts hs hp]
  simp only [hcase', hlock', Bool.not_true, Bool.false_eq_true, if_false]

theorem mapWriteRange_template (hmode : word k.d 4 ≠ 0) :
    ∃ v : State, exec (.mapWriteRange x) s = .next (v.finish i k .ok [BitVec.ofNat 32 (word k.d 3)] x.rplOk) ∧
      HostWrote true (s.tick x.t) v (word k.d 2) (templateRun (word k.d 4) (word64 k.d 5).toNat 0 (word k.d 3)) := by
  refine ⟨_, (exec_mapWriteRange hs hp hcase hlock).trans ?_, wroteShadow_hostWrote ..⟩
  rw [if_neg hmode, Ans.settle_ok]

theorem mapWriteRange_buffer {u : State} {bs : List W8} (hmode : word k.d 4 = 0)
    (hread : (s.tick x.t).readBuf (word64 k.d 5) (8 * word k.d 3) x = .ok (u, bs)) :
    ∃ v : State, exec (.mapWriteRange x) s = .next (v.finish i k .ok [BitVec.ofNat 32 (word k.d 3)] x.rplOk) ∧
      HostWrote (u.flag F.MAP_CTRL_ECC_GEN) u v (word k.d 2) (bytesW64 bs) := by
  refine ⟨_, (exec_mapWriteRange hs hp hcase hlock).trans ?_, wroteShadow_hostWrote ..⟩
  rw [if_pos hmode, hread, Ans.reading, Ans.settle_since, Ans.settle_ok]

end

theorem mapReadback_answers {x : Exe} {i : Nat} {k : Taken} {s u : State} (hs : Starts s .mapReadback x i k)
    (hp : mapReadbackOk x.src s k.d = true) (hcopy : bitOf (word k.d 4) 0 = true → s.map.copy = none)
    (hwrite : (s.tick x.t).writeBuf (word64 k.d 5) ((List.range (word k.d 3)).flatMap fun j =>
        leBytes (if bitOf (word k.d 4) 1 then entryAt (if bitOf (word k.d 4) 0 then s.shadow else s.active) (word k.d 2 + j)
          else asWritten (if bitOf (word k.d 4) 0 then s.shadow else s.active)
            (entryAt (if bitOf (word k.d 4) 0 then s.shadow else s.active) (word k.d 2 + j))).toNat 8) x = .ok u) :
    exec (.mapReadback x) s = .next (u.finish i k .ok [BitVec.ofNat 32 (word k.d 3), BitVec.ofNat 32 u.fn.toNat, 0] x.rplOk) := by
  have hidle : (bitOf (word k.d 4) 0 && (s.tick x.t).map.copy.isSome) = false := by
    cases hsh : bitOf (word k.d 4) 0
    · rfl
    · rw [State.tick_map, hcopy hsh]; rfl
  show Host.Outcome.next _ = _
  rw [State.run_starts hs hp]
  simp only [hidle, Bool.false_eq_true, if_false]
  exact congrArg (fun r => Host.Outcome.next ((Ans.written r _).settle i k x.rplOk (s.tick x.t))) hwrite

/-- Settles O29: what storing entries does, then the window and the command, each by the entries it stores. -/
theorem mapWindowRangeAndReadback : Obligations.MapWindowRangeAndReadback := by
  refine ⟨fun t n off data soff s hb => ⟨fun hn hlen ho hle ha hlock => ?_, fun ha h => ?_, fun ha => ?_, ?_⟩,
    fun x i k bs s u => ⟨fun hs hp hcase hlock => ⟨fun hmode => ?_, fun hmode hread => ?_⟩, mapReadback_answers⟩⟩
  · obtain ⟨s', hexec, hw⟩ := mapWindowWrite_takes (t := t) hb hn hlen ho hle ha hlock
    have hwrote := hw.wrote
    have hkept := hw.kept
    have hdirty := hw.dirty
    rw [length_bytesW64 hlen] at hwrote hkept hdirty
    exact ⟨s', hexec, hwrote, hkept, hdirty, hw.active, hw.unchecked, hw.commit.trans hlock, hw.regs, hw.rest⟩
  · obtain ⟨hint, hcount, hmap, -⟩ := dropMapWindow_counts (s.tick t)
    have hun : Untaken s off.toNat data := by
      rcases h with h | h | h | h | h
      · exact .inl h
      · exact .inr (.inl h)
      · exact .inr (.inr (.inl h))
      · exact .inr (.inr (.inr (.inl h)))
      · exact .inr (.inr (.inr (.inr (.inr h))))
    exact next_of (mapWindowWrite_drops hb hun) ⟨hint, hcount, hmap⟩
  · obtain ⟨hint, hcount, hmap, hpair⟩ := dropMapWindow_counts (s.tick t)
    exact next_of (mapWindowWrite_drops hb (.inr (.inr (.inr (.inr (.inl ha)))))) ⟨hint, hcount, hpair ha, hmap⟩
  · obtain ⟨hint, hcount, hsel, hmap, hregs⟩ := dropWindow_counts (s.tick t)
    obtain ⟨r, hr⟩ := hregs
    refine next_of (selectorWindowWrite_drops hb soff data) ⟨hint, hcount, hsel, hmap, ?_⟩
    rw [hr]
    rfl
  · have hne : word k.d 4 ≠ 0 := by omega
    obtain ⟨v, hexec, hw⟩ := mapWriteRange_template hs hp hcase hlock hne
    have hwrote := hw.wrote
    have hkept := hw.kept
    rw [length_templateRun] at hwrote hkept
    refine ⟨v, hexec, fun j hj => ?_, hkept, hw.active, hw.unchecked⟩
    rw [hwrote j hj, getD_templateRun hj, Nat.zero_add, stored, if_pos rfl, templateEntry, seal54_seal54]
    rcases hmode with h | h
    · rw [h]; rfl
    · rw [h]; rfl
  · obtain ⟨v, hexec, hw⟩ := mapWriteRange_buffer hs hp hcase hlock hmode hread
    have hearly : OnlyEarlyRegs s u := readBuf_ok (.tick s x.t) hread
    have hwrote := hw.wrote
    have hkept := hw.kept
    rw [length_bytesW64 (readBuf_length hread), hearly.flag (by decide)] at hwrote
    rw [length_bytesW64 (readBuf_length hread), hearly.shadow] at hkept
    exact ⟨v, hexec, hwrote, hkept, hw.active.trans hearly.active, hw.unchecked⟩

end Sys2Proof.Machine
end

section
/-! Proofs: what a write of the boot record leaves alone (R341), staging and trials that end (R358, R363), and with them GET_INFO,
FW_CONFIRM, FW_ABORT and MAP_SNAPSHOT (R83, R280, R364, R365). -/
namespace Sys2Proof.Machine

/-! ### Registers and the bytes of the MRAM -/

/-- `u` is `s` but for registers and the bytes of the MRAM. -/
def OnlyStore (s u : State) : Prop := ∃ r m, u = { s with regs := r, boot := { s.boot with mram := m } }

theorem OnlyStore.refl (s : State) : OnlyStore s s := ⟨s.regs, s.boot.mram, rfl⟩

theorem OnlyStore.trans {s t u : State} (h : OnlyStore s t) (g : OnlyStore t u) : OnlyStore s u := by
  obtain ⟨r, m, rfl⟩ := h
  obtain ⟨r', m', rfl⟩ := g
  exact ⟨r', m', rfl⟩

theorem OnlyRegs.store {s u : State} (h : OnlyRegs s u) : OnlyStore s u := by
  obtain ⟨r, rfl⟩ := h
  exact ⟨r, s.boot.mram, rfl⟩

theorem OnlyStore.wr {s u : State} {f : Fld} {v : Nat} (h : OnlyStore s u) : OnlyStore s (u.wr f v) := h.trans (OnlyRegs.refl u).wr.store

theorem OnlyStore.ite {c : Prop} [Decidable c] {s u w : State} (h : OnlyStore s u) (g : OnlyStore s w) : OnlyStore s (if c then u else w) := by
  split <;> assumption

theorem mramWrite_onlyStore (s : State) (a : Nat) (bs : List W8) : OnlyStore s (s.mramWrite a bs) := ⟨s.regs, _, rfl⟩

theorem writeRec_onlyStore (s : State) (f : BootRec → BootRec) : OnlyStore s (s.writeRec f) :=
  (mramWrite_onlyStore ..).trans (showRec_onlyRegs _).store

@[simp] theorem mramWrite_rd (s : State) (a : Nat) (bs : List W8) (f : Fld) : (s.mramWrite a bs).rd f = s.rd f := rfl

/-- A field that none of the registers showing the boot record overlaps (R341). -/
def besideRec (f : Fld) : Bool :=
  ([F.BOOT_IMG_STATE_A, F.BOOT_IMG_STATE_B, F.BOOT_IMG_PREF, F.BOOT_VER_A_VERSION, F.BOOT_VER_B_VERSION, F.BOOT_STATUS_BOOTS,
    F.BOOT_SET_PINNED, F.BOOT_SET_PIN_SLOT].all fun g => g.apart f) && f.addr != 0x4021000C && f.addr != 0x40210010

/-- A field beside the registers of the boot record reads the same after a write of the record. -/
theorem writeRec_rd {s : State} {g : BootRec → BootRec} {f : Fld} (h : besideRec f = true) : (s.writeRec g).rd f = s.rd f := by
  simp only [besideRec, List.all_cons, List.all_nil, Bool.and_true, Bool.and_eq_true, bne_iff_ne] at h
  obtain ⟨⟨⟨ha, hb, hpref, hva, hvb, hboots, hpin, hslot⟩, hlo⟩, hhi⟩ := h
  rw [State.writeRec]
  generalize hu : s.mramWrite _ _ = u
  have hfold : ∀ v : State, ((List.range 11).foldl (fun v k => if k < 8 then v.wr ⟨0x4021000C, 4 * k, 4⟩ (u.bootRec.cnt (k + 1)) else
      v.wr ⟨0x40210010, 4 * (k - 8), 4⟩ (u.bootRec.cnt (k + 1))) v).rd f = v.rd f := fun v =>
    foldl_keeps (g := fun w => w.rd f) (fun w k => by
      split
      · exact State.rd_wr_addr _ _ (Ne.symm hlo)
      · exact State.rd_wr_addr _ _ (Ne.symm hhi)) _ v
  rw [State.showRec, hfold, State.rd_wr_apart _ _ hslot, State.setFlag, State.rd_wr_apart _ _ hpin, State.rd_wr_apart _ _ hboots,
    State.rd_wr_apart _ _ hvb, State.rd_wr_apart _ _ hva, State.rd_wr_apart _ _ hpref, State.rd_wr_apart _ _ hb, State.rd_wr_apart _ _ ha, ← hu,
    mramWrite_rd]

/-- Bytes of the MRAM apart from those written read the same. -/
theorem mramRead_mramWrite (s : State) {a n b : Nat} {bs : List W8} (h : a + n ≤ b ∨ b + bs.length ≤ a) :
    (s.mramWrite b bs).mramRead a n = s.mramRead a n := by
  show Store.getAll s.boot.mramDef (Store.putAll s.boot.mramDef s.boot.mram b bs) a n = Store.getAll s.boot.mramDef s.boot.mram a n
  induction n generalizing a with
  | zero => rfl
  | succ n ih => rw [Store.getAll, Store.getAll, Store.get_putAll_other (by omega), ih (by omega)]

/-- A record read from the MRAM counts the failures of at most 11 steps. -/
theorem ofBytes_fail {bs : List W8} {r : BootRec} (h : BootRec.ofBytes bs = some r) : r.fail.length ≤ 11 := by
  unfold BootRec.ofBytes at h
  extract_lets w at h
  split at h
  · cases h
    simp only [List.length_map, List.length_take]
    omega
  · cases h

theorem bootRec_fail (s : State) : s.bootRec.fail.length ≤ 11 := by
  rw [State.bootRec, State.recInUse]
  split
  next a b ha hb => split <;> [exact ofBytes_fail hb; exact ofBytes_fail ha]
  next ha _ => exact ofBytes_fail ha
  next hb => exact ofBytes_fail hb
  next => decide

theorem recInUse_copy (s : State) : s.recInUse.2 ≤ 1 := by
  rw [State.recInUse]
  split
  next => split <;> [exact Nat.zero_le _; exact le_rfl]
  next => exact le_rfl
  next => exact Nat.zero_le _
  next => exact Nat.zero_le _

theorem length_recBytes (r : BootRec) : r.bytes.length = 53 + r.fail.length := by
  simp only [BootRec.bytes, BootRec.body, List.length_append, List.length_map, length_leBytes, List.length_cons, List.length_nil,
    List.length_replicate]
  omega

/-- A record that is written leaves the MRAM beyond its two copies alone. -/
theorem mramRead_recBytes {s : State} {c a n : Nat} {r : BootRec} (hc : c ≤ 1) (hr : r.fail.length ≤ 11) (ha : 0x4040 ≤ a) :
    (s.mramWrite (c * 0x4000) r.bytes).mramRead a n = s.mramRead a n := by
  have hlen := length_recBytes r
  exact mramRead_mramWrite s (.inr (by omega))

theorem mramRead_showRec (s : State) (a n : Nat) : s.showRec.mramRead a n = s.mramRead a n := by
  obtain ⟨r, h⟩ := showRec_onlyRegs s
  rw [h]
  rfl

/-- A write of the record leaves the MRAM beyond its two copies alone; `hf`: the counts of failures stay as many. -/
theorem mramRead_writeRec {s : State} {f : BootRec → BootRec} {a n : Nat} (hf : ∀ r, (f r).fail.length = r.fail.length) (ha : 0x4040 ≤ a) :
    (s.writeRec f).mramRead a n = s.mramRead a n :=
  (mramRead_showRec ..).trans (mramRead_recBytes (recInUse_copy s) ((hf _).le.trans (bootRec_fail s)) ha)

/-! ### Sessions that close (R358), and the time of notices (R268) -/

theorem closeStaging_rd {s : State} {f : Fld} (h : F.BOOT_STAGE_STAGING.apart f = true) (hoff : F.BOOT_STAGE_OFFSET.apart f = true) :
    s.closeStaging.rd f = s.rd f := by
  rw [State.closeStaging, State.mapBoot_rd, State.rd_wr_apart _ _ hoff, State.setFlag, State.rd_wr_apart _ _ h]

/-- A field that the end of a staging session leaves alone. -/
theorem dropStaging_rd {s : State} {f : Fld} (h : F.BOOT_STAGE_STAGING.apart f = true) (hoff : F.BOOT_STAGE_OFFSET.apart f = true)
    (hrec : besideRec f = true) : s.dropStaging.rd f = s.rd f := by
  rw [State.dropStaging]
  split
  · rw [closeStaging_rd h hoff, State.emptySlot, writeRec_rd hrec]
  · rfl

theorem closeStaging_staging (s : State) : s.closeStaging.flag F.BOOT_STAGE_STAGING = false := by
  rw [State.closeStaging, State.flag, State.mapBoot_rd, ← State.flag, flag_wr_apart _ _ (by decide), State.setFlag,
    flag_wr_same _ _ _ (by decide) rfl]
  rfl

/-- After the end of a staging session none is open. -/
theorem dropStaging_staging (s : State) : s.dropStaging.flag F.BOOT_STAGE_STAGING = false := by
  rw [State.dropStaging]
  split
  · exact closeStaging_staging _
  · next h => exact Bool.eq_false_iff.2 h

/-- The chunks under way are dropped, and otherwise only the store and registers change. -/
theorem closeStaging_rest {s u : State} (h : OnlyStore s u) : ∃ r m, u.closeStaging =
    { s with regs := r, boot := { s.boot with mram := m, chunks := s.boot.chunks.map fun c => { c with live := false } } } := by
  obtain ⟨r, m, rfl⟩ := h
  exact ⟨_, m, rfl⟩

theorem dropStaging_rest (s : State) : ∃ r m cs, s.dropStaging = { s with regs := r, boot := { s.boot with mram := m, chunks := cs } } := by
  rw [State.dropStaging]
  split
  · obtain ⟨r, m, h⟩ := closeStaging_rest (writeRec_onlyStore s fun r => (r.setImg (s.rd F.BOOT_STAGE_SLOT) 0).setVer (s.rd F.BOOT_STAGE_SLOT) 0)
    exact ⟨r, m, _, h⟩
  · exact ⟨s.regs, s.boot.mram, s.boot.chunks, rfl⟩

theorem holdNotices_hold (s : State) : s.holdNotices.flag F.MBX_STATUS_TMO_HOLD = true := by
  rw [State.holdNotices]
  split
  · assumption
  · exact flag_wr_same s _ _ (by decide) rfl

theorem holdNotices_rd {s : State} {f : Fld} (h : F.MBX_STATUS_TMO_HOLD.apart f = true) : s.holdNotices.rd f = s.rd f := by
  rw [State.holdNotices]
  split
  · rfl
  · exact State.rd_wr_apart s _ h

theorem holdNotices_rest (s : State) : ∃ r m, s.holdNotices = { s with regs := r, mbx := { s.mbx with holdAt := m } } := by
  rw [State.holdNotices]
  split
  · exact ⟨s.regs, s.mbx.holdAt, rfl⟩
  · exact ⟨_, s.now, rfl⟩

/-! ### GET_INFO (R280) -/

theorem getInfo_answers {x : Exe} {i : Nat} {k : Taken} {s : State} (hs : Starts s .getInfo x i k) :
    exec (.getInfo x) s = .next ((s.tick x.t).finish i k .ok
      [w32 (0x014825 + s.rd F.FUSE_CFG_GRADE * 0x1000000), if s.recovery then 0 else w32 (s.imgVersion s.runImg),
       w32 (s.runImg + 2 * b2n (s.flag F.BOOT_STATUS_TRIAL) + 4 * b2n (s.flag F.FUSE_CFG_DEBUG_DISABLE) + 8 * b2n s.acting +
        16 * s.pins.pcieGen + 256 * s.pins.pcieWidth), w32 s.bootRec.boots] x.rplOk) := by
  show Host.Outcome.next _ = _
  rw [State.run_starts hs rfl]
  rfl

/-! ### FW_CONFIRM (R364) -/

/-- The boot record of a confirmed trial. -/
def confirmedRec (img : Nat) (r : BootRec) : BootRec :=
  (({ r.setImg img 4 with pref := img, pinned := false, pinSlot := 0, trialS := 0 }).setCnt 4 0).setCnt 5 0

theorem confirmedRec_fail (img : Nat) (r : BootRec) : (confirmedRec img r).fail.length = r.fail.length := by
  simp only [confirmedRec, BootRec.setCnt, List.length_set, BootRec.setImg]
  split <;> rfl

/-- A confirmed trial raises the fused SVN on request. -/
def State.raiseSvn (s : State) (ask : Bool) (svn : Nat) : State :=
  if ask = true ∧ s.rd F.FUSE_SVN_SVN < svn then s.wr F.FUSE_SVN_SVN svn else s

theorem raiseSvn_rd {s : State} {ask : Bool} {svn : Nat} (h : svn < 64) :
    (s.raiseSvn ask svn).rd F.FUSE_SVN_SVN = if ask = true then max (s.rd F.FUSE_SVN_SVN) svn else s.rd F.FUSE_SVN_SVN := by
  rw [State.raiseSvn]
  cases ask
  · rfl
  · by_cases hlt : s.rd F.FUSE_SVN_SVN < svn
    · rw [if_pos ⟨rfl, hlt⟩, State.rd_wr_same _ _ _ (by decide), if_pos rfl, max_eq_right hlt.le]
      exact Nat.mod_eq_of_lt h
    · rw [if_neg fun hc => hlt hc.2, if_pos rfl, max_eq_left (not_lt.1 hlt)]

theorem raiseSvn_onlyStore (s : State) (ask : Bool) (svn : Nat) : OnlyStore s (s.raiseSvn ask svn) := (OnlyStore.refl s).wr.ite (.refl s)

/-- The registers that show a confirmed trial: TRIAL, its interrupt and the vector. -/
def State.showConfirmed (s : State) : State :=
  ((s.setFlag F.BOOT_STATUS_TRIAL false).raise F.BOOT_INT_CONFIRMED).wr F.BOOT_VEC_ADDR (codeAddr (s.rd F.BOOT_STATUS_CODE_SLOT))

theorem closeAct_rd {s : State} {f : Fld} (h : F.BOOT_STAGE_ACTIVATION.apart f = true) : s.closeAct.rd f = s.rd f := State.rd_wr_apart s.endAct _ h

theorem closeAct_flag {s : State} {f : Fld} (h : F.BOOT_STAGE_ACTIVATION.apart f = true) : s.closeAct.flag f = s.flag f := by
  rw [State.flag, State.flag, closeAct_rd h]

theorem closeAct_activation (s : State) : s.closeAct.flag F.BOOT_STAGE_ACTIVATION = false := flag_wr_same s.endAct _ _ (by decide) rfl

theorem closeAct_rest {s u : State} (h : OnlyStore s u) : ∃ r m, u.closeAct =
    { s with regs := r, boot := { s.boot with mram := m, act := Activation.reset } } := by
  obtain ⟨r, m, rfl⟩ := h
  exact ⟨_, m, rfl⟩

theorem showConfirmed_fields (s : State) : s.showConfirmed.flag F.BOOT_STATUS_TRIAL = false ∧ s.showConfirmed.flag F.BOOT_INT_CONFIRMED = true ∧
    s.showConfirmed.rd F.FUSE_SVN_SVN = s.rd F.FUSE_SVN_SVN := by
  rw [State.showConfirmed, State.raise, State.setFlag]
  refine ⟨?_, ?_, ?_⟩
  · rw [flag_wr_apart _ _ (by decide), flag_wr_apart _ _ (by decide), flag_wr_same _ _ _ (by decide) rfl]
    rfl
  · rw [flag_wr_apart _ _ (by decide), flag_wr_same _ _ _ (by decide) rfl]
    rfl
  · rw [State.rd_wr_apart _ _ (by decide), State.rd_wr_apart _ _ (by decide), State.rd_wr_apart _ _ (by decide)]

theorem showConfirmed_onlyStore {s u : State} (h : OnlyStore s u) : OnlyStore s u.showConfirmed := h.wr.wr.wr

section
variable {x : Exe} {i : Nat} {k : Taken} {s : State} (hs : Starts s .fwConfirm x i k) (h2 : onlyBits (word k.d 2) 1 = true)
  (hsrc : s.otherSource x.src = false) (htrial : s.flag F.BOOT_STATUS_TRIAL = true) (hback : s.boot.act.back = false)
include hs h2 hsrc htrial hback

/-- What FW_CONFIRM answers to an open trial. -/
theorem exec_fwConfirm {v w : State} (hv : (s.tick x.t).writeRec (confirmedRec s.runImg) = v)
    (hw : (v.raiseSvn (bitOf (word k.d 2) 0) (v.imgSvn s.runImg % 64)).showConfirmed = w) :
    exec (.fwConfirm x) s = .next (w.closeAct.finish i k .ok [w32 (w.rd F.FUSE_SVN_SVN)] x.rplOk) := by
  have hsrc' : ¬(s.tick x.t).otherSource x.src = true := Bool.eq_false_iff.1 hsrc
  have hopen : ¬((s.tick x.t).flag F.BOOT_STATUS_TRIAL = false ∨ (s.tick x.t).boot.act.back = true) := by
    rw [flag_tick, htrial, show (s.tick x.t).boot.act.back = false from hback]
    decide
  subst hv hw
  show Host.Outcome.next _ = _
  rw [State.run_starts hs h2]
  exact congrArg (fun a => Host.Outcome.next (Ans.settle i k x.rplOk a (s.tick x.t))) ((if_neg hsrc').trans (if_neg hopen))

theorem fwConfirm_ends :
    ∃ u : State, exec (.fwConfirm x) s = .next (u.finish i k .ok [w32 (u.rd F.FUSE_SVN_SVN)] x.rplOk) ∧
      u.flag F.BOOT_STATUS_TRIAL = false ∧ u.flag F.BOOT_INT_CONFIRMED = true ∧ u.flag F.BOOT_STAGE_ACTIVATION = false ∧
      u.rd F.FUSE_SVN_SVN = (if bitOf (word k.d 2) 0 = true then max (s.rd F.FUSE_SVN_SVN) (s.imgSvn s.runImg % 64) else s.rd F.FUSE_SVN_SVN) ∧
      u.boot.act = Activation.reset ∧ u.map = s.map ∧ u.sel = s.sel ∧ u.mbx = s.mbx := by
  generalize hv : (s.tick x.t).writeRec (confirmedRec s.runImg) = v
  have hstore : OnlyStore (s.tick x.t) v := hv ▸ writeRec_onlyStore ..
  have hfuse : v.rd F.FUSE_SVN_SVN = s.rd F.FUSE_SVN_SVN := by rw [← hv, writeRec_rd (by decide), State.tick_rd]
  have hsvn : v.imgSvn s.runImg = s.imgSvn s.runImg := by
    have hbase : 0x10000 ≤ imgBase s.runImg := by rw [imgBase]; split <;> decide
    rw [State.imgSvn, State.imgWord, State.mramWord, ← hv, mramRead_writeRec (confirmedRec_fail _) (by omega)]
    rfl
  generalize hw : (v.raiseSvn (bitOf (word k.d 2) 0) (v.imgSvn s.runImg % 64)).showConfirmed = w
  have hexec := exec_fwConfirm hs h2 hsrc htrial hback hv hw
  obtain ⟨htr, hint, hrd⟩ := showConfirmed_fields (v.raiseSvn (bitOf (word k.d 2) 0) (v.imgSvn s.runImg % 64))
  obtain ⟨r, m, hrest⟩ := closeAct_rest (showConfirmed_onlyStore (hstore.trans
    (raiseSvn_onlyStore v (bitOf (word k.d 2) 0) (v.imgSvn s.runImg % 64))))
  rw [hw] at htr hint hrd hrest
  rw [raiseSvn_rd (Nat.mod_lt _ (by decide)), hsvn, hfuse] at hrd
  refine ⟨w.closeAct, ?_, (closeAct_flag (by decide)).trans htr, (closeAct_flag (by decide)).trans hint, closeAct_activation w,
    (closeAct_rd (by decide)).trans hrd, ?_⟩
  · rw [closeAct_rd (by decide), hexec]
  · rw [hrest]
    exact ⟨rfl, rfl, rfl, rfl⟩

end

/-! ### FW_ABORT (R363, R365) -/

section
variable {x : Exe} {i : Nat} {k : Taken} {s : State} (hs : Starts s .fwAbort x i k) (h2 : onlyBits (word k.d 2) 1 = true)
  (hsrc : s.otherSource x.src = false ∨ bitOf (word k.d 2) 0 = true) (hidle : s.boot.act.phase = .none)
include hs h2 hsrc hidle

/-- What FW_ABORT answers while no activation is under way. -/
theorem exec_fwAbort : exec (.fwAbort x) s = .next (Ans.settle i k x.rplOk
    (if s.flag F.BOOT_STATUS_TRIAL then .later ((s.tick x.t).dropStaging.startBack true)
      else if s.flag F.BOOT_STAGE_STAGING then .ok (s.tick x.t).dropStaging [1] else .ok (s.tick x.t) [0]) (s.tick x.t)) := by
  have hown : ¬((s.tick x.t).otherSource x.src && !bitOf (word k.d 2) 0) = true := by
    rw [show (s.tick x.t).otherSource x.src = s.otherSource x.src from rfl]
    rcases hsrc with h | h <;> simp [h]
  show Host.Outcome.next _ = _
  rw [State.run_starts hs h2]
  exact congrArg (fun a => Host.Outcome.next (Ans.settle i k x.rplOk a (s.tick x.t))) ((if_neg hown).trans (if_neg (not_not.2 hidle)))

theorem fwAbort_startsBack (htrial : s.flag F.BOOT_STATUS_TRIAL = true) :
    ∃ u : State, exec (.fwAbort x) s = .next (u.retake i (some { k with phase := .working })) ∧
      u.boot.act = { phase := .drain, since := max s.now x.t, slot := s.runImg, trial := 0, w := 0, back := true, abort := true } ∧
      u.flag F.BOOT_STAGE_STAGING = false ∧ u.flag F.MBX_STATUS_TMO_HOLD = true ∧ u.map = s.map ∧ u.sel = s.sel := by
  have hexec := exec_fwAbort hs h2 hsrc hidle
  rw [if_pos htrial, Ans.settle_later] at hexec
  obtain ⟨r, m, cs, hdrop⟩ := dropStaging_rest (s.tick x.t)
  have himg : (s.tick x.t).dropStaging.runImg = s.runImg := dropStaging_rd (by decide) (by decide) (by decide)
  have hstaging := dropStaging_staging (s.tick x.t)
  generalize (s.tick x.t).dropStaging = v at hexec hdrop himg hstaging
  obtain ⟨r', h', hhold⟩ := holdNotices_rest v
  have hkept : v.holdNotices.flag F.BOOT_STAGE_STAGING = v.flag F.BOOT_STAGE_STAGING := by
    rw [State.flag, State.flag, holdNotices_rd (by decide)]
  refine ⟨_, hexec, ?_, hkept.trans hstaging, holdNotices_hold v, ?_, ?_⟩
  · rw [State.startBack, himg, State.startDrain, State.mapBoot_boot, hhold, hdrop]
    rfl
  · rw [State.startBack, State.startDrain, State.mapBoot_map, hhold, hdrop]
    rfl
  · rw [State.startBack, State.startDrain, State.mapBoot_sel, hhold, hdrop]
    rfl

theorem fwAbort_closesStaging (htrial : s.flag F.BOOT_STATUS_TRIAL = false) (hstaging : s.flag F.BOOT_STAGE_STAGING = true) :
    ∃ u : State, exec (.fwAbort x) s = .next (u.finish i k .ok [1] x.rplOk) ∧ u.flag F.BOOT_STAGE_STAGING = false ∧
      u.boot.chunks.all (fun c => !c.live) = true ∧ u.map = s.map ∧ u.sel = s.sel ∧ u.mbx = s.mbx := by
  have hexec := exec_fwAbort hs h2 hsrc hidle
  rw [if_neg (Bool.eq_false_iff.1 htrial), if_pos hstaging, Ans.settle_ok] at hexec
  refine ⟨_, hexec, dropStaging_staging _, ?_⟩
  rw [State.dropStaging, if_pos (show (s.tick x.t).flag F.BOOT_STAGE_STAGING = true from hstaging)]
  obtain ⟨r, m, hrest⟩ := closeStaging_rest (writeRec_onlyStore (s.tick x.t)
    fun r => (r.setImg ((s.tick x.t).rd F.BOOT_STAGE_SLOT) 0).setVer ((s.tick x.t).rd F.BOOT_STAGE_SLOT) 0)
  rw [State.emptySlot, hrest]
  refine ⟨?_, rfl, rfl, rfl⟩
  simp only [List.all_map, Function.comp_def, Bool.not_false, List.all_eq_true, implies_true]

theorem fwAbort_findsNothing (htrial : s.flag F.BOOT_STATUS_TRIAL = false) (hstaging : s.flag F.BOOT_STAGE_STAGING = false) :
    exec (.fwAbort x) s = .next ((s.tick x.t).finish i k .ok [0] x.rplOk) := by
  rw [exec_fwAbort hs h2 hsrc hidle, if_neg (Bool.eq_false_iff.1 htrial), if_neg (Bool.eq_false_iff.1 hstaging), Ans.settle_ok]

end

/-! ### MAP_SNAPSHOT (R83) -/

/-- The magic of the last snapshot's header goes before the next is written (R342). -/
def State.clearSnapHeader (s : State) : State :=
  match s.snapHeader with
  | some k => s.mramWrite (snapBase k) [0, 0, 0, 0]
  | none => s

theorem clearSnapHeader_rest (s : State) : ∃ b, s.clearSnapHeader = { s with boot := b } := by
  rw [State.clearSnapHeader]
  split
  · exact ⟨_, rfl⟩
  · exact ⟨s.boot, rfl⟩

theorem mapSnapshot_starts {x : Exe} {i : Nat} {k : Taken} {s : State} (hs : Starts s .mapSnapshot x i k) (hidle : s.mapBusy = false)
    (hruns : s.activeRuns.length ≤ 1572864) :
    ∃ u : State, exec (.mapSnapshot x) s = .next (u.retake i (some { k with phase := .working })) ∧ u.map = { s.map with snap := true } ∧
      u.rd F.MAP_STATUS_STATE = 5 ∧ RegsKept s u [0x40070004] ∧
      u = { s with now := max s.now x.t, regs := u.regs, map := u.map, boot := u.boot } := by
  have hbusy : ¬(s.tick x.t).mapBusy = true := Bool.eq_false_iff.1 hidle
  have hexec : exec (.mapSnapshot x) s = .next (Ans.settle i k x.rplOk
      (.later (((s.tick x.t).clearSnapHeader.wr F.MAP_STATUS_STATE 5).mapMap fun m => { m with snap := true })) (s.tick x.t)) := by
    show Host.Outcome.next _ = _
    rw [State.run_starts hs rfl]
    exact congrArg (fun a => Host.Outcome.next (Ans.settle i k x.rplOk a (s.tick x.t)))
      ((if_neg hbusy).trans (if_neg (show ¬1572864 < (s.tick x.t).activeRuns.length from not_lt.2 hruns)))
  rw [Ans.settle_later] at hexec
  obtain ⟨b, hb⟩ := clearSnapHeader_rest (s.tick x.t)
  rw [hb] at hexec
  refine ⟨_, hexec, rfl, ?_, kept_trans (kept_refl rfl) (kept_wr (by decide)), rfl⟩
  rw [State.mapMap_rd, State.rd_wr_same _ _ _ (by decide)]
  rfl

end Sys2Proof.Machine
end

section
/-! Proofs: what a firmware reset does beyond MBX and BOOT: the banks and semaphores of the control cores, and the self-tests that stop
(R294, R324). -/
namespace Sys2Proof.Machine

/-- A register of MBX or BOOT, other than BOOT_RESULT, at whose place a port would have one. -/
def fwReg (a : Nat) : Prop := (0x40010000 ≤ a ∧ a < 0x40011000) ∨ (0x40210000 ≤ a ∧ a < 0x40210100 ∧ a ≠ 0x40210004)

/-- MBX, BOOT and the taken commands of `u` are those of `s`, and no semaphore has another holder. -/
structure FwKept (s u : State) : Prop where
  reg : ∀ a, fwReg a → u.reg a = s.reg a
  boot : u.boot = s.boot
  taken : u.mbx.taken = s.mbx.taken
  sem : ∀ n, u.holder n = none ∨ u.holder n = s.holder n

namespace FwKept

variable {s u w : State}

theorem refl (s : State) : FwKept s s := ⟨fun _ _ => rfl, rfl, rfl, fun _ => .inr rfl⟩

theorem trans (h : FwKept s u) (g : FwKept u w) : FwKept s w where
  reg a ha := (g.reg a ha).trans (h.reg a ha)
  boot := g.boot.trans h.boot
  taken := g.taken.trans h.taken
  sem n := by
    rcases g.sem n with hn | hn
    · exact .inl hn
    · rw [hn]
      exact h.sem n

theorem ite {c : Prop} [Decidable c] (h : FwKept s u) (g : FwKept s w) : FwKept s (if c then u else w) := by
  split <;> assumption

theorem foldl {α : Type} {f : State → α → State} {l : List α} (h : FwKept s u) (hf : ∀ v, ∀ x ∈ l, FwKept s v → FwKept s (f v x)) :
    FwKept s (l.foldl f u) := by
  induction l generalizing u with
  | nil => exact h
  | cons x l ih => exact ih (hf u x (List.mem_cons_self ..) h) fun v y hy => hf v y (List.mem_cons_of_mem _ hy)

theorem rd (h : FwKept s u) {f : Fld} (hf : fwReg f.addr) : u.rd f = s.rd f := by rw [State.rd, State.rd, h.reg _ hf]

theorem flag (h : FwKept s u) {f : Fld} (hf : fwReg f.addr) : u.flag f = s.flag f := by rw [State.flag, State.flag, h.rd hf]

section
variable (h : FwKept s u)
include h

/-- Changes beyond the registers, MBX, MTX and BOOT are none of it. -/
theorem same (hregs : w.regs = u.regs) (hboot : w.boot = u.boot) (hmbx : w.mbx = u.mbx) (hmtx : w.mtx = u.mtx) : FwKept s w :=
  h.trans ⟨fun a _ => by rw [State.reg, State.reg, hregs], hboot, by rw [hmbx], fun n => .inr (by rw [State.holder, State.holder, hmtx])⟩

theorem setReg {a : Nat} {v : W32} (ha : ¬fwReg a) : FwKept s (u.setReg a v) := by
  refine h.trans ⟨fun b hb => ?_, rfl, rfl, fun _ => .inr rfl⟩
  rw [State.reg_setReg, if_neg]
  rintro rfl
  exact ha hb

theorem wr {f : Fld} {v : Nat} (hf : ¬fwReg f.addr) : FwKept s (u.wr f v) := h.setReg hf

theorem setFlag {f : Fld} {b : Bool} (hf : ¬fwReg f.addr) : FwKept s (u.setFlag f b) := h.wr hf

theorem raise {f : Fld} (hf : ¬fwReg f.addr) : FwKept s (u.raise f) := h.wr hf

theorem mapLine {f : LineSt → LineSt} : FwKept s (u.mapLine f) := h.same rfl rfl rfl rfl

theorem mapDyn {p : Nat} {f : PortDyn → PortDyn} : FwKept s (u.mapDyn p f) := h.mapLine

theorem mapPrx {p : Nat} {f : PortRx → PortRx} : FwKept s (u.mapPrx p f) := h.mapLine

theorem mapPwr {f : PwrSt → PwrSt} : FwKept s (u.mapPwr f) := h.same rfl rfl rfl rfl

theorem mapMap {f : MapSt → MapSt} : FwKept s (u.mapMap f) := h.same rfl rfl rfl rfl

theorem mapMate {f : MateSt → MateSt} : FwKept s (u.mapMate f) := h.same rfl rfl rfl rfl

theorem mapTally {f : TallySt → TallySt} : FwKept s (u.mapTally f) := h.same rfl rfl rfl rfl

theorem line (g : OnlyLine u w) : FwKept s w := by
  obtain ⟨l, rfl⟩ := g
  exact h.same rfl rfl rfl rfl

theorem mirror (g : OnlyMirror u w) : FwKept s w := by
  obtain ⟨r, m, hw⟩ := g.rest
  refine h.trans ⟨fun a ha => g.kept a ?_, ?_, ?_, fun n => .inr ?_⟩
  · unfold fwReg at ha
    omega
  all_goals rw [hw]
  rfl

theorem refreshPair : FwKept s u.refreshPair := by
  have g := refreshPair_onlyRegsAndLine (as := [0x40060004, 0x40060008, 0x4006000C, 0x40060010]) (s := u) (by simp) (by simp) (by simp) (by simp)
  obtain ⟨r, l, hw⟩ := g.rest
  refine h.trans ⟨fun a ha => g.kept a ?_, ?_, ?_, fun n => .inr ?_⟩
  · unfold fwReg at ha
    simp only [List.mem_cons, List.not_mem_nil, or_false]
    omega
  all_goals rw [hw]
  rfl

/-! ### A receiver that starts again (R165) -/

omit h in
/-- No register of a port is one of MBX or BOOT. -/
theorem port_beside {p o : Nat} (ho : o = 4 ∨ (0x100 ≤ o ∧ o < 0x1000)) : ¬fwReg (prtBase p + o) := by
  simp only [fwReg, prtBase]
  omega

omit h in
theorem path_beside {p o code : Nat} : ¬fwReg (prtBase p + o + pathKey code) := by
  simp only [fwReg, prtBase, pathKey]
  omega

theorem setDef {p i : Nat} {b : Bool} : FwKept s (u.setDef p i b) :=
  h.ite ((h.wr (port_beside (by decide : 0x10C = 4 ∨ _))).wr (port_beside (by decide : 0x110 = 4 ∨ _)))

theorem setPathNow {p code v : Nat} {silent : Bool} : FwKept s (u.setPathNow p code v silent) := by
  have hwr : FwKept s ((u.wr (F.PATH_DEF_NOW p code) v).wr (F.PATH_DEF_SEEN p code) (u.rd (F.PATH_DEF_SEEN p code) ||| v)) :=
    (h.wr path_beside).wr path_beside
  exact h.ite (hwr.ite (hwr.raise (port_beside (by decide : 0x110 = 4 ∨ _))))

theorem clearTti {p k : Nat} (hk : k < 64) : FwKept s (State.clearTti p u k) :=
  (h.setFlag (f := F.TTI_SEL_TIM p k) (b := false) (by
    have hb : ¬fwReg (prtBase p + (0xA00 + k * 0x4)) := port_beside (by omega)
    rwa [← Nat.add_assoc] at hb)).mapLine

omit h in
theorem lt_of_mem_ttiHeld {v : State} {p code k : Nat} (hk : k ∈ v.ttiHeld p code) : k < 64 := by
  obtain ⟨e, -, rfl⟩ := List.mem_map.1 hk
  exact Nat.mod_lt _ (by decide)

theorem acquirePath {silent : Bool} {p code : Nat} : FwKept s (State.acquirePath silent p u code) := by
  unfold State.acquirePath
  extract_lets shown cleared
  have hshown : FwKept s shown := h.setPathNow.wr path_beside
  have hcleared : FwKept s cleared := hshown.foldl fun _ _ hk hv => hv.clearTti (lt_of_mem_ttiHeld hk)
  exact hcleared.mapLine

theorem acquire {p : Nat} {silent : Bool} : FwKept s (u.acquire p silent) := h.foldl fun _ _ _ hv => hv.acquirePath

theorem updateRdi {p : Nat} : FwKept s (u.updateRdi p) := h.mapDyn.ite h.mapDyn

theorem startRx {p : Nat} {silent : Bool} : FwKept s (u.startRx p silent) := by
  have hdef : ¬fwReg (prtBase p + 0x110) := port_beside (by decide)
  have hfrm : ¬fwReg (prtBase p + 0x100) := port_beside (by decide)
  have hstat : ¬fwReg (prtBase p + 0x4) := port_beside (by decide)
  unfold State.startRx
  extract_lets framers acquired was defs otn restored cleared framed since
  have hacquired : FwKept s acquired := (h.mapLine.foldl fun _ _ _ hv => hv.mapLine).acquire
  clear_value acquired
  have hdefs : FwKept s defs := hacquired.setDef.setDef.setDef.setDef
  have hotn : FwKept s otn := hdefs.setDef.ite hdefs
  clear_value otn
  have hrestored : FwKept s restored := (hotn.setReg hdef).ite hotn
  clear_value restored
  have hcleared : FwKept s cleared := ((hrestored.wr hstat).setFlag hfrm).wr hfrm
  have hframed : FwKept s framed := (hcleared.wr hfrm).setFlag hstat
  exact hframed.mapDyn.mapPrx.updateRdi

/-! ### The self-tests (R324) -/

theorem endPrbs {p : Nat} : FwKept s (u.endPrbs p) := (h.mapPwr.mapDyn.startRx).ite h.mapPwr.mapDyn

theorem countRefs : FwKept s u.countRefs :=
  h.foldl fun _ p hp hv => hv.wr (f := F.PRT_SRC_REFS_COUNT p) (by
    have := List.mem_range.1 hp
    simp only [fwReg, prtBase]
    omega)

omit h in
/-- A reset of the registers of the stored states leaves the others alone. -/
theorem get_filter {l : List (Nat × W32)} {q : Nat → Bool} {a : Nat} (hq : q a = true) :
    Store.get RegTable.reset (l.filter fun e => q e.1) a = Store.get RegTable.reset l a := by
  induction l with
  | nil => rfl
  | cons x l ih =>
    rw [List.filter_cons]
    split
    · rw [Store.get, Store.get, ih]
    · next hx =>
      rw [ih, Store.get, if_neg]
      rintro rfl
      exact hx hq

theorem emptyStack : FwKept s u.emptyStack := by
  unfold State.emptyStack
  extract_lets emptied idle sels unchecked counted
  have hbeside : ∀ f : Fld, f.addr < 0x40010000 ∨ (0x40011000 ≤ f.addr ∧ f.addr < 0x40210000) → ¬fwReg f.addr := fun f hf => by
    unfold fwReg
    omega
  have hidle : FwKept s idle := (h.mapMap.wr (hbeside _ (by decide))).ite h.mapMap
  clear_value idle
  have hsels : FwKept s sels := by
    refine hidle.trans ⟨fun a ha => get_filter (q := fun b => decide (b < 0x40090100) || decide (0x40090400 ≤ b)) ?_, rfl, rfl,
      fun _ => .inr rfl⟩
    unfold fwReg at ha
    simp only [Bool.or_eq_true, decide_eq_true_eq]
    omega
  clear_value sels
  have hunchecked : FwKept s unchecked := ((hsels.setFlag (hbeside _ (by decide))).wr (hbeside _ (by decide))).wr (hbeside _ (by decide))
  clear_value unchecked
  have hcounted : FwKept s counted := ((hunchecked.wr (hbeside _ (by decide))).wr (hbeside _ (by decide))).countRefs
  exact ((hcounted.wr (hbeside _ (by decide))).wr (hbeside _ (by decide))).mapMate

theorem endMarch : FwKept s u.endMarch := h.mapPwr.emptyStack.line (restartTx_onlyLine _)

theorem wantResync : FwKept s u.wantResync :=
  h.ite ((h.mapMate.mirror (sendFor_onlyMirror ..)).mapMate.ite h.mapMate)

theorem stopTests : FwKept s u.stopTests := by
  unfold State.stopTests
  extract_lets dropped ended still
  have hdropped : FwKept s dropped := h.foldl fun _ _ _ hv => hv.mapPwr
  have hended : FwKept s ended := hdropped.foldl fun _ _ _ hv => hv.endPrbs
  have hstill : FwKept s still := hended.mapPwr
  clear_value still
  exact hstill.ite hstill.endMarch.wantResync.refreshPair

end
end FwKept

/-! ### The control cores (R294) -/

/-- No control core holds semaphore `n`. -/
def State.freeOfCores (s : State) (n : Nat) : Prop := ∀ m, s.holder n = some m → ¬(1 ≤ m ∧ m ≤ 4)

theorem FwKept.free {s u : State} (h : FwKept s u) {n : Nat} (hn : s.freeOfCores n) : u.freeOfCores n := fun m hm => by
  rcases h.sem n with hnone | hsame
  · rw [hnone] at hm
    cases hm
  · exact hn m (hsame ▸ hm)

/-- A semaphore that a core held is free once no core holds it. -/
theorem FwKept.freed {s u : State} (h : FwKept s u) {n m : Nat} (hu : u.freeOfCores n) (hm : s.holder n = some m) (h1 : 1 ≤ m) (h4 : m ≤ 4) :
    u.holder n = none := by
  rcases h.sem n with hnone | hsame
  · exact hnone
  · exact absurd ⟨h1, h4⟩ (hu m (hsame.trans hm))

theorem holder_setHolder (s : State) (n k : Nat) (o : Option Nat) : (s.setHolder n o).holder k = if n = k then o else s.holder k := Store.get_put

theorem releaseSem_fwKept {s : State} {n : Nat} (hn : n < 32) : FwKept s (s.setHolder n none) := by
  have hsem : ¬fwReg (0x400A0100 + 4 * n) := by
    unfold fwReg
    omega
  have hstat : ¬fwReg F.SEM_STAT_HELD.addr := by
    unfold fwReg
    decide
  have hregs : FwKept ({ s with mtx := { s.mtx with sem := Store.put (fun _ => none) s.mtx.sem n none } } : State) (s.setHolder n none) :=
    ((FwKept.refl _).setReg hsem).wr (f := { addr := F.SEM_STAT_HELD.addr, lo := F.SEM_STAT_HELD.lo + n, w := 1 }) hstat
  refine ⟨hregs.reg, hregs.boot, hregs.taken, fun k => ?_⟩
  rw [holder_setHolder]
  split
  · exact .inl rfl
  · exact .inr rfl

/-- A control core releases semaphore `n`. -/
def State.freeCoreSem (s : State) (n : Nat) : State :=
  match s.holder n with
  | some m => if 1 ≤ m ∧ m ≤ 4 then s.setHolder n none else s
  | none => s

theorem freeCoreSem_fwKept {s : State} {n : Nat} (hn : n < 32) : FwKept s (s.freeCoreSem n) := by
  rw [State.freeCoreSem]
  split
  · exact (releaseSem_fwKept hn).ite (.refl s)
  · exact .refl s

theorem freeCoreSem_free (s : State) (n : Nat) : (s.freeCoreSem n).freeOfCores n := by
  intro m hm
  rw [State.freeCoreSem] at hm
  split at hm
  next k hk =>
    split at hm
    · rw [holder_setHolder, if_pos rfl] at hm
      cases hm
    · next hcore =>
      rw [hk] at hm
      cases hm
      exact hcore
  next hk =>
    rw [hk] at hm
    cases hm

theorem freeCoreSems_frees {l : List Nat} (hl : ∀ n ∈ l, n < 32) (s : State) :
    FwKept s (l.foldl State.freeCoreSem s) ∧ ∀ n ∈ l, (l.foldl State.freeCoreSem s).freeOfCores n := by
  induction l generalizing s with
  | nil => exact ⟨.refl s, fun _ hn => absurd hn List.not_mem_nil⟩
  | cons k l ih =>
    obtain ⟨hkept, hfree⟩ := ih (fun n hn => hl n (List.mem_cons_of_mem _ hn)) (s.freeCoreSem k)
    refine ⟨(freeCoreSem_fwKept (hl k (List.mem_cons_self ..))).trans hkept, fun n hn => ?_⟩
    rcases List.mem_cons.1 hn with rfl | hn
    · exact hkept.free (freeCoreSem_free s n)
    · exact hfree n hn

theorem reclaimCoreBank_fwKept {s : State} {b : Nat} (hb : b < 16) : FwKept s (s.reclaimCoreBank b) := by
  have hown : ¬fwReg (0x40020100 + b * 0x4) := by
    unfold fwReg
    omega
  have hint : ¬fwReg 0x40020020 := by
    unfold fwReg
    decide
  have hgive : ∀ next, FwKept s (s.giveBank b next) := fun next => by
    have hhand : FwKept s ({ s with mtx := { s.mtx with hand := Store.put (fun _ => none) s.mtx.hand b none } } : State) :=
      ⟨fun _ _ => rfl, rfl, rfl, fun _ => .inr rfl⟩
    exact (((hhand.wr (f := F.SCR_OWN_OWNER b) hown).wr (f := F.SCR_OWN_GEN b) hown).setFlag (f := F.SCR_OWN_RECLAIMED b) hown).raise hint
  have hreclaim : ∀ m, FwKept s (State.reclaimBank m s b) := fun m => by
    rw [State.reclaimBank]
    split
    · exact (hgive _).ite (.refl s)
    · exact ((((FwKept.refl s).wr (f := F.SCR_OWN_OWNER b) hown).raise (f := F.SCR_OWN_RECLAIMED b) hown).raise hint).ite (.refl s)
  exact (hreclaim _).ite (.refl s)

/-- The cores' reset releases their semaphores, and leaves the rest of what concerns firmware. -/
theorem resetCores_frees (s : State) : FwKept s s.resetCores ∧ ∀ n, n < 32 → s.resetCores.freeOfCores n := by
  have hstaged : ∀ (u : State) (m : Nat), FwKept u (u.dropStaged m) := fun u m => ⟨fun _ _ => rfl, rfl, rfl, fun _ => .inr rfl⟩
  have hbanks : FwKept s ((List.range 16).foldl State.reclaimCoreBank ((((s.dropStaged 1).dropStaged 2).dropStaged 3).dropStaged 4)) :=
    (((hstaged _ _).trans (hstaged _ _)).trans ((hstaged _ _).trans (hstaged _ _))).foldl
      fun _ _ hb hv => hv.trans (reclaimCoreBank_fwKept (List.mem_range.1 hb))
  obtain ⟨hkept, hfree⟩ := freeCoreSems_frees (l := List.range 32) (fun n hn => List.mem_range.1 hn)
    ((List.range 16).foldl State.reclaimCoreBank ((((s.dropStaged 1).dropStaged 2).dropStaged 3).dropStaged 4))
  exact ⟨hbanks.trans hkept, fun n hn => hfree n (List.mem_range.2 hn)⟩

end Sys2Proof.Machine
end

section
/-! Proofs: a firmware reset: the sessions of BOOT, a trial that ends, and the notices and commands of MBX (R268, R269, R274, R275, R358,
R363). -/
namespace Sys2Proof.Machine

/-! ### A trial that ends (R363) -/

theorem unpin_onlyStore (s : State) : OnlyStore s s.unpin := by
  have hclear : ∀ (l : List (Nat × List W8)) (u : State), OnlyStore u (l.foldl (fun u x => u.clearHeader x.1) u) := fun l => by
    induction l with
    | nil => exact .refl
    | cons x l ih => exact fun u => (mramWrite_onlyStore ..).trans (ih _)
  exact ((hclear _ s).trans (writeRec_onlyStore ..)).ite (.refl s)

theorem unpin_rd {s : State} {f : Fld} (h : besideRec f = true) : s.unpin.rd f = s.rd f := by
  have hclear : ∀ l : List (Nat × List W8), (l.foldl (fun u x => u.clearHeader x.1) s).rd f = s.rd f := fun l =>
    foldl_keeps (g := fun u => u.rd f) (fun _ _ => mramWrite_rd ..) l s
  simp only [State.unpin]
  split
  · rw [writeRec_rd h, hclear]
  · rfl

/-- A field that the settings in force do not show in. -/
def besideForce (f : Fld) : Bool :=
  [F.BOOT_SET_FMT, F.BOOT_SET_SLOT, F.BOOT_SET_DEFAULTS, F.BOOT_SET_GEN_GEN].all fun g => g.apart f

theorem inForce_onlyStore (s : State) (o : Option Nat) : OnlyStore s (s.inForce o) := by
  cases o <;> exact (OnlyStore.refl s).wr.wr.wr.wr

theorem inForce_rd {s : State} {o : Option Nat} {f : Fld} (h : besideForce f = true) : (s.inForce o).rd f = s.rd f := by
  simp only [besideForce, List.all_cons, List.all_nil, Bool.and_true, Bool.and_eq_true] at h
  obtain ⟨hfmt, hslot, hdef, hgen⟩ := h
  cases o with
  | none => rw [State.inForce, State.rd_wr_apart _ _ hgen, State.raise, State.rd_wr_apart _ _ hdef, State.rd_wr_apart _ _ hslot,
      State.rd_wr_apart _ _ hfmt]
  | some k => rw [State.inForce, State.rd_wr_apart _ _ hgen, State.setFlag, State.rd_wr_apart _ _ hdef, State.rd_wr_apart _ _ hslot,
      State.rd_wr_apart _ _ hfmt]

/-- The store as the end of a trial leaves it: the image STAGED again, and the pinned record in force. -/
def State.restoreTrial (s : State) (img : Nat) : State :=
  let u := s.unpin.writeRec fun r => { r.setImg img 2 with trialS := 0 }
  if s.bootRec.pinned then u.inForce (u.setRecords.head?.map Prod.fst) else u

theorem restoreTrial_onlyStore (s : State) (img : Nat) : OnlyStore s (s.restoreTrial img) := by
  have hwritten := (unpin_onlyStore s).trans (writeRec_onlyStore s.unpin fun r => { r.setImg img 2 with trialS := 0 })
  exact (hwritten.trans (inForce_onlyStore ..)).ite hwritten

theorem restoreTrial_rd {s : State} {img : Nat} {f : Fld} (hrec : besideRec f = true) (hforce : besideForce f = true) :
    (s.restoreTrial img).rd f = s.rd f := by
  simp only [State.restoreTrial]
  split
  · rw [inForce_rd hforce, writeRec_rd hrec, unpin_rd hrec]
  · rw [writeRec_rd hrec, unpin_rd hrec]

theorem endTrial_eq (s : State) (img : Nat) :
    s.endTrial img = (((s.restoreTrial img).setFlag F.BOOT_STATUS_TRIAL false).raise F.BOOT_INT_REVERTED).closeAct := rfl

theorem endTrial_flags (s : State) (img : Nat) : (s.endTrial img).flag F.BOOT_STATUS_TRIAL = false ∧
    (s.endTrial img).flag F.BOOT_INT_REVERTED = true := by
  rw [endTrial_eq, closeAct_flag (by decide), closeAct_flag (by decide), State.raise, flag_wr_apart _ _ (by decide), State.setFlag,
    flag_wr_same _ _ _ (by decide) rfl, flag_wr_same _ _ _ (by decide) rfl]
  exact ⟨rfl, rfl⟩

theorem endTrial_rd {s : State} {img : Nat} {f : Fld} (hrec : besideRec f = true) (hforce : besideForce f = true)
    (htrial : F.BOOT_STATUS_TRIAL.apart f = true) (hint : F.BOOT_INT_REVERTED.apart f = true) (hact : F.BOOT_STAGE_ACTIVATION.apart f = true) :
    (s.endTrial img).rd f = s.rd f := by
  rw [endTrial_eq, closeAct_rd hact, State.raise, State.rd_wr_apart _ _ hint, State.setFlag, State.rd_wr_apart _ _ htrial,
    restoreTrial_rd hrec hforce]

theorem endTrial_rest {s u : State} {img : Nat} (h : OnlyStore s u) : ∃ r m, u.endTrial img =
    { s with regs := r, boot := { s.boot with mram := m, act := Activation.reset } } := by
  rw [endTrial_eq]
  exact closeAct_rest (h.trans (restoreTrial_onlyStore ..)).wr.wr

/-! ### The sessions of BOOT (R358, R368) -/

/-- The time of notices runs, and their marks and the time of a stop may have moved. -/
theorem releaseNotices_rest (s : State) : ∃ r p, s.releaseNotices = { s with regs := r, mbx := { s.mbx with hPost := p } } := by
  rw [State.releaseNotices]
  split
  · exact ⟨_, _, rfl⟩
  · exact ⟨s.regs, s.mbx.hPost, rfl⟩

theorem releaseNotices_rd {s : State} {f : Fld} (h : F.MBX_STATUS_TMO_HOLD.apart f = true) : s.releaseNotices.rd f = s.rd f := by
  rw [State.releaseNotices]
  split
  · exact State.rd_wr_apart s _ h
  · rfl

theorem setFwRun_onlyRegs (s : State) (b : Bool) : OnlyRegs s (s.setFwRun b) := (OnlyRegs.refl s).ite (OnlyRegs.refl s).wr.wr

/-- A firmware reset closes the staging session and the settings record under way, and firmware stops. -/
def State.closeSessions (s : State) : State :=
  (((s.dropStaging.mapBoot fun b => { b with chunks := [], record := none }).setFlag F.BOOT_STAGE_SETTINGS false).setFwRun false).releaseNotices

/-- A field that the closing of the sessions leaves alone. -/
def besideSessions (f : Fld) : Bool :=
  besideRec f && [F.BOOT_STAGE_STAGING, F.BOOT_STAGE_OFFSET, F.BOOT_STAGE_SETTINGS, F.MBX_STATUS_FW_RUN, F.MBX_ERR_FW_RUN_CHG,
    F.MBX_STATUS_TMO_HOLD].all fun g => g.apart f

theorem closeSessions_rd {s : State} {f : Fld} (h : besideSessions f = true) : s.closeSessions.rd f = s.rd f := by
  simp only [besideSessions, List.all_cons, List.all_nil, Bool.and_true, Bool.and_eq_true] at h
  obtain ⟨hrec, hstaging, hoff, hset, hrun, herr, hhold⟩ := h
  rw [State.closeSessions, releaseNotices_rd hhold, setFwRun_rd hrun herr, State.setFlag, State.rd_wr_apart _ _ hset, State.mapBoot_rd,
    dropStaging_rd hstaging hoff hrec]

theorem closeSessions_flags (s : State) : s.closeSessions.flag F.MBX_STATUS_FW_RUN = false ∧ s.closeSessions.flag F.BOOT_STAGE_STAGING = false := by
  rw [State.closeSessions, State.flag, State.flag, releaseNotices_rd (by decide), releaseNotices_rd (by decide),
    setFwRun_rd (f := F.BOOT_STAGE_STAGING) (by decide) (by decide), State.setFlag,
    State.rd_wr_apart (g := F.BOOT_STAGE_STAGING) _ _ (by decide), State.mapBoot_rd]
  exact ⟨setFwRun_flag _ _, dropStaging_staging s⟩

/-- Of `s`, `u` has MTX, the taken commands and the activation in flight, and no chunk and no record is under way. -/
structure SessionsClosed (s u : State) : Prop where
  mtx : u.mtx = s.mtx
  taken : u.mbx.taken = s.mbx.taken
  chunks : u.boot.chunks = []
  record : u.boot.record = none

theorem closeSessions_closed (s : State) : SessionsClosed s s.closeSessions ∧ s.closeSessions.boot.act = s.boot.act := by
  obtain ⟨r, m, cs, hdrop⟩ := dropStaging_rest s
  obtain ⟨r', hrun⟩ := setFwRun_onlyRegs
    ((s.dropStaging.mapBoot fun b => { b with chunks := [], record := none }).setFlag F.BOOT_STAGE_SETTINGS false) false
  obtain ⟨r'', p, hrelease⟩ := releaseNotices_rest
    (((s.dropStaging.mapBoot fun b => { b with chunks := [], record := none }).setFlag F.BOOT_STAGE_SETTINGS false).setFwRun false)
  rw [State.closeSessions, hrelease, hrun, hdrop]
  exact ⟨⟨rfl, rfl, rfl, rfl⟩, rfl⟩

/-- The trial or the activation ends with the sessions; in a trial the other image and code slot are put in use. -/
def State.endActivity (s : State) : State :=
  if s.flag F.BOOT_STATUS_TRIAL then
    ((s.wr F.BOOT_STATUS_RUN_IMG (1 - s.runImg)).wr F.BOOT_STATUS_CODE_SLOT (1 - s.rd F.BOOT_STATUS_CODE_SLOT)).endTrial s.runImg
  else s.closeAct

theorem bootFirmwareReset_eq (s : State) (ok : Bool) : s.bootFirmwareReset ok =
    if s.closeSessions.boot.act.abort then s.closeSessions.endActivity.complete .fwAbort .ok [2] ok else s.closeSessions.endActivity := rfl

theorem endActivity_closed {s u : State} (h : SessionsClosed s u) : SessionsClosed s u.endActivity := by
  have hrest : ∀ w : State,
      (∃ r m, w = { u with regs := r, boot := { u.boot with mram := m, act := Activation.reset } }) → SessionsClosed s w := by
    rintro w ⟨r, m, rfl⟩
    exact ⟨h.mtx, h.taken, h.chunks, h.record⟩
  rw [State.endActivity]
  split
  · exact hrest _ (endTrial_rest (OnlyStore.refl u).wr.wr)
  · exact hrest _ (closeAct_rest (.refl u))

/-- A field that no end of an activity changes. -/
def besideActivity (f : Fld) : Bool :=
  besideRec f && besideForce f && [F.BOOT_STATUS_RUN_IMG, F.BOOT_STATUS_CODE_SLOT, F.BOOT_STATUS_TRIAL, F.BOOT_INT_REVERTED,
    F.BOOT_STAGE_ACTIVATION].all fun g => g.apart f

theorem endActivity_rd {s : State} {f : Fld} (h : besideActivity f = true) : s.endActivity.rd f = s.rd f := by
  simp only [besideActivity, List.all_cons, List.all_nil, Bool.and_true, Bool.and_eq_true] at h
  obtain ⟨⟨hrec, hforce⟩, himg, hslot, htrial, hint, hact⟩ := h
  rw [State.endActivity]
  split
  · rw [endTrial_rd hrec hforce htrial hint hact, State.rd_wr_apart _ _ hslot, State.rd_wr_apart _ _ himg]
  · exact closeAct_rd hact

theorem endActivity_idle {s : State} (h : s.flag F.BOOT_STATUS_TRIAL = false) :
    s.endActivity.rd F.BOOT_STATUS_RUN_IMG = s.rd F.BOOT_STATUS_RUN_IMG := by
  rw [State.endActivity, if_neg (Bool.eq_false_iff.1 h), closeAct_rd (by decide)]

theorem endActivity_trial {s : State} (h : s.flag F.BOOT_STATUS_TRIAL = true) :
    s.endActivity.flag F.BOOT_STATUS_TRIAL = false ∧ s.endActivity.flag F.BOOT_INT_REVERTED = true ∧
      s.endActivity.rd F.BOOT_STATUS_RUN_IMG = 1 - s.rd F.BOOT_STATUS_RUN_IMG ∧
      s.endActivity.rd F.BOOT_STATUS_CODE_SLOT = 1 - s.rd F.BOOT_STATUS_CODE_SLOT := by
  rw [State.endActivity, if_pos h]
  generalize hv : (s.wr F.BOOT_STATUS_RUN_IMG (1 - s.runImg)).wr F.BOOT_STATUS_CODE_SLOT (1 - s.rd F.BOOT_STATUS_CODE_SLOT) = v
  obtain ⟨htrial, hint⟩ := endTrial_flags v s.runImg
  refine ⟨htrial, hint, ?_, ?_⟩
  · rw [endTrial_rd (by decide) (by decide) (by decide) (by decide) (by decide), ← hv, State.rd_wr_apart _ _ (by decide),
      State.rd_wr_same _ _ _ (by decide), State.runImg]
    exact Nat.mod_eq_of_lt (Nat.lt_of_le_of_lt (Nat.sub_le ..) (by decide))
  · rw [endTrial_rd (by decide) (by decide) (by decide) (by decide) (by decide), ← hv, State.rd_wr_same _ _ _ (by decide)]
    exact Nat.mod_eq_of_lt (Nat.lt_of_le_of_lt (Nat.sub_le ..) (by decide))

/-- While firmware is stopped a final outcome is kept with the taken command (R275). -/
theorem complete_stopped {s : State} (h : s.flag F.MBX_STATUS_FW_RUN = false) (o : Opc) (st : Status) (ws : List W32) (ok : Bool) :
    ∃ l, s.complete o st ws ok = { s with mbx := { s.mbx with taken := l } } := by
  rw [State.complete]
  split
  · exact ⟨s.mbx.taken, rfl⟩
  · rw [State.outcome, if_neg (Bool.eq_false_iff.1 h)]
    exact ⟨_, rfl⟩

/-- What a firmware reset makes of BOOT: its sessions and its activity end, and of MBX only the taken command that a handover back serves. -/
theorem bootFirmwareReset_shape (s : State) (ok : Bool) : ∃ l,
    s.bootFirmwareReset ok = { s.closeSessions.endActivity with mbx := { s.closeSessions.endActivity.mbx with taken := l } } ∧
      (s.boot.act.abort = false → l = s.mbx.taken) := by
  obtain ⟨hclosed, hact⟩ := closeSessions_closed s
  rw [bootFirmwareReset_eq, hact]
  split
  · next habort =>
    have hrun : s.closeSessions.endActivity.flag F.MBX_STATUS_FW_RUN = false := by
      rw [State.flag, endActivity_rd (by decide), ← State.flag, (closeSessions_flags s).1]
    obtain ⟨l, hl⟩ := complete_stopped hrun .fwAbort .ok [2] ok
    exact ⟨l, hl, fun h => absurd habort (by rw [h]; decide)⟩
  · exact ⟨_, rfl, fun _ => (endActivity_closed hclosed).taken⟩

/-- What a firmware reset leaves of BOOT, and what of the rest its BOOT part leaves alone. -/
structure BootReset (s u : State) : Prop where
  mtx : u.mtx = s.mtx
  chunks : u.boot.chunks = []
  record : u.boot.record = none
  taken : s.boot.act.abort = false → u.mbx.taken = s.mbx.taken
  rd : ∀ f : Fld, besideSessions f = true → besideActivity f = true → u.rd f = s.rd f
  staging : u.flag F.BOOT_STAGE_STAGING = false
  idle : s.flag F.BOOT_STATUS_TRIAL = false → u.rd F.BOOT_STATUS_RUN_IMG = s.rd F.BOOT_STATUS_RUN_IMG
  trial : s.flag F.BOOT_STATUS_TRIAL = true → u.flag F.BOOT_STATUS_TRIAL = false ∧ u.flag F.BOOT_INT_REVERTED = true ∧
    u.rd F.BOOT_STATUS_RUN_IMG = 1 - s.rd F.BOOT_STATUS_RUN_IMG ∧ u.rd F.BOOT_STATUS_CODE_SLOT = 1 - s.rd F.BOOT_STATUS_CODE_SLOT

theorem bootFirmwareReset_reset (s : State) (ok : Bool) : BootReset s (s.bootFirmwareReset ok) := by
  have hclosed := endActivity_closed (closeSessions_closed s).1
  have htrial : s.closeSessions.flag F.BOOT_STATUS_TRIAL = s.flag F.BOOT_STATUS_TRIAL := by
    rw [State.flag, State.flag, closeSessions_rd (by decide)]
  obtain ⟨l, hl, htaken⟩ := bootFirmwareReset_shape s ok
  have hrd : ∀ f, (s.bootFirmwareReset ok).rd f = s.closeSessions.endActivity.rd f := fun f => by rw [hl]; rfl
  refine ⟨by rw [hl]; exact hclosed.mtx, by rw [hl]; exact hclosed.chunks, by rw [hl]; exact hclosed.record,
    fun h => by rw [hl]; exact htaken h, fun f hs ha => ?_, ?_, fun h => ?_, fun h => ?_⟩
  · rw [hrd, endActivity_rd ha, closeSessions_rd hs]
  · rw [State.flag, hrd, endActivity_rd (by decide), ← State.flag, (closeSessions_flags s).2]
  · rw [hrd, endActivity_idle (htrial.trans h), closeSessions_rd (by decide)]
  · obtain ⟨htr, hint, himg, hslot⟩ := endActivity_trial (htrial.trans h)
    rw [State.flag, State.flag, hrd, hrd, hrd, hrd, himg, hslot, closeSessions_rd (by decide), closeSessions_rd (by decide)]
    exact ⟨htr, hint, rfl, rfl⟩

/-! ### Notices and commands (R268, R269, R274, R275) -/

theorem bitAt_eq (s : State) (f : Fld) (n : Nat) : s.bitAt f n = bitOf (s.reg f.addr).toNat (f.lo + n) := rfl

theorem testBit_rd (s : State) {f : Fld} {n : Nat} (hn : n < f.w) : (s.rd f).testBit n = s.bitAt f n := by
  rw [State.rd, testBit_bits, bitAt_eq, bitOf_eq_testBit, decide_eq_true hn, Bool.true_and]

/-- `u` is `s` but for MBX: the taken commands are the same, and no stale mark was cleared. -/
structure MbxStep (s u : State) : Prop where
  rest : ∃ r b, u = { s with regs := r, mbx := b }
  taken : u.mbx.taken = s.mbx.taken
  reg : ∀ a, a < 0x40010000 ∨ 0x40011000 ≤ a → u.reg a = s.reg a
  stale : ∀ ch, ch < 32 → s.bitAt F.MBX_STALE_STALE ch = true → u.bitAt F.MBX_STALE_STALE ch = true

namespace MbxStep

variable {s u w : State}

theorem refl (s : State) : MbxStep s s := ⟨⟨s.regs, s.mbx, rfl⟩, rfl, fun _ _ => rfl, fun _ _ h => h⟩

theorem trans (h : MbxStep s u) (g : MbxStep u w) : MbxStep s w where
  rest := by
    obtain ⟨r, b, rfl⟩ := h.rest
    obtain ⟨r', b', rfl⟩ := g.rest
    exact ⟨r', b', rfl⟩
  taken := g.taken.trans h.taken
  reg a ha := (g.reg a ha).trans (h.reg a ha)
  stale ch hch hs := g.stale ch hch (h.stale ch hch hs)

theorem ite {c : Prop} [Decidable c] (h : MbxStep s u) (g : MbxStep s w) : MbxStep s (if c then u else w) := by
  split <;> assumption

section
variable (h : MbxStep s u)
include h

theorem wr {f : Fld} {v : Nat} (hlo : 0x40010000 ≤ f.addr) (hhi : f.addr < 0x40011000) (hne : f.addr ≠ 0x40010028) : MbxStep s (u.wr f v) := by
  refine h.trans ⟨⟨_, u.mbx, rfl⟩, rfl, fun a ha => ?_, fun ch _ hs => ?_⟩
  · rw [reg_wr, if_neg (by omega)]
  · rwa [bitAt_eq, reg_wr, if_neg hne]

theorem markStale {n : Nat} : MbxStep s (u.setBitAt F.MBX_STALE_STALE n true) := by
  refine h.trans ⟨⟨_, u.mbx, rfl⟩, rfl, fun a ha => ?_, fun ch hch hs => ?_⟩
  · rw [State.setBitAt, reg_wr, if_neg (show ¬(0x40010028 = a) by omega)]
  · rw [bitAt_eq, State.setBitAt, reg_wr, if_pos rfl, bitOf_insertBits (show 0 + ch < 32 by omega)]
    split
    · next hn =>
      obtain ⟨hlo, hhi⟩ : 0 + n ≤ 0 + ch ∧ 0 + ch < 0 + n + 1 := hn
      rw [show 0 + ch - (0 + n) = 0 by omega]
      rfl
    · exact hs

theorem mapMbx {f : Mbx → Mbx} (hf : (f u.mbx).taken = u.mbx.taken) : MbxStep s (u.mapMbx f) :=
  h.trans ⟨⟨u.regs, _, rfl⟩, hf, fun _ _ => rfl, fun _ _ hs => hs⟩

theorem setRing {r : Nat} {x : Ring} : MbxStep s (u.setRing r x) :=
  (h.mapMbx (f := fun b => { b with ring0 := x }) rfl).ite (h.mapMbx (f := fun b => { b with ring1 := x }) rfl)

theorem staleRing {r : Nat} (hr : r < 2) : MbxStep s (u.staleRing r) := by
  have hpi : MbxStep s (u.wr (F.CMD_IDX_STALE_PI r) (if u.bitAt F.H2D_DB_DB r then u.rd (F.H2D_NOTICE_TAG_TAG r) else (u.ring r).lastTag.toNat)) :=
    h.wr (show 0x40010000 ≤ 0x40010054 + r * 0x20 by omega) (show 0x40010054 + r * 0x20 < 0x40011000 by omega)
      (show 0x40010054 + r * 0x20 ≠ 0x40010028 by omega)
  exact hpi.markStale.setRing.ite hpi

theorem releaseNotices : MbxStep s u.releaseNotices :=
  have hrun : MbxStep s (u.setFlag F.MBX_STATUS_TMO_HOLD false) := h.wr (by decide) (by decide) (by decide)
  (hrun.mapMbx rfl).ite h

theorem setFwRun {b : Bool} : MbxStep s (u.setFwRun b) :=
  h.ite ((h.wr (by decide) (by decide) (by decide)).wr (by decide) (by decide) (by decide))

end
end MbxStep

/-- The notices at a firmware reset: every posted one is stale. -/
def State.markPosted (s : State) : State := s.wr F.MBX_STALE_STALE (s.rd F.MBX_STALE_STALE ||| s.rd F.H2D_DB_DB)

/-- MBX at a firmware reset but for the taken commands: firmware is stopped, and the notices of the host are stale and masked. -/
def State.stopNotices (s : State) : State :=
  ((((s.markPosted.staleRing 0).staleRing 1).releaseNotices).setFwRun false).wr F.H2D_MASK_MASK 0xFFFFFFFF

/-- The taken commands at a firmware reset: those that no hardware carries are lost. -/
def State.oldCommands (s : State) : List Taken := s.mbx.taken.map fun k => { k with old := true, lost := k.lost || !s.carried k }

theorem mbxFirmwareReset_eq (s : State) :
    s.mbxFirmwareReset = s.stopNotices.mapMbx fun b =>
      { b with taken := b.taken.map fun k => { k with old := true, lost := k.lost || !s.stopNotices.carried k } } := rfl

theorem stopNotices_step (s : State) : MbxStep s.markPosted s.stopNotices :=
  ((((MbxStep.refl s.markPosted).staleRing (by decide)).staleRing (by decide)).releaseNotices.setFwRun).wr (by decide) (by decide) (by decide)

theorem stopNotices_fields (s : State) : s.stopNotices.flag F.MBX_STATUS_FW_RUN = false ∧ s.stopNotices.rd F.H2D_MASK_MASK = 0xFFFFFFFF := by
  constructor
  · rw [State.stopNotices, flag_wr_apart _ _ (by decide), setFwRun_flag]
  · rw [State.stopNotices, State.rd_wr_same _ _ _ (by decide)]
    rfl

theorem markPosted_stale {s : State} {ch : Nat} (hch : ch < 32) (h : s.bitAt F.H2D_DB_DB ch = true) :
    s.markPosted.bitAt F.MBX_STALE_STALE ch = true := by
  rw [bitAt_eq, State.markPosted, reg_wr, if_pos rfl, bitOf_insertBits (show 0 + ch < 32 by omega),
    if_pos ⟨Nat.zero_le _, show 0 + ch < 0 + 32 by omega⟩, Nat.zero_add, Nat.sub_zero, Nat.testBit_or,
    testBit_rd s (f := F.H2D_DB_DB) hch, h, Bool.or_true]

/-- MBX after a firmware reset; beyond it nothing changes. -/
structure MbxReset (s u : State) : Prop where
  rest : ∃ r b, u = { s with regs := r, mbx := b }
  reg : ∀ a, a < 0x40010000 ∨ 0x40011000 ≤ a → u.reg a = s.reg a
  stopped : u.flag F.MBX_STATUS_FW_RUN = false
  masked : u.rd F.H2D_MASK_MASK = 0xFFFFFFFF
  stale : ∀ ch, ch < 32 → s.bitAt F.H2D_DB_DB ch = true → u.bitAt F.MBX_STALE_STALE ch = true
  taken : u.mbx.taken = s.oldCommands

theorem mbxFirmwareReset_reset (s : State) : MbxReset s s.mbxFirmwareReset := by
  have hstep := stopNotices_step s
  obtain ⟨hrun, hmask⟩ := stopNotices_fields s
  have hreg : ∀ a, a < 0x40010000 ∨ 0x40011000 ≤ a → s.stopNotices.reg a = s.reg a := fun a ha => by
    rw [hstep.reg a ha, State.markPosted, reg_wr, if_neg (show ¬(0x40010028 = a) by omega)]
  have hcarried : ∀ k, s.stopNotices.carried k = s.carried k := fun k => by
    have hstate : s.stopNotices.rd F.MAP_STATUS_STATE = s.rd F.MAP_STATUS_STATE := by rw [State.rd, State.rd, hreg _ (by decide)]
    rw [State.carried, State.carried, hstate]
  obtain ⟨r, b, hrest⟩ := hstep.rest
  refine ⟨⟨r, s.mbxFirmwareReset.mbx, ?_⟩, hreg, hrun, hmask, fun ch hch h => hstep.stale ch hch (markPosted_stale hch h), ?_⟩
  · rw [mbxFirmwareReset_eq, hrest]
    rfl
  · rw [mbxFirmwareReset_eq, State.mapMbx_mbx, hstep.taken, State.oldCommands]
    simp only [hcarried]
    rfl

/-! ### FIRMWARE_RESET -/

theorem FwKept.dropCommit {s u : State} (h : FwKept s u) : FwKept s u.dropCommit :=
  (h.wr (by unfold fwReg; decide)).mapMap

section
variable {t : Nat} {fatal rplOk : Bool} {s : State} (hphase : s.rd F.BOOT_STATUS_PHASE = 2)
include hphase

/-- Outside a window a firmware reset is that of BOOT and of MBX, then of the cores, the self-tests and the counter definitions. -/
theorem exec_firmwareReset : ∃ s', exec (.firmwareReset t fatal rplOk) s = .next s' ∧
    FwKept ((s.tick t).bootFirmwareReset rplOk).mbxFirmwareReset s' ∧ (∀ n, n < 32 → s'.freeOfCores n) ∧
    s'.tally.defs = [] ∧ s'.tally.cfg = none := by
  have hnot : ¬(s.tick t).rd F.BOOT_STATUS_PHASE = 3 := by
    rw [State.tick_rd, hphase]
    decide
  generalize hw : ((s.tick t).bootFirmwareReset rplOk).mbxFirmwareReset = w
  obtain ⟨hcores, hfree⟩ := resetCores_frees w
  have htests : FwKept w.resetCores w.resetCores.stopTests := (FwKept.refl _).stopTests
  have hrest : FwKept w.resetCores ((if w.resetCores.stopTests.map.commit.isSome ∧ w.resetCores.stopTests.rd F.MAP_STATUS_STATE = 2
      then w.resetCores.stopTests.dropCommit else w.resetCores.stopTests).mapTally fun y => { y with defs := [], cfg := none }) :=
    (htests.dropCommit.ite htests).mapTally
  refine ⟨_, ?_, hcores.trans hrest, fun n hn => hrest.free (hfree n hn), rfl, rfl⟩
  rw [← hw]
  exact (if_neg hnot).trans (if_pos hphase)

theorem firmwareReset_stops : ∃ s', exec (.firmwareReset t fatal rplOk) s = .next s' ∧ s'.flag F.MBX_STATUS_FW_RUN = false ∧
    (∀ ch, ch < 32 → s.bitAt F.H2D_DB_DB ch = true → s'.bitAt F.MBX_STALE_STALE ch = true) ∧
    (∀ n m, n < 32 → s.holder n = some m → 1 ≤ m → m ≤ 4 → s'.holder n = none) ∧
    s'.rd F.H2D_MASK_MASK = 0xFFFFFFFF ∧ s'.boot.chunks = [] ∧ s'.boot.record = none ∧ s'.flag F.BOOT_STAGE_STAGING = false ∧
    s'.tally.defs = [] ∧ s'.tally.cfg = none ∧
    (s.boot.act.abort = false → s'.mbx.taken = s.mbx.taken.map fun k => { k with old := true, lost := k.lost || !s.carried k }) ∧
    (s.flag F.BOOT_STATUS_TRIAL = false → s'.rd F.BOOT_STATUS_RUN_IMG = s.rd F.BOOT_STATUS_RUN_IMG) ∧
    (s.flag F.BOOT_STATUS_TRIAL = true → s'.flag F.BOOT_STATUS_TRIAL = false ∧ s'.flag F.BOOT_INT_REVERTED = true ∧
      s'.rd F.BOOT_STATUS_RUN_IMG = 1 - s.rd F.BOOT_STATUS_RUN_IMG ∧ s'.rd F.BOOT_STATUS_CODE_SLOT = 1 - s.rd F.BOOT_STATUS_CODE_SLOT) := by
  obtain ⟨s', hexec, hkept, hfree, hdefs, hcfg⟩ := exec_firmwareReset (t := t) (fatal := fatal) (rplOk := rplOk) hphase
  have hboot := bootFirmwareReset_reset (s.tick t) rplOk
  generalize (s.tick t).bootFirmwareReset rplOk = v at hkept hboot
  have hmbx := mbxFirmwareReset_reset v
  generalize v.mbxFirmwareReset = w at hkept hmbx
  obtain ⟨r, b, hrest⟩ := hmbx.rest
  have hfw : ∀ f : Fld, 0x40210000 ≤ f.addr → f.addr < 0x40210100 → f.addr ≠ 0x40210004 → s'.rd f = v.rd f := fun f hlo hhi hne => by
    rw [hkept.rd (.inr ⟨hlo, hhi, hne⟩), State.rd, State.rd, hmbx.reg _ (.inr (by omega))]
  have hflag : ∀ f : Fld, 0x40210000 ≤ f.addr → f.addr < 0x40210100 → f.addr ≠ 0x40210004 → s'.flag f = v.flag f :=
      fun f hlo hhi hne => by
    rw [State.flag, State.flag, hfw f hlo hhi hne]
  refine ⟨s', hexec, ?_, fun ch hch hpost => ?_, fun n m hn hm h1 h4 => ?_, ?_, ?_, ?_, ?_, hdefs, hcfg, fun habort => ?_, fun htrial => ?_,
    fun htrial => ?_⟩
  · rw [hkept.flag (by unfold fwReg; decide), hmbx.stopped]
  · have hposted : v.bitAt F.H2D_DB_DB ch = true := by
      rw [← testBit_rd v (f := F.H2D_DB_DB) hch, hboot.rd _ (by decide) (by decide), testBit_rd _ (f := F.H2D_DB_DB) hch]
      exact hpost
    rw [bitAt_def, hkept.flag (by unfold fwReg; exact .inl (by decide : 0x40010000 ≤ 0x40010028 ∧ 0x40010028 < 0x40011000))]
    exact hmbx.stale ch hch hposted
  · refine hkept.freed (hfree n hn) ?_ h1 h4
    rw [hrest, ← hm]
    exact congrArg (fun x => Store.get (fun _ => none) x.sem n) hboot.mtx
  · rw [hkept.rd (by unfold fwReg; decide), hmbx.masked]
  · rw [hkept.boot, hrest, ← hboot.chunks]
  · rw [hkept.boot, hrest, ← hboot.record]
  · rw [hflag _ (by decide) (by decide) (by decide), hboot.staging]
  · have hcarried : ∀ k, v.carried k = s.carried k := fun k => by
      rw [State.carried, State.carried, hboot.rd _ (by decide) (by decide), State.tick_rd]
    rw [hkept.taken, hmbx.taken, State.oldCommands, hboot.taken habort, State.tick_mbx]
    simp only [hcarried]
  · rw [hfw _ (by decide) (by decide) (by decide), hboot.idle htrial, State.tick_rd]
  · rw [hflag _ (by decide) (by decide) (by decide), hflag _ (by decide) (by decide) (by decide), hfw _ (by decide) (by decide) (by decide),
      hfw _ (by decide) (by decide) (by decide)]
    exact hboot.trial htrial

end

end Sys2Proof.Machine
end

section
/-! Proofs: a firmware restart: the replies it owes and the stale notices and descriptors (R269, R274, R275). -/
namespace Sys2Proof.Machine

/-! ### Replies leave the run of firmware and its masks alone -/

/-- A field of MBX_STATUS, H2D_MASK or MBX_STALE, and not a mark of a full reply ring. -/
def calmFld (f : Fld) : Prop :=
  (f.addr = 0x40010004 ∨ f.addr = 0x40010014 ∨ f.addr = 0x40010028) ∧ (rplFull 0).apart f = true ∧ (rplFull 1).apart f = true

theorem calmFld.ne {f : Fld} (hf : calmFld f) {a : Nat} (h4 : a ≠ 0x40010004) (h14 : a ≠ 0x40010014) (h28 : a ≠ 0x40010028) : a ≠ f.addr := by
  obtain ⟨h, -, -⟩ := hf
  omega

theorem calmFld.full {f : Fld} (hf : calmFld f) {r : Nat} (hr : r < 2) : (rplFull r).apart f = true := by
  obtain ⟨-, h0, h1⟩ := hf
  match r, hr with
  | 0, _ => exact h0
  | 1, _ => exact h1

/-- Field `f` and the taken commands of `u` are those of `s`. -/
structure ReplyKept (f : Fld) (s u : State) : Prop where
  rd : u.rd f = s.rd f
  taken : u.mbx.taken = s.mbx.taken

namespace ReplyKept

variable {f : Fld} {s u w : State}

theorem refl (f : Fld) (s : State) : ReplyKept f s s := ⟨rfl, rfl⟩

theorem trans (h : ReplyKept f s u) (g : ReplyKept f u w) : ReplyKept f s w := ⟨g.rd.trans h.rd, g.taken.trans h.taken⟩

theorem ite {c : Prop} [Decidable c] (h : ReplyKept f s u) (g : ReplyKept f s w) : ReplyKept f s (if c then u else w) := by
  split <;> assumption

section
variable (h : ReplyKept f s u)
include h

theorem same (hregs : w.regs = u.regs) (htaken : w.mbx.taken = u.mbx.taken) : ReplyKept f s w :=
  h.trans ⟨by rw [State.rd, State.rd, State.reg, State.reg, hregs], htaken⟩

theorem mirror (g : OnlyMirror u w) (hf : calmFld f) : ReplyKept f s w := by
  obtain ⟨r, m, hw⟩ := g.rest
  refine h.trans ⟨?_, by rw [hw]⟩
  obtain ⟨haddr, -, -⟩ := hf
  rw [State.rd, State.rd, g.kept _ (by omega)]

theorem mapMbx {g : Mbx → Mbx} (hg : (g u.mbx).taken = u.mbx.taken) : ReplyKept f s (u.mapMbx g) := h.same rfl hg

theorem setRing {r : Nat} {x : Ring} : ReplyKept f s (u.setRing r x) := by
  rw [State.setRing]
  split <;> exact h.same rfl rfl

theorem notifyHost {ch : Nat} : ReplyKept f s (u.notifyHost ch) := by
  refine h.ite ?_
  rw [State.sendVector]
  split <;> exact h.same rfl rfl

variable (hf : calmFld f)
include hf

theorem wr {g : Fld} {v : Nat} (h4 : g.addr ≠ 0x40010004) (h14 : g.addr ≠ 0x40010014) (h28 : g.addr ≠ 0x40010028) : ReplyKept f s (u.wr g v) :=
  h.trans ⟨State.rd_wr_addr _ _ (hf.ne h4 h14 h28), rfl⟩

/-- A field of a register of another block. -/
theorem wrOther {g : Fld} {v : Nat} (hg : 0x40010054 ≤ g.addr) : ReplyKept f s (u.wr g v) :=
  h.wr hf (by omega) (by omega) (by omega)

theorem setFull {r : Nat} {b : Bool} (hr : r < 2) : ReplyKept f s (u.setFlag (rplFull r) b) :=
  h.trans ⟨State.rd_wr_apart _ _ (hf.full hr), rfl⟩

theorem busError {m addr cause : Nat} {write : Bool} (hm : 4 < m) : ReplyKept f s (u.busError m addr write cause) := by
  have hlog : ReplyKept f s (u.logError m addr write cause) := by
    refine ite (h.wrOther hf (by decide)) ?_
    exact (((((h.wrOther hf (by decide)).wrOther hf (by decide)).wrOther hf (by decide)).wrOther hf (by decide)).wrOther hf (by decide)).wrOther hf
      (by decide)
  rw [State.busError, State.tellMaster, if_neg (by omega), if_neg (by omega)]
  exact hlog

/-- A write of an engine changes no register of MBX, whether it succeeds or fails. -/
theorem devWrite {m : Nat} {a : W64} {bs : List W8} {ok : Bool} (hm : 4 < m) :
    (∀ v, u.devWrite m a bs ok = .ok v → ReplyKept f s v) ∧ (∀ v, u.devWrite m a bs ok = .error v → ReplyKept f s v) := by
  have herr : ReplyKept f s (u.engineError m a true) := h.busError hf hm
  rw [State.devWrite]
  split_ifs
  · exact ⟨fun v hv => by cases hv; exact h.same rfl rfl, fun v hv => by cases hv⟩
  · exact ⟨fun v hv => by (cases hv), fun v hv => by cases hv; exact herr⟩
  · exact ⟨fun v hv => by cases hv; exact h.same rfl rfl, fun v hv => by cases hv⟩
  · exact ⟨fun v hv => by (cases hv), fun v hv => by cases hv; exact h⟩

theorem postNotice {ch len tag : Nat} {a : W64} : ReplyKept f s (u.postNotice ch a len tag) := by
  have haddr : ∀ o, 0x40010054 ≤ 0x40010300 + o + ch * 0x10 := fun o => by omega
  unfold State.postNotice
  extract_lets lo hi named tagged posted mbx noted
  have hlo : ReplyKept f s lo := h.wrOther hf (haddr 0)
  have hhi : ReplyKept f s hi := hlo.wrOther hf (haddr 4)
  have hnamed : ReplyKept f s named := hhi.wrOther hf (haddr 8)
  have htagged : ReplyKept f s tagged := hnamed.wrOther hf (haddr 12)
  clear_value tagged
  have hposted : ReplyKept f s posted := htagged.wr (g := { addr := 0x40010018, lo := F.D2H_DB_DB.lo + ch, w := 1 }) hf (by decide : 0x40010018 ≠ _)
    (by decide : 0x40010018 ≠ _) (by decide : 0x40010018 ≠ _)
  clear_value posted
  have hnoted : ReplyKept f s noted := hposted.same rfl rfl
  clear_value noted
  exact htagged.ite hnoted.notifyHost

theorem discard : ReplyKept f s (u.inc F.MBX_RPL_DISCARD_COUNT 1) := h.wr hf (by decide) (by decide) (by decide)

/-- A cause of MBX_ERR. -/
theorem raiseErr {lo : Nat} : ReplyKept f s (u.raise { addr := 0x4001002C, lo := lo, w := 1 }) :=
  h.wr hf (by decide : 0x4001002C ≠ _) (by decide : 0x4001002C ≠ _) (by decide : 0x4001002C ≠ _)

theorem sendReply {k : Taken} {st : Status} {final ok : Bool} {ws : List W32} : ReplyKept f s (u.sendReply k st final ws ok) := by
  unfold State.sendReply
  split
  · exact h.same rfl rfl
  · extract_lets r pi slot w
    obtain ⟨hok, herr⟩ := h.devWrite (a := slot pi) (bs := wordsBytes w) (ok := ok) hf (by decide : 4 < 5)
    refine (h.discard hf).ite ?_
    split
    next v hv => exact ((herr v hv).discard hf).raiseErr hf
    next v hv => exact ((hok v hv).wrOther (g := F.RPL_PI_PI r) hf (show _ ≤ 0x40010058 + r * 0x20 by omega)).postNotice hf

theorem unstall {r : Nat} (hr : r < 2) : ReplyKept f s (u.unstall r) := (h.setFull hf hr).ite h

/-! ### Stale notices and descriptors (R274) -/

theorem clearHost {ch : Nat} : ReplyKept f s (u.clearHost ch) := by
  have hdb : ReplyKept f s (u.setBitAt F.H2D_DB_DB ch false) :=
    h.wr (g := { addr := 0x40010010, lo := F.H2D_DB_DB.lo + ch, w := 1 }) hf (by decide : 0x40010010 ≠ _) (by decide : 0x40010010 ≠ _)
      (by decide : 0x40010010 ≠ _)
  exact hdb.mapMbx rfl

theorem takeRingNotice {r : Nat} : ReplyKept f s (u.takeRingNotice r) := by
  have hseen : ∀ x : Ring, ReplyKept f s ((u.clearHost r).setRing r x) := fun _ => (h.clearHost hf).setRing
  exact (hseen _).setRing.ite ((hseen _).raiseErr hf)

/-- A read of an engine changes no register of MBX, whether it succeeds or fails. -/
theorem devRead {m n : Nat} {a : W64} {host : Option (List W8)} (hm : 4 < m) :
    (∀ v, u.devRead m a n host = .ok v → ReplyKept f s v.1) ∧ (∀ v, u.devRead m a n host = .error v → ReplyKept f s v) := by
  have hcorrected : ∀ n, ReplyKept f s (u.corrected n) := fun n =>
    h.ite ((h.wrOther (g := F.SCR_CE_CNT_COUNT) hf (by decide)).wrOther (g := F.MTX_INT_SCR_CE) hf (by decide))
  refine ⟨fun v hv => ?_, fun v hv => ?_⟩
  · simp only [State.devRead] at hv
    split_ifs at hv
    · cases hv
      exact hcorrected _
    · split at hv
      · cases hv
      · split_ifs at hv
        cases hv
        exact h
  · simp only [State.devRead] at hv
    split_ifs at hv
    · cases hv
      exact h.busError hf hm
    · cases hv
      exact h.busError hf hm
    · split at hv
      · cases hv
        exact h
      · split_ifs at hv
        cases hv
        exact h

theorem fetchDesc {r : Nat} {d : Option (List W32)} :
    (∀ v, u.fetchDesc r d = .ok v → ReplyKept f s v.1) ∧ (∀ v, u.fetchDesc r d = .error v → ReplyKept f s v) := by
  unfold State.fetchDesc
  extract_lets a
  obtain ⟨hok, herr⟩ := h.devRead (a := a) (n := 64) (host := d.map fun ws => ws.flatMap fun w => leBytes w.toNat 4) hf (by decide : 4 < 5)
  generalize u.devRead 5 a 64 (d.map fun ws => ws.flatMap fun w => leBytes w.toNat 4) = x at hok herr
  cases x with
  | error x => exact ⟨fun v hv => by (cases hv), fun v hv => by cases hv; exact herr x rfl⟩
  | ok x => exact ⟨fun v hv => by cases hv; exact hok x rfl, fun v hv => by cases hv⟩

end
end ReplyKept

section
variable {f : Fld} (hf : calmFld f)
include hf

theorem intake_rd {s : State} {src : Src} {d : List W32} {ok : Bool} : (s.intake src d ok).rd f = s.rd f := by
  have hsend : ∀ k, (s.sendReply k .badOpcode true [] ok).rd f = s.rd f := fun _ => ((ReplyKept.refl f s).sendReply hf).rd
  rw [State.intake]
  split
  · exact hsend _
  · split
    · exact hsend _
    · rfl

theorem takeDesc_rd {s : State} {r : Nat} {src : Src} {d : List W32} {ok : Bool} (hr : r < 2) : (s.takeDesc r src d ok).rd f = s.rd f := by
  have hring : ∀ (u : State) (x : Ring), (u.setRing r x).rd f = u.rd f := fun u _ => (ReplyKept.refl f u).setRing.rd
  unfold State.takeDesc
  extract_lets stale counted answered
  split
  · have hcounted : counted.rd f = s.rd f :=
      (((ReplyKept.refl f s).wrOther (g := F.CMD_IDX_CMD_CI r) hf (show _ ≤ 0x40010054 + r * 0x20 by omega)).mirror (count_onlyMirror ..) hf).rd
    clear_value counted
    have hanswered : answered.rd f = s.rd f := by
      rw [← hcounted]
      show (if stale then _ else _ : State).rd f = _
      split
      · exact ((ReplyKept.refl f counted).sendReply hf).rd
      · exact intake_rd hf
    split
    · exact hanswered
    · exact (hring _ _).trans hanswered
  · exact (hring _ _).trans ((ReplyKept.refl f s).setFull (b := true) hf hr).rd

theorem takeFromRing_rd {s : State} {r : Nat} {src : Src} {d : Option (List W32)} {ok : Bool} (hr : r < 2) :
    (s.takeFromRing r src d ok).rd f = s.rd f := by
  obtain ⟨hok, herr⟩ := (ReplyKept.refl f s).fetchDesc (r := r) (d := d) hf
  rw [State.takeFromRing]
  split
  next v hv => exact ((herr v hv).raiseErr hf).setRing.rd
  next v d' hv => exact (takeDesc_rd hf hr).trans (hok _ hv).rd

theorem discardStale_rd {s : State} {r : Nat} {ds : List (Option (List W32))} {ok : Bool} (hr : r < 2) :
    (State.discardStale r ok ds s).rd f = s.rd f := by
  induction ds generalizing s with
  | nil => rfl
  | cons d ds ih =>
    rw [State.discardStale]
    generalize (if r = 0 then Src.ring0 else Src.ring1) = src
    split
    · exact ih.trans (takeFromRing_rd hf hr)
    · rfl

section
variable (hne : 0x40010028 ≠ f.addr)
include hne

theorem dropStale_rd {s : State} {ch : Nat} : (s.dropStale ch).rd f = s.rd f := by
  have hclear : (s.clearHost ch).rd f = s.rd f := ((ReplyKept.refl f s).clearHost hf).rd
  rw [State.dropStale]
  split
  · rw [State.inc, State.rd_wr_addr _ _ (hf.ne (by decide) (by decide) (by decide)), State.setBitAt, State.rd_wr_addr _ _ hne, hclear]
  · rfl

theorem restartRing_rd {s : State} {r : Nat} {ds : List (Option (List W32))} {ok : Bool} (hr : r < 2) :
    (s.restartRing r ds ok).rd f = s.rd f := by
  unfold State.restartRing
  extract_lets posted en taken cleared
  have htaken : taken.rd f = s.rd f := (((ReplyKept.refl f s).takeRingNotice hf).ite (.refl f s)).rd
  clear_value taken
  have hcleared : cleared.rd f = s.rd f := by
    rw [← htaken]
    show (if posted && !en then taken else taken.setBitAt F.MBX_STALE_STALE r false : State).rd f = _
    split
    · rfl
    · exact State.rd_wr_addr _ _ hne
  split
  · exact (discardStale_rd hf hr).trans hcleared
  · rfl

end
end

/-- Where no notice is stale, nothing is dropped. -/
theorem dropStale_of_fresh {s : State} {ch : Nat} (h : s.bitAt F.MBX_STALE_STALE ch = false) : s.dropStale ch = s := by
  rw [State.dropStale, h]
  rfl

theorem restartRing_of_fresh {s : State} {r : Nat} {ds : List (Option (List W32))} {ok : Bool} (h : s.bitAt F.MBX_STALE_STALE r = false) :
    s.restartRing r ds ok = s := if_neg (Bool.eq_false_iff.1 h)

theorem dropStales_of_fresh {s : State} {l : List Nat} (h : ∀ ch ∈ l, s.bitAt F.MBX_STALE_STALE ch = false) : l.foldl State.dropStale s = s := by
  induction l with
  | nil => rfl
  | cons ch l ih =>
    rw [List.foldl_cons, dropStale_of_fresh (h ch (List.mem_cons_self ..))]
    exact ih fun c hc => h c (List.mem_cons_of_mem _ hc)

/-! ### The replies that a restarted firmware owes (R275) -/

/-- A final reply takes its command off the list. -/
theorem finish_answers {f : Fld} (hf : calmFld f) (s : State) (i : Nat) (k : Taken) (st : Status) (ws : List W32) (ok : Bool) :
    (s.finish i k st ws ok).rd f = s.rd f ∧ (s.finish i k st ws ok).mbx.taken = s.mbx.taken.eraseIdx i := by
  have hsent : ReplyKept f s (s.sendReply k st true ws ok) := (ReplyKept.refl f s).sendReply hf
  have hbase : ∀ u, ReplyKept f ((s.sendReply k st true ws ok).retake i none) u → u.rd f = s.rd f ∧ u.mbx.taken = s.mbx.taken.eraseIdx i :=
    fun u hu => ⟨hu.rd.trans hsent.rd, hu.taken.trans (congrArg (fun l => l.eraseIdx i) hsent.taken)⟩
  unfold State.finish
  cases hsrc : k.src
  · exact hbase _ ((ReplyKept.refl f _).unstall hf (by decide))
  · exact hbase _ ((ReplyKept.refl f _).unstall hf (by decide))
  · exact hbase _ (.refl f _)

/-- A taken command to which the restarted firmware owes a reply. -/
def owed (k : Taken) : Bool := k.lost || k.done.isSome

theorem oweReplies_none {ok : Bool} {fuel : Nat} {s : State} (h : s.mbx.taken.findIdx? owed = none) : s.oweReplies ok fuel = s := by
  cases fuel with
  | zero => rfl
  | succ fuel =>
    have h' : s.mbx.taken.findIdx? (fun k => k.lost || k.done.isSome) = none := h
    rw [State.oweReplies, h']

theorem oweReplies_some {ok : Bool} {fuel i : Nat} {s : State} (h : s.mbx.taken.findIdx? owed = some i) :
    ∃ k st ws, State.oweReplies ok (fuel + 1) s = State.oweReplies ok fuel (s.finish i k st ws ok) := by
  have h' : s.mbx.taken.findIdx? (fun k => k.lost || k.done.isSome) = some i := h
  obtain ⟨hi, -⟩ := List.findIdx?_eq_some_iff_getElem.1 h
  rw [State.oweReplies, h']
  simp only [List.getElem?_eq_getElem hi]
  cases s.mbx.taken[i].done with
  | none => exact ⟨_, _, _, rfl⟩
  | some x => exact ⟨_, _, _, rfl⟩

theorem oweReplies_rd {f : Fld} (hf : calmFld f) {ok : Bool} {fuel : Nat} {s : State} : (s.oweReplies ok fuel).rd f = s.rd f := by
  induction fuel generalizing s with
  | zero => rfl
  | succ fuel ih =>
    cases h : s.mbx.taken.findIdx? owed with
    | none => rw [oweReplies_none h]
    | some i =>
      obtain ⟨k, st, ws, hnext⟩ := oweReplies_some (ok := ok) (fuel := fuel) h
      rw [hnext, ih, (finish_answers hf ..).1]

/-- With as many replies as commands none is owed any more. -/
theorem oweReplies_pays {ok : Bool} {fuel : Nat} {s : State} (hfuel : s.mbx.taken.length ≤ fuel) :
    (s.oweReplies ok fuel).mbx.taken.all (fun k => !owed k) = true := by
  induction fuel generalizing s with
  | zero =>
    rw [State.oweReplies, List.length_eq_zero_iff.1 (Nat.le_zero.1 hfuel)]
    rfl
  | succ fuel ih =>
    cases h : s.mbx.taken.findIdx? owed with
    | none =>
      rw [oweReplies_none h, List.all_eq_true]
      exact fun k hk => by rw [List.findIdx?_eq_none_iff.1 h k hk]; rfl
    | some i =>
      obtain ⟨k, st, ws, hnext⟩ := oweReplies_some (ok := ok) (fuel := fuel) h
      obtain ⟨hi, -⟩ := List.findIdx?_eq_some_iff_getElem.1 h
      have hcalm : calmFld F.H2D_MASK_MASK := ⟨.inr (.inl rfl), by decide, by decide⟩
      rw [hnext]
      refine ih ?_
      rw [(finish_answers hcalm ..).2, List.length_eraseIdx_of_lt hi]
      omega

/-! ### FIRMWARE_RESTART -/

/-- Firmware runs again: it counts its start, and the host's notices are unmasked. -/
def State.runAgain (s : State) : State := ((s.setFwRun true).bump F.MBX_STATUS_FW_STARTS 1).wr F.H2D_MASK_MASK s.runMask

theorem runAgain_fields (s : State) : s.runAgain.rd F.MBX_STATUS_FW_RUN = 1 ∧
    s.runAgain.rd F.MBX_STATUS_FW_STARTS = (s.rd F.MBX_STATUS_FW_STARTS + 1) % 256 ∧ s.runAgain.rd F.H2D_MASK_MASK = s.runMask := by
  rw [State.runAgain, State.bump]
  refine ⟨?_, ?_, ?_⟩
  · rw [State.rd_wr_apart _ _ (by decide), State.rd_wr_apart _ _ (by decide)]
    exact beq_iff_eq.1 (setFwRun_flag s true)
  · rw [State.rd_wr_apart _ _ (by decide), State.rd_wr_same _ _ _ (by decide), setFwRun_rd (by decide) (by decide)]
    rfl
  · rw [State.rd_wr_same _ _ _ (by decide), State.runMask]
    split <;> rfl

theorem runAgain_stale (s : State) (ch : Nat) : s.runAgain.bitAt F.MBX_STALE_STALE ch = s.bitAt F.MBX_STALE_STALE ch := by
  have hreg : (s.setFwRun true).reg 0x40010028 = s.reg 0x40010028 := by
    rw [State.setFwRun]
    split
    · rfl
    · rw [State.raise, reg_wr, if_neg (by decide), State.setFlag, reg_wr, if_neg (by decide)]
  rw [bitAt_eq, bitAt_eq, State.runAgain, State.bump, reg_wr, if_neg (by decide), reg_wr, if_neg (by decide)]
  exact congrArg (fun x => bitOf x.toNat (0 + ch)) hreg

/-- A bit of MBX_STALE. -/
theorem calmFld_stale (ch : Nat) : calmFld { addr := 0x40010028, lo := 0 + ch, w := 1 } :=
  ⟨.inr (.inr rfl), by rw [Fld.apart, rplFull]; rfl, by rw [Fld.apart, rplFull]; rfl⟩

/-- The restarted firmware with the replies it owes sent. -/
def State.payReplies (s : State) (ok : Bool) : State := s.oweReplies ok s.mbx.taken.length

section
variable {t : Nat} {d0 d1 : List (Option (List W32))} {rplOk : Bool} {s : State} (hphase : s.rd F.BOOT_STATUS_PHASE = 2)
  (hrun : s.flag F.MBX_STATUS_FW_RUN = false)
include hphase hrun

theorem exec_firmwareRestart : exec (.firmwareRestart t d0 d1 rplOk) s = .next
    ((((List.range 32).foldl State.dropStale ((s.tick t).runAgain.payReplies rplOk)).restartRing 0 d0 rplOk).restartRing 1 d1 rplOk) := by
  refine if_neg ?_
  rw [flag_tick, State.tick_rd, hrun, hphase]
  decide

theorem firmwareRestart_runs : ∃ s', exec (.firmwareRestart t d0 d1 rplOk) s = .next s' ∧ s'.flag F.MBX_STATUS_FW_RUN = true ∧
    s'.rd F.MBX_STATUS_FW_STARTS = (s.rd F.MBX_STATUS_FW_STARTS + 1) % 256 ∧ s'.rd F.H2D_MASK_MASK = s.runMask ∧
    ((∀ ch, ch < 32 → s.bitAt F.MBX_STALE_STALE ch = false) → s'.mbx.taken.all (fun k => !k.lost && k.done.isNone) = true) := by
  obtain ⟨hfw, hstarts, hmask⟩ := runAgain_fields (s.tick t)
  have hkept : ∀ f : Fld, calmFld f → 0x40010028 ≠ f.addr →
      ((((List.range 32).foldl State.dropStale ((s.tick t).runAgain.payReplies rplOk)).restartRing 0 d0 rplOk).restartRing 1 d1 rplOk).rd f =
        (s.tick t).runAgain.rd f := fun f hf hne => by
    rw [restartRing_rd hf hne (by decide), restartRing_rd hf hne (by decide),
      foldl_keeps (g := fun u => u.rd f) (fun _ _ => dropStale_rd hf hne), State.payReplies, oweReplies_rd hf]
  have hmbxStatus : ∀ f : Fld, f.addr = 0x40010004 → (rplFull 0).apart f = true → (rplFull 1).apart f = true → calmFld f := fun f h h0 h1 =>
    ⟨.inl h, h0, h1⟩
  refine ⟨_, exec_firmwareRestart hphase hrun, ?_, ?_, ?_, fun hfresh => ?_⟩
  · rw [State.flag, hkept _ (hmbxStatus _ rfl (by decide) (by decide)) (by decide), hfw]
    rfl
  · rw [hkept _ (hmbxStatus _ rfl (by decide) (by decide)) (by decide), hstarts, State.tick_rd]
  · rw [hkept _ ⟨.inr (.inl rfl), by decide, by decide⟩ (by decide), hmask]
    rfl
  · have hclear : ∀ ch, ch < 32 → ((s.tick t).runAgain.payReplies rplOk).bitAt F.MBX_STALE_STALE ch = false := fun ch hch => by
      rw [bitAt_def, State.flag, State.payReplies, oweReplies_rd (calmFld_stale ch)]
      exact (runAgain_stale (s.tick t) ch).trans (hfresh ch hch)
    rw [dropStales_of_fresh fun ch hch => hclear ch (List.mem_range.1 hch), restartRing_of_fresh (hclear 0 (by decide)),
      restartRing_of_fresh (hclear 1 (by decide))]
    have hpaid := oweReplies_pays (ok := rplOk) (s := (s.tick t).runAgain) le_rfl
    rw [List.all_eq_true] at hpaid ⊢
    intro k hk
    have howed := hpaid k hk
    rw [owed] at howed
    simpa using howed

end

/-- Settles O20: each of the four commands by what it answers or starts, then the firmware's reset and restart. -/
theorem infoConfirmAbortSnapshotRestart : Obligations.InfoConfirmAbortSnapshotRestart := by
  refine ⟨fun x i k s => ⟨getInfo_answers, fwConfirm_ends, fun hs h2 hsrc hidle => ⟨fwAbort_startsBack hs h2 hsrc hidle,
    fwAbort_closesStaging hs h2 hsrc hidle, fwAbort_findsNothing hs h2 hsrc hidle⟩, mapSnapshot_starts⟩,
    fun t fatal rplOk d0 d1 s => ⟨firmwareReset_stops, fun hwindow => ?_, firmwareRestart_runs⟩⟩
  exact if_pos (show (s.tick t).rd F.BOOT_STATUS_PHASE = 3 from hwindow)

end Sys2Proof.Machine
end

section
/-! Proofs: what reset leaves (O2; R100, R207, R221, R223, R298). -/
namespace Sys2Proof.Machine

/-- The reset word of BANK_MAP: logical bank `64 j + i` stands on bank `i` of the 66 physical banks of group `j` (R100). -/
theorem reset_bankMap {j i : Nat} (hj : j < 32) (hi : i < 64) : State.reset.rd (F.BANK_MAP_PHYS (64 * j + i)) = j * 66 + i := by
  have hrow : RegTable.reset (0x40081000 + (64 * j + i) * 4) = BitVec.ofNat 32 (j * 66 + i) := by
    have hbank : (64 * j + i) / 64 * 66 + (64 * j + i) % 64 = j * 66 + i := by omega
    rw [RegTable.reset, if_pos (by omega), Nat.add_sub_cancel_left, Nat.mul_div_cancel _ (by decide)]
    exact congrArg (BitVec.ofNat 32) hbank
  have hword : (BitVec.ofNat 32 (j * 66 + i)).toNat = j * 66 + i := by
    rw [BitVec.toNat_ofNat]
    omega
  calc State.reset.rd (F.BANK_MAP_PHYS (64 * j + i)) = bits (BitVec.ofNat 32 (j * 66 + i)).toNat 0 12 :=
        congrArg (fun w : W32 => bits w.toNat 0 12) hrow
    _ = j * 66 + i := by rw [hword, bits]; omega

/-- Every bank of the scratchpad belongs to M8 (R298). -/
theorem reset_owner : ∀ b, b < 16 → State.reset.owner b = 8 := by decide

/-- Settles O2: the fields by their reset words, the stores because they list nothing. -/
theorem resetState : Obligations.ResetState :=
  ⟨by decide, by decide, by decide, by decide, reset_owner, fun _ _ => reset_bankMap, rfl, rfl, rfl,
    ⟨rfl, rfl, rfl, rfl, rfl, rfl, rfl, rfl⟩⟩

end Sys2Proof.Machine
end

section
/-! Proofs: grains from engine to deadline (O39; R84 to R91, R96, R105, R109, R111). -/
namespace Sys2Proof.Machine

/-! ### Counting events changes registers alone (R326 to R328) -/

theorem tallyAdd_onlyRegs (s : State) (i n : Nat) : OnlyRegs s (s.tallyAdd i n) :=
  OnlyRegs.ite (OnlyRegs.refl s).wr (OnlyRegs.refl s).wr.wr.wr.wr

theorem OnlyRegs.trans {s u w : State} (h : OnlyRegs s u) (g : OnlyRegs u w) : OnlyRegs s w := by
  obtain ⟨r, rfl⟩ := h
  obtain ⟨r', rfl⟩ := g
  exact ⟨r', rfl⟩

theorem OnlyRegs.count {s u : State} (h : OnlyRegs s u) (code arg n : Nat) : OnlyRegs s (u.count code arg n) :=
  h.ite (OnlyRegs.foldl (fun w i hw => OnlyRegs.ite (hw.trans (tallyAdd_onlyRegs w i n)) hw) _ h)

theorem OnlyRegs.eng {s u : State} (h : OnlyRegs s u) : u.eng = s.eng := by
  obtain ⟨r, rfl⟩ := h
  rfl

/-! ### The start of a grain (R87 to R90) -/

/-- The head that an engine finds may start (R87). -/
theorem findWork_mayStart {s : State} {ks : List Nat} {k : Nat} {g : Grain} {rest : List Seg} (h : s.findWork ks = some (k, g, rest)) :
    s.mayStart g = true := by
  induction ks with
  | nil => cases h
  | cons q qs ih =>
    rw [State.findWork] at h
    split at h
    · split at h
      · next hstart =>
        cases h
        exact hstart
      · exact ih h
    · exact ih h

section
variable {t : Nat} {e : Fin 256} {lost : List (Fin 256)} {s : State} (hactive : e.val < s.rd F.CORE_STATUS_ENG_ACTIVE)
  (hidle : Store.get (fun _ => none) s.eng.work e.val = none)
include hactive hidle

theorem grainStart_takes {q : Nat} {g : Grain} {rest : List Seg}
    (hfound : (s.tick t).findWork (((s.tick t).lookAt e.val).filter fun k => !(s.tick t).lostClaim lost k) = some (q, g, rest)) :
    s.mayStart g = true ∧ ∃ s', exec (.grainStart t ⟨e, lost⟩) s = .next s' ∧
      s'.eng = { s.eng with
        queues := Store.put (fun _ => []) s.eng.queues q rest
        work := Store.put (fun _ => none) s.eng.work e.val (some g)
        claims := Store.put (fun _ => none) s.eng.claims q (some (max s.now t)) } ∧
      s' = { s with now := max s.now t, regs := s'.regs, eng := s'.eng } := by
  have hstart : (s.tick t).mayStart g = true := findWork_mayStart hfound
  refine ⟨hstart, ?_⟩
  obtain ⟨r, hcount⟩ := ((OnlyRegs.refl (s.tick t)).count 0x02 0 (b2n (q != e.val))).count 0x03 0
    ((s.tick t).lostHeads lost ((s.tick t).lookAt e.val) (some q))
  refine next_of (u := { s with now := max s.now t, regs := r, eng := { s.eng with
      queues := Store.put (fun _ => []) s.eng.queues q rest
      work := Store.put (fun _ => none) s.eng.work e.val (some g)
      claims := Store.put (fun _ => none) s.eng.claims q (some (max s.now t)) } }) ?_ ⟨rfl, rfl⟩
  show execGrainStart t ⟨e, lost⟩ s = _
  rw [execGrainStart]
  simp only [hfound]
  rw [if_pos ⟨hactive, hidle⟩, hcount]
  rfl

theorem grainStart_waits
    (hfound : (s.tick t).findWork (((s.tick t).lookAt e.val).filter fun k => !(s.tick t).lostClaim lost k) = none) :
    ∃ s', exec (.grainStart t ⟨e, lost⟩) s = .next s' ∧ s' = { s with now := max s.now t, regs := s'.regs } := by
  have hcount := (OnlyRegs.refl (s.tick t)).count 0x03 0 ((s.tick t).lostHeads lost ((s.tick t).lookAt e.val) none)
  refine next_of ?_ hcount.eq
  show execGrainStart t ⟨e, lost⟩ s = _
  rw [execGrainStart]
  simp only [hfound]
  exact if_pos ⟨hactive, hidle⟩

end

/-! ### A grain that is complete (R56, R86, R98, R103, R105) -/

/-- What reading and counting leave of the core, of what was sent, and of the grains that are built, staged and settled. -/
structure GrainKept (s u : State) : Prop where
  core : u.core = s.core
  out : u.out = s.out
  staged : u.eng.staged = s.eng.staged
  work : u.eng.work = s.eng.work
  candles : u.eng.candles = s.eng.candles

theorem OnlyRegs.grainKept {s u : State} (h : OnlyRegs s u) : GrainKept s u := by
  obtain ⟨r, rfl⟩ := h
  exact ⟨rfl, rfl, rfl, rfl, rfl⟩

namespace GrainKept

theorem refl (s : State) : GrainKept s s := ⟨rfl, rfl, rfl, rfl, rfl⟩

theorem trans {s u w : State} (h : GrainKept s u) (g : GrainKept u w) : GrainKept s w :=
  ⟨g.core.trans h.core, g.out.trans h.out, g.staged.trans h.staged, g.work.trans h.work, g.candles.trans h.candles⟩

theorem ite {c : Prop} [Decidable c] {s u w : State} (h : GrainKept s u) (g : GrainKept s w) : GrainKept s (if c then u else w) := by
  split <;> assumption

theorem foldl {α : Type} {f : State → α → State} (hf : ∀ s x, GrainKept s (f s x)) (l : List α) (s : State) : GrainKept s (l.foldl f s) := by
  induction l generalizing s with
  | nil => exact refl s
  | cons x l ih => exact (hf s x).trans (ih _)

theorem setPage (s : State) (n : Nat) (p : List (Nat × W64)) : GrainKept s (s.setPage n p) := ⟨rfl, rfl, rfl, rfl, rfl⟩

/-- Damaged entries (R81). -/
theorem readEntry (m : Sample) (s : State) (o : Nat) : GrainKept s (s.readEntry m o) := by
  rw [State.readEntry]
  split
  · exact refl s
  · exact (setPage ..).trans (OnlyRegs.refl _).wr.wr.grainKept
  · exact ite ((OnlyRegs.refl s).wr.wr.wr.wr.wr.wr.grainKept.trans (setPage ..)) (OnlyRegs.refl s).wr.wr.wr.wr.wr.wr.grainKept

/-- Damaged words of the data store (R98). -/
theorem dsCe (f : Nat) (s : State) (x : Nat × Nat) : GrainKept s (State.dsCe f s x) := (OnlyRegs.refl s).wr.wr.wr.grainKept

theorem ueBank (s : State) (x : Nat) : GrainKept s (s.mapEng fun e => { e with ueBanks := Store.put (fun _ => false) e.ueBanks x true }) :=
  ⟨rfl, rfl, rfl, rfl, rfl⟩

theorem dsUe (f : Nat) (s : State) (x : Nat × Nat) : GrainKept s (State.dsUe f s x) := by
  have hregs : ∀ p, OnlyRegs s ((((((s.inc F.DS_UE_CNT_COUNT 1).wr F.DS_UE_ADDR_PHYS p).wr F.DS_UE_ADDR_WORD x.2).wr F.DS_UE_ADDR_PAGE
    ((f + 1) % 2)).raise F.DS_UE_ADDR_VALID).raise F.CORE_INT_DS_UE) := fun _ => (OnlyRegs.refl s).wr.wr.wr.wr.wr.wr
  exact (hregs (s.readBank x.1 f)).grainKept.trans (ueBank _ _)

/-- A bank that is moved out (R103). -/
theorem moveOut (s : State) (x : Nat) : GrainKept s (s.moveOut x) := by
  refine ite ?_ (refl s)
  rw [State.startMove]
  split
  · exact (OnlyRegs.refl s).wr.grainKept
  · exact ⟨rfl, rfl, rfl, rfl, rfl⟩

/-- The jump to VMAX and to 256 engines (R106). -/
theorem boost (s : State) : GrainKept s s.boost := ⟨rfl, rfl, rfl, rfl, rfl⟩

end GrainKept

/-- The slack of a grain that completes now (R105). -/
def State.slackOf (s : State) (g : Grain) : Nat := deadline (grainPos g.g) - (s.now - (s.sampleOf g.frame).t)

/-! Time alone is no part of samples and of the data store. -/

@[simp] theorem sampleOf_tick (s : State) (t f : Nat) : (s.tick t).sampleOf f = s.sampleOf f := rfl
@[simp] theorem buildGrain_tick (s : State) (t : Nat) (m : Sample) (ue : List (Nat × Nat)) (g : Nat) :
    (s.tick t).buildGrain m ue g = s.buildGrain m ue g := rfl

theorem slackOf_tick (s : State) (t : Nat) (g : Grain) :
    (s.tick t).slackOf g = deadline (grainPos g.g) - (max s.now t - (s.sampleOf g.frame).t) := rfl

/-- The entries that are upset before a grain reads them; an empty grain reads none (R81, R311). -/
def Sample.upsets (m : Sample) (g : Nat) (up : List (Nat × W64)) : List (Nat × W64) := if m.emptyGrain g then [] else up

/-- The sample as the grain reads it. -/
def Sample.upset (m : Sample) (g : Nat) (up : List (Nat × W64)) : Sample := { m with page := upsetPage m.page (m.upsets g up) }

/-- Reading the entries and the words of a grain (R81, R98), and moving out the banks that R103 moves out. -/
def State.readGrain (s : State) (m : Sample) (g : Grain) (ce ue : List (Nat × Nat)) (up : List (Nat × W64)) : State :=
  let s := s.setPage m.pageNo (upsetPage (s.page m.pageNo) up)
  let s := (List.range 512).foldl (fun s i => s.readEntry m (grainSlot g.g i)) s
  let s := (m.wordsUsed g.g ue).foldl (State.dsUe g.frame) ((m.wordsUsed g.g ce).foldl (State.dsCe g.frame) s)
  ((m.wordsUsed g.g ue ++ m.wordsUsed g.g ce).map fun x => s.readBank x.1 g.frame).dedup.foldl State.moveOut s

theorem readGrain_grainKept (s : State) (m : Sample) (g : Grain) (ce ue : List (Nat × Nat)) (up : List (Nat × W64)) :
    GrainKept s (s.readGrain m g ce ue up) :=
  ((((GrainKept.setPage ..).trans (.foldl (fun s _ => .readEntry m s _) ..)).trans (.foldl (.dsCe g.frame) ..)).trans
    (.foldl (.dsUe g.frame) ..)).trans (.foldl .moveOut ..)

/-- The built grain of engine `e` enters the staging buffer and its frame's candle record, and the engine is free. -/
def State.stageGrain (s : State) (e : Nat) (b : Built) (slack : Nat) : State :=
  s.mapEng fun x => { x with
    work := Store.put (fun _ => none) x.work e none, staged := b :: x.staged, candles := settleCandle x.candles b.grain slack false }

theorem stageGrain_work (s : State) (e : Nat) (b : Built) (slack : Nat) :
    (s.stageGrain e b slack).eng.work = Store.put (fun _ => none) s.eng.work e none := rfl

/-- The events of a grain are counted (R326), and a slack below the floor boosts (R106). -/
def State.countGrain (s : State) (empty : Bool) (slack : Nat) : State :=
  let s := ((s.count 0x01 0 1).count 0x10 0 (if empty then 0 else 512)).count 0x11 0 (b2n empty)
  if slack < s.rd F.CANDLE_CFG_SLACK_FLOOR then (s.raise F.CORE_INT_SLACK_LOW).boost else s

theorem countGrain_grainKept (s : State) (empty : Bool) (slack : Nat) : GrainKept s (s.countGrain empty slack) := by
  have hcount := (((OnlyRegs.refl s).count 0x01 0 1).count 0x10 0 (if empty then 0 else 512)).count 0x11 0 (b2n empty)
  exact .ite (hcount.wr.grainKept.trans (.boost _)) hcount.grainKept

section
variable {t : Nat} {e : Fin 256} {ce ue : List (Nat × Nat)} {up : List (Nat × W64)} {g : Grain} {s : State}
  (hwork : Store.get (fun _ => none) s.eng.work e.val = some g)
include hwork

theorem exec_grainComplete (hopen : s.settled g = false) (hdue : max s.now t - (s.sampleOf g.frame).t ≤ deadline (grainPos g.g)) :
    exec (.grainComplete t e ce ue up) s = .next
      ((((s.tick t).readGrain (((s.tick t).sampleOf g.frame).upset g.g up) g ce ue (((s.tick t).sampleOf g.frame).upsets g.g up)).stageGrain e.val
        { grain := g, bytes := (s.tick t).buildGrain (((s.tick t).sampleOf g.frame).upset g.g up) ue g.g } ((s.tick t).slackOf g)).countGrain
          (((s.tick t).sampleOf g.frame).emptyGrain g.g) ((s.tick t).slackOf g)) := by
  have hlate : ¬(deadline (grainPos g.g) < max s.now t - (s.sampleOf g.frame).t ∨ s.settled g = true) := by
    rintro (h | h)
    · omega
    · exact absurd (hopen.symm.trans h) (by decide)
  show execGrainComplete t e ce ue up s = _
  unfold execGrainComplete
  extract_lets z
  have hz : Store.get (fun _ => none) z.eng.work e.val = some g := hwork
  rw [hz]
  refine (if_neg hlate).trans ?_
  exact (apply_ite Host.Outcome.next ..).symm

theorem grainComplete_settles (hopen : s.settled g = false) (hdue : max s.now t - (s.sampleOf g.frame).t ≤ deadline (grainPos g.g)) :
    ∃ s', exec (.grainComplete t e ce ue up) s = .next s' ∧
      s'.eng.staged = { grain := g, bytes := s.buildGrain ((s.sampleOf g.frame).upset g.g up) ue g.g } :: s.eng.staged ∧
      Store.get (fun _ => none) s'.eng.work e.val = none ∧ s'.core = s.core ∧ s'.out = s.out ∧
      s'.eng.candles = settleCandle s.eng.candles g (deadline (grainPos g.g) - (max s.now t - (s.sampleOf g.frame).t)) false := by
  refine next_of (exec_grainComplete hwork hopen hdue) ?_
  simp only [sampleOf_tick, buildGrain_tick, slackOf_tick]
  generalize (s.sampleOf g.frame).upset g.g up = m, deadline (grainPos g.g) - (max s.now t - (s.sampleOf g.frame).t) = slack
  have hread := readGrain_grainKept (s.tick t) m g ce ue ((s.sampleOf g.frame).upsets g.g up)
  generalize (s.tick t).readGrain m g ce ue _ = u at hread ⊢
  have hcount := countGrain_grainKept (u.stageGrain e.val { grain := g, bytes := s.buildGrain m ue g.g } slack)
    ((s.sampleOf g.frame).emptyGrain g.g) slack
  refine ⟨?_, ?_, hcount.core.trans hread.core, hcount.out.trans hread.out, ?_⟩
  · exact hcount.staged.trans (congrArg (List.cons _) hread.staged)
  · rw [hcount.work, stageGrain_work, Store.get_put_same]
  · exact hcount.candles.trans (congrArg (settleCandle · g _ false) hread.candles)

theorem grainComplete_drops (h : s.settled g = true ∨ deadline (grainPos g.g) < max s.now t - (s.sampleOf g.frame).t) :
    exec (.grainComplete t e ce ue up) s = .next { s.tick t with
      eng := { s.eng with work := Store.put (fun _ => none) s.eng.work e.val none } } := by
  show execGrainComplete t e ce ue up s = _
  simp only [execGrainComplete, State.tick_eng, hwork]
  exact if_pos h.symm

end

/-! ### A grain that is late (R109, R111), and the writes of an input frame (R96) -/

/-- The late grain is counted, and the slots of it that are used. -/
def State.countLate (s : State) (g : Nat) : State :=
  ((s.count 0x04 0 1).inc F.LATE_GRAIN_CNT_COUNT 1).inc F.LATE_SLOT_CNT_COUNT (s.usedSlots g)

theorem countLate_rd (s : State) (g : Nat) :
    (s.countLate g).rd F.LATE_GRAIN_CNT_COUNT = min (2 ^ 32 - 1) (s.rd F.LATE_GRAIN_CNT_COUNT + 1) ∧
      (s.countLate g).rd F.LATE_SLOT_CNT_COUNT = min (2 ^ 32 - 1) (s.rd F.LATE_SLOT_CNT_COUNT + s.usedSlots g) := by
  have hcount := count_onlyMirror s 0x04 0 1
  constructor
  · rw [State.countLate, State.inc, State.rd_wr_apart _ _ (by decide), rd_inc_same _ _ (by decide), hcount.rd (by decide)]
  · rw [State.countLate, rd_inc_same _ _ (by decide), State.inc, State.rd_wr_apart _ _ (by decide), hcount.rd (by decide)]

/-- The late grain is stopped and sent wholly from history (R109); it is in the staging buffer unless its position was taken before. -/
def State.settleLate (s : State) (gr : Grain) : State :=
  s.mapEng fun x => { x with
    work := x.work.filter fun w => decide (w.2 ≠ some gr)
    staged := if globalPos gr < x.taken then x.staged else { grain := gr, bytes := List.replicate 512 none } :: x.staged
    missing := x.missing.filter fun w => decide (w ≠ gr)
    candles := settleCandle x.candles gr 0 true }

theorem settleLate_eng (s : State) (gr : Grain) : (s.settleLate gr).eng.staged =
      (if globalPos gr < s.eng.taken then s.eng.staged else { grain := gr, bytes := List.replicate 512 none } :: s.eng.staged) ∧
    (s.settleLate gr).eng.candles = settleCandle s.eng.candles gr 0 true ∧ ∀ w ∈ (s.settleLate gr).eng.work, w.2 ≠ some gr :=
  ⟨rfl, rfl, fun _ hw => of_decide_eq_true (List.mem_filter.1 hw).2⟩

theorem grainLate_settles {t : Nat} {prev : Bool} {n : Fin 60750} {gr : Grain} {s : State}
    (hgr : gr = { frame := s.core.frames - b2n prev, g := n.val }) (hstart : s.core.started = true)
    (hprev : prev = false ∨ 0 < s.core.frames) (howed : s.owed gr = true)
    (hdue : (s.sampleOf gr.frame).t + deadline (grainPos n.val) ≤ max s.now t) :
    ∃ s', exec (.grainLate t prev n) s = .next s' ∧
      s'.eng.staged = (if globalPos gr < s.eng.taken then s.eng.staged else { grain := gr, bytes := List.replicate 512 none } :: s.eng.staged) ∧
      s'.eng.candles = settleCandle s.eng.candles gr 0 true ∧
      s'.rd F.LATE_GRAIN_CNT_COUNT = min (2 ^ 32 - 1) (s.rd F.LATE_GRAIN_CNT_COUNT + 1) ∧
      s'.rd F.LATE_SLOT_CNT_COUNT = min (2 ^ 32 - 1) (s.rd F.LATE_SLOT_CNT_COUNT + s.usedSlots n.val) ∧
      (∀ w ∈ s'.eng.work, w.2 ≠ some gr) ∧ s' = { s with now := max s.now t, regs := s'.regs, eng := s'.eng } := by
  have hlate : exec (.grainLate t prev n) s = .next (((s.tick t).countLate n.val).settleLate gr) := by
    subst hgr
    exact if_pos ⟨hstart, hprev, howed, hdue⟩
  obtain ⟨hgrains, hslots⟩ := countLate_rd (s.tick t) n.val
  have hregs : OnlyRegs (s.tick t) ((s.tick t).countLate n.val) := ((OnlyRegs.refl (s.tick t)).count 0x04 0 1).wr.wr
  obtain ⟨hstaged, hcandles, hwork⟩ := settleLate_eng ((s.tick t).countLate n.val) gr
  rw [hregs.eng] at hstaged hcandles
  refine next_of hlate ⟨hstaged, hcandles, hgrains, hslots, hwork, ?_⟩
  obtain ⟨r, hr⟩ := hregs
  rw [hr]
  rfl

theorem inputWriteStart_opens {t : Nat} {s : State} (hstart : s.core.started = true)
    (hsettled : s.core.frames = 0 ∨ s.frameSettled (s.core.frames - 1) = true) (hclosed : s.core.inOpen = false) :
    ∃ s', exec (.inputWriteStart t) s = .next s' ∧ s'.core.inOpen = true ∧ s'.core.next = DataPage.reset ∧
      (s.core.frames % 2 = 0 → s'.core.even = s.core.next ∧ s'.core.odd = s.core.odd) ∧
      (s.core.frames % 2 = 1 → s'.core.odd = s.core.next ∧ s'.core.even = s.core.even) ∧
      s' = { s with now := max s.now t, core := s'.core } := by
  have hopen : exec (.inputWriteStart t) s = .next (s.tick t).openInput := if_pos ⟨hstart, hsettled⟩
  have hpage : (s.tick t).openInput = (s.tick t).mapCore fun c =>
      if c.frames % 2 = 0 then { c with even := c.next, inOpen := true, next := DataPage.reset }
      else { c with odd := c.next, inOpen := true, next := DataPage.reset } :=
    if_neg (by rw [State.tick_core, hclosed]; decide)
  refine next_of (hopen.trans (congrArg _ hpage)) ?_
  rw [State.mapCore_core, State.tick_core]
  rcases Nat.mod_two_eq_zero_or_one s.core.frames with heven | hodd
  · rw [if_pos heven]
    exact ⟨rfl, rfl, fun _ => ⟨rfl, rfl⟩, fun h => absurd (heven.symm.trans h) (by decide),
      by rw [State.mapCore, State.tick_core, if_pos heven]; rfl⟩
  · have hne : s.core.frames % 2 ≠ 0 := by omega
    rw [if_neg hne]
    exact ⟨rfl, rfl, fun h => absurd h hne, fun _ => ⟨rfl, rfl⟩, by rw [State.mapCore, State.tick_core, if_neg hne]; rfl⟩

end Sys2Proof.Machine
end

section
/-! Proofs: positions that leave the staging buffer for the output history (O39; R86, R105, R108, R109, R138). -/
namespace Sys2Proof.Machine

/-! ### Writes one after another into a store -/

/-- A value that every write of a list to its key writes is read back, if the store held it or the list writes it. -/
theorem Store.get_foldl_put {α : Type} [DecidableEq α] {d : Nat → α} {a : Nat} {v : α} {l : List (Nat × α)} (hsame : ∀ y ∈ l, y.1 = a → y.2 = v)
    {m : List (Nat × α)} (h : Store.get d m a = v ∨ (a, v) ∈ l) : Store.get d (l.foldl (fun m y => Store.put d m y.1 y.2) m) a = v := by
  induction l generalizing m with
  | nil => exact h.resolve_right (List.not_mem_nil)
  | cons x l ih =>
    refine ih (fun y hy => hsame y (List.mem_cons_of_mem _ hy)) ?_
    rw [Store.get_put]
    split
    · next hkey => exact .inl (hsame x (List.mem_cons_self ..) hkey)
    · next hkey =>
      refine h.imp_right fun hmem => (List.mem_cons.1 hmem).resolve_left ?_
      rintro rfl
      exact hkey rfl

/-! ### The bytes of a grain enter the output history (R108, R138) -/

/-- The slots of the output history that byte `i` of a grain enters: one of each port that is given it and uses its cell. -/
def State.byteSlots (s : State) (g : Grain) (i : Nat) (v : W8) : List (Nat × W8) :=
  (((s.sampleOf g.frame).feeds ((g.g % 75 * 512 + i) / 800)).filter fun r => s.enabled r && decide ((g.g % 75 * 512 + i) % 800 < s.cells r)).map
    fun r => (648000 * r + 810 * ((g.g % 75 * 512 + i) % 800) + grainPos g.g, v)

theorem mem_byteSlots {s : State} {g : Grain} {i : Nat} {v : W8} {y : Nat × W8} : y ∈ s.byteSlots g i v ↔
    ∃ r, r ∈ (s.sampleOf g.frame).feeds ((g.g % 75 * 512 + i) / 800) ∧ s.enabled r = true ∧ (g.g % 75 * 512 + i) % 800 < s.cells r ∧
      y = (648000 * r + 810 * ((g.g % 75 * 512 + i) % 800) + grainPos g.g, v) := by
  simp only [State.byteSlots, List.mem_map, List.mem_filter, Bool.and_eq_true, decide_eq_true_eq, and_assoc, eq_comm (a := y)]

/-- The bytes of a built grain with their slots. -/
def State.historyBytes (s : State) (b : Built) : List (Nat × W8) :=
  (List.range 512).zip b.bytes |>.flatMap fun x =>
    match x.2 with
    | some v => s.byteSlots b.grain x.1 v
    | none => []

/-- Bytes enter the output history. -/
def State.putHistory (s : State) (l : List (Nat × W8)) : State :=
  s.mapEng fun e => { e with hist := l.foldl (fun h y => Store.put (fun _ => 0xFF) h y.1 y.2) e.hist }

theorem putHistory_hist (s : State) (l : List (Nat × W8)) :
    (s.putHistory l).eng.hist = l.foldl (fun h y => Store.put (fun _ => 0xFF) h y.1 y.2) s.eng.hist := rfl

theorem toHistory_eq (s : State) (b : Built) :
    s.toHistory b = if s.pair.frozen.contains b.grain.frame then s else s.putHistory (s.historyBytes b) := rfl

theorem mem_historyBytes {s : State} {b : Built} {y : Nat × W8} :
    y ∈ s.historyBytes b ↔ ∃ i v, i < 512 ∧ b.bytes[i]? = some (some v) ∧ y ∈ s.byteSlots b.grain i v := by
  rw [State.historyBytes, List.mem_flatMap]
  constructor
  · rintro ⟨⟨i, _ | v⟩, hzip, hy⟩
    · cases hy
    · obtain ⟨n, hn⟩ := List.mem_iff_getElem?.1 hzip
      obtain ⟨hi, hv⟩ := List.getElem?_zip_eq_some.1 hn
      obtain ⟨hlt, rfl⟩ := List.getElem?_eq_some_iff.1 hi
      rw [List.length_range] at hlt
      rw [List.getElem_range] at hy
      exact ⟨n, v, hlt, hv, hy⟩
  · rintro ⟨i, v, hi, hv, hy⟩
    have hzip : ((List.range 512).zip b.bytes)[i]? = some (i, some v) := List.getElem?_zip_eq_some.2 ⟨List.getElem?_range hi, hv⟩
    exact ⟨(i, some v), List.mem_of_getElem? hzip, hy⟩

/-- A port that is given one region's bytes only gets, in each cell that it uses, the byte of that cell. -/
theorem toHistory_byte {s : State} {b : Built} {i r : Nat} {v : W8} (hlive : s.pair.frozen.contains b.grain.frame = false) (hi : i < 512)
    (hv : b.bytes[i]? = some (some v)) (hfed : r ∈ (s.sampleOf b.grain.frame).feeds ((b.grain.g % 75 * 512 + i) / 800))
    (honly : ∀ q, r ∈ (s.sampleOf b.grain.frame).feeds q → q = (b.grain.g % 75 * 512 + i) / 800) (henabled : s.enabled r = true)
    (hcell : (b.grain.g % 75 * 512 + i) % 800 < s.cells r) :
    Store.get (fun _ => 0xFF) (s.toHistory b).eng.hist (648000 * r + 810 * ((b.grain.g % 75 * 512 + i) % 800) + grainPos b.grain.g) = v := by
  have hmem := mem_historyBytes.2 ⟨i, v, hi, hv, mem_byteSlots.2 ⟨r, hfed, henabled, hcell, rfl⟩⟩
  rw [toHistory_eq, if_neg (by rw [hlive]; decide), putHistory_hist]
  refine Store.get_foldl_put (fun y hy hslot => ?_) (.inr hmem)
  obtain ⟨i', v', -, hv', hy'⟩ := mem_historyBytes.1 hy
  obtain ⟨r', hfed', -, -, rfl⟩ := mem_byteSlots.1 hy'
  obtain ⟨rfl, hcol⟩ : r' = r ∧ (b.grain.g % 75 * 512 + i') % 800 = (b.grain.g % 75 * 512 + i) % 800 := by omega
  obtain rfl : i' = i := by
    have hregion := honly _ hfed'
    omega
  exact Option.some.inj (Option.some.inj (hv'.symm.trans hv))

/-! ### A position is taken (R86) -/

/-- `u` is `s` but for the output history. -/
def OnlyHistory (s u : State) : Prop := ∃ h, u = { s with eng := { s.eng with hist := h } }

theorem toHistory_onlyHistory {s u : State} (b : Built) (h : OnlyHistory s u) : OnlyHistory s (u.toHistory b) := by
  obtain ⟨x, rfl⟩ := h
  rw [toHistory_eq]
  split
  · exact ⟨x, rfl⟩
  · exact ⟨_, rfl⟩

theorem toHistories_onlyHistory {s u : State} (l : List Built) (h : OnlyHistory s u) : OnlyHistory s (l.foldl State.toHistory u) := by
  induction l generalizing u with
  | nil => exact h
  | cons b l ih => exact ih (toHistory_onlyHistory b h)

/-- The grains of a position that are not in the staging buffer. -/
def State.absentAt (s : State) (q : Nat) : List Grain :=
  (grainsAt q).filter fun x => !(s.eng.staged.filter fun b => decide (globalPos b.grain = q)).any fun b => decide (b.grain = x)

theorem takePosition_eq (s : State) : ∃ h, s.takePosition = { s with eng := { s.eng with
    hist := h
    staged := s.eng.staged.filter fun b => decide (globalPos b.grain ≠ s.eng.taken)
    taken := s.eng.taken + 1
    missing := s.eng.missing ++ s.absentAt s.eng.taken } } := by
  obtain ⟨h, hh⟩ := toHistories_onlyHistory (s.eng.staged.filter fun b => decide (globalPos b.grain = s.eng.taken)) ⟨s.eng.hist, rfl⟩
  refine ⟨h, ?_⟩
  rw [State.takePosition, hh]
  rfl

/-- A grain of the position was in the staging buffer, or is counted as missing. -/
theorem mem_absentAt_or {s : State} {q : Nat} {x : Grain} (hx : x ∈ grainsAt q) : x ∈ s.absentAt q ∨ ∃ b ∈ s.eng.staged, b.grain = x := by
  by_cases hb : ∃ b ∈ s.eng.staged, b.grain = x
  · exact .inr hb
  · refine .inl (List.mem_filter.2 ⟨hx, ?_⟩)
    rw [Bool.not_eq_true', List.any_eq_false]
    exact fun b hmine hgrain => hb ⟨b, List.mem_of_mem_filter hmine, of_decide_eq_true hgrain⟩

section
variable {t : Nat} {s : State} (hstart : s.core.started = true) (hframe : s.eng.taken / 810 ≤ s.core.frames)
  (hdue : (s.sampleOf (s.eng.taken / 810)).t + deadline (s.eng.taken % 810) ≤ max s.now t)
include hstart hframe hdue

theorem positionDue_tick : (s.tick t).positionDue = true := by
  have hdue' : ((s.tick t).sampleOf ((s.tick t).eng.taken / 810)).t + deadline ((s.tick t).eng.taken % 810) ≤ (s.tick t).now := hdue
  rw [State.positionDue, Bool.and_eq_true, Bool.and_eq_true, decide_eq_true_eq, decide_eq_true_eq]
  exact ⟨⟨hstart, hframe⟩, hdue'⟩

theorem exec_positionTake : exec (.positionTake t) s =
    if (s.eng.taken + 1) % 810 = 0 then
      .next ((if decide ((s.eng.taken + 1) / 810 ≤ s.core.samp.frame) then s.line.txOld else s.line.txOh).foldl
        (State.sendPort (decide ((s.eng.taken + 1) / 810 ≤ s.core.samp.frame))) (s.tick t).takePosition)
    else .next (s.tick t).takePosition := by
  obtain ⟨h, htake⟩ := takePosition_eq (s.tick t)
  have hrun : exec (.positionTake t) s = if (s.tick t).takePosition.eng.taken % 810 = 0 then
      .next ((if decide ((s.tick t).takePosition.eng.taken / 810 ≤ (s.tick t).takePosition.core.samp.frame)
        then (s.tick t).takePosition.line.txOld else (s.tick t).takePosition.line.txOh).foldl
          (State.sendPort (decide ((s.tick t).takePosition.eng.taken / 810 ≤ (s.tick t).takePosition.core.samp.frame))) (s.tick t).takePosition)
      else .next (s.tick t).takePosition := if_pos (positionDue_tick hstart hframe hdue)
  rw [hrun, htake]
  rfl

theorem positionTake_takes (hmid : s.eng.taken % 810 ≠ 809) : ∃ s', exec (.positionTake t) s = .next s' ∧ s'.eng.taken = s.eng.taken + 1 ∧
    s'.eng.staged = s.eng.staged.filter (fun b => decide (globalPos b.grain ≠ s.eng.taken)) ∧
    s' = { s with now := max s.now t, eng := { s.eng with taken := s'.eng.taken, staged := s'.eng.staged, hist := s'.eng.hist, missing := s'.eng.missing } } ∧
    (∀ x ∈ grainsAt s.eng.taken, x ∈ s'.eng.missing ∨ ∃ b ∈ s.eng.staged, b.grain = x) := by
  obtain ⟨h, htake⟩ := takePosition_eq (s.tick t)
  have hrun : exec (.positionTake t) s = .next (s.tick t).takePosition :=
    (exec_positionTake hstart hframe hdue).trans (if_neg (by omega))
  rw [htake] at hrun
  refine next_of hrun ⟨rfl, rfl, rfl, fun x hx => ?_⟩
  exact (mem_absentAt_or hx).imp_left (List.mem_append_right _)

theorem positionTake_sends (hlast : s.eng.taken % 810 = 809) : exec (.positionTake t) s = .next
    ((if decide ((s.eng.taken + 1) / 810 ≤ s.core.samp.frame) then s.line.txOld else s.line.txOh).foldl
      (State.sendPort (decide ((s.eng.taken + 1) / 810 ≤ s.core.samp.frame))) (s.tick t).takePosition) :=
  (exec_positionTake hstart hframe hdue).trans (if_pos (by omega))

end

end Sys2Proof.Machine
end

section
/-! Proofs: a frame's candle record closes (O39; R105 to R107, R111, R112, R317, R330). -/
namespace Sys2Proof.Machine

/-! ### The record is shown (R105, R111) -/

/-- The minimum slack of a record as CANDLE_LAST shows it. -/
def Candle.minSlack (c : Candle) : Nat := if decide (0 < c.late) then 0 else min c.slack 4095

theorem minSlack_lt (c : Candle) : c.minSlack < 4096 := by
  rw [Candle.minSlack]
  split <;> omega

theorem minSlack_eq (c : Candle) : c.minSlack = if 0 < c.late then 0 else min c.slack 4095 := by simp only [Candle.minSlack, decide_eq_true_eq]

/-- CANDLE_LAST and CANDLE_LAST_FN. -/
def State.showLast (s : State) (c : Candle) : State :=
  let s := ((s.wr F.CANDLE_LAST_MIN_SLACK c.minSlack).wr F.CANDLE_LAST_MIN_POS c.pos).setFlag F.CANDLE_LAST_LATE (decide (0 < c.late))
  (s.wr F.CANDLE_LAST_FN_FN c.fn.toNat).wr F.CANDLE_LAST_FN_LATE_GRAINS (min c.late 65535)

/-- CANDLE_WORST. -/
def State.showWorst (s : State) (c : Candle) : State :=
  if c.minSlack < s.rd F.CANDLE_WORST_MIN_SLACK then (s.wr F.CANDLE_WORST_MIN_SLACK c.minSlack).wr F.CANDLE_WORST_FN c.fn.toNat else s

/-- A late frame is counted. -/
def State.countLateFrame (s : State) (c : Candle) : State :=
  if decide (0 < c.late) then (s.inc F.LATE_FRAME_CNT_COUNT 1).raise F.CORE_INT_LATE else s

/-- The record leaves the list of those that are open; background work is no longer suspended once its 8,000 frames are over. -/
def State.dropCandle (s : State) (c : Candle) : State :=
  let s := s.mapEng fun e =>
    { e with candles := e.candles.filter fun k => decide (k.frame ≠ c.frame), gov := { e.gov with suspend := e.gov.suspend - 1 } }
  if s.eng.gov.suspend = 0 then s.setFlag F.CORE_STATUS_BG_SUSPENDED false else s

theorem closeCandle_eq (s : State) (c : Candle) : s.closeCandle c =
    (((((s.latePersist (decide (0 < c.late))).showLast c).showWorst c).countLateFrame c).dropCandle c).governClose (decide (0 < c.late)) c.minSlack :=
  rfl

section
variable {s : State} {f : Fld}

theorem latePersist_rd {late : Bool} (h : ∀ g ∈ [F.CORE_STATUS_LATE_PERSIST, F.CORE_INT_LATE_PERSIST], g.apart f = true) :
    (s.latePersist late).rd f = s.rd f := by
  simp only [List.forall_mem_cons] at h
  obtain ⟨hstatus, hint, -⟩ := h
  unfold State.latePersist
  extract_lets full run clean u
  split
  · rw [State.raise, State.rd_wr_apart _ _ hint, State.raise, State.rd_wr_apart _ _ hstatus, State.mapEng_rd]
  · split
    · rw [State.setFlag, State.rd_wr_apart _ _ hstatus, State.mapEng_rd]
    · rw [State.mapEng_rd]

theorem showWorst_rd {c : Candle} (h : ∀ g ∈ [F.CANDLE_WORST_MIN_SLACK, F.CANDLE_WORST_FN], g.apart f = true) :
    (s.showWorst c).rd f = s.rd f := by
  simp only [List.forall_mem_cons] at h
  obtain ⟨hslack, hfn, -⟩ := h
  rw [State.showWorst]
  split
  · rw [State.rd_wr_apart _ _ hfn, State.rd_wr_apart _ _ hslack]
  · rfl

theorem countLateFrame_rd {c : Candle} (h : ∀ g ∈ [F.LATE_FRAME_CNT_COUNT, F.CORE_INT_LATE], g.apart f = true) :
    (s.countLateFrame c).rd f = s.rd f := by
  simp only [List.forall_mem_cons] at h
  obtain ⟨hcount, hint, -⟩ := h
  rw [State.countLateFrame]
  split
  · rw [State.raise, State.rd_wr_apart _ _ hint, State.inc, State.rd_wr_apart _ _ hcount]
  · rfl

theorem dropCandle_rd {c : Candle} (h : F.CORE_STATUS_BG_SUSPENDED.apart f = true) : (s.dropCandle c).rd f = s.rd f := by
  unfold State.dropCandle
  extract_lets u
  split
  · rw [State.setFlag, State.rd_wr_apart _ _ h, State.mapEng_rd]
  · rw [State.mapEng_rd]

theorem commandV_rd {mv : Nat} (h : F.PWR_VCORE_CMD_MV.apart f = true) : (s.commandV mv).rd f = s.rd f := by
  rw [State.commandV, State.mapEng_rd, State.rd_wr_apart _ _ h]

/-- The governor's rule commands a voltage and engines, and suspends background work. -/
theorem governClose_rd {late : Bool} {slack : Nat} (h : ∀ g ∈ [F.PWR_VCORE_CMD_MV, F.CORE_STATUS_BG_SUSPENDED], g.apart f = true) :
    (s.governClose late slack).rd f = s.rd f := by
  simp only [List.forall_mem_cons] at h
  obtain ⟨hv, hbg, -⟩ := h
  unfold State.governClose
  extract_lets v a waits target good step u clear
  have hu : u.rd f = s.rd f := rfl
  split_ifs
  all_goals simp only [clear, State.boost, State.raise, State.rd_wr_apart _ _ hbg, State.mapEng_rd, commandV_rd hv, hu]

end

/-! The open records. -/

theorem latePersist_candles (s : State) (late : Bool) : (s.latePersist late).eng.candles = s.eng.candles := by
  unfold State.latePersist
  extract_lets full run clean u
  split
  · rfl
  · split <;> rfl

theorem governClose_candles (s : State) (late : Bool) (slack : Nat) : (s.governClose late slack).eng.candles = s.eng.candles := by
  unfold State.governClose
  extract_lets v a waits target good step u clear
  split_ifs <;> rfl

theorem dropCandle_candles (s : State) (c : Candle) : (s.dropCandle c).eng.candles = s.eng.candles.filter fun k => decide (k.frame ≠ c.frame) := by
  unfold State.dropCandle
  extract_lets u
  split <;> rfl

theorem showLast_onlyRegs (s : State) (c : Candle) : OnlyRegs s (s.showLast c) := (OnlyRegs.refl s).wr.wr.wr.wr.wr

theorem showWorst_onlyRegs (s : State) (c : Candle) : OnlyRegs s (s.showWorst c) := (OnlyRegs.refl s).wr.wr.ite (.refl s)

theorem countLateFrame_onlyRegs (s : State) (c : Candle) : OnlyRegs s (s.countLateFrame c) := (OnlyRegs.refl s).wr.wr.ite (.refl s)

theorem closeCandle_candles (s : State) (c : Candle) : (s.closeCandle c).eng.candles = s.eng.candles.filter fun k => decide (k.frame ≠ c.frame) := by
  have hshow : ∀ u : State, (((u.showLast c).showWorst c).countLateFrame c).eng = u.eng := fun u =>
    (((showLast_onlyRegs u c).trans (showWorst_onlyRegs _ c)).trans (countLateFrame_onlyRegs _ c)).eng
  rw [closeCandle_eq, governClose_candles, dropCandle_candles, hshow, latePersist_candles]

/-! ### What a closed record shows (R105, R106, R111) -/

theorem showLast_rd (s : State) (c : Candle) : (s.showLast c).rd F.CANDLE_LAST_MIN_SLACK = c.minSlack ∧
    (s.showLast c).flag F.CANDLE_LAST_LATE = decide (0 < c.late) ∧ (s.showLast c).rd F.CANDLE_LAST_FN_FN = c.fn.toNat ∧
    (s.showLast c).rd F.CANDLE_LAST_FN_LATE_GRAINS = min c.late 65535 := by
  have hslack : c.minSlack % 2 ^ 12 = c.minSlack := Nat.mod_eq_of_lt (minSlack_lt c)
  have hfn : c.fn.toNat % 2 ^ 16 = c.fn.toNat := Nat.mod_eq_of_lt c.fn.isLt
  have hlate : min c.late 65535 % 2 ^ 16 = min c.late 65535 := Nat.mod_eq_of_lt (by omega)
  simp (disch := decide) only [State.showLast, State.setFlag, State.flag, State.rd_wr_apart, State.rd_wr_same, hslack, hfn, hlate]
  refine ⟨trivial, ?_, trivial, trivial⟩
  cases decide (0 < c.late) <;> rfl

section
variable {s : State} {c : Candle}

/-- What comes after CANDLE_LAST is written leaves a field of it alone. -/
theorem closeCandle_rd {f : Fld} (h : ∀ g ∈ [F.CANDLE_WORST_MIN_SLACK, F.CANDLE_WORST_FN, F.LATE_FRAME_CNT_COUNT, F.CORE_INT_LATE,
    F.CORE_STATUS_BG_SUSPENDED, F.PWR_VCORE_CMD_MV], g.apart f = true) :
    (s.closeCandle c).rd f = ((s.latePersist (decide (0 < c.late))).showLast c).rd f := by
  simp only [List.forall_mem_cons] at h
  obtain ⟨hworst, hfn, hcount, hint, hbg, hv, -⟩ := h
  rw [closeCandle_eq, governClose_rd (by simp [hv, hbg]), dropCandle_rd hbg, countLateFrame_rd (by simp [hcount, hint]),
    showWorst_rd (by simp [hworst, hfn])]

/-- The governor boosts at a late record, and suspends background work (R106, R317). -/
theorem governClose_late (slack : Nat) : (s.governClose true slack).rd F.PWR_VCORE_CMD_MV = 800 ∧
    (s.governClose true slack).eng.gov.aNext = some 256 ∧ (s.governClose true slack).eng.gov.suspend = 8000 := by
  refine ⟨?_, rfl, rfl⟩
  unfold State.governClose
  extract_lets v a waits target good step u clear
  rw [if_pos rfl, State.raise, State.rd_wr_apart _ _ (by decide), State.mapEng_rd, State.boost, State.mapEng_rd, State.commandV, State.mapEng_rd,
    State.rd_wr_same _ _ _ (by decide)]
  rfl

theorem closeCandle_late (h : 0 < c.late) : (s.closeCandle c).rd F.LATE_FRAME_CNT_COUNT = min (2 ^ 32 - 1) (s.rd F.LATE_FRAME_CNT_COUNT + 1) ∧
    (s.closeCandle c).flag F.CORE_INT_LATE = true ∧ (s.closeCandle c).rd F.PWR_VCORE_CMD_MV = 800 ∧
    (s.closeCandle c).eng.gov.aNext = some 256 ∧ (s.closeCandle c).eng.gov.suspend = 8000 := by
  have hd : decide (0 < c.late) = true := decide_eq_true h
  rw [closeCandle_eq, hd]
  generalize hu : ((s.latePersist true).showLast c).showWorst c = u
  have hcount : u.countLateFrame c = (u.inc F.LATE_FRAME_CNT_COUNT 1).raise F.CORE_INT_LATE := if_pos hd
  refine ⟨?_, ?_, governClose_late _⟩
  · rw [governClose_rd (by decide), dropCandle_rd (by decide), hcount, State.raise, State.rd_wr_apart _ _ (by decide), rd_inc_same _ _ (by decide),
      ← hu, showWorst_rd (by decide), State.showLast]
    simp (disch := decide) only [State.setFlag, State.rd_wr_apart, latePersist_rd]
  · rw [State.flag, governClose_rd (by decide), dropCandle_rd (by decide), hcount]
    exact flag_wr_same _ _ _ (by decide) rfl

end

/-! ### The accounts (R330) and what follows the record -/

/-- TALLY_ACCT shows the engine-ticks of the four categories and their frame. -/
def State.showAccounts (s : State) (c : Candle) (retired wasted front back : W32) : State :=
  ((((s.wr (F.TALLY_ACCT_TICKS 0) retired.toNat).wr (F.TALLY_ACCT_TICKS 1) wasted.toNat).wr (F.TALLY_ACCT_TICKS 2) front.toNat).wr
    (F.TALLY_ACCT_TICKS 3) back.toNat).wr F.TALLY_ACCT_FN_FN c.fn.toNat

/-- The interval's sums go on (R332). -/
def State.addAccounts (s : State) (c : Candle) (retired wasted front back : W32) : State :=
  s.mapTally fun y =>
    { y with sums := addSums y.sums [s.engTicks, retired.toNat, wasted.toNat, front.toNat, back.toNat]
             recFn := some c.fn
             engAcc := 0
             engAt := s.now }

/-- GPIO1 shows a late frame (R376). -/
def State.pulseLate (s : State) (late : Bool) : State :=
  if late then s.mapPins fun p => { p with gpio1End := some (s.now + 100) } else s

theorem showAccounts_rd (s : State) (c : Candle) (retired wasted front back : W32) :
    (s.showAccounts c retired wasted front back).rd (F.TALLY_ACCT_TICKS 0) = retired.toNat ∧
      (s.showAccounts c retired wasted front back).rd (F.TALLY_ACCT_TICKS 3) = back.toNat ∧
      (s.showAccounts c retired wasted front back).rd F.TALLY_ACCT_FN_FN = c.fn.toNat := by
  have hword : ∀ w : W32, w.toNat % 2 ^ 32 = w.toNat := fun w => Nat.mod_eq_of_lt w.isLt
  have hfn : c.fn.toNat % 2 ^ 16 = c.fn.toNat := Nat.mod_eq_of_lt c.fn.isLt
  simp (disch := decide) only [State.showAccounts, State.rd_wr_apart, State.rd_wr_same, hword, hfn, and_self]

/-- The fields of the accounts. -/
def acctFields : List Fld := [F.TALLY_ACCT_TICKS 0, F.TALLY_ACCT_TICKS 1, F.TALLY_ACCT_TICKS 2, F.TALLY_ACCT_TICKS 3, F.TALLY_ACCT_FN_FN]

theorem showAccounts_rd_other {s : State} {c : Candle} {retired wasted front back : W32} {f : Fld} (h : ∀ g ∈ acctFields, g.apart f = true) :
    (s.showAccounts c retired wasted front back).rd f = s.rd f := by
  simp only [acctFields, List.forall_mem_cons] at h
  obtain ⟨h0, h1, h2, h3, hfn, -⟩ := h
  rw [State.showAccounts, State.rd_wr_apart _ _ hfn, State.rd_wr_apart _ _ h3, State.rd_wr_apart _ _ h2, State.rd_wr_apart _ _ h1,
    State.rd_wr_apart _ _ h0]

theorem releaseWork_onlyRegs (s : State) (slack : Nat) : OnlyRegs s (s.releaseWork slack) := by
  have hstarved : ∀ v b, OnlyRegs s ((s.wr F.BG_STATUS_STARVED v).raiseIf b F.PWR_INT_BG_STARVED) := fun v b =>
    (OnlyRegs.refl s).wr.wr.ite (OnlyRegs.refl s).wr
  exact (hstarved _ _).wr.ite ((hstarved _ _).wr.ite (hstarved _ _).wr)

/-- The fields that a record's close writes after the governor's rule and the accounts. -/
def releaseFields : List Fld := [F.BG_STATUS_STARVED, F.PWR_INT_BG_STARVED, F.BG_STATUS_RELEASED]

theorem releaseWork_rd {s : State} {slack : Nat} {f : Fld} (h : ∀ g ∈ releaseFields, g.apart f = true) : (s.releaseWork slack).rd f = s.rd f := by
  simp only [releaseFields, List.forall_mem_cons] at h
  obtain ⟨hstarved, hint, hreleased, -⟩ := h
  have hfirst : ∀ v b, ((s.wr F.BG_STATUS_STARVED v).raiseIf b F.PWR_INT_BG_STARVED).rd f = s.rd f := fun v b => by
    rw [State.raiseIf]
    split
    · rw [State.raise, State.rd_wr_apart _ _ hint, State.rd_wr_apart _ _ hstarved]
    · rw [State.rd_wr_apart _ _ hstarved]
  unfold State.releaseWork
  extract_lets tasks starved old u b1 b2 bound pmax hp
  split_ifs
  all_goals rw [State.rd_wr_apart _ _ hreleased, hfirst]

/-- The state as a record's close ends. -/
def State.afterClose (s : State) (late : Bool) (slack : Nat) : State := ((s.releaseWork slack).pulseLate late).refreshFault.refreshPair

theorem afterClose_rd {s : State} {late : Bool} {slack : Nat} {f : Fld}
    (h : ∀ g ∈ releaseFields ++ F.PAIR_STAT_FAULT :: pairFollowers, g.apart f = true) : (s.afterClose late slack).rd f = s.rd f := by
  obtain ⟨hrelease, hpair⟩ := List.forall_mem_append.1 h
  obtain ⟨hfault, hfollow⟩ := List.forall_mem_cons.1 hpair
  have hpulse : ∀ u : State, (u.pulseLate late).rd f = u.rd f := fun u => by
    rw [State.pulseLate]
    split <;> rfl
  rw [State.afterClose, refreshPair_rd hfollow, State.refreshFault, State.setFlag, State.rd_wr_apart _ _ hfault, hpulse, releaseWork_rd hrelease]

theorem afterClose_eng (s : State) (late : Bool) (slack : Nat) : (s.afterClose late slack).eng = s.eng := by
  have hpair : ∀ u : State, u.refreshPair.eng = u.eng := fun u => by
    obtain ⟨-, r, l, h⟩ := refreshPair_onlyRegsAndLine (as := [0x40060004, 0x40060008, 0x4006000C, 0x40060010]) (s := u) (by simp) (by simp)
      (by simp) (by simp)
    rw [h]
  have hpulse : ∀ u : State, (u.pulseLate late).eng = u.eng := fun u => by
    rw [State.pulseLate]
    split <;> rfl
  rw [State.afterClose, hpair]
  exact (hpulse _).trans (releaseWork_onlyRegs s slack).eng

theorem exec_candleRecordClose {t : Nat} {retired wasted front back : W32} {c : Candle} {s : State}
    (hc : s.eng.candles.find? (fun c => decide (60750 ≤ c.settled)) = some c) :
    exec (.candleRecordClose t retired wasted front back) s = .next
      (((((s.tick t).closeCandle c).showAccounts c retired wasted front back).addAccounts c retired wasted front back).afterClose
        (decide (0 < c.late)) c.minSlack) := by
  show execCandleRecordClose t retired wasted front back s = _
  unfold execCandleRecordClose
  extract_lets z
  have hz : z.eng.candles.find? (fun c => decide (60750 ≤ c.settled)) = some c := hc
  rw [hz]
  rfl

theorem candleRecordClose_shows {t : Nat} {retired wasted front back : W32} {c : Candle} {s : State}
    (hc : s.eng.candles.find? (fun c => decide (60750 ≤ c.settled)) = some c) :
    ∃ s', exec (.candleRecordClose t retired wasted front back) s = .next s' ∧
      s'.rd F.CANDLE_LAST_MIN_SLACK = (if 0 < c.late then 0 else min c.slack 4095) ∧ s'.flag F.CANDLE_LAST_LATE = decide (0 < c.late) ∧
      s'.rd F.CANDLE_LAST_FN_FN = c.fn.toNat ∧ s'.rd F.CANDLE_LAST_FN_LATE_GRAINS = min c.late 65535 ∧
      (0 < c.late → s'.rd F.LATE_FRAME_CNT_COUNT = min (2 ^ 32 - 1) (s.rd F.LATE_FRAME_CNT_COUNT + 1) ∧ s'.flag F.CORE_INT_LATE = true ∧
        s'.rd F.PWR_VCORE_CMD_MV = 800 ∧ s'.eng.gov.aNext = some 256 ∧ s'.eng.gov.suspend = 8000) ∧
      s'.rd (F.TALLY_ACCT_TICKS 0) = retired.toNat ∧ s'.rd (F.TALLY_ACCT_TICKS 3) = back.toNat ∧ s'.rd F.TALLY_ACCT_FN_FN = c.fn.toNat ∧
      s'.eng.candles = s.eng.candles.filter fun k => decide (k.frame ≠ c.frame) := by
  refine next_of (exec_candleRecordClose hc) ?_
  have hcandles := closeCandle_candles (s.tick t) c
  have hlate := closeCandle_late (s := s.tick t) (c := c)
  obtain ⟨hslack, hflag, hfn, hgrains⟩ := showLast_rd ((s.tick t).latePersist (decide (0 < c.late))) c
  rw [← closeCandle_rd (by decide)] at hslack hfn hgrains
  rw [State.flag, ← closeCandle_rd (by decide)] at hflag
  generalize (s.tick t).closeCandle c = u at hcandles hlate hslack hflag hfn hgrains ⊢
  obtain ⟨hretired, hback, hacct⟩ := showAccounts_rd u c retired wasted front back
  have hend : ∀ f : Fld, (∀ g ∈ releaseFields ++ F.PAIR_STAT_FAULT :: pairFollowers, g.apart f = true) →
      (((u.showAccounts c retired wasted front back).addAccounts c retired wasted front back).afterClose (decide (0 < c.late)) c.minSlack).rd f =
        (u.showAccounts c retired wasted front back).rd f := fun f hf => afterClose_rd hf
  have hkept : ∀ f : Fld, (∀ g ∈ acctFields ++ (releaseFields ++ F.PAIR_STAT_FAULT :: pairFollowers), g.apart f = true) →
      (((u.showAccounts c retired wasted front back).addAccounts c retired wasted front back).afterClose (decide (0 < c.late)) c.minSlack).rd f =
        u.rd f := fun f hf => by
    obtain ⟨hacct, hafter⟩ := List.forall_mem_append.1 hf
    rw [hend f hafter, showAccounts_rd_other hacct]
  have heng := afterClose_eng ((u.showAccounts c retired wasted front back).addAccounts c retired wasted front back) (decide (0 < c.late)) c.minSlack
  refine ⟨?_, ?_, ?_, ?_, fun h => ?_, ?_, ?_, ?_, ?_⟩
  · rw [hkept _ (by decide), hslack, minSlack_eq]
  · rw [State.flag, hkept _ (by decide), hflag]
  · rw [hkept _ (by decide), hfn]
  · rw [hkept _ (by decide), hgrains]
  · obtain ⟨hcount, hint, hv, hnext, hsuspend⟩ := hlate h
    refine ⟨?_, ?_, ?_, ?_, ?_⟩
    · rw [hkept _ (by decide), hcount, State.tick_rd]
    · rw [State.flag, hkept _ (by decide), ← State.flag, hint]
    · rw [hkept _ (by decide), hv]
    · rw [heng]
      exact hnext
    · rw [heng]
      exact hsuspend
  · rw [hend _ (by decide), hretired]
  · rw [hend _ (by decide), hback]
  · rw [hend _ (by decide), hacct]
  · rw [heng]
    exact hcandles

/-- Settles O39: each event of a grain by what it makes of the engines, the history by its slots, the record by the order of its writes. -/
theorem grainsAndRecords : Obligations.GrainsAndRecords := by
  refine ⟨fun t e lost g q rest ce ue up prev n s => ⟨fun hactive hidle => ⟨grainStart_takes hactive hidle, grainStart_waits hactive hidle⟩,
    fun hwork => ⟨grainComplete_settles hwork, grainComplete_drops hwork⟩, grainLate_settles rfl, inputWriteStart_opens⟩,
    fun t retired wasted front back c s => ⟨positionTake_takes, positionTake_sends, fun b i r v => ?_, candleRecordClose_shows⟩⟩
  exact toHistory_byte

end Sys2Proof.Machine
end

section
/-! Proofs: PORT_CONFIGURE of a port outside the first lane of its quad that stands in a bonded mode (O43; R150). -/
namespace Sys2Proof.Machine

/-- PORT_CONFIGURE of port 43 in mode 0 (OFF), taken from ring 0 and not started. -/
def offCommand : Taken :=
  { src := .ring0, d := [0x10, 0x100000, 43, 0, 0, 0, 0, 0, 0, 0, 0, 0, 0, 0, 0, 0], epoch := 0, phase := .waiting, drop := false,
    done := none, lost := false, old := false }

/-- The row that runs it. -/
def offRow : Exe := { t := 0, src := .ring0, inp := none, outOk := true, rplOk := true }

/-- The firmware runs; port 43 stands in the bonded mode 3, port 44 of the next quad is a bond member, and the command is taken. R150 leads
to no such state, as a bonded port is the first lane of its quad; the statement speaks of every state. -/
def bondedAt43 : State :=
  let s := (((State.reset.raise F.MBX_STATUS_FW_RUN).wr F.BOOT_STATUS_PHASE 2).wr (F.PRT_CFG_MODE 43) 3).raise (F.PRT_CFG_BOND_MEMBER 44)
  { s with mbx := { s.mbx with taken := [offCommand] } }

theorem bondedAt43_starts : Starts bondedAt43 .portConfigure offRow 0 offCommand :=
  ⟨by decide +kernel, by decide +kernel, by decide⟩

/-- The command clears BOND_MEMBER of ports 44 to 46, and with it that of port 44 in the next quad. -/
theorem configure_clearsMember44 : bondedAt43.reg (prtBase 44) = 0x20 ∧ (bondedAt43.configure offCommand.d []).reg (prtBase 44) = 0 := by
  decide +kernel

/-- Refutes O43: the frame over the ports of other quads fails where a bonded port is not the first lane of its quad, because PORT_CONFIGURE
clears BOND_MEMBER of the three ports after it, quad or not. -/
theorem not_portConfigurationAndEnabling : ¬ Obligations.PortConfigurationAndEnabling := by
  intro h
  obtain ⟨hconfigure, -⟩ := h.1 offRow 0 offCommand [] bondedAt43 (bondedAt43.tick 0)
  have hbusy : (bondedAt43.tick 0).cfgBusy offCommand.d = false := by decide +kernel
  have hclasses : ((bondedAt43.tick 0).quadClasses (portOf offCommand.d) (cfgMode offCommand.d)).length ≤ 2 := by decide +kernel
  obtain ⟨hplaced, -⟩ := hconfigure bondedAt43_starts (by decide +kernel) rfl (fun h => absurd h (by decide)) hbusy
  obtain ⟨-, -, hdisabled, -⟩ := hplaced hclasses
  obtain ⟨-, -, -, -, -, -, -, hframe, -⟩ := hdisabled (by decide +kernel)
  have hkept := hframe 44 (by decide) (by decide) (.inr (by decide))
  obtain ⟨hbefore, hafter⟩ := configure_clearsMember44
  exact absurd (hafter.symm.trans (hkept.trans hbefore)) (by decide)

end Sys2Proof.Machine
end

section
/-! Proofs: selectors, monitors and LINE_STATE as they read after a write (R114, R117, R124). -/
namespace Sys2Proof.Machine

theorem selRaw_setSel (s : State) (i a : Nat) (v : W128) : (s.setSel i v).selRaw a = if i = a then v else s.selRaw a := Store.get_put

theorem selAt_setSel_other {s : State} {i a : Nat} {v : W128} (h : i ≠ a) : (s.setSel i v).selAt a = s.selAt a := by
  simp only [State.selAt, selRaw_setSel, if_neg h]

theorem monRaw_setMon (s : State) (i a : Nat) (v : W64) : (s.setMon i v).monRaw a = if i = a then v else s.monRaw a := Store.get_put

theorem selRaw_setTimer (s : State) (key tph a : Nat) (start : Bool) : (s.setTimer key start tph).selRaw a = s.selRaw a := rfl

theorem selRaw_tick (s : State) (t a : Nat) : (s.tick t).selRaw a = s.selRaw a := rfl

/-- The values that the fields of LINE_STATE hold. -/
structure Pv.Fits (p : Pv) : Prop where
  req : p.req < 2 ^ 4
  cmd : p.cmd < 2 ^ 3
  tmr : p.tmr < 2 ^ 17
  tph : p.tph < 2 ^ 2
  cond : p.cond < 2 ^ 4

theorem pvOfGrp_fits (s : State) (w : Nat) : (s.pvOfGrp w).Fits := ⟨bits_lt .., bits_lt .., bits_lt .., bits_lt .., bits_lt ..⟩

theorem lineState_setLineState {s : State} {w : Nat} {p : Pv} (h : p.Fits) : (s.setLineState w p).lineState w =
    p.req + p.cmd * 2 ^ 4 + p.tmr * 2 ^ 7 + p.tph * 2 ^ 24 + p.cond * 2 ^ 26 := by
  obtain ⟨hreq, hcmd, htmr, htph, hcond⟩ := h
  rw [State.lineState, State.setLineState, State.reg_setReg, if_pos rfl, BitVec.toNat_ofNat]
  exact Nat.mod_eq_of_lt (by omega)

theorem grp_setLineState (s : State) (w : Nat) (p : Pv) : (s.setLineState w p).grp w = s.grp w :=
  (State.reg_setReg ..).trans (if_neg (by omega))

/-- What is stored in LINE_STATE reads back; the rest of the view is LINE_GRP's. -/
theorem pvOfGrp_setLineState {s : State} {w : Nat} {p : Pv} (h : p.Fits) : (s.setLineState w p).pvOfGrp w =
    { p with act := (s.pvOfGrp w).act, rev := (s.pvOfGrp w).rev, holdoff := (s.pvOfGrp w).holdoff, wtr := (s.pvOfGrp w).wtr } := by
  have hstate := lineState_setLineState (s := s) (w := w) h
  obtain ⟨hreq, hcmd, htmr, htph, hcond⟩ := h
  simp only [State.pvOfGrp, grp_setLineState, hstate, bits, Pv.mk.injEq, true_and]
  omega

end Sys2Proof.Machine
end

section
/-! Proofs: DELETE of a line group that is switched or is none (O33; R144). -/
namespace Sys2Proof.Machine

theorem grpDelete_busy {d : List W32} {w : Nat} {s : State} (hu : gUsed (s.grp w) = true) (h : gSel (s.grp w) = true ∨ gBr (s.grp w) = true) :
    s.grpDelete d w = .refuse .busy := by
  have hor : (gSel (s.grp w) || gBr (s.grp w)) = true := (Bool.or_eq_true _ _).mpr h
  simp only [State.grpDelete, hu, hor, Bool.not_true, Bool.false_eq_true, if_false, if_true]

theorem grpDelete_badParam {d : List W32} {w : Nat} {s : State} (hu : gUsed (s.grp w) = false) : s.grpDelete d w = .refuse .badParam := by
  simp only [State.grpDelete, hu, Bool.not_false, if_true]

/-- Settles O33: the work of the DELETE is the group's, which `grpDelete` refuses. -/
theorem groupDeleteRefused : Obligations.GroupDeleteRefused := by
  intro x i k w s hs hok hcase hkind hdel hidx
  have hexec := exec_selWrite_group hs hok hcase hkind hidx
  rw [hdel, if_pos rfl] at hexec
  refine ⟨fun hu h => ?_, fun hu => ?_⟩
  · rw [hexec, grpDelete_busy (s := s.tick x.t) hu h, Ans.settle_refuse]
  · rw [hexec, grpDelete_badParam (s := s.tick x.t) hu, Ans.settle_refuse]

end Sys2Proof.Machine
end

section
/-! Proofs: the evaluator's choice and the selection timers (O36; R123 to R125). -/
namespace Sys2Proof.Machine

/-! ### The request that the evaluator takes (R123) -/

theorem Pv.waits_eq_false_of_tph {p : Pv} {r : Nat} (h : p.tph ≠ 1) : p.waits r = false := by
  simp only [Pv.waits, beq_eq_false_iff_ne.2 h, Bool.false_and]

/-- Clearing a stored command leaves the rest of the view alone. -/
theorem Pv.yield_rest (p : Pv) (r : Nat) : p.yield r = { p with cmd := (p.yield r).cmd } := by
  rw [Pv.yield]
  split <;> rfl

@[simp] theorem Pv.yield_req (p : Pv) (r : Nat) : (p.yield r).req = p.req := by rw [Pv.yield_rest]

@[simp] theorem Pv.yield_act (p : Pv) (r : Nat) : (p.yield r).act = p.act := by rw [Pv.yield_rest]

/-- Without a hold-off timer in the way the request is taken, and the ACT that goes with it unless FREEZE holds it: what settling does after
that changes the timer and the stored command. -/
theorem Pv.settle_takes {p : Pv} {r : Nat} {start frozen : Bool} (h : p.waits r = false) :
    (p.settle r start frozen).1.req = r ∧ (p.settle r start frozen).1.act = if frozen then p.act else actOf r p.act := by
  simp [Pv.settle, h, apply_ite Pv.req, apply_ite Pv.act]

/-- While a hold-off timer is in the way, all but a stored command stays (R124). -/
theorem Pv.settle_waits {p : Pv} {r : Nat} {start frozen : Bool} (h : p.waits r = true) : (p.settle r start frozen).1 = p.yield r := by
  simp only [Pv.settle, h, if_true]

theorem Pv.base_of_best {p : Pv} {r : Nat} (h : p.best = some r) : p.base = (r, false) := by simp only [Pv.base, h]

/-- The highest request present is taken. -/
theorem Pv.settle_best {p : Pv} {r : Nat} (ht : p.tph ≠ 1) (h : p.best = some r) :
    (p.settle p.base.1 p.base.2 false).1.req = r ∧ (p.settle p.base.1 p.base.2 false).1.act = actOf r p.act := by
  rw [Pv.base_of_best h]
  exact Pv.settle_takes (Pv.waits_eq_false_of_tph ht)

theorem Pv.has_of_cond {p : Pv} (h : p.cond = 0) (i : Nat) : p.has i = false := by
  rw [Pv.has, h, bitOf_eq_testBit, Nat.zero_testBit]

theorem Pv.best_lo {p : Pv} (h : p.cmd = 1) : p.best = some 15 := if_pos h

section
variable {p : Pv} (hlo : p.cmd ≠ 1)
include hlo

theorem Pv.best_sfP (h : p.has 2 = true) : p.best = some 14 := by simp only [Pv.best, hlo, h, if_false, if_true]

theorem Pv.best_sfW (hfs : p.cmd ≠ 2) (hsfP : p.has 2 = false) (h : p.has 0 = true) : p.best = some 12 := by
  simp [Pv.best, hlo, hfs, hsfP, h]

theorem Pv.best_sdP (hfs : p.cmd ≠ 2) (hsfP : p.has 2 = false) (hsfW : p.has 0 = false) (h : p.has 3 = true) : p.best = some 11 := by
  simp [Pv.best, hlo, hfs, hsfP, hsfW, h]

theorem Pv.best_sdW (hfs : p.cmd ≠ 2) (hsfP : p.has 2 = false) (hsfW : p.has 0 = false) (hsdP : p.has 3 = false) (h : p.has 1 = true) :
    p.best = some 10 := by
  simp [Pv.best, hlo, hfs, hsfP, hsfW, hsdP, h]

end

theorem Pv.best_fs {p : Pv} (hsfP : p.has 2 = false) (h : p.cmd = 2) : p.best = some 13 := by simp [Pv.best, hsfP, h]

/-- Without a condition, the command and the wait-to-restore timer decide. -/
theorem Pv.best_of_cond {p : Pv} (h : p.cond = 0) : p.best =
    if p.cmd = 1 then some 15 else if p.cmd = 2 then some 13 else if p.cmd = 3 then some 8 else if p.cmd = 4 then some 7
    else if p.tph = 2 then some 6 else if p.cmd = 5 then some 4 else none := by
  simp only [Pv.best, Pv.has_of_cond h, Bool.false_eq_true, if_false]

/-- EXER leaves ACT and is cleared. -/
theorem Pv.settle_exer {p : Pv} (ht : p.tph ≠ 1) (h : p.best = some 4) :
    (p.settle p.base.1 p.base.2 false).1.req = 4 ∧ (p.settle p.base.1 p.base.2 false).1.act = p.act ∧
      (p.settle p.base.1 p.base.2 false).1.cmd = 0 := by
  obtain ⟨hreq, hact⟩ := Pv.settle_best ht h
  refine ⟨hreq, hact, ?_⟩
  rw [Pv.base_of_best h]
  simp only [Pv.settle, Pv.waits_eq_false_of_tph ht, Bool.false_eq_true, if_false, if_true]

/-- Without a request a revertive selector that a working condition had switched waits to restore. -/
theorem Pv.settle_waitToRestore {p : Pv} (ht : p.tph ≠ 1) (h : p.best = none) (hcmd : p.cmd = 0) (hact : p.act = true) (hrev : p.rev = true)
    (hreq : p.req = 12 ∨ p.req = 10) :
    (p.settle p.base.1 p.base.2 false).1 = { p with req := 6, act := true, tph := 2, tmr := 100 * p.wtr } := by
  have hbase : p.base = (6, true) := by
    rcases hreq with hreq | hreq <;> simp only [Pv.base, h, hact, hrev, hreq] <;> rfl
  rw [hbase]
  simp [Pv.settle, Pv.waits_eq_false_of_tph ht, Pv.yield, hcmd, actOf]

/-- Without a request a selector that is not revertive stays. -/
theorem Pv.settle_notRevertive {p : Pv} (ht : p.tph ≠ 1) (h : p.best = none) (hact : p.act = true) (hrev : p.rev = false) :
    (p.settle p.base.1 p.base.2 false).1.req = 1 ∧ (p.settle p.base.1 p.base.2 false).1.act = true := by
  have hbase : p.base = (1, false) := by simp only [Pv.base, h, hact, hrev]; rfl
  rw [hbase]
  exact Pv.settle_takes (Pv.waits_eq_false_of_tph ht)

/-- Without a request a selector on the working side rests. -/
theorem Pv.settle_idle {p : Pv} (ht : p.tph ≠ 1) (h : p.best = none) (hact : p.act = false) :
    (p.settle p.base.1 p.base.2 false).1.req = 0 ∧ (p.settle p.base.1 p.base.2 false).1.act = false := by
  have hbase : p.base = (0, false) := by simp only [Pv.base, h, hact]; rfl
  rw [hbase]
  exact Pv.settle_takes (Pv.waits_eq_false_of_tph ht)

/-! ### Timers that are due (R124, R125) -/

/-- The view as a hold-off ends: what the working monitor shows is accepted. -/
def Pv.accept (p : Pv) (m : MonPair) : Pv :=
  { p with tph := 0, tmr := 0, cond := b2n m.wSf + 2 * b2n m.wSd + 4 * b2n (p.has 2) + 8 * b2n (p.has 3) }

/-- The view as a wait-to-restore ends. -/
def Pv.stop (p : Pv) : Pv := { p with tph := 0, tmr := 0 }

/-- The four conditions of COND in their places. -/
theorem bitOf_conds (a b c d : Bool) : b2n a + 2 * b2n b + 4 * b2n c + 8 * b2n d < 2 ^ 4 ∧
    bitOf (b2n a + 2 * b2n b + 4 * b2n c + 8 * b2n d) 0 = a ∧ bitOf (b2n a + 2 * b2n b + 4 * b2n c + 8 * b2n d) 1 = b := by
  revert a b c d
  decide

theorem Pv.accept_fits {p : Pv} (h : p.Fits) (m : MonPair) : (p.accept m).Fits :=
  ⟨h.req, h.cmd, Nat.two_pow_pos 17, Nat.two_pow_pos 2, (bitOf_conds ..).1⟩

theorem Pv.stop_fits {p : Pv} (h : p.Fits) : p.stop.Fits := ⟨h.req, h.cmd, Nat.two_pow_pos 17, Nat.two_pow_pos 2, h.cond⟩

theorem timerDue_of_get {s : State} {key n t0 : Nat} (h : Store.get (fun _ => none) s.sel.timers key = some t0) (hdue : t0 + n * 1000000 ≤ s.now) :
    s.timerDue key n = true := by
  simp only [State.timerDue, h]
  exact decide_eq_true hdue

theorem get_setTimer_end (s : State) (key : Nat) : Store.get (fun _ => none) (s.setTimer key false 0).sel.timers key = none := by
  simp only [State.setTimer, State.mapSel_sel, Bool.false_eq_true, if_false, if_true, Store.get_put_same]

/-- Selector `n` at the tick of its timer's end, with the timer ended and before it is evaluated. -/
def State.expireSel (s : State) (t n : Nat) (p : Pv) : State :=
  ((s.tick t).setSel n (selWith (s.selAt n) p)).setTimer n false 0

theorem expireSel_selRaw {s : State} {t n a : Nat} {p : Pv} :
    (s.expireSel t n p).selRaw a = if n = a then selWith (s.selAt n) p else s.selRaw a := by
  rw [State.expireSel, selRaw_setTimer, selRaw_setSel, selRaw_tick]

theorem expireSel_frame (s : State) (t n : Nat) (p : Pv) : (s.expireSel t n p).selRaw n = selWith (s.selAt n) p ∧
    Store.get (fun _ => none) (s.expireSel t n p).sel.timers n = none ∧ (∀ a, a ≠ n → (s.expireSel t n p).selRaw a = s.selRaw a) ∧
    (s.expireSel t n p).regs = s.regs ∧ (s.expireSel t n p).map = s.map :=
  ⟨expireSel_selRaw.trans (if_pos rfl), get_setTimer_end .., fun _ ha => expireSel_selRaw.trans (if_neg ha.symm), rfl, rfl⟩

section
variable {t : Nat} {n : BitVec 20} {t0 : Nat} {s : State} (htimer : Store.get (fun _ => none) s.sel.timers n.toNat = some t0)
  (hlive : s.selLive n.toNat = true) (hdue : t0 + vTmr (s.selAt n.toNat) * 1000000 ≤ max s.now t)
include htimer hlive hdue

theorem exec_holdoffExpiry_selector (htph : vTph (s.selAt n.toNat) = 1) : exec (.holdoffExpiry t false n) s = .next
    (((s.expireSel t n.toNat ((pvOfSel (s.selAt n.toNat)).accept
      (s.monPair (vMonW (s.selAt n.toNat)) (vMonP (s.selAt n.toNat))))).openBurst true).evalSel n.toNat) :=
  if_pos ⟨hlive, htph, timerDue_of_get (s := s.tick t) htimer hdue⟩

theorem exec_wtrExpiry_selector (htph : vTph (s.selAt n.toNat) = 2) : exec (.wtrExpiry t false n) s = .next
    (((s.expireSel t n.toNat (pvOfSel (s.selAt n.toNat)).stop).openBurst true).evalSel n.toNat) :=
  if_pos ⟨hlive, htph, timerDue_of_get (s := s.tick t) htimer hdue⟩

end

/-- The group of port `w` at the tick of its timer's end, with the timer ended and before it is evaluated. -/
def State.expireGrp (s : State) (t w : Nat) (p : Pv) : State := ((s.tick t).setLineState w p).setTimer (protKey true w) false 0

theorem expireGrp_frame (s : State) (t w : Nat) (p : Pv) : (s.expireGrp t w p).grp w = s.grp w ∧
    (s.expireGrp t w p).sel.sels = s.sel.sels ∧ RegsKept s (s.expireGrp t w p) [0x40090200 + w * 0x4] :=
  ⟨grp_setLineState .., rfl, kept_setReg (s := s.tick t) (List.mem_singleton_self _)⟩

theorem expireGrp_pvOfGrp {s : State} {t w : Nat} {p : Pv} (h : p.Fits) : (s.expireGrp t w p).pvOfGrp w =
    { p with act := (s.pvOfGrp w).act, rev := (s.pvOfGrp w).rev, holdoff := (s.pvOfGrp w).holdoff, wtr := (s.pvOfGrp w).wtr } :=
  pvOfGrp_setLineState (s := s.tick t) h

section
variable {t : Nat} {n : BitVec 20} {t0 : Nat} {s : State} (htimer : Store.get (fun _ => none) s.sel.timers (2 ^ 20 + n.toNat) = some t0)
  (hn : n.toNat < 48) (hdue : t0 + (s.pvOfGrp n.toNat).tmr * 1000000 ≤ max s.now t)
include htimer hn hdue

theorem exec_holdoffExpiry_group (htph : (s.pvOfGrp n.toNat).tph = 1) : exec (.holdoffExpiry t true n) s = .next
    (((s.expireGrp t n.toNat ((s.pvOfGrp n.toNat).accept (s.monPair n.toNat (gProt (s.grp n.toNat))))).openBurst true).evalGrp n.toNat) :=
  if_pos ⟨hn, htph, timerDue_of_get (s := s.tick t) htimer hdue⟩

theorem exec_wtrExpiry_group (htph : (s.pvOfGrp n.toNat).tph = 2) : exec (.wtrExpiry t true n) s = .next
    (((s.expireGrp t n.toNat (s.pvOfGrp n.toNat).stop).openBurst true).evalGrp n.toNat) :=
  if_pos ⟨hn, htph, timerDue_of_get (s := s.tick t) htimer hdue⟩

theorem holdoffExpiry_endsGroup (htph : (s.pvOfGrp n.toNat).tph = 1) :
    ∃ u : State, exec (.holdoffExpiry t true n) s = .next ((u.openBurst true).evalGrp n.toNat) ∧
      (u.pvOfGrp n.toNat).tph = 0 ∧ (u.pvOfGrp n.toNat).has 0 = mSf (s.monAt n.toNat) ∧ (u.pvOfGrp n.toNat).has 1 = mSd (s.monAt n.toNat) ∧
      u.grp n.toNat = s.grp n.toNat ∧ u.sel.sels = s.sel.sels ∧ RegsKept s u [0x40090200 + n.toNat * 0x4] := by
  refine ⟨_, exec_holdoffExpiry_group htimer hn hdue htph, ?_⟩
  obtain ⟨-, hsf, hsd⟩ := bitOf_conds (mSf (s.monAt n.toNat)) (mSd (s.monAt n.toNat)) ((s.pvOfGrp n.toNat).has 2) ((s.pvOfGrp n.toNat).has 3)
  rw [expireGrp_pvOfGrp (Pv.accept_fits (pvOfGrp_fits ..) _)]
  exact ⟨rfl, hsf, hsd, expireGrp_frame ..⟩

theorem wtrExpiry_endsGroup (htph : (s.pvOfGrp n.toNat).tph = 2) :
    ∃ u : State, exec (.wtrExpiry t true n) s = .next ((u.openBurst true).evalGrp n.toNat) ∧
      u.pvOfGrp n.toNat = (s.pvOfGrp n.toNat).stop ∧
      u.grp n.toNat = s.grp n.toNat ∧ u.sel.sels = s.sel.sels ∧ RegsKept s u [0x40090200 + n.toNat * 0x4] :=
  ⟨_, exec_wtrExpiry_group htimer hn hdue htph, expireGrp_pvOfGrp (Pv.stop_fits (pvOfGrp_fits ..)), expireGrp_frame ..⟩

end

/-- Settles O36: the request by the table of R123 and what settling makes of it, a timer's end by what it stores before the evaluation. -/
theorem evaluationAndSelectionTimers : Obligations.EvaluationAndSelectionTimers := by
  refine ⟨fun p => ⟨fun ht => ⟨?lo, ?sfP, ?fs, ?sfW, ?sdP, ?sdW, ?ms, ?msW, ?exer, ?wtr, ?stay, ?idle, ?frozen⟩, fun ht hreq hbase => ?waits⟩,
    fun t n t0 s => ⟨fun htimer hlive hdue => ⟨fun htph => ?_, fun htph => ?_⟩, fun htimer hn hdue => ⟨?_, ?_⟩⟩⟩
  case lo => exact fun h => Pv.settle_best ht (Pv.best_lo h)
  case sfP => exact fun hlo h => Pv.settle_best ht (Pv.best_sfP hlo h)
  case fs => exact fun h hsfP => Pv.settle_best ht (Pv.best_fs hsfP h)
  case sfW => exact fun hlo hfs hsfP h => Pv.settle_best ht (Pv.best_sfW hlo hfs hsfP h)
  case sdP => exact fun hlo hfs hsfP hsfW h => Pv.settle_best ht (Pv.best_sdP hlo hfs hsfP hsfW h)
  case sdW => exact fun hlo hfs hsfP hsfW hsdP h => Pv.settle_best ht (Pv.best_sdW hlo hfs hsfP hsfW hsdP h)
  case ms => exact fun hc h => Pv.settle_best ht (by simp [Pv.best_of_cond hc, h])
  case msW => exact fun hc h => Pv.settle_best ht (by simp [Pv.best_of_cond hc, h])
  case exer => exact fun hc h ht2 => Pv.settle_exer ht (by simp [Pv.best_of_cond hc, h, ht2])
  case wtr =>
    intro hc hcmd htph hact hrev hreq
    have hset := Pv.settle_waitToRestore ht (by simp [Pv.best_of_cond hc, hcmd, htph]) hcmd hact hrev hreq
    exact ⟨congrArg Pv.req hset, congrArg Pv.act hset, congrArg Pv.tph hset, congrArg Pv.tmr hset⟩
  case stay => exact fun hc hcmd htph hact hrev => Pv.settle_notRevertive ht (by simp [Pv.best_of_cond hc, hcmd, htph]) hact hrev
  case idle => exact fun hc hcmd htph hact => Pv.settle_idle ht (by simp [Pv.best_of_cond hc, hcmd, htph]) hact
  case frozen => exact (Pv.settle_takes (Pv.waits_eq_false_of_tph ht)).2
  case waits =>
    have hwaits : p.waits p.base.1 = true := by simp [Pv.waits, ht, hreq, hbase]
    rw [Pv.settle_waits hwaits, Pv.yield_rest]
    exact ⟨rfl, rfl, ht, rfl⟩
  · exact ⟨_, exec_holdoffExpiry_selector htimer hlive hdue htph, expireSel_frame ..⟩
  · exact ⟨_, exec_wtrExpiry_selector htimer hlive hdue htph, expireSel_frame ..⟩
  · exact holdoffExpiry_endsGroup htimer hn hdue
  · exact wtrExpiry_endsGroup htimer hn hdue

end Sys2Proof.Machine
end

section
/-! Proofs: what reading a command's records leaves alone of the tests on selectors and monitors (R131, R135, R257). -/
namespace Sys2Proof.Machine

/-- Records out of an input buffer that is read. -/
theorem readBuf_map_ok {α : Type} {s u r : State} {a : W64} {n : Nat} {x : Exe} {f : List W8 → α} {y : α} (h : OnlyEarlyRegs s u)
    (e : (u.readBuf a n x).map (fun z => (z.1, f z.2)) = .ok (r, y)) : OnlyEarlyRegs s r := by
  cases hr : u.readBuf a n x with
  | error _ => rw [hr] at e; cases e
  | ok p =>
    rw [hr] at e
    cases e
    exact readBuf_ok h hr

theorem selRecords_ok {s u r : State} {d : List W32} {x : Exe} {recs : List W128} (h : OnlyEarlyRegs s u)
    (e : selRecords u d x = .ok (r, recs)) : OnlyEarlyRegs s r := by
  simp only [selRecords] at e
  split at e
  · cases e
    exact h
  · exact readBuf_map_ok h e

theorem monRecords_ok {s u r : State} {d : List W32} {x : Exe} {recs : List W64} (h : OnlyEarlyRegs s u)
    (e : monRecords u d x = .ok (r, recs)) : OnlyEarlyRegs s r := by
  rw [monRecords] at e
  split at e
  · cases e
    exact h
  · exact readBuf_map_ok h e

/-- Record `j` of a command stands for key `first + j`. -/
theorem mem_zip_block {α : Type} {recs : List α} {first n a : Nat} {r d : α} (hn : recs.length = n)
    (h : (a, r) ∈ ((List.range n).map (first + ·)).zip recs) : ∃ j, j < n ∧ a = first + j ∧ r = recs.getD j d := by
  obtain ⟨j, hj, hget⟩ := List.mem_iff_getElem.1 h
  rw [List.getElem_zip, List.getElem_map, List.getElem_range, Prod.mk.injEq] at hget
  have hjr : j < recs.length := by simp at hj; omega
  refine ⟨j, by omega, hget.1.symm, ?_⟩
  rw [List.getD_eq_getElem _ _ hjr, hget.2]

section
variable {s u : State} (h : OnlyEarlyRegs s u)
include h

theorem OnlyEarlyRegs.selAt (i : Nat) : u.selAt i = s.selAt i := by simp only [State.selAt, State.selRaw, h.sel]

theorem OnlyEarlyRegs.validSels : u.validSels = s.validSels := by simp only [State.validSels, h.sel, h.selAt]

theorem OnlyEarlyRegs.selFirst (d : List W32) : u.selFirst d = s.selFirst d := by simp only [State.selFirst, h.validSels]

theorem OnlyEarlyRegs.recordOk : u.recordOk = s.recordOk := by
  funext r
  simp only [State.recordOk, h.monAt]

theorem OnlyEarlyRegs.monRaw (i : Nat) : u.monRaw i = s.monRaw i := by simp only [State.monRaw, h.sel]

theorem OnlyEarlyRegs.usedMons : u.usedMons = s.usedMons := by simp only [State.usedMons, h.sel, h.monAt]

theorem OnlyEarlyRegs.monNamed (i : Nat) : u.monNamed i = s.monNamed i := by simp only [State.monNamed, h.validSels, h.selAt]

theorem OnlyEarlyRegs.descr (p c : Nat) : u.descr p c = s.descr p c := by
  simp only [State.descr, h.kept (prtBase p + 0x400 + 4 * (c / 2)) (by simp only [prtBase]; omega)]

theorem OnlyEarlyRegs.monRecordOk : u.monRecordOk = s.monRecordOk := by
  funext v
  simp only [State.monRecordOk, State.testBits, State.carriedBits, h.member, h.prtMode, h.descr]

end

end Sys2Proof.Machine
end

section
/-! Proofs: SEL_WRITE of selectors (O32; R115, R131 to R134). -/
namespace Sys2Proof.Machine

/-- A SEL_WRITE with KIND 00 that starts does the work of the selectors. -/
theorem exec_selWrite_selectors {x : Exe} {i : Nat} {k : Taken} {s : State} (hs : Starts s .selWrite x i k) (hok : selWriteOk k.d = true)
    (hcase : s.selWriteCase x.src k.d = true) (hkind : bits (word k.d 2) 22 2 = 0) :
    exec (.selWrite x) s = .next (((s.tick x.t).selWriteWork k.d x).settle i k x.rplOk (s.tick x.t)) := by
  have hcase' : (s.tick x.t).selWriteCase x.src k.d = true := hcase
  show Host.Outcome.next _ = _
  rw [State.run_starts hs hok]
  simp only [hcase', hkind, Bool.not_true, Bool.false_eq_true, if_false, if_true]

/-! ### Records put at consecutive selectors -/

theorem get_putSels_other {recs : List W128} {sels : List (Nat × W128)} {i a : Nat} (h : a < i ∨ i + recs.length ≤ a) :
    Store.get selDefault (putSels sels i recs) a = Store.get selDefault sels a := by
  induction recs generalizing sels i with
  | nil => rfl
  | cons r recs ih =>
    rw [List.length_cons] at h
    rw [putSels, ih (by omega), Store.get_put_other (by omega)]

theorem get_putSels_at {recs : List W128} {sels : List (Nat × W128)} {i j : Nat} (h : j < recs.length) :
    Store.get selDefault (putSels sels i recs) (i + j) =
      newSel (((decode114 (Store.get selDefault sels (i + j))).get?).getD 0) (recs.getD j 0) := by
  induction recs generalizing sels i j with
  | nil => exact absurd h (Nat.not_lt_zero j)
  | cons r recs ih =>
    cases j with
    | zero => rw [putSels, get_putSels_other (.inl (by omega))]; exact Store.get_put_same
    | succ j =>
      rw [putSels, show i + (j + 1) = i + 1 + j by omega, ih (Nat.lt_of_succ_lt_succ h), Store.get_put_other (by omega)]
      rfl

/-! ### What a write stores (R115, R132, R133) -/

/-- The records that change the DELTA of a selector that the active page names (R133). -/
def State.movedDeltas (s : State) (first n : Nat) (recs : List W128) : List (Nat × W128) :=
  (((List.range n).map (first + ·)).zip recs).filter fun y =>
    decide (vDelta (s.selAt y.1) ≠ vDelta y.2) && decide (selRefs s.active y.1 ≠ 0)

theorem movedDeltas_eq_nil {s : State} {first n : Nat} {recs : List W128} (hn : recs.length = n)
    (h : ∀ j, j < n → vDelta (s.selAt (first + j)) = vDelta (recs.getD j 0) ∨ selRefs s.active (first + j) = 0) :
    s.movedDeltas first n recs = [] := by
  refine List.filter_eq_nil_iff.2 fun y hy => ?_
  obtain ⟨j, hj, hkey, hrec⟩ := mem_zip_block (d := 0) hn hy
  rw [hkey, hrec]
  rcases h j hj with h | h <;> simp [h]

/-- The records move no DELTA, or move one within every bank's ceiling while no commit is in flight (R133). -/
def State.DeltasAllowed (s : State) (first n : Nat) (recs : List W128) : Prop :=
  s.movedDeltas first n recs = [] ∨ (s.commitInFlight = false ∧
    overLoad { s.checkEnv with sels := putSels s.sel.sels first recs } s.active = none ∧
    (s.flag F.MAP_STATUS_CHECK_VALID = true → overLoad { s.checkEnv with sels := putSels s.sel.sels first recs } s.shadow = none))

theorem OnlyEarlyRegs.deltasAllowed {s u : State} (h : OnlyEarlyRegs s u) (first n : Nat) (recs : List W128) :
    u.DeltasAllowed first n recs ↔ s.DeltasAllowed first n recs := by
  have hchecked := h.flag (f := F.MAP_STATUS_CHECK_VALID) (by decide)
  simp only [State.DeltasAllowed, State.movedDeltas, State.commitInFlight, h.selAt, h.active, h.shadow, h.map, h.sel, h.checkEnv, hchecked]

/-- The table with its records; what uncorrectable selectors held apart is forgotten. -/
def State.putSelTable (s : State) (first n : Nat) (recs : List W128) : State :=
  s.mapSel fun y => { y with
    sels := putSels s.sel.sels first recs
    held := ((List.range n).map (first + ·)).foldl (fun m i => Store.put (fun _ => none) m i none) y.held }

/-- The selectors with their records, before the evaluation. -/
def State.storeSels (d : List W32) (s : State) (first : Nat) (recs : List W128) : State :=
  let u := (s.putSelTable first (word d 3) recs).showSelUse
  (if (s.movedDeltas first (word d 3) recs).isEmpty then u else u.countRefs).mirrorSettings
    (d.set 2 (BitVec.ofNat 32 (word d 2 / 2 ^ 21 * 2 ^ 21 + first)))
    (if word64 d 4 = 0 then [] else recs.flatMap fun r => leBytes r.toNat 16)

theorem storeSels_frame (d : List W32) (s : State) (first : Nat) (recs : List W128) :
    (s.storeSels d first recs).sel.sels = putSels s.sel.sels first recs ∧ (s.storeSels d first recs).map = s.map ∧
      (s.storeSels d first recs).sel.mons = s.sel.mons ∧ (s.storeSels d first recs).sel.timers = s.sel.timers := by
  have hshown : OnlyRegs (s.putSelTable first (word d 3) recs) (s.putSelTable first (word d 3) recs).showSelUse := (OnlyRegs.refl _).wr
  have hm := mirrorSettings_onlyMirror
  simp only [State.storeSels, (hm ..).sel, (hm ..).map]
  obtain ⟨r, hr⟩ := hshown.ite (c := (s.movedDeltas first (word d 3) recs).isEmpty) (.foldl (fun _ _ h => h.wr) (List.range 48) hshown)
  rw [State.countRefs, hr]
  exact ⟨rfl, rfl, rfl, rfl⟩

/-- Records that pass the tests of R131 and R133 are stored. -/
theorem selStore_eq_ok {d : List W32} {s : State} {recs : List W128} {first : Nat} (hrec : recs.all s.recordOk = true)
    (hfirst : s.selFirst d = some first)
    (hpairs : pairsOk (putSels s.sel.sels first recs) ((List.range (word d 3)).map (first + ·)) = true)
    (hload : s.DeltasAllowed first (word d 3) recs) :
    State.selStore d s recs = .ok (((s.storeSels d first recs).openBurst true).evalAll ((List.range (word d 3)).map (first + ·)) []).wakeDemands
      [BitVec.ofNat 32 first, BitVec.ofNat 32 (word d 3)] := by
  rcases hload with hnone | ⟨hflight, hactive, hshadow⟩
  · rw [State.movedDeltas] at hnone
    simp only [State.selStore, State.storeSels, State.putSelTable, State.movedDeltas, hrec, hfirst, hpairs, hnone, List.isEmpty_nil, Bool.not_true,
      Bool.false_and, Bool.false_eq_true, if_false, if_true]
  · have hvalid := ite_eq_right_iff.2 hshadow
    simp only [State.selStore, hrec, hfirst, hpairs, hflight, hactive, hvalid, ite_self, Bool.and_false, Bool.not_true, Bool.false_eq_true,
      if_false]
    rfl

/-! ### What a delete leaves (R134) -/

/-- The selectors of a block that hold something. -/
def State.listedSels (s : State) (first n : Nat) : List Nat :=
  ((List.range n).map (first + ·)).filter fun j => decide (s.selRaw j ≠ 0)

/-- The selectors with those listed deleted. -/
def clearSels (sels : List (Nat × W128)) (l : List Nat) : List (Nat × W128) := l.foldl (fun m j => Store.put selDefault m j 0) sels

theorem clearSels_eq (sels : List (Nat × W128)) (l : List Nat) :
    clearSels sels l = (l.map fun j => (j, (0 : W128))).foldl (fun m y => Store.put selDefault m y.1 y.2) sels := by
  rw [clearSels, List.foldl_map]

theorem get_clearSels_zero {sels : List (Nat × W128)} {l : List Nat} {a : Nat} (h : Store.get selDefault sels a = 0 ∨ a ∈ l) :
    Store.get selDefault (clearSels sels l) a = 0 := by
  rw [clearSels_eq]
  exact Store.get_foldl_put (by simp) (h.imp_right fun ha => List.mem_map_of_mem ha)

theorem get_clearSels_other {sels : List (Nat × W128)} {l : List Nat} {a : Nat} (h : a ∉ l) :
    Store.get selDefault (clearSels sels l) a = Store.get selDefault sels a := by
  rw [clearSels_eq]
  refine Store.get_foldl_put (fun y hy hkey => absurd ?_ h) (.inl rfl)
  obtain ⟨j, hj, rfl⟩ := List.mem_map.1 hy
  exact hkey ▸ hj

/-- Selectors that nothing references are deleted, where no pair is left with one member of two. -/
theorem selDelete_eq_ok {d : List W32} {first : Nat} {s : State} (hfirst : bits (word d 2) 0 20 = first)
    (href : ∀ j, j < word d 3 → s.selReferenced (first + j) = false)
    (hpairs : pairsOk (clearSels s.sel.sels (s.listedSels first (word d 3))) (s.listedSels first (word d 3)) = true) :
    ∃ u : State, s.selDelete d = .ok u [BitVec.ofNat 32 first, BitVec.ofNat 32 (word d 3)] ∧
      u.sel.sels = clearSels s.sel.sels (s.listedSels first (word d 3)) ∧ u.map = s.map ∧ u.sel.mons = s.sel.mons := by
  have hany : ((List.range (word d 3)).map (first + ·)).any s.selReferenced = false := by simpa using href
  have hm := mirrorSettings_onlyMirror
  rw [clearSels, State.listedSels] at hpairs
  simp only [State.selDelete, hfirst, hpairs, hany, Bool.not_true, Bool.false_eq_true, if_false]
  exact ⟨_, rfl, by rw [(hm ..).sel]; rfl, (hm ..).map, by rw [(hm ..).sel]; rfl⟩

theorem selFirst_of_delete {s : State} {x : Exe} {d : List W32} {first : Nat} (hcase : s.selWriteCase x.src d = true)
    (hdel : bitOf (word d 2) 21 = true) (hfirst : s.selFirst d = some first) : bits (word d 2) 0 20 = first := by
  have halloc : bitOf (word d 2) 20 = false := by
    simp only [State.selWriteCase, hdel, Bool.and_true, Bool.and_eq_true, Bool.not_eq_true'] at hcase
    obtain ⟨⟨halloc, -⟩, -⟩ := hcase
    exact halloc
  rw [State.selFirst, halloc, if_neg (by decide)] at hfirst
  exact Option.some.inj hfirst

/-! ### The command -/

section
variable {x : Exe} {i : Nat} {k : Taken} {first : Nat} {s : State} (hs : Starts s .selWrite x i k) (hok : selWriteOk k.d = true)
  (hcase : s.selWriteCase x.src k.d = true) (hkind : bits (word k.d 2) 22 2 = 0) (hfirst : s.selFirst k.d = some first)
include hs hok hcase hkind hfirst

theorem selWrite_storesSelectors {recs : List W128} {v : State} (hdel : bitOf (word k.d 2) 21 = false)
    (hread : selRecords (s.tick x.t) k.d x = .ok (v, recs))
    (hn : recs.length = word k.d 3) (hrec : recs.all s.recordOk = true)
    (hpairs : pairsOk (putSels s.sel.sels first recs) ((List.range (word k.d 3)).map (first + ·)) = true)
    (hload : s.DeltasAllowed first (word k.d 3) recs) :
    ∃ u : State, exec (.selWrite x) s = .next (((u.openBurst true).evalAll ((List.range (word k.d 3)).map (first + ·)) []).wakeDemands.finish
        i k .ok [BitVec.ofNat 32 first, BitVec.ofNat 32 (word k.d 3)] x.rplOk) ∧
      (∀ j, j < word k.d 3 → u.selRaw (first + j) = newSel (s.selAt (first + j)) (recs.getD j 0)) ∧
      (∀ a, a < first ∨ first + word k.d 3 ≤ a → u.selRaw a = s.selRaw a) ∧ u.map = s.map ∧ u.sel.mons = s.sel.mons ∧
      u.sel.timers = s.sel.timers := by
  have hv : OnlyEarlyRegs s v := selRecords_ok (.tick s x.t) hread
  have hstore := selStore_eq_ok (d := k.d) (s := v) (recs := recs) (first := first) (by rwa [hv.recordOk]) (by rwa [hv.selFirst])
    (by rwa [hv.sel]) ((hv.deltasAllowed ..).2 hload)
  obtain ⟨hsels, hmap, hmons, htimers⟩ := storeSels_frame k.d v first recs
  rw [hv.sel] at hsels hmons htimers
  refine ⟨v.storeSels k.d first recs, ?_, fun j hj => ?_, fun a ha => ?_, hmap.trans hv.map, hmons, htimers⟩
  · rw [exec_selWrite_selectors hs hok hcase hkind, State.selWriteWork, hdel, if_neg (by decide), hread, Ans.reading, hstore, Ans.settle_since,
      Ans.settle_ok]
  · rw [State.selRaw, hsels]
    exact get_putSels_at (by omega)
  · rw [State.selRaw, hsels]
    exact get_putSels_other (by omega)

theorem selWrite_deletesSelectors (hdel : bitOf (word k.d 2) 21 = true)
    (href : ∀ j, j < word k.d 3 → s.selReferenced (first + j) = false)
    (hpairs : pairsOk (clearSels s.sel.sels (s.listedSels first (word k.d 3))) (s.listedSels first (word k.d 3)) = true) :
    ∃ u : State, exec (.selWrite x) s = .next (u.finish i k .ok [BitVec.ofNat 32 first, BitVec.ofNat 32 (word k.d 3)] x.rplOk) ∧
      (∀ j, j < word k.d 3 → u.selRaw (first + j) = 0) ∧ (∀ a, a < first ∨ first + word k.d 3 ≤ a → u.selRaw a = s.selRaw a) ∧
      u.map = s.map ∧ u.sel.mons = s.sel.mons := by
  have hindex := selFirst_of_delete hcase hdel hfirst
  obtain ⟨u, hwork, hsels, hmap, hmons⟩ := selDelete_eq_ok (s := s.tick x.t) hindex href hpairs
  refine ⟨u, ?_, fun j hj => ?_, fun a ha => ?_, hmap, hmons⟩
  · rw [exec_selWrite_selectors hs hok hcase hkind, State.selWriteWork, hdel, if_pos rfl, hwork, Ans.settle_ok]
  · rw [State.selRaw, hsels]
    refine get_clearSels_zero ?_
    by_cases hraw : s.selRaw (first + j) = 0
    · exact .inl hraw
    · exact .inr (List.mem_filter.2 ⟨List.mem_map.2 ⟨j, List.mem_range.2 hj, rfl⟩, decide_eq_true hraw⟩)
  · rw [State.selRaw, hsels]
    refine get_clearSels_other fun hmem => ?_
    obtain ⟨j, hj, rfl⟩ := List.mem_map.1 (List.mem_of_mem_filter hmem)
    have := List.mem_range.1 hj
    omega

end

/-- Settles O32: the records by the store they are put in before the evaluation, the delete by the store it leaves. -/
theorem selectorWrites : Obligations.SelectorWrites := by
  intro x i k recs first s v hs hok hcase hkind hfirst
  refine ⟨fun hdel hread hn hrec hpairs hload => ?_, fun hdel href hpairs => ?_⟩
  · refine selWrite_storesSelectors hs hok hcase hkind hfirst hdel hread hn hrec hpairs (hload.imp (movedDeltas_eq_nil hn) ?_)
    rintro ⟨hcommit, hcopy, hceilings⟩
    exact ⟨by rw [State.commitInFlight, hcommit, hcopy]; rfl, hceilings⟩
  · exact selWrite_deletesSelectors hs hok hcase hkind hfirst hdel href hpairs

end Sys2Proof.Machine
end

section
/-! Proofs: SEL_COMMAND and SEL_STATUS (O35; R126, R130). -/
namespace Sys2Proof.Machine

/-! ### SEL_COMMAND (R126) -/

theorem exec_selCommand_starts {x : Exe} {i : Nat} {k : Taken} {s : State} (hs : Starts s .selCommand x i k) (hok : selCommandOk k.d = true) :
    exec (.selCommand x) s = .next (((s.tick x.t).selCommandWork k.d).settle i k x.rplOk (s.tick x.t)) :=
  congrArg Host.Outcome.next (State.run_starts hs hok)

theorem present_of_acting {s : State} (h : s.acting = true) (key : Nat) (p : Pv) : s.present key p = p.best.getD 0 := if_pos h

/-- A command stored in selectors. -/
def State.commandSels (s : State) (c : Nat) (l : List Nat) : State := l.foldl (fun s j => s.setSel j (vPut (s.selAt j) 34 3 c)) s

theorem commandSels_selRaw {s : State} {c a : Nat} {l : List Nat} (h : l.Nodup) :
    (s.commandSels c l).selRaw a = if a ∈ l then vPut (s.selAt a) 34 3 c else s.selRaw a := by
  induction l generalizing s with
  | nil => rfl
  | cons j l ih =>
    obtain ⟨hj, hl⟩ := List.nodup_cons.1 h
    show ((s.setSel j (vPut (s.selAt j) 34 3 c)).commandSels c l).selRaw a = _
    rw [ih hl, selRaw_setSel]
    by_cases ha : j = a
    · subst ha
      simp [hj]
    · simp [selAt_setSel_other ha, ha, Ne.symm ha]

theorem commandSels_map (s : State) (c : Nat) (l : List Nat) : (s.commandSels c l).map = s.map :=
  foldl_keeps (g := State.map) (f := fun s j => s.setSel j (vPut (s.selAt j) 34 3 c)) (fun s _ => s.mapSel_map _) l s

theorem nodup_block (first n : Nat) : ((List.range n).map (first + ·)).Nodup := List.nodup_range.map fun _ _ => Nat.add_left_cancel

/-- The selectors that a SEL_COMMAND names and in which its command may be stored (R126). -/
def State.storableSels (s : State) (d : List W32) : List Nat :=
  ((List.range (word d 4)).map (bits (word d 2) 0 20 + ·)).filter fun j => storable ((pvOfSel (s.selAt j)).best.getD 0) (word d 3)

/-- The numbers of selectors that stored the command and that did not. -/
def State.storableCounts (s : State) (d : List W32) : List W32 :=
  [BitVec.ofNat 32 (s.storableSels d).length, BitVec.ofNat 32 (word d 4 - (s.storableSels d).length)]

theorem selCommandWork_selectors {d : List W32} {s : State} (hact : s.acting = true) (hcase : s.selCommandCase d = true)
    (hkind : bits (word d 2) 22 2 = 0) :
    s.selCommandWork d = .ok ((((s.commandSels (word d 3) (s.storableSels d)).mirrorSettings d []).openBurst
      (!(s.storableSels d).isEmpty)).evalAll (s.storableSels d) []) (s.storableCounts d) := by
  simp only [State.selCommandWork, hcase, hkind, present_of_acting hact, Bool.not_true, Bool.false_eq_true, if_false, if_true]
  rfl

/-- The group that a SEL_COMMAND names with the command stored. -/
def State.commandGrp (s : State) (d : List W32) : State :=
  s.setLineState (bits (word d 2) 0 20) { s.pvOfGrp (bits (word d 2) 0 20) with cmd := word d 3 }

theorem selCommandWork_group {d : List W32} {s : State} (hact : s.acting = true) (hcase : s.selCommandCase d = true)
    (hkind : bits (word d 2) 22 2 = 1) :
    s.selCommandWork d =
      if storable ((s.pvOfGrp (bits (word d 2) 0 20)).best.getD 0) (word d 3) then
        .ok ((((s.commandGrp d).mirrorSettings d []).openBurst true).evalAll [] [bits (word d 2) 0 20]) [1, 0]
      else .ok s [0, 1] := by
  simp only [State.selCommandWork, State.commandGrp, hcase, hkind, present_of_acting hact, Bool.not_true, Bool.false_eq_true, if_false, Nat.one_ne_zero]

theorem selCommandOk_cmd {d : List W32} (h : selCommandOk d = true) : word d 3 < 2 ^ 3 := by
  simp only [selCommandOk, onlyBits, Bool.and_eq_true, beq_iff_eq] at h
  obtain ⟨⟨⟨⟨-, hcmd⟩, -⟩, -⟩, -⟩ := h
  rw [← hcmd]
  exact Nat.lt_succ_of_le Nat.and_le_right

theorem mirrorSettings_pvOfGrp (s : State) (d : List W32) (data : List W8) (w : Nat) :
    (s.mirrorSettings d data).pvOfGrp w = s.pvOfGrp w := by
  have hm := mirrorSettings_onlyMirror s d data
  simp only [State.pvOfGrp, State.lineState, hm.grp, hm.kept (0x40090200 + w * 0x4) (.inr (by omega))]

section
variable {x : Exe} {i : Nat} {k : Taken} {s : State} (hs : Starts s .selCommand x i k) (hok : selCommandOk k.d = true)
  (hcase : s.selCommandCase k.d = true)
include hs hok hcase

theorem selCommand_selectors (hkind : bits (word k.d 2) 22 2 = 0) :
    ∃ v : State, exec (.selCommand x) s = .next
        (((v.openBurst (!(s.storableSels k.d).isEmpty)).evalAll (s.storableSels k.d) []).finish i k .ok (s.storableCounts k.d) x.rplOk) ∧
      (∀ a, v.selRaw a = if a ∈ s.storableSels k.d then vPut (s.selAt a) 34 3 (word k.d 3) else s.selRaw a) ∧ v.map = s.map := by
  have hm := mirrorSettings_onlyMirror ((s.tick x.t).commandSels (word k.d 3) (s.storableSels k.d)) k.d []
  refine ⟨_, ?_, fun a => ?_, hm.map.trans (commandSels_map ..)⟩
  · rw [exec_selCommand_starts hs hok, selCommandWork_selectors (s := s.tick x.t) (hs.holder rfl) hcase hkind, Ans.settle_ok]
    rfl
  · rw [State.selRaw, hm.sel]
    exact commandSels_selRaw ((nodup_block ..).filter _)

theorem selCommand_group (hkind : bits (word k.d 2) 22 2 = 1)
    (hst : storable ((s.pvOfGrp (bits (word k.d 2) 0 20)).best.getD 0) (word k.d 3) = true) :
    ∃ v : State, exec (.selCommand x) s = .next
        (((v.openBurst true).evalAll [] [bits (word k.d 2) 0 20]).finish i k .ok [1, 0] x.rplOk) ∧
      v.pvOfGrp (bits (word k.d 2) 0 20) = { s.pvOfGrp (bits (word k.d 2) 0 20) with cmd := word k.d 3 } ∧ v.sel = s.sel ∧ v.map = s.map := by
  have hm := mirrorSettings_onlyMirror ((s.tick x.t).commandGrp k.d) k.d []
  obtain ⟨hreq, -, htmr, htph, hcond⟩ := pvOfGrp_fits s (bits (word k.d 2) 0 20)
  have hfits : Pv.Fits { s.pvOfGrp (bits (word k.d 2) 0 20) with cmd := word k.d 3 } := ⟨hreq, selCommandOk_cmd hok, htmr, htph, hcond⟩
  refine ⟨_, ?_, ?_, hm.sel, hm.map⟩
  · rw [exec_selCommand_starts hs hok, selCommandWork_group (s := s.tick x.t) (hs.holder rfl) hcase hkind]
    exact congrArg (fun z => Host.Outcome.next (Ans.settle i k x.rplOk z (s.tick x.t))) (if_pos hst)
  · rw [mirrorSettings_pvOfGrp]
    exact pvOfGrp_setLineState (s := s.tick x.t) hfits

theorem selCommand_group_notStored (hkind : bits (word k.d 2) 22 2 = 1)
    (hst : storable ((s.pvOfGrp (bits (word k.d 2) 0 20)).best.getD 0) (word k.d 3) = false) :
    exec (.selCommand x) s = .next ((s.tick x.t).finish i k .ok [0, 1] x.rplOk) := by
  rw [exec_selCommand_starts hs hok, selCommandWork_group (s := s.tick x.t) (hs.holder rfl) hcase hkind]
  exact congrArg (fun z => Host.Outcome.next (Ans.settle i k x.rplOk z (s.tick x.t))) (if_neg (ne_true_of_eq_false hst))

end

/-! ### SEL_STATUS (R130) -/

/-- The state in which a SEL_STATUS reads its selectors: read errors are corrected. -/
def State.repaired (s : State) (d : List W32) : State := ((List.range (word d 3)).map (bits (word d 2) 0 20 + ·)).foldl State.repairSel s

section
variable {x : Exe} {i : Nat} {k : Taken} {s u : State} (hs : Starts s .selStatus x i k) (hword : onlyBits (word k.d 2) 0xCFFFFF = true)
  (hcount : onlyBits (word k.d 3) 0x1FFFFF = true) (hone : 1 ≤ word k.d 3) (halign : (word64 k.d 4).toNat % 8 = 0)
  (haddr : s.addrOk x.src (word64 k.d 4) (32 * word k.d 3) = true)
include hs hword hcount hone halign haddr

theorem selStatus_group (hkind : bits (word k.d 2) 22 2 = 1) (hrange : bits (word k.d 2) 0 20 + word k.d 3 ≤ 48)
    (hwrite : (s.tick x.t).writeBuf (word64 k.d 4)
      ((List.range (word k.d 3)).flatMap fun j => (s.tick x.t).grpRecord (bits (word k.d 2) 0 20 + j)) x = .ok u) :
    exec (.selStatus x) s = .next (u.finish i k .ok [BitVec.ofNat 32 (word k.d 3)] x.rplOk) := by
  have haddr' : (s.tick x.t).addrOk x.src (word64 k.d 4) (32 * word k.d 3) = true := haddr
  show Host.Outcome.next _ = _
  rw [State.run_starts hs (by simp [hkind, hword, hcount, hone, halign, haddr', hrange])]
  simp only [hkind, Nat.one_ne_zero, decide_false, Bool.false_eq_true, if_false, List.flatMap_map, hwrite, Ans.written, Ans.settle_ok]

theorem selStatus_selectors (hkind : bits (word k.d 2) 22 2 = 0) (hrange : bits (word k.d 2) 0 20 + word k.d 3 ≤ 2 ^ 20)
    (hwrite : ((s.tick x.t).repaired k.d).writeBuf (word64 k.d 4)
      ((List.range (word k.d 3)).flatMap fun j => ((s.tick x.t).repaired k.d).selRecord (bits (word k.d 2) 0 20 + j)) x = .ok u) :
    exec (.selStatus x) s = .next (u.finish i k .ok [BitVec.ofNat 32 (word k.d 3)] x.rplOk) := by
  have haddr' : (s.tick x.t).addrOk x.src (word64 k.d 4) (32 * word k.d 3) = true := haddr
  show Host.Outcome.next _ = _
  rw [State.run_starts hs (by simp only [hkind, hword, hcount, hone, halign, haddr', hrange]; rfl)]
  rw [State.repaired] at hwrite
  simp only [hkind, decide_true, if_true, List.flatMap_map, hwrite, Ans.written, Ans.settle_ok]

end

end Sys2Proof.Machine
end

section
/-! Proofs: MON_CONFIGURE (O35; R117, R120, R132, R135). -/
namespace Sys2Proof.Machine

/-- The data bits of a monitor that record `v` enables, over monitor `old` and with WL_PTR `p` (R117, R135). -/
def monData (old v : W64) (p : Nat) : Nat :=
  bits v.toNat 0 30 + (if mEn old = true then b2n (mSf old) * 2 ^ 30 + b2n (mSd old) * 2 ^ 31 else 0) + 2 ^ 32 + p * 2 ^ 33 +
    bits v.toNat 55 1 * 2 ^ 55

/-- `w` is monitor `old` after record `v` is written to it: enabled with some WL_PTR, or unused. -/
structure MonWritten (old v w : W64) : Prop where
  enabled : mEn v = true → ∃ p, p < 2 ^ 22 ∧ w = seal54 (monData old v p)
  unused : mEn v = false → w = monReset

theorem monAt_congr {s u : State} {a : Nat} (h : u.monRaw a = s.monRaw a) : u.monAt a = s.monAt a := by rw [State.monAt, h, State.monAt]

/-- What a monitor's record makes of the monitor that it is written to, and of no other. -/
theorem monRaw_putMon (s : State) (a b : Nat) (v : W64) : (s.putMon a v).monRaw b =
    if a = b then (if mEn v then seal54 (monData (s.monAt a) v ((Config.freeWord s.fresh).toNat % 2 ^ 22)) else monReset) else s.monRaw b := by
  cases hen : mEn v with
  | true =>
    simp only [State.putMon, monData, State.monRaw, State.monAt, State.setMon, State.mapSel_sel, State.mapSel_fresh, hen, if_true, Store.get_put]
    rfl
  | false =>
    simp only [State.putMon, State.monRaw, State.setMon, State.mapSel_sel, hen, Bool.false_eq_true, if_false, Store.get_put]

theorem putMon_writes (s : State) (a : Nat) (v : W64) : MonWritten (s.monAt a) v ((s.putMon a v).monRaw a) := by
  rw [monRaw_putMon, if_pos rfl]
  exact ⟨fun hen => ⟨_, Nat.mod_lt _ (Nat.two_pow_pos 22), if_pos hen⟩, fun hen => if_neg (ne_true_of_eq_false hen)⟩

theorem putMon_monRaw_other {s : State} {a b : Nat} {v : W64} (h : a ≠ b) : (s.putMon a v).monRaw b = s.monRaw b := by
  rw [monRaw_putMon, if_neg h]

theorem setMon_sels (s : State) (a : Nat) (w : W64) : (s.setMon a w).sel.sels = s.sel.sels := by rw [State.setMon, State.mapSel_sel]

theorem setMon_map (s : State) (a : Nat) (w : W64) : (s.setMon a w).map = s.map := by rw [State.setMon, State.mapSel_map]

theorem putMon_sels (s : State) (a : Nat) (v : W64) : (s.putMon a v).sel.sels = s.sel.sels := by
  rw [State.putMon]
  split <;> simp only [setMon_sels, State.mapSel_sel]

theorem putMon_map (s : State) (a : Nat) (v : W64) : (s.putMon a v).map = s.map := by
  rw [State.putMon]
  split <;> simp only [setMon_map, State.mapSel_map]

/-- Records written to monitors, one after another. -/
def State.putMons (s : State) (l : List (Nat × W64)) : State := l.foldl (fun s y => s.putMon y.1 y.2) s

theorem putMons_monRaw_other {s : State} {l : List (Nat × W64)} {a : Nat} (h : a ∉ l.map Prod.fst) : (s.putMons l).monRaw a = s.monRaw a := by
  induction l generalizing s with
  | nil => rfl
  | cons y l ih =>
    rw [List.map_cons, List.mem_cons, not_or] at h
    exact (ih (s := s.putMon y.1 y.2) h.2).trans (putMon_monRaw_other (Ne.symm h.1))

/-- Monitors that are named once each are written with their own records. -/
theorem putMons_writes {s : State} {l : List (Nat × W64)} {a : Nat} {v : W64} (hnd : (l.map Prod.fst).Nodup) (h : (a, v) ∈ l) :
    MonWritten (s.monAt a) v ((s.putMons l).monRaw a) := by
  induction l generalizing s with
  | nil => exact absurd h List.not_mem_nil
  | cons y l ih =>
    obtain ⟨hy, hl⟩ := List.nodup_cons.1 hnd
    show MonWritten _ _ (((s.putMon y.1 y.2).putMons l).monRaw a)
    rcases List.mem_cons.1 h with rfl | h
    · rw [putMons_monRaw_other hy]
      exact putMon_writes ..
    · have hne : y.1 ≠ a := fun e => hy (e ▸ List.mem_map_of_mem h)
      rw [← monAt_congr (putMon_monRaw_other (s := s) (v := y.2) hne)]
      exact ih hl h

theorem putMons_sels (s : State) (l : List (Nat × W64)) : (s.putMons l).sel.sels = s.sel.sels :=
  foldl_keeps (g := fun s => s.sel.sels) (f := fun s (y : Nat × W64) => s.putMon y.1 y.2) (fun s y => putMon_sels s y.1 y.2) l s

theorem putMons_map (s : State) (l : List (Nat × W64)) : (s.putMons l).map = s.map :=
  foldl_keeps (g := State.map) (f := fun s (y : Nat × W64) => s.putMon y.1 y.2) (fun s y => putMon_map s y.1 y.2) l s

/-! ### What the command stores (R120, R132, R135) -/

/-- The records that the command writes: an unused monitor that stays unused is left alone. -/
def State.liveRecords (s : State) (first n : Nat) (recs : List W64) : List (Nat × W64) :=
  (((List.range n).map (first + ·)).zip recs).filter fun y => mEn y.2 || s.monRaw y.1 != monReset

/-- The monitors with their records, before the demands. -/
def State.storeMons (d : List W32) (s : State) (first : Nat) (recs : List W64) : State :=
  (s.putMons (s.liveRecords first (word d 3) recs)).showMonUse.mirrorSettings
    (d.set 2 (BitVec.ofNat 32 (word d 2 / 2 ^ 22 * 2 ^ 22 + first)))
    (if bitOf (word d 2) 22 then [] else recs.flatMap fun r => leBytes r.toNat 8)

theorem storeMons_rest (d : List W32) (s : State) (first : Nat) (recs : List W64) :
    (s.storeMons d first recs).sel = (s.putMons (s.liveRecords first (word d 3) recs)).sel ∧ (s.storeMons d first recs).map = s.map := by
  have hm := mirrorSettings_onlyMirror
  exact ⟨(hm ..).sel, (hm ..).map.trans (putMons_map ..)⟩

section
variable {d : List W32} {s : State} {first : Nat} {recs : List W64}

theorem storeMons_writes (hn : recs.length = word d 3) {j : Nat} (hj : j < word d 3) :
    MonWritten (s.monAt (first + j)) (recs.getD j 0) ((s.storeMons d first recs).monRaw (first + j)) := by
  have hmem : (first + j, recs.getD j 0) ∈ ((List.range (word d 3)).map (first + ·)).zip recs := by
    refine List.mem_iff_getElem.2 ⟨j, by simp [hn, hj], ?_⟩
    simp [hn, hj]
  have hnd : ((s.liveRecords first (word d 3) recs).map Prod.fst).Nodup := by
    refine List.Nodup.sublist (List.filter_sublist.map Prod.fst) ?_
    rw [List.map_fst_zip (by simp [hn])]
    exact nodup_block ..
  rw [State.monRaw, (storeMons_rest ..).1]
  by_cases hlive : (mEn (recs.getD j 0) || s.monRaw (first + j) != monReset) = true
  · exact putMons_writes hnd (List.mem_filter.2 ⟨hmem, hlive⟩)
  · have hskip : first + j ∉ (s.liveRecords first (word d 3) recs).map Prod.fst := fun hkey => by
      obtain ⟨⟨b, v⟩, hy, hb⟩ := List.mem_map.1 hkey
      obtain ⟨hblock, hwritten⟩ := List.mem_filter.1 hy
      obtain ⟨j', -, rfl, rfl⟩ := mem_zip_block (d := 0) hn hblock
      obtain rfl := Nat.add_left_cancel hb
      exact hlive hwritten
    rw [Bool.not_eq_true, Bool.or_eq_false_iff, bne_eq_false_iff_eq] at hlive
    obtain ⟨hen, hraw⟩ := hlive
    exact ⟨fun h => absurd h (ne_true_of_eq_false hen), fun _ => (putMons_monRaw_other hskip).trans hraw⟩

theorem storeMons_monRaw_other (hn : recs.length = word d 3) {a : Nat} (h : a < first ∨ first + word d 3 ≤ a) :
    (s.storeMons d first recs).monRaw a = s.monRaw a := by
  rw [State.monRaw, (storeMons_rest ..).1]
  refine putMons_monRaw_other fun hmem => ?_
  obtain ⟨⟨b, v⟩, hy, rfl⟩ := List.mem_map.1 hmem
  obtain ⟨j, hj, hb, -⟩ := mem_zip_block (d := 0) hn (List.mem_of_mem_filter hy)
  dsimp only at h
  omega

/-- No record of the command disables a monitor that a valid selector names or stands for a port monitor of a group. -/
def State.MonsFree (s : State) (first n : Nat) (recs : List W64) : Prop :=
  ∀ j, j < n → (mEn (recs.getD j 0) = true ∨ s.monNamed (first + j) = false) ∧ (48 ≤ first + j ∨ grouped s.groups (first + j) = false)

theorem monsFree_any (hn : recs.length = word d 3) (h : s.MonsFree first (word d 3) recs) :
    ((((List.range (word d 3)).map (first + ·)).zip recs).any fun y =>
      (!mEn y.2 && s.monNamed y.1) || (decide (y.1 < 48) && grouped s.groups y.1)) = false := by
  refine List.any_eq_false.2 fun y hy => ?_
  obtain ⟨j, hj, hkey, hval⟩ := mem_zip_block (d := 0) hn hy
  obtain ⟨hnamed, hgroup⟩ := h j hj
  rw [← hval, ← hkey] at hnamed
  rw [← hkey] at hgroup
  rcases hnamed with h | h <;> rcases hgroup with h' | h' <;> simp [h, h']

/-- Records that pass the tests of R120 and R135 are stored where they disable no monitor that a valid selector names and write no port
monitor of a group. -/
theorem monStore_eq_ok (hn : recs.length = word d 3) (hrec : bitOf (word d 2) 22 = true ∨ recs.all s.monRecordOk = true)
    (hfirst : if bitOf (word d 2) 21 then freeBlock (2 ^ 21) (word d 3) s.usedMons 0 = some first else first = bits (word d 2) 0 21)
    (hfree : bitOf (word d 2) 21 = true ∨ s.MonsFree first (word d 3) recs) :
    State.monStore d s recs = .ok (s.storeMons d first recs).wakeDemands [BitVec.ofNat 32 first, BitVec.ofNat 32 (word d 3)] := by
  have hok : (!bitOf (word d 2) 22 && !recs.all s.monRecordOk) = false := by
    rcases hrec with h | h <;> simp only [h, Bool.not_true, Bool.false_and, Bool.and_false]
  cases halloc : bitOf (word d 2) 21 with
  | true =>
    rw [halloc, if_pos rfl] at hfirst
    simp only [State.monStore, hok, halloc, hfirst, Option.isNone_some, Option.getD_some, Bool.not_true, Bool.false_and, Bool.and_false,
      Bool.false_eq_true, if_false, if_true]
    rfl
  | false =>
    rw [halloc] at hfirst hfree
    obtain rfl := hfirst
    have hbusy := monsFree_any hn (hfree.resolve_left Bool.false_ne_true)
    simp only [State.monStore, hok, halloc, hbusy, Bool.not_false, Bool.false_and, Bool.and_false, Bool.false_eq_true, if_false]
    rfl

end

/-- A MON_CONFIGURE that starts does the work of the monitors. -/
theorem exec_monConfigure_starts {x : Exe} {i : Nat} {k : Taken} {s : State} (hs : Starts s .monConfigure x i k)
    (hok : monConfigureOk k.d = true) (hcase : s.monCase x.src k.d = true) :
    exec (.monConfigure x) s = .next (((s.tick x.t).monWork k.d x).settle i k x.rplOk (s.tick x.t)) := by
  have hcase' : (s.tick x.t).monCase x.src k.d = true := hcase
  show Host.Outcome.next _ = _
  rw [State.run_starts hs hok]
  simp only [hcase', Bool.not_true, Bool.false_eq_true, if_false]

theorem monConfigure_stores {x : Exe} {i : Nat} {k : Taken} {recs : List W64} {first : Nat} {s v : State}
    (hs : Starts s .monConfigure x i k) (hok : monConfigureOk k.d = true) (hcase : s.monCase x.src k.d = true)
    (hread : monRecords (s.tick x.t) k.d x = .ok (v, recs))
    (hfirst : if bitOf (word k.d 2) 21 then freeBlock (2 ^ 21) (word k.d 3) s.usedMons 0 = some first else first = bits (word k.d 2) 0 21)
    (hn : recs.length = word k.d 3) (hrec : bitOf (word k.d 2) 22 = true ∨ recs.all s.monRecordOk = true)
    (hfree : bitOf (word k.d 2) 21 = true ∨ s.MonsFree first (word k.d 3) recs) :
    ∃ u : State, exec (.monConfigure x) s =
        .next (u.wakeDemands.finish i k .ok [BitVec.ofNat 32 first, BitVec.ofNat 32 (word k.d 3)] x.rplOk) ∧
      (∀ j, j < word k.d 3 → MonWritten (s.monAt (first + j)) (recs.getD j 0) (u.monRaw (first + j))) ∧
      (∀ a, a < first ∨ first + word k.d 3 ≤ a → u.monRaw a = s.monRaw a) ∧ u.sel.sels = s.sel.sels ∧ u.map = s.map := by
  have hv : OnlyEarlyRegs s v := monRecords_ok (.tick s x.t) hread
  have hfree' : bitOf (word k.d 2) 21 = true ∨ v.MonsFree first (word k.d 3) recs := by
    simpa only [State.MonsFree, hv.monNamed, hv.groups] using hfree
  obtain ⟨hsel, hmap⟩ := storeMons_rest k.d v first recs
  refine ⟨v.storeMons k.d first recs, ?_, fun j hj => ?_, fun a ha => ?_, ?_, hmap.trans hv.map⟩
  · rw [exec_monConfigure_starts hs hok hcase, State.monWork, hread, Ans.reading, Ans.settle_since,
      monStore_eq_ok hn (by rwa [hv.monRecordOk]) (by rwa [hv.usedMons]) hfree', Ans.settle_ok]
  · rw [← hv.monAt]
    exact storeMons_writes hn hj
  · rw [storeMons_monRaw_other hn ha, hv.monRaw]
  · rw [hsel, putMons_sels, hv.sel]

/-- Settles O35: SEL_COMMAND by the commands it stores before the evaluation, SEL_STATUS by its parameters, MON_CONFIGURE by its records. -/
theorem selectorCommandsAndMonitors : Obligations.SelectorCommandsAndMonitors := by
  refine ⟨fun x i k s u => ⟨selCommand_selectors, fun hs hok hcase hkind => ⟨?_, ?_⟩,
    fun hs hword hcount hone halign haddr => ⟨?_, ?_⟩⟩, fun x i k recs first s v hs hok hcase hread hfirst hn hrec hfree => ?_⟩
  · exact selCommand_group hs hok hcase hkind
  · exact selCommand_group_notStored hs hok hcase hkind
  · exact selStatus_group hs hword hcount hone halign haddr
  · exact selStatus_selectors hs hword hcount hone halign haddr
  · obtain ⟨u, hexec, hwritten, hrest⟩ := monConfigure_stores hs hok hcase hread hfirst hn hrec hfree
    exact ⟨u, hexec, fun j hj => (hwritten j hj).enabled, fun j hj => (hwritten j hj).unused, hrest⟩

end Sys2Proof.Machine
end

section
/-! Proofs: the ports outside their registers after an update, and what a fold over ports does to one of them. -/
namespace Sys2Proof.Machine

theorem dyn_mapDyn_same (s : State) (p : Nat) (f : PortDyn → PortDyn) : (s.mapDyn p f).dyn p = f (s.dyn p) := Store.get_put_same

theorem dyn_mapDyn_other (s : State) {p q : Nat} (f : PortDyn → PortDyn) (h : p ≠ q) : (s.mapDyn p f).dyn q = s.dyn q :=
  Store.get_put_other h

/-- A fold over ports, seen at port `q`: the step of `q` acts once, those of the others do not; `I` holds all along. -/
theorem foldl_at {β : Type} {I : State → Prop} {f : State → Nat → State} {g : State → β} {G : β → β} {q : Nat}
    (hI : ∀ v x, I v → I (f v x)) (hother : ∀ v x, x ≠ q → g (f v x) = g v) (hsame : ∀ v, I v → g (f v q) = G (g v))
    {l : List Nat} (hl : l.Nodup) {s : State} (hs : I s) : g (l.foldl f s) = if q ∈ l then G (g s) else g s := by
  induction l generalizing s with
  | nil => rfl
  | cons x l ih =>
    obtain ⟨hx, hl⟩ := List.nodup_cons.1 hl
    rw [List.foldl_cons, ih hl (hI s x hs)]
    by_cases hq : x = q
    · subst hq
      rw [if_neg hx, if_pos (List.mem_cons_self ..), hsame s hs]
    · rw [hother s x hq]
      simp [Ne.symm hq]

theorem kept_foldl {α : Type} {f : State → α → State} {l : List α} {as : List Nat} (hf : ∀ v, ∀ x ∈ l, RegsKept v (f v x) as) (s : State) :
    RegsKept s (l.foldl f s) as :=
  List.foldlRecOn l f (kept_refl rfl) fun v hv x hx => kept_trans hv (hf v x hx)

/-- `u` is `s` but for its registers and the ports outside them. -/
def OnlyPorts (s u : State) : Prop := ∃ r ps, u = { s with regs := r, line := { s.line with ports := ps } }

namespace OnlyPorts

variable {s u w : State}

theorem refl (s : State) : OnlyPorts s s := ⟨s.regs, s.line.ports, rfl⟩

theorem regs (h : OnlyPorts s u) (g : OnlyRegs u w) : OnlyPorts s w := by
  obtain ⟨r, ps, rfl⟩ := h
  obtain ⟨r', rfl⟩ := g
  exact ⟨r', ps, rfl⟩

theorem trans (h : OnlyPorts s u) (g : OnlyPorts u w) : OnlyPorts s w := by
  obtain ⟨r, ps, rfl⟩ := h
  obtain ⟨r', ps', rfl⟩ := g
  exact ⟨r', ps', rfl⟩

theorem mapDyn (h : OnlyPorts s u) {p : Nat} {f : PortDyn → PortDyn} : OnlyPorts s (u.mapDyn p f) := by
  obtain ⟨r, ps, rfl⟩ := h
  exact ⟨r, _, rfl⟩

theorem ite {c : Prop} [Decidable c] (h : OnlyPorts s u) (g : OnlyPorts s w) : OnlyPorts s (if c then u else w) := by
  split <;> assumption

theorem eq (h : OnlyPorts s u) : u = { s with regs := u.regs, line := { s.line with ports := u.line.ports } } := by
  obtain ⟨r, ps, rfl⟩ := h
  rfl

end OnlyPorts

/-! ### The ports of a quad -/

/-- Each port has registers of its own. -/
theorem port_addr_inj {p q o o' : Nat} (h : prtBase p + o = prtBase q + o') (ho : o < 0x1000 := by decide) (ho' : o' < 0x1000 := by decide) :
    p = q ∧ o = o' := by
  simp only [prtBase] at h
  omega

/-- Fields of two ports, or of two registers of one port, share no bit. -/
theorem port_apart {f g : Fld} {p q o o' : Nat} (hf : f.addr = prtBase p + o) (hg : g.addr = prtBase q + o') (h : p ≠ q ∨ o ≠ o')
    (ho : o < 0x1000 := by decide) (ho' : o' < 0x1000 := by decide) : f.apart g = true := by
  have hne : f.addr ≠ g.addr := fun e => by
    obtain ⟨hq, ho⟩ := port_addr_inj ((hf.symm.trans e).trans hg) ho ho'
    exact h.elim (· hq) (· ho)
  simp only [Fld.apart, hne, ne_eq, not_false_eq_true, decide_true, Bool.true_or]

theorem quadOf_nodup (p : Nat) : (quadOf p).Nodup := List.nodup_range.map fun _ _ h => Nat.add_left_cancel h

/-- What says which PLLs of the quads run (R160) is the same in `u` as in `s`. -/
structure PllsSame (s u : State) : Prop where
  enabled : ∀ q, u.enabled q = s.enabled q
  member : ∀ q, u.member q = s.member q
  mode : ∀ q, u.prtMode q = s.prtMode q
  lock : ∀ q, s.enabled q = true → s.member q = false → u.flag (F.PRT_STATUS_PLL_LOCK q) = s.flag (F.PRT_STATUS_PLL_LOCK q)

theorem PllsSame.refl (s : State) : PllsSame s s := ⟨fun _ => rfl, fun _ => rfl, fun _ => rfl, fun _ _ _ => rfl⟩

theorem PllsSame.trans {s u w : State} (h : PllsSame s u) (g : PllsSame u w) : PllsSame s w where
  enabled q := (g.enabled q).trans (h.enabled q)
  member q := (g.member q).trans (h.member q)
  mode q := (g.mode q).trans (h.mode q)
  lock q he hm := (g.lock q ((h.enabled q).trans he) ((h.member q).trans hm)).trans (h.lock q he hm)

theorem PllsSame.pllRuns {s u : State} (h : PllsSame s u) (q : Nat) : u.pllRuns q = s.pllRuns q := by
  unfold State.pllRuns
  congr 1
  funext r
  rw [h.enabled, h.member, h.mode, h.mode]
  cases he : s.enabled r with
  | false => simp
  | true =>
    cases hm : s.member r with
    | true => simp
    | false => rw [h.lock r he hm]

/-! ### PLL_LOCK of the disabled ports of a quad (R165) -/

/-- PLL_LOCK of one port, if it is disabled. -/
def State.showPll (s : State) (q : Nat) : State :=
  if s.enabled q || s.member q then s else s.setFlag (F.PRT_STATUS_PLL_LOCK q) (s.pllRuns q)

theorem showPlls_eq (s : State) (p : Nat) : s.showPlls p = (quadOf p).foldl State.showPll s := rfl

theorem showPll_on {s : State} {q : Nat} (h : s.enabled q = true ∨ s.member q = true) : s.showPll q = s := if_pos (by simpa using h)

theorem showPll_off {s : State} {q : Nat} (he : s.enabled q = false) (hm : s.member q = false) :
    s.showPll q = s.setFlag (F.PRT_STATUS_PLL_LOCK q) (s.pllRuns q) := if_neg (by simp [he, hm])

theorem showPll_rd (s : State) (q : Nat) {f : Fld} (h : (F.PRT_STATUS_PLL_LOCK q).apart f = true) : (s.showPll q).rd f = s.rd f := by
  unfold State.showPll
  split
  · rfl
  · exact s.rd_wr_apart _ h

theorem showPll_reg {s : State} {q a : Nat} (h : s.enabled q = false → s.member q = false → prtBase q + 4 ≠ a) :
    (s.showPll q).reg a = s.reg a := by
  cases he : s.enabled q with
  | true => rw [showPll_on (.inl he)]
  | false =>
    cases hm : s.member q with
    | true => rw [showPll_on (.inr hm)]
    | false => rw [showPll_off he hm, State.setFlag, reg_wr, if_neg (h he hm)]

theorem showPll_pllsSame (s : State) (q : Nat) : PllsSame s (s.showPll q) where
  enabled r := congrArg (· == 1) (showPll_rd s q (port_apart (q := r) rfl rfl (.inr (by decide))))
  member r := congrArg (· == 1) (showPll_rd s q (port_apart (q := r) rfl rfl (.inr (by decide))))
  mode r := showPll_rd s q (port_apart (q := r) rfl rfl (.inr (by decide)))
  lock r he hm := by
    rw [State.flag, State.rd, showPll_reg (fun he' _ heq => ?_), ← State.rd, ← State.flag]
    rw [(port_addr_inj heq).1, he] at he'
    cases he'

theorem showPlls_onlyRegs (s : State) (p : Nat) : OnlyRegs s (s.showPlls p) :=
  List.foldlRecOn _ _ (OnlyRegs.refl s) fun _ hv _ _ => hv.ite hv.wr

theorem showPlls_pllsSame (s : State) (p : Nat) : PllsSame s (s.showPlls p) :=
  List.foldlRecOn _ State.showPll (PllsSame.refl s) fun v hv q _ => hv.trans (showPll_pllsSame v q)

theorem showPlls_rd (s : State) (p : Nat) {f : Fld} (h : ∀ q, (F.PRT_STATUS_PLL_LOCK q).apart f = true) : (s.showPlls p).rd f = s.rd f :=
  foldl_keeps (g := fun v => v.rd f) (fun v q => showPll_rd v q (h q)) (quadOf p) s

theorem showPlls_reg {s : State} {p a : Nat} (h : ∀ q ∈ quadOf p, s.enabled q = false → s.member q = false → prtBase q + 4 ≠ a) :
    (s.showPlls p).reg a = s.reg a := by
  refine (List.foldlRecOn (motive := fun v => PllsSame s v ∧ v.reg a = s.reg a) (quadOf p) State.showPll ⟨.refl s, rfl⟩
    fun v hv q hq => ?_).2
  obtain ⟨hsame, hreg⟩ := hv
  refine ⟨hsame.trans (showPll_pllsSame v q), (showPll_reg fun he hm => ?_).trans hreg⟩
  exact h q hq ((hsame.enabled q).symm.trans he) ((hsame.member q).symm.trans hm)

/-- A disabled port of the quad shows whether an enabled lane runs its PLL. -/
theorem showPlls_shows {s : State} {p q : Nat} (hq : q ∈ quadOf p) (he : s.enabled q = false) (hm : s.member q = false) :
    (s.showPlls p).flag (F.PRT_STATUS_PLL_LOCK q) = (s.showPlls p).pllRuns q := by
  rw [(showPlls_pllsSame s p).pllRuns, showPlls_eq]
  have hother : ∀ (v : State) x, x ≠ q → (v.showPll x).flag (F.PRT_STATUS_PLL_LOCK q) = v.flag (F.PRT_STATUS_PLL_LOCK q) :=
    fun v x hx => congrArg (· == 1) (showPll_rd v x (port_apart rfl rfl (.inl hx)))
  have hsame : ∀ v, PllsSame s v → (v.showPll q).flag (F.PRT_STATUS_PLL_LOCK q) = s.pllRuns q := fun v hv => by
    rw [showPll_off ((hv.enabled q).trans he) ((hv.member q).trans hm), State.setFlag, flag_wr_same _ _ _ (by decide : (6 : Nat) < 32) rfl,
      hv.pllRuns]
    cases s.pllRuns q <;> rfl
  rw [foldl_at (g := fun v => v.flag (F.PRT_STATUS_PLL_LOCK q)) (G := fun _ => s.pllRuns q) (fun v x hv => hv.trans (showPll_pllsSame v x))
    hother hsame (quadOf_nodup p) (.refl s), if_pos hq]

end Sys2Proof.Machine
end

section
/-! Proofs: the class PLL of a quad locks or unlocks (O44; R160, R165). -/
namespace Sys2Proof.Machine

/-- What a PLL does to a port outside its registers: a started PORT_ENABLE notes whether its PLL is locked. -/
def PortDyn.pllShown (locked : Bool) (y : PortDyn) : PortDyn :=
  match y.cmd with
  | .enabling _ => { y with cmd := .enabling locked }
  | _ => y

theorem pllShown_enabling {locked b : Bool} {y : PortDyn} (h : y.cmd = .enabling b) : (y.pllShown locked).cmd = .enabling locked := by
  simp only [PortDyn.pllShown, h]

/-- A port's PLL locks. -/
def State.lockPll (s : State) (q : Nat) : State := (s.raise (F.PRT_STATUS_PLL_LOCK q)).mapDyn q (PortDyn.pllShown true)

/-- A port's PLL loses lock. -/
def State.losePll (s : State) (q : Nat) : State :=
  if s.flag (F.PRT_STATUS_PLL_LOCK q) then
    ((s.setFlag (F.PRT_STATUS_PLL_LOCK q) false).raise (F.PRT_INT_PLL_UNLOCK q)).mapDyn q (PortDyn.pllShown false)
  else s

theorem exec_pllLock (t : Nat) (p : Port) (s : State) :
    exec (.pllLock t p) s = .next (((s.pllUsers p.val).foldl State.lockPll (s.tick t)).showPlls p.val) := rfl

theorem exec_pllUnlock (t : Nat) (p : Port) (s : State) :
    exec (.pllUnlock t p) s = .next (((s.pllUsers p.val).foldl State.losePll (s.tick t)).showPlls p.val) := rfl

/-- What a PLL changes of a port: PLL_LOCK, the interrupt PLL_UNLOCK, and the port outside its registers. -/
structure PllView where
  locked : Bool
  unlocked : Bool
  dyn : PortDyn

def State.pllView (s : State) (q : Nat) : PllView := ⟨s.flag (F.PRT_STATUS_PLL_LOCK q), s.flag (F.PRT_INT_PLL_UNLOCK q), s.dyn q⟩

def PllView.lock (x : PllView) : PllView := ⟨true, x.unlocked, x.dyn.pllShown true⟩

def PllView.lose (x : PllView) : PllView := if x.locked then ⟨false, true, x.dyn.pllShown false⟩ else x

theorem pllView_mapDyn (s : State) (q : Nat) (f : PortDyn → PortDyn) : (s.mapDyn q f).pllView q =
    ⟨s.flag (F.PRT_STATUS_PLL_LOCK q), s.flag (F.PRT_INT_PLL_UNLOCK q), f (s.dyn q)⟩ := by
  rw [← dyn_mapDyn_same s q f]
  rfl

theorem pllView_congr {s u : State} {q : Nat} (h4 : u.reg (prtBase q + 0x4) = s.reg (prtBase q + 0x4))
    (h40 : u.reg (prtBase q + 0x40) = s.reg (prtBase q + 0x40)) (hdyn : u.dyn q = s.dyn q) : u.pllView q = s.pllView q := by
  simp only [State.pllView, State.flag, State.rd, h4, h40, hdyn]

/-- `step` is what a PLL does to one port: `view` of what it shows there, and no register but `as` of the port, PLL_LOCK's among them. -/
structure PllStep (step : State → Nat → State) (as : Nat → List Nat) (view : PllView → PllView) : Prop where
  view : ∀ v q, (step v q).pllView q = view (v.pllView q)
  kept : ∀ v q, RegsKept v (step v q) (as q)
  dyn : ∀ v x q, x ≠ q → (step v x).dyn q = v.dyn q
  only : ∀ v q, OnlyPorts v (step v q)
  lock : ∀ q, prtBase q + 0x4 ∈ as q
  addrs : ∀ q, ∀ a ∈ as q, a = prtBase q + 0x4 ∨ a = prtBase q + 0x40

theorem lockPll_pllStep : PllStep State.lockPll (fun q => [(F.PRT_STATUS_PLL_LOCK q).addr]) PllView.lock where
  view v q := by
    have hlock : (v.raise (F.PRT_STATUS_PLL_LOCK q)).flag (F.PRT_STATUS_PLL_LOCK q) = true := flag_wr_same _ _ _ (by decide : (6 : Nat) < 32) rfl
    have hint : (v.raise (F.PRT_STATUS_PLL_LOCK q)).flag (F.PRT_INT_PLL_UNLOCK q) = v.flag (F.PRT_INT_PLL_UNLOCK q) :=
      flag_wr_apart _ _ (port_apart (p := q) (q := q) rfl rfl (.inr (by decide)))
    rw [State.lockPll, pllView_mapDyn, hlock, hint]
    rfl
  kept v q := kept_wr (f := F.PRT_STATUS_PLL_LOCK q) (List.mem_singleton_self _)
  dyn v x q hx := dyn_mapDyn_other _ _ hx
  only v q := ((OnlyPorts.refl v).regs (OnlyRegs.refl v).wr).mapDyn
  lock q := List.mem_singleton_self _
  addrs q a ha := .inl (by simpa using ha)

theorem losePll_locked {s : State} {q : Nat} (h : s.flag (F.PRT_STATUS_PLL_LOCK q) = true) :
    s.losePll q = ((s.setFlag (F.PRT_STATUS_PLL_LOCK q) false).raise (F.PRT_INT_PLL_UNLOCK q)).mapDyn q (PortDyn.pllShown false) := if_pos h

theorem losePll_unlocked {s : State} {q : Nat} (h : s.flag (F.PRT_STATUS_PLL_LOCK q) = false) : s.losePll q = s :=
  if_neg (by rw [h]; decide)

theorem losePll_pllView (v : State) (q : Nat) : (v.losePll q).pllView q = (v.pllView q).lose := by
  cases hlocked : v.flag (F.PRT_STATUS_PLL_LOCK q) with
  | false =>
    rw [losePll_unlocked hlocked]
    simp only [PllView.lose, State.pllView, hlocked, Bool.false_eq_true, if_false]
  | true =>
    have hint : ((v.setFlag (F.PRT_STATUS_PLL_LOCK q) false).raise (F.PRT_INT_PLL_UNLOCK q)).flag (F.PRT_INT_PLL_UNLOCK q) = true :=
      flag_wr_same _ _ _ (by decide : (3 : Nat) < 32) rfl
    have hlock : ((v.setFlag (F.PRT_STATUS_PLL_LOCK q) false).raise (F.PRT_INT_PLL_UNLOCK q)).flag (F.PRT_STATUS_PLL_LOCK q) = false :=
      (flag_wr_apart _ _ (port_apart (p := q) (q := q) rfl rfl (.inr (by decide)))).trans (flag_wr_same _ _ _ (by decide : (6 : Nat) < 32) rfl)
    have hlose : (v.pllView q).lose = ⟨false, true, (v.dyn q).pllShown false⟩ := if_pos hlocked
    rw [losePll_locked hlocked, hlose, pllView_mapDyn, hlock, hint]
    rfl

theorem losePll_kept (v : State) (q : Nat) :
    RegsKept v (v.losePll q) [(F.PRT_STATUS_PLL_LOCK q).addr, (F.PRT_INT_PLL_UNLOCK q).addr] := by
  unfold State.losePll
  split
  · exact kept_of (kept_trans (kept_wr (f := F.PRT_STATUS_PLL_LOCK q) (by simp)) (kept_wr (f := F.PRT_INT_PLL_UNLOCK q) (by simp))) rfl
  · exact kept_refl rfl

theorem losePll_dyn_other (v : State) {x q : Nat} (hx : x ≠ q) : (v.losePll x).dyn q = v.dyn q := by
  unfold State.losePll
  split
  · exact dyn_mapDyn_other _ _ hx
  · rfl

theorem losePll_pllStep :
    PllStep State.losePll (fun q => [(F.PRT_STATUS_PLL_LOCK q).addr, (F.PRT_INT_PLL_UNLOCK q).addr]) PllView.lose where
  view := losePll_pllView
  kept := losePll_kept
  dyn v _ _ hx := losePll_dyn_other v hx
  only v q := ((OnlyPorts.refl v).regs (OnlyRegs.refl v).wr.wr).mapDyn.ite (.refl v)
  lock q := by simp
  addrs q a ha := by simpa using ha

theorem pllUser_on {s : State} {p q : Nat} (h : q ∈ s.pllUsers p) : q ∈ quadOf p ∧ s.enabled q = true := by
  obtain ⟨hquad, huses⟩ := List.mem_filter.1 h
  simp only [Bool.and_eq_true] at huses
  obtain ⟨⟨_, hen⟩, _⟩ := huses
  exact ⟨hquad, hen⟩

/-- What a PLL of port `p`'s quad does to the state: `view` of what each of its users shows, PLL_LOCK of the quad's disabled ports, and
nothing else. -/
structure PllMoved (p : Nat) (as : Nat → List Nat) (view : PllView → PllView) (s u : State) : Prop where
  users : ∀ q ∈ s.pllUsers p, u.pllView q = view (s.pllView q)
  shown : ∀ q ∈ quadOf p, s.enabled q = false → s.member q = false → u.flag (F.PRT_STATUS_PLL_LOCK q) = u.pllRuns q
  others : ∀ q ∈ quadOf p, q ∉ s.pllUsers p → (s.enabled q = true ∨ s.member q = true) → u.reg (prtBase q + 4) = s.reg (prtBase q + 4)
  dyn : ∀ q, q ∉ s.pllUsers p → u.dyn q = s.dyn q
  kept : RegsKept s u ((quadOf p).flatMap as)
  only : OnlyPorts s u

namespace PllStep

variable {step : State → Nat → State} {as : Nat → List Nat} {view : PllView → PllView} (h : PllStep step as view)
include h

/-- A register of port `q` that the step of a port not in the list leaves alone. -/
theorem addr_not_mem {l : List Nat} {q o : Nat} (hq : q ∉ l ∨ (o ≠ 0x4 ∧ o ≠ 0x40)) (ho : o < 0x1000 := by decide) :
    prtBase q + o ∉ l.flatMap as := by
  intro ha
  obtain ⟨x, hx, ha⟩ := List.mem_flatMap.1 ha
  have hport : q = x ∧ (o = 0x4 ∨ o = 0x40) := by
    rcases h.addrs x _ ha with ha | ha
    · exact (port_addr_inj ha ho).imp_right .inl
    · exact (port_addr_inj ha ho).imp_right .inr
  rcases hq with hq | ⟨h4, h40⟩
  · exact hq (hport.1 ▸ hx)
  · exact hport.2.elim h4 h40

theorem foldl_kept (l : List Nat) (s : State) : RegsKept s (l.foldl step s) (l.flatMap as) :=
  kept_foldl (fun v x hx => kept_mono (h.kept v x) fun _ ha => List.mem_flatMap.2 ⟨x, hx, ha⟩) s

theorem foldl_only (l : List Nat) (s : State) : OnlyPorts s (l.foldl step s) :=
  List.foldlRecOn l step (.refl s) fun v hv x _ => hv.trans (h.only v x)

theorem foldl_dyn {l : List Nat} {q : Nat} (hq : q ∉ l) (s : State) : (l.foldl step s).dyn q = s.dyn q :=
  List.foldlRecOn (motive := fun v => v.dyn q = s.dyn q) l step rfl fun v hv x hx =>
    (h.dyn v x q fun e => hq (e ▸ hx)).trans hv

theorem pllView_other {v : State} {x q : Nat} (hx : x ≠ q) : (step v x).pllView q = v.pllView q := by
  have hreg : ∀ o, o < 0x1000 → prtBase q + o ∉ as x := fun o ho ha =>
    h.addr_not_mem (l := [x]) (.inl (by simpa using Ne.symm hx)) ho (by simpa using ha)
  exact pllView_congr (h.kept v x _ (hreg _ (by decide))) (h.kept v x _ (hreg _ (by decide))) (h.dyn v x q hx)

theorem foldl_view {l : List Nat} (hl : l.Nodup) {q : Nat} (hq : q ∈ l) (s : State) : (l.foldl step s).pllView q = view (s.pllView q) := by
  rw [foldl_at (I := fun _ => True) (g := fun v => v.pllView q) (G := view) (fun _ _ _ => trivial) (fun _ _ => h.pllView_other)
    (fun v _ => h.view v q) hl trivial, if_pos hq]

/-- The configuration of the ports is no matter of their PLLs. -/
theorem foldl_cfg (l : List Nat) (s : State) (q : Nat) : RegKept (prtBase q + 0) s (l.foldl step s) :=
  h.foldl_kept l s _ (h.addr_not_mem (.inr (by decide)))

/-- The users' PLL moves, then the disabled ports of the quad show it. -/
theorem moves (p : Nat) (s : State) : PllMoved p as view s (((s.pllUsers p).foldl step s).showPlls p) := by
  have hnodup : (s.pllUsers p).Nodup := (quadOf_nodup p).filter _
  have husers := fun q (hq : q ∈ s.pllUsers p) => h.foldl_view hnodup hq s
  have hdyns := fun q (hq : q ∉ s.pllUsers p) => h.foldl_dyn hq s
  have hothers := fun q (hq : q ∉ s.pllUsers p) => h.foldl_kept (s.pllUsers p) s _ (h.addr_not_mem (o := 4) (.inl hq))
  have hkept := h.foldl_kept (s.pllUsers p) s
  have honly := h.foldl_only (s.pllUsers p) s
  have hen : ∀ q, ((s.pllUsers p).foldl step s).enabled q = s.enabled q := fun q => (h.foldl_cfg (s.pllUsers p) s q).flag rfl
  have hmem : ∀ q, ((s.pllUsers p).foldl step s).member q = s.member q := fun q => (h.foldl_cfg (s.pllUsers p) s q).flag rfl
  generalize (s.pllUsers p).foldl step s = v at husers hdyns hothers hkept honly hen hmem
  have hregs := showPlls_onlyRegs v p
  have hdyn : ∀ q, (v.showPlls p).dyn q = v.dyn q := fun q => by rw [State.dyn, hregs.line, State.dyn]
  have hon : ∀ q, s.enabled q = true ∨ s.member q = true → (v.showPlls p).reg (prtBase q + 4) = v.reg (prtBase q + 4) :=
    fun q hq => showPlls_reg fun r _ he hm heq => by
      rw [(port_addr_inj heq).1, hen] at he
      rw [(port_addr_inj heq).1, hmem] at hm
      rw [he, hm] at hq
      simp at hq
  refine ⟨fun q hq => ?_, fun q hq he hm => ?_, fun q _ hq hon' => (hon q hon').trans (hothers q hq),
    fun q hq => (hdyn q).trans (hdyns q hq), fun a ha => ?_, honly.regs hregs⟩
  · have h40 : (v.showPlls p).reg (prtBase q + 0x40) = v.reg (prtBase q + 0x40) :=
      showPlls_reg fun r _ _ _ heq => absurd (port_addr_inj heq).2 (by decide)
    exact (pllView_congr (hon q (.inl (pllUser_on hq).2)) h40 (hdyn q)).trans (husers q hq)
  · exact showPlls_shows hq ((hen q).trans he) ((hmem q).trans hm)
  · refine (showPlls_reg fun r hr _ _ heq => ?_).trans (hkept a fun hu => ?_)
    · exact ha (List.mem_flatMap.2 ⟨r, hr, heq ▸ h.lock r⟩)
    · obtain ⟨x, hx, hax⟩ := List.mem_flatMap.1 hu
      exact ha (List.mem_flatMap.2 ⟨x, (pllUser_on hx).1, hax⟩)

end PllStep

section
variable {p : Nat} {as : Nat → List Nat} {s u : State} {q : Nat}

theorem PllMoved.locks (h : PllMoved p as PllView.lock s u) (hq : q ∈ s.pllUsers p) : u.flag (F.PRT_STATUS_PLL_LOCK q) = true ∧
    ∀ b, (s.dyn q).cmd = .enabling b → (u.dyn q).cmd = .enabling true := by
  have hview := h.users q hq
  refine ⟨congrArg PllView.locked hview, fun b hb => ?_⟩
  exact (congrArg (fun x => x.dyn.cmd) hview).trans (pllShown_enabling hb)

theorem PllMoved.loses (h : PllMoved p as PllView.lose s u) (hq : q ∈ s.pllUsers p) : u.flag (F.PRT_STATUS_PLL_LOCK q) = false ∧
    (s.flag (F.PRT_STATUS_PLL_LOCK q) = true → u.flag (F.PRT_INT_PLL_UNLOCK q) = true ∧
      ∀ b, (s.dyn q).cmd = .enabling b → (u.dyn q).cmd = .enabling false) := by
  have hview := h.users q hq
  cases hlocked : s.flag (F.PRT_STATUS_PLL_LOCK q) with
  | false =>
    have hlose : (s.pllView q).lose = s.pllView q := if_neg (by simp [State.pllView, hlocked])
    exact ⟨(congrArg PllView.locked (hview.trans hlose)).trans hlocked, fun h => Bool.noConfusion h⟩
  | true =>
    have hlose : (s.pllView q).lose = ⟨false, true, (s.dyn q).pllShown false⟩ := if_pos hlocked
    rw [hlose] at hview
    refine ⟨congrArg PllView.locked hview, fun _ => ⟨congrArg PllView.unlocked hview, fun b hb => ?_⟩⟩
    exact (congrArg (fun x => x.dyn.cmd) hview).trans (pllShown_enabling hb)

end

end Sys2Proof.Machine
end

section
/-! Proofs: the evaluation of the ports' depths every millisecond (O44; R312, R313). -/
namespace Sys2Proof.Machine

/-- Since when the rule gives D1, D2 and D3 or deeper, as of an evaluation that gives `rule` at tick `now`. -/
def PortDyn.noteDeep (now rule : Nat) (y : PortDyn) : PortDyn :=
  { y with deep1 := sinceDeep now rule 1 y.deep1, deep2 := sinceDeep now rule 2 y.deep2, deep3 := sinceDeep now rule 3 y.deep3 }

/-- What an evaluation that gives `rule` at tick `now` makes of a port at depth `depth`: since when the rule gives D1, D2 and D3, and the
wake to a shallower depth. -/
def PortDyn.evaluated (now rule depth : Nat) (y : PortDyn) : PortDyn :=
  if rule < depth then { y with wake := some (min rule (y.wake.getD rule)), deep1 := none, deep2 := none, deep3 := none }
  else y.noteDeep now rule

theorem OnlyLine.depthRule {s u : State} (h : OnlyLine s u) (q : Nat) : u.depthRule q = s.depthRule q := by
  obtain ⟨l, rfl⟩ := h
  rfl

theorem OnlyLine.flag {s u : State} (h : OnlyLine s u) (f : Fld) : u.flag f = s.flag f := by rw [State.flag, h.rd, State.flag]

theorem evalDepth_on {s : State} {q : Nat} (he : s.enabled q = true) (hm : s.member q = false) : s.evalDepth q =
    (s.mapDyn q (PortDyn.noteDeep s.now (s.depthRule q))).wakeTo q (s.depthRule q) := if_pos (by simp [he, hm])

theorem evalDepth_off {s : State} {q : Nat} (h : s.enabled q = false ∨ s.member q = true) : s.evalDepth q = s :=
  if_neg (by rcases h with h | h <;> simp [h])

theorem wakeTo_dyn_same {s : State} {q d : Nat} (he : s.enabled q = true) (hm : s.member q = false) : (s.wakeTo q d).dyn q =
    if d < s.depth q then { s.dyn q with wake := some (min d ((s.dyn q).wake.getD d)), deep1 := none, deep2 := none, deep3 := none }
    else s.dyn q := by
  unfold State.wakeTo
  simp only [he, hm, Bool.not_false, Bool.and_self, Bool.true_and, decide_eq_true_eq]
  split
  · exact dyn_mapDyn_same ..
  · rfl

theorem wakeTo_dyn_other (s : State) {p q d : Nat} (h : p ≠ q) : (s.wakeTo p d).dyn q = s.dyn q := by
  unfold State.wakeTo
  split
  · exact dyn_mapDyn_other _ _ h
  · rfl

theorem wakeTo_onlyLine (s : State) (p d : Nat) : OnlyLine s (s.wakeTo p d) := by
  unfold State.wakeTo
  split
  · exact mapDyn_onlyLine ..
  · exact .refl s

theorem wakeTo_depthAt (s : State) (p d : Nat) : (s.wakeTo p d).line.depthAt = s.line.depthAt := by
  unfold State.wakeTo
  split <;> rfl

theorem evalDepth_onlyLine (s : State) (p : Nat) : OnlyLine s (s.evalDepth p) := by
  unfold State.evalDepth
  split
  · exact (mapDyn_onlyLine ..).trans (wakeTo_onlyLine ..)
  · exact .refl s

theorem evalDepth_depthAt (s : State) (p : Nat) : (s.evalDepth p).line.depthAt = s.line.depthAt := by
  unfold State.evalDepth
  split
  · exact wakeTo_depthAt ..
  · rfl

theorem evalDepth_dyn_same {s : State} {q : Nat} (he : s.enabled q = true) (hm : s.member q = false) :
    (s.evalDepth q).dyn q = (s.dyn q).evaluated s.now (s.depthRule q) (s.depth q) := by
  have hline := mapDyn_onlyLine s q (PortDyn.noteDeep s.now (s.depthRule q))
  rw [evalDepth_on he hm, wakeTo_dyn_same ((hline.flag _).trans he) ((hline.flag _).trans hm), dyn_mapDyn_same, State.depth, hline.rd]
  rfl

theorem evalDepth_dyn_other (s : State) {p q : Nat} (h : p ≠ q) : (s.evalDepth p).dyn q = s.dyn q := by
  unfold State.evalDepth
  split
  · exact (wakeTo_dyn_other _ h).trans (dyn_mapDyn_other _ _ h)
  · rfl

/-- Every port's depth is evaluated. -/
def State.evalDepths (s : State) : State := (List.range 48).foldl State.evalDepth s

theorem evalDepths_onlyLine (s : State) : OnlyLine s s.evalDepths := .foldl evalDepth_onlyLine _ s

theorem evalDepths_depthAt (s : State) : s.evalDepths.line.depthAt = s.line.depthAt :=
  foldl_keeps (g := fun v => v.line.depthAt) evalDepth_depthAt _ s

theorem evalDepths_dyn_on {s : State} {q : Nat} (hq : q < 48) (he : s.enabled q = true) (hm : s.member q = false) :
    s.evalDepths.dyn q = (s.dyn q).evaluated s.now (s.depthRule q) (s.depth q) := by
  have hsame : ∀ v, OnlyLine s v → (v.evalDepth q).dyn q = (v.dyn q).evaluated s.now (s.depthRule q) (s.depth q) := fun v hv => by
    have hnow : v.now = s.now := by
      obtain ⟨l, rfl⟩ := hv
      rfl
    have hdepth : v.depth q = s.depth q := hv.rd _
    rw [evalDepth_dyn_same ((hv.flag _).trans he) ((hv.flag _).trans hm), hnow, hv.depthRule, hdepth]
  rw [State.evalDepths, foldl_at (g := fun v => v.dyn q) (fun v x hv => hv.trans (evalDepth_onlyLine v x))
    (fun v x => evalDepth_dyn_other v) hsame List.nodup_range (.refl s), if_pos (List.mem_range.2 hq)]

theorem evalDepths_dyn_off {s : State} {q : Nat} (h : s.enabled q = false ∨ s.member q = true) : s.evalDepths.dyn q = s.dyn q := by
  refine (List.foldlRecOn (motive := fun v => OnlyLine s v ∧ v.dyn q = s.dyn q) (List.range 48) State.evalDepth ⟨.refl s, rfl⟩
    fun v hv x _ => ?_).2
  obtain ⟨hline, hdyn⟩ := hv
  refine ⟨hline.trans (evalDepth_onlyLine v x), ?_⟩
  by_cases hx : x = q
  · rw [hx, evalDepth_off (h.imp (hline.flag _).trans (hline.flag _).trans), hdyn]
  · rw [evalDepth_dyn_other v hx, hdyn]

/-! ### DEPTH_EVALUATION -/

/-- The state in which an evaluation at tick `t` begins. -/
def State.evalStart (s : State) (t : Nat) : State := (s.tick t).mapLine fun l => { l with depthAt := max s.now t }

theorem exec_depthEvaluation_due {t : Nat} {s : State} (h : s.line.depthAt + msTicks ≤ max s.now t) :
    exec (.depthEvaluation t) s = .next (s.evalStart t).evalDepths := if_pos h

theorem exec_depthEvaluation_early {t : Nat} {s : State} (h : max s.now t < s.line.depthAt + msTicks) :
    exec (.depthEvaluation t) s = .next (s.tick t) := if_neg (Nat.not_le.2 h)

theorem depthEvaluation_evaluates {t : Nat} {s : State} (h : s.line.depthAt + msTicks ≤ max s.now t) :
    ∃ s', exec (.depthEvaluation t) s = .next s' ∧ s'.line.depthAt = max s.now t ∧
      (∀ q, q < 48 → s.enabled q = true → s.member q = false → s.depthRule q < s.depth q →
        (s'.dyn q).wake = some (min (s.depthRule q) ((s.dyn q).wake.getD (s.depthRule q))) ∧
        (s'.dyn q).deep1 = none ∧ (s'.dyn q).deep2 = none ∧ (s'.dyn q).deep3 = none) ∧
      (∀ q, q < 48 → s.enabled q = true → s.member q = false → s.depth q ≤ s.depthRule q →
        (s'.dyn q).deep1 = sinceDeep (max s.now t) (s.depthRule q) 1 (s.dyn q).deep1 ∧
        (s'.dyn q).deep2 = sinceDeep (max s.now t) (s.depthRule q) 2 (s.dyn q).deep2 ∧
        (s'.dyn q).deep3 = sinceDeep (max s.now t) (s.depthRule q) 3 (s.dyn q).deep3 ∧ (s'.dyn q).wake = (s.dyn q).wake) ∧
      (∀ q, s.enabled q = false ∨ s.member q = true → s'.dyn q = s.dyn q) ∧
      s' = { s with now := max s.now t, line := s'.line } := by
  have hon : ∀ q, q < 48 → s.enabled q = true → s.member q = false →
      (s.evalStart t).evalDepths.dyn q = (s.dyn q).evaluated (max s.now t) (s.depthRule q) (s.depth q) :=
    fun q hq he hm => evalDepths_dyn_on (s := s.evalStart t) hq he hm
  refine ⟨_, exec_depthEvaluation_due h, evalDepths_depthAt _, fun q hq he hm hlt => ?_, fun q hq he hm hle => ?_,
    fun q hq => evalDepths_dyn_off (s := s.evalStart t) hq, ?_⟩
  · rw [hon q hq he hm, PortDyn.evaluated, if_pos hlt]
    exact ⟨rfl, rfl, rfl, rfl⟩
  · rw [hon q hq he hm, PortDyn.evaluated, if_neg (Nat.not_lt.2 hle)]
    exact ⟨rfl, rfl, rfl, rfl⟩
  · obtain ⟨l, hl⟩ := evalDepths_onlyLine (s.evalStart t)
    rw [hl]
    rfl

end Sys2Proof.Machine
end

section
/-! Proofs: fields of a port that a receiver which starts, or follows its framers, leaves alone (R160, R170, R172, R173, R190). -/
namespace Sys2Proof.Machine

/-- Field `f` reads in `u` as in `s`. -/
def FldKept (f : Fld) (s u : State) : Prop := u.rd f = s.rd f

namespace FldKept

variable {f : Fld} {s u w : State}

theorem refl (f : Fld) (s : State) : FldKept f s s := rfl

theorem rd (h : FldKept f s u) : u.rd f = s.rd f := h

theorem flag (h : FldKept f s u) : u.flag f = s.flag f := congrArg (· == 1) h

theorem trans (h : FldKept f s u) (g : FldKept f u w) : FldKept f s w := Eq.trans g h

theorem reg (h : FldKept f s u) (g : RegKept f.addr u w) : FldKept f s w := (g.rd rfl).trans h

theorem wr (h : FldKept f s u) {g : Fld} {v : Nat} (hg : g.apart f = true) : FldKept f s (u.wr g v) := (u.rd_wr_apart v hg).trans h

theorem setFlag (h : FldKept f s u) {g : Fld} {b : Bool} (hg : g.apart f = true) : FldKept f s (u.setFlag g b) := h.wr hg

theorem raise (h : FldKept f s u) {g : Fld} (hg : g.apart f = true) : FldKept f s (u.raise g) := h.wr hg

theorem ite {c : Prop} [Decidable c] (h : FldKept f s u) (g : FldKept f s w) : FldKept f s (if c then u else w) := by
  split <;> assumption

end FldKept

theorem RegKept.setReg {a b : Nat} {v : W32} {s u : State} (h : RegKept a s u) (hb : b ≠ a) : RegKept a s (u.setReg b v) := by
  rw [RegKept, State.reg_setReg, if_neg hb, h]

/-- A field of port `p` that its receiver leaves alone: below the paths and traces, and none of PRT_FRM, the defects, PRT_QL_RX, CDR_LOCK,
RX_FRAMED and FRAMED_CHG. -/
structure RxFree (p : Nat) (f : Fld) : Prop where
  aside : aside p f.addr
  frm : prtBase p + 0x100 ≠ f.addr
  defects : prtBase p + 0x10C ≠ f.addr
  ql : prtBase p + 0x140 ≠ f.addr
  cdr : (F.PRT_STATUS_CDR_LOCK p).apart f = true
  framed : (F.PRT_STATUS_RX_FRAMED p).apart f = true
  framedChg : (F.PRT_INT_FRAMED_CHG p).apart f = true

/-- A field below PRT_FRM that shares no bit with the three fields there that a receiver changes. -/
theorem RxFree.of {p o : Nat} {f : Fld} (hf : f.addr = prtBase p + o) (ho : o < 0x100) (hcdr : (F.PRT_STATUS_CDR_LOCK p).apart f = true)
    (hframed : (F.PRT_STATUS_RX_FRAMED p).apart f = true) (hchg : (F.PRT_INT_FRAMED_CHG p).apart f = true) : RxFree p f where
  aside := by rw [hf]; exact ⟨by omega, by omega, by omega⟩
  frm := by omega
  defects := by omega
  ql := by omega
  cdr := hcdr
  framed := hframed
  framedChg := hchg

theorem apart_of_bits {a lo w a' lo' w' : Nat} (h : lo' + w' ≤ lo ∨ lo + w ≤ lo') (hw : lo' + w' ≤ 32) :
    (Fld.mk a lo w).apart ⟨a', lo', w'⟩ = true := by
  simp only [Fld.apart, Bool.or_eq_true, Bool.and_eq_true, decide_eq_true_eq]
  exact .inr ⟨h, hw⟩

theorem rxFree_depth (p : Nat) : RxFree p (F.PRT_STATUS_DEPTH p) :=
  .of rfl (by decide) (apart_of_bits (.inl (by decide)) (by decide)) (apart_of_bits (.inl (by decide)) (by decide))
    (port_apart (p := p) (q := p) rfl rfl (.inr (by decide)))

theorem rxFree_disabling (p : Nat) : RxFree p (F.PRT_STATUS_DISABLING p) :=
  .of rfl (by decide) (apart_of_bits (.inr (by decide)) (by decide)) (apart_of_bits (.inr (by decide)) (by decide))
    (port_apart (p := p) (q := p) rfl rfl (.inr (by decide)))

theorem rxFree_enabled (p : Nat) : RxFree p (F.PRT_CFG_ENABLED p) :=
  .of (o := 0) rfl (by decide) (port_apart (p := p) (q := p) rfl rfl (.inr (by decide)))
    (port_apart (p := p) (q := p) rfl rfl (.inr (by decide))) (port_apart (p := p) (q := p) rfl rfl (.inr (by decide)))

theorem rxFree_depthChg (p : Nat) : RxFree p (F.PRT_INT_DEPTH_CHG p) :=
  .of rfl (by decide) (port_apart (p := p) (q := p) rfl rfl (.inr (by decide)))
    (port_apart (p := p) (q := p) rfl rfl (.inr (by decide))) (apart_of_bits (.inl (by decide)) (by decide))

theorem FldKept.refreshFrame {p : Nat} {f : Fld} {s u : State} (h : FldKept f s u) (hf : RxFree p f) : FldKept f s (u.refreshFrame p) := by
  unfold State.refreshFrame
  extract_lets all skew now state lanes skewed framed since gone
  have hstate : FldKept f s state := h.reg (((RegKept.refl _ u).setFlag hf.frm).wr hf.frm)
  clear_value state
  have hskewed : FldKept f s skewed := hstate.reg (((RegKept.refl _ state).wr hf.frm).setDef hf.defects hf.aside.defInt_ne)
  clear_value skewed
  have hsince : FldKept f s since :=
    ((hskewed.setFlag hf.framed).raise hf.framedChg).reg ((RegKept.refl _ _).setDef hf.defects hf.aside.defInt_ne).mapDyn
  clear_value since
  have hgone : FldKept f s gone :=
    (hsince.reg ((RegKept.refl _ since).setFlag hf.ql)).ite (hsince.reg ((RegKept.refl _ since).endClient.acquire hf.aside))
  clear_value gone
  exact (hskewed.reg ((RegKept.refl _ skewed).setDef hf.defects hf.aside.defInt_ne)).ite (hgone.reg (RegKept.refl _ gone).updateRdi)

/-! ### The receiver starts (R160, R190, R400) -/

theorem clearTti_ports (p : Nat) (s : State) (k : Nat) : (State.clearTti p s k).line.ports = s.line.ports := by
  simp only [State.clearTti, State.setFlag, State.mapLine_line, State.wr_line]

theorem acquire_ports (s : State) (p : Nat) (silent : Bool) : (s.acquire p silent).line.ports = s.line.ports := by
  refine foldl_keeps (g := fun s => s.line.ports) (fun u code => ?_) _ s
  have hpath : ((u.setPathNow p code 0 silent).wr (F.PATH_PTR_PSTATE p code) 2).line.ports = u.line.ports :=
    congrArg LineSt.ports (OnlyRegs.refl u).setPathNow.wr.line
  exact (foldl_keeps (g := fun s => s.line.ports) (fun u k => clearTti_ports p u k) _ _).trans hpath

theorem mapPrx_dyn (s : State) (p q : Nat) (f : PortRx → PortRx) : (s.mapPrx p f).dyn q = s.dyn q := rfl

/-- RDI is no matter of the transmitter's state and of wakes. -/
theorem updateRdi_dyn (s : State) (p : Nat) :
    ((s.updateRdi p).dyn p).tx = (s.dyn p).tx ∧ ((s.updateRdi p).dyn p).wake = (s.dyn p).wake := by
  unfold State.updateRdi
  split
  · rw [dyn_mapDyn_same]
    exact ⟨rfl, rfl⟩
  · rw [dyn_mapDyn_same]
    split <;> exact ⟨rfl, rfl⟩

/-- What the start of a receiver loses: framers in SEARCH, paths in acquisition, and the defects that this sets. -/
def State.loseRx (s : State) (p : Nat) (silent : Bool) : State :=
  let s := (s.lanes p).foldl (fun s l => s.setFramer l Framer.reset) (s.setFramer (64 + p) Framer.reset)
  let s := s.acquire p silent
  let was := s.reg (prtBase p + 0x110)
  let s := (((s.setDef p 0 true).setDef p 2 true).setDef p 1 true).setDef p 14 false
  let s := if isOtn (s.prtMode p) then s.setDef p 15 true else s
  if silent then s.setReg (prtBase p + 0x110) was else s

/-- What a receiver that starts shows, and the times that it starts with. -/
def State.resetRx (s : State) (p : Nat) : State :=
  let s := ((s.wr (F.PRT_STATUS_CDR_LOCK p) 0).setFlag (F.PRT_FRM_STATE p) false).wr (F.PRT_FRM_CAND p) 0
  let s := (s.wr (F.PRT_FRM_LANE_IN p) 0).setFlag (F.PRT_STATUS_RX_FRAMED p) false
  let s := s.mapDyn p fun d => { d with since := s.now, clientSince := s.now }
  (s.mapPrx p fun _ => PortRx.reset).updateRdi p

theorem startRx_eq (s : State) (p : Nat) (silent : Bool) : s.startRx p silent = (s.loseRx p silent).resetRx p := rfl

theorem loseRx_spec (s : State) (p : Nat) (silent : Bool) : (s.loseRx p silent).line.ports = s.line.ports ∧
    (s.loseRx p silent).pdef p 0 = true ∧ ∀ a, aside p a → prtBase p + 0x10C ≠ a → RegKept a s (s.loseRx p silent) := by
  unfold State.loseRx
  extract_lets framers acquired was defs otn
  have hframers : framers.line.ports = s.line.ports ∧ framers.regs = s.regs :=
    List.foldlRecOn (motive := fun v : State => v.line.ports = s.line.ports ∧ v.regs = s.regs) (s.lanes p) _ ⟨rfl, rfl⟩ fun _ hv _ _ => hv
  clear_value framers
  obtain ⟨hports, hregs⟩ := hframers
  have hports : acquired.line.ports = s.line.ports := (acquire_ports framers p silent).trans hports
  have hkept : ∀ a, aside p a → RegKept a s acquired := fun a ha => RegKept.acquire (by rw [RegKept, State.reg, hregs, State.reg]) ha
  clear_value acquired
  have honly : OnlyRegs acquired defs := (OnlyRegs.refl acquired).setDef.setDef.setDef.setDef
  have hlos : defs.pdef p 0 = true := by
    rw [setDef_pdef_other (by decide) (by decide), setDef_pdef_other (by decide) (by decide), setDef_pdef_other (by decide) (by decide),
      setDef_pdef_same (by decide)]
  have hdefs : ∀ a, aside p a → prtBase p + 0x10C ≠ a → RegKept a s defs := fun a ha h10C =>
    ((((hkept a ha).setDef h10C ha.defInt_ne).setDef h10C ha.defInt_ne).setDef h10C ha.defInt_ne).setDef h10C ha.defInt_ne
  clear_value defs
  have hotn : otn.pdef p 0 = true := by
    unfold otn
    split
    · rw [setDef_pdef_other (by decide) (by decide), hlos]
    · exact hlos
  have hkept : ∀ a, aside p a → prtBase p + 0x10C ≠ a → RegKept a s otn := fun a ha h10C =>
    ((hdefs a ha h10C).setDef h10C ha.defInt_ne).ite (hdefs a ha h10C)
  have honly : OnlyRegs acquired otn := honly.setDef.ite honly
  clear_value otn
  have hlast : ∀ a, prtBase p + 0x110 ≠ a → RegKept a otn (if silent = true then otn.setReg (prtBase p + 0x110) was else otn) :=
    fun a h110 => ((RegKept.refl a otn).setReg h110).ite (.refl a otn)
  refine ⟨(congrArg LineSt.ports (honly.setReg.ite honly).line).trans hports, ?_, fun a ha h10C => (hkept a ha h10C).trans (hlast a ha.defInt_ne)⟩
  exact ((hlast (prtBase p + 0x10C) (by omega)).flag rfl).trans hotn

/-- The receiver of port `p` has started: it is out of frame with LOS; the transmitter and the wake are as before. -/
structure RxStarted (p : Nat) (s u : State) : Prop where
  fields : ∀ f, RxFree p f → FldKept f s u
  framed : u.framed p = false
  los : u.pdef p 0 = true
  tx : (u.dyn p).tx = (s.dyn p).tx
  wake : (u.dyn p).wake = (s.dyn p).wake

theorem resetRx_starts {s : State} {p : Nat} (hlos : s.pdef p 0 = true) : RxStarted p s (s.resetRx p) := by
  unfold State.resetRx
  extract_lets cleared framed since
  have hlater : ∀ a, RegKept a framed ((since.mapPrx p fun _ => PortRx.reset).updateRdi p) := fun a =>
    ((RegKept.refl a framed).mapDyn.mapPrx).updateRdi
  have hline : framed.line = s.line := by
    simp only [framed, cleared, State.setFlag, State.wr_line]
  obtain ⟨htx, hwake⟩ := updateRdi_dyn (since.mapPrx p fun _ => PortRx.reset) p
  have hsince : since.dyn p = { framed.dyn p with since := framed.now, clientSince := framed.now } :=
    dyn_mapDyn_same framed p _
  have hdyn : framed.dyn p = s.dyn p := by rw [State.dyn, hline, State.dyn]
  rw [mapPrx_dyn, hsince, hdyn] at htx hwake
  refine ⟨fun f hf => FldKept.reg ?_ (hlater _), ?_, ?_, htx, hwake⟩
  · have hcleared : FldKept f s cleared := ((FldKept.refl f s).wr hf.cdr).reg (((RegKept.refl _ _).setFlag hf.frm).wr hf.frm)
    exact (hcleared.reg ((RegKept.refl _ _).wr hf.frm)).setFlag hf.framed
  · exact ((hlater _).flag rfl).trans (flag_wr_same _ _ _ (by decide : (7 : Nat) < 32) rfl)
  · have h10C : ∀ o, o ≠ 0x10C → prtBase p + o ≠ prtBase p + 0x10C := fun o ho e => ho (Nat.add_left_cancel e)
    have hframed : RegKept (prtBase p + 0x10C) s framed :=
      (((((RegKept.refl _ s).wr (h10C _ (by decide))).setFlag (h10C _ (by decide))).wr (h10C _ (by decide))).wr
        (h10C _ (by decide))).setFlag (h10C _ (by decide))
    exact ((hframed.trans (hlater _)).flag rfl).trans hlos

theorem startRx_starts (s : State) (p : Nat) (silent : Bool) : RxStarted p s (s.startRx p silent) := by
  obtain ⟨hports, hlos, hkept⟩ := loseRx_spec s p silent
  have hdyn : (s.loseRx p silent).dyn p = s.dyn p := by rw [State.dyn, hports, State.dyn]
  obtain ⟨hfields, hframed, hlos', htx, hwake⟩ := resetRx_starts hlos
  rw [hdyn] at htx hwake
  rw [startRx_eq]
  exact ⟨fun f hf => ((FldKept.refl f s).reg (hkept _ hf.aside hf.defects)).trans (hfields f hf), hframed, hlos', htx, hwake⟩

end Sys2Proof.Machine
end

section
/-! Proofs: a port reaches a depth (O44; R167, R313, R400). -/
namespace Sys2Proof.Machine

theorem wr_dyn (s : State) (f : Fld) (v q : Nat) : (s.wr f v).dyn q = s.dyn q := rfl

/-- What reaching depth `d` from depth `old` makes of the transmitter and of a wake. -/
def PortDyn.atDepth (old d : Nat) (y : PortDyn) : PortDyn :=
  { y with wake := none, tx := if y.tx = 3 then 3 else if d = 0 then (if old = 0 then y.tx else 1) else 0 }

/-- The new depth is shown, before the receiver follows it. -/
def State.showDepth (s : State) (p d : Nat) : State :=
  ((s.wr (F.PRT_STATUS_DEPTH p) d).raise (F.PRT_INT_DEPTH_CHG p)).mapDyn p (PortDyn.atDepth (s.depth p) d)

theorem toDepth_eq (s : State) (p d : Nat) : s.toDepth p d =
    if 2 ≤ s.depth p ∧ d ≤ 1 then (s.showDepth p d).startRx p true
    else if 2 ≤ d then (s.showDepth p d).wr (F.PRT_STATUS_CDR_LOCK p) 0
    else s.showDepth p d := rfl

/-- Port `p` has reached depth `d`. -/
structure DepthReached (p d : Nat) (s u : State) : Prop where
  depth : u.depth p = d
  chg : u.flag (F.PRT_INT_DEPTH_CHG p) = true
  tx : (u.dyn p).tx = ((s.dyn p).atDepth (s.depth p) d).tx
  wake : (u.dyn p).wake = none

theorem DepthReached.of_kept {p d : Nat} {s u w : State} (h : DepthReached p d s u) (hdepth : FldKept (F.PRT_STATUS_DEPTH p) u w)
    (hchg : FldKept (F.PRT_INT_DEPTH_CHG p) u w) (htx : (w.dyn p).tx = (u.dyn p).tx) (hwake : (w.dyn p).wake = (u.dyn p).wake) :
    DepthReached p d s w :=
  ⟨hdepth.rd.trans h.depth, hchg.flag.trans h.chg, htx.trans h.tx, hwake.trans h.wake⟩

theorem showDepth_reaches (s : State) {p d : Nat} (hd : d ≤ 3) : DepthReached p d s (s.showDepth p d) := by
  have hdyn : (s.showDepth p d).dyn p = (s.dyn p).atDepth (s.depth p) d := dyn_mapDyn_same ..
  have hkept : ∀ f, FldKept f ((s.wr (F.PRT_STATUS_DEPTH p) d).raise (F.PRT_INT_DEPTH_CHG p)) (s.showDepth p d) := fun f =>
    (FldKept.refl ..).reg (RegKept.refl ..).mapDyn
  refine ⟨?_, ?_, congrArg PortDyn.tx hdyn, congrArg PortDyn.wake hdyn⟩
  · have hdepth := ((FldKept.refl (F.PRT_STATUS_DEPTH p) (s.wr (F.PRT_STATUS_DEPTH p) d)).raise
      (port_apart (p := p) (q := p) rfl rfl (.inr (by decide)))).trans (hkept _)
    exact hdepth.rd.trans ((State.rd_wr_same _ _ _ (by decide : (0 : Nat) + 2 ≤ 32)).trans (Nat.mod_eq_of_lt (show d < 2 ^ 2 by omega)))
  · exact (hkept _).flag.trans (flag_wr_same _ _ _ (by decide : (2 : Nat) < 32) rfl)

theorem showDepth_kept (s : State) (p d : Nat) :
    RegsKept s (s.showDepth p d) [(F.PRT_STATUS_DEPTH p).addr, (F.PRT_INT_DEPTH_CHG p).addr] :=
  kept_of (kept_trans (kept_wr (f := F.PRT_STATUS_DEPTH p) (by simp)) (kept_wr (f := F.PRT_INT_DEPTH_CHG p) (by simp))) rfl

/-- The receiver starts afresh. -/
theorem toDepth_starts {s : State} {p d : Nat} (hold : 2 ≤ s.depth p) (hd : d ≤ 1) : s.toDepth p d = (s.showDepth p d).startRx p true :=
  (toDepth_eq ..).trans (if_pos ⟨hold, hd⟩)

/-- The receiver stays as it is, or stops. -/
theorem toDepth_stays {s : State} {p d : Nat} (h : ¬(2 ≤ s.depth p ∧ d ≤ 1)) : s.toDepth p d =
    if 2 ≤ d then (s.showDepth p d).wr (F.PRT_STATUS_CDR_LOCK p) 0 else s.showDepth p d := (toDepth_eq ..).trans (if_neg h)

theorem toDepth_reaches (s : State) {p d : Nat} (hd : d ≤ 3) : DepthReached p d s (s.toDepth p d) := by
  have h := showDepth_reaches s (p := p) hd
  by_cases hstart : 2 ≤ s.depth p ∧ d ≤ 1
  · obtain ⟨hfields, _, _, htx, hwake⟩ := startRx_starts (s.showDepth p d) p true
    rw [toDepth_starts hstart.1 hstart.2]
    exact h.of_kept (hfields _ (rxFree_depth p)) (hfields _ (rxFree_depthChg p)) htx hwake
  · rw [toDepth_stays hstart]
    split
    · exact h.of_kept ((FldKept.refl ..).wr (rxFree_depth p).cdr) ((FldKept.refl ..).wr (rxFree_depthChg p).cdr)
        (by rw [wr_dyn]) (by rw [wr_dyn])
    · exact h

/-! ### PORT_DEEPEN (R313) -/

/-- The depth that the rule has given, or a deeper one, for 100 ms at tick `now`. -/
def PortDyn.held (now : Nat) (y : PortDyn) : Nat :=
  if deepFor now y.deep3 then 3 else if deepFor now y.deep2 then 2 else if deepFor now y.deep1 then 1 else 0

theorem held_le (now : Nat) (y : PortDyn) : y.held now ≤ 3 := by
  unfold PortDyn.held
  split_ifs <;> decide

section
variable {t : Nat} {p : Port} {s : State}

theorem exec_portDeepen : exec (.portDeepen t p) s =
    if s.enabled p.val = true ∧ s.depth p.val < min (s.depthRule p.val) ((s.dyn p.val).held (max s.now t)) ∧ (s.dyn p.val).wake = none ∧
      (s.dyn p.val).cmd = .idle then
      .next ((s.tick t).toDepth p.val (min (s.depthRule p.val) ((s.dyn p.val).held (max s.now t)))).refreshRefs
    else .next (s.tick t) := rfl

/-- A port that reaches a deeper depth. -/
theorem toDepth_deepens {q d : Nat} (hlt : s.depth q < d) (hd : d ≤ 3) (he : s.enabled q = true) :
    (s.toDepth q d).depth q = d ∧ (s.toDepth q d).flag (F.PRT_INT_DEPTH_CHG q) = true ∧
      (2 ≤ (s.toDepth q d).depth q → (s.toDepth q d).rd (F.PRT_STATUS_CDR_LOCK q) = 0) ∧
      ((s.dyn q).tx ≠ 3 → ((s.toDepth q d).dyn q).tx = 0) ∧ (s.toDepth q d).enabled q = true ∧
      RegsKept s (s.toDepth q d) [(F.PRT_STATUS_DEPTH q).addr, (F.PRT_INT_DEPTH_CHG q).addr] := by
  obtain ⟨hdepth, hchg, htx, _⟩ := toDepth_reaches s (p := q) hd
  have hstays := toDepth_stays (s := s) (p := q) (d := d) (by omega)
  have hkept : RegsKept s (s.toDepth q d) [(F.PRT_STATUS_DEPTH q).addr, (F.PRT_INT_DEPTH_CHG q).addr] := by
    rw [hstays]
    split
    · exact kept_trans (showDepth_kept s q d) (kept_wr (f := F.PRT_STATUS_CDR_LOCK q) (List.mem_cons_self ..))
    · exact showDepth_kept s q d
  have hcfg : RegKept (prtBase q + 0) s (s.toDepth q d) := hkept _ (by simp)
  refine ⟨hdepth, hchg, fun h2 => ?_, fun h3 => ?_, (hcfg.flag rfl).trans he, hkept⟩
  · rw [hdepth] at h2
    rw [hstays, if_pos h2, State.rd_wr_same _ _ _ (by decide : (2 : Nat) + 4 ≤ 32)]
    rfl
  · have hpos : d ≠ 0 := by omega
    rw [htx, PortDyn.atDepth]
    simp only [h3, hpos, if_false]

theorem portDeepen_deepens (he : s.enabled p.val = true)
    (hlt : s.depth p.val < min (s.depthRule p.val) ((s.dyn p.val).held (max s.now t))) (hwake : (s.dyn p.val).wake = none)
    (hcmd : (s.dyn p.val).cmd = .idle) :
    ∃ u : State, exec (.portDeepen t p) s = .next u.refreshRefs ∧
      u.depth p.val = min (s.depthRule p.val) ((s.dyn p.val).held (max s.now t)) ∧
      u.flag (F.PRT_INT_DEPTH_CHG p.val) = true ∧ (2 ≤ u.depth p.val → u.rd (F.PRT_STATUS_CDR_LOCK p.val) = 0) ∧
      ((s.dyn p.val).tx ≠ 3 → (u.dyn p.val).tx = 0) ∧ u.enabled p.val = true ∧
      RegsKept s u [(F.PRT_STATUS_DEPTH p.val).addr, (F.PRT_INT_DEPTH_CHG p.val).addr] :=
  ⟨_, exec_portDeepen.trans (if_pos ⟨he, hlt, hwake, hcmd⟩),
    toDepth_deepens (s := s.tick t) hlt ((min_le_right ..).trans (held_le ..)) he⟩

theorem portDeepen_waits (h : ¬(s.enabled p.val = true ∧ s.depth p.val < min (s.depthRule p.val) ((s.dyn p.val).held (max s.now t)) ∧
      (s.dyn p.val).wake = none ∧ (s.dyn p.val).cmd = .idle)) : exec (.portDeepen t p) s = .next (s.tick t) :=
  exec_portDeepen.trans (if_neg h)

/-! ### PORT_WAKE_DONE (R167) -/

theorem exec_portWakeDone_wakes {d : Nat} (h : (s.dyn p.val).wake = some d) :
    exec (.portWakeDone t p) s = .next ((s.tick t).toDepth p.val d) := by
  have htick : ((s.tick t).dyn p.val).wake = some d := h
  change execPortWakeDone t p s = _
  simp only [execPortWakeDone, htick]

theorem exec_portWakeDone_none (h : (s.dyn p.val).wake = none) : exec (.portWakeDone t p) s = .next (s.tick t) := by
  have htick : ((s.tick t).dyn p.val).wake = none := h
  change execPortWakeDone t p s = _
  simp only [execPortWakeDone, htick]

theorem portWakeDone_wakes {d : Nat} (h : (s.dyn p.val).wake = some d) (hd : d ≤ 3) :
    ∃ s', exec (.portWakeDone t p) s = .next s' ∧ s'.depth p.val = d ∧ s'.flag (F.PRT_INT_DEPTH_CHG p.val) = true ∧
      (s'.dyn p.val).wake = none ∧
      (2 ≤ s.depth p.val → d ≤ 1 → s'.flag (F.PRT_STATUS_RX_FRAMED p.val) = false ∧ s'.pdef p.val 0 = true) ∧
      (d = 0 → s.depth p.val ≠ 0 → (s.dyn p.val).tx ≠ 3 → (s'.dyn p.val).tx = 1) := by
  obtain ⟨hdepth, hchg, htx, hwake⟩ := toDepth_reaches (s.tick t) (p := p.val) hd
  refine ⟨_, exec_portWakeDone_wakes h, hdepth, hchg, hwake, fun hold hd1 => ?_, fun h0 hold h3 => ?_⟩
  · obtain ⟨_, hframed, hlos, _, _⟩ := startRx_starts ((s.tick t).showDepth p.val d) p.val true
    rw [toDepth_starts (s := s.tick t) hold hd1]
    exact ⟨hframed, hlos⟩
  · have hold' : (s.tick t).depth p.val ≠ 0 := hold
    have h3' : ((s.tick t).dyn p.val).tx ≠ 3 := h3
    rw [htx, PortDyn.atDepth]
    simp only [h0, h3', hold', if_true, if_false]

end

end Sys2Proof.Machine
end

section
/-! Proofs: a disable completes (O44; R162, R164, R165). -/
namespace Sys2Proof.Machine

/-- The registers by which a port is off. -/
def State.showOff (s : State) (p : Nat) : State :=
  ((s.setFlag (F.PRT_CFG_ENABLED p) false).setFlag (F.PRT_STATUS_DISABLING p) false).wr (F.PRT_STATUS_DEPTH p) 3

/-- What a disabled port shows. -/
theorem showOff_fields (s : State) (p : Nat) : (s.showOff p).enabled p = false ∧
    (s.showOff p).flag (F.PRT_STATUS_DISABLING p) = false ∧ (s.showOff p).depth p = 3 := by
  refine ⟨?_, ?_, ?_⟩
  · have hkept : FldKept (F.PRT_CFG_ENABLED p) (s.setFlag (F.PRT_CFG_ENABLED p) false) (s.showOff p) :=
      ((FldKept.refl ..).setFlag (apart_of_bits (.inl (by decide)) (by decide))).wr (apart_of_bits (.inr (by decide)) (by decide))
    exact hkept.flag.trans (flag_wr_same _ _ _ (by decide : (4 : Nat) < 32) rfl)
  · exact (flag_wr_apart _ _ (apart_of_bits (.inr (by decide)) (by decide))).trans (flag_wr_same _ _ _ (by decide : (9 : Nat) < 32) rfl)
  · exact State.rd_wr_same _ _ _ (by decide : (0 : Nat) + 2 ≤ 32)

/-- A field that receivers and PLLs leave alone stays while the lanes go off and the references follow. -/
theorem portOff_keeps (s : State) {p : Nat} {f : Fld} (hf : RxFree p f) (hpll : ∀ q, (F.PRT_STATUS_PLL_LOCK q).apart f = true) :
    FldKept f (s.showOff p) (s.portOff p) := by
  unfold State.portOff
  extract_lets off gone framers aligned clear
  have hgone : FldKept f off gone :=
    (((FldKept.refl f off).wr hf.cdr).trans (showPlls_rd _ p hpll)).reg ((RegKept.refl _ _).acquire hf.aside)
  clear_value gone
  have hframers : FldKept f off framers := hgone.reg ((RegKept.refl _ gone).setFramer.foldl fun _ _ hv => hv.setFramer)
  clear_value framers
  have haligned : FldKept f off aligned := hframers.refreshFrame hf
  clear_value aligned
  have hclear : FldKept f off clear :=
    haligned.reg ((RegKept.refl _ aligned).foldl fun _ _ hv => hv.setDef hf.defects hf.aside.defInt_ne)
  exact hclear.reg ((RegKept.refl _ _).mapDyn.trans ((LineKept.refl _).refreshRefs.reg f.addr ((by simp [prtBase] : _ ≤ _).trans hf.aside.1)))

theorem portOff_tx (s : State) (p : Nat) : ((s.portOff p).dyn p).tx = 0 := by
  unfold State.portOff
  extract_lets off gone framers aligned clear
  rw [State.dyn, (LineKept.refl _).refreshRefs.line, ← State.dyn, dyn_mapDyn_same]

/-- The disable has completed, but for its reply. -/
def State.disableDone (s : State) (p : Nat) : State :=
  (((s.portOff p).setFlag (F.PRT_STATUS_CMD_BUSY p) false).raise (F.PRT_INT_DISABLE_DONE p)).mapDyn p fun y => { y with cmd := .idle }

section
variable {t c : Nat} {p : Port} {b : Option Bool} {fe : W16} {te : Nat} {rplOk : Bool} {s : State}
  (h : (s.dyn p.val).cmd = .disabling c b (some (fe, te)))
include h

theorem exec_portDisableDone : exec (.portDisableDone t p rplOk) s =
    if te + 650 ≤ max s.now t then
      .next (((s.tick t).disableDone p.val).completePort .portDisable p.val .ok
        [BitVec.ofNat 32 (fe - 1).toNat, BitVec.ofNat 32 fe.toNat] rplOk)
    else .next (s.tick t) := by
  have htick : ((s.tick t).dyn p.val).cmd = .disabling c b (some (fe, te)) := h
  change execPortDisableDone t p rplOk s = _
  simp only [execPortDisableDone, htick]
  rfl

end

/-- A disabled port is off, idle and no longer busy. -/
theorem disableDone_off (s : State) (p : Nat) : (s.disableDone p).enabled p = false ∧
    (s.disableDone p).flag (F.PRT_STATUS_CMD_BUSY p) = false ∧ (s.disableDone p).flag (F.PRT_STATUS_DISABLING p) = false ∧
    (s.disableDone p).flag (F.PRT_INT_DISABLE_DONE p) = true ∧ ((s.disableDone p).dyn p).cmd = .idle ∧
    ((s.disableDone p).dyn p).tx = 0 ∧ (s.disableDone p).depth p = 3 := by
  obtain ⟨hen, hdis, hdepth⟩ := showOff_fields s p
  obtain ⟨hcmd, htx⟩ : ((s.disableDone p).dyn p).cmd = .idle ∧ ((s.disableDone p).dyn p).tx = ((s.portOff p).dyn p).tx := by
    rw [State.disableDone, dyn_mapDyn_same, State.raise, State.setFlag, wr_dyn, wr_dyn]
    exact ⟨rfl, rfl⟩
  have hmap : ∀ f, FldKept f (((s.portOff p).setFlag (F.PRT_STATUS_CMD_BUSY p) false).raise (F.PRT_INT_DISABLE_DONE p)) (s.disableDone p) :=
    fun f => (FldKept.refl ..).reg (RegKept.refl ..).mapDyn
  have hkept : ∀ f, RxFree p f → (∀ q, (F.PRT_STATUS_PLL_LOCK q).apart f = true) → (F.PRT_STATUS_CMD_BUSY p).apart f = true →
      (F.PRT_INT_DISABLE_DONE p).apart f = true → FldKept f (s.showOff p) (s.disableDone p) := fun f hf hpll hbusy hdone =>
    (((portOff_keeps s hf hpll).setFlag hbusy).raise hdone).trans (hmap f)
  refine ⟨?_, ?_, ?_, ?_, ?_, ?_, ?_⟩
  · exact (hkept _ (rxFree_enabled p) (fun q => apart_of_bits (.inl (by decide)) (by decide)) (apart_of_bits (.inl (by decide)) (by decide))
      (apart_of_bits (.inr (by decide)) (by decide))).flag.trans hen
  · have hbusy := ((FldKept.refl (F.PRT_STATUS_CMD_BUSY p) ((s.portOff p).setFlag (F.PRT_STATUS_CMD_BUSY p) false)).raise
      (g := F.PRT_INT_DISABLE_DONE p) (apart_of_bits (.inr (by decide)) (by decide))).trans (hmap _)
    exact hbusy.flag.trans (flag_wr_same _ _ _ (by decide : (8 : Nat) < 32) rfl)
  · exact (hkept _ (rxFree_disabling p) (fun q => apart_of_bits (.inr (by decide)) (by decide)) (apart_of_bits (.inr (by decide)) (by decide))
      (apart_of_bits (.inr (by decide)) (by decide))).flag.trans hdis
  · exact (hmap _).flag.trans (flag_wr_same _ _ _ (by decide : (1 : Nat) < 32) rfl)
  · exact hcmd
  · exact htx.trans (portOff_tx s p)
  · exact (hkept _ (rxFree_depth p) (fun q => apart_of_bits (.inl (by decide)) (by decide)) (apart_of_bits (.inl (by decide)) (by decide))
      (port_apart (p := p) (q := p) rfl rfl (.inr (by decide)))).rd.trans hdepth

/-- Settles O44: a PLL moves each of its users once and then the disabled ports that show it; a disable and a depth that is reached write
fields that the receiver, which stops or starts with them, leaves alone; an evaluation looks at one port at a time. -/
theorem pllsDisableAndSleep : Obligations.PllsDisableAndSleep := by
  refine ⟨fun t p c b fe te rplOk s => ⟨?_, ?_, fun h hdue => ?_, fun h hearly => ?_⟩,
    fun t p d s => ⟨depthEvaluation_evaluates, exec_depthEvaluation_early, ⟨portDeepen_deepens, portDeepen_waits⟩,
      portWakeDone_wakes, exec_portWakeDone_none⟩⟩
  · have h := lockPll_pllStep.moves p.val (s.tick t)
    exact ⟨_, exec_pllLock t p s, fun _ hq => h.locks hq, h.shown, h.others, h.dyn, kept_mono h.kept fun a ha => by simpa [eq_comm] using ha,
      h.only.eq⟩
  · have h := losePll_pllStep.moves p.val (s.tick t)
    exact ⟨_, exec_pllUnlock t p s, fun _ hq => h.loses hq, h.shown, h.others, h.dyn, h.kept, h.only.eq⟩
  · exact ⟨_, (exec_portDisableDone h).trans (if_pos hdue), disableDone_off (s.tick t) p.val⟩
  · exact (exec_portDisableDone h).trans (if_neg (Nat.not_le.2 hearly))

end Sys2Proof.Machine
end

section
/-! Proofs: CDR lock, LOS, LOF and RDI of a port (O41; R170, R173, R179, R181, R190). -/
namespace Sys2Proof.Machine

/-- A bit of a register that was just set or cleared. -/
theorem bitAt_setBitAt_same (s : State) {f : Fld} {n : Nat} (b : Bool) (h : f.lo + n < 32) : (s.setBitAt f n b).bitAt f n = b := by
  rw [bitAt_def, State.setBitAt, flag_wr_same _ _ _ h rfl]
  cases b <;> rfl

/-- The lanes of a bonded port lie in one quad. -/
theorem lane_sub_lowest_lt (s : State) (lane : Nat) : lane - s.lowest lane < 4 := by
  unfold State.lowest
  split <;> omega

theorem setDef_kept (s : State) (p i : Nat) (b : Bool) : RegsKept s (s.setDef p i b) [prtBase p + 0x10C, prtBase p + 0x110] := by
  unfold State.setDef
  split
  · exact kept_refl rfl
  · exact kept_trans (kept_wr (List.mem_cons_self ..)) (kept_wr (List.mem_cons_of_mem _ (List.mem_cons_self ..)))

/-! ### RDI (R179, R181) -/

theorem updateRdi_regs (s : State) (p : Nat) : (s.updateRdi p).regs = s.regs := by
  unfold State.updateRdi
  split <;> rfl

theorem updateRdi_onlyPorts (s : State) (p : Nat) : OnlyPorts s (s.updateRdi p) :=
  (OnlyPorts.refl s).mapDyn.ite (OnlyPorts.refl s).mapDyn

theorem updateRdi_pdef (s : State) (p i : Nat) : (s.updateRdi p).pdef p i = s.pdef p i :=
  (RegKept.refl (prtBase p + 0x10C) s).updateRdi.flag rfl

/-- A port with one of the defects of RDI sends it. -/
theorem updateRdi_sends {s : State} {p : Nat} (h : s.rdiDefect p = true) : ((s.updateRdi p).dyn p).rdi = true := by
  rw [State.updateRdi, if_pos h, dyn_mapDyn_same]

theorem rdiHoldExpiry_stops {t e : Nat} {p : Port} {s : State} (hend : (s.dyn p.val).rdiEnd = some e) (hdue : e ≤ max s.now t)
    (hclear : s.rdiDefect p.val = false) : ∃ s', exec (.rdiHoldExpiry t p) s = .next s' ∧ (s'.dyn p.val).rdi = false ∧
      (s'.dyn p.val).rdiEnd = none ∧ (∀ q, q ≠ p.val → s'.dyn q = s.dyn q) ∧
      s' = { s with now := max s.now t, line := { s.line with ports := s'.line.ports } } := by
  have hexec : exec (.rdiHoldExpiry t p) s = .next ((s.tick t).mapDyn p.val fun d => { d with rdi := false, rdiEnd := none }) := by
    change execRdiHoldExpiry t p s = _
    simp only [execRdiHoldExpiry, show ((s.tick t).dyn p.val).rdiEnd = some e from hend]
    exact if_pos ⟨hdue, hclear⟩
  exact next_of hexec ⟨by rw [dyn_mapDyn_same], by rw [dyn_mapDyn_same], fun q hq => dyn_mapDyn_other _ _ (Ne.symm hq), rfl⟩

/-! ### LOS (R190) -/

theorem setLos_true (s : State) (p : Nat) : s.setLos p true = ((s.setDef p 0 true).acquire p false).updateRdi p := rfl

theorem setLos_false (s : State) (p : Nat) : s.setLos p false = (s.setDef p 0 false).updateRdi p := rfl

/-- The registers of a port that its LOS leaves alone. -/
theorem setLos_true_kept {p a : Nat} (s : State) (ha : aside p a) (hdef : prtBase p + 0x10C ≠ a) : RegKept a s (s.setLos p true) :=
  (((RegKept.refl a s).setDef hdef ha.defInt_ne).acquire ha).updateRdi

/-- LOS is set, and its paths' loss leaves it so. -/
theorem acquire_los (s : State) (p : Nat) : ((s.setDef p 0 true).acquire p false).pdef p 0 = true := by
  have hkept : RegKept (prtBase p + 0x10C) (s.setDef p 0 true) ((s.setDef p 0 true).acquire p false) :=
    (RegKept.refl ..).acquire ⟨by omega, by omega, by omega⟩
  exact (hkept.flag rfl).trans (setDef_pdef_same (by decide))

theorem setLos_true_pdef (s : State) (p : Nat) : (s.setLos p true).pdef p 0 = true := by
  rw [setLos_true, updateRdi_pdef, acquire_los]

theorem setLos_true_rdi (s : State) (p : Nat) : ((s.setLos p true).dyn p).rdi = true := by
  rw [setLos_true]
  exact updateRdi_sends (by simp only [State.rdiDefect, acquire_los, Bool.true_or])

theorem setLos_false_pdef (s : State) (p : Nat) : (s.setLos p false).pdef p 0 = false := by
  rw [setLos_false, updateRdi_pdef, setDef_pdef_same (by decide)]

theorem setLos_false_kept (s : State) (p : Nat) : RegsKept s (s.setLos p false) [prtBase p + 0x10C, prtBase p + 0x110] :=
  kept_of (setDef_kept s p 0 false) (updateRdi_regs ..)

/-- The CDR of lane `j` of a port loses lock. -/
def State.unlockCdr (s : State) (p j : Nat) : State :=
  ((s.setBitAt (F.PRT_STATUS_CDR_LOCK p) j false).raise (F.PRT_INT_CDR_UNLOCK p)).setLos p true

theorem unlockCdr_unlocks (s : State) (p : Nat) {j : Nat} (hj : j < 4) :
    (s.unlockCdr p j).cdr p j = false ∧ (s.unlockCdr p j).flag (F.PRT_INT_CDR_UNLOCK p) = true ∧ (s.unlockCdr p j).pdef p 0 = true := by
  have hlos : ∀ v : State, ∀ o, o < 0x10C → RegKept (prtBase p + o) v (v.setLos p true) := fun v o ho =>
    setLos_true_kept v ⟨by omega, by omega, by omega⟩ (by omega)
  refine ⟨?_, ?_, setLos_true_pdef ..⟩
  · have hkept : RegKept (prtBase p + 0x4) (s.setBitAt (F.PRT_STATUS_CDR_LOCK p) j false) (s.unlockCdr p j) :=
      ((RegKept.refl ..).raise (by simp)).trans (hlos _ 0x4 (by decide))
    exact (hkept.flag rfl).trans (bitAt_setBitAt_same _ _ (show 2 + j < 32 by omega))
  · exact ((hlos _ 0x40 (by decide)).flag rfl).trans (flag_wr_same _ _ _ (by decide : (4 : Nat) < 32) rfl)

section
variable {t : Nat} {lane : Port} {s : State} (hrx : s.rxOn (s.lowest lane.val) = true)
include hrx

theorem cdrLockChange_locks (hcdr : s.cdr (s.lowest lane.val) (lane.val - s.lowest lane.val) = false) :
    ∃ s', exec (.cdrLockChange t lane true) s = .next s' ∧ s'.cdr (s.lowest lane.val) (lane.val - s.lowest lane.val) = true ∧
      RegsKept s s' [prtBase (s.lowest lane.val) + 4] ∧ s' = { s with now := max s.now t, regs := s'.regs } := by
  have hlane := lane_sub_lowest_lt s lane.val
  have hexec : exec (.cdrLockChange t lane true) s =
      .next ((s.tick t).setBitAt (F.PRT_STATUS_CDR_LOCK (s.lowest lane.val)) (lane.val - s.lowest lane.val) true) :=
    if_pos ⟨hrx, fun h => Bool.noConfusion (hcdr.symm.trans h)⟩
  exact next_of hexec ⟨bitAt_setBitAt_same _ _ (show 2 + _ < 32 by omega), kept_wr (s := s.tick t) (List.mem_cons_self ..), rfl⟩

theorem cdrLockChange_unlocks (hcdr : s.cdr (s.lowest lane.val) (lane.val - s.lowest lane.val) = true) :
    ∃ s', exec (.cdrLockChange t lane false) s = .next s' ∧ s'.cdr (s.lowest lane.val) (lane.val - s.lowest lane.val) = false ∧
      s'.flag (F.PRT_INT_CDR_UNLOCK (s.lowest lane.val)) = true ∧ s'.pdef (s.lowest lane.val) 0 = true := by
  have hexec : exec (.cdrLockChange t lane false) s =
      .next ((s.tick t).unlockCdr (s.lowest lane.val) (lane.val - s.lowest lane.val)) :=
    if_pos ⟨hrx, fun h => Bool.noConfusion (hcdr.symm.trans h)⟩
  exact next_of hexec (unlockCdr_unlocks _ _ (lane_sub_lowest_lt s lane.val))

end

section
variable {t : Nat} {p : Port} {s : State} (hrx : s.rxOn p.val = true)

theorem exec_losTimer_zeros_ziuth (hz : isZiuth (s.prtMode p.val) = true) : exec (.losTimer t p .zeros) s = .next (s.tick t) := by
  have hexec : exec (.losTimer t p .zeros) s = if (s.tick t).rxOn p.val then
      if isZiuth (s.prtMode p.val) then .next (s.tick t) else .next ((s.tick t).setLos p.val true) else .next (s.tick t) := rfl
  rw [hexec, if_pos hz, ite_self]

include hrx

theorem losTimer_detectLost : ∃ s', exec (.losTimer t p .detectLost) s = .next s' ∧ s'.pdef p.val 0 = true ∧ (s'.dyn p.val).rdi = true :=
  next_of (if_pos hrx) ⟨setLos_true_pdef .., setLos_true_rdi ..⟩

theorem losTimer_zeros (hz : isZiuth (s.prtMode p.val) = false) : ∃ s', exec (.losTimer t p .zeros) s = .next s' ∧ s'.pdef p.val 0 = true :=
  next_of ((if_pos hrx).trans (if_neg fun h => Bool.noConfusion (hz.symm.trans h))) (setLos_true_pdef (s.tick t) p.val)

theorem losTimer_signal (hcdr : ∀ l ∈ s.lanes p.val, s.cdr p.val (l - p.val) = true) :
    ∃ s', exec (.losTimer t p .signal) s = .next s' ∧ s'.pdef p.val 0 = false ∧
      RegsKept s s' [prtBase p.val + 0x10C, prtBase p.val + 0x110] :=
  next_of ((if_pos hrx).trans (if_pos (List.all_eq_true.2 hcdr))) ⟨setLos_false_pdef .., setLos_false_kept (s.tick t) p.val⟩

/-! ### LOF (R190) -/

theorem lofTimer_port (hdue : (s.dyn p.val).since + 300000 ≤ max s.now t) :
    ∃ s', exec (.lofTimer t p false) s = .next s' ∧ s'.pdef p.val 2 = !s.framed p.val ∧
      RegsKept s s' [prtBase p.val + 0x10C, prtBase p.val + 0x110] ∧ s' = { s with now := max s.now t, regs := s'.regs, line := s'.line } := by
  have hexec : exec (.lofTimer t p false) s = .next (((s.tick t).setDef p.val 2 (!s.framed p.val)).updateRdi p.val) :=
    (if_pos hrx).trans (if_pos hdue)
  refine next_of hexec ⟨?_, kept_of (setDef_kept (s.tick t) p.val 2 _) (updateRdi_regs ..), ?_⟩
  · rw [updateRdi_pdef, setDef_pdef_same (by decide)]
  · obtain ⟨r, ps, h⟩ := ((OnlyPorts.refl (s.tick t)).regs (OnlyRegs.refl _).setDef).trans
      (updateRdi_onlyPorts ((s.tick t).setDef p.val 2 (!s.framed p.val)) p.val)
    rw [h]
    rfl

theorem lofTimer_client (hotn : isOtn (s.prtMode p.val) = true) (hdue : (s.dyn p.val).clientSince + 300000 ≤ max s.now t) :
    ∃ s', exec (.lofTimer t p true) s = .next s' ∧ s'.pdef p.val 15 = !(s.framer (64 + p.val)).inFrame ∧
      RegsKept s s' [prtBase p.val + 0x10C, prtBase p.val + 0x110] := by
  have hexec : exec (.lofTimer t p true) s = .next (((s.tick t).setDef p.val 15 (!(s.framer (64 + p.val)).inFrame)).updateRdi p.val) :=
    (if_pos hrx).trans (if_pos (And.intro hotn hdue))
  refine next_of hexec ⟨?_, kept_of (setDef_kept (s.tick t) p.val 15 _) (updateRdi_regs ..)⟩
  rw [updateRdi_pdef, setDef_pdef_same (by decide)]

end

end Sys2Proof.Machine
end

section
/-! Proofs: candidates found and checked by the framers of lanes and clients (O41; R169 to R172). -/
namespace Sys2Proof.Machine

/-- The framer of a lane, or of the client of the OTN port named by that lane. -/
def framerKey (lane : Nat) (client : Bool) : Nat := if client then 64 + lane else lane

/-! ### What follows a change of a framer leaves the framer itself alone -/

theorem framer_congr {s u : State} (h : u.line.framers = s.line.framers) (j : Nat) : u.framer j = s.framer j := by
  rw [State.framer, h, State.framer]

theorem endClient_framer_other (s : State) {p j : Nat} (h : 64 + p ≠ j) : (s.endClient p).framer j = s.framer j := by
  have hput : ∀ u : State, ((u.setFramer (64 + p) Framer.reset).mapLine
      fun l => { l with clients := Store.put (fun _ => ClientRx.reset) l.clients p ClientRx.reset }).framer j = u.framer j :=
    fun u => framer_setFramer_other u (f := Framer.reset) h
  refine (hput _).trans ?_
  split <;> rfl

theorem refreshClient_framer (s : State) (p j : Nat) (was : Bool) : (s.refreshClient p was).framer j = s.framer j := by
  unfold State.refreshClient
  extract_lets now since
  split
  · rfl
  · split
    · rfl
    · exact framer_congr (acquire_framers since p false) j

theorem refreshFrame_framer (s : State) {p j : Nat} (h : 64 + p ≠ j) : (s.refreshFrame p).framer j = s.framer j := by
  unfold State.refreshFrame
  extract_lets all skew now state lanes skewed framed since gone
  have hskewed : OnlyRegs s skewed := (OnlyRegs.refl s).wr.wr.wr.setDef
  have hsince : since.framer j = s.framer j := framer_congr (congrArg LineSt.framers (hskewed.wr.wr.setDef (b := !now)).line) j
  have hgone : gone.framer j = s.framer j := by
    refine Eq.trans ?_ hsince
    unfold gone
    split
    · rfl
    · exact (framer_congr (acquire_framers ..) j).trans (endClient_framer_other since h)
  split
  · exact framer_congr (congrArg LineSt.framers hskewed.setDef.line) j
  · exact (framer_congr (updateRdi_framers gone p) j).trans hgone

/-- A lane is no client. -/
theorem afterFramer_framer (s : State) (p : Nat) (lane : Port) (client was : Bool) :
    (s.afterFramer p client was).framer (framerKey lane.val client) = s.framer (framerKey lane.val client) := by
  have hlane := lane.isLt
  cases client with
  | true => exact refreshClient_framer ..
  | false => exact refreshFrame_framer s (show 64 + p ≠ lane.val by omega)

theorem afterFramer_setFramer (s : State) (p : Nat) (lane : Port) (client was : Bool) (f : Framer) :
    ((s.setFramer (framerKey lane.val client) f).afterFramer p client was).framer (framerKey lane.val client) = f := by
  rw [afterFramer_framer, framer_setFramer_same]

/-- A framer in frame brings a port of one lane into frame. -/
theorem refreshFrame_enters {s : State} {p : Nat} (hb : isBonded (s.prtMode p) = false) (hin : (s.framer p).inFrame = true) :
    (s.refreshFrame p).framed p = true ∧ (s.refreshFrame p).pdef p 1 = false := by
  have hdist : s.lanesDistinct p = true := by
    have h8 : s.prtMode p ≠ 8 := by
      intro h8
      rw [h8] at hb
      cases hb
    simp [State.lanesDistinct, h8]
  unfold State.refreshFrame
  extract_lets all skew now state lanes skewed framed since gone
  have hnow : now = true := by simp [now, skew, all, State.lanesIn, lanes_single hb, hin, hb, hdist]
  have h4 : prtBase p + 0x4 ≠ prtBase p + 0x10C ∧ prtBase p + 0x4 ≠ prtBase p + 0x110 := by omega
  split
  · next hframed =>
    rw [hnow] at hframed ⊢
    exact ⟨(((RegKept.refl (prtBase p + 0x4) skewed).setDef h4.1.symm h4.2.symm).flag rfl).trans hframed, setDef_pdef_same (by decide)⟩
  · have hflag : (skewed.setFlag (F.PRT_STATUS_RX_FRAMED p) now).framed p = true := by
      rw [hnow]
      exact flag_wr_same _ _ _ (by decide : (7 : Nat) < 32) rfl
    have hframed : framed.framed p = true := by
      have hkept := ((RegKept.refl (prtBase p + 0x4) (skewed.setFlag (F.PRT_STATUS_RX_FRAMED p) now)).raise
        (f := F.PRT_INT_FRAMED_CHG p) (by simp)).setDef (p := p) (i := 1) (b := !now) h4.1.symm h4.2.symm
      exact (hkept.flag rfl).trans hflag
    have hoof : framed.pdef p 1 = false := by
      rw [setDef_pdef_same (by decide), hnow]
      rfl
    have hgone : ∀ o, o < 0x140 → RegKept (prtBase p + o) framed (gone.updateRdi p) := fun o ho => by
      have : gone = since.setFlag (F.PRT_QL_RX_VALID p) false := if_pos hnow
      rw [this]
      exact ((RegKept.refl _ framed).mapDyn.setFlag (by simp; omega)).updateRdi
    exact ⟨((hgone 0x4 (by decide)).flag rfl).trans hframed, ((hgone 0x10C (by decide)).flag rfl).trans hoof⟩

/-! ### CANDIDATE_MATCH (R170, R171) -/

section
variable {t pos : Nat} {lane : Port} {client : Bool} {wd : BitVec 64} {ctr : W16} {s : State}

section
variable (hscan : s.scanning lane.val client = true) (hin : (s.framer (framerKey lane.val client)).inFrame = false)
  (hpat : patternOk (s.framerMode (s.lowest lane.val) client) wd = true)
  (hbar : ((s.framer (framerKey lane.val client)).barred.any fun b => decide (b.1 = pos) && decide (max s.now t < b.2)) = false)
  (hnew : ((s.framer (framerKey lane.val client)).cands.any fun c => decide (c.pos = pos)) = false)
include hscan hin hpat hbar hnew

/-- A pattern that is neither barred nor held already. -/
theorem exec_candidateMatch_new : exec (.candidateMatch t lane client pos wd ctr) s =
    if 8 ≤ (s.framer (framerKey lane.val client)).cands.length then
      .next ((s.tick t).inc (F.PRT_FRM_CNT_CAND_DROP (s.lowest lane.val)) 1)
    else .next (((s.tick t).setFramer (framerKey lane.val client) { s.framer (framerKey lane.val client) with
      cands := (s.framer (framerKey lane.val client)).cands ++
        [{ pos := pos, due := max s.now t + frameLen (s.framerMode (s.lowest lane.val) client), ctr := ctr.toNat }] }).afterFramer
          (s.lowest lane.val) client false) := if_pos ⟨hscan, hin, hpat, hbar, hnew⟩

theorem candidateMatch_holds (hroom : (s.framer (framerKey lane.val client)).cands.length < 8) :
    ∃ s', exec (.candidateMatch t lane client pos wd ctr) s = .next s' ∧ s'.framer (framerKey lane.val client) =
      { s.framer (framerKey lane.val client) with cands := (s.framer (framerKey lane.val client)).cands ++
        [{ pos := pos, due := max s.now t + frameLen (s.framerMode (s.lowest lane.val) client), ctr := ctr.toNat }] } :=
  next_of ((exec_candidateMatch_new hscan hin hpat hbar hnew).trans (if_neg (Nat.not_le.2 hroom))) (afterFramer_setFramer ..)

end

/-! ### CANDIDATE_VERIFY (R169, R170, R172) -/

variable {c : Cand} (hcand : ((s.framer (framerKey lane.val client)).cands.find? fun c =>
    decide (c.pos = pos) && decide (c.due ≤ max s.now t)) = some c)
  (hrx : s.rxOn (s.lowest lane.val) = true) (hin : (s.framer (framerKey lane.val client)).inFrame = false)
include hcand hrx hin

/-- A candidate whose check is due, at a receiver that works and is not in frame. -/
theorem exec_candidateVerify_due : exec (.candidateVerify t lane client pos wd ctr) s =
    if s.scanning lane.val client && verifyOk (s.framerMode (s.lowest lane.val) client) wd c.ctr ctr.toNat then
      .next (((s.tick t).setFramer (framerKey lane.val client) { s.framer (framerKey lane.val client) with
        inFrame := true, cands := [], errRun := 0, pos := pos, start := max s.now t, ctr := ctr.toNat }).afterFramer
          (s.lowest lane.val) client false)
    else
      .next (((s.tick t).setFramer (framerKey lane.val client) { s.framer (framerKey lane.val client) with
        cands := (s.framer (framerKey lane.val client)).cands.filter fun c => decide (c.pos ≠ pos) }).afterFramer
          (s.lowest lane.val) client false) := by
  have hkey : (if client then 64 + lane.val else lane.val) = framerKey lane.val client := rfl
  have hfind : (((s.tick t).framer (framerKey lane.val client)).cands.find? fun c =>
    decide (c.pos = pos) && decide (c.due ≤ (s.tick t).now)) = some c := hcand
  have hopen : ¬((s.tick t).rxOn ((s.tick t).lowest lane.val) = false ∨ ((s.tick t).framer (framerKey lane.val client)).inFrame = true) := by
    rintro (h | h)
    · exact Bool.noConfusion (h.symm.trans hrx)
    · exact Bool.noConfusion (h.symm.trans hin)
  change execCandidateVerify t lane client pos wd ctr s = _
  unfold execCandidateVerify
  simp only [hkey, hfind, if_neg hopen]
  rfl

theorem candidateVerify_passes (hscan : s.scanning lane.val client = true)
    (hok : verifyOk (s.framerMode (s.lowest lane.val) client) wd c.ctr ctr.toNat = true) :
    ∃ s', exec (.candidateVerify t lane client pos wd ctr) s = .next s' ∧
      s'.framer (framerKey lane.val client) = { s.framer (framerKey lane.val client) with
        inFrame := true, cands := [], errRun := 0, pos := pos, start := max s.now t, ctr := ctr.toNat } ∧
      (client = false → isBonded (s.prtMode (s.lowest lane.val)) = false → s.lowest lane.val = lane.val →
        s'.framed (s.lowest lane.val) = true ∧ s'.pdef (s.lowest lane.val) 1 = false) := by
  refine next_of ((exec_candidateVerify_due hcand hrx hin).trans (if_pos (by rw [hscan, hok]; rfl))) ⟨afterFramer_setFramer .., ?_⟩
  rintro rfl hb hp
  refine refreshFrame_enters hb ?_
  rw [hp]
  exact congrArg Framer.inFrame (framer_setFramer_same ..)

theorem candidateVerify_fails (hbad : verifyOk (s.framerMode (s.lowest lane.val) client) wd c.ctr ctr.toNat = false) :
    ∃ s', exec (.candidateVerify t lane client pos wd ctr) s = .next s' ∧
      s'.framer (framerKey lane.val client) = { s.framer (framerKey lane.val client) with
        cands := (s.framer (framerKey lane.val client)).cands.filter fun c => decide (c.pos ≠ pos) } :=
  next_of ((exec_candidateVerify_due hcand hrx hin).trans (if_neg (by rw [hbad, Bool.and_false]; decide))) (afterFramer_setFramer ..)

end

/-- Settles O41: a framer that changed is what the registers of its port then follow, and they leave it alone; the timers set one defect
each, and RDI follows the defects. -/
theorem frameSearchAndLineTimers : Obligations.FrameSearchAndLineTimers := by
  refine ⟨fun t lane client pos wd ctr c s => ⟨cdrLockChange_locks, cdrLockChange_unlocks,
      fun hscan hin hpat hbar hnew => ⟨candidateMatch_holds hscan hin hpat hbar hnew,
        fun hfull => (exec_candidateMatch_new hscan hin hpat hbar hnew).trans (if_pos hfull)⟩,
      fun hcand hrx hin => ⟨candidateVerify_passes hcand hrx hin, candidateVerify_fails hcand hrx hin⟩⟩,
    fun t p e s => ⟨losTimer_detectLost, losTimer_zeros, exec_losTimer_zeros_ziuth, losTimer_signal, lofTimer_port, lofTimer_client,
      rdiHoldExpiry_stops⟩⟩

end Sys2Proof.Machine
end

section
/-! Proofs: the routes of management channels and the counters of the host (O59; R192 to R194). -/
namespace Sys2Proof.Machine

/-! ### MDC_ROUTE (R192, R194) -/

/-- The channel that an MDC_ROUTE names. -/
def routeChan (d : List W32) : Nat := bits (word d 2) 0 8

/-- The route that waits for channel `c` at the next mark; none where the channel's route ends. -/
def State.waiting (s : State) (c : Nat) : Option Route := Store.get (fun _ => some ⟨0, 0, 0, 0⟩) s.mdc.next c

/-- Route `r` waits for the next mark on channel `c`, whether or not its serial port has room for it. -/
def State.askRoute (s : State) (c : Nat) (r : Route) : State :=
  s.mapMdc fun y => { y with next := Store.put (fun _ => some ⟨0, 0, 0, 0⟩) y.next c (some r) }

/-- Channel `c` ends its route at the next mark. -/
def State.endRoute (s : State) (c : Nat) : State :=
  s.mapMdc fun y => { y with next := Store.put (fun _ => some ⟨0, 0, 0, 0⟩) y.next c none }

theorem askRoute_waiting (s : State) (c : Nat) (r : Route) : (s.askRoute c r).waiting c = some r := Store.get_put_same

theorem endRoute_waiting (s : State) (c : Nat) : (s.endRoute c).waiting c = none := by
  rw [State.waiting, State.endRoute, State.mapMdc_mdc, Store.get_put_same]

/-- Where route `r` of channel `c` goes has room for it: a serial port for its slots, the host always (R194). -/
def State.routeRoom (s : State) (c : Nat) (r : Route) : Prop :=
  r.dest < 2 ∨ slotBytes (s.askRoute c r).routesNew (r.dest - 2) ≤ serialBudget (s.serialDiv (r.dest - 2))

/-- The host counters of channel `c` return to zero; the read counter of the ring in force is kept until the mark. -/
def State.zeroHostCounts (s : State) (c : Nat) : State :=
  ((s.wr (F.MDC_RD_COUNT c) 0).wr (F.MDC_WR_COUNT c) 0).mapMdc fun y =>
    { y with rdOld := Store.put (fun _ => none) y.rdOld c (some (s.rdCount c)) }

/-- A channel's two host counters are registers of their own. -/
theorem hostCounts_apart (c : Nat) : (F.MDC_WR_COUNT c).apart (F.MDC_RD_COUNT c) = true := by
  simp only [Fld.apart, Bool.or_eq_true, decide_eq_true_eq]
  omega

theorem zeroHostCounts_counts (s : State) (c : Nat) : (s.zeroHostCounts c).rd (F.MDC_RD_COUNT c) = 0 ∧
    (s.zeroHostCounts c).rd (F.MDC_WR_COUNT c) = 0 ∧ (s.zeroHostCounts c).rdCount c = s.rdCount c := by
  refine ⟨?_, ?_, ?_⟩
  · rw [State.zeroHostCounts, State.mapMdc_rd, State.rd_wr_apart _ _ (hostCounts_apart c),
      State.rd_wr_same _ _ _ (by decide : 0 + 32 ≤ 32), Nat.zero_mod]
  · rw [State.zeroHostCounts, State.mapMdc_rd, State.rd_wr_same _ _ _ (by decide : 0 + 32 ≤ 32), Nat.zero_mod]
  · rw [State.rdCount, State.zeroHostCounts, State.mapMdc_mdc, Store.get_put_same]
    rfl

theorem zeroHostCounts_kept (s : State) (c : Nat) :
    RegsKept s (s.zeroHostCounts c) [(F.MDC_RD_COUNT c).addr, (F.MDC_WR_COUNT c).addr] :=
  kept_of (kept_trans (kept_wr (f := F.MDC_RD_COUNT c) (by simp)) (kept_wr (f := F.MDC_WR_COUNT c) (by simp))) rfl

theorem addRoute_full {s : State} {d : List W32} (h : ¬s.routeRoom (routeChan d) (routeOf d)) : s.addRoute d = none := by
  obtain ⟨hdest, hfull⟩ := not_or.1 h
  have h0 : (routeOf d).dest ≠ 0 := by omega
  simp only [State.addRoute, if_neg h0]
  exact if_pos ⟨Nat.not_lt.1 hdest, Nat.not_le.1 hfull⟩

/-- A route of DEST 0 ends the channel's route. -/
theorem addRoute_ends {s : State} {d : List W32} (h : (routeOf d).dest = 0) : s.addRoute d = some (s.endRoute (routeChan d)) := by
  simp only [State.addRoute, h]
  rfl

theorem addRoute_waits {s : State} {d : List W32} (h : (routeOf d).dest ≠ 0) (hroom : s.routeRoom (routeChan d) (routeOf d)) :
    s.addRoute d = some ((s.askRoute (routeChan d) (routeOf d)).zeroHostCounts (routeChan d)) := by
  have hfits : ¬(2 ≤ (routeOf d).dest ∧ serialBudget (s.serialDiv ((routeOf d).dest - 2)) <
      slotBytes (s.askRoute (routeChan d) (routeOf d)).routesNew ((routeOf d).dest - 2)) := by
    rintro ⟨hdest, hfull⟩
    exact hroom.elim (Nat.not_lt.2 hdest) (Nat.not_le.2 hfull)
  simp only [State.addRoute, if_neg h]
  exact if_neg hfits

section
variable {x : Exe} {i : Nat} {k : Taken} {s : State} (hs : Starts s .mdcRoute x i k)
include hs

theorem exec_mdcRoute_bad (hbad : routeOk x.src s k.d = false) :
    exec (.mdcRoute x) s = .next ((s.tick x.t).finish i k .badParam [] x.rplOk) :=
  congrArg Host.Outcome.next (State.run_bad hs.pick (by rw [show routeOk x.src (s.tick x.t) k.d = false from hbad, Bool.and_false]))

variable (hok : routeOk x.src s k.d = true)
include hok

theorem exec_mdcRoute_adds {u : State} (h : (s.tick x.t).addRoute k.d = some u) :
    exec (.mdcRoute x) s = .next (u.finish i k .ok [] x.rplOk) := by
  refine congrArg Host.Outcome.next ((State.run_starts hs hok).trans ?_)
  simp only [h, Ans.settle_ok]

theorem exec_mdcRoute_full (h : ¬s.routeRoom (routeChan k.d) (routeOf k.d)) :
    exec (.mdcRoute x) s = .next ((s.tick x.t).finish i k .noResource [] x.rplOk) := by
  refine congrArg Host.Outcome.next ((State.run_starts hs hok).trans ?_)
  simp only [addRoute_full (s := s.tick x.t) h, Ans.settle_refuse]

theorem mdcRoute_waits (hroom : s.routeRoom (routeChan k.d) (routeOf k.d)) :
    ∃ u : State, exec (.mdcRoute x) s = .next (u.finish i k .ok [] x.rplOk) ∧ u.mdc.routes = s.mdc.routes ∧ u.mdc.cnt = s.mdc.cnt ∧
      u.waiting (routeChan k.d) = (if (routeOf k.d).dest = 0 then none else some (routeOf k.d)) ∧
      ((routeOf k.d).dest = 0 → u.regs = s.regs) ∧
      ((routeOf k.d).dest ≠ 0 → u.rd (F.MDC_RD_COUNT (routeChan k.d)) = 0 ∧ u.rd (F.MDC_WR_COUNT (routeChan k.d)) = 0 ∧
        u.rdCount (routeChan k.d) = s.rdCount (routeChan k.d) ∧
        RegsKept s u [(F.MDC_RD_COUNT (routeChan k.d)).addr, (F.MDC_WR_COUNT (routeChan k.d)).addr]) := by
  by_cases h0 : (routeOf k.d).dest = 0
  · refine ⟨_, exec_mdcRoute_adds hs hok (addRoute_ends h0), rfl, rfl, ?_, fun _ => rfl, fun h => absurd h0 h⟩
    rw [if_pos h0]
    exact endRoute_waiting ..
  · refine ⟨_, exec_mdcRoute_adds hs hok (addRoute_waits (s := s.tick x.t) h0 hroom), rfl, rfl, ?_, fun h => absurd h h0, fun _ => ?_⟩
    · rw [if_neg h0]
      exact askRoute_waiting ..
    · obtain ⟨hrd, hwr, hcount⟩ := zeroHostCounts_counts ((s.tick x.t).askRoute (routeChan k.d) (routeOf k.d)) (routeChan k.d)
      exact ⟨hrd, hwr, hcount, zeroHostCounts_kept ((s.tick x.t).askRoute (routeChan k.d) (routeOf k.d)) (routeChan k.d)⟩

end

/-! ### MDC_STATUS (R192) -/

theorem exec_mdcStatus_starts {x : Exe} {i : Nat} {k : Taken} {s : State} (hs : Starts s .mdcStatus x i k)
    (hok : onlyBits (word k.d 2) 0xFF = true) : exec (.mdcStatus x) s = .next ((s.tick x.t).finish i k .ok
      [((s.routesNew.find? fun y => decide (y.1 = bits (word k.d 2) 0 8)).map fun y => y.2.word).getD 0,
       (s.chan (bits (word k.d 2) 0 8)).extracted, (s.chan (bits (word k.d 2) 0 8)).dropped,
       (s.chan (bits (word k.d 2) 0 8)).short] x.rplOk) := by
  have hword : (match s.routesNew.find? fun y => decide (y.1 = bits (word k.d 2) 0 8) with
      | some y => y.2.word
      | none => 0) = ((s.routesNew.find? fun y => decide (y.1 = bits (word k.d 2) 0 8)).map fun y => y.2.word).getD 0 := by
    cases s.routesNew.find? fun y => decide (y.1 = bits (word k.d 2) 0 8) <;> rfl
  rw [← hword]
  exact congrArg Host.Outcome.next (State.run_starts (params := fun _ d => onlyBits (word d 2) 0xFF) hs hok)

/-! ### The host's counters (R193) -/

/-- A command that stores a whole register. -/
theorem storesRegister_of_exec {c : Instr} {t : Nat} {s : State} {f : Fld} {v : W32} (hlo : f.lo = 0) (hw : f.w = 32)
    (h : exec c s = .next ((s.tick t).setReg f.addr v)) :
    ∃ s', exec c s = .next s' ∧ s'.rd f = v.toNat ∧ RegsKept s s' [f.addr] ∧ s'.mdc = s.mdc := by
  refine next_of h ⟨?_, kept_setReg (s := s.tick t) (List.mem_cons_self ..), rfl⟩
  rw [State.rd, State.reg_setReg, if_pos rfl, hlo, hw, bits, pow_zero, Nat.div_one, Nat.mod_eq_of_lt v.isLt]

section
variable {t : Nat} {m : Master} {ch : Fin 256} {v : W32} {s : State}

theorem exec_mdcWrites_barred (hb : s.barred m.val = true) : exec (.mdcRdWrite t m ch v) s = .next (s.tick t).postedUr ∧
    exec (.mdcWrWrite t m ch v) s = .next (s.tick t).postedUr := ⟨if_pos hb, if_pos hb⟩

variable (hb : s.barred m.val = false)
include hb

theorem exec_mdcRdWrite_of_served : exec (.mdcRdWrite t m ch v) s = .next ((s.tick t).setReg (F.MDC_RD_COUNT ch.val).addr v) := by
  rw [show (F.MDC_RD_COUNT ch.val).addr = 0x40201000 + 4 * ch.val from congrArg _ (Nat.mul_comm ..)]
  exact if_neg (not_barred_tick hb)

theorem exec_mdcWrWrite_of_served : exec (.mdcWrWrite t m ch v) s = .next ((s.tick t).setReg (F.MDC_WR_COUNT ch.val).addr v) := by
  rw [show (F.MDC_WR_COUNT ch.val).addr = 0x40201400 + 4 * ch.val from congrArg _ (Nat.mul_comm ..)]
  exact if_neg (not_barred_tick hb)

end

end Sys2Proof.Machine
end

section
/-! Proofs: the DI frame of a serial port (O59; R194). -/
namespace Sys2Proof.Machine

/-- The bytes of the output frame under way at an insertion key. -/
def State.inserted (s : State) (key : Nat) : List W8 := Store.get (fun _ => []) s.mdc.insNow key

/-! ### A frame with a wrong sync word -/

theorem shortFrame_insNow (s : State) (c : Nat) : (s.shortFrame c).mdc.insNow = s.mdc.insNow := rfl

theorem shortFrame_chan_same (s : State) (c : Nat) : ((s.shortFrame c).chan c).short = (s.chan c).short + 1 := by
  have h : (s.shortFrame c).chan c = { s.chan c with short := (s.chan c).short + 1 } := Store.get_put_same
  rw [h]

theorem shortFrame_chan_other (s : State) {c j : Nat} (h : c ≠ j) : (s.shortFrame c).chan j = s.chan j := Store.get_put_other h

theorem shortFrame_diSync (s : State) (c : Nat) : (s.shortFrame c).flag F.MDC_INT_DI_SYNC = s.flag F.MDC_INT_DI_SYNC :=
  flag_wr_apart (s.mapChan c fun k => { k with short := k.short + 1 }) 1 (by decide)

/-- A short frame for each route of `rs`. -/
def State.shortFrames (s : State) (rs : List (Nat × Route)) : State := rs.foldl (fun s x => s.shortFrame x.1) s

/-- Each route, of a channel of its own, counts one short frame. -/
theorem shortFrames_short {rs : List (Nat × Route)} {r : Nat × Route} (s : State) (hrs : (rs.map Prod.fst).Nodup) (hr : r ∈ rs) :
    ((s.shortFrames rs).chan r.1).short = (s.chan r.1).short + 1 := by
  have hfold : s.shortFrames rs = (rs.map Prod.fst).foldl State.shortFrame s := List.foldl_map.symm
  rw [hfold, foldl_at (I := fun _ => True) (g := fun s => (s.chan r.1).short) (G := (· + 1)) (q := r.1) (fun _ _ _ => trivial)
    (fun v _ hx => by rw [shortFrame_chan_other v hx]) (fun v _ => shortFrame_chan_same v r.1) hrs trivial,
    if_pos (List.mem_map_of_mem hr)]

theorem shortFrames_insNow (s : State) (rs : List (Nat × Route)) : (s.shortFrames rs).mdc.insNow = s.mdc.insNow :=
  foldl_keeps (g := fun s => s.mdc.insNow) (f := fun s (x : Nat × Route) => s.shortFrame x.1) (fun s x => shortFrame_insNow s x.1) rs s

theorem shortFrames_diSync (s : State) (rs : List (Nat × Route)) : (s.shortFrames rs).flag F.MDC_INT_DI_SYNC = s.flag F.MDC_INT_DI_SYNC :=
  foldl_keeps (g := fun s => s.flag F.MDC_INT_DI_SYNC) (f := fun s (x : Nat × Route) => s.shortFrame x.1) (fun s x => shortFrame_diSync s x.1) rs s

/-! ### A frame with the right sync word -/

/-- A frame long enough for `n` bytes after its head has them. -/
theorem diBytes_length {frame : List Bool} {n : Nat} (h : 88 + 8 * n ≤ frame.length) : (diBytes frame n).length = n := by
  have hbyte : ∀ k ∈ List.range n, ((frame.drop (88 + 8 * k)).take 8).length = 8 := fun k hk => by
    have := List.mem_range.1 hk
    rw [List.length_take, List.length_drop]
    omega
  have hall : diBytes frame n = (List.range n).map fun k => bitsByte ((frame.drop (88 + 8 * k)).take 8) := by
    rw [← List.filterMap_eq_map]
    exact List.filterMap_congr fun k hk => if_pos (hbyte k hk)
  rw [hall, List.length_map, List.length_range]

/-- The first bytes of a frame go to the channel of its first slot. -/
def State.putSlot (s : State) (x : Nat × Route) (bs : List W8) : State :=
  let mine := bs.take (kindBytes x.2.kind)
  let s := s.mapMdc fun m => { m with insNow := Store.put (fun _ => []) m.insNow (insKey x.2.port x.2.kind) mine }
  if mine.length < kindBytes x.2.kind then s.shortFrame x.1 else s

theorem putSlots_cons (s : State) (x : Nat × Route) (xs : List (Nat × Route)) (bs : List W8) :
    s.putSlots (x :: xs) bs = (s.putSlot x bs).putSlots xs (bs.drop (kindBytes x.2.kind)) := rfl

theorem putSlot_inserted (s : State) (x : Nat × Route) (bs : List W8) (key : Nat) : (s.putSlot x bs).inserted key =
    if insKey x.2.port x.2.kind = key then bs.take (kindBytes x.2.kind) else s.inserted key := by
  have hput : (s.putSlot x bs).mdc.insNow =
      Store.put (fun _ => []) s.mdc.insNow (insKey x.2.port x.2.kind) (bs.take (kindBytes x.2.kind)) := by
    unfold State.putSlot
    extract_lets mine put
    split <;> rfl
  rw [State.inserted, hput, Store.get_put]
  rfl

/-- Slots with all their bytes count nothing. -/
theorem putSlot_quiet (s : State) {x : Nat × Route} {bs : List W8} (h : kindBytes x.2.kind ≤ bs.length) :
    (s.putSlot x bs).regs = s.regs ∧ (s.putSlot x bs).mdc.cnt = s.mdc.cnt := by
  have hlong : ¬(bs.take (kindBytes x.2.kind)).length < kindBytes x.2.kind := by
    rw [List.length_take]
    omega
  simp only [State.putSlot, if_neg hlong]
  exact ⟨rfl, rfl⟩

theorem putSlots_quiet {xs : List (Nat × Route)} {s : State} {bs : List W8}
    (h : (xs.map fun x => kindBytes x.2.kind).sum ≤ bs.length) :
    (s.putSlots xs bs).regs = s.regs ∧ (s.putSlots xs bs).mdc.cnt = s.mdc.cnt := by
  induction xs generalizing s bs with
  | nil => exact ⟨rfl, rfl⟩
  | cons x xs ih =>
    rw [List.map_cons, List.sum_cons] at h
    obtain ⟨hregs, hcnt⟩ := putSlot_quiet s (x := x) (bs := bs) (by omega)
    obtain ⟨hregs', hcnt'⟩ := ih (s := s.putSlot x bs) (bs := bs.drop (kindBytes x.2.kind)) (by rw [List.length_drop]; omega)
    exact ⟨hregs'.trans hregs, hcnt'.trans hcnt⟩

theorem putSlots_inserted_other {xs : List (Nat × Route)} {s : State} {bs : List W8} {key : Nat}
    (h : ∀ y ∈ xs, insKey y.2.port y.2.kind ≠ key) : (s.putSlots xs bs).inserted key = s.inserted key := by
  induction xs generalizing s bs with
  | nil => rfl
  | cons x xs ih =>
    rw [putSlots_cons, ih fun y hy => h y (List.mem_cons_of_mem _ hy), putSlot_inserted, if_neg (h x (List.mem_cons_self ..))]

/-- A slot's bytes follow those of the slots before it. -/
theorem putSlots_inserted {a b : List (Nat × Route)} {r : Nat × Route} {s : State} {bs : List W8}
    (h : ∀ y ∈ b, insKey y.2.port y.2.kind ≠ insKey r.2.port r.2.kind) :
    (s.putSlots (a ++ r :: b) bs).inserted (insKey r.2.port r.2.kind) =
      (bs.drop (a.map fun y => kindBytes y.2.kind).sum).take (kindBytes r.2.kind) := by
  induction a generalizing s bs with
  | nil => rw [List.nil_append, putSlots_cons, putSlots_inserted_other h, putSlot_inserted, if_pos rfl]; rfl
  | cons x a ih => rw [List.cons_append, putSlots_cons, ih, List.drop_drop, List.map_cons, List.sum_cons]

/-! ### MDC_DI_FRAME -/

section
variable {t : Nat} {port1 : Bool} {frame : List Bool} {s : State}

theorem exec_mdcDiFrame_off (hen : s.serialEn (b2n port1) = false) : exec (.mdcDiFrame t port1 frame) s = .next (s.tick t) :=
  if_neg fun h => Bool.noConfusion (hen.symm.trans h)

variable (hen : s.serialEn (b2n port1) = true)
include hen

theorem mdcDiFrame_wrongSync (hsync : frame.take 16 ≠ ([0xE4, 0xB2] : List W8).flatMap byteBits) :
    ∃ s', exec (.mdcDiFrame t port1 frame) s = .next s' ∧ s'.flag F.MDC_INT_DI_SYNC = true ∧ s'.mdc.insNow = s.mdc.insNow ∧
      (((slotRoutes s.mdc.layOld (b2n port1)).map Prod.fst).Nodup →
        ∀ r ∈ slotRoutes s.mdc.layOld (b2n port1), (s'.chan r.1).short = (s.chan r.1).short + 1) := by
  have hexec : exec (.mdcDiFrame t port1 frame) s =
      .next (((s.tick t).raise F.MDC_INT_DI_SYNC).shortFrames (slotRoutes s.mdc.layOld (b2n port1))) :=
    (if_pos hen).trans (if_neg hsync)
  refine next_of hexec ⟨?_, shortFrames_insNow .., fun hnodup r hr => shortFrames_short _ hnodup hr⟩
  rw [shortFrames_diSync]
  exact flag_wr_same _ _ _ (by decide : (2 : Nat) < 32) rfl

theorem mdcDiFrame_rightSync (hsync : frame.take 16 = ([0xE4, 0xB2] : List W8).flatMap byteBits)
    (hlen : 88 + 8 * slotBytes s.mdc.layOld (b2n port1) ≤ frame.length) :
    ∃ s', exec (.mdcDiFrame t port1 frame) s = .next s' ∧ s'.regs = s.regs ∧ s'.mdc.cnt = s.mdc.cnt ∧
      ∀ a r b, slotRoutes s.mdc.layOld (b2n port1) = a ++ r :: b →
        (∀ y ∈ b, insKey y.2.port y.2.kind ≠ insKey r.2.port r.2.kind) → s'.inserted (insKey r.2.port r.2.kind) =
          ((diBytes frame (slotBytes s.mdc.layOld (b2n port1))).drop (a.map fun y => kindBytes y.2.kind).sum).take (kindBytes r.2.kind) := by
  have hexec : exec (.mdcDiFrame t port1 frame) s = .next ((s.tick t).putSlots (slotRoutes s.mdc.layOld (b2n port1))
      (diBytes frame (slotBytes s.mdc.layOld (b2n port1)))) := (if_pos hen).trans (if_pos hsync)
  obtain ⟨hregs, hcnt⟩ := putSlots_quiet (s := s.tick t) (diBytes_length hlen).ge
  refine next_of hexec ⟨hregs, hcnt, fun a r b hrs hb => ?_⟩
  rw [hrs]
  exact putSlots_inserted hb

end

/-- Settles O59: a route by the state it is stored in, the counters by the one register that each is, a DI frame by its slots in order. -/
theorem managementChannels : Obligations.ManagementChannels := by
  intro x i t k m ch v port1 frame s
  refine ⟨fun hs => ⟨exec_mdcRoute_bad hs, fun hok => ⟨mdcRoute_waits hs hok, exec_mdcRoute_full hs hok⟩⟩, exec_mdcStatus_starts,
    fun hb => ⟨storesRegister_of_exec rfl rfl (exec_mdcRdWrite_of_served hb), storesRegister_of_exec rfl rfl (exec_mdcWrWrite_of_served hb)⟩,
    exec_mdcWrites_barred,
    fun hen => ⟨mdcDiFrame_wrongSync hen, mdcDiFrame_rightSync hen⟩, exec_mdcDiFrame_off⟩

end Sys2Proof.Machine
end

section
/-! Proofs: fields after the writes of the DPLL, and what its steps leave alone (R207 to R215). -/
namespace Sys2Proof.Machine

/-! ### Fields and flags after a write -/

theorem rd_wr_lt (s : State) {f : Fld} {v : Nat} (hf : f.lo + f.w ≤ 32) (hv : v < 2 ^ f.w) : (s.wr f v).rd f = v := by
  rw [State.rd_wr_same _ _ _ hf, Nat.mod_eq_of_lt hv]

theorem rd_setReg (s : State) {a : Nat} {v : W32} {f : Fld} (h : f.addr ≠ a) : (s.setReg a v).rd f = s.rd f := by
  rw [State.rd, State.reg_setReg, if_neg h.symm, State.rd]

theorem flag_setFlag_same (s : State) {f : Fld} {b : Bool} (h : f.lo < 32) (hw : f.w = 1) : (s.setFlag f b).flag f = b := by
  rw [State.setFlag, flag_wr_same _ _ _ h hw]
  cases b <;> rfl

theorem flag_setFlag_apart (s : State) {f g : Fld} {b : Bool} (h : f.apart g = true) : (s.setFlag f b).flag g = s.flag g := flag_wr_apart s _ h

theorem flag_raise_same (s : State) {f : Fld} (h : f.lo < 32) (hw : f.w = 1) : (s.raise f).flag f = true := flag_setFlag_same s (b := true) h hw

theorem flag_raise_apart (s : State) {f g : Fld} (h : f.apart g = true) : (s.raise f).flag g = s.flag g := flag_wr_apart s _ h

theorem flag_setReg (s : State) {a : Nat} {v : W32} {f : Fld} (h : f.addr ≠ a) : (s.setReg a v).flag f = s.flag f := by
  rw [State.flag, rd_setReg s h, State.flag]

/-- Two fields of different registers. -/
theorem apart_of_addr {f g : Fld} (h : f.addr ≠ g.addr) : f.apart g = true := by simp [Fld.apart, h]

/-! ### What the steps of the DPLL leave alone (R209, R210) -/

/-- A register that follows the DPLL: TMG_STATE, TMG_HIST, TMG_OUTFREQ, TMG_PHASE and TMG_INT. -/
abbrev loopReg (a : Nat) : Prop := (0x40050010 ≤ a ∧ a < 0x40050020) ∨ a = 0x40050030

/-- The timing state without what the DPLL keeps of its acquisition, its switch and its outputs. -/
def TmgSt.books (x : TmgSt) : TmgSt :=
  { x with acqAt := 0, inBand := 0, hold := none, verify := none, measured := none, back := false, clk0 := none, clk1 := none }

/-- The state without its registers and the DPLL. -/
def State.beside (s : State) : State := { s with fresh := 0, regs := [], tmg := s.tmg.books }

/-- From `s` to `u` only the DPLL moves, and only registers of `P` change. -/
structure LoopMoved (P : Nat → Prop) (s u : State) : Prop where
  reg : ∀ a, ¬P a → u.reg a = s.reg a
  beside : u.beside = s.beside

namespace LoopMoved

variable {P : Nat → Prop} {s u w : State}

theorem refl (P : Nat → Prop) (s : State) : LoopMoved P s s := ⟨fun _ _ => rfl, rfl⟩

theorem ite {c : Prop} [Decidable c] (h : LoopMoved P s u) (g : LoopMoved P s w) : LoopMoved P s (if c then u else w) := by
  split <;> assumption

section
variable (h : LoopMoved P s u)
include h

theorem trans (g : LoopMoved P u w) : LoopMoved P s w := ⟨fun a ha => (g.reg a ha).trans (h.reg a ha), g.beside.trans h.beside⟩

theorem rd {f : Fld} (hf : ¬P f.addr) : u.rd f = s.rd f := by rw [State.rd, State.rd, h.reg _ hf]

theorem flag {f : Fld} (hf : ¬P f.addr) : u.flag f = s.flag f := by rw [State.flag, State.flag, h.rd hf]

theorem now : u.now = s.now := (congrArg State.now h.beside :)

theorem mate : u.mate = s.mate := (congrArg State.mate h.beside :)

theorem pair : u.pair = s.pair := (congrArg State.pair h.beside :)

theorem refs : u.tmg.refs = s.tmg.refs := congrArg (fun z => z.tmg.refs) h.beside

theorem configured : u.tmg.configured = s.tmg.configured := congrArg (fun z => z.tmg.configured) h.beside

theorem setReg {a : Nat} {v : W32} (ha : P a) : LoopMoved P s (u.setReg a v) where
  reg b hb := by
    rw [State.reg_setReg, if_neg, h.reg b hb]
    rintro rfl
    exact hb ha
  beside := h.beside

theorem wr {f : Fld} {v : Nat} (hf : P f.addr) : LoopMoved P s (u.wr f v) := h.setReg hf

theorem setFlag {f : Fld} {b : Bool} (hf : P f.addr) : LoopMoved P s (u.setFlag f b) := h.wr hf

theorem raise {f : Fld} (hf : P f.addr) : LoopMoved P s (u.raise f) := h.wr hf

theorem setFresh {n : Nat} : LoopMoved P s { u with fresh := n } := ⟨h.reg, h.beside⟩

/-- A change of the timing state that the books do not show. -/
theorem mapTmg {f : TmgSt → TmgSt} (hf : (f u.tmg).books = u.tmg.books) : LoopMoved P s (u.mapTmg f) where
  reg := h.reg
  beside := (congrArg (fun x => ({ u with fresh := 0, regs := [], tmg := x } : State)) hf).trans h.beside

theorem noteClk (v : State) : LoopMoved P s (v.noteClk u) := ⟨h.reg, h.beside⟩

variable (hP : ∀ a, loopReg a → P a)
include hP

theorem showQl : LoopMoved P s u.showQl := h.wr (hP _ (by decide))

theorem enter {st : Nat} : LoopMoved P s (u.enter st) := h.ite (((h.wr (hP _ (by decide))).raise (hP _ (by decide))).noteClk u)

theorem setOut {f : Int} : LoopMoved P s (u.setOut f) := (h.wr (hP _ (by decide))).wr (hP _ (by decide))

theorem outHist : LoopMoved P s u.outHist := by
  unfold State.outHist
  split
  · exact h.setOut hP
  · exact (h.setOut hP).setFresh

theorem endSwitch : LoopMoved P s u.endSwitch := (h.setFlag (hP _ (by decide))).mapTmg rfl

theorem freeBuildOut : LoopMoved P s u.freeBuildOut := (h.setReg (hP _ (by decide))).setFresh

theorem freeze : LoopMoved P s u.freeze := ((h.outHist hP).setFlag (hP _ (by decide))).enter hP

theorem startHold : LoopMoved P s u.startHold := by
  unfold State.startHold
  extract_lets frozen
  have hfrozen : LoopMoved P s frozen := (h.freeze hP).setFlag (hP _ (by decide))
  exact hfrozen.mapTmg rfl

/-- The DPLL gives its reference up. -/
theorem giveUp : LoopMoved P s ((u.outHist.endSwitch.setFlag F.TMG_STATE_SEL_VALID false).enter 3) :=
  (((h.outHist hP).endSwitch hP).setFlag (hP _ (by decide))).enter hP

theorem keepRef : LoopMoved P s u.keepRef := (h.giveUp hP).ite h

theorem trackMate : LoopMoved P s u.trackMate := by
  unfold State.trackMate
  extract_lets up pulled tracks
  have hpulled : LoopMoved P s pulled := ((h.endSwitch hP).setFlag (hP _ (by decide))).raise (hP _ (by decide))
  have hheld : LoopMoved P s ((u.outHist.endSwitch.setFlag F.TMG_STATE_MATE false).enter 3) :=
    (((h.outHist hP).endSwitch hP).setFlag (hP _ (by decide))).enter hP
  have htracks : LoopMoved P s tracks := (h.ite ((hpulled.enter hP).mapTmg rfl)).ite (hheld.ite (h.keepRef hP))
  exact htracks.showQl hP

end
end LoopMoved

/-! ### What the steps of the DPLL set (R209, R210, R213) -/

theorem mapTmg_flag (s : State) (f : TmgSt → TmgSt) (g : Fld) : (s.mapTmg f).flag g = s.flag g := rfl

theorem noteClk_flag (v s : State) (f : Fld) : (v.noteClk s).flag f = s.flag f := rfl

theorem noteClk_rd (v s : State) (f : Fld) : (v.noteClk s).rd f = s.rd f := rfl

section
variable (s : State) {f : Fld}

/-- A field that entering a state of the DPLL leaves alone. -/
theorem enter_rd {st : Nat} (hstate : F.TMG_STATE_STATE.apart f = true) (hint : F.TMG_INT_STATE_CHG.apart f = true) :
    (s.enter st).rd f = s.rd f := by
  unfold State.enter
  split
  · rfl
  · rw [noteClk_rd, State.raise, State.rd_wr_apart _ _ hint, State.rd_wr_apart _ _ hstate]

theorem enter_flag {st : Nat} (hstate : F.TMG_STATE_STATE.apart f = true) (hint : F.TMG_INT_STATE_CHG.apart f = true) :
    (s.enter st).flag f = s.flag f := congrArg (· == 1) (enter_rd s hstate hint)

theorem enter_dpll {st : Nat} (hst : st < 8) : (s.enter st).dpll = st := by
  unfold State.enter
  split
  · assumption
  · rw [State.dpll, noteClk_rd, State.raise, State.rd_wr_apart _ _ (by decide), rd_wr_lt _ (by decide) hst]

theorem enter_stateChg {st : Nat} (h : s.dpll ≠ st) : (s.enter st).flag F.TMG_INT_STATE_CHG = true := by
  rw [State.enter, if_neg h, noteClk_flag]
  exact flag_raise_same _ (by decide) rfl

/-- Of the timing state, entering a state of the DPLL changes only when the clock outputs last stopped (R217). -/
theorem enter_tmg (st : Nat) : ∃ a b, (s.enter st).tmg = { s.tmg with clk0 := a, clk1 := b } := by
  unfold State.enter
  split
  · exact ⟨s.tmg.clk0, s.tmg.clk1, rfl⟩
  · rw [State.noteClk, State.mapTmg_tmg, State.raise, State.wr_tmg, State.wr_tmg]
    exact ⟨_, _, rfl⟩

theorem setOut_rd {v : Int} (h : f.addr ≠ 0x40050018) : (s.setOut v).rd f = s.rd f := by
  rw [State.setOut, State.rd_wr_addr _ _ (Ne.symm h), State.rd_wr_addr _ _ (Ne.symm h)]

theorem outHist_rd (h : f.addr ≠ 0x40050018) : s.outHist.rd f = s.rd f := by
  unfold State.outHist
  split <;> exact setOut_rd s h

theorem outHist_flag (h : f.addr ≠ 0x40050018) : s.outHist.flag f = s.flag f := congrArg (· == 1) (outHist_rd s h)

theorem outHist_dpll : s.outHist.dpll = s.dpll := outHist_rd s (by decide)

theorem endSwitch_rd (h : F.TMG_STATE_TGT_VALID.apart f = true) : s.endSwitch.rd f = s.rd f := State.rd_wr_apart s _ h

theorem endSwitch_flag (h : F.TMG_STATE_TGT_VALID.apart f = true) : s.endSwitch.flag f = s.flag f := flag_wr_apart s _ h

theorem endSwitch_tgtValid : s.endSwitch.flag F.TMG_STATE_TGT_VALID = false := flag_setFlag_same s (by decide) rfl

theorem showQl_rd (h : F.TMG_STATE_TX_QL.apart f = true) : s.showQl.rd f = s.rd f := State.rd_wr_apart s _ h

theorem showQl_flag (h : F.TMG_STATE_TX_QL.apart f = true) : s.showQl.flag f = s.flag f := flag_wr_apart s _ h

theorem showQl_dpll : s.showQl.dpll = s.dpll := showQl_rd s (by decide)

theorem freeze_dpll : s.freeze.dpll = 4 := enter_dpll _ (by decide)

end

end Sys2Proof.Machine
end

section
/-! Proofs: the timing commands (O45; R197, R208, R209, R217 to R220). -/
namespace Sys2Proof.Machine

/-! ### What TIMING_CONFIGURE sets (R208, R212, R217, R220) -/

theorem startOutputs_configured (s : State) : s.startOutputs.tmg.configured = true := by
  unfold State.startOutputs
  split
  · assumption
  · rfl

theorem startOutputs_rd (s : State) {f : Fld} (h : f.addr ≠ 0x40050024) : s.startOutputs.rd f = s.rd f := by
  unfold State.startOutputs
  split
  · rfl
  · rw [State.mapTmg_rd, State.rd_wr_addr _ _ (Ne.symm h), State.rd_wr_addr _ _ (Ne.symm h)]

/-- A reference in use or aimed at that becomes another source: no register outside its status and the DPLL's changes. -/
theorem failEntry_moved {P : Nat → Prop} {s : State} {n : Nat} {inUse aimed : Bool} (hP : ∀ a, loopReg a → P a) (hn : P (0x40050140 + n * 0x4)) :
    LoopMoved P s (s.failEntry n inUse aimed) := by
  unfold State.failEntry
  extract_lets failed unselected left
  have hfailed : LoopMoved P s failed := (((LoopMoved.refl P s).raise hn).raise (hP _ (by decide))).setFlag hn
  have hunselected : LoopMoved P s unselected := hfailed.setFlag (hP _ (by decide))
  have hleft : LoopMoved P s left := ((hunselected.freeze hP).ite (hunselected.mapTmg rfl)).ite hfailed
  exact ((hleft.setFlag (hP _ (by decide))).mapTmg rfl).ite hleft

/-- A changed entry is stored, and the outputs stay configured. -/
theorem setRefEntry_stores {s : State} {n : Nat} (hn : n < 16) (e : W32) :
    (s.setRefEntry n e).reg (0x40050100 + n * 4) = e ∧ (s.setRefEntry n e).tmg.configured = s.tmg.configured := by
  let P : Nat → Prop := fun a => a ≠ 0x40050100 + n * 4
  have hP : ∀ a, loopReg a → P a := fun a ha => by show a ≠ _; unfold loopReg at ha; omega
  unfold State.setRefEntry
  extract_lets old stored inUse aimed fresh anew unknown cleared
  have hstored : stored.reg (0x40050100 + n * 4) = e := (State.reg_setReg ..).trans (if_pos rfl)
  split
  · exact ⟨hstored, rfl⟩
  · have hcleared : LoopMoved P anew cleared :=
      (((LoopMoved.refl P anew).setReg (by show _ ≠ _; omega)).setReg (by show _ ≠ _; omega)).setReg (by show _ ≠ _; omega)
    have hfailed : LoopMoved P anew (cleared.failEntry n inUse aimed) := hcleared.trans (failEntry_moved hP (by show _ ≠ _; omega))
    have hlast := hfailed.ite (c := (inUse || aimed) = true) hcleared
    exact ⟨(hlast.reg _ (fun h => h rfl)).trans hstored, hlast.configured⟩

/-- An external command moves the DPLL and the commands of the references alone. -/
theorem external_moved (s : State) (n cmd : Nat) : LoopMoved (fun _ => True) s (s.external n cmd) := by
  have hs := LoopMoved.refl (fun _ => True) s
  match cmd with
  | 0 => exact ((hs.setFlag trivial).setFlag trivial).setFlag trivial
  | 1 => exact hs.raise trivial
  | 2 => exact (List.foldlRecOn (motive := LoopMoved _ s) (List.range 16) _ hs fun _ hv _ _ => hv.setFlag trivial).raise trivial
  | _ + 3 =>
    have hforced := hs.raise (f := F.TMG_STATE_FORCE_HO) trivial
    exact hforced.ite ((((hforced.outHist fun _ _ => trivial).endSwitch fun _ _ => trivial).setFlag trivial).enter fun _ _ => trivial)

/-- The command's parts by OP. -/
theorem applyTiming_entry {s : State} {d : List W32} (h : bits (word d 2) 0 4 = 0) :
    s.applyTiming d = (s.startOutputs.setRefEntry (bits (word d 2) 8 4) (d.getD 3 0)).wakeDemands := by
  simp only [State.applyTiming, h]

theorem applyTiming_globals {s : State} {d : List W32} (h : bits (word d 2) 0 4 = 1) : s.applyTiming d =
    ((s.startOutputs.setReg 0x40050000 (d.getD 3 0)).setReg 0x40050004 (d.getD 4 0)).setReg 0x40050008 (d.getD 5 0) := by
  simp only [State.applyTiming, h]

theorem applyTiming_external {s : State} {d : List W32} (h : bits (word d 2) 0 4 = 2) :
    s.applyTiming d = s.startOutputs.external (bits (word d 2) 8 4) (word d 3) := by
  simp only [State.applyTiming, h]

theorem applyTiming_outputs {s : State} {d : List W32} (h : 3 ≤ bits (word d 2) 0 4) :
    s.applyTiming d = s.startOutputs.noteClk (s.startOutputs.setReg 0x40050020 (d.getD 3 0)) := by
  obtain ⟨op, hop⟩ := Nat.exists_eq_add_of_le' h
  simp only [State.applyTiming, hop]

/-- After a TIMING_CONFIGURE the outputs run (R218). -/
theorem applyTiming_configured (s : State) (d : List W32) : (s.applyTiming d).tmg.configured = true := by
  have hstart := startOutputs_configured s
  have hop : bits (word d 2) 0 4 = 0 ∨ bits (word d 2) 0 4 = 1 ∨ bits (word d 2) 0 4 = 2 ∨ 3 ≤ bits (word d 2) 0 4 := by omega
  rcases hop with h | h | h | h
  · obtain ⟨l, hl⟩ := wakeDemands_onlyLine (s.startOutputs.setRefEntry (bits (word d 2) 8 4) (d.getD 3 0))
    rw [applyTiming_entry h, hl]
    exact (setRefEntry_stores (bits_lt ..) _).2.trans hstart
  · rw [applyTiming_globals h]
    exact hstart
  · rw [applyTiming_external h]
    exact (external_moved ..).configured.trans hstart
  · rw [applyTiming_outputs h]
    exact hstart

theorem applyTiming_entry_reg {s : State} {d : List W32} (h : bits (word d 2) 0 4 = 0) :
    (s.applyTiming d).reg (0x40050100 + bits (word d 2) 8 4 * 4) = d.getD 3 0 := by
  obtain ⟨l, hl⟩ := wakeDemands_onlyLine (s.startOutputs.setRefEntry (bits (word d 2) 8 4) (d.getD 3 0))
  rw [applyTiming_entry h, hl]
  exact (setRefEntry_stores (bits_lt ..) _).1

theorem applyTiming_globals_reg {s : State} {d : List W32} (h : bits (word d 2) 0 4 = 1) :
    (s.applyTiming d).reg 0x40050000 = d.getD 3 0 ∧ (s.applyTiming d).reg 0x40050004 = d.getD 4 0 ∧
      (s.applyTiming d).reg 0x40050008 = d.getD 5 0 ∧ (s.applyTiming d).dpll = s.dpll := by
  rw [applyTiming_globals h]
  refine ⟨by simp, by simp, by simp, ?_⟩
  rw [State.dpll, rd_setReg _ (by decide), rd_setReg _ (by decide), rd_setReg _ (by decide), startOutputs_rd _ (by decide), State.dpll]

/-! ### External commands (R208) -/

section
variable {s : State} {n : Nat} (hn : n < 16)
include hn

theorem external_clears : (s.external n 0).flag (F.TMG_REF_STAT_LOCKOUT n) = false ∧ (s.external n 0).flag (F.TMG_REF_STAT_FORCED n) = false ∧
    (s.external n 0).flag F.TMG_STATE_FORCE_HO = false := by
  have hforce : ∀ lo, F.TMG_STATE_FORCE_HO.apart ⟨0x40050140 + n * 0x4, lo, 1⟩ = true := fun lo =>
    apart_of_addr (by show 0x40050010 ≠ 0x40050140 + n * 0x4; omega)
  refine ⟨?_, ?_, flag_setFlag_same _ (by decide) rfl⟩
  · rw [State.external, flag_setFlag_apart _ (hforce _), flag_setFlag_apart _ (apart_of_bits (.inl (by decide)) (by decide)),
      flag_setFlag_same _ (by decide : (4 : Nat) < 32) rfl]
  · rw [State.external, flag_setFlag_apart _ (hforce _), flag_setFlag_same _ (by decide : (5 : Nat) < 32) rfl]

end

theorem external_locksOut (s : State) (n : Nat) : (s.external n 1).flag (F.TMG_REF_STAT_LOCKOUT n) = true :=
  flag_raise_same s (by decide : (4 : Nat) < 32) rfl

/-- The flags FORCED of two references do not overlap. -/
theorem forced_apart {m k : Nat} (h : m ≠ k) : (F.TMG_REF_STAT_FORCED m).apart (F.TMG_REF_STAT_FORCED k) = true :=
  apart_of_addr (by show 0x40050140 + m * 0x4 ≠ 0x40050140 + k * 0x4; omega)

theorem clearForced_flag (l : List Nat) (s : State) (m : Nat) :
    (l.foldl (fun s m => s.setFlag (F.TMG_REF_STAT_FORCED m) false) s).flag (F.TMG_REF_STAT_FORCED m) =
      (s.flag (F.TMG_REF_STAT_FORCED m) && decide (m ∉ l)) := by
  induction l generalizing s with
  | nil => simp
  | cons k l ih =>
    rw [List.foldl_cons, ih]
    by_cases hk : k = m
    · rw [hk, flag_setFlag_same _ (by decide : (5 : Nat) < 32) rfl]
      simp
    · rw [flag_setFlag_apart _ (forced_apart hk)]
      simp [Ne.symm hk]

/-- FORCE leaves one reference forced. -/
theorem external_forces (s : State) {n m : Nat} (hm : m < 16) : (s.external n 2).flag (F.TMG_REF_STAT_FORCED m) = decide (m = n) := by
  rw [State.external]
  by_cases h : n = m
  · rw [h, flag_raise_same _ (by decide : (5 : Nat) < 32) rfl, decide_eq_true rfl]
  · rw [flag_raise_apart _ (forced_apart h), clearForced_flag]
    simp [hm, Ne.symm h]

/-- FORCE HOLDOVER ends in holdover unless the DPLL runs free or the device does not act. -/
theorem external_holdsOver (s : State) (n : Nat) : (s.external n 3).flag F.TMG_STATE_FORCE_HO = true ∧
    (s.dpll ≠ 0 → s.acting = true → (s.external n 3).dpll = 3) := by
  have hraised : (s.raise F.TMG_STATE_FORCE_HO).flag F.TMG_STATE_FORCE_HO = true := flag_raise_same _ (by decide) rfl
  have hdpll : (s.raise F.TMG_STATE_FORCE_HO).dpll = s.dpll := State.rd_wr_apart _ _ (by decide)
  have hacting : (s.raise F.TMG_STATE_FORCE_HO).acting = s.acting := flag_raise_apart _ (by decide)
  simp only [State.external, hdpll, hacting]
  split
  · exact ⟨hraised, fun h0 hact => by simp_all⟩
  · refine ⟨?_, fun _ _ => enter_dpll _ (by decide)⟩
    rw [enter_flag _ (by decide) (by decide), flag_setFlag_apart _ (by decide), endSwitch_flag _ (by decide), outHist_flag _ (by decide), hraised]

/-! ### The three commands -/

/-- The realignment that a TIMING_REALIGN starts (R218, R219). -/
def State.realignAsked (s : State) (d : List W32) : Realign :=
  { fs := bitOf (word d 2) 0, pps := bitOf (word d 2) 1, ref := bits (word d 2) 4 4, ofs := word d 3, start := s.now,
    phase := if bitOf (word d 2) 0 || bits (word d 2) 4 4 != 15 then none else some (s.now, s.nextFsync), fsFn := none, ppsFn := none }

section
variable {x : Exe} {i : Nat} {k : Taken} {s : State}

theorem exec_timingConfigure_starts (hs : Starts s .timingConfigure x i k) (hok : timingForm k.d = true) :
    exec (.timingConfigure x) s = .next ((if (s.tick x.t).timingCase k.d then
      .ok (((s.tick x.t).applyTiming k.d).mirrorSettings k.d []) [] else .refuse .badParam : Ans).settle i k x.rplOk (s.tick x.t)) :=
  congrArg Host.Outcome.next (State.run_starts hs hok)

theorem exec_timingRealign_starts (hs : Starts s .timingRealign x i k) (hok : realignOk k.d = true) :
    exec (.timingRealign x) s = .next ((if !(s.tick x.t).realignCase k.d then .refuse .badParam
      else if s.tmg.realign.isSome then .refuse .busy
      else .accepted ((s.tick x.t).mapTmg fun y => { y with realign := some ((s.tick x.t).realignAsked k.d) }) [] : Ans).settle i k x.rplOk
        (s.tick x.t)) :=
  congrArg Host.Outcome.next (State.run_starts hs hok)

theorem exec_timingStatus_starts (hs : Starts s .timingStatus x i k) :
    exec (.timingStatus x) s = .next ((s.tick x.t).finish i k .ok [s.reg 0x40050010, s.reg 0x40050018,
      BitVec.ofNat 32 (((List.range 16).map fun n => b2n (s.available n) * 2 ^ n).sum + 65536 * ((List.range 16).map fun n => b2n (s.suspect n) * 2 ^ n).sum),
      BitVec.ofNat 32 (((List.range 16).map fun n => b2n (s.flag (F.TMG_REF_STAT_FAIL n)) * 2 ^ n).sum +
        65536 * ((List.range 16).map fun n => b2n (s.ref n).wtr.isSome * 2 ^ n).sum)] x.rplOk) :=
  congrArg Host.Outcome.next (State.run_starts hs rfl)

end

/-- Settles O45: TIMING_CONFIGURE by what each OP makes of the state with its outputs started, the others by their answers. -/
theorem timingCommands : Obligations.TimingCommands := by
  intro x i k s
  refine ⟨fun hs hok => ⟨fun hcase => ⟨?_, applyTiming_configured .., applyTiming_entry_reg, applyTiming_globals_reg, fun hop hcmd => ?_,
      fun hop hcmd => ?_, fun hop hcmd m hm => ?_, fun hop hcmd => ?_, fun hop => ?_⟩, fun hcase => ?_⟩,
    fun hs hok => ⟨fun hcase => ?_, fun hcase hbusy => ?_, fun hcase hidle => ?_⟩, exec_timingStatus_starts⟩
  · rw [exec_timingConfigure_starts hs hok, if_pos hcase, Ans.settle_ok]
  · rw [applyTiming_external hop, hcmd]
    exact external_clears (bits_lt ..)
  · rw [applyTiming_external hop, hcmd]
    exact external_locksOut ..
  · rw [applyTiming_external hop, hcmd]
    exact external_forces _ hm
  · rw [applyTiming_external hop, hcmd]
    obtain ⟨hforce, hholds⟩ := external_holdsOver (s.tick x.t).startOutputs (bits (word k.d 2) 8 4)
    have hdpll : (s.tick x.t).startOutputs.dpll = s.dpll := startOutputs_rd _ (by decide)
    have hacting : (s.tick x.t).startOutputs.acting = s.acting := congrArg (· == 1) (startOutputs_rd _ (by decide))
    exact ⟨hforce, fun h0 hact => hholds (hdpll ▸ h0) (hacting.trans hact)⟩
  · rw [applyTiming_outputs hop.ge]
    exact (State.reg_setReg ..).trans (if_pos rfl)
  · rw [exec_timingConfigure_starts hs hok, if_neg (by simp [hcase]), Ans.settle_refuse]
  · rw [exec_timingRealign_starts hs hok, if_pos (by simp [hcase]), Ans.settle_refuse]
  · rw [exec_timingRealign_starts hs hok, if_neg (by simp [hcase]), if_pos (Option.isSome_iff_ne_none.2 hbusy), Ans.settle_refuse]
  · rw [exec_timingRealign_starts hs hok, if_neg (by simp [hcase]), if_neg (by simp [hidle]), Ans.settle_accepted]
    rfl

end Sys2Proof.Machine
end

section
/-! Proofs: a reference switch and a realignment (O47; R209 to R211, R218, R219). -/
namespace Sys2Proof.Machine

/-! ### The verification of a target and the switch to it (R209 to R211) -/

section
variable {t v at0 : Nat} {phase df : Int} {s : State}

theorem verificationComplete_measures (hverify : s.tmg.verify = some v) (hswitching : s.dpll = 4)
    (htarget : s.flag F.TMG_STATE_TGT_VALID = true) (hback : s.tmg.back = false) (hend : v + s.rd F.TMG_TIMERS_VERIFY * 10 * msTicks ≤ max s.now t)
    (hcand : s.cands.contains (s.rd F.TMG_STATE_TARGET) = true ∨ s.forced = some (s.rd F.TMG_STATE_TARGET)) :
    exec (.verificationComplete t phase df) s =
      .next ((s.tick t).mapTmg fun x => { x with measured := some (phase, df, max s.now t), verify := none }) := by
  show execVerificationComplete t phase df s = _
  simp only [execVerificationComplete, State.tick_tmg, hverify]
  exact if_pos ⟨hswitching, htarget, hback, hend, hcand⟩

/-- The target becomes the selected reference, and the phase between the two is built out (R210). -/
def State.switchOver (s : State) (phase : Int) : State :=
  let changed := !(s.flag F.TMG_STATE_SEL_VALID && s.rd F.TMG_STATE_SEL_REF == s.rd F.TMG_STATE_TARGET)
  let s := (s.wr F.TMG_STATE_SEL_REF (s.rd F.TMG_STATE_TARGET)).raise F.TMG_STATE_SEL_VALID
  ((s.raiseIf changed F.TMG_INT_SEL_CHG).setReg 0x4005001C (BitVec.ofInt 32 ((s.reg 0x4005001C).toInt + phase))).endSwitch

/-- The DPLL ends a switch in state `st`. -/
def State.settleIn (s : State) (st : Nat) (f : TmgSt → TmgSt) : State := ((s.enter st).mapTmg f).showQl

theorem raiseIf_rd (s : State) {c : Bool} {f g : Fld} (h : f.apart g = true) : (s.raiseIf c f).rd g = s.rd g := by
  unfold State.raiseIf
  split
  · exact State.rd_wr_apart _ _ h
  · rfl

/-- A field outside what settling writes. -/
theorem settleIn_rd (s : State) {st : Nat} {g : TmgSt → TmgSt} {f : Fld} (hstate : F.TMG_STATE_STATE.apart f = true)
    (hint : F.TMG_INT_STATE_CHG.apart f = true) (hql : F.TMG_STATE_TX_QL.apart f = true) : (s.settleIn st g).rd f = s.rd f := by
  rw [State.settleIn, showQl_rd _ hql, State.mapTmg_rd, enter_rd _ hstate hint]

theorem settleIn_dpll (s : State) {st : Nat} {g : TmgSt → TmgSt} (hst : st < 8) : (s.settleIn st g).dpll = st := by
  rw [State.settleIn, showQl_dpll]
  exact enter_dpll s hst

theorem settleIn_flag (s : State) {st : Nat} {g : TmgSt → TmgSt} {f : Fld} (hstate : F.TMG_STATE_STATE.apart f = true)
    (hint : F.TMG_INT_STATE_CHG.apart f = true) (hql : F.TMG_STATE_TX_QL.apart f = true) : (s.settleIn st g).flag f = s.flag f :=
  congrArg (· == 1) (settleIn_rd s hstate hint hql)

theorem settleIn_phase (s : State) {st : Nat} {g : TmgSt → TmgSt} : (s.settleIn st g).reg 0x4005001C = s.reg 0x4005001C := by
  rw [State.settleIn, State.showQl, reg_wr, if_neg (by decide), State.mapTmg_reg, State.enter]
  split
  · rfl
  · rw [State.noteClk, State.mapTmg_reg]
    exact (RegKept.wr (RegKept.refl 0x4005001C s) (by decide)).raise (by decide)

theorem settleIn_measured (s : State) {st : Nat} {g : TmgSt → TmgSt} (hg : ∀ x, (g x).measured = x.measured) :
    (s.settleIn st g).tmg.measured = s.tmg.measured := by
  obtain ⟨a, b, he⟩ := enter_tmg s st
  show (g (s.enter st).tmg).measured = _
  rw [hg, he]

/-- A switch to a target that was measured by this mark (R210, R211). -/
theorem exec_switchCommit_switches (hswitching : s.dpll = 4) (hstart : s.core.started = true) (hmark : max s.now t = s.core.markT)
    (hback : s.tmg.back = false) (hmeasured : s.tmg.measured = some (phase, df, at0)) (hat : at0 ≤ s.core.markT) :
    exec (.switchCommit t) s = .next (if df.natAbs ≤ 5000 then ((s.tick t).switchOver phase).settleIn 2 id
      else ((s.tick t).switchOver phase).settleIn 1 fun x => { x with acqAt := ((s.tick t).switchOver phase).now, inBand := 0 }) := by
  show execSwitchCommit t s = _
  refine (if_pos ⟨hswitching, hstart, hmark⟩).trans ((if_neg (ne_true_of_eq_false hback)).trans ?_)
  simp only [State.tick_tmg, hmeasured]
  refine (if_pos hat).trans ?_
  split <;> rfl

/-- What the selected reference and its phase are after a switch. -/
theorem switchOver_sets (s : State) (phase : Int) : (s.switchOver phase).rd F.TMG_STATE_SEL_REF = s.rd F.TMG_STATE_TARGET ∧
    (s.switchOver phase).flag F.TMG_STATE_SEL_VALID = true ∧ (s.switchOver phase).flag F.TMG_STATE_TGT_VALID = false ∧
    (s.switchOver phase).reg 0x4005001C = BitVec.ofInt 32 ((s.reg 0x4005001C).toInt + phase) ∧ (s.switchOver phase).tmg.measured = none := by
  have htarget : s.rd F.TMG_STATE_TARGET < 2 ^ 4 := bits_lt ..
  refine ⟨?_, ?_, endSwitch_tgtValid _, ?_, rfl⟩
  · rw [State.switchOver, endSwitch_rd _ (by decide), rd_setReg _ (by decide), raiseIf_rd _ (by decide), State.raise,
      State.rd_wr_apart _ _ (by decide), rd_wr_lt _ (by decide) htarget]
  · rw [State.switchOver, endSwitch_flag _ (by decide), flag_setReg _ (by decide), State.flag, raiseIf_rd _ (by decide), ← State.flag,
      flag_raise_same _ (by decide) rfl]
  · have hkept : RegKept 0x4005001C s ((s.wr F.TMG_STATE_SEL_REF (s.rd F.TMG_STATE_TARGET)).raise F.TMG_STATE_SEL_VALID) :=
      ((RegKept.refl _ s).wr (by decide)).raise (by decide)
    rw [State.switchOver, State.endSwitch, State.mapTmg_reg, State.setFlag, reg_wr, if_neg (by decide), State.reg_setReg, if_pos rfl, hkept]

theorem switchOver_selChg {s : State} (phase : Int)
    (h : ¬(s.flag F.TMG_STATE_SEL_VALID = true ∧ s.rd F.TMG_STATE_SEL_REF = s.rd F.TMG_STATE_TARGET)) :
    (s.switchOver phase).flag F.TMG_INT_SEL_CHG = true := by
  have hchanged : (!(s.flag F.TMG_STATE_SEL_VALID && s.rd F.TMG_STATE_SEL_REF == s.rd F.TMG_STATE_TARGET)) = true := by
    simpa [Classical.or_iff_not_imp_left] using h
  rw [State.switchOver, hchanged, endSwitch_flag _ (by decide), flag_setReg _ (by decide)]
  exact flag_raise_same _ (by decide) rfl

/-- Where a switch leaves the device, whichever state the DPLL ends it in. -/
theorem switched {st : Nat} (hst : st < 8) {g : TmgSt → TmgSt} (hg : ∀ x, (g x).measured = x.measured) :
    let u := (s.switchOver phase).settleIn st g
    u.rd F.TMG_STATE_SEL_REF = s.rd F.TMG_STATE_TARGET ∧ u.flag F.TMG_STATE_SEL_VALID = true ∧ u.flag F.TMG_STATE_TGT_VALID = false ∧
      u.dpll = st ∧ u.reg 0x4005001C = BitVec.ofInt 32 ((s.reg 0x4005001C).toInt + phase) ∧ u.tmg.measured = none ∧
      (¬(s.flag F.TMG_STATE_SEL_VALID = true ∧ s.rd F.TMG_STATE_SEL_REF = s.rd F.TMG_STATE_TARGET) → u.flag F.TMG_INT_SEL_CHG = true) := by
  obtain ⟨href, hvalid, htarget, hphase, hmeasured⟩ := switchOver_sets s phase
  refine ⟨?_, ?_, ?_, settleIn_dpll _ hst, (settleIn_phase _).trans hphase, (settleIn_measured _ hg).trans hmeasured, fun h => ?_⟩
  · exact (settleIn_rd _ (by decide) (by decide) (by decide)).trans href
  · exact (settleIn_flag _ (by decide) (by decide) (by decide)).trans hvalid
  · exact (settleIn_flag _ (by decide) (by decide) (by decide)).trans htarget
  · exact (settleIn_flag _ (by decide) (by decide) (by decide)).trans (switchOver_selChg phase h)

theorem switchCommit_switches (hswitching : s.dpll = 4) (hstart : s.core.started = true) (hmark : max s.now t = s.core.markT)
    (hback : s.tmg.back = false) (hmeasured : s.tmg.measured = some (phase, df, at0)) (hat : at0 ≤ s.core.markT) :
    ∃ s', exec (.switchCommit t) s = .next s' ∧ s'.rd F.TMG_STATE_SEL_REF = s.rd F.TMG_STATE_TARGET ∧ s'.flag F.TMG_STATE_SEL_VALID = true ∧
      s'.flag F.TMG_STATE_TGT_VALID = false ∧ s'.dpll = (if df.natAbs ≤ 5000 then 2 else 1) ∧
      s'.reg 0x4005001C = BitVec.ofInt 32 ((s.reg 0x4005001C).toInt + phase) ∧ s'.tmg.measured = none ∧
      (¬ (s.flag F.TMG_STATE_SEL_VALID = true ∧ s.rd F.TMG_STATE_SEL_REF = s.rd F.TMG_STATE_TARGET) → s'.flag F.TMG_INT_SEL_CHG = true) := by
  refine next_of (exec_switchCommit_switches hswitching hstart hmark hback hmeasured hat) ?_
  split
  · exact switched (s := s.tick t) (by decide) fun _ => rfl
  · exact switched (s := s.tick t) (by decide) fun _ => rfl

/-- A switch back to the reference in use ends without a commit (R211). -/
theorem switchCommit_back (hswitching : s.dpll = 4) (hstart : s.core.started = true) (hmark : max s.now t = s.core.markT)
    (hback : s.tmg.back = true) (hverify : s.tmg.verify = some v) (hv : v ≤ s.core.markT) :
    ∃ s', exec (.switchCommit t) s = .next s' ∧ s'.dpll = 2 ∧ s'.rd F.TMG_STATE_SEL_REF = s.rd F.TMG_STATE_SEL_REF ∧
      s'.flag F.TMG_STATE_TGT_VALID = false ∧ s'.reg 0x4005001C = s.reg 0x4005001C ∧ s'.flag F.TMG_INT_SEL_CHG = s.flag F.TMG_INT_SEL_CHG := by
  have hexec : exec (.switchCommit t) s = .next ((s.tick t).endSwitch.settleIn 2 id) := by
    show execSwitchCommit t s = _
    refine (if_pos ⟨hswitching, hstart, hmark⟩).trans ((if_pos hback).trans (congrArg Host.Outcome.next (if_pos ?_)))
    rw [State.tick_tmg, hverify]
    exact decide_eq_true hv
  refine next_of hexec ⟨settleIn_dpll _ (by decide), ?_, ?_, (settleIn_phase _).trans ?_, ?_⟩
  · rw [settleIn_rd _ (by decide) (by decide) (by decide), endSwitch_rd _ (by decide), State.tick_rd]
  · rw [settleIn_flag _ (by decide) (by decide) (by decide), endSwitch_tgtValid]
  · exact (RegKept.refl _ (s.tick t)).setFlag (by decide)
  · rw [settleIn_flag _ (by decide) (by decide) (by decide), endSwitch_flag _ (by decide), flag_tick]

end

/-! ### The pulses of a realignment (R218, R219) -/

/-- The words of a completed realignment carry the frame number of each output's new phase. -/
def fnWord (x : Option W16) : W32 := BitVec.ofNat 32 ((x.map BitVec.toNat).getD 0)

/-- No realignment is in flight any more. -/
def State.realigned (s : State) : State := (s.mapTmg fun x => { x with realign := none }).raise F.TMG_INT_REALIGNED

theorem endRealign_of {s : State} {r : Realign} (h : s.tmg.realign = some r) (st : Status) (ok : Bool) :
    s.endRealign st ok = s.realigned.complete .timingRealign st [fnWord r.fsFn, fnWord r.ppsFn] ok := by
  simp only [State.endRealign, h]
  rfl

theorem checkRealign_of {s : State} {r : Realign} (h : s.tmg.realign = some r) (ok : Bool) :
    s.checkRealign ok = if r.finished then s.realigned.complete .timingRealign .ok [fnWord r.fsFn, fnWord r.ppsFn] ok else s := by
  simp only [State.checkRealign, h, endRealign_of h]

theorem realigned_flag (s : State) : s.realigned.flag F.TMG_INT_REALIGNED = true := flag_raise_same _ (by decide) rfl

theorem realigned_rd (s : State) {f : Fld} (h : F.TMG_INT_REALIGNED.apart f = true) : s.realigned.rd f = s.rd f :=
  State.rd_wr_apart (s.mapTmg _) _ h

theorem fn_wr {s : State} {f : Fld} {v : Nat} (h : f.addr ≠ F.FRAME_NUM_FN.addr) : (s.wr f v).fn = s.fn := by
  rw [State.fn, State.rd_wr_addr _ _ h, State.fn]

theorem ppsTakes_realign (s : State) (r : Realign) : (s.ppsTakes r).tmg.realign = some { r with ppsFn := some s.fn } := by
  rw [State.ppsTakes, State.mapTmg_tmg, fn_wr (by decide)]

theorem ppsTakes_rd (s : State) {r : Realign} (h : r.ref < 16) : (s.ppsTakes r).rd F.TMG_ALIGN_PPS_REF = r.ref := by
  rw [State.ppsTakes, State.mapTmg_rd, rd_wr_lt _ (by decide) h]

theorem fsyncTakes_realign (s : State) (r : Realign) : (s.fsyncTakes r).tmg.realign =
    some { r with fsFn := some s.fn, phase := if r.pps && r.ref == 15 then some (s.now, s.frameTime) else r.phase } := by
  rw [State.fsyncTakes, State.mapTmg_tmg, fn_wr (by decide)]
  rfl

theorem fsyncTakes_rd (s : State) {r : Realign} (h : r.ofs ≤ 124999) : (s.fsyncTakes r).rd F.TMG_ALIGN_FSYNC_OFS = r.ofs := by
  rw [State.fsyncTakes, State.mapTmg_rd, rd_wr_lt _ (by decide) (by show _ < 131072; omega)]

section
variable {t : Nat} {r : Realign} {rplOk : Bool} {s : State} (hr : s.tmg.realign = some r)
include hr

/-- A pulse of PPS_OUT's new phase, once half a period is free or not. -/
theorem exec_realignPulse_pps (hdue : (s.tick t).ppsDue r = true) : exec (.realignPulse t true rplOk) s =
    if (s.tick t).pulseFree ppsPeriod s.tmg.ppsPh ((r.phase.map Prod.fst).getD (max s.now t)) then
      .next (((s.tick t).ppsTakes r).checkRealign rplOk)
    else .next ((s.tick t).mapTmg fun x =>
      { x with realign := some { r with phase := some (r.phase.getD (max s.now t, (s.tick t).frameTime)) } }) := by
  show execRealignPulse t true rplOk s = _
  simp only [execRealignPulse, State.tick_tmg, hr, hdue, if_true]
  rfl

theorem ppsPulse_waitsForFsync (href : r.ref < 16) (hdue : (s.tick t).ppsDue r = true)
    (hfree : (s.tick t).pulseFree ppsPeriod s.tmg.ppsPh ((r.phase.map Prod.fst).getD (max s.now t)) = true) (hfs : r.fs = true) (hfn : r.fsFn = none) :
    ∃ s', exec (.realignPulse t true rplOk) s = .next s' ∧ s'.rd F.TMG_ALIGN_PPS_REF = r.ref ∧
      s'.tmg.realign = some { r with ppsFn := some s.fn } ∧ s'.tmg.ppsPh = (s.tick t).frameTime := by
  have hrealign := ppsTakes_realign (s.tick t) r
  refine next_of (u := (s.tick t).ppsTakes r) ?_ ⟨ppsTakes_rd _ href, hrealign, rfl⟩
  rw [exec_realignPulse_pps hr hdue, if_pos hfree, checkRealign_of hrealign, if_neg (by simp [Realign.finished, hfs, hfn])]

theorem ppsPulse_completes (href : r.ref < 16) (hdue : (s.tick t).ppsDue r = true)
    (hfree : (s.tick t).pulseFree ppsPeriod s.tmg.ppsPh ((r.phase.map Prod.fst).getD (max s.now t)) = true)
    (hfs : r.fs = false ∨ r.fsFn.isSome = true) :
    ∃ u : State, exec (.realignPulse t true rplOk) s =
        .next (u.complete .timingRealign .ok [fnWord r.fsFn, BitVec.ofNat 32 s.fn.toNat] rplOk) ∧
      u.rd F.TMG_ALIGN_PPS_REF = r.ref ∧ u.flag F.TMG_INT_REALIGNED = true ∧ u.tmg.realign = none ∧ u.tmg.ppsPh = (s.tick t).frameTime := by
  have hrealign := ppsTakes_realign (s.tick t) r
  refine ⟨((s.tick t).ppsTakes r).realigned, ?_, ?_, realigned_flag _, rfl, rfl⟩
  · rw [exec_realignPulse_pps hr hdue, if_pos hfree, checkRealign_of hrealign, if_pos (by simpa [Realign.finished] using hfs)]
    rfl
  · rw [realigned_rd _ (by decide), ppsTakes_rd _ href]

/-- A pulse of FSYNC_OUT's new phase. -/
theorem exec_realignPulse_fsync (hfs : r.fs = true) (hfn : r.fsFn = none) (hstart : s.core.started = true)
    (hphase : (s.tick t).sincePhase frameTicks (r.ofs / 10) = 0)
    (hfree : (s.tick t).pulseFree frameTicks (s.rd F.TMG_ALIGN_FSYNC_OFS / 10) r.start = true) :
    exec (.realignPulse t false rplOk) s = .next (((s.tick t).fsyncTakes r).checkRealign rplOk) := by
  show execRealignPulse t false rplOk s = _
  simp only [execRealignPulse, State.tick_tmg, hr]
  rw [if_neg (by decide), if_pos ⟨hfs, hfn, hstart, hphase, hfree⟩]

theorem fsyncPulse_completes (hfs : r.fs = true) (hfn : r.fsFn = none) (hstart : s.core.started = true) (hofs : r.ofs ≤ 124999)
    (hphase : (s.tick t).sincePhase frameTicks (r.ofs / 10) = 0)
    (hfree : (s.tick t).pulseFree frameTicks (s.rd F.TMG_ALIGN_FSYNC_OFS / 10) r.start = true) (hpps : r.pps = false ∨ r.ppsFn.isSome = true) :
    ∃ u : State, exec (.realignPulse t false rplOk) s =
        .next (u.complete .timingRealign .ok [BitVec.ofNat 32 s.fn.toNat, fnWord r.ppsFn] rplOk) ∧
      u.rd F.TMG_ALIGN_FSYNC_OFS = r.ofs ∧ u.flag F.TMG_INT_REALIGNED = true ∧ u.tmg.realign = none := by
  have hrealign := fsyncTakes_realign (s.tick t) r
  refine ⟨((s.tick t).fsyncTakes r).realigned, ?_, ?_, realigned_flag _, rfl⟩
  · rw [exec_realignPulse_fsync hr hfs hfn hstart hphase hfree, checkRealign_of hrealign, if_pos (by simpa [Realign.finished] using hpps)]
    rfl
  · rw [realigned_rd _ (by decide), fsyncTakes_rd _ hofs]

theorem fsyncPulse_leavesPps (hfs : r.fs = true) (hfn : r.fsFn = none) (hstart : s.core.started = true) (hofs : r.ofs ≤ 124999)
    (hphase : (s.tick t).sincePhase frameTicks (r.ofs / 10) = 0)
    (hfree : (s.tick t).pulseFree frameTicks (s.rd F.TMG_ALIGN_FSYNC_OFS / 10) r.start = true) (hpps : r.pps = true) (hnone : r.ppsFn = none) :
    ∃ s', exec (.realignPulse t false rplOk) s = .next s' ∧ s'.rd F.TMG_ALIGN_FSYNC_OFS = r.ofs ∧ s'.tmg.realign =
      some { r with fsFn := some s.fn, phase := if r.ref = 15 then some (max s.now t, (s.tick t).frameTime) else r.phase } := by
  have hrealign := fsyncTakes_realign (s.tick t) r
  refine next_of (u := (s.tick t).fsyncTakes r) ?_ ⟨fsyncTakes_rd _ hofs, hrealign.trans ?_⟩
  · rw [exec_realignPulse_fsync hr hfs hfn hstart hphase hfree, checkRealign_of hrealign, if_neg (by simp [Realign.finished, hpps, hnone])]
  · simp only [hpps, Bool.true_and, beq_iff_eq]
    rfl

/-- A realignment that names no output completes at once. -/
theorem realignPulse_ofNone (hfs : r.fs = false) (hpps : r.pps = false) : ∃ u : State, exec (.realignPulse t false rplOk) s =
    .next (u.complete .timingRealign .ok [fnWord r.fsFn, fnWord r.ppsFn] rplOk) ∧ u.tmg.realign = none := by
  refine ⟨(s.tick t).realigned, ?_, rfl⟩
  show execRealignPulse t false rplOk s = _
  simp only [execRealignPulse, State.tick_tmg, hr]
  rw [if_neg (by decide), if_neg (by simp [hfs]), if_pos ⟨hfs, hpps⟩, endRealign_of (by rw [State.tick_tmg, hr])]

theorem realignTimeout_ends (hpps : r.pps = true) (hnone : r.ppsFn = none) (href : r.ref ≠ 15) (hlate : r.start + 220000000 ≤ max s.now t) :
    ∃ u : State, exec (.realignTimeout t rplOk) s = .next (u.complete .timingRealign .timeout [fnWord r.fsFn, 0] rplOk) ∧
      u.tmg.realign = none ∧ u.flag F.TMG_INT_REALIGNED = true ∧ u.rd F.TMG_ALIGN_PPS_REF = s.rd F.TMG_ALIGN_PPS_REF ∧
      u.tmg.ppsPh = s.tmg.ppsPh := by
  refine ⟨(s.tick t).realigned, ?_, rfl, realigned_flag _, realigned_rd _ (by decide), rfl⟩
  show execRealignTimeout t rplOk s = _
  simp only [execRealignTimeout, State.tick_tmg, hr]
  rw [if_pos ⟨hpps, hnone, href, hlate⟩, endRealign_of (by rw [State.tick_tmg, hr]), hnone]
  rfl

end

/-- Settles O47: a switch by the state it is committed in and the one the DPLL settles in, a realignment by the output that takes its phase. -/
theorem switchAndRealign : Obligations.SwitchAndRealign := by
  intro t v at0 phase df r rplOk s
  refine ⟨verificationComplete_measures, switchCommit_switches, switchCommit_back, fun hr href hdue => ⟨ppsPulse_waitsForFsync hr href hdue,
    ppsPulse_completes hr href hdue, fun hbusy => ?_⟩, fun hr hfs hfn hstart hofs hphase hfree => ⟨fun hpps => ?_, fun hpps hnone => ?_⟩,
    realignPulse_ofNone, realignTimeout_ends⟩
  · exact (exec_realignPulse_pps hr hdue).trans (if_neg (ne_true_of_eq_false hbusy))
  · exact fsyncPulse_completes hr hfs hfn hstart hofs hphase hfree hpps
  · exact fsyncPulse_leavesPps hr hfs hfn hstart hofs hphase hfree hpps hnone

end Sys2Proof.Machine
end

section
/-! Proofs: registers that counting events and resets of masters leave alone (R294, R326 to R328). -/
namespace Sys2Proof.Machine

namespace RegKept

variable {a : Nat} {s u : State}

/-- Counting writes registers of TALLY alone. -/
theorem count (h : RegKept a s u) (ha : a < 0x40040000 ∨ 0x40050000 ≤ a) {code arg n : Nat} : RegKept a s (u.count code arg n) := by
  have hadd : ∀ (v : State) (i : Nat), i ∈ List.range 64 → RegKept a s v → RegKept a s (v.tallyAdd i n) := fun v i hi hv => by
    have hi : i < 64 := List.mem_range.1 hi
    have hcount : RegKept a s (v.wr (F.TALLY_CNT_COUNT i) (v.rd (F.TALLY_CNT_COUNT i) + n)) :=
      hv.wr (by show 0x40040400 + i * 0x4 ≠ a; omega)
    have hstat : 0x40040500 + i * 0x4 ≠ a := by omega
    exact hcount.ite (((hcount.wr (f := F.TALLY_CNT_ST_WRAPS i) hstat).raise (f := F.TALLY_CNT_ST_OVF i) hstat).raise
      (by show 0x40040020 ≠ a; omega))
  exact h.ite (List.foldlRecOn (motive := RegKept a s) (List.range 64) _ h fun v hv i hi => (hadd v i hi hv).ite hv)

/-- A reset of a master writes registers of the matrix alone. -/
theorem resetMaster (h : RegKept a s u) (hlo : 0x40050000 ≤ a) (hhi : a < 0x400A0000) {m : Nat} : RegKept a s (u.resetMaster m) := by
  have hbank : ∀ v, RegKept a s v → ∀ b ∈ List.range 16, RegKept a s (State.reclaimBank m v b) := fun v hv b hb => by
    have hb : b < 16 := List.mem_range.1 hb
    have hown : 0x40020100 + b * 0x4 ≠ a := by omega
    have hint : 0x40020020 ≠ a := by omega
    have hgive : ∀ next, RegKept a s (v.giveBank b next) := fun next => by
      have hhanded : RegKept a s ({ v with mtx := { v.mtx with hand := Store.put (fun _ => none) v.mtx.hand b none } } : State) := hv
      exact ((((hhanded.wr (f := F.SCR_OWN_OWNER b) hown).wr (f := F.SCR_OWN_GEN b) hown).setFlag (f := F.SCR_OWN_RECLAIMED b) hown).raise hint)
    unfold State.reclaimBank
    split
    · exact (hgive _).ite hv
    · exact (((hv.wr (f := F.SCR_OWN_OWNER b) hown).raise (f := F.SCR_OWN_RECLAIMED b) hown).raise hint).ite hv
  have hsem : ∀ v, RegKept a s v → ∀ n ∈ List.range 32, RegKept a s (State.reclaimSem m v n) := fun v hv n _ => by
    have hheld : RegKept a s ({ v with mtx := { v.mtx with sem := Store.put (fun _ => none) v.mtx.sem n (some 1) } } : State) := hv
    have hholder : RegKept a s (v.setHolder n (some 1)) :=
      (hheld.setReg (by omega)).setFlag (f := { addr := 0x400A0200, lo := 0 + n, w := 1 }) (by show 0x400A0200 ≠ a; omega)
    exact ((hholder.setFlag (f := { addr := 0x400A0204, lo := 0 + n, w := 1 }) (by show 0x400A0204 ≠ a; omega)).raise
      (by show 0x40020020 ≠ a; omega)).ite hv
  have hstaged : RegKept a s (u.dropStaged m) := h
  exact List.foldlRecOn (motive := RegKept a s) _ _ (List.foldlRecOn (motive := RegKept a s) _ _ hstaged hbank) hsem

end RegKept

theorem giveBank_mate (s : State) (b n : Nat) : (s.giveBank b n).mate = s.mate := by
  simp only [State.giveBank, State.raise, State.setFlag, State.bump, State.wr_mate]

theorem setHolder_mate (s : State) (n : Nat) (h : Option Nat) : (s.setHolder n h).mate = s.mate := by
  simp only [State.setHolder, State.setBitAt, State.wr_mate, State.setReg_mate]

theorem resetMaster_mate (s : State) (m : Nat) : (s.resetMaster m).mate = s.mate := by
  have hbank : ∀ v : State, v.mate = s.mate → ∀ b ∈ List.range 16, (State.reclaimBank m v b).mate = s.mate := fun v hv b _ => by
    unfold State.reclaimBank
    split <;> split
    · rw [giveBank_mate, hv]
    · exact hv
    · simp only [State.raise, State.wr_mate, hv]
    · exact hv
  have hsem : ∀ v : State, v.mate = s.mate → ∀ n ∈ List.range 32, (State.reclaimSem m v n).mate = s.mate := fun v hv n _ => by
    unfold State.reclaimSem
    split
    · simp only [State.raise, State.setBitAt, State.wr_mate, setHolder_mate, hv]
    · exact hv
  unfold State.resetMaster
  exact List.foldlRecOn (motive := fun v : State => v.mate = s.mate) _ _
    (List.foldlRecOn (motive := fun v : State => v.mate = s.mate) (b := s.dropStaged m) _ _ rfl hbank) hsem

end Sys2Proof.Machine
end

section
/-! Proofs: the lanes of the mate link (O51; R19, R39, R215, R232). -/
namespace Sys2Proof.Machine

/-! ### A standby follows its mate (R215, R222) -/

theorem refreshPair_mate (s : State) : s.refreshPair.mate = s.mate := by
  obtain ⟨r, l, h⟩ := (refreshPair_onlyRegsAndLine (as := [0x40060004, 0x40060008, 0x4006000C, 0x40060010]) (s := s) (by simp) (by simp)
    (by simp) (by simp)).rest
  rw [h]

theorem refreshPair_tmg (s : State) : s.refreshPair.tmg = s.tmg := by
  obtain ⟨r, l, h⟩ := (refreshPair_onlyRegsAndLine (as := [0x40060004, 0x40060008, 0x4006000C, 0x40060010]) (s := s) (by simp) (by simp)
    (by simp) (by simp)).rest
  rw [h]

/-- What changed at the mate shows at this device: the DPLL of a standby tracks the link, and PAIR is brought up to date. -/
def State.followMate (s : State) : State := (if s.acting then s else s.trackMate).refreshPair

theorem tracked_moved (s : State) : LoopMoved loopReg s (if s.acting then s else s.trackMate) :=
  (LoopMoved.refl loopReg s).ite ((LoopMoved.refl loopReg s).trackMate fun _ h => h)

theorem followMate_mate (s : State) : s.followMate.mate = s.mate := (refreshPair_mate _).trans (tracked_moved s).mate

theorem followMate_pair (s : State) : s.followMate.pair = s.pair := (refreshPair_pair _).trans (tracked_moved s).pair

theorem followMate_configured (s : State) : s.followMate.tmg.configured = s.tmg.configured :=
  (congrArg TmgSt.configured (refreshPair_tmg _)).trans (tracked_moved s).configured

/-- A field that neither the DPLL nor PAIR brings up to date. -/
theorem followMate_rd (s : State) {f : Fld} (hloop : ¬loopReg f.addr) (hf : ∀ g ∈ pairFollowers, g.apart f = true) :
    s.followMate.rd f = s.rd f := (refreshPair_rd hf).trans ((tracked_moved s).rd hloop)

theorem followMate_flag (s : State) {f : Fld} (hloop : ¬loopReg f.addr) (hf : ∀ g ∈ pairFollowers, g.apart f = true) :
    s.followMate.flag f = s.flag f := congrArg (· == 1) (followMate_rd s hloop hf)

/-! ### The link follows its lanes (R232) -/

theorem mapMate_flag (s : State) (f : MateSt → MateSt) (g : Fld) : (s.mapMate f).flag g = s.flag g := rfl

/-- A lane is not dropped. -/
def State.laneUp (s : State) : Bool := !s.mate.lane0.dropped || !s.mate.lane1.dropped

theorem laneUp_eq (s : State) {j : Nat} (hj : j < 2) : s.laneUp = (!(s.lane j).dropped || !(s.lane (1 - j)).dropped) := by
  obtain rfl | rfl : j = 0 ∨ j = 1 := by omega
  · rfl
  · exact Bool.or_comm ..

theorem lane_setLane_same (s : State) (j : Nat) (l : Lane) : (s.setLane j l).lane j = l := by
  unfold State.setLane State.lane
  split
  · rfl
  · rfl

theorem lane_setLane_other (s : State) {j : Nat} (l : Lane) (hj : j < 2) : (s.setLane j l).lane (1 - j) = s.lane (1 - j) := by
  obtain rfl | rfl : j = 0 ∨ j = 1 := by omega
  · rfl
  · rfl

theorem lane_of_mate {s u : State} (h : u.mate = s.mate) (j : Nat) : u.lane j = s.lane j := by rw [State.lane, State.lane, h]

/-- A field that the state of the link does not show in. -/
structure BesideLink (f : Fld) : Prop where
  loop : ¬loopReg f.addr
  pair : ∀ g ∈ F.PAIR_STAT_MATE_UP :: F.PAIR_INT_MATE_UP :: pairFollowers, g.apart f = true

/-- A link with a lane is up. -/
theorem linkState_up {s : State} (hup : s.laneUp = true) : s.linkState.mate = s.mate ∧ s.linkState.mateUp = true ∧
    s.linkState.tmg.configured = s.tmg.configured ∧ ∀ f, BesideLink f → s.linkState.rd f = s.rd f := by
  have hlink : s.linkState = if true = s.mateUp then s else ((s.raise F.PAIR_STAT_MATE_UP).raise F.PAIR_INT_MATE_UP).followMate := by
    show (if s.laneUp = s.mateUp then s else if s.laneUp then _ else _) = _
    rw [hup]
    rfl
  rw [hlink]
  split
  · next h => exact ⟨rfl, h.symm, rfl, fun _ _ => rfl⟩
  · refine ⟨followMate_mate _, ?_, followMate_configured _, fun f hf => ?_⟩
    · rw [State.mateUp, followMate_flag _ (by decide) (by decide), flag_raise_apart _ (by decide), flag_raise_same _ (by decide) rfl]
    · obtain ⟨hstat, hrest⟩ := List.forall_mem_cons.1 hf.pair
      obtain ⟨hint, hfollow⟩ := List.forall_mem_cons.1 hrest
      rw [followMate_rd _ hf.loop hfollow, State.raise, State.rd_wr_apart _ _ hint, State.raise, State.rd_wr_apart _ _ hstat]

/-- A link that loses its last lane goes down. -/
theorem linkState_down {s : State} (hdown : s.laneUp = false) (hup : s.mateUp = true) : s.linkState.mateUp = false ∧
    s.linkState.flag F.PAIR_INT_MATE_DOWN = true ∧ s.linkState.mate = { s.mate with
      downAt := s.now, reqSent := s.mate.reqSent || s.mate.rs.isSome, reqOut := false, rs := none, parts := [], out := [], skip := 0 } := by
  let u : State := ((s.setFlag F.PAIR_STAT_MATE_UP false).raise F.PAIR_INT_MATE_DOWN).mapMate fun m =>
    { m with downAt := s.now, reqSent := m.reqSent || m.rs.isSome, reqOut := false, rs := none, parts := [], out := [], skip := 0 }
  have hlink : s.linkState = (u.resetMaster 7).followMate := by
    show (if s.laneUp = s.mateUp then s else if s.laneUp then _ else _) = _
    rw [hdown, hup]
    rfl
  have hkept : ∀ f : Fld, 0x40050000 ≤ f.addr → f.addr < 0x400A0000 → ¬loopReg f.addr → (∀ g ∈ pairFollowers, g.apart f = true) →
      s.linkState.flag f = u.flag f := fun f hlo hhi hloop hf => by
    rw [hlink, followMate_flag _ hloop hf]
    exact ((RegKept.refl f.addr u).resetMaster hlo hhi).flag rfl
  refine ⟨?_, ?_, ?_⟩
  · rw [State.mateUp, hkept _ (by decide) (by decide) (by decide) (by decide)]
    rw [mapMate_flag, flag_raise_apart _ (by decide), flag_setFlag_same _ (by decide) rfl]
  · rw [hkept _ (by decide) (by decide) (by decide) (by decide)]
    rw [mapMate_flag, flag_raise_same _ (by decide) rfl]
  · rw [hlink, followMate_mate, resetMaster_mate]
    rfl

/-! ### Frames on a lane (R19, R39, R169, R177) -/

theorem setFn_fn (s : State) (n : W16) : (s.setFn n).fn = n := by
  rw [State.fn, State.setFn, State.rd_wr_apart _ _ (by decide), State.rd_wr_same _ _ _ (by decide)]
  exact BitVec.eq_of_toNat_eq (by simpa using n.isLt)

theorem setFn_rd (s : State) {n : W16} {f : Fld} (h : f.addr ≠ 0x40087000) : (s.setFn n).rd f = s.rd f := by
  rw [State.setFn, State.rd_wr_addr _ _ (Ne.symm h), State.rd_wr_addr _ _ (Ne.symm h)]

theorem followAlign_rd (s : State) {al : BitVec 21} {pps : Nat} {f : Fld} (h : f.addr ≠ 0x40050024) : (s.followAlign al pps).rd f = s.rd f := by
  unfold State.followAlign
  split
  · rw [State.mapTmg_rd, State.rd_wr_addr _ _ (Ne.symm h), State.rd_wr_addr _ _ (Ne.symm h)]
  · rfl

theorem followAlign_mate (s : State) (al : BitVec 21) (pps : Nat) : (s.followAlign al pps).mate = s.mate := by
  unfold State.followAlign
  split <;> rfl

/-- The outputs of a device that was configured take the holder's alignment (R215). -/
theorem followAlign_sets {s : State} {al : BitVec 21} {pps : Nat} (h : s.tmg.configured = true) :
    (s.followAlign al pps).rd F.TMG_ALIGN_FSYNC_OFS = bits al.toNat 0 17 ∧ (s.followAlign al pps).rd F.TMG_ALIGN_PPS_REF = bits al.toNat 17 4 := by
  rw [State.followAlign, if_pos h]
  constructor
  · rw [State.mapTmg_rd, State.rd_wr_apart _ _ (by decide), rd_wr_lt _ (by decide) (bits_lt ..)]
  · rw [State.mapTmg_rd, rd_wr_lt _ (by decide) (bits_lt ..)]

/-- A standby takes the frame number and the alignment that the holder's frame carries. -/
def State.takesFrame (s : State) (data : List W8) (al : Alignment) : State :=
  if s.acting = false ∧ s.flag F.PAIR_STAT_MATE_ACTING = true then
    (s.setFn (BitVec.ofNat 16 (256 * (data.getD 0 0).toNat + (data.getD 1 0).toNat))).followAlign al.align al.pps
  else s

theorem takesFrame_mate (s : State) (data : List W8) (al : Alignment) : (s.takesFrame data al).mate = s.mate := by
  unfold State.takesFrame
  split
  · exact followAlign_mate ..
  · rfl

theorem takesFrame_flag (s : State) (data : List W8) (al : Alignment) {f : Fld} (hfn : f.addr ≠ 0x40087000) (hal : f.addr ≠ 0x40050024) :
    (s.takesFrame data al).flag f = s.flag f := by
  unfold State.takesFrame
  split
  · rw [State.flag, followAlign_rd _ hal, setFn_rd _ hfn, State.flag]
  · rfl

theorem takesFrame_takes {s : State} (data : List W8) (al : Alignment) (hstandby : s.acting = false)
    (hmate : s.flag F.PAIR_STAT_MATE_ACTING = true) :
    (s.takesFrame data al).fn = BitVec.ofNat 16 (256 * (data.getD 0 0).toNat + (data.getD 1 0).toNat) ∧
    (s.tmg.configured = true → (s.takesFrame data al).rd F.TMG_ALIGN_FSYNC_OFS = bits al.align.toNat 0 17 ∧
      (s.takesFrame data al).rd F.TMG_ALIGN_PPS_REF = bits al.align.toNat 17 4) := by
  rw [State.takesFrame, if_pos ⟨hstandby, hmate⟩]
  exact ⟨by rw [State.fn, followAlign_rd _ (by decide), ← State.fn, setFn_fn], fun h => followAlign_sets h⟩

section
variable {t : Nat} {lane : Fin 2} {half : Bool} {symbols : List (Fin 4)} {al : Alignment} {s : State}

theorem mateFrameRx_ignored (h : s.mode = 0 ∨ s.alive = false) : exec (.mateFrameRx t lane ⟨half, symbols⟩ al) s = .next (s.tick t) := if_pos h

/-- A device with its outputs enabled, in a mode other than 00, hears the mate link (R221). -/
theorem link_heard (hm : s.mode ≠ 0) (ha : s.alive = true) : ¬((s.tick t).mode = 0 ∨ (s.tick t).alive = false) := by
  rintro (h | h)
  · exact hm h
  · exact Bool.noConfusion (ha.symm.trans h)

/-- A lane in frame, as a frame with its FAW leaves it. -/
def Lane.framed (l : Lane) (now : Nat) (x : List W8 × Nat × Nat) : Lane :=
  { frame := true, since := now, dropped := false, errRun := 0, corr := min x.2.1 65535, uncorr := min x.2.2 255, bad := !regionCrcOk x.1,
    rdiEnd := if l.frame then l.rdiEnd else now + 20 * frameTicks }

section
variable (hm : s.mode ≠ 0) (ha : s.alive = true)
include hm ha

theorem mateFrameRx_found (hfound : ziuthFits 1 (ziuthBits 1 half symbols).length = true ∧ fawErrors (ziuthBits 1 half symbols) ≤ 3) :
    ∃ s', exec (.mateFrameRx t lane ⟨half, symbols⟩ al) s = .next s' ∧
      s'.lane lane.val = (s.lane lane.val).framed (max s.now t) (ziuthDecode 1 (ziuthBits 1 half symbols)) ∧
      s'.mateUp = true ∧ s'.acting = s.acting ∧ (s.acting = false → s.flag F.PAIR_STAT_MATE_ACTING = true →
        s'.fn = BitVec.ofNat 16 (256 * ((ziuthDecode 1 (ziuthBits 1 half symbols)).1.getD 0 0).toNat +
          ((ziuthDecode 1 (ziuthBits 1 half symbols)).1.getD 1 0).toNat) ∧
        (s.tmg.configured = true → s'.rd F.TMG_ALIGN_FSYNC_OFS = bits al.align.toNat 0 17 ∧
          s'.rd F.TMG_ALIGN_PPS_REF = bits al.align.toNat 17 4)) := by
  generalize hx : ziuthDecode 1 (ziuthBits 1 half symbols) = x
  let v := (s.tick t).setLane lane.val ((s.lane lane.val).framed (max s.now t) x)
  have hexec : exec (.mateFrameRx t lane ⟨half, symbols⟩ al) s = .next (v.linkState.takesFrame x.1 al) := by
    subst hx
    exact (if_neg (link_heard hm ha)).trans (if_pos hfound)
  have hlane : v.lane lane.val = (s.lane lane.val).framed (max s.now t) x := lane_setLane_same ..
  have hup : v.laneUp = true := by rw [laneUp_eq _ lane.isLt, hlane]; rfl
  obtain ⟨hmate, hlinkUp, hconf, hrd⟩ := linkState_up hup
  have hact : v.linkState.acting = s.acting := congrArg (· == 1) (hrd _ ⟨by decide, by decide⟩)
  have hmateActs : v.linkState.flag F.PAIR_STAT_MATE_ACTING = s.flag F.PAIR_STAT_MATE_ACTING := congrArg (· == 1) (hrd _ ⟨by decide, by decide⟩)
  refine next_of hexec ⟨?_, ?_, ?_, fun hstandby hholder => ?_⟩
  · rw [lane_of_mate ((takesFrame_mate ..).trans hmate), hlane]
  · exact (takesFrame_flag _ _ _ (by decide) (by decide)).trans hlinkUp
  · exact (takesFrame_flag _ _ _ (by decide) (by decide)).trans hact
  · obtain ⟨hfn, halign⟩ := takesFrame_takes x.1 al (hact.trans hstandby) (hmateActs.trans hholder)
    exact ⟨hfn, fun h => halign (hconf.trans h)⟩

variable (hlost : ¬(ziuthFits 1 (ziuthBits 1 half symbols).length = true ∧ fawErrors (ziuthBits 1 half symbols) ≤ 3))
include hlost

theorem mateFrameRx_endsAlignment (hframe : (s.lane lane.val).frame = true) (hrun : 3 ≤ (s.lane lane.val).errRun) :
    exec (.mateFrameRx t lane ⟨half, symbols⟩ al) s =
      .next ((s.tick t).setLane lane.val { s.lane lane.val with frame := false, since := max s.now t, errRun := 0 }) :=
  (if_neg (link_heard hm ha)).trans ((if_neg hlost).trans (if_pos ⟨hframe, hrun⟩))

theorem mateFrameRx_counts (h : (s.lane lane.val).frame = false ∨ (s.lane lane.val).errRun < 3) :
    exec (.mateFrameRx t lane ⟨half, symbols⟩ al) s = .next ((s.tick t).setLane lane.val
      { s.lane lane.val with errRun := if (s.lane lane.val).frame then (s.lane lane.val).errRun + 1 else 0 }) := by
  have hstays : ¬((s.lane lane.val).frame = true ∧ 3 ≤ (s.lane lane.val).errRun) := by
    rintro ⟨hframe, hrun⟩
    rcases h with h | h
    · exact Bool.noConfusion (h.symm.trans hframe)
    · omega
  exact (if_neg (link_heard hm ha)).trans ((if_neg hlost).trans (if_neg hstays))

end

theorem mateLaneDrop_drops (hframe : (s.lane lane.val).frame = false) (hdrop : (s.lane lane.val).dropped = false)
    (hsince : (s.lane lane.val).since + msTicks ≤ max s.now t) (hup : s.mateUp = true) :
    ∃ s', exec (.mateLaneDrop t lane) s = .next s' ∧ (s'.lane lane.val).dropped = true ∧
      s'.mateUp = !(s.lane (1 - lane.val)).dropped ∧ ((s.lane (1 - lane.val)).dropped = true →
        s'.flag F.PAIR_INT_MATE_DOWN = true ∧ s'.mate.downAt = max s.now t ∧ s'.mate.rs = none) := by
  let v := (s.tick t).setLane lane.val { s.lane lane.val with dropped := true }
  have hexec : exec (.mateLaneDrop t lane) s = .next v.linkState := if_pos ⟨hframe, hdrop, hsince⟩
  have hlane : v.lane lane.val = { s.lane lane.val with dropped := true } := lane_setLane_same ..
  have hother : v.lane (1 - lane.val) = s.lane (1 - lane.val) := lane_setLane_other _ _ lane.isLt
  have hlaneUp : v.laneUp = !(s.lane (1 - lane.val)).dropped := by rw [laneUp_eq _ lane.isLt, hlane, hother]; rfl
  refine next_of hexec ?_
  cases hd : (s.lane (1 - lane.val)).dropped with
  | false =>
    obtain ⟨hmate, hlinkUp, -⟩ := linkState_up (hlaneUp.trans (congrArg not hd))
    exact ⟨by rw [lane_of_mate hmate, hlane], hlinkUp, fun h => Bool.noConfusion h⟩
  | true =>
    obtain ⟨hlinkDown, hint, hmate⟩ := linkState_down (hlaneUp.trans (congrArg not hd)) hup
    refine ⟨?_, hlinkDown, fun _ => ⟨hint, by rw [hmate]; rfl, by rw [hmate]⟩⟩
    have hsame : v.linkState.lane lane.val = v.lane lane.val := by rw [State.lane, State.lane, hmate]
    rw [hsame, hlane]

end

end Sys2Proof.Machine
end

section
/-! Proofs: the records of the lamp protocol (O51; R222, R223, R234, R235, R243, R248). -/
namespace Sys2Proof.Machine

/-! ### A record is taken (R235) -/

/-- What the wish for a resynchronisation changes is of the mate link alone, and neither the heartbeat nor the SEQ received. -/
structure OnlyMate (s u : State) : Prop where
  rest : ∃ m, u = { s with mate := m }
  hb : u.mate.hb = s.mate.hb
  seqIn : u.mate.seqIn = s.mate.seqIn
  reqPend : u.mate.reqPend = s.mate.reqPend

theorem wantResync_onlyMate (s : State) : OnlyMate s s.wantResync := by
  unfold State.wantResync
  split
  · exact ⟨⟨s.mate, rfl⟩, rfl, rfl, rfl⟩
  · next h =>
    simp only [Bool.or_eq_true, not_or, Bool.not_eq_true] at h
    obtain ⟨⟨hact, hmode⟩, -⟩ := h
    have hmode : s.mode ≠ 0 := by simpa using hmode
    dsimp only
    split
    · have hsend : ∀ v : State, v.mode ≠ 0 → v.acting = false → ∀ fn b, OnlyMate v (v.sendFor fn b true) := fun v hv hstandby fn b => by
        simp only [State.sendFor, if_neg hv]
        rw [if_neg (by rw [State.acting, mapMate_flag, ← State.acting, hstandby]; decide)]
        exact ⟨⟨_, rfl⟩, rfl, rfl, rfl⟩
      obtain ⟨⟨m, hm⟩, hhb, hseq, hreq⟩ := hsend (s.mapMate fun m => { m with reqSent := true, reqOut := false, rs := none }) hmode hact _ .resyncReq
      exact ⟨⟨{ m with reqOut := true }, by rw [State.sendRec, hm]; rfl⟩, hhb, hseq, hreq⟩
    · exact ⟨⟨_, rfl⟩, rfl, rfl, rfl⟩

theorem wantResync_acting {s : State} (h : s.acting = true) : s.wantResync = s := if_pos (by rw [h, Bool.true_or, Bool.true_or])

/-- The device has heard the record with this SEQ. -/
def State.hears (s : State) (h : RecHdr) : State := s.mapMate fun m => { m with seqIn := some h.seq }

/-- The record that a header and a body make. -/
def recordOf (h : RecHdr) (b : MateBody) : MateRec := { body := b, last := h.last, seq := h.seq, fn := h.fn, epoch := h.epoch }

/-- The records of the lamp protocol, and the request for a resynchronisation. -/
def MateBody.lamp : MateBody → Bool
  | .heartbeat _ | .stop _ _ | .handover _ _ | .resyncReq => true
  | _ => false

/-- What the device makes of such a record. -/
def State.takeLamp (s : State) (h : RecHdr) (b : MateBody) : State :=
  match b with
  | .heartbeat body => (s.noteRec (recordOf h b)).takeBeat h.fn h.epoch body
  | .stop _ c => (s.noteRec (recordOf h b)).takeStop h.epoch c
  | .handover m e => (s.noteRec (recordOf h b)).takeHandover h.epoch m e
  | .resyncReq => if s.acting then s.mapMate fun m => { m with reqPend := true } else s
  | _ => s

section
variable {s : State} {h : RecHdr} {b : MateBody}

theorem mateRecord_lamp {t : Nat} (hr : RecordTaken s h b) (hb : b.lamp = true) : (s.tick t).mateRecord h b = ((s.tick t).hears h).takeLamp h b := by
  have hlink : ¬((s.tick t).mode = 0 ∨ (s.tick t).mateUp = false ∨ (s.tick t).alive = false) := by
    rintro (hm | hu | ha)
    · exact hr.mode hm
    · exact Bool.noConfusion (hr.up.symm.trans hu)
    · exact Bool.noConfusion (hr.alive.symm.trans ha)
  have hgap : (s.tick t).mate.seqIn.any (fun q => decide (h.seq ≠ q + 1)) = false := by
    rw [State.tick_mate]
    rcases hr.seq with hq | hq
    · rw [hq]; rfl
    · simp [hq]
  have hepoch : epochNewer ((s.tick t).hears h).epoch h.epoch = false := hr.epoch
  rw [State.mateRecord, if_neg hlink, if_neg (by rw [hr.crc]; decide)]
  extract_lets gap heard asked r
  have hasked : asked = (s.tick t).hears h := if_neg (ne_true_of_eq_false hgap)
  clear_value asked
  subst hasked
  rw [if_neg (ne_true_of_eq_false hepoch)]
  cases b with
  | heartbeat | stop | handover | resyncReq => rfl
  | _ => exact Bool.noConfusion hb

/-- A heartbeat of an older epoch, at a device that acts. -/
theorem mateRecord_older {t : Nat} (hm : s.mode ≠ 0) (hu : s.mateUp = true) (ha : s.alive = true) (hcrc : recFits h b = true)
    (hold : epochNewer s.epoch h.epoch = true) (hact : s.acting = true) : (s.tick t).mateRecord h b = ((s.tick t).hears h).olderBeat b := by
  have hlink : ¬((s.tick t).mode = 0 ∨ (s.tick t).mateUp = false ∨ (s.tick t).alive = false) := by
    rintro (hm' | hu' | ha')
    · exact hm hm'
    · exact Bool.noConfusion (hu.symm.trans hu')
    · exact Bool.noConfusion (ha.symm.trans ha')
  have hheard : ((s.tick t).hears h).wantResync = (s.tick t).hears h := wantResync_acting hact
  have hepoch : epochNewer ((s.tick t).hears h).epoch h.epoch = true := hold
  rw [State.mateRecord, if_neg hlink, if_neg (by rw [hcrc]; decide)]
  extract_lets gap heard asked r
  have hasked : asked = (s.tick t).hears h := (congrArg (ite _ · _) hheard).trans (ite_self _)
  clear_value asked
  subst hasked
  exact if_pos hepoch

end

/-! ### A standby notes what it has applied (PAIR_SEQ, PAIR_SYNC_FN), and every device the newest epoch (R223) -/

section
variable (s : State)

theorem noteRec_onlyRegs (r : MateRec) : OnlyRegs s (s.noteRec r) :=
  (OnlyRegs.refl s).ite ((OnlyRegs.refl s).wr.wr.wr.count _ _ _)

theorem noteRec_reg (r : MateRec) {a : Nat} (ha : a < 0x40040000 ∨ 0x40050000 ≤ a) (hseq : a ≠ 0x40060024) (hfn : a ≠ 0x40060028) :
    RegKept a s (s.noteRec r) :=
  (RegKept.refl a s).ite (((((RegKept.refl a s).wr hseq.symm).wr hfn.symm).raise hfn.symm).count ha)

theorem noteRec_shows (r : MateRec) (h : s.acting = false) :
    (s.noteRec r).rd F.PAIR_SEQ_SEQ = r.seq.toNat ∧ (s.noteRec r).rd F.PAIR_SYNC_FN_FN = r.fn.toNat := by
  have hcount : ∀ (u : State) (f : Fld), 0x40050000 ≤ f.addr → (u.count 0x50 0 r.body.bytes).rd f = u.rd f :=
    fun u f hf => ((RegKept.refl f.addr u).count (.inr hf)).rd rfl
  rw [State.noteRec, if_neg (ne_true_of_eq_false h), hcount _ _ (by decide), hcount _ _ (by decide)]
  constructor
  · rw [State.raise, State.rd_wr_apart _ _ (by decide), State.rd_wr_apart _ _ (by decide), rd_wr_lt _ (by decide) r.seq.isLt]
  · rw [State.raise, State.rd_wr_apart _ _ (by decide), rd_wr_lt _ (by decide) r.fn.isLt]

theorem learn_onlyRegs (e : W8) : OnlyRegs s (s.learn e) := OnlyRegs.ite (OnlyRegs.refl s).wr (OnlyRegs.refl s)

theorem learn_rd (e : W8) {f : Fld} (h : F.PAIR_STAT_EPOCH.apart f = true) : (s.learn e).rd f = s.rd f := by
  unfold State.learn
  split
  · exact State.rd_wr_apart _ _ h
  · rfl

theorem learn_epoch (e : W8) : (s.learn e).epoch = if epochNewer e s.epoch then e else s.epoch := by
  unfold State.learn
  split
  · rw [State.epoch, rd_wr_lt _ (by decide) e.isLt, BitVec.ofNat_toNat, BitVec.setWidth_eq]
  · rfl

end

/-! ### Heartbeats (R222, R223, R234, R248) -/

/-- The heartbeat becomes the mate's state. -/
def State.noteBeat (s : State) (fn : W16) (epoch : W8) (body : W64) : State :=
  (((s.learn epoch).mapMate fun m => { m with hb := some { t := s.now, body := body, fn := fn, epoch := epoch } }).setFlag
    F.PAIR_STAT_MATE_ACTING (body.getLsbD 0)).mapPair fun p =>
      { p with ho := p.ho.map fun h => if h.old && decide (h.epoch = epoch) then { h with granted := true } else h }

/-- A holder that hears another one (R248). -/
def State.hearsHolder (s : State) (epoch : W8) : State :=
  let mine := (s.pair.lease.map fun l => l.epoch).getD s.epoch
  let s := s.raise F.PAIR_INT_DUAL
  if epochNewer epoch mine || (epoch == mine && s.flag F.PAIR_CFG_SIDE) then s.mapPair fun p => { p with stopCause := some 4 } else s

/-- The mate's quality level and the tick of its heartbeat are kept (R202, R230). -/
def State.keepBeat (s : State) (body : W64) : State :=
  (s.mapMate fun m => { m with actHb := some s.now }).mapTmg fun x => { x with mateQl := some (bits body.toNat 32 4) }

/-- What the device does about a heartbeat (R223, R241, R248). -/
def State.heedBeat (s : State) (epoch : W8) (body : W64) : State :=
  if body.getLsbD 0 then
    if (s.keepBeat body).acting then (s.keepBeat body).hearsHolder epoch
    else
      let s := s.keepBeat body
      let s := if s.mate.seenMate then s else (s.mapMate fun m => { m with seenMate := true }).wantResync
      if s.mate.reqSent && !s.mate.reqOut then s.wantResync else s
  else if s.acting && epochNewer epoch ((s.pair.lease.map fun l => l.epoch).getD s.epoch) &&
      !(s.pair.ho.any fun h => h.old && decide (h.epoch = epoch)) then
    s.mapPair fun p => { p with stopCause := some 3 }
  else s

theorem takeBeat_eq (s : State) (fn : W16) (epoch : W8) (body : W64) :
    s.takeBeat fn epoch body = ((s.noteBeat fn epoch body).heedBeat epoch body).followMate := by
  unfold State.takeBeat
  rfl

/-- Between two states of a heartbeat the mate's state stays as it came, and of the registers DUAL alone changes. -/
structure BeatKept (s u : State) : Prop where
  rd : ∀ f : Fld, F.PAIR_INT_DUAL.apart f = true → u.rd f = s.rd f
  hb : u.mate.hb = s.mate.hb
  seqIn : u.mate.seqIn = s.mate.seqIn

namespace BeatKept

variable {s u w : State}

theorem refl (s : State) : BeatKept s s := ⟨fun _ _ => rfl, rfl, rfl⟩

theorem ite {c : Prop} [Decidable c] (h : BeatKept s u) (g : BeatKept s w) : BeatKept s (if c then u else w) := by
  split <;> assumption

variable (h : BeatKept s u)
include h

theorem mapPair {f : PairSt → PairSt} : BeatKept s (u.mapPair f) := ⟨h.rd, h.hb, h.seqIn⟩

theorem keepBeat {body : W64} : BeatKept s (u.keepBeat body) := ⟨h.rd, h.hb, h.seqIn⟩

theorem seeMate : BeatKept s (u.mapMate fun m => { m with seenMate := true }) := ⟨h.rd, h.hb, h.seqIn⟩

theorem wantResync : BeatKept s u.wantResync := by
  have hwant := wantResync_onlyMate u
  refine ⟨fun f hf => Eq.trans ?_ (h.rd f hf), hwant.hb.trans h.hb, hwant.seqIn.trans h.seqIn⟩
  obtain ⟨m, hm⟩ := hwant.rest
  rw [hm]
  rfl

theorem raiseDual : BeatKept s (u.raise F.PAIR_INT_DUAL) := ⟨fun f hf => (u.rd_wr_apart _ hf).trans (h.rd f hf), h.hb, h.seqIn⟩

theorem hearsHolder {epoch : W8} : BeatKept s (u.hearsHolder epoch) := h.raiseDual.mapPair.ite h.raiseDual

theorem heedBeat {epoch : W8} {body : W64} : BeatKept s (u.heedBeat epoch body) := by
  have hbeat : BeatKept s (u.keepBeat body) := h.keepBeat
  have hseen := hbeat.ite (c := (u.keepBeat body).mate.seenMate = true) hbeat.seeMate.wantResync
  exact (hbeat.hearsHolder.ite (hseen.wantResync.ite hseen)).ite (h.mapPair.ite h)

end BeatKept

/-- A heartbeat with ACTING = 1 shows an acting device a second holder, and its own lease decides whether it stops. -/
theorem heedBeat_holder {s : State} {epoch : W8} {body : W64} (hact : s.acting = true) (hbody : body.getLsbD 0 = true) :
    (s.heedBeat epoch body).flag F.PAIR_INT_DUAL = true ∧ ∀ l, s.pair.lease = some l →
      (epochNewer epoch l.epoch = true ∨ (epoch = l.epoch ∧ s.flag F.PAIR_CFG_SIDE = true)) → (s.heedBeat epoch body).pair.stopCause = some 4 := by
  have hheed : s.heedBeat epoch body = (s.keepBeat body).hearsHolder epoch := (if_pos hbody).trans (if_pos hact)
  rw [hheed]
  constructor
  · unfold State.hearsHolder
    dsimp only
    split <;> exact flag_raise_same (s.keepBeat body) (by decide) rfl
  · intro l hl hnewer
    have hlease : (s.keepBeat body).pair.lease = some l := hl
    have hside : ((s.keepBeat body).raise F.PAIR_INT_DUAL).flag F.PAIR_CFG_SIDE = s.flag F.PAIR_CFG_SIDE := flag_raise_apart _ (by decide)
    rw [State.hearsHolder]
    simp only [hlease, hside, Option.map_some, Option.getD_some]
    rw [if_pos (by simpa using hnewer)]
    rfl

/-! ### The four records -/

section
variable {t : Nat} {h : RecHdr} {s : State}

/-- A field of no register that a taken record writes before it is acted on. -/
theorem heard_rd {b : MateBody} {e : W8} {f : Fld} (ha : f.addr < 0x40040000 ∨ 0x40050000 ≤ f.addr) (hseq : f.addr ≠ 0x40060024)
    (hfn : f.addr ≠ 0x40060028) (hep : F.PAIR_STAT_EPOCH.apart f = true) :
    ((((s.tick t).hears h).noteRec (recordOf h b)).learn e).rd f = s.rd f := by
  rw [learn_rd _ _ hep, (noteRec_reg _ _ ha hseq hfn).rd rfl]
  rfl

/-- Beyond its registers, a device that has heard a record is as it was but for the time and the SEQ. -/
theorem heard_onlyRegs (b : MateBody) (e : W8) :
    OnlyRegs ((s.tick t).hears h) ((((s.tick t).hears h).noteRec (recordOf h b)).learn e) :=
  (noteRec_onlyRegs _ _).trans (learn_onlyRegs _ _)

theorem OnlyRegs.pair {s u : State} (h : OnlyRegs s u) : u.pair = s.pair := by rw [h.eq]

theorem OnlyRegs.mate {s u : State} (h : OnlyRegs s u) : u.mate = s.mate := by rw [h.eq]

theorem OnlyRegs.core {s u : State} (h : OnlyRegs s u) : u.core = s.core := by rw [h.eq]

theorem heartbeatRecord_taken {body : W64} (hr : RecordTaken s h (.heartbeat body)) :
    ∃ s', exec (.heartbeatRecord t h body) s = .next s' ∧
      s'.mate.hb = some { t := max s.now t, body := body, fn := h.fn, epoch := h.epoch } ∧
      s'.flag F.PAIR_STAT_MATE_ACTING = body.getLsbD 0 ∧ s'.acting = s.acting ∧ s'.mate.seqIn = some h.seq ∧
      s'.epoch = (if epochNewer h.epoch s.epoch then h.epoch else s.epoch) ∧
      (s.acting = false → s'.rd F.PAIR_SEQ_SEQ = h.seq.toNat ∧ s'.rd F.PAIR_SYNC_FN_FN = h.fn.toNat) ∧
      (s.acting = true → body.getLsbD 0 = true → s'.flag F.PAIR_INT_DUAL = true ∧
        (∀ l, s.pair.lease = some l → (epochNewer h.epoch l.epoch = true ∨ (h.epoch = l.epoch ∧ s.flag F.PAIR_CFG_SIDE = true)) →
          s'.pair.stopCause = some 4)) := by
  let noted := ((s.tick t).hears h).noteRec (recordOf h (.heartbeat body))
  let u := noted.noteBeat h.fn h.epoch body
  have hexec : exec (.heartbeatRecord t h body) s = .next (u.heedBeat h.epoch body).followMate :=
    congrArg Host.Outcome.next ((mateRecord_lamp hr rfl).trans (takeBeat_eq noted h.fn h.epoch body))
  have hnoted : OnlyRegs ((s.tick t).hears h) noted := noteRec_onlyRegs _ _
  have hheard := heard_onlyRegs (t := t) (h := h) (s := s) (.heartbeat body) h.epoch
  have hu : ∀ f : Fld, F.PAIR_STAT_MATE_ACTING.apart f = true → u.rd f = (noted.learn h.epoch).rd f := fun f hf =>
    State.rd_wr_apart ((noted.learn h.epoch).mapMate _) _ hf
  have hkept : BeatKept u (u.heedBeat h.epoch body) := (BeatKept.refl u).heedBeat
  have hrd : ∀ f : Fld, ¬loopReg f.addr → (∀ g ∈ F.PAIR_INT_DUAL :: pairFollowers, g.apart f = true) →
      (u.heedBeat h.epoch body).followMate.rd f = u.rd f := fun f hloop hf => by
    obtain ⟨hdual, hfollow⟩ := List.forall_mem_cons.1 hf
    rw [followMate_rd _ hloop hfollow, hkept.rd f hdual]
  have hact : u.acting = s.acting := congrArg (· == 1)
    ((hu _ (by decide)).trans (heard_rd (.inr (by decide)) (by decide) (by decide) (by decide)))
  refine next_of hexec ⟨?_, ?_, ?_, ?_, ?_, fun hstandby => ?_, fun hholder hbody => ?_⟩
  · rw [followMate_mate, hkept.hb]
    show some _ = some _
    rw [show noted.now = max s.now t by rw [hnoted.eq]; rfl]
  · rw [State.flag, hrd _ (by decide) (by decide), ← State.flag]
    exact flag_setFlag_same ((noted.learn h.epoch).mapMate _) (by decide) rfl
  · exact (congrArg (· == 1) (hrd _ (by decide) (by decide))).trans hact
  · rw [followMate_mate, hkept.seqIn]
    exact congrArg MateSt.seqIn hheard.mate
  · rw [State.epoch, hrd _ (by decide) (by decide), hu _ (by decide), ← State.epoch, learn_epoch]
    have hepoch : noted.epoch = s.epoch := by
      rw [State.epoch, (noteRec_reg _ _ (.inr (by decide)) (by decide) (by decide)).rd rfl]
      rfl
    rw [hepoch]
  · obtain ⟨hseq, hfn⟩ := noteRec_shows ((s.tick t).hears h) (recordOf h (.heartbeat body)) hstandby
    rw [hrd _ (by decide) (by decide), hu _ (by decide), learn_rd _ _ (by decide), hseq, hrd _ (by decide) (by decide), hu _ (by decide),
      learn_rd _ _ (by decide), hfn]
    exact ⟨rfl, rfl⟩
  · obtain ⟨hdual, hstop⟩ := heedBeat_holder (s := u) (epoch := h.epoch) (hact.trans hholder) hbody
    refine ⟨(followMate_flag _ (by decide) (by decide)).trans hdual, fun l hl hnewer => ?_⟩
    have hlease : u.pair.lease = some l := (congrArg PairSt.lease hheard.pair).trans hl
    have hside : u.flag F.PAIR_CFG_SIDE = s.flag F.PAIR_CFG_SIDE := congrArg (· == 1)
      ((hu _ (by decide)).trans (heard_rd (.inr (by decide)) (by decide) (by decide) (by decide)))
    rw [followMate_pair]
    exact hstop l hlease (hside.symm ▸ hnewer)

theorem heartbeatRecord_older {body : W64} (hm : s.mode ≠ 0) (hu : s.mateUp = true) (ha : s.alive = true)
    (hcrc : recFits h (.heartbeat body) = true) (hold : epochNewer s.epoch h.epoch = true) (hact : s.acting = true) :
    ∃ s', exec (.heartbeatRecord t h body) s = .next s' ∧ s'.mate.hb = s.mate.hb ∧ s'.acting = true ∧
      (body.getLsbD 0 = true → s'.flag F.PAIR_INT_DUAL = true) := by
  have hexec : exec (.heartbeatRecord t h body) s = .next (((s.tick t).hears h).olderBeat (.heartbeat body)) :=
    congrArg Host.Outcome.next (mateRecord_older hm hu ha hcrc hold hact)
  have hheard : ((s.tick t).hears h).acting = true := hact
  refine next_of hexec ?_
  simp only [State.olderBeat, hheard, Bool.true_and]
  split
  · exact ⟨rfl, (flag_raise_apart _ (by decide)).trans hheard, fun _ => flag_raise_same _ (by decide) rfl⟩
  · next hbody => exact ⟨rfl, hheard, fun h => absurd h hbody⟩

/-- A device that has heard a STOP or a HANDOVER, and knows its epoch. -/
theorem heard_acting (b : MateBody) (e : W8) : ((((s.tick t).hears h).noteRec (recordOf h b)).learn e).acting = s.acting :=
  congrArg (· == 1) (heard_rd (.inr (by decide)) (by decide) (by decide) (by decide))

theorem heard_pair (b : MateBody) (e : W8) : ((((s.tick t).hears h).noteRec (recordOf h b)).learn e).pair = s.pair :=
  (heard_onlyRegs b e).pair

theorem stopRecord_taken {fn : W16} {cause : BitVec 3} (hr : RecordTaken s h (.stop fn cause)) (ho : Handover) :
    ∃ s', exec (.stopRecord t h fn cause) s = .next s' ∧ s'.acting = s.acting ∧
      (s.pair.ho = some ho → ho.old = false → cause = 2 → s'.pair.stopSeen = true ∧ s'.pair.ho = s.pair.ho) ∧
      (s.pair.ho = some ho → ho.old = false → cause ≠ 2 → s'.pair.ho = none) ∧
      ((s.pair.ho = none ∨ (s.pair.ho = some ho ∧ ho.old = true)) → s'.pair = s.pair) := by
  let v := (((s.tick t).hears h).noteRec (recordOf h (.stop fn cause))).learn h.epoch
  have hexec : exec (.stopRecord t h fn cause) s = .next (if v.pair.ho.any fun h => !h.old then
      if cause = 2 then v.mapPair fun p => { p with stopSeen := true }
      else (v.mapPair fun p => { p with ho := none, stopSeen := false }).refreshPair
    else v) := congrArg Host.Outcome.next (mateRecord_lamp hr rfl)
  have hpair : v.pair = s.pair := heard_pair _ _
  have hact : v.acting = s.acting := heard_acting _ _
  refine next_of hexec ?_
  split
  · next hnew =>
    have hpending : ¬(s.pair.ho = none ∨ (s.pair.ho = some ho ∧ ho.old = true)) := by
      rw [hpair] at hnew
      rintro (hnone | ⟨hsome, hold⟩)
      · rw [hnone] at hnew
        exact Bool.noConfusion hnew
      · rw [hsome, Option.any_some, hold] at hnew
        exact Bool.noConfusion hnew
    split
    · next hcause =>
      exact ⟨hact, fun _ _ _ => ⟨rfl, (congrArg PairSt.ho hpair :)⟩, fun _ _ hne => absurd hcause hne, fun hno => absurd hno hpending⟩
    · next hcause =>
      refine ⟨(refreshPair_acting _).trans hact, fun _ _ heq => absurd heq hcause, fun _ _ _ => ?_, fun hno => absurd hno hpending⟩
      rw [refreshPair_pair]
      rfl
  · next hnone =>
    have hnot : s.pair.ho = some ho → ho.old = false → False := fun hsome hnew => hnone (by rw [hpair, hsome, Option.any_some, hnew]; rfl)
    exact ⟨hact, fun hsome hnew => (hnot hsome hnew).elim, fun hsome hnew => (hnot hsome hnew).elim, fun _ => hpair⟩

theorem handoverRecord_taken {fn : W16} {e : W8} (hr : RecordTaken s h (.handover fn e)) :
    ∃ s', exec (.handoverRecord t h fn e) s = .next s' ∧ s'.acting = s.acting ∧
      (s.acting = false → fnFuture fn s.fn = true →
        s'.pair.ho = some { h := fn, tick := s.core.markT + frameTicks * fnDist fn s.fn, epoch := e, old := false, granted := false }) ∧
      ((s.acting = true ∨ fnFuture fn s.fn = false) → s'.pair.ho = s.pair.ho) := by
  let v := (((s.tick t).hears h).noteRec (recordOf h (.handover fn e))).learn h.epoch
  have hexec : exec (.handoverRecord t h fn e) s = .next (if v.acting || !fnFuture fn v.fn then v
    else (v.mapPair fun p =>
      { p with stopSeen := false
               ho := some { h := fn, tick := v.core.markT + frameTicks * fnDist fn v.fn, epoch := e, old := false, granted := false } }).refreshPair) :=
    congrArg Host.Outcome.next (mateRecord_lamp hr rfl)
  have hact : v.acting = s.acting := heard_acting _ _
  have hfn : v.fn = s.fn := congrArg (BitVec.ofNat 16) (heard_rd (.inr (by decide)) (by decide) (by decide) (by decide))
  have hcore : v.core = s.core := (heard_onlyRegs _ _).core
  refine next_of hexec ?_
  rw [hact, hfn, hcore]
  split
  · next hno =>
    refine ⟨hact, fun hstandby hfuture => ?_, fun _ => congrArg PairSt.ho (heard_pair _ _)⟩
    rw [hstandby, hfuture] at hno
    exact Bool.noConfusion hno
  · next hyes =>
    refine ⟨(refreshPair_acting _).trans hact, fun _ _ => by rw [refreshPair_pair]; rfl, fun hor => absurd ?_ hyes⟩
    rcases hor with hor | hor
    · rw [hor, Bool.true_or]
    · rw [hor, Bool.not_false, Bool.or_true]

theorem resyncReq_waits (hr : RecordTaken s h .resyncReq) : ∃ s', exec (.resyncReq t h) s = .next s' ∧
    s'.mate.reqPend = (s.mate.reqPend || s.acting) ∧ s'.map = s.map ∧ s'.regs = s.regs := by
  have hexec : exec (.resyncReq t h) s = .next (if s.acting then ((s.tick t).hears h).mapMate fun m => { m with reqPend := true }
    else (s.tick t).hears h) := congrArg Host.Outcome.next (mateRecord_lamp hr rfl)
  refine next_of hexec ?_
  split
  · next hact => exact ⟨by rw [hact, Bool.or_true]; rfl, rfl, rfl⟩
  · next hact => exact ⟨by rw [Bool.eq_false_of_not_eq_true hact, Bool.or_false]; rfl, rfl, rfl⟩

end

/-- Settles O51: a lane by the link that follows it, a heartbeat by what is noted and heeded before the standby tracks the link, the other
records by the one part of the pair's state that they change. -/
theorem mateLinkAndLampRecords : Obligations.MateLinkAndLampRecords := by
  intro t lane half symbols align pps fn h body cause e ho s
  exact ⟨fun hm ha => ⟨mateFrameRx_found hm ha, fun hlost => mateFrameRx_endsAlignment hm ha hlost,
      fun hlost => mateFrameRx_counts hm ha hlost⟩,
    mateFrameRx_ignored, mateLaneDrop_drops, heartbeatRecord_taken, heartbeatRecord_older, fun hr => stopRecord_taken hr ho,
    handoverRecord_taken, resyncReq_waits⟩

end Sys2Proof.Machine
end

section
/-! Proofs: a reference's status as it follows from its conditions (R198 to R205). -/
namespace Sys2Proof.Machine

/-! ### What bringing one reference up to date leaves of another -/

theorem ref_mapRef_same (s : State) (n : Nat) (f : RefSt → RefSt) : (s.mapRef n f).ref n = f (s.ref n) := Store.get_put_same

theorem ref_mapRef (s : State) (n m : Nat) (f : RefSt → RefSt) : (s.mapRef n f).ref m = if n = m then f (s.ref n) else s.ref m := Store.get_put

theorem mapRef_rd (s : State) (n : Nat) (g : RefSt → RefSt) (f : Fld) : (s.mapRef n g).rd f = s.rd f := rfl

theorem mapRef_flag (s : State) (n : Nat) (g : RefSt → RefSt) (f : Fld) : (s.mapRef n g).flag f = s.flag f := rfl

/-- What a reference's measurement has found stays as it is. -/
structure RefSt.Watched (r r' : RefSt) : Prop where
  loss : r'.loss = r.loss
  lossEnd : r'.lossEnd = r.lossEnd
  winAt : r'.winAt = r.winAt

theorem RefSt.Watched.refl (r : RefSt) : r.Watched r := ⟨rfl, rfl, rfl⟩

theorem RefSt.Watched.trans {r r' r'' : RefSt} (h : r.Watched r') (g : r'.Watched r'') : r.Watched r'' :=
  ⟨g.loss.trans h.loss, g.lossEnd.trans h.lossEnd, g.winAt.trans h.winAt⟩

/-- The state without its registers and references. -/
def State.besideRefs (s : State) : State := { s with regs := [], tmg := { s.tmg with refs := [] } }

/-- From `s` to `u` references are brought up to date, but not reference `n`. -/
structure RefsBut (n : Nat) (s u : State) : Prop where
  reg : ∀ a, a ≠ 0x40050030 → (a < 0x40050140 ∨ 0x40050180 ≤ a ∨ a = 0x40050140 + n * 4) → u.reg a = s.reg a
  beside : u.besideRefs = s.besideRefs
  ref : u.ref n = s.ref n
  watched : ∀ m, (s.ref m).Watched (u.ref m)

namespace RefsBut

variable {n : Nat} {s u w : State}

theorem refl (n : Nat) (s : State) : RefsBut n s s := ⟨fun _ _ _ => rfl, rfl, rfl, fun _ => .refl _⟩

theorem ite {c : Prop} [Decidable c] (h : RefsBut n s u) (g : RefsBut n s w) : RefsBut n s (if c then u else w) := by
  split <;> assumption

section
variable (h : RefsBut n s u)
include h

theorem trans (g : RefsBut n u w) : RefsBut n s w :=
  ⟨fun a hi ha => (g.reg a hi ha).trans (h.reg a hi ha), g.beside.trans h.beside, g.ref.trans h.ref, fun m => (h.watched m).trans (g.watched m)⟩

theorem now : u.now = s.now := (congrArg State.now h.beside :)

theorem line : u.line = s.line := (congrArg State.line h.beside :)

theorem hold : u.tmg.hold = s.tmg.hold := (congrArg (fun z => z.tmg.hold) h.beside :)

theorem setReg {a : Nat} {v : W32} (ha : a = 0x40050030 ∨ (0x40050140 ≤ a ∧ a < 0x40050180 ∧ a ≠ 0x40050140 + n * 4)) :
    RefsBut n s (u.setReg a v) where
  reg b hi hb := by rw [State.reg_setReg, if_neg (by omega), h.reg b hi hb]
  beside := h.beside
  ref := h.ref
  watched := h.watched

theorem wr {f : Fld} {v : Nat} (hf : f.addr = 0x40050030 ∨ (0x40050140 ≤ f.addr ∧ f.addr < 0x40050180 ∧ f.addr ≠ 0x40050140 + n * 4)) :
    RefsBut n s (u.wr f v) := h.setReg hf

theorem wrStat {m : Nat} (hm : m < 16) (hne : m ≠ n := by omega) {lo w v : Nat} : RefsBut n s (u.wr ⟨0x40050140 + m * 0x4, lo, w⟩ v) :=
  h.wr (.inr ⟨by show _ ≤ 0x40050140 + m * 0x4; omega, by show 0x40050140 + m * 0x4 < _; omega, by show 0x40050140 + m * 0x4 ≠ _; omega⟩)

theorem mapRef {m : Nat} {f : RefSt → RefSt} (hm : m ≠ n) (hf : ∀ r : RefSt, r.Watched (f r)) : RefsBut n s (u.mapRef m f) where
  reg := h.reg
  beside := h.beside
  ref := by rw [ref_mapRef, if_neg hm, h.ref]
  watched k := by
    rw [ref_mapRef]
    split
    · next hk => exact hk ▸ (h.watched m).trans (hf _)
    · exact h.watched k

theorem rd {f : Fld} (hi : f.addr ≠ 0x40050030) (hf : f.addr < 0x40050140 ∨ 0x40050180 ≤ f.addr ∨ f.addr = 0x40050140 + n * 4) :
    u.rd f = s.rd f := by rw [State.rd, State.rd, h.reg _ hi hf]

theorem flag {f : Fld} (hi : f.addr ≠ 0x40050030) (hf : f.addr < 0x40050140 ∨ 0x40050180 ≤ f.addr ∨ f.addr = 0x40050140 + n * 4) :
    u.flag f = s.flag f := congrArg (· == 1) (h.rd hi hf)

theorem dpll : u.dpll = s.dpll := h.rd (by decide) (.inl (by decide))

theorem acting : u.acting = s.acting := h.flag (by decide) (.inr (.inl (by decide)))

theorem refType (hn : n < 16) : u.refType n = s.refType n :=
  h.rd (by show 0x40050100 + n * 0x4 ≠ _; omega) (.inl (by show 0x40050100 + n * 0x4 < _; omega))

theorem refreshRef {m : Nat} (hm : m < 16) (hne : m ≠ n) : RefsBut n s (u.refreshRef m) := by
  have hstat : 0x40050140 ≤ 0x40050140 + m * 4 ∧ 0x40050140 + m * 4 < 0x40050180 ∧ 0x40050140 + m * 4 ≠ 0x40050140 + n * 4 := by omega
  unfold State.refreshRef
  extract_lets other hard was wtr conditions failed noted run left running avail
  have hconditions : RefsBut n s conditions := ((h.wrStat hm hne).wrStat hm hne).wrStat hm hne
  have hfailed : RefsBut n s failed := (hconditions.wr (.inl rfl)).ite hconditions
  have hnoted : RefsBut n s noted := hfailed.mapRef hne fun r => by
    split
    · exact ⟨rfl, rfl, rfl⟩
    · split <;> exact ⟨rfl, rfl, rfl⟩
  clear_value noted
  have hrunning : RefsBut n s running := (hnoted.wrStat hm hne).wrStat hm hne
  clear_value running
  have havail : RefsBut n s avail := hrunning.wrStat hm hne
  exact (h.setReg (.inr hstat)).ite ((havail.wr (.inl rfl)).ite havail)

theorem refreshAll {l : List Nat} (hl : ∀ m ∈ l, m < 16 ∧ m ≠ n) : RefsBut n s (l.foldl State.refreshRef u) :=
  List.foldlRecOn (motive := RefsBut n s) l _ h fun _ hv m hm => hv.refreshRef (hl m hm).1 (hl m hm).2

end
end RefsBut

/-- All references are brought up to date. -/
def State.refreshAll (s : State) : State := (List.range 16).foldl State.refreshRef s

theorem refreshAll_moved (s : State) : RefsBut 16 s s.refreshAll :=
  (RefsBut.refl 16 s).refreshAll fun _ hm => by rw [List.mem_range] at hm; omega

/-- Reference `n` has its turn between the others. -/
theorem refreshAll_around (s : State) {n : Nat} (hn : n < 16) : ∃ v, RefsBut n s v ∧ RefsBut n (v.refreshRef n) s.refreshAll := by
  obtain ⟨a, b, hab⟩ := List.append_of_mem (List.mem_range.2 hn)
  have hnodup : (a ++ n :: b).Nodup := hab ▸ List.nodup_range
  have hmem : ∀ m ∈ a ++ n :: b, m < 16 := fun m hm => List.mem_range.1 (hab ▸ hm)
  obtain ⟨-, hb, hdisjoint⟩ := List.nodup_append.1 hnodup
  refine ⟨a.foldl State.refreshRef s, (RefsBut.refl n s).refreshAll fun m hm => ⟨hmem m (by simp [hm]), fun h => ?_⟩, ?_⟩
  · exact hdisjoint m hm n (List.mem_cons_self ..) h
  · rw [State.refreshAll, hab, List.foldl_append, List.foldl_cons]
    refine (RefsBut.refl n _).refreshAll fun m hm => ⟨hmem m (by simp [hm]), fun h => ?_⟩
    exact (List.nodup_cons.1 hb).1 (h ▸ hm)

/-! ### The conditions of a reference (R198 to R200, R205) -/

/-- What the conditions of reference `n` but an acquisition failure are read from. -/
structure ConditionsKept (n : Nat) (s u : State) : Prop where
  reg : ∀ a, ¬loopReg a → (a < 0x40050140 ∨ 0x40050180 ≤ a) → u.reg a = s.reg a
  line : u.line = s.line
  now : u.now = s.now
  mateQl : u.tmg.mateQl = s.tmg.mateQl
  loss : (u.ref n).loss = (s.ref n).loss
  lossEnd : (u.ref n).lossEnd = (s.ref n).lossEnd

namespace ConditionsKept

variable {n : Nat} {s u : State} (h : ConditionsKept n s u)
include h

theorem rd {f : Fld} (hi : ¬loopReg f.addr) (hf : f.addr < 0x40050140 ∨ 0x40050180 ≤ f.addr) : u.rd f = s.rd f := by
  rw [State.rd, State.rd, h.reg _ hi hf]

theorem flag {f : Fld} (hi : ¬loopReg f.addr) (hf : f.addr < 0x40050140 ∨ 0x40050180 ≤ f.addr) : u.flag f = s.flag f :=
  congrArg (· == 1) (h.rd hi hf)

theorem entry (hn : n < 16) (lo w : Nat) : u.rd ⟨0x40050100 + n * 0x4, lo, w⟩ = s.rd ⟨0x40050100 + n * 0x4, lo, w⟩ :=
  h.rd (by show ¬loopReg (0x40050100 + n * 0x4); unfold loopReg; omega) (.inl (by show 0x40050100 + n * 0x4 < _; omega))

theorem portRd {f : Fld} {p o : Nat} (hf : f.addr = prtBase p + o) : u.rd f = s.rd f := by
  have hbase : prtBase p = 0x40100000 + p * 0x1000 := rfl
  exact h.rd (by unfold loopReg; omega) (.inr (by omega))

theorem portFlag {f : Fld} {p o : Nat} (hf : f.addr = prtBase p + o) : u.flag f = s.flag f := congrArg (· == 1) (h.portRd hf)

theorem dyn (p : Nat) : u.dyn p = s.dyn p := by rw [State.dyn, State.dyn, h.line]

theorem portRefFails (p : Nat) : u.portRefFails p = s.portRefFails p := by
  have hmode : u.prtMode p = s.prtMode p := h.portRd rfl
  have hrx : u.rxOn p = s.rxOn p := by
    rw [State.rxOn, State.enabled, State.depth, State.member, h.portFlag rfl, h.portRd rfl, h.portFlag rfl]
    rfl
  have hdef : ∀ i, u.pdef p i = s.pdef p i := fun i => h.portFlag (f := { addr := prtBase p + 0x10C, lo := 0 + i, w := 1 }) rfl
  simp only [State.portRefFails, hmode, hrx, hdef]

theorem acting : u.acting = s.acting := h.flag (by decide) (.inr (by decide))

variable (hn : n < 16)
include hn

theorem refType : u.refType n = s.refType n := h.entry hn ..

theorem refSrc : u.refSrc n = s.refSrc n := h.entry hn ..

theorem refUsed : u.refUsed n = s.refUsed n := by rw [State.refUsed, h.refType hn, State.refUsed]

theorem refLoop : u.refLoop n = s.refLoop n := by rw [State.refLoop, h.refType hn, h.acting, State.refLoop]

theorem window : u.window n = s.window n := by
  have hfreq : u.rd (F.TMG_REF_FREQ n) = s.rd (F.TMG_REF_FREQ n) := h.entry hn ..
  rw [State.window, State.isPps, h.refType hn, hfreq, State.window, State.isPps]

theorem refLoss : u.refLoss n = s.refLoss n := by
  have hup : u.mateUp = s.mateUp := h.flag (by decide) (.inr (by decide))
  simp only [State.refLoss, h.refType hn, h.refSrc hn, h.portRefFails, h.loss, h.lossEnd, h.now, h.window hn, h.acting, hup]

theorem refFreqBad : u.refFreqBad n = s.refFreqBad n := by
  have hreg : u.reg (0x40050180 + n * 4) = s.reg (0x40050180 + n * 4) := h.reg _ (by unfold loopReg; omega) (.inr (by omega))
  rw [State.refFreqBad, hreg, h.rd (by decide) (.inl (by decide)), State.refFreqBad]

theorem refQlBad : u.refQlBad n = s.refQlBad n := by
  have hctrl : ∀ lo w, u.rd ⟨0x40050000, lo, w⟩ = s.rd ⟨0x40050000, lo, w⟩ := fun _ _ =>
    h.rd (by decide : ¬loopReg 0x40050000) (.inl (by decide : 0x40050000 < 0x40050140))
  have hnet : u.net2 = s.net2 := congrArg (· == 1) (hctrl ..)
  have hregime : u.qlRegime = s.qlRegime := congrArg (· == 1) (hctrl ..)
  have hown : u.rd F.TMG_CTRL_OWN_QL = s.rd F.TMG_CTRL_OWN_QL := hctrl ..
  have hhost : u.rd (F.TMG_REF_QL_HOST n) = s.rd (F.TMG_REF_QL_HOST n) := h.entry hn ..
  have hql : u.rd (F.TMG_REF_QL n) = s.rd (F.TMG_REF_QL n) := h.entry hn ..
  have hvalid : ∀ p, u.flag (F.PRT_QL_RX_VALID p) = s.flag (F.PRT_QL_RX_VALID p) := fun _ => h.portFlag rfl
  have hrx : ∀ p, u.rd (F.PRT_QL_RX_QL p) = s.rd (F.PRT_QL_RX_QL p) := fun _ => h.portRd rfl
  have heff : u.effQl n = s.effQl n := by
    simp only [State.effQl, hhost, hql, h.refType hn, h.refSrc hn, hvalid, hrx, h.mateQl]
  rw [State.refQlBad, State.rankOf, heff, hnet, hregime, hown, State.refQlBad, State.rankOf]

end ConditionsKept

theorem RefsBut.conditions {n : Nat} {s u : State} (h : RefsBut n s u) (m : Nat) : ConditionsKept m s u where
  reg a hi ha := h.reg a (fun h => hi (.inr h)) (by omega)
  line := h.line
  now := h.now
  mateQl := (congrArg (fun z => z.tmg.mateQl) h.beside :)
  loss := (h.watched m).loss
  lossEnd := (h.watched m).lossEnd

/-- An acquisition failure stands for as long as its end and the time do. -/
theorem refAcqBad_of {s u : State} {n : Nat} (hfail : (u.ref n).acqFail = (s.ref n).acqFail) (hnow : u.now = s.now) :
    u.refAcqBad n = s.refAcqBad n := by rw [State.refAcqBad, State.refAcqBad, hfail, hnow]

theorem RefsBut.refAcqBad {n : Nat} {s u : State} (h : RefsBut n s u) : u.refAcqBad n = s.refAcqBad n :=
  refAcqBad_of (by rw [h.ref]) h.now

/-- A condition that fails a reference holds (R205). -/
def State.refHard (s : State) (n : Nat) : Bool := s.refLoss n || s.refFreqBad n || s.refQlBad n || s.refAcqBad n

theorem refCause_eq_zero (s : State) (n : Nat) : s.refCause n = 0 ↔ s.refLoop n = false ∧ s.refHard n = false := by
  unfold State.refCause State.refHard
  cases s.refLoop n <;> cases s.refLoss n <;> cases s.refFreqBad n <;> cases s.refQlBad n <;> cases s.refAcqBad n <;> simp <;> split <;> simp

/-- A REFIN entry that shows its loss condition fails for it. -/
theorem refCause_of_loss {s : State} {n : Nat} (htype : s.refType n = 2) (hloss : (s.ref n).loss = true) :
    s.refLoss n = true ∧ s.refCause n = 1 := by
  have hlost : s.refLoss n = true := by simp [State.refLoss, htype, hloss]
  exact ⟨hlost, by simp [State.refCause, State.refLoop, htype, hlost]⟩

/-! ### A reference is brought up to date (R205) -/

/-- What a reference keeps of its wait-to-restore: `hard`: a condition fails it, `other`: one besides its QL and its acquisition; `was`: it
failed before. -/
def RefSt.refreshed (r : RefSt) (now wtr : Nat) (other hard was : Bool) : RefSt :=
  if hard then { r with wtr := none, needWtr := r.needWtr || other }
  else if was && r.needWtr && decide (0 < wtr) then { r with wtr := some (now + wtr), needWtr := false, acqFail := none }
  else { r with needWtr := false, acqFail := none }

/-- EFF_QL, CAUSE and FAIL follow the conditions. -/
def State.showCause (s : State) (n : Nat) : State :=
  let u := ((s.wr (F.TMG_REF_STAT_EFF_QL n) (s.effQl n)).wr (F.TMG_REF_STAT_CAUSE n) (s.refCause n)).setFlag (F.TMG_REF_STAT_FAIL n) (s.refHard n)
  if s.refHard n && !s.flag (F.TMG_REF_STAT_FAIL n) then u.raise F.TMG_INT_REF_FAIL else u

/-- WTR_RUN, WTR_LEFT and AVAIL follow them, and the wait-to-restore. -/
def State.showAvail (s : State) (n : Nat) (hard : Bool) : State :=
  let left := match (s.ref n).wtr with
    | some e => (e - s.now + secTicks - 1) / secTicks
    | none => 0
  let u := (s.setFlag (F.TMG_REF_STAT_WTR_RUN n) (s.ref n).wtr.isSome).wr (F.TMG_REF_STAT_WTR_LEFT n) left
  u.setFlag (F.TMG_REF_STAT_AVAIL n) (!hard && !(s.ref n).wtr.isSome && !u.refLoop n && !u.flag (F.TMG_REF_STAT_LOCKOUT n))

/-- The status of a used reference with its conditions shown, and its wait-to-restore as they leave it. -/
def State.causeShown (s : State) (n : Nat) : State :=
  (s.showCause n).mapRef n fun r => r.refreshed s.now (secTicks * s.rd F.TMG_TIMERS_WTR) (s.refLoss n || s.refFreqBad n) (s.refHard n)
    (s.flag (F.TMG_REF_STAT_FAIL n))

theorem showCause_now (s : State) (n : Nat) : (s.showCause n).now = s.now := by
  unfold State.showCause
  dsimp only
  split <;> simp only [State.raise, State.setFlag, State.wr_now]

theorem refreshRef_used {s : State} {n : Nat} (hu : s.refUsed n = true) : s.refreshRef n =
    if s.flag (F.TMG_REF_STAT_FAIL n) && !s.refHard n && !((s.causeShown n).ref n).wtr.isSome
      then ((s.causeShown n).showAvail n (s.refHard n)).raise F.TMG_INT_REF_AVAIL else (s.causeShown n).showAvail n (s.refHard n) := by
  rw [State.refreshRef, if_neg (by simp [hu]), State.causeShown, ← showCause_now s n]
  rfl

theorem refCause_lt (s : State) (n : Nat) : s.refCause n < 2 ^ 3 := by
  unfold State.refCause
  split_ifs <;> decide

/-- Two fields of one reference's status, and TMG_INT beside them. -/
theorem stat_apart {n lo w lo' w' : Nat} (h : lo' + w' ≤ lo ∨ lo + w ≤ lo') (hw : lo' + w' ≤ 32) :
    (Fld.mk (0x40050140 + n * 0x4) lo w).apart ⟨0x40050140 + n * 0x4, lo', w'⟩ = true := apart_of_bits h hw

theorem int_apart_stat {n lo w lo' w' : Nat} : (Fld.mk 0x40050030 lo w).apart ⟨0x40050140 + n * 0x4, lo', w'⟩ = true :=
  apart_of_addr (by show 0x40050030 ≠ 0x40050140 + n * 0x4; omega)

section
variable (s : State) (n : Nat)

theorem showCause_tmg : (s.showCause n).tmg = s.tmg := by
  unfold State.showCause
  dsimp only
  split <;> simp only [State.raise, State.setFlag, State.wr_tmg]

theorem showCause_rd (lo w : Nat) : (s.showCause n).rd ⟨0x40050140 + n * 0x4, lo, w⟩ =
    (((s.wr (F.TMG_REF_STAT_EFF_QL n) (s.effQl n)).wr (F.TMG_REF_STAT_CAUSE n) (s.refCause n)).setFlag (F.TMG_REF_STAT_FAIL n) (s.refHard n)).rd
      ⟨0x40050140 + n * 0x4, lo, w⟩ := by
  unfold State.showCause
  dsimp only
  split
  · exact State.rd_wr_apart _ _ int_apart_stat
  · rfl

theorem showCause_fail : (s.showCause n).flag (F.TMG_REF_STAT_FAIL n) = s.refHard n :=
  (congrArg (· == 1) (showCause_rd s n ..)).trans (flag_setFlag_same _ (by decide : (1 : Nat) < 32) rfl)

theorem showCause_cause : (s.showCause n).rd (F.TMG_REF_STAT_CAUSE n) = s.refCause n := by
  rw [showCause_rd, State.setFlag, State.rd_wr_apart _ _ (stat_apart (.inr (by decide)) (by decide)),
    rd_wr_lt _ (by decide : (10 : Nat) + 3 ≤ 32) (refCause_lt s n)]

theorem showCause_lockout : (s.showCause n).flag (F.TMG_REF_STAT_LOCKOUT n) = s.flag (F.TMG_REF_STAT_LOCKOUT n) := by
  rw [State.flag, showCause_rd, State.setFlag, State.rd_wr_apart _ _ (stat_apart (.inr (by decide)) (by decide)),
    State.rd_wr_apart _ _ (stat_apart (.inl (by decide)) (by decide)), State.rd_wr_apart _ _ (stat_apart (.inl (by decide)) (by decide)), State.flag]

/-- Below WTR_RUN and from FORCED on to WTR_LEFT the status stays as it is. -/
theorem showAvail_rd (hard : Bool) {lo w : Nat} (h : (1 ≤ lo ∧ lo + w ≤ 3) ∨ (4 ≤ lo ∧ lo + w ≤ 16)) :
    (s.showAvail n hard).rd ⟨0x40050140 + n * 0x4, lo, w⟩ = s.rd ⟨0x40050140 + n * 0x4, lo, w⟩ := by
  rw [State.showAvail, State.setFlag, State.rd_wr_apart _ _ (stat_apart (by omega) (by omega)), State.rd_wr_apart _ _ (stat_apart (by omega) (by omega)),
    State.setFlag, State.rd_wr_apart _ _ (stat_apart (by omega) (by omega))]

theorem showAvail_run (hard : Bool) : (s.showAvail n hard).flag (F.TMG_REF_STAT_WTR_RUN n) = (s.ref n).wtr.isSome := by
  rw [State.showAvail, flag_setFlag_apart _ (stat_apart (.inr (by decide)) (by decide)), flag_wr_apart _ _ (stat_apart (.inl (by decide)) (by decide)),
    flag_setFlag_same _ (by decide : (3 : Nat) < 32) rfl]

theorem showAvail_avail {n : Nat} (hn : n < 16) (hard : Bool) : (s.showAvail n hard).flag (F.TMG_REF_STAT_AVAIL n) =
    (!hard && !(s.ref n).wtr.isSome && !s.refLoop n && !s.flag (F.TMG_REF_STAT_LOCKOUT n)) := by
  have hloop : ∀ v, ((s.setFlag (F.TMG_REF_STAT_WTR_RUN n) (s.ref n).wtr.isSome).wr (F.TMG_REF_STAT_WTR_LEFT n) v).refLoop n = s.refLoop n :=
    fun v => ((((RefsBut.refl 16 s).wrStat hn).wrStat hn).conditions n).refLoop hn
  rw [State.showAvail, flag_setFlag_same _ (by decide : (0 : Nat) < 32) rfl, hloop, flag_wr_apart _ _ (stat_apart (.inl (by decide)) (by decide)),
    flag_setFlag_apart _ (stat_apart (.inr (by decide)) (by decide))]

end

theorem showCause_moved (s : State) {n : Nat} (hn : n < 16) : RefsBut 16 s (s.showCause n) := by
  have hset : RefsBut 16 s (((s.wr (F.TMG_REF_STAT_EFF_QL n) (s.effQl n)).wr (F.TMG_REF_STAT_CAUSE n) (s.refCause n)).setFlag
    (F.TMG_REF_STAT_FAIL n) (s.refHard n)) := (((RefsBut.refl 16 s).wrStat hn).wrStat hn).wrStat hn
  exact (hset.wr (.inl rfl)).ite hset

theorem mapRef_refLoop (s : State) (n m : Nat) (f : RefSt → RefSt) : (s.mapRef n f).refLoop m = s.refLoop m := rfl

theorem showAvail_tmg (s : State) (n : Nat) (hard : Bool) : (s.showAvail n hard).tmg = s.tmg := by
  simp only [State.showAvail, State.setFlag, State.wr_tmg]

theorem refreshRef_tmg {s : State} {n : Nat} (hu : s.refUsed n = true) : (s.refreshRef n).tmg = (s.causeShown n).tmg := by
  rw [refreshRef_used hu]
  split
  · rw [State.raise, State.wr_tmg, showAvail_tmg]
  · exact showAvail_tmg ..

/-- What bringing a used reference up to date makes of its status. -/
structure Refreshed (n : Nat) (s u : State) : Prop where
  ref : u.ref n = (s.ref n).refreshed s.now (secTicks * s.rd F.TMG_TIMERS_WTR) (s.refLoss n || s.refFreqBad n) (s.refHard n)
    (s.flag (F.TMG_REF_STAT_FAIL n))
  fail : u.flag (F.TMG_REF_STAT_FAIL n) = s.refHard n
  cause : u.rd (F.TMG_REF_STAT_CAUSE n) = s.refCause n
  lockout : u.flag (F.TMG_REF_STAT_LOCKOUT n) = s.flag (F.TMG_REF_STAT_LOCKOUT n)
  run : u.flag (F.TMG_REF_STAT_WTR_RUN n) = (u.ref n).wtr.isSome
  avail : u.flag (F.TMG_REF_STAT_AVAIL n) =
    (!s.refHard n && !(u.ref n).wtr.isSome && !s.refLoop n && !s.flag (F.TMG_REF_STAT_LOCKOUT n))

theorem refreshRef_refreshed {s : State} {n : Nat} (hn : n < 16) (hu : s.refUsed n = true) : Refreshed n s (s.refreshRef n) := by
  have hstat : ∀ lo w, (s.refreshRef n).rd ⟨0x40050140 + n * 0x4, lo, w⟩ =
      ((s.causeShown n).showAvail n (s.refHard n)).rd ⟨0x40050140 + n * 0x4, lo, w⟩ := fun lo w => by
    rw [refreshRef_used hu]
    split
    · exact State.rd_wr_apart _ _ int_apart_stat
    · rfl
  have hflag : ∀ lo, (s.refreshRef n).flag ⟨0x40050140 + n * 0x4, lo, 1⟩ =
      ((s.causeShown n).showAvail n (s.refHard n)).flag ⟨0x40050140 + n * 0x4, lo, 1⟩ := fun lo => congrArg (· == 1) (hstat lo 1)
  have hrefs : (s.refreshRef n).ref n = (s.causeShown n).ref n := by rw [State.ref, refreshRef_tmg hu, State.ref]
  have hshown : (s.causeShown n).ref n = (s.ref n).refreshed s.now (secTicks * s.rd F.TMG_TIMERS_WTR) (s.refLoss n || s.refFreqBad n)
      (s.refHard n) (s.flag (F.TMG_REF_STAT_FAIL n)) := by
    rw [State.causeShown, ref_mapRef_same, State.ref, showCause_tmg, State.ref]
  have hcause : ∀ f, (s.causeShown n).rd f = (s.showCause n).rd f := fun f => mapRef_rd _ _ _ f
  have hcauseFlag : ∀ f, (s.causeShown n).flag f = (s.showCause n).flag f := fun f => mapRef_flag _ _ _ f
  have hloop : (s.causeShown n).refLoop n = s.refLoop n := (mapRef_refLoop ..).trans (((showCause_moved s hn).conditions n).refLoop hn)
  refine ⟨hrefs.trans hshown, ?_, ?_, ?_, ?_, ?_⟩
  · rw [hflag, State.flag, showAvail_rd _ _ _ (.inl (by decide)), ← State.flag, hcauseFlag, showCause_fail]
  · rw [hstat, showAvail_rd _ _ _ (.inr (by decide)), hcause, showCause_cause]
  · rw [hflag, State.flag, showAvail_rd _ _ _ (.inr (by decide)), ← State.flag, hcauseFlag, showCause_lockout]
  · rw [hflag, showAvail_run, hrefs]
  · rw [hflag, showAvail_avail _ hn, hloop, hcauseFlag, showCause_lockout, hrefs]

end Sys2Proof.Machine
end

section
/-! Proofs: references fail, wait and are available (O46; R198, R199, R205, R209, R210). -/
namespace Sys2Proof.Machine

/-! ### The selected reference is watched (R209) -/

/-- A reference waits no longer. -/
def RefSt.waitOver (r : RefSt) : RefSt := { r with wtr := none }

theorem RefSt.waitOver_watched (r : RefSt) : r.Watched r.waitOver := ⟨rfl, rfl, rfl⟩

/-- The failure of the selected reference has cleared in the hold-off: the DPLL locks to it again. -/
def State.clearHold (s : State) : State :=
  ((((s.mapRef (s.rd F.TMG_STATE_SEL_REF) RefSt.waitOver).refreshRef (s.rd F.TMG_STATE_SEL_REF)).raise
    F.TMG_INT_REF_AVAIL).endSwitch.freeBuildOut).enter 2

theorem watchSelected_cases (s : State) : s.watchSelected = s ∨ s.watchSelected = s.startHold ∨
    (s.watchSelected = s.clearHold ∧ s.dpll = 4 ∧ s.tmg.hold.isSome = true ∧ s.refCause (s.rd F.TMG_STATE_SEL_REF) = 0) := by
  unfold State.watchSelected
  dsimp only
  split
  · split
    · exact .inr (.inl rfl)
    · split
      · next h => exact .inr (.inr ⟨rfl, h⟩)
      · exact .inl rfl
  · exact .inl rfl

/-- Outside LOCKED and the hold-off nothing is done about it. -/
theorem watchSelected_idle {s : State} (hlocked : s.dpll ≠ 2) (hhold : s.dpll = 4 → s.tmg.hold = none) : s.watchSelected = s := by
  unfold State.watchSelected
  dsimp only
  split
  · have hstays : ¬(s.dpll = 4 ∧ s.tmg.hold.isSome = true ∧ s.refCause (s.rd F.TMG_STATE_SEL_REF) = 0) := by
      rintro ⟨hswitching, hsome, -⟩
      rw [hhold hswitching] at hsome
      exact Bool.noConfusion hsome
    rw [if_neg fun h => hlocked h.1, if_neg hstays]
  · rfl

/-- A reference that failed for the selected one while LOCKED starts the hold-off. -/
theorem watchSelected_holds {s : State} (hact : s.acting = true) (hvalid : s.flag F.TMG_STATE_SEL_VALID = true) (hlocked : s.dpll = 2)
    (hfail : s.flag (F.TMG_REF_STAT_FAIL (s.rd F.TMG_STATE_SEL_REF)) = true) : s.watchSelected = s.startHold :=
  (if_pos (by rw [hact, hvalid]; rfl)).trans (if_pos ⟨hlocked, hfail⟩)

theorem startHold_starts {s : State} (h : s.dpll = 2) : s.startHold.dpll = 4 ∧
    s.startHold.tmg.hold = some (s.now + s.rd F.TMG_TIMERS_HOLDOFF * 100 * msTicks) ∧ s.startHold.flag F.TMG_INT_STATE_CHG = true := by
  have hmoved : LoopMoved loopReg s (s.freeze.setFlag F.TMG_STATE_TGT_VALID false) := ((LoopMoved.refl _ s).freeze fun _ h => h).setFlag (by decide)
  refine ⟨?_, ?_, ?_⟩
  · show (s.freeze.setFlag F.TMG_STATE_TGT_VALID false).dpll = 4
    rw [State.dpll, State.setFlag, State.rd_wr_apart _ _ (by decide), ← State.dpll, freeze_dpll]
  · show some _ = some _
    rw [hmoved.now, hmoved.rd (by decide)]
  · show (s.freeze.setFlag F.TMG_STATE_TGT_VALID false).flag F.TMG_INT_STATE_CHG = true
    rw [flag_setFlag_apart _ (by decide), State.freeze, enter_stateChg]
    rw [State.dpll, State.setFlag, State.rd_wr_apart _ _ (by decide), ← State.dpll, outHist_dpll, h]
    decide

theorem refreshRefs_eq (s : State) : s.refreshRefs = s.refreshAll.watchSelected.showQl := rfl

/-- While no switch and no locked reference is watched, bringing the references up to date is all that is done. -/
theorem refreshRefs_idle {s : State} (hlocked : s.dpll ≠ 2) (hhold : s.dpll = 4 → s.tmg.hold = none) : s.refreshRefs = s.refreshAll.showQl := by
  have hmoved := refreshAll_moved s
  rw [refreshRefs_eq, watchSelected_idle (hmoved.dpll ▸ hlocked) fun h => hmoved.hold.trans (hhold (hmoved.dpll ▸ h))]

/-- The DPLL moves beside the references. -/
theorem clearHold_moved (s : State) : LoopMoved loopReg
    ((s.mapRef (s.rd F.TMG_STATE_SEL_REF) RefSt.waitOver).refreshRef (s.rd F.TMG_STATE_SEL_REF)) s.clearHold :=
  (((((LoopMoved.refl loopReg _).raise (by decide)).endSwitch fun _ h => h).freeBuildOut fun _ h => h).enter fun _ h => h)

theorem LoopMoved.acting {s u : State} (h : LoopMoved loopReg s u) : u.acting = s.acting := h.flag (by decide)

theorem refreshRefs_acting (s : State) : s.refreshRefs.acting = s.acting := by
  have hsel : s.refreshAll.rd F.TMG_STATE_SEL_REF < 16 := bits_lt ..
  rw [refreshRefs_eq, ((LoopMoved.refl loopReg _).showQl fun _ h => h).acting, ← (refreshAll_moved s).acting]
  rcases watchSelected_cases s.refreshAll with h | h | ⟨h, -⟩
  · rw [h]
  · rw [h, ((LoopMoved.refl loopReg _).startHold fun _ h => h).acting]
  · rw [h, (clearHold_moved _).acting, (((RefsBut.refl 16 s.refreshAll).mapRef (by omega) RefSt.waitOver_watched).refreshRef hsel (by omega)).acting]

/-! ### What the watch leaves of a reference -/

/-- The status and the state of reference `n`, the entry's TYPE and ACTING are in `u` as in `s`. -/
structure RefKept (n : Nat) (s u : State) : Prop where
  stat : u.reg (0x40050140 + n * 4) = s.reg (0x40050140 + n * 4)
  ref : u.ref n = s.ref n
  type : u.refType n = s.refType n
  acting : u.acting = s.acting

namespace RefKept

variable {n : Nat} {s u w : State}

theorem trans (h : RefKept n s u) (g : RefKept n u w) : RefKept n s w :=
  ⟨g.stat.trans h.stat, g.ref.trans h.ref, g.type.trans h.type, g.acting.trans h.acting⟩

theorem statRd (h : RefKept n s u) (lo w : Nat) : u.rd ⟨0x40050140 + n * 0x4, lo, w⟩ = s.rd ⟨0x40050140 + n * 0x4, lo, w⟩ :=
  congrArg (fun x : W32 => bits x.toNat lo w) h.stat

theorem statFlag (h : RefKept n s u) (lo : Nat) : u.flag ⟨0x40050140 + n * 0x4, lo, 1⟩ = s.flag ⟨0x40050140 + n * 0x4, lo, 1⟩ :=
  congrArg (· == 1) (h.statRd lo 1)

end RefKept

theorem RefsBut.kept {n : Nat} {s u : State} (h : RefsBut n s u) (hn : n < 16) : RefKept n s u :=
  ⟨h.reg _ (by omega) (by omega), h.ref, h.refType hn, h.acting⟩

theorem LoopMoved.refKept {n : Nat} {s u : State} (h : LoopMoved loopReg s u) (hn : n < 16) : RefKept n s u where
  stat := h.reg _ (by unfold loopReg; omega)
  ref := by rw [State.ref, h.refs, State.ref]
  type := h.rd (by show ¬loopReg (0x40050100 + n * 0x4); unfold loopReg; omega)
  acting := h.acting

theorem showQl_refKept (s : State) {n : Nat} (hn : n < 16) : RefKept n s s.showQl := ((LoopMoved.refl loopReg s).showQl fun _ h => h).refKept hn

/-- The watch leaves every reference alone but the selected one whose failure has cleared. -/
theorem watchSelected_refKept {s : State} {n : Nat} (hn : n < 16) (h : s.refCause n ≠ 0 ∨ s.rd F.TMG_STATE_SEL_REF ≠ n) :
    RefKept n s s.watchSelected := by
  have hsel : s.rd F.TMG_STATE_SEL_REF < 16 := bits_lt ..
  rcases watchSelected_cases s with hs | hs | ⟨hs, -, -, hclear⟩
  · rw [hs]
    exact ⟨rfl, rfl, rfl, rfl⟩
  · rw [hs]
    exact ((LoopMoved.refl loopReg s).startHold fun _ h => h).refKept hn
  · have hne : s.rd F.TMG_STATE_SEL_REF ≠ n := by
      rcases h with h | h
      · exact fun he => h (he ▸ hclear)
      · exact h
    rw [hs]
    exact ((((RefsBut.refl n s).mapRef hne RefSt.waitOver_watched).refreshRef hsel hne).kept hn).trans ((clearHold_moved s).refKept hn)

/-! ### REF_LOSS (R198, R199) -/

section
variable {t : Nat} {n : Nat} {s : State} (hn : n < 16) (htype : s.refType n = 2)
include hn htype

/-- A REFIN entry with its loss condition, and what the device shows of it. -/
theorem refreshRefs_loss (hloss : (s.ref n).loss = true) :
    (s.refreshRefs.ref n).loss = true ∧ s.refreshRefs.flag (F.TMG_REF_STAT_FAIL n) = true ∧ s.refreshRefs.rd (F.TMG_REF_STAT_CAUSE n) = 1 ∧
      s.refreshRefs.flag (F.TMG_REF_STAT_AVAIL n) = false ∧ s.refreshAll.flag (F.TMG_REF_STAT_FAIL n) = true := by
  obtain ⟨v, hbefore, hafter⟩ := refreshAll_around s hn
  have hvtype : v.refType n = 2 := (hbefore.refType hn).trans htype
  obtain ⟨hvloss, hvcause⟩ := refCause_of_loss hvtype ((hbefore.watched n).loss.trans hloss)
  have hhard : v.refHard n = true := by rw [State.refHard, hvloss]; rfl
  have hfresh := refreshRef_refreshed hn (show v.refUsed n = true by rw [State.refUsed, hvtype]; rfl)
  have hall := refreshAll_moved s
  have hcause := (refCause_of_loss (((hall.conditions n).refType hn).trans htype) ((hall.watched n).loss.trans hloss)).2
  have hkept : RefKept n s.refreshAll s.refreshRefs :=
    (watchSelected_refKept hn (.inl (by rw [hcause]; decide))).trans (showQl_refKept _ hn)
  have hturn : RefKept n (v.refreshRef n) s.refreshAll := hafter.kept hn
  refine ⟨?_, ?_, ?_, ?_, ?_⟩
  · rw [hkept.ref]
    exact (hall.watched n).loss.trans hloss
  · rw [hkept.statFlag, hturn.statFlag, hfresh.fail, hhard]
  · rw [hkept.statRd, hturn.statRd, hfresh.cause, hvcause]
  · rw [hkept.statFlag, hturn.statFlag, hfresh.avail, hhard]
    rfl
  · rw [hturn.statFlag, hfresh.fail, hhard]

end

/-- The loss condition of a reference holds. -/
def RefSt.lost (r : RefSt) : RefSt := { r with loss := true, lossEnd := none }

/-- The loss condition ends, and its last tick is kept (R199). -/
def RefSt.found (r : RefSt) (now : Nat) : RefSt := if r.loss then { r with loss := false, lossEnd := some now } else r

section
variable {t : Nat} {n : Fin 16} {s : State}

theorem exec_refLoss_present (htype : s.refType n.val = 2) :
    exec (.refLoss t n true) s = .next ((s.tick t).mapRef n.val RefSt.lost).refreshRefs := if_pos htype

theorem exec_refLoss_absent (htype : s.refType n.val = 2) :
    exec (.refLoss t n false) s = .next ((s.tick t).mapRef n.val fun r => r.found (max s.now t)).refreshRefs := if_pos htype

theorem exec_refLoss_other (htype : s.refType n.val ≠ 2) (b : Bool) : exec (.refLoss t n b) s = .next (s.tick t) := if_neg htype

theorem refLoss_present (htype : s.refType n.val = 2) :
    ∃ s', exec (.refLoss t n true) s = .next s' ∧ (s'.ref n.val).loss = true ∧ s'.flag (F.TMG_REF_STAT_FAIL n.val) = true ∧
      s'.rd (F.TMG_REF_STAT_CAUSE n.val) = 1 ∧ s'.flag (F.TMG_REF_STAT_AVAIL n.val) = false ∧
      (s.acting = true → s.flag F.TMG_STATE_SEL_VALID = true → s.rd F.TMG_STATE_SEL_REF = n.val → s.dpll = 2 →
        s'.dpll = 4 ∧ s'.tmg.hold = some (max s.now t + s.rd F.TMG_TIMERS_HOLDOFF * 100 * msTicks) ∧ s'.flag F.TMG_INT_STATE_CHG = true) := by
  let u := (s.tick t).mapRef n.val RefSt.lost
  have hloss : (u.ref n.val).loss = true := by rw [ref_mapRef_same]; rfl
  obtain ⟨hkept, hfail, hcause, havail, hfailed⟩ := refreshRefs_loss n.isLt (s := u) htype hloss
  refine next_of (exec_refLoss_present htype) ⟨hkept, hfail, hcause, havail, fun hact hvalid hsel hlocked => ?_⟩
  have hall : RefsBut 16 u u.refreshAll := refreshAll_moved u
  have hstate : u.refreshAll.dpll = 2 := hall.dpll.trans hlocked
  have hselected : u.refreshAll.rd F.TMG_STATE_SEL_REF = n.val := (hall.rd (by decide) (.inl (by decide))).trans hsel
  have hvalid : u.refreshAll.flag F.TMG_STATE_SEL_VALID = true := (hall.flag (by decide) (.inl (by decide))).trans hvalid
  have hwatch : u.refreshRefs = u.refreshAll.startHold.showQl :=
    congrArg State.showQl (watchSelected_holds (hall.acting.trans hact) hvalid hstate (hselected.symm ▸ hfailed))
  obtain ⟨hdpll, hhold, hchg⟩ := startHold_starts hstate
  rw [hwatch]
  refine ⟨(showQl_dpll _).trans hdpll, hhold.trans ?_, (showQl_flag _ (by decide)).trans hchg⟩
  rw [hall.now, hall.rd (by decide) (.inl (by decide))]
  rfl

/-- Bringing the references up to date leaves what the measurements found. -/
theorem refreshRefs_watched (s : State) (m : Nat) : (s.ref m).Watched (s.refreshRefs.ref m) := by
  have hall := (refreshAll_moved s).watched m
  have hsel : s.refreshAll.rd F.TMG_STATE_SEL_REF < 16 := bits_lt ..
  have hmoved : ∀ u : State, LoopMoved loopReg u u.showQl := fun u => (LoopMoved.refl _ u).showQl fun _ h => h
  have hrefs : ∀ {u w : State}, LoopMoved loopReg u w → w.ref m = u.ref m := fun h => by rw [State.ref, h.refs, State.ref]
  rw [refreshRefs_eq, hrefs (hmoved _)]
  rcases watchSelected_cases s.refreshAll with h | h | ⟨h, -⟩
  · rw [h]
    exact hall
  · rw [h, hrefs ((LoopMoved.refl loopReg _).startHold fun _ h => h)]
    exact hall
  · rw [h, hrefs (clearHold_moved _)]
    exact hall.trans ((((RefsBut.refl 16 s.refreshAll).mapRef (by omega) RefSt.waitOver_watched).refreshRef hsel (by omega)).watched m)

theorem refLoss_absent (htype : s.refType n.val = 2) :
    ∃ s', exec (.refLoss t n false) s = .next s' ∧ (s'.ref n.val).loss = false ∧
      (s'.ref n.val).lossEnd = (if (s.ref n.val).loss then some (max s.now t) else (s.ref n.val).lossEnd) := by
  have hwatched := refreshRefs_watched ((s.tick t).mapRef n.val fun r => r.found (max s.now t)) n.val
  rw [ref_mapRef_same] at hwatched
  refine next_of (exec_refLoss_absent htype) ⟨hwatched.loss.trans ?_, hwatched.lossEnd.trans ?_⟩
  · show (RefSt.found (s.ref n.val) _).loss = false
    unfold RefSt.found
    split
    · rfl
    · next h => exact Bool.eq_false_of_not_eq_true h
  · show (RefSt.found (s.ref n.val) _).lossEnd = _
    unfold RefSt.found
    split <;> rfl

end

/-! ### REF_WTR_EXPIRY (R205) -/

/-- A used reference that nothing fails and that waits for nothing; `locked`: whether it is locked out. -/
structure RefClear (n : Nat) (locked : Bool) (s : State) : Prop where
  used : s.refUsed n = true
  cause : s.refCause n = 0
  fail : s.flag (F.TMG_REF_STAT_FAIL n) = false
  wtr : (s.ref n).wtr = none
  lockout : s.flag (F.TMG_REF_STAT_LOCKOUT n) = locked

/-- It shows as available, unless it is locked out. -/
structure RefOpen (n : Nat) (locked : Bool) (s : State) : Prop extends RefClear n locked s where
  run : s.flag (F.TMG_REF_STAT_WTR_RUN n) = false
  avail : s.flag (F.TMG_REF_STAT_AVAIL n) = !locked

theorem RefOpen.available {n : Nat} {locked : Bool} {s : State} (hs : RefOpen n locked s) : s.available n = true := by
  rw [State.available, hs.used, hs.fail, hs.run, ((refCause_eq_zero s n).1 hs.cause).1]
  rfl

section
variable {n : Nat} (hn : n < 16) {locked : Bool} {s u : State}
include hn

/-- Its conditions are read from the same state, and its acquisition has not failed since. -/
theorem cause_clear_of (h : ConditionsKept n s u) (hacq : s.refAcqBad n = false → u.refAcqBad n = false) (hcause : s.refCause n = 0) :
    u.refCause n = 0 := by
  simp only [refCause_eq_zero, State.refHard, Bool.or_eq_false_iff] at hcause ⊢
  obtain ⟨hloop, ⟨⟨hloss, hfreq⟩, hql⟩, hbad⟩ := hcause
  exact ⟨(h.refLoop hn).trans hloop, ⟨⟨(h.refLoss hn).trans hloss, (h.refFreqBad hn).trans hfreq⟩, (h.refQlBad hn).trans hql⟩, hacq hbad⟩

theorem waitOver_cause (hcause : s.refCause n = 0) : (s.mapRef n RefSt.waitOver).refCause n = 0 := by
  have hkept : ConditionsKept n s (s.mapRef n RefSt.waitOver) :=
    ⟨fun _ _ _ => rfl, rfl, rfl, rfl, by rw [ref_mapRef_same]; rfl, by rw [ref_mapRef_same]; rfl⟩
  have hacq : (s.mapRef n RefSt.waitOver).refAcqBad n = s.refAcqBad n := refAcqBad_of (by rw [ref_mapRef_same]; rfl) rfl
  exact cause_clear_of hn hkept (fun hb => hacq.trans hb) hcause

theorem RefsBut.clear (h : RefsBut n s u) (hs : RefClear n locked s) : RefClear n locked u where
  used := ((h.conditions n).refUsed hn).trans hs.used
  cause := cause_clear_of hn (h.conditions n) (fun hb => h.refAcqBad.trans hb) hs.cause
  fail := ((h.kept hn).statFlag 1).trans hs.fail
  wtr := (congrArg RefSt.wtr h.ref).trans hs.wtr
  lockout := ((h.kept hn).statFlag 4).trans hs.lockout

theorem RefsBut.opened (h : RefsBut n s u) (hs : RefOpen n locked s) : RefOpen n locked u where
  toRefClear := h.clear hn hs.toRefClear
  run := ((h.kept hn).statFlag 3).trans hs.run
  avail := ((h.kept hn).statFlag 0).trans hs.avail

theorem refreshRef_opens (hs : RefClear n locked s) : RefOpen n locked (s.refreshRef n) := by
  have hfresh := refreshRef_refreshed hn hs.used
  obtain ⟨hloop, hhard⟩ := (refCause_eq_zero s n).1 hs.cause
  have hmoved : RefsBut 16 s (s.refreshRef n) := (RefsBut.refl 16 s).refreshRef hn (by omega)
  have href : (s.refreshRef n).ref n = { s.ref n with needWtr := false, acqFail := none } := by
    rw [hfresh.ref, RefSt.refreshed, hhard, hs.fail]
    rfl
  have hwtr : ((s.refreshRef n).ref n).wtr = none := by rw [href]; exact hs.wtr
  refine ⟨⟨((hmoved.conditions n).refUsed hn).trans hs.used, cause_clear_of hn (hmoved.conditions n) (fun _ => ?_) hs.cause,
    hfresh.fail.trans hhard, hwtr, hfresh.lockout.trans hs.lockout⟩, ?_, ?_⟩
  · rw [State.refAcqBad, href]
  · rw [hfresh.run, hwtr, Option.isSome_none]
  · rw [hfresh.avail, hhard, hwtr, hloop, hs.lockout]
    simp

theorem LoopMoved.conditions (h : LoopMoved loopReg s u) : ConditionsKept n s u where
  reg a ha _ := h.reg a ha
  line := (congrArg State.line h.beside :)
  now := h.now
  mateQl := (congrArg (fun z => z.tmg.mateQl) h.beside :)
  loss := by rw [(h.refKept hn).ref]
  lossEnd := by rw [(h.refKept hn).ref]

theorem LoopMoved.opened (h : LoopMoved loopReg s u) (hs : RefOpen n locked s) : RefOpen n locked u where
  used := ((h.conditions hn).refUsed hn).trans hs.used
  cause := cause_clear_of hn (h.conditions hn) (fun hb => (refAcqBad_of (by rw [(h.refKept hn).ref]) h.now).trans hb) hs.cause
  fail := ((h.refKept hn).statFlag 1).trans hs.fail
  wtr := (congrArg RefSt.wtr (h.refKept hn).ref).trans hs.wtr
  lockout := ((h.refKept hn).statFlag 4).trans hs.lockout
  run := ((h.refKept hn).statFlag 3).trans hs.run
  avail := ((h.refKept hn).statFlag 0).trans hs.avail

/-- A clear reference stays open through the watch, which may be of itself. -/
theorem watchSelected_opened (hs : RefOpen n locked s) : RefOpen n locked s.watchSelected := by
  have hsel : s.rd F.TMG_STATE_SEL_REF < 16 := bits_lt ..
  rcases watchSelected_cases s with h | h | ⟨h, -⟩
  · rw [h]
    exact hs
  · rw [h]
    exact ((LoopMoved.refl loopReg s).startHold fun _ h => h).opened hn hs
  · rw [h]
    refine (clearHold_moved s).opened hn ?_
    by_cases hn' : s.rd F.TMG_STATE_SEL_REF = n
    · rw [hn']
      exact refreshRef_opens hn ⟨hs.used, waitOver_cause hn hs.cause, hs.fail, by rw [ref_mapRef_same]; rfl, hs.lockout⟩
    · exact (((RefsBut.refl n s).mapRef hn' RefSt.waitOver_watched).refreshRef hsel hn').opened hn hs

theorem refreshRefs_opens (hs : RefClear n locked s) : RefOpen n locked s.refreshRefs := by
  obtain ⟨v, hbefore, hafter⟩ := refreshAll_around s hn
  have hall : RefOpen n locked s.refreshAll := hafter.opened hn (refreshRef_opens hn (hbefore.clear hn hs))
  exact ((LoopMoved.refl loopReg _).showQl fun _ h => h).opened hn (watchSelected_opened hn hall)

end

section
variable {t : Nat} {n : Fin 16} {e : Nat} {s : State}

theorem exec_refWtrExpiry_ends (hwtr : (s.ref n.val).wtr = some e) (hend : e ≤ max s.now t) : exec (.refWtrExpiry t n) s =
    .next ((((s.tick t).mapRef n.val RefSt.waitOver).refreshRefs).raiseIf
      (((s.tick t).mapRef n.val RefSt.waitOver).refreshRefs.available n.val) F.TMG_INT_REF_AVAIL) := by
  have hwtr : ((s.tick t).ref n.val).wtr = some e := hwtr
  show execRefWtrExpiry t n s = _
  simp only [execRefWtrExpiry, hwtr]
  exact if_pos hend

theorem exec_refWtrExpiry_runs (hwtr : (s.ref n.val).wtr = some e) (hend : max s.now t < e) : exec (.refWtrExpiry t n) s = .next (s.tick t) := by
  have hwtr : ((s.tick t).ref n.val).wtr = some e := hwtr
  show execRefWtrExpiry t n s = _
  simp only [execRefWtrExpiry, hwtr]
  exact if_neg (Nat.not_le.2 hend)

theorem exec_refWtrExpiry_none (hwtr : (s.ref n.val).wtr = none) : exec (.refWtrExpiry t n) s = .next (s.tick t).refreshRefs := by
  have hwtr : ((s.tick t).ref n.val).wtr = none := hwtr
  show execRefWtrExpiry t n s = _
  simp only [execRefWtrExpiry, hwtr]

theorem refWtrExpiry_ends (hwtr : (s.ref n.val).wtr = some e) (hend : e ≤ max s.now t) (hu : s.refUsed n.val = true)
    (hcause : (s.tick t).refCause n.val = 0) (hfail : s.flag (F.TMG_REF_STAT_FAIL n.val) = false) :
    ∃ s', exec (.refWtrExpiry t n) s = .next s' ∧ (s'.ref n.val).wtr = none ∧ s'.flag (F.TMG_REF_STAT_WTR_RUN n.val) = false ∧
      s'.flag (F.TMG_REF_STAT_AVAIL n.val) = !s.flag (F.TMG_REF_STAT_LOCKOUT n.val) ∧ s'.flag F.TMG_INT_REF_AVAIL = true := by
  have hclear : RefClear n.val (s.flag (F.TMG_REF_STAT_LOCKOUT n.val)) ((s.tick t).mapRef n.val RefSt.waitOver) :=
    ⟨hu, waitOver_cause n.isLt hcause, hfail, by rw [ref_mapRef_same]; rfl, rfl⟩
  have hopen := refreshRefs_opens n.isLt hclear
  have hraised := ((LoopMoved.refl loopReg _).raise (f := F.TMG_INT_REF_AVAIL) (by decide)).opened n.isLt hopen
  refine next_of (exec_refWtrExpiry_ends hwtr hend) ?_
  rw [State.raiseIf, if_pos hopen.available]
  exact ⟨hraised.wtr, hraised.run, hraised.avail, flag_raise_same _ (by decide) rfl⟩

end

end Sys2Proof.Machine
end

section
/-! Proofs: selection and its timers (O46; R205, R207, R209 to R211). -/
namespace Sys2Proof.Machine

/-! ### SELECTION (R207, R215) -/

section
variable {t : Nat} {s : State}

theorem selection_runs (hdue : s.tmg.selAt + msTicks ≤ max s.now t) :
    let u := ({ s.tick t with tmg := { s.tmg with selAt := max s.now t } } : State).refreshRefs
    exec (.selection t) s = .next (if s.acting then u.select else u.trackMate) := by
  intro u
  have hact : u.acting = s.acting := refreshRefs_acting _
  refine (if_pos hdue).trans (Eq.trans (b := if u.acting then .next u.select else .next u.trackMate) rfl ?_)
  rw [hact]
  split <;> rfl

theorem selection_early (hearly : max s.now t < s.tmg.selAt + msTicks) : exec (.selection t) s = .next (s.tick t) :=
  if_neg (Nat.not_le.2 hearly)

end

/-! ### What a selection result does (R209, R211) -/

/-- Reference `n` is the one in use. -/
def State.inUse (s : State) (n : Nat) : Prop := s.flag F.TMG_STATE_SEL_VALID = true ∧ s.rd F.TMG_STATE_SEL_REF = n

section
variable {s : State} {n : Nat}

theorem inUse_iff : (s.flag F.TMG_STATE_SEL_VALID && some n == some (s.rd F.TMG_STATE_SEL_REF)) = true ↔ s.inUse n := by
  rw [Bool.and_eq_true, beq_iff_eq, Option.some_inj, State.inUse]
  exact and_congr_right fun _ => eq_comm

theorem follow_acquires (h : s.dpll = 0 ∨ s.dpll = 3 ∨ s.dpll = 5 ∨ (s.dpll = 1 ∧ ¬s.inUse n)) : s.follow (some n) = s.acquireRef n := by
  rcases h with h | h | h | ⟨h, huse⟩
  · simp only [State.follow, h]
  · simp only [State.follow, h]
  · simp only [State.follow, h]
  · simp only [State.follow, h]
    exact if_neg (mt inUse_iff.1 huse)

theorem follow_stays (h : s.dpll = 1 ∨ s.dpll = 2) (huse : s.inUse n) : s.follow (some n) = s := by
  rcases h with h | h
  · simp only [State.follow, h]
    exact if_pos (inUse_iff.2 huse)
  · simp only [State.follow, h]
    exact if_pos (inUse_iff.2 huse)

theorem follow_switches (h : s.dpll = 2) (huse : ¬s.inUse n) : s.follow (some n) = s.freeze.aim n := by
  simp only [State.follow, h]
  exact if_neg (mt inUse_iff.1 huse)

theorem follow_held (h : s.dpll = 4) (hhold : s.tmg.hold.isSome = true) (sel : Option Nat) : s.follow sel = s := by
  cases sel with
  | some n =>
    simp only [State.follow, h]
    exact if_pos hhold
  | none =>
    simp only [State.follow, h]
    exact if_pos hhold

theorem follow_sameTarget (h : s.dpll = 4) (hhold : s.tmg.hold = none) (hvalid : s.flag F.TMG_STATE_TGT_VALID = true)
    (htarget : s.rd F.TMG_STATE_TARGET = n) : s.follow (some n) = s := by
  simp only [State.follow, h, hhold]
  exact (if_neg nofun).trans (if_pos ⟨hvalid, htarget⟩)

/-- The switch takes another target (R211). -/
def State.retarget (s : State) (n : Nat) : State :=
  ((s.raiseIf (s.flag F.TMG_STATE_TGT_VALID) F.TMG_INT_RETARGET).aim n).mapTmg fun x =>
    { x with back := s.flag F.TMG_STATE_SEL_VALID && some n == some (s.rd F.TMG_STATE_SEL_REF) }

theorem follow_retargets (h : s.dpll = 4) (hhold : s.tmg.hold = none)
    (htarget : s.flag F.TMG_STATE_TGT_VALID = false ∨ s.rd F.TMG_STATE_TARGET ≠ n) : s.follow (some n) = s.retarget n := by
  simp only [State.follow, h, hhold]
  refine (if_neg nofun).trans (if_neg ?_)
  rintro ⟨hvalid, hsame⟩
  rcases htarget with htarget | htarget
  · exact Bool.noConfusion (htarget.symm.trans hvalid)
  · exact htarget hsame

theorem follow_none (h : s.dpll = 1 ∨ s.dpll = 2 ∨ (s.dpll = 4 ∧ s.tmg.hold = none)) : s.follow none = s.noRef := by
  rcases h with h | h | ⟨h, hhold⟩
  · simp only [State.follow, h]
  · simp only [State.follow, h]
  · simp only [State.follow, h, hhold]
    rfl

theorem follow_none_idle (h : s.dpll = 0 ∨ s.dpll = 3 ∨ s.dpll = 5) : s.follow none = s := by
  rcases h with h | h | h
  · simp only [State.follow, h]
  · simp only [State.follow, h]
  · simp only [State.follow, h]

theorem acquireRef_sets (s : State) (hn : n < 16) : (s.acquireRef n).dpll = 1 ∧ (s.acquireRef n).rd F.TMG_STATE_SEL_REF = n ∧
    (s.acquireRef n).flag F.TMG_STATE_SEL_VALID = true ∧ (s.acquireRef n).tmg.acqAt = s.now := by
  unfold State.acquireRef
  extract_lets built acquired
  have hmoved : LoopMoved loopReg s built := ((LoopMoved.refl _ s).freeBuildOut fun _ h => h).ite (.refl _ s)
  have hnow : acquired.now = s.now :=
    (((((LoopMoved.refl loopReg built).endSwitch fun _ h => h).wr (by decide)).raise (by decide)).setFlag (by decide)).now.trans hmoved.now
  refine ⟨?_, ?_, ?_, hnow⟩
  · rw [State.dpll, State.mapTmg_rd]
    exact enter_dpll _ (by decide)
  · rw [State.mapTmg_rd, enter_rd _ (by decide) (by decide)]
    show (((built.endSwitch.wr F.TMG_STATE_SEL_REF n).raise F.TMG_STATE_SEL_VALID).setFlag F.TMG_STATE_MATE false).rd _ = n
    rw [State.setFlag, State.rd_wr_apart _ _ (by decide), State.raise, State.rd_wr_apart _ _ (by decide), rd_wr_lt _ (by decide) hn]
  · rw [mapTmg_flag, enter_flag _ (by decide) (by decide), flag_setFlag_apart _ (by decide), flag_raise_same _ (by decide) rfl]

theorem aim_rd {f : Fld} (htarget : F.TMG_STATE_TARGET.apart f = true) (hvalid : F.TMG_STATE_TGT_VALID.apart f = true) :
    (s.aim n).rd f = s.rd f := by
  rw [State.aim, State.mapTmg_rd, State.raise, State.rd_wr_apart _ _ hvalid, State.rd_wr_apart _ _ htarget]

theorem aim_sets (s : State) (hn : n < 16) : (s.aim n).rd F.TMG_STATE_TARGET = n ∧ (s.aim n).flag F.TMG_STATE_TGT_VALID = true ∧
    (s.aim n).tmg.verify = some s.now ∧ (s.aim n).tmg.back = false := by
  refine ⟨?_, ?_, rfl, rfl⟩
  · rw [State.aim, State.mapTmg_rd, State.raise, State.rd_wr_apart _ _ (by decide), rd_wr_lt _ (by decide) hn]
  · rw [State.aim, mapTmg_flag, flag_raise_same _ (by decide) rfl]

/-- LOCKED gives way to a switch to `n` (R209, R210). -/
theorem freeze_aim_sets (s : State) (hn : n < 16) : (s.freeze.aim n).dpll = 4 ∧ (s.freeze.aim n).rd F.TMG_STATE_TARGET = n ∧
    (s.freeze.aim n).flag F.TMG_STATE_TGT_VALID = true ∧ (s.freeze.aim n).tmg.verify = some s.now ∧ (s.freeze.aim n).tmg.back = false := by
  obtain ⟨htarget, hvalid, hverify, hback⟩ := aim_sets s.freeze hn
  refine ⟨(aim_rd (by decide) (by decide)).trans (freeze_dpll s), htarget, hvalid, hverify.trans ?_, hback⟩
  rw [((LoopMoved.refl loopReg s).freeze fun _ h => h).now]

theorem retarget_sets (s : State) (hn : n < 16) : (s.retarget n).dpll = s.dpll ∧ (s.retarget n).rd F.TMG_STATE_TARGET = n ∧
    (s.retarget n).flag F.TMG_STATE_TGT_VALID = true ∧ (s.retarget n).tmg.verify = some s.now ∧ ((s.retarget n).tmg.back = true ↔ s.inUse n) ∧
    (s.flag F.TMG_STATE_TGT_VALID = true → (s.retarget n).flag F.TMG_INT_RETARGET = true) := by
  obtain ⟨htarget, hvalid, hverify, -⟩ := aim_sets (s.raiseIf (s.flag F.TMG_STATE_TGT_VALID) F.TMG_INT_RETARGET) hn
  refine ⟨?_, htarget, hvalid, hverify.trans ?_, inUse_iff, fun h => ?_⟩
  · rw [State.dpll, State.retarget, State.mapTmg_rd, aim_rd (by decide) (by decide), raiseIf_rd _ (by decide), State.dpll]
  · rw [State.raiseIf]
    split
    · rw [State.raise, State.wr_now]
    · rfl
  · rw [State.retarget, mapTmg_flag, State.flag, aim_rd (by decide) (by decide), h]
    exact flag_raise_same _ (by decide) rfl

/-- Entering a state of the DPLL writes TMG_STATE and TMG_INT. -/
theorem enter_regKept (s : State) (st : Nat) : RegKept 0x40050018 s (s.enter st) := by
  unfold State.enter
  split
  · rfl
  · rw [State.noteClk, RegKept, State.mapTmg_reg]
    exact ((RegKept.refl _ s).wr (by decide)).raise (by decide)

/-- The frequency that a DPLL without a candidate goes on with. -/
def State.lastOut (s : State) : State := if s.history.2 && s.dpll != 1 && s.dpll != 4 then s.outHist else s

theorem noRef_eq (s : State) : s.noRef =
    ((s.lastOut.endSwitch.setFlag F.TMG_STATE_SEL_VALID false).setFlag F.TMG_STATE_MATE false).enter (if s.history.2 then 3 else 5) := rfl

theorem noRef_sets (s : State) : s.noRef.dpll = (if s.history.2 then 3 else 5) ∧ s.noRef.flag F.TMG_STATE_SEL_VALID = false ∧
    s.noRef.reg 0x40050018 = s.lastOut.reg 0x40050018 := by
  rw [noRef_eq]
  refine ⟨enter_dpll _ (by split <;> decide), ?_, Eq.trans (enter_regKept _ _) ?_⟩
  · rw [enter_flag _ (by decide) (by decide), flag_setFlag_apart _ (by decide), flag_setFlag_same _ (by decide) rfl]
  · have hkept : RegKept 0x40050018 s.lastOut s.lastOut.endSwitch := (RegKept.refl _ s.lastOut).setFlag (by decide)
    exact (hkept.setFlag (by decide)).setFlag (by decide)

/-- In ACQUIRE and SWITCHING the frequency is held as it is (R209). -/
theorem lastOut_held (h : s.dpll = 1 ∨ s.dpll = 4) : s.lastOut = s := by
  rw [State.lastOut]
  rcases h with h | h
  · simp [h]
  · simp [h]

/-- LOCKED goes on with the mean of its history. -/
theorem lastOut_history {f : Int} (hlocked : s.dpll = 2) (hhist : s.history = (some f, true)) : s.lastOut = s.setOut f := by
  rw [State.lastOut, hhist, hlocked]
  show s.outHist = _
  rw [State.outHist, hhist]

end

/-! ### ACQUIRE_TIMEOUT (R205, R209) -/

section
variable {n : Nat} {s : State} (hn : n < 16)
include hn

/-- A reference whose acquisition has failed keeps that for as long as it lasts, and fails for it. -/
theorem refreshRefs_acqFail (hidle : s.dpll = 1) (hacq : s.refAcqBad n = true) :
    (s.refreshRefs.ref n).acqFail = (s.ref n).acqFail ∧
      (s.refUsed n = true → s.refreshRefs.flag (F.TMG_REF_STAT_FAIL n) = true) := by
  obtain ⟨v, hbefore, hafter⟩ := refreshAll_around s hn
  have hused : v.refUsed n = s.refUsed n := (hbefore.conditions n).refUsed hn
  have hhard : v.refHard n = true := by rw [State.refHard, hbefore.refAcqBad, hacq, Bool.or_true]
  have hkept : RefKept n (v.refreshRef n) s.refreshRefs := by
    rw [refreshRefs_idle (by omega) (by omega)]
    exact (hafter.kept hn).trans (showQl_refKept _ hn)
  refine ⟨?_, fun hu => ?_⟩
  · rw [hkept.ref, ← hbefore.ref]
    by_cases hu : v.refUsed n = true
    · rw [(refreshRef_refreshed hn hu).ref, hhard]
      rfl
    · rw [State.refreshRef, if_pos (by simpa using hu)]
      rfl
  · rw [hkept.statFlag, (refreshRef_refreshed hn (hused.trans hu)).fail, hhard]

end

/-- An acquisition of the reference has failed; the failure stands until `e`. -/
def RefSt.acqFailed (e : Nat) (r : RefSt) : RefSt := { r with acqFail := some e }

/-- What a reference that did not lock in time leaves, before selection runs. -/
def State.acqTimedOut (s : State) (n : Nat) : State :=
  let u := s.mapRef n (RefSt.acqFailed (s.now + secTicks * s.rd F.TMG_TIMERS_WTR))
  if u.rd F.TMG_TIMERS_WTR = 0 then u.raise F.TMG_INT_REF_FAIL else u.refreshRefs

theorem acqTimedOut_sets {n : Nat} (hn : n < 16) {s : State} (hidle : s.dpll = 1) :
    ((s.acqTimedOut n).ref n).acqFail = some (s.now + secTicks * s.rd F.TMG_TIMERS_WTR) ∧
      (s.rd F.TMG_TIMERS_WTR = 0 → (s.acqTimedOut n).flag F.TMG_INT_REF_FAIL = true) ∧
      (s.rd F.TMG_TIMERS_WTR ≠ 0 → s.refUsed n = true → (s.acqTimedOut n).flag (F.TMG_REF_STAT_FAIL n) = true) := by
  unfold State.acqTimedOut
  extract_lets u
  have href : (u.ref n).acqFail = some (s.now + secTicks * s.rd F.TMG_TIMERS_WTR) := by rw [ref_mapRef_same]; rfl
  have hwtr : u.rd F.TMG_TIMERS_WTR = s.rd F.TMG_TIMERS_WTR := rfl
  by_cases hzero : s.rd F.TMG_TIMERS_WTR = 0
  · rw [if_pos (hwtr.trans hzero)]
    exact ⟨href, fun _ => flag_raise_same _ (by decide) rfl, fun h => absurd hzero h⟩
  · have hbad : u.refAcqBad n = true := by
      have hlater : s.now < s.now + secTicks * s.rd F.TMG_TIMERS_WTR := Nat.lt_add_of_pos_right (Nat.mul_pos (by decide) (Nat.pos_of_ne_zero hzero))
      rw [State.refAcqBad, href]
      exact decide_eq_true hlater
    obtain ⟨hkept, hfail⟩ := refreshRefs_acqFail hn (s := u) hidle hbad
    rw [if_neg (fun h => hzero (hwtr.symm.trans h))]
    exact ⟨hkept.trans href, fun h => absurd h hzero, fun _ => hfail⟩

section
variable {t n : Nat} {s : State}

theorem exec_acquireTimeout (hact : s.acting = true) (hacquire : s.dpll = 1) (hvalid : s.flag F.TMG_STATE_SEL_VALID = true)
    (hsel : s.rd F.TMG_STATE_SEL_REF = n) (hdue : s.tmg.acqAt + (if s.isPps n then 900 else 60) * secTicks ≤ max s.now t) :
    exec (.acquireTimeout t) s = .next (if ((s.tick t).acqTimedOut n).select.dpll = 1 ∧ ((s.tick t).acqTimedOut n).select.rd F.TMG_STATE_SEL_REF = n
      then ((s.tick t).acqTimedOut n).select.mapTmg fun x => { x with acqAt := ((s.tick t).acqTimedOut n).select.now, inBand := 0 }
      else ((s.tick t).acqTimedOut n).select) := by
  subst hsel
  exact if_pos ⟨hact, hacquire, hvalid, hdue⟩

/-! ### TIMING_HOLDOFF_END (R209, R210) -/

theorem timingHoldoffEnd_ends {e : Nat} (hhold : s.tmg.hold = some e) (hend : e ≤ max s.now t) (hswitching : s.dpll = 4) :
    ∃ u : State, exec (.timingHoldoffEnd t) s = .next (if s.acting then u.select else u.trackMate) ∧ u.tmg.hold = none ∧
      u.flag F.TMG_STATE_SEL_VALID = s.flag F.TMG_STATE_SEL_VALID ∧ u.dpll = 4 := by
  let v := (s.tick t).mapTmg fun x => { x with hold := none }
  have hact : v.refreshRefs.acting = s.acting := refreshRefs_acting v
  have hexec : exec (.timingHoldoffEnd t) s =
      .next (if v.refreshRefs.acting then v.refreshRefs.select else v.refreshRefs.trackMate) := by
    show execTimingHoldoffEnd t s = _
    simp only [execTimingHoldoffEnd, State.tick_tmg, hhold]
    exact if_pos ⟨hswitching, hend⟩
  have hidle : v.refreshRefs = v.refreshAll.showQl :=
    refreshRefs_idle (s := v) (fun h => absurd (h.symm.trans hswitching) (by decide)) fun _ => rfl
  have hall := refreshAll_moved v
  refine ⟨v.refreshRefs, hact ▸ hexec, ?_, ?_, ?_⟩
  · rw [hidle]
    exact hall.hold
  · rw [hidle, showQl_flag _ (by decide), hall.flag (by decide) (.inl (by decide))]
    rfl
  · rw [hidle, showQl_dpll, hall.dpll]
    exact hswitching

end

end Sys2Proof.Machine
end

section
/-! Proofs: a monitor window ends, and the statement on references and selection (O46; R198, R199, R204, R209, R213). -/
namespace Sys2Proof.Machine

/-! ### The measurements of a window (R199, R204) -/

/-- A reference's window ends with the offset `x.2`. -/
def State.takeWindow (s : State) (x : Fin 16 × Int) : State :=
  (s.setReg (0x40050180 + x.1.val * 4) (sat32 x.2)).mapRef x.1.val fun r => { r with winAt := s.now }

/-- The references whose window ends at the next time. -/
def State.endedOf (s : State) (freqs : List (Fin 16 × Int)) : List (Fin 16 × Int) :=
  freqs.filter fun x => s.refUsed x.1.val && (!s.isPps x.1.val || decide ((s.ref x.1.val).winAt + 16 * secTicks ≤ s.now))

/-- A used reference keeps its offset among the last 60. -/
def State.keepFreq (s : State) (n : Nat) : State :=
  s.mapRef n fun r => { r with freqs := ((s.reg (0x40050180 + n * 4)).toInt :: r.freqs).take 60 }

/-- The measurements of the window are taken. -/
def State.takeWindows (s : State) (ended : List (Fin 16 × Int)) : State :=
  let u := ended.foldl State.takeWindow s
  u.usedRefs.foldl State.keepFreq u

/-- Between `s` and `u` only measurements of references change. -/
structure OnlyWindows (s u : State) : Prop where
  reg : ∀ a, (a < 0x40050180 ∨ 0x400501C0 ≤ a) → u.reg a = s.reg a
  beside : u.besideRefs = s.besideRefs

theorem takeWindow_only (s : State) (x : Fin 16 × Int) : OnlyWindows s (s.takeWindow x) where
  reg a ha := (State.reg_setReg ..).trans (if_neg (by omega))
  beside := rfl

theorem foldl_takeWindow_only (l : List (Fin 16 × Int)) (s : State) : OnlyWindows s (l.foldl State.takeWindow s) :=
  List.foldlRecOn (motive := OnlyWindows s) l _ ⟨fun _ _ => rfl, rfl⟩ fun _ hu x _ =>
    ⟨fun a ha => ((takeWindow_only _ x).reg a ha).trans (hu.reg a ha), (takeWindow_only _ x).beside.trans hu.beside⟩

/-- Between `s` and `u` only the last offsets of references change. -/
structure OnlyFreqs (s u : State) : Prop where
  reg : ∀ a, u.reg a = s.reg a
  beside : u.besideRefs = s.besideRefs
  win : ∀ m, (u.ref m).winAt = (s.ref m).winAt

theorem foldl_keepFreq_only (l : List Nat) (s : State) : OnlyFreqs s (l.foldl State.keepFreq s) := by
  refine List.foldlRecOn (motive := OnlyFreqs s) l _ ⟨fun _ => rfl, rfl, fun _ => rfl⟩ fun u hu n _ => ⟨hu.reg, hu.beside, fun m => ?_⟩
  rw [State.keepFreq, ref_mapRef, ← hu.win]
  split
  · next h => rw [h]
  · rfl

theorem takeWindows_only (s : State) (ended : List (Fin 16 × Int)) : OnlyWindows s (s.takeWindows ended) := by
  have htaken := foldl_takeWindow_only ended s
  have hfreqs := foldl_keepFreq_only (ended.foldl State.takeWindow s).usedRefs (ended.foldl State.takeWindow s)
  exact ⟨fun a ha => (hfreqs.reg a).trans (htaken.reg a ha), hfreqs.beside.trans htaken.beside⟩

theorem foldl_takeWindow_other {m : Fin 16} (l : List (Fin 16 × Int)) (s : State) (h : ∀ f, (m, f) ∉ l) :
    (l.foldl State.takeWindow s).reg (0x40050180 + m.val * 4) = s.reg (0x40050180 + m.val * 4) ∧
      (l.foldl State.takeWindow s).ref m.val = s.ref m.val := by
  induction l generalizing s with
  | nil => exact ⟨rfl, rfl⟩
  | cons x l ih =>
    have hne : x.1.val ≠ m.val := fun he => h x.2 (List.mem_cons.2 (.inl (by rw [← Fin.ext he])))
    obtain ⟨hreg, href⟩ := ih (s.takeWindow x) fun f hf => h f (List.mem_cons_of_mem _ hf)
    refine ⟨hreg.trans ?_, href.trans ?_⟩
    · exact (State.reg_setReg ..).trans (if_neg (by omega))
    · rw [State.takeWindow, ref_mapRef, if_neg hne]
      rfl

/-- The one measurement of a reference is what its window leaves. -/
theorem foldl_takeWindow_of {m : Fin 16} {f : Int} (l : List (Fin 16 × Int)) (s : State) (hm : (m, f) ∈ l)
    (hone : ∀ g, (m, g) ∈ l → g = f) : (l.foldl State.takeWindow s).reg (0x40050180 + m.val * 4) = sat32 f ∧
      ((l.foldl State.takeWindow s).ref m.val).winAt = s.now := by
  induction l generalizing s with
  | nil => cases hm
  | cons x l ih =>
    by_cases hlater : (m, f) ∈ l
    · exact ih (s.takeWindow x) hlater fun g hg => hone g (List.mem_cons_of_mem _ hg)
    · obtain rfl : (m, f) = x := (List.mem_cons.1 hm).resolve_right hlater
      obtain ⟨hreg, href⟩ := foldl_takeWindow_other (m := m) l (s.takeWindow (m, f)) fun g hg =>
        hlater (hone g (List.mem_cons_of_mem _ hg) ▸ hg)
      refine ⟨hreg.trans ?_, (congrArg RefSt.winAt href).trans ?_⟩
      · exact (State.reg_setReg ..).trans (if_pos rfl)
      · rw [State.takeWindow, ref_mapRef_same]

theorem takeWindows_of {m : Fin 16} {f : Int} {ended : List (Fin 16 × Int)} (s : State) (hm : (m, f) ∈ ended)
    (hone : ∀ g, (m, g) ∈ ended → g = f) : (s.takeWindows ended).reg (0x40050180 + m.val * 4) = sat32 f ∧
      ((s.takeWindows ended).ref m.val).winAt = s.now := by
  obtain ⟨hreg, hwin⟩ := foldl_takeWindow_of ended s hm hone
  have hfreqs := foldl_keepFreq_only (ended.foldl State.takeWindow s).usedRefs (ended.foldl State.takeWindow s)
  exact ⟨(hfreqs.reg _).trans hreg, (hfreqs.win _).trans hwin⟩

theorem takeWindows_other {m : Fin 16} {ended : List (Fin 16 × Int)} (s : State) (h : ∀ f, (m, f) ∉ ended) :
    (s.takeWindows ended).reg (0x40050180 + m.val * 4) = s.reg (0x40050180 + m.val * 4) :=
  ((foldl_keepFreq_only _ _).reg _).trans (foldl_takeWindow_other ended s h).1

/-! ### What the rest of the event leaves of them -/

/-- The measurements and the history of `s` stand in `u`. -/
structure WindowKept (s u : State) : Prop where
  freq : ∀ a, 0x40050180 ≤ a → a < 0x400501C0 → u.reg a = s.reg a
  ref : ∀ m, (u.ref m).winAt = (s.ref m).winAt
  win : u.tmg.winAt = s.tmg.winAt
  hist : u.tmg.hist = s.tmg.hist

theorem LoopMoved.window {s u : State} (h : LoopMoved loopReg s u) : WindowKept s u where
  freq a hlo hhi := h.reg a (by unfold loopReg; omega)
  ref m := by rw [State.ref, h.refs, State.ref]
  win := (congrArg (fun z => z.tmg.winAt) h.beside :)
  hist := (congrArg (fun z => z.tmg.hist) h.beside :)

theorem RefsBut.window {n : Nat} {s u : State} (h : RefsBut n s u) : WindowKept s u where
  freq a hlo hhi := h.reg a (by omega) (.inr (.inl hlo))
  ref m := (h.watched m).winAt
  win := (congrArg (fun z => z.tmg.winAt) h.beside :)
  hist := (congrArg (fun z => z.tmg.hist) h.beside :)

namespace WindowKept

variable {s u w : State}

theorem refl (s : State) : WindowKept s s := ⟨fun _ _ _ => rfl, fun _ => rfl, rfl, rfl⟩

theorem trans (h : WindowKept s u) (g : WindowKept u w) : WindowKept s w :=
  ⟨fun a hlo hhi => (g.freq a hlo hhi).trans (h.freq a hlo hhi), fun m => (g.ref m).trans (h.ref m), g.win.trans h.win, g.hist.trans h.hist⟩

/-- The timing state and the measured offsets are as they were. -/
theorem of_tmg (hfreq : ∀ a, 0x40050180 ≤ a → a < 0x400501C0 → u.reg a = s.reg a) (htmg : u.tmg = s.tmg) : WindowKept s u :=
  ⟨hfreq, fun m => by rw [State.ref, htmg, State.ref], by rw [htmg], by rw [htmg]⟩

end WindowKept

theorem refreshRefs_window (s : State) : WindowKept s s.refreshRefs := by
  have hall := (refreshAll_moved s).window
  have hsel : s.refreshAll.rd F.TMG_STATE_SEL_REF < 16 := bits_lt ..
  have hwatch : WindowKept s.refreshAll s.refreshAll.watchSelected := by
    rcases watchSelected_cases s.refreshAll with h | h | ⟨h, -⟩
    · rw [h]
      exact .refl _
    · rw [h]
      exact ((LoopMoved.refl loopReg _).startHold fun _ h => h).window
    · rw [h]
      exact (((RefsBut.refl 16 s.refreshAll).mapRef (by omega) RefSt.waitOver_watched).refreshRef hsel (by omega)).window.trans (clearHold_moved _).window
  exact (hall.trans hwatch).trans ((LoopMoved.refl loopReg _).showQl fun _ h => h).window

/-! ### The suspicion tests and the mirror (R206, R239) -/

/-- Every reference is tested for suspicion. -/
def State.suspectTests (s : State) : State := (List.range 16).foldl (State.testSuspect s) s

/-- Only what a suspicion test shows is written. -/
structure SuspectShown (s u : State) : Prop where
  reg : ∀ a, a < 0x40050020 ∨ (0x40050180 ≤ a ∧ a < 0x400501C0) → u.reg a = s.reg a
  tmg : u.tmg = s.tmg

theorem SuspectShown.setReg {s u : State} {a : Nat} {v : W32} (h : SuspectShown s u) (hlo : 0x40050020 ≤ a)
    (hhi : a < 0x40050180 ∨ 0x400501C0 ≤ a) : SuspectShown s (u.setReg a v) where
  reg b hb := by rw [State.reg_setReg, if_neg (by omega), h.reg b hb]
  tmg := h.tmg

theorem testSuspect_shown {s s0 u : State} {n : Nat} (hn : n < 16) (h : SuspectShown s u) : SuspectShown s (State.testSuspect s0 u n) := by
  have hflag : ∀ {v : State} {x : Nat}, SuspectShown s v → SuspectShown s (v.wr (F.TMG_REF_STAT_SUSPECT n) x) := fun hv =>
    hv.setReg (by show _ ≤ 0x40050140 + n * 0x4; omega) (.inl (by show 0x40050140 + n * 0x4 < _; omega))
  have hdrift : ∀ {v : State} {x : W32}, SuspectShown s v → SuspectShown s (v.setReg (0x400501C0 + n * 4) x) := fun hv =>
    hv.setReg (by omega) (.inr (by omega))
  have hint : ∀ {v : State} {c : Bool}, SuspectShown s v → SuspectShown s (v.raiseIf c F.TMG_INT_SUSPECT) := fun hv => by
    unfold State.raiseIf
    split
    · exact hv.setReg (by decide) (.inl (by decide))
    · exact hv
  unfold State.testSuspect
  dsimp only
  split
  · exact hdrift (hflag h)
  · split
    · exact hdrift h
    · split
      · exact hflag (hint (hdrift h))
      · split
        · exact hflag (hdrift h)
        · exact hdrift h

theorem suspectTests_shown (s : State) : SuspectShown s s.suspectTests :=
  List.foldlRecOn (motive := SuspectShown s) _ _ ⟨fun _ _ => rfl, rfl⟩ fun _ hu _ hm => testSuspect_shown (List.mem_range.1 hm) hu

theorem mirror_tmg (s : State) (b : MateBody) : (s.mirror b).tmg = s.tmg := by
  obtain ⟨r, m, h⟩ := (mirror_onlyMirror s b).rest
  rw [h]

/-- The registers of the timing block are not the mate link's. -/
theorem mirror_regKept (s : State) (b : MateBody) {a : Nat} (hlo : 0x40050000 ≤ a) (hhi : a < 0x40060000) : RegKept a s (s.mirror b) := by
  have hseq : F.PAIR_SEQ_SEQ.addr ≠ a := by show 0x40060024 ≠ a; omega
  have hmate : ∀ f, RegKept a s (s.mapMate f) := fun _ => rfl
  exact ((RegKept.refl a s).ite (((hmate _).wr hseq).count (.inr hlo) |>.ite (hmate _))).ite (.refl a s)

/-! ### The end of an acquisition (R209) -/

/-- The difference between what the DPLL acquires and its output. -/
def State.acqErr (s : State) (out mate : Int) : Nat :=
  if s.flag F.TMG_STATE_MATE then (mate - out).natAbs else ((s.reg (0x40050180 + s.rd F.TMG_STATE_SEL_REF * 4)).toInt - out).natAbs

/-- The window of what the DPLL acquires ends. -/
def State.acqEnded (s : State) (ended : List (Fin 16 × Int)) : Bool :=
  s.flag F.TMG_STATE_MATE || ended.any fun x => decide (x.1.val = s.rd F.TMG_STATE_SEL_REF)

/-- The windows in a row within 10 ppb. -/
def inBandAfter (err was : Nat) : Nat := if err ≤ 1000 then was + 1 else 0

/-- An acquiring DPLL counts the windows within 10 ppb; the second one in a row locks it. -/
def State.pullIn (s : State) (err : Nat) (mine : Bool) : State :=
  if s.dpll = 1 ∧ mine = true then
    let u := s.mapTmg fun x => { x with inBand := inBandAfter err s.tmg.inBand }
    if 2 ≤ inBandAfter err s.tmg.inBand then u.enter 2 else u
  else s

theorem pullIn_moved (s : State) (err : Nat) (mine : Bool) : LoopMoved loopReg s (s.pullIn err mine) := by
  unfold State.pullIn
  extract_lets u
  have hu : LoopMoved loopReg s u := (LoopMoved.refl _ s).mapTmg rfl
  exact ((hu.enter fun _ h => h).ite hu).ite (.refl _ s)

theorem pullIn_sets {s : State} {err : Nat} (h : s.dpll = 1) : (s.pullIn err true).tmg.inBand = inBandAfter err s.tmg.inBand ∧
    (s.pullIn err true).dpll = if err ≤ 1000 ∧ 1 ≤ s.tmg.inBand then 2 else 1 := by
  have hcount : 2 ≤ inBandAfter err s.tmg.inBand ↔ err ≤ 1000 ∧ 1 ≤ s.tmg.inBand := by unfold inBandAfter; split <;> omega
  rw [State.pullIn, if_pos ⟨h, rfl⟩]
  extract_lets u
  by_cases hlocks : 2 ≤ inBandAfter err s.tmg.inBand
  · obtain ⟨a, b, he⟩ := enter_tmg u 2
    rw [if_pos hlocks, if_pos (hcount.1 hlocks), he]
    exact ⟨rfl, enter_dpll u (by decide)⟩
  · rw [if_neg hlocks, if_neg (mt hcount.2 hlocks)]
    exact ⟨rfl, h⟩

/-- What an acquisition goes by: TMG_STATE but TX_QL, and the windows within 10 ppb so far. -/
structure AcqKept (s u : State) : Prop where
  rd : ∀ f : Fld, f.addr = 0x40050010 → F.TMG_STATE_TX_QL.apart f = true → u.rd f = s.rd f
  inBand : u.tmg.inBand = s.tmg.inBand

namespace AcqKept

variable {s u w : State}

theorem refl (s : State) : AcqKept s s := ⟨fun _ _ _ => rfl, rfl⟩

theorem trans (h : AcqKept s u) (g : AcqKept u w) : AcqKept s w :=
  ⟨fun f ha hf => (g.rd f ha hf).trans (h.rd f ha hf), g.inBand.trans h.inBand⟩

theorem of_reg (hreg : u.reg 0x40050010 = s.reg 0x40050010) (h : u.tmg.inBand = s.tmg.inBand) : AcqKept s u :=
  ⟨fun f ha _ => by rw [State.rd, ha, hreg, State.rd, ha], h⟩

theorem showQl (s : State) : AcqKept s s.showQl := ⟨fun _ _ hf => showQl_rd s hf, rfl⟩

section
variable (h : AcqKept s u)
include h

theorem dpll : u.dpll = s.dpll := h.rd _ rfl (by decide)

theorem mate : u.flag F.TMG_STATE_MATE = s.flag F.TMG_STATE_MATE := congrArg (· == 1) (h.rd _ rfl (by decide))

theorem sel : u.rd F.TMG_STATE_SEL_REF = s.rd F.TMG_STATE_SEL_REF := h.rd _ rfl (by decide)

end
end AcqKept

/-- TMG_OUTFREQ and TMG_HIST follow the window that has ended. -/
def State.showWindow (s : State) (out : Int) : State := (if s.dpll = 1 ∨ s.dpll = 2 then s.setOut out else s).showHist

theorem showWindow_moved (s : State) (out : Int) : LoopMoved loopReg s (s.showWindow out) := by
  have hout : LoopMoved loopReg s (if s.dpll = 1 ∨ s.dpll = 2 then s.setOut out else s) :=
    ((LoopMoved.refl _ s).setOut fun _ h => h).ite (.refl _ s)
  exact (hout.wr (by decide)).wr (by decide)

theorem showWindow_acq (s : State) (out : Int) : AcqKept s (s.showWindow out) := by
  have hout : AcqKept s (if s.dpll = 1 ∨ s.dpll = 2 then s.setOut out else s) := by
    split
    · exact .of_reg (((RegKept.refl 0x40050010 s).wr (by decide)).wr (by decide)) rfl
    · exact .refl s
  exact hout.trans (.of_reg (((RegKept.refl 0x40050010 _).wr (by decide)).wr (by decide)) rfl)

theorem refreshRefs_acq {s : State} (h : s.dpll = 1) : AcqKept s s.refreshRefs := by
  have hall := refreshAll_moved s
  rw [refreshRefs_idle (by omega) (by omega)]
  exact AcqKept.trans (.of_reg (hall.reg _ (by decide) (.inl (by decide))) (congrArg (fun z => z.tmg.inBand) hall.beside :)) (.showQl _)

/-- All that follows from the measurements of the window, but for the mirror. -/
def State.judged (s : State) (out : Int) : State := (s.showWindow out).refreshRefs.suspectTests

theorem judged_window (s : State) (out : Int) : WindowKept s (s.judged out) := by
  have hshown := suspectTests_shown (s.showWindow out).refreshRefs
  exact ((showWindow_moved s out).window.trans (refreshRefs_window _)).trans (.of_tmg (fun a hlo hhi => hshown.reg a (.inr ⟨hlo, hhi⟩)) hshown.tmg)

theorem judged_acq {s : State} (h : s.dpll = 1) (out : Int) : AcqKept s (s.judged out) := by
  have hwindow := showWindow_acq s out
  have hshown := suspectTests_shown (s.showWindow out).refreshRefs
  exact (hwindow.trans (refreshRefs_acq (hwindow.dpll.trans h))).trans
    (.of_reg (hshown.reg _ (.inl (by decide))) (congrArg TmgSt.inBand hshown.tmg))

/-- The state that the event leaves, but for the mirror. -/
def State.windowed (s : State) (ended : List (Fin 16 × Int)) (out mate : Int) : State :=
  let u := s.judged out
  (u.pullIn (u.acqErr out mate) (u.acqEnded ended)).showQl

/-- The window is kept in the history: with its offset where it was LOCKED (R213). -/
def State.keepWindow (s : State) (out : Int) : State :=
  s.mapTmg fun x => { x with winAt := s.now, hist := ((if decide (s.dpll = 2) then some out else none) :: x.hist).take 908 }

theorem windowed_kept (s : State) (ended : List (Fin 16 × Int)) (out mate : Int) : WindowKept s (s.windowed ended out mate) :=
  (judged_window s out).trans ((pullIn_moved ..).showQl fun _ h => h).window

theorem acqErr_of {s u : State} (h : AcqKept s u) (hfreq : WindowKept s u) (out mate : Int) : u.acqErr out mate = s.acqErr out mate := by
  have hsel : s.rd F.TMG_STATE_SEL_REF < 16 := bits_lt ..
  rw [State.acqErr, h.mate, h.sel, hfreq.freq _ (by omega) (by omega), State.acqErr]

theorem windowed_acq {s : State} {ended : List (Fin 16 × Int)} {out mate : Int} (h : s.dpll = 1) (hended : s.acqEnded ended = true) :
    (s.windowed ended out mate).tmg.inBand = inBandAfter (s.acqErr out mate) s.tmg.inBand ∧
      (s.windowed ended out mate).dpll = if s.acqErr out mate ≤ 1000 ∧ 1 ≤ s.tmg.inBand then 2 else 1 := by
  have hacq := judged_acq h out
  have hjudged : (s.judged out).acqEnded ended = true := by rw [State.acqEnded, hacq.mate, hacq.sel, ← State.acqEnded, hended]
  obtain ⟨hcount, hdpll⟩ := pullIn_sets (err := s.acqErr out mate) (hacq.dpll.trans h)
  rw [hacq.inBand] at hcount hdpll
  rw [State.windowed, acqErr_of hacq (judged_window s out), hjudged]
  exact ⟨hcount, (showQl_dpll _).trans hdpll⟩

theorem keepWindow_acq (s : State) (out : Int) : AcqKept s (s.keepWindow out) := .of_reg rfl rfl

theorem OnlyWindows.acq {s u : State} (h : OnlyWindows s u) : AcqKept s u :=
  .of_reg (h.reg _ (.inl (by decide))) (congrArg (fun z => z.tmg.inBand) h.beside :)

theorem mirror_acq (s : State) (b : MateBody) : AcqKept s (s.mirror b) :=
  .of_reg (mirror_regKept s b (by decide) (by decide)) (congrArg TmgSt.inBand (mirror_tmg s b))

theorem mirror_window (s : State) (b : MateBody) : WindowKept s (s.mirror b) :=
  .of_tmg (fun _ hlo hhi => mirror_regKept s b (by omega) (by omega)) (mirror_tmg s b)

/-! ### MONITOR_WINDOW_END -/

/-- What a window end leaves before the mirror, with the measurements `ended`. -/
def State.windowEnd (s : State) (ended : List (Fin 16 × Int)) (out mate : Int) : State :=
  ((s.takeWindows ended).keepWindow out).windowed ended out mate

section
variable {s : State} {ended : List (Fin 16 × Int)} {out mate : Int}

/-- The measurements that a window end takes stand after it. -/
theorem windowEnd_kept (s : State) (ended : List (Fin 16 × Int)) (out mate : Int) (b : MateBody) :
    WindowKept ((s.takeWindows ended).keepWindow out) ((s.windowEnd ended out mate).mirror b) :=
  (windowed_kept _ ended out mate).trans (mirror_window _ b)

theorem windowEnd_shows (s : State) (ended : List (Fin 16 × Int)) (out mate : Int) (b : MateBody) :
    ((s.windowEnd ended out mate).mirror b).tmg.winAt = s.now ∧
      ((s.windowEnd ended out mate).mirror b).tmg.hist = ((if s.dpll = 2 then some out else none) :: s.tmg.hist).take 908 := by
  have hkept := windowEnd_kept s ended out mate b
  have honly := takeWindows_only s ended
  have hdpll : (s.takeWindows ended).dpll = s.dpll := honly.acq.dpll
  have hhist : (s.takeWindows ended).tmg.hist = s.tmg.hist := (congrArg (fun z => z.tmg.hist) honly.beside :)
  refine ⟨hkept.win.trans (congrArg State.now honly.beside :), hkept.hist.trans ?_⟩
  rw [← hdpll, ← hhist]
  simp only [State.keepWindow, State.mapTmg_tmg, decide_eq_true_eq]

theorem windowEnd_takes {m : Fin 16} {f : Int} (hm : (m, f) ∈ ended) (hone : ∀ g, (m, g) ∈ ended → g = f) (b : MateBody) :
    ((s.windowEnd ended out mate).mirror b).reg (0x40050180 + m.val * 4) = sat32 f ∧
      (((s.windowEnd ended out mate).mirror b).ref m.val).winAt = s.now := by
  have hkept := windowEnd_kept s ended out mate b
  obtain ⟨hreg, hwin⟩ := takeWindows_of s hm hone
  exact ⟨(hkept.freq _ (by omega) (by omega)).trans hreg, (hkept.ref _).trans hwin⟩

theorem windowEnd_other {m : Fin 16} (h : ∀ f, (m, f) ∉ ended) (b : MateBody) :
    ((s.windowEnd ended out mate).mirror b).reg (0x40050180 + m.val * 4) = s.reg (0x40050180 + m.val * 4) :=
  ((windowEnd_kept s ended out mate b).freq _ (by omega) (by omega)).trans (takeWindows_other s h)

/-- A window end while the DPLL acquires, `err` being what it goes by. -/
theorem windowEnd_acquires {err : Nat} (h : s.dpll = 1) (hended : s.acqEnded ended = true)
    (herr : ((s.takeWindows ended).keepWindow out).acqErr out mate = err) (b : MateBody) :
    ((s.windowEnd ended out mate).mirror b).dpll = (if err ≤ 1000 ∧ 1 ≤ s.tmg.inBand then 2 else 1) ∧
      ((s.windowEnd ended out mate).mirror b).tmg.inBand = inBandAfter err s.tmg.inBand := by
  have hacq : AcqKept s ((s.takeWindows ended).keepWindow out) := (takeWindows_only s ended).acq.trans (keepWindow_acq _ out)
  have hmine : ((s.takeWindows ended).keepWindow out).acqEnded ended = true := by
    rw [State.acqEnded, hacq.mate, hacq.sel, ← State.acqEnded, hended]
  obtain ⟨hcount, hdpll⟩ := windowed_acq (mate := mate) (out := out) (hacq.dpll.trans h) hmine
  rw [herr, hacq.inBand] at hcount hdpll
  exact ⟨(mirror_acq _ b).dpll.trans hdpll, (mirror_acq _ b).inBand.trans hcount⟩

theorem windowEnd_acquiresRef {n : Fin 16} {f : Int} (h : s.dpll = 1) (hmate : s.flag F.TMG_STATE_MATE = false)
    (hsel : s.rd F.TMG_STATE_SEL_REF = n.val) (hn : (n, f) ∈ ended) (hone : ∀ g, (n, g) ∈ ended → g = f) (b : MateBody) :
    ((s.windowEnd ended out mate).mirror b).dpll = (if ((sat32 f).toInt - out).natAbs ≤ 1000 ∧ 1 ≤ s.tmg.inBand then 2 else 1) ∧
      ((s.windowEnd ended out mate).mirror b).tmg.inBand = if ((sat32 f).toInt - out).natAbs ≤ 1000 then s.tmg.inBand + 1 else 0 := by
  have hacq : AcqKept s ((s.takeWindows ended).keepWindow out) := (takeWindows_only s ended).acq.trans (keepWindow_acq _ out)
  have hreg : ((s.takeWindows ended).keepWindow out).reg (0x40050180 + n.val * 4) = sat32 f := (takeWindows_of s hn hone).1
  refine windowEnd_acquires h ?_ ?_ b
  · rw [State.acqEnded, hmate, Bool.false_or]
    exact List.any_eq_true.2 ⟨(n, f), hn, decide_eq_true hsel.symm⟩
  · rw [State.acqErr, hacq.mate, hmate, hacq.sel, hsel, hreg]
    rfl

theorem windowEnd_acquiresMate (h : s.dpll = 1) (hmate : s.flag F.TMG_STATE_MATE = true) (b : MateBody) :
    ((s.windowEnd ended out mate).mirror b).dpll = if (mate - out).natAbs ≤ 1000 ∧ 1 ≤ s.tmg.inBand then 2 else 1 := by
  have hacq : AcqKept s ((s.takeWindows ended).keepWindow out) := (takeWindows_only s ended).acq.trans (keepWindow_acq _ out)
  refine (windowEnd_acquires h ?_ ?_ b).1
  · rw [State.acqEnded, hmate, Bool.true_or]
  · rw [State.acqErr, hacq.mate, hmate, if_pos rfl]

end

section
variable {t : Nat} {freqs : List (Fin 16 × Int)} {out mate : Int} {s : State}

theorem exec_monitorWindowEnd (hdue : s.tmg.winAt + secTicks ≤ max s.now t) :
    ∃ b, exec (.monitorWindowEnd t freqs out mate) s = .next (((s.tick t).windowEnd ((s.tick t).endedOf freqs) out mate).mirror b) :=
  ⟨_, if_pos hdue⟩

theorem monitorWindowEnd_early (hearly : max s.now t < s.tmg.winAt + secTicks) :
    exec (.monitorWindowEnd t freqs out mate) s = .next (s.tick t) := if_neg (Nat.not_le.2 hearly)

end

/-- Settles O46: a reference's turn among the sixteen sets its status from its conditions, and the watch of the selected one and the
steps of the DPLL leave alone what the clauses speak of. -/
theorem referencesAndSelection : Obligations.ReferencesAndSelection := by
  unfold Obligations.ReferencesAndSelection
  refine ⟨fun t n freqs out mate e s => ⟨fun htype => ⟨refLoss_present htype, refLoss_absent htype⟩, exec_refLoss_other, fun hdue => ?_,
    monitorWindowEnd_early, refWtrExpiry_ends, exec_refWtrExpiry_runs, exec_refWtrExpiry_none⟩, fun t n s hn =>
    ⟨selection_runs, selection_early, ⟨?_, ?_, ?_, ?_, ?_, ?_, ?_, follow_none_idle⟩, ?_, fun e => timingHoldoffEnd_ends⟩⟩
  · intro ended
    have hended : ended = (s.tick t).endedOf freqs := rfl
    clear_value ended
    obtain ⟨b, hexec⟩ := exec_monitorWindowEnd (freqs := freqs) (out := out) (mate := mate) hdue
    rw [← hended] at hexec
    obtain ⟨hwin, hhist⟩ := windowEnd_shows (s.tick t) ended out mate b
    refine next_of hexec ⟨hwin, hhist, fun m f hm hone => windowEnd_takes hm hone b, fun m hm => windowEnd_other hm b,
      fun f h hmate hsel hn hone => ?_, fun h hmate => ?_⟩
    · exact windowEnd_acquiresRef (s := s.tick t) h hmate hsel hn hone b
    · exact windowEnd_acquiresMate (s := s.tick t) h hmate b
  · intro h
    rw [follow_acquires h]
    exact acquireRef_sets s hn
  · exact follow_stays
  · intro h huse
    rw [follow_switches h huse]
    exact freeze_aim_sets s hn
  · exact fun h hhold => ⟨follow_held h hhold _, follow_held h hhold _⟩
  · exact follow_sameTarget
  · intro h hhold htarget
    rw [follow_retargets h hhold htarget]
    obtain ⟨hdpll, hrest⟩ := retarget_sets s hn
    exact ⟨hdpll.trans h, hrest⟩
  · intro h
    obtain ⟨hdpll, hvalid, hreg⟩ := noRef_sets s
    rw [follow_none h]
    refine ⟨hdpll, hvalid, fun hlocked => hreg.trans ?_, fun f hlocked hhist => hreg.trans ?_⟩
    · rw [lastOut_held (h.imp_right fun h => (h.resolve_left hlocked).1)]
    · rw [lastOut_history hlocked hhist]
  · intro hact hacquire hvalid hsel hdue
    exact ⟨_, exec_acquireTimeout hact hacquire hvalid hsel hdue, acqTimedOut_sets hn hacquire⟩

end Sys2Proof.Machine
end

section
/-! Proofs: what replies to the host and resets of masters leave alone (R259, R260, R294). -/
namespace Sys2Proof.Machine

/-- From `s` to `u` only what faces the host changes: mailboxes, scratchpad and semaphores, what was sent, and registers of other blocks
than those from TMG to SEL. -/
structure HostKept (s u : State) : Prop where
  reg : ∀ a, 0x40050000 ≤ a → a < 0x400A0000 → u.reg a = s.reg a
  rest : ∃ r x y o, u = { s with regs := r, mbx := x, mtx := y, out := o }

namespace HostKept

variable {s u w : State}

theorem refl (s : State) : HostKept s s := ⟨fun _ _ _ => rfl, s.regs, s.mbx, s.mtx, s.out, rfl⟩

theorem trans (h : HostKept s u) (g : HostKept u w) : HostKept s w := by
  refine ⟨fun a hlo hhi => (g.reg a hlo hhi).trans (h.reg a hlo hhi), ?_⟩
  obtain ⟨r, x, y, o, rfl⟩ := h.rest
  obtain ⟨r', x', y', o', rfl⟩ := g.rest
  exact ⟨r', x', y', o', rfl⟩

theorem ite {c : Prop} [Decidable c] (h : HostKept s u) (g : HostKept s w) : HostKept s (if c then u else w) := by
  split <;> assumption

theorem foldl {α : Type} {f : State → α → State} {l : List α} (h : HostKept s u)
    (hf : ∀ v, ∀ x ∈ l, HostKept s v → HostKept s (f v x)) :
    HostKept s (l.foldl f u) :=
  List.foldlRecOn (motive := HostKept s) l f h fun v hv x hx => hf v x hx hv

section
variable (h : HostKept s u)
include h

theorem rd {f : Fld} (hlo : 0x40050000 ≤ f.addr) (hhi : f.addr < 0x400A0000) : u.rd f = s.rd f := by
  rw [State.rd, State.rd, h.reg _ hlo hhi]

theorem flag {f : Fld} (hlo : 0x40050000 ≤ f.addr) (hhi : f.addr < 0x400A0000) : u.flag f = s.flag f := by
  rw [State.flag, State.flag, h.rd hlo hhi]

theorem acting : u.acting = s.acting := h.flag (by decide) (by decide)

theorem mode : u.mode = s.mode := h.rd (by decide) (by decide)

theorem mateUp : u.mateUp = s.mateUp := h.flag (by decide) (by decide)

theorem fn : u.fn = s.fn := congrArg (BitVec.ofNat 16) (h.rd (by decide) (by decide))

theorem pair : u.pair = s.pair := by
  obtain ⟨r, x, y, o, rfl⟩ := h.rest
  rfl

theorem mate : u.mate = s.mate := by
  obtain ⟨r, x, y, o, rfl⟩ := h.rest
  rfl

theorem map : u.map = s.map := by
  obtain ⟨r, x, y, o, rfl⟩ := h.rest
  rfl

theorem sel : u.sel = s.sel := by
  obtain ⟨r, x, y, o, rfl⟩ := h.rest
  rfl

theorem tmg : u.tmg = s.tmg := by
  obtain ⟨r, x, y, o, rfl⟩ := h.rest
  rfl

theorem setMbx {x : Mbx} : HostKept s { u with mbx := x } := h.trans ⟨fun _ _ _ => rfl, u.regs, x, u.mtx, u.out, rfl⟩

theorem setMtx {y : Mtx} : HostKept s { u with mtx := y } := h.trans ⟨fun _ _ _ => rfl, u.regs, u.mbx, y, u.out, rfl⟩

theorem emit {o : Out} : HostKept s (u.emit o) := h.trans ⟨fun _ _ _ => rfl, u.regs, u.mbx, u.mtx, _, rfl⟩

theorem setReg {a : Nat} {v : W32} (ha : a < 0x40050000 ∨ 0x400A0000 ≤ a) : HostKept s (u.setReg a v) :=
  h.trans ⟨fun b hlo hhi => by rw [State.reg_setReg, if_neg (by omega)], _, u.mbx, u.mtx, u.out, rfl⟩

theorem wr {f : Fld} {v : Nat} (hf : f.addr < 0x40050000 ∨ 0x400A0000 ≤ f.addr) : HostKept s (u.wr f v) := h.setReg hf

theorem setFlag {f : Fld} {b : Bool} (hf : f.addr < 0x40050000 ∨ 0x400A0000 ≤ f.addr) : HostKept s (u.setFlag f b) := h.wr hf

theorem setBitAt {f : Fld} {n : Nat} {b : Bool} (hf : f.addr < 0x40050000 ∨ 0x400A0000 ≤ f.addr) : HostKept s (u.setBitAt f n b) :=
  h.wr (f := { addr := f.addr, lo := f.lo + n, w := 1 }) hf

/-! ### Replies (R259, R260) -/

theorem notifyHost {ch : Nat} : HostKept s (u.notifyHost ch) := h.ite (h.setMbx.ite h.emit)

theorem busError {m addr cause : Nat} {write : Bool} (hm : 4 < m) : HostKept s (u.busError m addr write cause) := by
  have hmtx : ∀ {f : Fld}, f.addr < 0x40050000 → f.addr < 0x40050000 ∨ 0x400A0000 ≤ f.addr := .inl
  rw [State.busError, State.tellMaster, if_neg (by omega), if_neg (by omega)]
  exact (h.wr (hmtx (by decide))).ite ((((((h.wr (hmtx (by decide))).wr (hmtx (by decide))).wr (hmtx (by decide))).wr (hmtx (by decide))).wr
    (hmtx (by decide))).wr (hmtx (by decide)))

/-- A write of an engine, whether it succeeds or fails. -/
theorem devWrite {m : Nat} {a : W64} {bs : List W8} {ok : Bool} (hm : 4 < m) :
    (∀ v, u.devWrite m a bs ok = .ok v → HostKept s v) ∧ (∀ v, u.devWrite m a bs ok = .error v → HostKept s v) := by
  have herr : HostKept s (u.engineError m a true) := h.busError hm
  rw [State.devWrite]
  split_ifs
  · exact ⟨fun v hv => by cases hv; exact h.setMtx.setMtx, fun v hv => by cases hv⟩
  · exact ⟨fun v hv => by (cases hv), fun v hv => by cases hv; exact herr⟩
  · exact ⟨fun v hv => by cases hv; exact h.emit, fun v hv => by cases hv⟩
  · exact ⟨fun v hv => by (cases hv), fun v hv => by cases hv; exact h⟩

theorem postNotice {ch len tag : Nat} {a : W64} (hch : ch < 2) : HostKept s (u.postNotice ch a len tag) := by
  have haddr : ∀ o, o < 0x100 → 0x40010300 + o + ch * 0x10 < 0x40050000 ∨ 0x400A0000 ≤ 0x40010300 + o + ch * 0x10 := fun o ho => by omega
  have htagged := (((h.wr (f := F.D2H_NOTICE_ADDR_LO_ADDR_LO ch) (v := bits a.toNat 0 32) (haddr 0 (by decide))).wr
    (f := F.D2H_NOTICE_ADDR_HI_ADDR_HI ch) (v := bits a.toNat 32 32) (haddr 4 (by decide))).wr (f := F.D2H_NOTICE_LEN_LEN ch) (v := len)
    (haddr 8 (by decide))).wr (f := F.D2H_NOTICE_TAG_TAG ch) (v := tag) (haddr 12 (by decide))
  exact htagged.ite (htagged.setBitAt (f := F.D2H_DB_DB) (.inl (by decide))).setMbx.notifyHost

theorem sendReply {k : Taken} {st : Status} {final ok : Bool} {ws : List W32} : HostKept s (u.sendReply k st final ws ok) := by
  have hnum : (k.src = .spi → False) → k.src.num < 2 := by cases k.src <;> simp [Src.num]
  unfold State.sendReply
  split
  · exact h.setMbx
  · next hsrc =>
    have hr := hnum hsrc
    extract_lets r pi slot w
    obtain ⟨hok, herr⟩ := h.devWrite (a := slot pi) (bs := wordsBytes w) (ok := ok) (by decide : 4 < 5)
    refine (h.wr (.inl (by decide))).ite ?_
    split
    next v hv =>
      exact ((herr v hv).wr (f := F.MBX_RPL_DISCARD_COUNT) (.inl (by decide))).wr (f := { addr := 0x4001002C, lo := 5 + r, w := 1 })
        (.inl (by decide : 0x4001002C < 0x40050000))
    next v hv => exact ((hok v hv).wr (f := F.RPL_PI_PI r) (.inl (show 0x40010058 + r * 0x20 < _ by omega))).postNotice hr

theorem finish {i : Nat} {k : Taken} {st : Status} {ws : List W32} {ok : Bool} : HostKept s (u.finish i k st ws ok) := by
  have hsent : HostKept s ((u.sendReply k st true ws ok).retake i none) := h.sendReply.setMbx
  have hfull : ∀ r, HostKept s (State.unstall ((u.sendReply k st true ws ok).retake i none) r) := fun r =>
    (hsent.setFlag (.inl (by decide : 0x40010004 < 0x40050000))).ite hsent
  unfold State.finish
  split
  · exact hsent
  · exact hfull _

theorem outcome {i : Nat} {k : Taken} {st : Status} {ws : List W32} {ok : Bool} : HostKept s (u.outcome i k st ws ok) :=
  h.finish.ite h.setMbx

theorem complete {o : Opc} {st : Status} {ws : List W32} {ok : Bool} : HostKept s (u.complete o st ws ok) := by
  unfold State.complete
  split
  · exact h
  · exact h.outcome

theorem completeWhere {o : Opc} {p : List W32 → Bool} {st : Status} {ws : List W32} {ok : Bool} :
    HostKept s (u.completeWhere o p st ws ok) := by
  unfold State.completeWhere
  split
  · exact h
  · split
    · exact h
    · exact h.outcome

/-! ### Resets of masters (R294) -/

theorem giveBank {b next : Nat} (hb : b < 16) : HostKept s (u.giveBank b next) := by
  have hown : 0x40020100 + b * 0x4 < 0x40050000 ∨ 0x400A0000 ≤ 0x40020100 + b * 0x4 := by omega
  have hhanded := h.setMtx (y := { u.mtx with hand := Store.put (fun _ => none) u.mtx.hand b none })
  exact (((hhanded.wr (f := F.SCR_OWN_OWNER b) hown).wr (f := F.SCR_OWN_GEN b) hown).setFlag (f := F.SCR_OWN_RECLAIMED b) hown).wr
    (.inl (by decide))

theorem reclaimBank {m b : Nat} (hb : b < 16) : HostKept s (State.reclaimBank m u b) := by
  have hown : 0x40020100 + b * 0x4 < 0x40050000 ∨ 0x400A0000 ≤ 0x40020100 + b * 0x4 := by omega
  unfold State.reclaimBank
  split
  · exact (h.giveBank hb).ite h
  · exact (((h.wr (f := F.SCR_OWN_OWNER b) hown).wr (f := F.SCR_OWN_RECLAIMED b) hown).wr (.inl (by decide))).ite h

theorem reclaimSem {m n : Nat} : HostKept s (State.reclaimSem m u n) := by
  have hheld := h.setMtx (y := { u.mtx with sem := Store.put (fun _ => none) u.mtx.sem n (some 1) })
  have hholder : HostKept s (u.setHolder n (some 1)) := (hheld.setReg (.inr (by omega))).setBitAt (.inr (by decide))
  exact ((hholder.setBitAt (.inr (by decide))).wr (.inl (by decide))).ite h

theorem resetMaster {m : Nat} : HostKept s (u.resetMaster m) :=
  (h.setMbx.foldl fun _ _ hb hv => hv.reclaimBank (List.mem_range.1 hb)).foldl fun _ _ _ hv => hv.reclaimSem

end
end HostKept

end Sys2Proof.Machine
end

section
/-! Proofs: what the refresh of PAIR and the records sent to the mate leave alone (R222, R229 to R233). -/
namespace Sys2Proof.Machine

/-! ### The refresh of PAIR -/

theorem refreshPair_rest (s : State) : ∃ r l, s.refreshPair = { s with regs := r, line := l } :=
  (refreshPair_onlyRegsAndLine (as := [0x40060004, 0x40060008, 0x4006000C, 0x40060010]) (by simp) (by simp) (by simp) (by simp)).rest

section
variable (s : State)

@[simp] theorem refreshPair_now : s.refreshPair.now = s.now := by
  obtain ⟨r, l, h⟩ := refreshPair_rest s
  rw [h]

@[simp] theorem refreshPair_core : s.refreshPair.core = s.core := by
  obtain ⟨r, l, h⟩ := refreshPair_rest s
  rw [h]

@[simp] theorem refreshPair_map : s.refreshPair.map = s.map := by
  obtain ⟨r, l, h⟩ := refreshPair_rest s
  rw [h]

@[simp] theorem refreshPair_sel : s.refreshPair.sel = s.sel := by
  obtain ⟨r, l, h⟩ := refreshPair_rest s
  rw [h]

@[simp] theorem refreshPair_mode : s.refreshPair.mode = s.mode := refreshPair_rd (by decide)

@[simp] theorem refreshPair_mateUp : s.refreshPair.mateUp = s.mateUp := refreshPair_flag (by decide)

@[simp] theorem refreshPair_alive : s.refreshPair.alive = s.alive := by
  rw [State.alive, State.alive, refreshPair_rd (by decide), refreshPair_rd (by decide)]

@[simp] theorem refreshPair_fn : s.refreshPair.fn = s.fn := congrArg (BitVec.ofNat 16) (refreshPair_rd (by decide))

@[simp] theorem refreshPair_leaseTicks : s.refreshPair.leaseTicks = s.leaseTicks :=
  congrArg (· * 10 * msTicks) (refreshPair_rd (s := s) (f := F.PAIR_CFG_LEASE) (by decide))

@[simp] theorem refreshPair_hbBit (i : Nat) : s.refreshPair.hbBit i = s.hbBit i := by rw [State.hbBit, refreshPair_mate, State.hbBit]

@[simp] theorem refreshPair_holds (e : W8) : s.refreshPair.holds e = s.holds e := by rw [State.holds, refreshPair_pair, State.holds]

@[simp] theorem refreshPair_hoGrant (e : W8) : s.refreshPair.hoGrant e = s.hoGrant e := by
  rw [State.hoGrant, refreshPair_pair, refreshPair_now, State.hoGrant]

@[simp] theorem refreshPair_mateQuiet : s.refreshPair.mateQuiet = s.mateQuiet := by
  rw [State.mateQuiet, refreshPair_mate, refreshPair_now, State.mateQuiet]

@[simp] theorem refreshPair_handoverIn : s.refreshPair.handoverIn = s.handoverIn := by
  rw [State.handoverIn, refreshPair_now, refreshPair_core, refreshPair_map, refreshPair_fn, State.handoverIn]

end

/-! ### What the fields that follow the state follow (R222, R231, R241) -/

/-- `u` is as `s` for the lamp: the pair, the mate link and the tests, and every field but those that follow the state. -/
structure SameLamp (s u : State) : Prop where
  pair : u.pair = s.pair
  mate : u.mate = s.mate
  pwr : u.pwr = s.pwr
  rd : ∀ f : Fld, (∀ g ∈ pairFollowers, g.apart f = true) → u.rd f = s.rd f

namespace SameLamp

variable {s u : State} (h : SameLamp s u)
include h

theorem follow {f : Fld} {v : Nat} (hf : f ∈ pairFollowers) : SameLamp s (u.wr f v) :=
  ⟨h.pair, h.mate, h.pwr, fun g hg => (State.rd_wr_apart _ _ (hg f hf)).trans (h.rd g hg)⟩

theorem flag {f : Fld} (hf : ∀ g ∈ pairFollowers, g.apart f = true) : u.flag f = s.flag f := congrArg (· == 1) (h.rd f hf)

theorem acting : u.acting = s.acting := h.flag (by decide)

theorem mode : u.mode = s.mode := h.rd _ (by decide)

theorem mateUp : u.mateUp = s.mateUp := h.flag (by decide)

theorem resyncing : u.resyncing = s.resyncing := by
  rw [State.resyncing, h.pwr, h.acting, h.mode, h.mate, h.flag (by decide), State.resyncing]

theorem readyNow : u.readyNow = s.readyNow := by
  rw [State.readyNow, State.booted, h.rd _ (by decide), h.acting, h.pair, h.resyncing, State.resyncOwed, h.acting, h.mode, h.mate,
    h.flag (by decide), h.flag (by decide), State.readyNow, State.booted, State.resyncOwed]

theorem effDuplex : u.effDuplex = s.effDuplex := by
  rw [State.effDuplex, h.mode, h.mateUp, h.acting, h.flag (by decide), h.pair, State.effDuplex]

end SameLamp

theorem refreshPair_sameLamp (s : State) : SameLamp s s.refreshPair := by
  obtain ⟨r, l, h⟩ := refreshPair_rest s
  exact ⟨refreshPair_pair s, refreshPair_mate s, by rw [h], fun f => refreshPair_rd⟩

@[simp] theorem refreshPair_readyNow (s : State) : s.refreshPair.readyNow = s.readyNow := (refreshPair_sameLamp s).readyNow

/-! ### A record is sent (R233) -/

theorem RegKept.sendFor {a : Nat} {s u : State} (h : RegKept a s u) (ha : a < 0x40040000 ∨ 0x40050000 ≤ a) (hseq : a ≠ 0x40060024) {fn : W16}
    {b : MateBody} {last : Bool} : RegKept a s (u.sendFor fn b last) := by
  have hmate : ∀ f, RegKept a s (u.mapMate f) := fun _ => h
  exact h.ite (((hmate _).wr hseq.symm).count ha |>.ite (hmate _))

/-- A record joins those on their way to the mate. -/
def State.queueRec (s : State) (fn : W16) (b : MateBody) (last : Bool) : State :=
  s.mapMate fun m =>
    { m with seqOut := s.mate.seqOut + BitVec.ofNat 32 b.count
             out := if s.mateUp then m.out ++ [{ body := b, last := last, seq := s.mate.seqOut + 1, fn := fn, epoch := s.epoch }] else m.out }

theorem sendFor_onlyRegs {s : State} (hm : s.mode ≠ 0) (fn : W16) (b : MateBody) (last : Bool) :
    OnlyRegs (s.queueRec fn b last) (s.sendFor fn b last) := by
  rw [State.sendFor, if_neg hm]
  exact .ite ((OnlyRegs.refl _).wr.count ..) (.refl _)

/-- Of the mate link, a record sent changes the last SEQ sent and the records on their way. -/
theorem sendFor_mate (s : State) (fn : W16) (b : MateBody) (last : Bool) :
    ∃ q o, (s.sendFor fn b last).mate = { s.mate with seqOut := q, out := o } := by
  by_cases hm : s.mode = 0
  · exact ⟨s.mate.seqOut, s.mate.out, congrArg State.mate (if_pos hm)⟩
  · exact ⟨_, _, (sendFor_onlyRegs hm fn b last).mate⟩

theorem sendFor_out {s : State} (hm : s.mode ≠ 0) (hup : s.mateUp = true) (fn : W16) (b : MateBody) (last : Bool) :
    (s.sendFor fn b last).mate.out.map (fun r => r.body) = s.mate.out.map (fun r => r.body) ++ [b] := by
  rw [(sendFor_onlyRegs hm fn b last).mate, State.queueRec, State.mapMate_mate, hup, if_pos rfl, List.map_append]
  rfl

end Sys2Proof.Machine
end

section
/-! Proofs: the arbiter's queries (O48; R223 to R231, R243, R246, R248). -/
namespace Sys2Proof.Machine

/-! ### Answers (R229) -/

/-- ARB_A answers with a word. -/
def State.answerQuery (s : State) (a : Nat) : State := s.mapPair fun p => { p with answer := BitVec.ofNat 16 a, arbAborted := false }

/-- An accepted query is counted and answered with ACK, the epoch known now and the bits of the state before it. -/
def State.acceptQuery (s : State) (before : Nat) : State :=
  (s.inc F.PAIR_ARB_CNT_ACCEPTED 1).refreshPair.answerQuery (before + 2 ^ 11 + (s.inc F.PAIR_ARB_CNT_ACCEPTED 1).refreshPair.epoch.toNat)

/-- A refused query is counted and answered. -/
def State.refuseQuery (s : State) : State := (s.inc F.PAIR_ARB_CNT_REFUSED 1).answerQuery (s.answerBits + s.epoch.toNat)

/-- What an accepted query shows, whatever its row does. -/
def Acked (s s' : State) : Prop :=
  bitOf s'.pair.answer.toNat 11 = true ∧ bits s'.pair.answer.toNat 0 8 = s'.epoch.toNat ∧ bitOf s'.pair.answer.toNat 15 = true ∧
    s'.rd F.PAIR_ARB_CNT_ACCEPTED = min 65535 (s.rd F.PAIR_ARB_CNT_ACCEPTED + 1) ∧ s'.acting = s.acting

/-- What a refused query shows: it changes neither lease nor epoch. -/
def Refused (s s' : State) : Prop :=
  bitOf s'.pair.answer.toNat 11 = false ∧ bits s'.pair.answer.toNat 0 8 = s.epoch.toNat ∧ s'.pair.lease = s.pair.lease ∧
    s'.pair.ho = s.pair.ho ∧ s'.epoch = s.epoch ∧ s'.acting = s.acting ∧
    s'.rd F.PAIR_ARB_CNT_REFUSED = min 65535 (s.rd F.PAIR_ARB_CNT_REFUSED + 1)

theorem answerBits_eq (s : State) : ∃ hi lo, hi < 8 ∧ lo < 8 ∧ s.answerBits = 2 ^ 15 + 2 ^ 12 * hi + 2 ^ 8 * lo := by
  have hbit : ∀ b : Bool, b2n b < 2 := by decide
  refine ⟨4 * b2n s.acting + 2 * b2n s.readyNow + b2n (s.flag F.PAIR_STAT_STALE),
    4 * b2n (s.flag F.PAIR_STAT_FAULT) + 2 * b2n s.mateUp + b2n (s.flag F.PAIR_STAT_SWAP_REQ), ?_, ?_, ?_⟩
  · have := hbit s.acting
    have := hbit s.readyNow
    have := hbit (s.flag F.PAIR_STAT_STALE)
    omega
  · have := hbit (s.flag F.PAIR_STAT_FAULT)
    have := hbit s.mateUp
    have := hbit (s.flag F.PAIR_STAT_SWAP_REQ)
    omega
  · rw [State.answerBits]
    omega

/-- ACK, EPOCH and bit 15 of an answer, made of the bits of the state, ACK and an epoch. -/
theorem answer_bits (s : State) (ack : Bool) (e : W8) :
    let a : W16 := BitVec.ofNat 16 (s.answerBits + 2 ^ 11 * b2n ack + e.toNat)
    bitOf a.toNat 11 = ack ∧ bits a.toNat 0 8 = e.toNat ∧ bitOf a.toNat 15 = true := by
  obtain ⟨hi, lo, hhi, hlo, hbits⟩ := answerBits_eq s
  have he := e.isLt
  intro a
  have ha : a.toNat = 2 ^ 15 + 2 ^ 12 * hi + 2 ^ 11 * b2n ack + 2 ^ 8 * lo + e.toNat := by
    have hack : b2n ack < 2 := by cases ack <;> decide
    show (BitVec.ofNat 16 _).toNat = _
    rw [BitVec.toNat_ofNat, hbits]
    omega
  simp only [bitOf, bits, ha]
  cases ack
  · simp only [b2n, beq_eq_false_iff_ne, beq_iff_eq]
    refine ⟨?_, ?_, ?_⟩ <;> norm_num <;> omega
  · simp only [b2n, beq_iff_eq]
    refine ⟨?_, ?_, ?_⟩ <;> norm_num <;> omega

section
variable (s u : State) (before : Nat)

theorem acceptQuery_pair : ∃ a, (u.acceptQuery before).pair = { u.pair with answer := a, arbAborted := false } := by
  rw [State.acceptQuery, State.answerQuery, State.mapPair_pair, refreshPair_pair]
  exact ⟨_, rfl⟩

theorem acceptQuery_rest : (u.acceptQuery before).mate = u.mate ∧ (u.acceptQuery before).map = u.map ∧ (u.acceptQuery before).sel = u.sel := by
  rw [State.acceptQuery, State.answerQuery, State.mapPair_mate, State.mapPair_map, State.mapPair_sel, refreshPair_mate, refreshPair_map,
    refreshPair_sel]
  exact ⟨rfl, rfl, rfl⟩

variable {u} in
theorem acceptQuery_rd {f : Fld} (hf : ∀ g ∈ F.PAIR_ARB_CNT_ACCEPTED :: pairFollowers, g.apart f = true) :
    (u.acceptQuery before).rd f = u.rd f := by
  obtain ⟨hcnt, hfollow⟩ := List.forall_mem_cons.1 hf
  rw [State.acceptQuery, State.answerQuery, State.mapPair_rd, refreshPair_rd hfollow, State.inc, State.rd_wr_apart _ _ hcnt]

theorem acceptQuery_epoch : (u.acceptQuery before).epoch = u.epoch := congrArg (BitVec.ofNat 8) (acceptQuery_rd before (by decide))

variable {s u} in
theorem acceptQuery_acked {z : State} (hcnt : u.rd F.PAIR_ARB_CNT_ACCEPTED = s.rd F.PAIR_ARB_CNT_ACCEPTED) (hact : u.acting = s.acting) :
    Acked s (u.acceptQuery z.answerBits) := by
  obtain ⟨hack, hepoch, hstart⟩ := answer_bits z true (u.inc F.PAIR_ARB_CNT_ACCEPTED 1).refreshPair.epoch
  refine ⟨hack, hepoch, hstart, ?_, (congrArg (· == 1) (acceptQuery_rd _ (by decide))).trans hact⟩
  rw [State.acceptQuery, State.answerQuery, State.mapPair_rd, refreshPair_rd (by decide), State.inc, hcnt]
  exact rd_wr_lt _ (by decide) (Nat.lt_of_le_of_lt (Nat.min_le_left ..) (by decide))

/-- A refused query, on a device whose PAIR registers were brought up to date before it. -/
theorem refuseQuery_refused (t : Nat) : Refused s (s.tick t).refreshPair.refuseQuery := by
  obtain ⟨hack, hepoch, -⟩ := answer_bits (s.tick t).refreshPair false (s.tick t).refreshPair.epoch
  have hrd : ∀ f : Fld, (∀ g ∈ F.PAIR_ARB_CNT_REFUSED :: pairFollowers, g.apart f = true) →
      (s.tick t).refreshPair.refuseQuery.rd f = s.rd f :=
    fun f hf => by
      obtain ⟨hcnt, hfollow⟩ := List.forall_mem_cons.1 hf
      exact (State.rd_wr_apart (s.tick t).refreshPair _ hcnt).trans (refreshPair_rd hfollow)
  have hpair : (s.tick t).refreshPair.refuseQuery.pair.lease = s.pair.lease ∧ (s.tick t).refreshPair.refuseQuery.pair.ho = s.pair.ho := by
    rw [State.refuseQuery, State.answerQuery, State.mapPair_pair, State.inc, State.wr_pair, refreshPair_pair]
    exact ⟨rfl, rfl⟩
  refine ⟨hack, hepoch.trans (by rw [refreshPair_epoch]; rfl), hpair.1, hpair.2, congrArg (BitVec.ofNat 8) (hrd _ (by decide)),
    congrArg (· == 1) (hrd _ (by decide)), ?_⟩
  rw [State.refuseQuery, State.answerQuery, State.mapPair_rd, State.inc, refreshPair_rd (by decide)]
  exact rd_wr_lt _ (by decide) (Nat.lt_of_le_of_lt (Nat.min_le_left ..) (by decide))

end

/-! ### A query is accepted or refused (R227, R228, R230) -/

section
variable {s : State} {t op ones : Nat} {q : W16} {act : State → W8 → Bool → Option State} (ha : s.alive = true) (h4 : 4 ≤ ones)
include ha h4

theorem query_heard (hop : ¬(queryOk q = true ∧ qOp q ≠ op)) {r : Option State}
    (hr : (if queryOk q && (s.mode != 0 || op == 0) then act (s.tick t).refreshPair (qEpoch q) (qArg q) else none) = r) :
    (s.tick t).query op ones q act = r.elim (s.tick t).refreshPair.refuseQuery fun u => u.acceptQuery (s.tick t).refreshPair.answerBits := by
  have halive : ¬(s.tick t).refreshPair.alive = false := by
    rw [refreshPair_alive]
    exact ne_false_of_eq_true ha
  have hmode : (s.tick t).refreshPair.mode = s.mode := refreshPair_mode _
  unfold State.query
  extract_lets z put before found
  have hfound : found = r := by
    subst hr
    show (if queryOk q && (z.mode != 0 || op == 0) then _ else _) = _
    rw [hmode]
  clear_value found
  subst hfound
  rw [if_neg (by omega), if_neg halive, if_neg hop]
  cases found <;> rfl

theorem query_accepts {u : State} (hok : queryOk q = true) (hop : qOp q = op) (hm : s.mode ≠ 0 ∨ op = 0)
    (hact : act (s.tick t).refreshPair (qEpoch q) (qArg q) = some u) :
    (s.tick t).query op ones q act = u.acceptQuery (s.tick t).refreshPair.answerBits :=
  query_heard ha h4 (fun h => h.2 hop) (r := some u) (by rw [hok, hact, if_pos (by simpa using hm)])

theorem query_refuses (h : queryOk q = false ∨ (qOp q = op ∧ act (s.tick t).refreshPair (qEpoch q) (qArg q) = none)) :
    (s.tick t).query op ones q act = (s.tick t).refreshPair.refuseQuery := by
  refine query_heard ha h4 ?_ (r := none) ?_
  · rintro ⟨hok, hop⟩
    rcases h with h | ⟨h, -⟩
    · exact Bool.noConfusion (h.symm.trans hok)
    · exact hop h
  · rcases h with h | ⟨-, h⟩
    · rw [h]
      rfl
    · rw [h, ite_self]

end

/-! ### POLL (R230, R246) -/

/-- A holder that hears of a newer epoch, and not of its own handover, stops at the next mark. -/
def State.heedPoll (s : State) (e : W8) : State :=
  if s.acting && (s.pair.lease.any fun l => epochNewer e l.epoch) && !(s.pair.ho.any fun h => h.old && decide (h.epoch = e)) then
    s.mapPair fun p => { p with stopCause := some 3 } else s

/-- The mirror is stale, and a resynchronisation is wanted. -/
def State.becomeStale (s : State) : State :=
  ((s.raise F.PAIR_STAT_STALE).raise F.PAIR_INT_STALE).mapMate fun m => { m with reqSent := true, reqOut := false, rs := none }

/-- The mirror of a standby that has been without its mate for longer than a lease has just become stale. -/
def State.outlived (s : State) (live : Bool) : Bool :=
  live && !s.acting && !s.mateUp && !s.flag F.PAIR_STAT_STALE && decide (s.mate.downAt + s.leaseTicks < s.now)

/-- What a poll makes of the device. -/
def State.polled (s : State) (e : W8) (live : Bool) : State :=
  if s.mode = 0 then s else if (s.heedPoll e).outlived live then (s.heedPoll e).becomeStale else s.heedPoll e

theorem poll_eq (s : State) (e : W8) (live : Bool) : s.poll e live = some (s.polled e live) := by
  unfold State.poll State.polled
  split
  · rfl
  · exact (apply_ite some _ _ _).symm

section
variable (s : State) (e : W8) (live : Bool)

theorem heedPoll_rest : ∃ c, s.heedPoll e = { s with pair := { s.pair with stopCause := c } } := by
  unfold State.heedPoll
  split
  · exact ⟨_, rfl⟩
  · exact ⟨s.pair.stopCause, rfl⟩

variable {s e} in
theorem heedPoll_stops {l : Lease} (hact : s.acting = true) (hl : s.pair.lease = some l) (hnew : epochNewer e l.epoch = true)
    (hho : ∀ h, s.pair.ho = some h → h.old = true → h.epoch ≠ e) : (s.heedPoll e).pair.stopCause = some 3 := by
  have hpend : (s.pair.ho.any fun h => h.old && decide (h.epoch = e)) = false := by
    cases h : s.pair.ho with
    | none => rfl
    | some k => simpa using hho k h
  rw [State.heedPoll, if_pos (by rw [hact, hl, hpend, Option.any_some, hnew]; rfl)]
  rfl

/-- The beginnings of the lamp: a poll changes the wish to stop, STALE with its interrupt, and the wish for a resynchronisation. -/
theorem polled_keeps : (s.polled e live).pair.lease = s.pair.lease ∧ (s.polled e live).map = s.map ∧ (s.polled e live).sel = s.sel ∧
    ∀ f : Fld, F.PAIR_STAT_STALE.apart f = true → F.PAIR_INT_STALE.apart f = true → (s.polled e live).rd f = s.rd f := by
  obtain ⟨c, hc⟩ := heedPoll_rest s e
  unfold State.polled
  split
  · exact ⟨rfl, rfl, rfl, fun _ _ _ => rfl⟩
  · rw [hc]
    split
    · refine ⟨rfl, rfl, rfl, fun f hstat hint => ?_⟩
      rw [State.becomeStale, State.mapMate_rd, State.raise, State.rd_wr_apart _ _ hint, State.raise, State.rd_wr_apart _ _ hstat]
      rfl
    · exact ⟨rfl, rfl, rfl, fun _ _ _ => rfl⟩

variable {s e live}

theorem polled_stopCause (hm : s.mode ≠ 0) : (s.polled e live).pair.stopCause = (s.heedPoll e).pair.stopCause := by
  rw [State.polled, if_neg hm]
  split
  · rfl
  · rfl

theorem polled_stale (hm : s.mode ≠ 0) (hlive : live = true) (hact : s.acting = false) (hup : s.mateUp = false)
    (hdown : s.mate.downAt + s.leaseTicks < s.now) : (s.polled e live).flag F.PAIR_STAT_STALE = true ∧
      (s.flag F.PAIR_STAT_STALE = false → (s.polled e live).flag F.PAIR_INT_STALE = true ∧ (s.polled e live).mate.reqSent = true) := by
  have hheed : s.heedPoll e = s := by rw [State.heedPoll, hact]; rfl
  have hout : s.outlived live = !s.flag F.PAIR_STAT_STALE := by
    rw [State.outlived, hlive, hact, hup, decide_eq_true hdown, Bool.and_true]
    rfl
  rw [State.polled, if_neg hm, hheed, hout]
  cases hstale : s.flag F.PAIR_STAT_STALE with
  | true =>
    rw [if_neg (by decide)]
    exact ⟨hstale, fun h => Bool.noConfusion h⟩
  | false =>
    rw [if_pos (by decide)]
    refine ⟨?_, fun _ => ⟨?_, rfl⟩⟩
    · rw [State.becomeStale, mapMate_flag, flag_raise_apart _ (by decide), flag_raise_same _ (by decide) rfl]
    · rw [State.becomeStale, mapMate_flag, flag_raise_same _ (by decide) rfl]

end

section
variable {t ones : Nat} {q : W16} {s : State} (ha : s.alive = true) (h4 : 4 ≤ ones) (hok : queryOk q = true)
include ha h4 hok

theorem poll_answers (hop : qOp q = 0) : ∃ s', exec (.poll t ⟨ones, q⟩) s = .next s' ∧ Acked s s' ∧ s'.epoch = s.epoch ∧
    s'.pair.lease = s.pair.lease ∧ s'.map = s.map ∧ s'.sel = s.sel ∧
    (s.mode ≠ 0 → qArg q = true → s.acting = false → s.mateUp = false → s.mate.downAt + s.leaseTicks < max s.now t →
      s'.flag F.PAIR_STAT_STALE = true ∧ (s.flag F.PAIR_STAT_STALE = false → s'.flag F.PAIR_INT_STALE = true ∧ s'.mate.reqSent = true)) ∧
    (∀ l, s.mode ≠ 0 → s.acting = true → s.pair.lease = some l → epochNewer (qEpoch q) l.epoch = true →
      (∀ h, s.pair.ho = some h → h.old = true → h.epoch ≠ qEpoch q) → s'.pair.stopCause = some 3) := by
  have hz : (s.tick t).refreshPair.mode = s.mode := refreshPair_mode _
  have hact : (s.tick t).refreshPair.acting = s.acting := refreshPair_acting _
  have hpair : (s.tick t).refreshPair.pair = s.pair := refreshPair_pair _
  have hmap : (s.tick t).refreshPair.map = s.map := refreshPair_map _
  have hsel : (s.tick t).refreshPair.sel = s.sel := refreshPair_sel _
  have hzrd : ∀ f : Fld, (∀ g ∈ pairFollowers, g.apart f = true) → (s.tick t).refreshPair.rd f = s.rd f := fun f => refreshPair_rd
  generalize hu : (s.tick t).refreshPair.polled (qEpoch q) (qArg q) = u
  have hexec : exec (.poll t ⟨ones, q⟩) s = .next (u.acceptQuery (s.tick t).refreshPair.answerBits) :=
    congrArg Host.Outcome.next (query_accepts ha h4 hok hop (.inr rfl) ((poll_eq ..).trans (congrArg some hu)))
  obtain ⟨hlease, humap, husel, hrd⟩ := polled_keeps (s.tick t).refreshPair (qEpoch q) (qArg q)
  rw [hu] at hlease humap husel hrd
  obtain ⟨a, hapair⟩ := acceptQuery_pair u (s.tick t).refreshPair.answerBits
  obtain ⟨hamate, hamap, hasel⟩ := acceptQuery_rest u (s.tick t).refreshPair.answerBits
  refine next_of hexec ⟨acceptQuery_acked ?_ ?_, ?_, ?_, ?_, ?_, fun hm hlive hstandby hup hdown => ?_, fun l hm hholder hl hnew hho => ?_⟩
  · rw [hrd _ (by decide) (by decide), hzrd _ (by decide)]
  · exact (congrArg (· == 1) (hrd _ (by decide) (by decide))).trans hact
  · rw [acceptQuery_epoch, State.epoch, hrd _ (by decide) (by decide), hzrd _ (by decide), State.epoch]
  · rw [hapair, ← hpair, ← hlease]
  · rw [hamap, humap, hmap]
  · rw [hasel, husel, hsel]
  · have hstale := polled_stale (s := (s.tick t).refreshPair) (e := qEpoch q) (hz.symm ▸ hm) hlive (hact.trans hstandby)
      ((refreshPair_mateUp _).trans hup) (by rw [refreshPair_mate, refreshPair_leaseTicks, refreshPair_now]; exact hdown)
    rw [hu, refreshPair_flag (by decide)] at hstale
    obtain ⟨hset, hnew⟩ := hstale
    refine ⟨(congrArg (· == 1) (acceptQuery_rd _ (by decide))).trans hset, fun h => ?_⟩
    rw [hamate]
    exact ⟨(congrArg (· == 1) (acceptQuery_rd _ (by decide))).trans (hnew h).1, (hnew h).2⟩
  · have hcause : u.pair.stopCause = some 3 := by
      rw [← hu, polled_stopCause (hz.symm ▸ hm)]
      exact heedPoll_stops (hact.trans hholder) (hpair.symm ▸ hl) hnew (hpair.symm ▸ hho)
    rw [hapair, ← hcause]

end

/-! ### What the end of a STACK_MARCH leaves of the lamp (R230, R323) -/

/-- The pair's state and the registers of PAIR in `u` are those of `s`. -/
structure LampKept (s u : State) : Prop where
  pair : u.pair = s.pair
  reg : ∀ a, 0x40060000 ≤ a → a < 0x40070000 → u.reg a = s.reg a

namespace LampKept

variable {s u w : State}

theorem refl (s : State) : LampKept s s := ⟨rfl, fun _ _ _ => rfl⟩

theorem ite {c : Prop} [Decidable c] (h : LampKept s u) (g : LampKept s w) : LampKept s (if c then u else w) := by
  split <;> assumption

section
variable (h : LampKept s u)
include h

theorem rd {f : Fld} (hlo : 0x40060000 ≤ f.addr) (hhi : f.addr < 0x40070000) : u.rd f = s.rd f := by
  rw [State.rd, State.rd, h.reg _ hlo hhi]

/-- A change beside the pair's state and the registers of PAIR. -/
theorem same (hpair : w.pair = u.pair) (hreg : ∀ a, 0x40060000 ≤ a → a < 0x40070000 → w.reg a = u.reg a) : LampKept s w :=
  ⟨hpair.trans h.pair, fun a hlo hhi => (hreg a hlo hhi).trans (h.reg a hlo hhi)⟩

theorem wr {f : Fld} {v : Nat} (hf : f.addr < 0x40060000 ∨ 0x40070000 ≤ f.addr) : LampKept s (u.wr f v) :=
  h.same rfl fun a hlo hhi => by rw [reg_wr, if_neg (by omega)]

theorem setFlag {f : Fld} {b : Bool} (hf : f.addr < 0x40060000 ∨ 0x40070000 ≤ f.addr) : LampKept s (u.setFlag f b) := h.wr hf

theorem mapMate {f : MateSt → MateSt} : LampKept s (u.mapMate f) := h.same rfl fun _ _ _ => rfl

theorem mapMap {f : MapSt → MapSt} : LampKept s (u.mapMap f) := h.same rfl fun _ _ _ => rfl

theorem mapPwr {f : PwrSt → PwrSt} : LampKept s (u.mapPwr f) := h.same rfl fun _ _ _ => rfl

theorem line (g : OnlyLine u w) : LampKept s w := by
  obtain ⟨l, rfl⟩ := g
  exact h.same rfl fun _ _ _ => rfl

theorem host (g : HostKept u w) : LampKept s w := h.same g.pair fun a hlo hhi => g.reg a (by omega) (by omega)

theorem countRefs : LampKept s u.countRefs :=
  List.foldlRecOn (motive := LampKept s) (List.range 48) _ h fun _ hv p _ => hv.wr (f := F.PRT_SRC_REFS_COUNT p) (by
    show 0x40100000 + p * 0x1000 + 0x10 < _ ∨ _ ≤ 0x40100000 + p * 0x1000 + 0x10
    omega)

theorem emptyStack : LampKept s u.emptyStack := by
  unfold State.emptyStack
  extract_lets emptied idle sels unchecked counted
  have hbeside : ∀ {f : Fld}, 0x40070000 ≤ f.addr → f.addr < 0x40060000 ∨ 0x40070000 ≤ f.addr := .inr
  have hidle : LampKept s idle := (h.mapMap.wr (hbeside (by decide))).ite h.mapMap
  clear_value idle
  have hsels : LampKept s sels := hidle.same rfl fun a hlo hhi =>
    FwKept.get_filter (q := fun b => decide (b < 0x40090100) || decide (0x40090400 ≤ b))
      (by simp only [Bool.or_eq_true, decide_eq_true_eq]; omega)
  clear_value sels
  have hunchecked : LampKept s unchecked := ((hsels.setFlag (hbeside (by decide))).wr (hbeside (by decide))).wr (hbeside (by decide))
  clear_value unchecked
  have hcounted : LampKept s counted := ((hunchecked.wr (hbeside (by decide))).wr (hbeside (by decide))).countRefs
  exact ((hcounted.wr (hbeside (by decide))).wr (hbeside (by decide))).mapMate

theorem endMarch : LampKept s u.endMarch := h.mapPwr.emptyStack.line (restartTx_onlyLine _)

theorem endRun {test : Nat} {pass ok : Bool} {w2 w3 : W32} : LampKept s (u.endRun test pass w2 w3 ok) := by
  unfold State.endRun
  split
  · exact h
  · next r _ =>
    have hended : LampKept s ((u.mapRun test fun _ => { r with pass := pass, w2 := w2, w3 := w3, left := 0, done := true }).raise
        F.PWR_INT_SELFTEST_DONE) := h.mapPwr.wr (.inl (by decide))
    exact hended.host (HostKept.refl _).completeWhere

end
end LampKept

/-! ### GRANT (R225, R230, R231, R243, R247) -/

/-- The conditions of a grant. -/
def State.mayGrant (s : State) (e : W8) (force : Bool) : Bool :=
  s.pair.lease.isNone && epochNewer e s.epoch && (s.readyNow || (force && !s.flag F.PAIR_STAT_FAULT)) && (s.hoGrant e || s.mateQuiet)

/-- The lease of the new epoch, with its guard or for a handover. -/
def State.takeGrant (s : State) (e : W8) : State :=
  (s.wr F.PAIR_STAT_EPOCH e.toNat).mapPair fun p =>
    { p with lease := some { epoch := e, exp := s.now + s.leaseTicks }
             guardAt := if s.hoGrant e then none else some (s.now + guardTicks)
             ho := if s.hoGrant e then p.ho.map fun h => { h with granted := true } else p.ho }

/-- A forced grant ends a running STACK_MARCH. -/
def State.forceMarch (s : State) (ok : Bool) : State :=
  { s.endMarch with fresh := s.fresh + 2 }.endRun 0x11 false (BitVec.ofNat 32 (Config.freeWord s.fresh).toNat)
    (BitVec.ofNat 32 (Config.freeWord (s.fresh + 1)).toNat) ok

theorem grant_eq (ok : Bool) (s : State) (e : W8) (force : Bool) : State.grant ok s e force =
    if s.mayGrant e force then some (if force && (s.takeGrant e).pwr.march != 0 then (s.takeGrant e).forceMarch ok else s.takeGrant e)
    else none := by
  unfold State.grant
  extract_lets ho taken
  have htaken : taken = s.takeGrant e := rfl
  clear_value taken
  subst htaken
  by_cases hmay : s.mayGrant e force = true
  · rw [if_pos hmay, apply_ite some]
    exact if_pos hmay
  · rw [if_neg hmay]
    exact if_neg hmay

theorem mayGrant_iff {s : State} {t : Nat} {e : W8} {force : Bool} : (s.tick t).refreshPair.mayGrant e force = true ↔
    s.pair.lease = none ∧ epochNewer e s.epoch = true ∧ (s.readyNow = true ∨ (force = true ∧ s.flag F.PAIR_STAT_FAULT = false)) ∧
      ((s.tick t).hoGrant e = true ∨ (s.tick t).mateQuiet = true) := by
  have hepoch : (s.tick t).epoch = s.epoch := rfl
  have hready : (s.tick t).readyNow = s.readyNow := rfl
  rw [State.mayGrant, refreshPair_pair, refreshPair_epoch, refreshPair_readyNow, refreshPair_hoGrant, refreshPair_mateQuiet,
    refreshPair_flag (by decide), hepoch, hready, flag_tick, State.tick_pair]
  simp only [Bool.and_eq_true, Bool.or_eq_true, Bool.not_eq_true', Option.isNone_iff_eq_none, and_assoc]

theorem takeGrant_pair (s : State) (e : W8) : (s.takeGrant e).pair = { s.pair with
    lease := some { epoch := e, exp := s.now + s.leaseTicks }
    guardAt := if s.hoGrant e then none else some (s.now + guardTicks)
    ho := if s.hoGrant e then s.pair.ho.map fun h => { h with granted := true } else s.pair.ho } := rfl

/-- The lease of an epoch runs anew. -/
def State.renewLease (s : State) (e : W8) : State := s.mapPair fun p => { p with lease := some { epoch := e, exp := s.now + s.leaseTicks } }

/-- The lease ends, and with it its guard and the grant of a handover. -/
def State.revokeLease (s : State) : State :=
  s.mapPair fun p => { p with lease := none, guardAt := none, stopCause := if s.acting then some 1 else p.stopCause
                              ho := p.ho.map fun h => if h.old then h else { h with granted := false } }

/-- The conditions of a handover. -/
def State.mayHand (s : State) (e : W8) : Bool := s.acting && s.holds e && s.mateUp && s.hbBit 1 && s.pair.ho.isNone

theorem handover_eq (s : State) (e : W8) (arg : Bool) : s.handover e arg = if s.mayHand e then
    some ((s.mapPair fun p =>
      { p with ho := some { h := s.fn + BitVec.ofNat 16 s.handoverIn, tick := s.core.markT + frameTicks * s.handoverIn,
                            epoch := e + 1, old := true, granted := false } }).sendRec
      (.handover (s.fn + BitVec.ofNat 16 s.handoverIn) (e + 1)) true) else none := rfl

theorem mayHand_iff {s : State} {t : Nat} {e : W8} : (s.tick t).refreshPair.mayHand e = true ↔
    s.acting = true ∧ s.holds e = true ∧ s.mateUp = true ∧ s.hbBit 1 = true ∧ s.pair.ho = none := by
  have htick : (s.tick t).acting = s.acting ∧ (s.tick t).holds e = s.holds e ∧ (s.tick t).mateUp = s.mateUp ∧ (s.tick t).hbBit 1 = s.hbBit 1 :=
    ⟨rfl, rfl, rfl, rfl⟩
  obtain ⟨hact, hholds, hup, hready⟩ := htick
  rw [State.mayHand, refreshPair_acting, refreshPair_holds, refreshPair_mateUp, refreshPair_hbBit, refreshPair_pair, State.tick_pair, hact,
    hholds, hup, hready]
  simp only [Bool.and_eq_true, Option.isNone_iff_eq_none, and_assoc]

section
variable {t ones : Nat} {q : W16} {s : State} (ha : s.alive = true) (h4 : 4 ≤ ones) (hm : s.mode ≠ 0) (hok : queryOk q = true)
include ha h4 hm hok

theorem grant_gives {rplOk : Bool} (hop : qOp q = 1) (hmay : s.pair.lease = none ∧ epochNewer (qEpoch q) s.epoch = true ∧
      (s.readyNow = true ∨ (qArg q = true ∧ s.flag F.PAIR_STAT_FAULT = false)) ∧
      ((s.tick t).hoGrant (qEpoch q) = true ∨ (s.tick t).mateQuiet = true)) :
    ∃ s', exec (.grant t ⟨ones, q⟩ rplOk) s = .next s' ∧ Acked s s' ∧ s'.epoch = qEpoch q ∧
      s'.pair.lease = some { epoch := qEpoch q, exp := max s.now t + s.leaseTicks } ∧
      ((s.tick t).hoGrant (qEpoch q) = false → s'.pair.guardAt = some (max s.now t + guardTicks) ∧ s'.pair.ho = s.pair.ho) ∧
      ((s.tick t).hoGrant (qEpoch q) = true → s'.pair.guardAt = none ∧
        s'.pair.ho = s.pair.ho.map fun h => { h with granted := true }) := by
  let g := (s.tick t).refreshPair.takeGrant (qEpoch q)
  generalize hu : (if qArg q && g.pwr.march != 0 then g.forceMarch rplOk else g) = u
  have hkept : LampKept g u := by
    have hfresh : LampKept g { g.endMarch with fresh := g.fresh + 2 } := (LampKept.refl g).endMarch.same rfl fun _ _ _ => rfl
    rw [← hu]
    exact hfresh.endRun.ite (.refl g)
  have hexec : exec (.grant t ⟨ones, q⟩ rplOk) s = .next (u.acceptQuery (s.tick t).refreshPair.answerBits) := by
    refine congrArg Host.Outcome.next (query_accepts ha h4 hok hop (.inl hm) ?_)
    rw [grant_eq, if_pos (mayGrant_iff.2 hmay)]
    exact congrArg some hu
  have hrd : ∀ f : Fld, 0x40060000 ≤ f.addr → f.addr < 0x40070000 → (∀ h ∈ F.PAIR_STAT_EPOCH :: pairFollowers, h.apart f = true) →
      u.rd f = s.rd f := fun f hlo hhi hf => by
    obtain ⟨hepoch, hfollow⟩ := List.forall_mem_cons.1 hf
    rw [hkept.rd hlo hhi]
    exact (State.rd_wr_apart (s.tick t).refreshPair _ hepoch).trans (refreshPair_rd hfollow)
  have hpair : u.pair = { s.pair with
      lease := some { epoch := qEpoch q, exp := max s.now t + s.leaseTicks }
      guardAt := if (s.tick t).hoGrant (qEpoch q) then none else some (max s.now t + guardTicks)
      ho := if (s.tick t).hoGrant (qEpoch q) then s.pair.ho.map fun h => { h with granted := true } else s.pair.ho } := by
    rw [hkept.pair, takeGrant_pair, refreshPair_pair, refreshPair_hoGrant, refreshPair_leaseTicks, refreshPair_now]
    rfl
  obtain ⟨a, hanswer⟩ := acceptQuery_pair u (s.tick t).refreshPair.answerBits
  refine next_of hexec ⟨acceptQuery_acked (hrd _ (by decide) (by decide) (by decide))
    (congrArg (· == 1) (hrd _ (by decide) (by decide) (by decide))), ?_, ?_, fun hho => ?_, fun hho => ?_⟩
  · rw [acceptQuery_epoch, State.epoch, hkept.rd (by decide) (by decide), ← State.epoch]
    exact epoch_wr ..
  all_goals rw [hanswer, hpair]
  · rw [hho]
    exact ⟨rfl, rfl⟩
  · rw [hho]
    exact ⟨rfl, rfl⟩

omit hm hok in
theorem grant_refuses {rplOk : Bool} (hop : qOp q = 1) (hmay : ¬(s.pair.lease = none ∧ epochNewer (qEpoch q) s.epoch = true ∧
      (s.readyNow = true ∨ (qArg q = true ∧ s.flag F.PAIR_STAT_FAULT = false)) ∧
      ((s.tick t).hoGrant (qEpoch q) = true ∨ (s.tick t).mateQuiet = true))) :
    ∃ s', exec (.grant t ⟨ones, q⟩ rplOk) s = .next s' ∧ Refused s s' := by
  refine next_of (congrArg Host.Outcome.next (query_refuses ha h4 (.inr ⟨hop, ?_⟩))) (refuseQuery_refused s t)
  rw [grant_eq, if_neg fun h => hmay (mayGrant_iff.1 h)]

/-! ### RENEW and REVOKE (R230) -/

omit hm hok in
theorem query_notHeld {op : Nat} {act : State → W8 → Bool → Option State} (hop : qOp q = op) (hheld : s.holds (qEpoch q) = false)
    (hact : (s.tick t).refreshPair.holds (qEpoch q) = false → act (s.tick t).refreshPair (qEpoch q) (qArg q) = none) :
    ∃ s', (Host.Outcome.next ((s.tick t).query op ones q act) : Res) = .next s' ∧ Refused s s' :=
  next_of (congrArg Host.Outcome.next (query_refuses ha h4 (.inr ⟨hop, hact ((refreshPair_holds ..).trans hheld)⟩))) (refuseQuery_refused s t)

theorem renew_answers (hop : qOp q = 2) (hheld : s.holds (qEpoch q) = true) :
    ∃ s', exec (.renew t ⟨ones, q⟩) s = .next s' ∧ Acked s s' ∧
      s'.pair.lease = some { epoch := qEpoch q, exp := max s.now t + s.leaseTicks } ∧ s'.pair.guardAt = s.pair.guardAt ∧ s'.epoch = s.epoch := by
  have hz : (s.tick t).refreshPair.holds (qEpoch q) = true := (refreshPair_holds ..).trans hheld
  have hexec : exec (.renew t ⟨ones, q⟩) s = .next (((s.tick t).refreshPair.renewLease (qEpoch q)).acceptQuery _) :=
    congrArg Host.Outcome.next (query_accepts ha h4 hok hop (.inl hm) (if_pos hz))
  obtain ⟨a, hanswer⟩ := acceptQuery_pair ((s.tick t).refreshPair.renewLease (qEpoch q)) (s.tick t).refreshPair.answerBits
  refine next_of hexec ⟨acceptQuery_acked (refreshPair_rd (s := s.tick t) (by decide)) (refreshPair_acting (s.tick t)), ?_, ?_, ?_⟩
  · rw [hanswer, State.renewLease, State.mapPair_pair, refreshPair_now, refreshPair_leaseTicks]
    rfl
  · rw [hanswer, State.renewLease, State.mapPair_pair, refreshPair_pair]
    rfl
  · rw [acceptQuery_epoch]
    exact refreshPair_epoch (s.tick t)

theorem revoke_answers (hop : qOp q = 3) (hheld : s.holds (qEpoch q) = true) :
    ∃ s', exec (.revoke t ⟨ones, q⟩) s = .next s' ∧ Acked s s' ∧ s'.pair.lease = none ∧ s'.pair.guardAt = none ∧
      (s.acting = true → s'.pair.stopCause = some 1) ∧ s'.epoch = s.epoch := by
  have hz : (s.tick t).refreshPair.holds (qEpoch q) = true := (refreshPair_holds ..).trans hheld
  have hexec : exec (.revoke t ⟨ones, q⟩) s = .next ((s.tick t).refreshPair.revokeLease.acceptQuery _) :=
    congrArg Host.Outcome.next (query_accepts ha h4 hok hop (.inl hm) (if_pos hz))
  obtain ⟨a, hanswer⟩ := acceptQuery_pair (s.tick t).refreshPair.revokeLease (s.tick t).refreshPair.answerBits
  refine next_of hexec ⟨acceptQuery_acked (refreshPair_rd (s := s.tick t) (by decide)) (refreshPair_acting (s.tick t)), ?_, ?_,
    fun hact => ?_, ?_⟩
  · rw [hanswer]
    rfl
  · rw [hanswer]
    rfl
  · have hholder : (s.tick t).refreshPair.acting = true := (refreshPair_acting _).trans hact
    rw [hanswer, State.revokeLease, State.mapPair_pair, hholder]
    rfl
  · rw [acceptQuery_epoch]
    exact refreshPair_epoch (s.tick t)

/-! ### HANDOVER (R230, R243) -/

theorem handover_names (hop : qOp q = 4) (hhand : s.acting = true ∧ s.holds (qEpoch q) = true ∧ s.mateUp = true ∧ s.hbBit 1 = true ∧
      s.pair.ho = none) : ∃ s', exec (.handover t ⟨ones, q⟩) s = .next s' ∧ Acked s s' ∧
      s'.pair.ho = some { h := s.fn + BitVec.ofNat 16 (s.tick t).handoverIn, tick := s.core.markT + frameTicks * (s.tick t).handoverIn,
                          epoch := qEpoch q + 1, old := true, granted := false } ∧
      s'.mate.out.map (fun r => r.body) = s.mate.out.map (fun r => r.body) ++
        [.handover (s.fn + BitVec.ofNat 16 (s.tick t).handoverIn) (qEpoch q + 1)] := by
  let z := (s.tick t).refreshPair
  let n := (s.tick t).handoverIn
  let ho : Handover := { h := s.fn + BitVec.ofNat 16 n, tick := s.core.markT + frameTicks * n, epoch := qEpoch q + 1, old := true, granted := false }
  let v := z.mapPair fun p => { p with ho := some ho }
  let u := v.sendRec (.handover ho.h (qEpoch q + 1)) true
  have hfn : z.fn = s.fn := refreshPair_fn _
  have hcore : z.core = s.core := refreshPair_core _
  have hin : z.handoverIn = n := refreshPair_handoverIn _
  have hexec : exec (.handover t ⟨ones, q⟩) s = .next (u.acceptQuery z.answerBits) := by
    refine congrArg Host.Outcome.next (query_accepts ha h4 hok hop (.inl hm) ?_)
    rw [handover_eq, if_pos (mayHand_iff.2 hhand), hfn, hcore, hin]
  have hsent : OnlyMirror v u := sendFor_onlyMirror ..
  have hrd : ∀ f : Fld, 0x40050000 ≤ f.addr → f.addr ≠ 0x40060024 → (∀ g ∈ pairFollowers, g.apart f = true) → u.rd f = s.rd f :=
    fun f hlo hseq hf => (((RegKept.refl f.addr v).sendFor (.inr hlo) hseq).rd rfl).trans (refreshPair_rd (s := s.tick t) hf)
  have hmode : v.mode = s.mode := refreshPair_mode (s.tick t)
  obtain ⟨hact, -, hup, -, -⟩ := hhand
  obtain ⟨a, hanswer⟩ := acceptQuery_pair u z.answerBits
  refine next_of hexec ⟨acceptQuery_acked (hrd _ (by decide) (by decide) (by decide))
    (congrArg (· == 1) (hrd _ (by decide) (by decide) (by decide))), ?_, ?_⟩
  · rw [hanswer]
    obtain ⟨r, m, hrest⟩ := hsent.rest
    rw [hrest]
    rfl
  · rw [(acceptQuery_rest ..).1]
    refine (sendFor_out (s := v) (ne_of_eq_of_ne hmode hm) ((refreshPair_mateUp (s.tick t)).trans hup) _ _ _).trans ?_
    rw [show v.mate = s.mate from refreshPair_mate (s.tick t)]

omit hm hok in
theorem handover_refuses (hop : qOp q = 4) (hhand : ¬(s.acting = true ∧ s.holds (qEpoch q) = true ∧ s.mateUp = true ∧ s.hbBit 1 = true ∧
      s.pair.ho = none)) : ∃ s', exec (.handover t ⟨ones, q⟩) s = .next s' ∧ Refused s s' := by
  refine next_of (congrArg Host.Outcome.next (query_refuses ha h4 (.inr ⟨hop, ?_⟩))) (refuseQuery_refused s t)
  rw [handover_eq, if_neg fun h => hhand (mayHand_iff.1 h)]

end

/-! ### Malformed queries (R228), and the statement -/

/-- Settles O48: each query by what its row makes of the device once PAIR is brought up to date, and by the answer that every accepted or
refused query gets. -/
theorem arbiterQueries : Obligations.ArbiterQueries := by
  intro t ones q rplOk s ha h4
  refine ⟨fun hok hop => poll_answers ha h4 hok hop, fun hm hok hop => ⟨grant_gives ha h4 hm hok hop, grant_refuses ha h4 hop⟩,
    fun hm hok hop => ⟨renew_answers ha h4 hm hok hop, fun hheld => query_notHeld ha h4 hop hheld fun h => if_neg (ne_true_of_eq_false h)⟩,
    fun hm hok hop => ⟨revoke_answers ha h4 hm hok hop, fun hheld => query_notHeld ha h4 hop hheld fun h => if_neg (ne_true_of_eq_false h)⟩,
    fun hm hok hop => ⟨handover_names ha h4 hm hok hop, handover_refuses ha h4 hop⟩, fun hbad => ?_, rfl⟩
  have hrefused : ∀ op act, ∃ s', (Host.Outcome.next ((s.tick t).query op ones q act) : Res) = .next s' ∧ Refused s s' := fun op act =>
    next_of (congrArg Host.Outcome.next (query_refuses ha h4 (.inl hbad))) (refuseQuery_refused s t)
  simp only [List.forall_mem_cons, List.not_mem_nil, false_imp_iff, implies_true, and_true]
  exact ⟨hrefused 0 _, hrefused 1 _, hrefused 2 _, hrefused 3 _, hrefused 4 _⟩

end Sys2Proof.Machine
end

section
/-! Proofs: what the evaluation of selectors and groups leaves of the lamp (R122 to R142, R226), and the fields of PAIR that follow the
state, with what the demands of the ports make of their transmitters (R166, R167, R222, R245). -/
namespace Sys2Proof.Machine

/-! ### Evaluation (R122 to R142) -/

/-- PAIR_INT and the map of `u` are those of `s`, and of the pair's state only disagreements that wait may be others. -/
structure EvalKept (s u : State) : Prop where
  int : RegKept 0x40060030 s u
  map : u.map = s.map
  pair : ∃ d, u.pair = { s.pair with disPend := d }

namespace EvalKept

variable {s u w : State}

theorem refl (s : State) : EvalKept s s := ⟨rfl, rfl, s.pair.disPend, rfl⟩

theorem trans (h : EvalKept s u) (g : EvalKept u w) : EvalKept s w := by
  obtain ⟨d, hd⟩ := h.pair
  obtain ⟨d', hd'⟩ := g.pair
  exact ⟨h.int.trans g.int, g.map.trans h.map, d', by rw [hd', hd]⟩

theorem ite {c : Prop} [Decidable c] (h : EvalKept s u) (g : EvalKept s w) : EvalKept s (if c then u else w) := by
  split <;> assumption

section
variable (h : EvalKept s u)
include h

theorem mapSel {f : SelSt → SelSt} : EvalKept s (u.mapSel f) := h.trans ⟨rfl, rfl, u.pair.disPend, rfl⟩

theorem disagree {x : Nat × Nat} : EvalKept s (u.mapPair fun q => { q with disPend := x :: q.disPend }) := h.trans ⟨rfl, rfl, _, rfl⟩

theorem setReg {a : Nat} {v : W32} (ha : a ≠ 0x40060030) : EvalKept s (u.setReg a v) :=
  h.trans ⟨(RegKept.refl _ u).setReg ha, rfl, u.pair.disPend, rfl⟩

theorem wr {f : Fld} {v : Nat} (hf : f.addr ≠ 0x40060030) : EvalKept s (u.wr f v) := h.setReg hf

theorem count {code arg n : Nat} : EvalKept s (u.count code arg n) :=
  h.trans ⟨(RegKept.refl _ u).count (.inr (by decide)), by rw [((OnlyRegs.refl u).count code arg n).eq], u.pair.disPend,
    ((OnlyRegs.refl u).count ..).pair⟩

theorem mirror {b : MateBody} : EvalKept s (u.mirror b) := by
  refine (h.trans ⟨(RegKept.refl _ u).sendFor (.inr (by decide)) (by decide), (sendFor_onlyMirror ..).map, u.pair.disPend, ?_⟩).ite h
  obtain ⟨r, m, hrest⟩ := (sendFor_onlyMirror u u.fn b true).rest
  exact (congrArg State.pair hrest :)

theorem countSwitch {c : Bool} : EvalKept s (u.countSwitch c) := by
  unfold State.countSwitch
  extract_lets counted
  have hraised : EvalKept s ((u.inc F.SEL_SW_CNT_COUNT 1).raise F.SEL_INT_SW) := (h.wr (by decide)).wr (by decide)
  have hcounted : EvalKept s counted := hraised.ite h
  exact hcounted.mapSel

theorem exercise {key : Nat} {p : Pv} {m : MonPair} : EvalKept s (u.exercise key p m) := h.mapSel.ite h

theorem storeSel {i : Nat} {p : Pv} {start : Bool} : EvalKept s (u.storeSel i p start) := by
  have hset : ∀ v, EvalKept s ((u.setTimer i start p.tph).setSel i v) := fun _ => h.mapSel.mapSel
  exact ((hset _).countSwitch.mirror.ite (hset _).countSwitch).ite ((hset _).mapSel.disagree.ite (hset _).mapSel)

theorem storeGrp {w : Nat} {p : Pv} {start : Bool} (hw : w < 48) : EvalKept s (u.storeGrp w p start) := by
  have hgrp : 0x40090100 + w * 0x4 ≠ 0x40060030 := by omega
  have haps : 0x40090300 + w * 0x4 ≠ 0x40060030 := by omega
  have hset : ∀ q, EvalKept s ((u.setTimer (protKey true w) start p.tph).setLineState w q) := fun _ => h.mapSel.setReg (by omega)
  have hself := (((hset p).wr (f := { addr := 0x40090100 + w * 0x4, lo := 9, w := 1 }) (v := b2n p.act) hgrp).wr
    (f := { addr := 0x40090300 + w * 0x4, lo := 0, w := 16 }) (v := apsOf p.req) haps).countSwitch (c := p.act != gSel (u.grp w))
  have hreq := (hset p).countSwitch (c := false)
  exact ((hself.mirror.ite hself).ite ((hreq.wr (by decide)).mirror.ite hreq)).ite ((hset _).mapSel.disagree.ite (hset _).mapSel)

theorem evalSel {i : Nat} : EvalKept s (u.evalSel i) :=
  (h.count.exercise.exercise.storeSel.storeSel.ite h.count.exercise.storeSel).ite h

theorem evalGrp {w : Nat} (hw : w < 48) : EvalKept s (u.evalGrp w) := (h.exercise.storeGrp hw).ite h

theorem openBurst {any : Bool} : EvalKept s (u.openBurst any) := h.mapSel.ite h

theorem evalAll {sels grps : List Nat} (hg : ∀ w ∈ grps, w < 48) : EvalKept s (u.evalAll sels grps) :=
  List.foldlRecOn (motive := EvalKept s) grps _ (List.foldlRecOn (motive := EvalKept s) sels _ h fun _ hv _ _ => hv.evalSel)
    fun _ hv w hw => hv.evalGrp (hg w hw)

end
end EvalKept

/-! ### The refresh of PAIR, and the transmitters (R166, R167, R222, R245) -/

/-- The fields of PAIR are written first, then the demands of the ports that follow from them are met. -/
theorem refreshPair_demands (s : State) : ∃ x, s.refreshPair = x.wakeDemands.restartTx ∧ OnlyRegs s x ∧
    x.flag F.PAIR_STAT_GUARD = s.pair.guardAt.isSome ∧ x.flag F.PAIR_STAT_RESYNC = s.resyncing ∧
    x.flag F.PAIR_STAT_READY = s.readyNow ∧ x.flag F.PAIR_STAT_EFF_DUPLEX = s.effDuplex ∧
    ∀ f : Fld, (∀ g ∈ pairFollowers, g.apart f = true) → x.rd f = s.rd f := by
  have h0 := SameLamp.mk (s := s) rfl rfl rfl fun _ _ => rfl
  unfold State.refreshPair
  extract_lets p noted pending ready leased handed drilled
  have hnoted : SameLamp s noted := (h0.follow (by decide)).follow (by decide)
  have hpending : SameLamp s pending := hnoted.follow (by decide)
  have hready : SameLamp s ready := (hpending.follow (by decide)).follow (by decide)
  have hleased : SameLamp s leased := (hready.follow (by decide)).follow (by decide)
  have hhanded : SameLamp s handed := (hleased.follow (by decide)).follow (by decide)
  refine ⟨drilled, rfl, (OnlyRegs.refl s).wr.wr.wr.wr.wr.wr.wr.wr.wr.wr, ?_, ?_, ?_, ?_, (hhanded.follow (by decide)).rd⟩
  · simp (disch := decide) only [drilled, handed, leased, ready, pending, noted, flag_setFlag_apart, flag_wr_apart, flag_setFlag_same, p]
  · simp (disch := decide) only [drilled, handed, leased, ready, pending, noted, flag_setFlag_apart, flag_wr_apart, flag_setFlag_same]
  · simp (disch := decide) only [drilled, handed, leased, ready, flag_setFlag_apart, flag_wr_apart, flag_setFlag_same]
    exact hpending.readyNow
  · simp (disch := decide) only [drilled, handed, leased, ready, flag_setFlag_apart, flag_wr_apart, flag_setFlag_same]
    exact hpending.effDuplex

theorem refreshPair_resyncFlag (s : State) : s.refreshPair.flag F.PAIR_STAT_RESYNC = s.resyncing := by
  obtain ⟨x, hx, -, -, hresync, -⟩ := refreshPair_demands s
  rw [hx, State.flag, (restartTx_onlyLine _).rd, (wakeDemands_onlyLine _).rd, ← State.flag, hresync]

theorem refreshPair_readyFlag (s : State) : s.refreshPair.flag F.PAIR_STAT_READY = s.readyNow := by
  obtain ⟨x, hx, -, -, -, hready, -⟩ := refreshPair_demands s
  rw [hx, State.flag, (restartTx_onlyLine _).rd, (wakeDemands_onlyLine _).rd, ← State.flag, hready]

theorem refreshPair_effDuplexFlag (s : State) : s.refreshPair.flag F.PAIR_STAT_EFF_DUPLEX = s.effDuplex := by
  obtain ⟨x, hx, -, -, -, -, hdup, -⟩ := refreshPair_demands s
  rw [hx, State.flag, (restartTx_onlyLine _).rd, (wakeDemands_onlyLine _).rd, ← State.flag, hdup]

theorem OnlyLine.txDemand {s u : State} (h : OnlyLine s u) (p : Nat) : u.txDemand p = s.txDemand p := by
  obtain ⟨l, rfl⟩ := h
  rfl

/-- A wake leaves the transmitter as it is. -/
theorem wakeDemands_tx (s : State) (p : Nat) : (s.wakeDemands.dyn p).tx = (s.dyn p).tx := by
  refine List.foldlRecOn (motive := fun v : State => (v.dyn p).tx = (s.dyn p).tx) _ _ rfl fun v hv q _ => ?_
  unfold State.wakeDemand State.wakeTo
  split
  · by_cases hq : q = p
    · subst hq
      rw [dyn_mapDyn_same]
      exact hv
    · rw [dyn_mapDyn_other _ _ hq]
      exact hv
  · exact hv

/-- A transmitter that nothing demands does not start. -/
theorem restartTx_tx {s : State} {p : Nat} (h : s.txDemand p = false) : (s.restartTx.dyn p).tx = (s.dyn p).tx := by
  refine (List.foldlRecOn (motive := fun v : State => OnlyLine s v ∧ (v.dyn p).tx = (s.dyn p).tx) _ _ ⟨.refl s, rfl⟩ fun v hv q _ => ?_).2
  split
  · next hq =>
    refine ⟨hv.1.trans (mapDyn_onlyLine ..), ?_⟩
    rw [dyn_mapDyn_other, hv.2]
    rintro rfl
    rw [hv.1.txDemand, h, Bool.and_false] at hq
    exact Bool.noConfusion hq
  · exact hv

/-- The old holder of a duplex pair demands no transmitter once its mate acts. -/
theorem refreshPair_idle {s : State} {p : Nat} (hm : s.mode = 2) (hact : s.acting = false) (hdup : s.effDuplex = false)
    (hguard : s.pair.guardAt = none) (hloop : s.rd (F.PRT_CFG_LOOP p) = 0) : (s.refreshPair.dyn p).tx = (s.dyn p).tx := by
  obtain ⟨x, hx, hregs, hxguard, -, -, hxdup, hrd⟩ := refreshPair_demands s
  have hbefore : ∀ g ∈ pairFollowers, g.addr < 0x40100000 := by decide
  have hloopx : x.rd (F.PRT_CFG_LOOP p) = 0 := (hrd _ fun g hg => apart_of_addr (by
    have := hbefore g hg
    show g.addr ≠ 0x40100000 + p * 0x1000 + 0
    omega)).trans hloop
  have hdemand : x.txDemand p = false := by
    rw [State.txDemand, State.acting, State.flag, hrd _ (by decide), ← State.flag, ← State.acting, hact, hxguard, hguard, State.mode,
      hrd _ (by decide), ← State.mode, hm, hxdup, hdup, hloopx]
    rfl
  have hdyn : x.dyn p = s.dyn p := by rw [State.dyn, State.dyn, hregs.line]
  rw [hx, restartTx_tx ((wakeDemands_onlyLine x).txDemand p ▸ hdemand), wakeDemands_tx, hdyn]

end Sys2Proof.Machine
end

section
/-! Proofs: leases, guards, handovers, the drill, and what starting and stopping to act sets (O49; R222, R224, R225, R230, R242, R243, R245,
R247, R252). -/
namespace Sys2Proof.Machine

/-! ### Stopping to act (R224, R230, R243, R248) -/

/-- With their replies the running PAIR_SWAPs leave the list. -/
theorem endSwaps_eq (st : Status) (ws : List W32) (ok : Bool) (n : Nat) (s : State) :
    ∃ w, HostKept s w ∧ State.endSwaps st ws ok n s = w.mapPair fun p => { p with swapAt := [] } := by
  induction n generalizing s with
  | zero => exact ⟨s, .refl s, rfl⟩
  | succ n ih =>
    obtain ⟨w, hw, he⟩ := ih (s.complete .pairSwap st ws ok)
    exact ⟨w, (HostKept.refl s).complete.trans hw, he⟩

/-- The replies that end PAIR_SWAPs leave the lamp's registers and the mate link alone. -/
structure SwapsEnded (s u : State) : Prop where
  pair : u.pair = { s.pair with swapAt := [] }
  mate : u.mate = s.mate
  rd : ∀ f : Fld, 0x40050000 ≤ f.addr → f.addr < 0x400A0000 → u.rd f = s.rd f

theorem endSwaps_ended (st : Status) (ws : List W32) (ok : Bool) (n : Nat) (s : State) : SwapsEnded s (State.endSwaps st ws ok n s) := by
  obtain ⟨w, hw, he⟩ := endSwaps_eq st ws ok n s
  rw [he]
  exact ⟨by rw [State.mapPair_pair, hw.pair], hw.mate, fun f hlo hhi => hw.rd hlo hhi⟩

theorem SwapsEnded.ite {s u w : State} {c : Prop} [Decidable c] (h : SwapsEnded s u) (g : SwapsEnded s w) :
    SwapsEnded s (if c then u else w) := by
  split <;> assumption

theorem raiseIf_onlyRegs (s : State) (c : Bool) (f : Fld) : OnlyRegs s (s.raiseIf c f) := OnlyRegs.ite (OnlyRegs.refl s).wr (.refl s)

theorem flag_raiseIf_apart (s : State) {c : Bool} {f g : Fld} (h : f.apart g = true) : (s.raiseIf c f).flag g = s.flag g := by
  unfold State.raiseIf
  split
  · exact flag_raise_apart s h
  · rfl

theorem rd_raiseIf_apart (s : State) {c : Bool} {f g : Fld} (h : f.apart g = true) : (s.raiseIf c f).rd g = s.rd g := by
  unfold State.raiseIf
  split
  · exact State.rd_wr_apart s _ h
  · rfl

section
variable (s : State) (cause : BitVec 3)

/-- STOP leaves for the mate, and the registers show that the lamp is given up. -/
def State.giveUpLamp : State :=
  (((((s.sendRec (.stop (s.fn - 1) cause) true).setFlag F.PAIR_STAT_ACTING false).raise F.PAIR_INT_LAMP_CHG).raiseIf (cause == 0)
    F.PAIR_INT_LEASE_LOST).setFlag F.PAIR_STAT_SWAP_REQ false)

/-- The lease that a stop ends, and the frames until the transmitters of a duplex pair go idle. -/
def State.endLease : State :=
  s.mapPair fun p =>
    { p with lease := if cause = 1 then p.lease else none, stopCause := none, ho := none, guardAt := if cause = 1 then p.guardAt else none
             idleFn := if decide (s.mode = 2) && cause == 2 then some (s.core.frames + 2) else none
             frozen := if decide (s.mode = 2) && cause == 2 then [s.core.frames, s.core.frames + 1] else [] }

/-- What a stopped device will do about its mirror (R241, R247). -/
def State.noteApart : State :=
  if cause = 3 ∨ cause = 4 ∨ (cause ≠ 2 ∧ (!s.mateUp || s.hbBit 2 || s.hbBit 3) = true) then s.mapMate fun m => { m with seenMate := false }
  else if cause = 2 then s.mapMate fun m => { m with synced := true } else s

/-- A stop is given up lamp, lease and mirror, and the answers to the PAIR_SWAPs that waited. -/
theorem stopActing_ends (ok : Bool) : ∃ u, SwapsEnded (((s.giveUpLamp cause).endLease cause).noteApart cause) u ∧
    s.stopActing cause ok = u.refreshPair := by
  refine ⟨_, ?_, rfl⟩
  exact (endSwaps_ended ..).ite (endSwaps_ended ..)

theorem giveUpLamp_onlyRegs : OnlyRegs (s.sendRec (.stop (s.fn - 1) cause) true) (s.giveUpLamp cause) :=
  (((OnlyRegs.refl _).wr.wr).trans (raiseIf_onlyRegs ..)).wr

theorem giveUpLamp_flags : (s.giveUpLamp cause).acting = false ∧ (s.giveUpLamp cause).flag F.PAIR_INT_LAMP_CHG = true ∧
    (s.giveUpLamp cause).flag F.PAIR_STAT_SWAP_REQ = false ∧ (cause = 0 → (s.giveUpLamp cause).flag F.PAIR_INT_LEASE_LOST = true) ∧
    (s.giveUpLamp cause).mode = s.mode := by
  refine ⟨?_, ?_, ?_, fun h => ?_, ?_⟩
  · simp (disch := decide) only [State.acting, State.giveUpLamp, flag_setFlag_apart, flag_raiseIf_apart, flag_raise_apart, flag_setFlag_same]
  · simp (disch := decide) only [State.giveUpLamp, flag_setFlag_apart, flag_raiseIf_apart, flag_raise_same]
  · simp (disch := decide) only [State.giveUpLamp, flag_setFlag_same]
  · subst h
    rw [State.giveUpLamp, flag_setFlag_apart _ (by decide), State.raiseIf, if_pos (by decide), flag_raise_same _ (by decide) rfl]
  · simp (disch := decide) only [State.mode, State.giveUpLamp, State.setFlag, State.raise, State.rd_wr_apart, rd_raiseIf_apart]
    exact ((RegKept.refl _ s).sendFor (.inr (by decide)) (by decide)).rd rfl

theorem noteApart_rest : ∃ m, (s.noteApart cause) = { s with mate := m } ∧ m.out = s.mate.out := by
  unfold State.noteApart
  split
  · exact ⟨_, rfl, rfl⟩
  · split
    · exact ⟨_, rfl, rfl⟩
    · exact ⟨s.mate, rfl, rfl⟩

/-- What stopping to act sets. -/
theorem stopActing_sets (ok : Bool) :
    (s.stopActing cause ok).acting = false ∧ (s.stopActing cause ok).flag F.PAIR_INT_LAMP_CHG = true ∧ (s.stopActing cause ok).pair.ho = none ∧
      (s.stopActing cause ok).pair.swapAt = [] ∧ (s.stopActing cause ok).flag F.PAIR_STAT_SWAP_REQ = false ∧
      (cause = 0 → (s.stopActing cause ok).flag F.PAIR_INT_LEASE_LOST = true) ∧
      (cause ≠ 1 → (s.stopActing cause ok).pair.lease = none ∧ (s.stopActing cause ok).pair.guardAt = none) ∧
      (cause = 1 → (s.stopActing cause ok).pair.lease = s.pair.lease ∧ (s.stopActing cause ok).pair.guardAt = s.pair.guardAt) ∧
      (s.mode = 2 → cause = 2 → (s.stopActing cause ok).pair.idleFn = some (s.core.frames + 2)) ∧
      ((cause = 3 ∨ cause = 4) → (s.stopActing cause ok).mate.seenMate = false) ∧
      (s.mode ≠ 0 → s.mateUp = true → s.mate.out.map (fun r => r.body) ++ [.stop (s.fn - 1) cause] =
        (s.stopActing cause ok).mate.out.map fun r => r.body) := by
  obtain ⟨u, hu, he⟩ := stopActing_ends s cause ok
  obtain ⟨m, hm, hout⟩ := noteApart_rest ((s.giveUpLamp cause).endLease cause) cause
  obtain ⟨hact, hchg, hreq, hlost, hmode⟩ := giveUpLamp_flags s cause
  have hsent : OnlyMirror s (s.sendRec (.stop (s.fn - 1) cause) true) := sendFor_onlyMirror ..
  have hgive := giveUpLamp_onlyRegs s cause
  have hpair : (s.giveUpLamp cause).pair = s.pair := by
    obtain ⟨r, m, hr⟩ := hsent.rest
    rw [hgive.pair, hr]
  have hcore : (s.giveUpLamp cause).core = s.core := by
    obtain ⟨r, m, hr⟩ := hsent.rest
    rw [hgive.core, hr]
  have hended : u.pair = { ((s.giveUpLamp cause).endLease cause).pair with swapAt := [] } := by rw [hu.pair, hm]
  have hflag : ∀ f : Fld, 0x40050000 ≤ f.addr → f.addr < 0x400A0000 → (∀ g ∈ pairFollowers, g.apart f = true) →
      u.refreshPair.flag f = (s.giveUpLamp cause).flag f := fun f hlo hhi hf => by
    rw [refreshPair_flag hf, State.flag, hu.rd f hlo hhi, hm]
    rfl
  rw [he, refreshPair_pair, hended, refreshPair_mate, hu.mate]
  refine ⟨?_, ?_, rfl, rfl, ?_, fun h => ?_, fun h => ?_, fun h => ?_, fun h2 h => ?_, fun h => ?_, fun hne hup => ?_⟩
  · exact (hflag _ (by decide) (by decide) (by decide)).trans hact
  · exact (hflag _ (by decide) (by decide) (by decide)).trans hchg
  · exact (hflag _ (by decide) (by decide) (by decide)).trans hreq
  · exact (hflag _ (by decide) (by decide) (by decide)).trans (hlost h)
  · rw [State.endLease, State.mapPair_pair, if_neg h, if_neg h]
    exact ⟨rfl, rfl⟩
  · rw [State.endLease, State.mapPair_pair, if_pos h, if_pos h, hpair]
    exact ⟨rfl, rfl⟩
  · rw [State.endLease, State.mapPair_pair, hmode, hcore, h2, h]
    rfl
  · rw [State.noteApart, if_pos (by rcases h with h | h <;> simp [h])]
    rfl
  · have hstop := sendFor_out hne hup s.fn (.stop (s.fn - 1) cause) true
    rw [hm, hout, ← hstop]
    exact congrArg (fun x : MateSt => x.out.map fun r => r.body) hgive.mate.symm

end

/-! ### Starting to act (R225, R240, R242, R243) -/

/-- The device takes the lamp, before it evaluates from the state it applied last. -/
def State.takeLampNow (s : State) : State :=
  ((((s.setFlag F.PAIR_STAT_ACTING true).raise F.PAIR_INT_LAMP_CHG).mapPair fun p =>
    { p with hasActed := true, guardAt := none, stopCause := none, ho := none, stopSeen := false
             idleFn := match s.pair.ho with
               | some h => if fnFuture h.h s.fn then none else some (s.core.frames + 2 - fnDist s.fn h.h)
               | none => none
             disPend := []
             drillAt := s.now + 60 * minTicks *
               ((s.setFlag F.PAIR_STAT_ACTING true).raise F.PAIR_INT_LAMP_CHG).rd F.PAIR_CFG_DRILL_H }).mapMate fun m =>
    { m with seenMate := true, reqPend := false
             reqSent := ((s.setFlag F.PAIR_STAT_ACTING true).raise F.PAIR_INT_LAMP_CHG).flag F.PAIR_STAT_STALE
             reqOut := false, rs := none, selQ := [], parts := [] }).mapSel fun x => { x with shadow := [] }

theorem startActing_evaluates (s : State) : ∃ u, EvalKept s.takeLampNow u ∧ s.startActing = u.refreshPair :=
  ⟨_, (EvalKept.refl s.takeLampNow).openBurst.evalAll fun _ => lt_of_mem_groups, rfl⟩

theorem startActing_sets (s : State) : s.startActing.acting = true ∧ s.startActing.flag F.PAIR_INT_LAMP_CHG = true ∧
    s.startActing.pair.guardAt = none ∧ s.startActing.pair.ho = none ∧ s.startActing.pair.hasActed = true ∧
    s.startActing.pair.drillAt = s.now + 60 * minTicks * s.rd F.PAIR_CFG_DRILL_H ∧ s.startActing.map = s.map := by
  obtain ⟨u, hu, he⟩ := startActing_evaluates s
  obtain ⟨d, hpair⟩ := hu.pair
  have hdrill : ((s.setFlag F.PAIR_STAT_ACTING true).raise F.PAIR_INT_LAMP_CHG).rd F.PAIR_CFG_DRILL_H = s.rd F.PAIR_CFG_DRILL_H := by
    rw [State.raise, State.rd_wr_apart _ _ (by decide), State.setFlag, State.rd_wr_apart _ _ (by decide)]
  refine ⟨startActing_acting s, ?_, ?_⟩
  · rw [he, refreshPair_flag (by decide), hu.int.flag rfl]
    exact flag_raise_same (s.setFlag F.PAIR_STAT_ACTING true) (by decide) rfl
  · rw [he, refreshPair_pair, refreshPair_map, hpair, hu.map, ← hdrill]
    exact ⟨rfl, rfl, rfl, rfl, rfl⟩

/-! ### Leases and guards (R224, R225) -/

theorem leaseOk_of {s : State} {l : Lease} (hl : s.pair.lease = some l) : s.leaseOk = decide (s.core.markT + frameTicks < l.exp) := by
  rw [State.leaseOk, hl]
  rfl

section
variable {t : Nat} {l : Lease} {s : State} {rplOk : Bool} (hl : s.pair.lease = some l)
include hl

theorem exec_leaseExpiry : exec (.leaseExpiry t rplOk) s =
    if s.acting = true ∧ s.mode ≠ 0 then
      if s.core.started = true ∧ max s.now t = s.core.markT ∧ s.leaseOk = false then .next ((s.tick t).stopActing 0 rplOk) else .next (s.tick t)
    else if l.exp ≤ max s.now t then
      .next ((s.tick t).mapPair fun p => { p with lease := none, guardAt := none
                                                  ho := p.ho.map fun h => if h.old then h else { h with granted := false } }).refreshPair
    else .next (s.tick t) := by
  show execLeaseExpiry t rplOk s = _
  rw [execLeaseExpiry]
  simp only [State.tick_pair, hl]
  rfl

theorem leaseExpiry_stops (hact : s.acting = true) (hm : s.mode ≠ 0) (hmark : s.core.started = true ∧ max s.now t = s.core.markT)
    (hexp : l.exp ≤ s.core.markT + frameTicks) : exec (.leaseExpiry t rplOk) s = .next ((s.tick t).stopActing 0 rplOk) := by
  have hout : s.leaseOk = false := (leaseOk_of hl).trans (decide_eq_false (by omega))
  rw [exec_leaseExpiry hl, if_pos ⟨hact, hm⟩, if_pos ⟨hmark.1, hmark.2, hout⟩]

theorem leaseExpiry_lasts (hact : s.acting = true) (hm : s.mode ≠ 0)
    (h : ¬(s.core.started = true ∧ max s.now t = s.core.markT) ∨ s.core.markT + frameTicks < l.exp) :
    exec (.leaseExpiry t rplOk) s = .next (s.tick t) := by
  rw [exec_leaseExpiry hl, if_pos ⟨hact, hm⟩, if_neg]
  rintro ⟨hstart, hmark, hout⟩
  rw [leaseOk_of hl] at hout
  exact h.elim (fun h => h ⟨hstart, hmark⟩) fun h => of_decide_eq_false hout h

theorem leaseExpiry_ends (h : s.acting = false ∨ s.mode = 0) (hexp : l.exp ≤ max s.now t) :
    ∃ s', exec (.leaseExpiry t rplOk) s = .next s' ∧ s'.pair.lease = none ∧ s'.pair.guardAt = none ∧ s'.acting = s.acting ∧
      ∀ k, s'.pair.ho = some k → k.old = false → k.granted = false := by
  have hno : ¬(s.acting = true ∧ s.mode ≠ 0) := by
    rintro ⟨hact, hm⟩
    exact h.elim (fun h => Bool.noConfusion (h.symm.trans hact)) hm
  refine next_of ((exec_leaseExpiry hl).trans ((if_neg hno).trans (if_pos hexp))) ?_
  rw [refreshPair_pair, refreshPair_acting]
  refine ⟨rfl, rfl, rfl, fun k hk hnew => ?_⟩
  obtain ⟨h0, -, rfl⟩ := Option.map_eq_some_iff.1 hk
  by_cases hold : h0.old = true
  · rw [if_pos hold, hold] at hnew
    exact Bool.noConfusion hnew
  · rw [if_neg hold]

theorem guardEnd_starts {g : Nat} (hg : s.pair.guardAt = some g) (hmark : s.core.started = true ∧ max s.now t = s.core.markT)
    (hend : g ≤ s.core.markT) (hexp : s.core.markT + frameTicks < l.exp) : exec (.guardEnd t) s = .next (s.tick t).startActing := by
  have hlasts : s.leaseOk = true := (leaseOk_of hl).trans (decide_eq_true hexp)
  show execGuardEnd t s = _
  rw [execGuardEnd]
  simp only [State.tick_pair, hg]
  exact if_pos ⟨hmark.1, hmark.2, hend, hlasts⟩

/-! ### Handovers (R243, R245) -/

theorem newHolderActs_starts {h : Handover} (hho : s.pair.ho = some h) (hnew : h.old = false) (hgrant : h.granted = true)
    (hact : s.acting = false) (hmark : s.core.started = true ∧ max s.now t = s.core.markT) (hexp : s.core.markT + frameTicks < l.exp)
    (hstop : s.pair.stopSeen = true ∨ (16 ≤ fnDist s.fn h.h ∧ fnDist s.fn h.h < 32768)) :
    exec (.newHolderActs t) s = .next (s.tick t).startActing := by
  have hlasts : s.leaseOk = true := (leaseOk_of hl).trans (decide_eq_true hexp)
  show execNewHolderActs t s = _
  rw [execNewHolderActs]
  simp only [State.tick_pair, hho]
  exact if_pos ⟨hnew, hgrant, hact, hmark.1, hmark.2, hlasts, hstop⟩

end

section
variable {t : Nat} {s : State}

theorem handoverMark_stops {h : Handover} {rplOk : Bool} (hho : s.pair.ho = some h) (hold : h.old = true) (hgrant : h.granted = true)
    (hact : s.acting = true) (hmark : s.core.started = true ∧ max s.now t = s.core.markT) (hfn : s.fn = h.h) :
    exec (.handoverMark t rplOk) s = .next ((s.tick t).stopActing 2 rplOk) := by
  show execHandoverMark t rplOk s = _
  rw [execHandoverMark]
  simp only [State.tick_pair, hho]
  exact if_pos ⟨hold, hgrant, hact, hmark.1, hmark.2, hfn⟩

/-- A handover that lapses changes neither the lamp nor the lease. -/
theorem lapse_keeps (s : State) (ok : Bool) : (s.lapse ok).pair.ho = none ∧
    (s.lapse ok).acting = s.acting ∧ (s.lapse ok).pair.lease = s.pair.lease := by
  unfold State.lapse
  extract_lets old dropped ended
  have hended : ended.pair.ho = none ∧ ended.acting = s.acting ∧ ended.pair.lease = s.pair.lease := by
    have hswaps := endSwaps_ended .timeout [] ok dropped.pair.swapAt.length (dropped.setFlag F.PAIR_STAT_SWAP_REQ false)
    unfold ended
    split
    · rw [hswaps.pair, State.acting, State.flag, hswaps.rd _ (by decide) (by decide), ← State.flag, flag_setFlag_apart _ (by decide)]
      exact ⟨rfl, rfl, rfl⟩
    · exact ⟨rfl, rfl, rfl⟩
  rw [refreshPair_pair, refreshPair_acting]
  exact hended

theorem handoverLapse_lapses {h : Handover} {rplOk : Bool} (hho : s.pair.ho = some h) (hgrant : h.granted = false)
    (hlate : h.tick < max s.now t + guardTicks) : ∃ s', exec (.handoverLapse t rplOk) s = .next s' ∧ s'.pair.ho = none ∧
      s'.acting = s.acting ∧ s'.pair.lease = s.pair.lease := by
  refine next_of (u := (s.tick t).lapse rplOk) ?_ (lapse_keeps (s.tick t) rplOk)
  show execHandoverLapse t rplOk s = _
  rw [execHandoverLapse]
  simp only [State.tick_pair, hho]
  exact if_pos ⟨hgrant, hlate⟩

/-! ### The drill and PAIR_SWAP (R242, R252) -/

theorem drillTimer_expires (hact : s.acting = true) (hdue : s.pair.drillAt ≤ max s.now t) (hreq : s.flag F.PAIR_STAT_SWAP_REQ = false) :
    ∃ s', exec (.drillTimer t) s = .next s' ∧ s'.flag F.PAIR_STAT_SWAP_REQ = true ∧
      s'.flag F.PAIR_INT_DRILL_DUE = true ∧ s'.acting = true := by
  refine next_of (if_pos ⟨hact, hdue, hreq⟩) ⟨?_, ?_, ?_⟩
  · rw [refreshPair_flag (by decide), flag_raise_apart _ (by decide), flag_raise_same _ (by decide) rfl]
  · rw [refreshPair_flag (by decide), flag_raise_same _ (by decide) rfl]
  · rw [refreshPair_acting, State.acting, flag_raise_apart _ (by decide), flag_raise_apart _ (by decide)]
    exact hact

theorem pairSwapTimeout_ends {t0 : Nat} {rest : List Nat} {rplOk : Bool} (hswap : s.pair.swapAt = t0 :: rest)
    (hdue : t0 + 5 * secTicks ≤ max s.now t) (hho : s.pair.ho = none) : ∃ u : State, exec (.pairSwapTimeout t rplOk) s =
      .next (u.complete .pairSwap .timeout [] rplOk).refreshPair ∧ u.flag F.PAIR_STAT_SWAP_REQ = false ∧ u.pair.swapAt = rest := by
  refine ⟨((s.tick t).setFlag F.PAIR_STAT_SWAP_REQ false).mapPair fun p => { p with swapAt := rest }, ?_, ?_, rfl⟩
  · show execPairSwapTimeout t rplOk s = _
    rw [execPairSwapTimeout]
    simp only [State.tick_pair, hswap]
    exact if_pos ⟨hdue, hho⟩
  · exact flag_setFlag_same (s.tick t) (by decide) rfl

/-! ### The old holder's transmitters (R222, R245) -/

/-- A port's transmitter goes to electrical idle unless something still demands it. -/
def State.idleTx (s : State) (p : Nat) : State :=
  if s.txDemand p && s.effDuplex then s
  else if (s.dyn p).tx = 3 ∨ s.rd (F.PRT_CFG_LOOP p) ≠ 0 then s else s.mapDyn p fun y => { y with tx := 0 }

theorem idleTx_onlyLine (s : State) (p : Nat) : OnlyLine s (s.idleTx p) := by
  unfold State.idleTx
  split
  · exact .refl s
  · split
    · exact .refl s
    · exact mapDyn_onlyLine ..

theorem OnlyLine.effDuplex {s u : State} (h : OnlyLine s u) : u.effDuplex = s.effDuplex := by
  obtain ⟨l, rfl⟩ := h
  rfl

theorem OnlyLine.pair {s u : State} (h : OnlyLine s u) : u.pair = s.pair := by
  obtain ⟨l, rfl⟩ := h
  rfl

/-- Without EFF_DUPLEX a transmitter that is no client's and not looped goes idle. -/
theorem idleTx_same {s : State} {p : Nat} (hdup : s.effDuplex = false) (hloop : s.rd (F.PRT_CFG_LOOP p) = 0) :
    (s.idleTx p).dyn p = if (s.dyn p).tx = 3 then s.dyn p else { s.dyn p with tx := 0 } := by
  rw [State.idleTx, hdup, Bool.and_false, if_neg (by decide), hloop]
  by_cases h3 : (s.dyn p).tx = 3
  · rw [if_pos (.inl h3), if_pos h3]
  · rw [if_neg (by simpa using h3), if_neg h3, dyn_mapDyn_same]

theorem idleTx_other (s : State) {p q : Nat} (h : q ≠ p) : (s.idleTx q).dyn p = s.dyn p := by
  unfold State.idleTx
  split
  · rfl
  · split
    · rfl
    · exact dyn_mapDyn_other _ _ h

theorem idleAll_dyn {s : State} {p : Nat} (hp : p < 48) (hdup : s.effDuplex = false) (hloop : s.rd (F.PRT_CFG_LOOP p) = 0)
    (h3 : (s.dyn p).tx ≠ 3) : (((List.range 48).foldl State.idleTx s).dyn p).tx = 0 := by
  have hat := foldl_at (l := List.range 48) (I := OnlyLine s) (f := State.idleTx) (g := fun v => v.dyn p)
    (G := fun y => if y.tx = 3 then y else { y with tx := 0 }) (q := p) (fun v x hv => hv.trans (idleTx_onlyLine v x))
    (fun v x hx => idleTx_other v hx) (fun v hv => idleTx_same (hv.effDuplex.trans hdup) ((hv.rd _).trans hloop)) List.nodup_range (.refl s)
  rw [if_pos (List.mem_range.2 hp)] at hat
  rw [hat, if_neg h3]

theorem oldHolderTxIdle_idles {f : Nat} (hf : s.pair.idleFn = some f)
    (hdue : f < s.core.frames ∨ (s.core.frames = f ∧ s.core.markT + 650 ≤ max s.now t)) :
    ∃ s', exec (.oldHolderTxIdle t) s = .next s' ∧ s'.pair.idleFn = none ∧ s'.pair.frozen = [] ∧
      (s.mode = 2 → s.acting = false → s.mateUp = true → s.flag F.PAIR_STAT_MATE_ACTING = true → s.pair.ho = none →
        s.pair.guardAt = none → s'.flag F.PAIR_STAT_EFF_DUPLEX = false ∧
        ∀ p, p < 48 → s.rd (F.PRT_CFG_LOOP p) = 0 → (s.dyn p).tx ≠ 3 → (s'.dyn p).tx = 0) := by
  let v := (s.tick t).mapPair fun p => { p with idleFn := none, frozen := [] }
  generalize hw : (if v.acting then v else (List.range 48).foldl State.idleTx v) = w
  have hline : OnlyLine v w := by
    rw [← hw]
    split
    · exact .refl v
    · exact .foldl idleTx_onlyLine _ v
  have hexec : exec (.oldHolderTxIdle t) s = .next w.refreshPair := by
    rw [← hw]
    show execOldHolderTxIdle t s = _
    rw [execOldHolderTxIdle]
    simp only [State.tick_pair, hf]
    exact if_pos hdue
  refine next_of hexec ?_
  rw [refreshPair_pair, hline.pair]
  refine ⟨rfl, rfl, fun hm hact hup hmate hho hguard => ?_⟩
  have hdup : v.effDuplex = false := by
    have hv : v.mode = 2 ∧ v.mateUp = true ∧ v.acting = false ∧ v.flag F.PAIR_STAT_MATE_ACTING = true ∧ v.pair.ho = none :=
      ⟨hm, hup, hact, hmate, hho⟩
    obtain ⟨hvm, hvup, hvact, hvmate, hvho⟩ := hv
    rw [State.effDuplex, hvm, hvup, hvact, hvmate, hvho]
    rfl
  have hvact : v.acting = false := hact
  refine ⟨by rw [refreshPair_effDuplexFlag, hline.effDuplex, hdup], fun p hp hloop h3 => ?_⟩
  rw [refreshPair_idle ((hline.rd _).trans hm) ((congrArg (· == 1) (hline.rd _)).trans hact) (hline.effDuplex.trans hdup)
    ((congrArg PairSt.guardAt hline.pair).trans hguard) ((hline.rd _).trans hloop), ← hw, if_neg (ne_true_of_eq_false hvact)]
  exact idleAll_dyn hp hdup hloop h3

end

/-- Settles O49: each event by its condition at the mark, stopping by what it gives up before its PAIR_SWAPs are answered, starting by what
it takes before the evaluation. -/
theorem lampEvents : Obligations.LampEvents := by
  intro t l h g f t0 rest cause rplOk s
  exact ⟨leaseExpiry_stops, leaseExpiry_lasts, leaseExpiry_ends, fun hg hmark hend hl hexp => guardEnd_starts hl hg hmark hend hexp,
    handoverMark_stops, fun hho hnew hgrant hact hmark hl hexp hstop => newHolderActs_starts hl hho hnew hgrant hact hmark hexp hstop,
    stopActing_sets s cause rplOk, startActing_sets s, handoverLapse_lapses, drillTimer_expires, oldHolderTxIdle_idles, pairSwapTimeout_ends⟩

end Sys2Proof.Machine
end

section
/-! Proofs: records that the standby's mirror takes (O52; R235 to R239). -/
namespace Sys2Proof.Machine

/-! ### A record of the mirror is taken (R235, R241) -/

/-- What a standby makes of a record of the mirror: it applies it, or keeps it while a resynchronisation is under way. -/
def State.takeMirror (s : State) (h : RecHdr) (b : MateBody) : State :=
  if s.mate.rs.isSome && !b.resync then s.mapMate fun m => { m with rs := m.rs.map fun x => { x with later := x.later ++ [recordOf h b] } }
  else (s.noteRec (recordOf h b)).applyBody h.last b

section
variable {t : Nat} {s : State} {h : RecHdr} {b : MateBody}

/-- Only the start of a resynchronisation is taken by a mirror that has asked for one. -/
theorem mateRecord_mirror (hr : RecordTaken s h b) (hm : Mirrors s) (hb : b.lamp = false)
    (hreq : s.mate.reqSent = false ∨ ∃ fn, b = .resyncBegin fn) : (s.tick t).mateRecord h b = ((s.tick t).hears h).takeMirror h b := by
  have hlink : ¬((s.tick t).mode = 0 ∨ (s.tick t).mateUp = false ∨ (s.tick t).alive = false) := by
    rintro (hm | hu | ha)
    · exact hr.mode hm
    · exact Bool.noConfusion (hr.up.symm.trans hu)
    · exact Bool.noConfusion (hr.alive.symm.trans ha)
  have hgap : (s.tick t).mate.seqIn.any (fun q => decide (h.seq ≠ q + 1)) = false := by
    rw [State.tick_mate]
    rcases hr.seq with hq | hq
    · rw [hq]; rfl
    · simp [hq]
  have hepoch : epochNewer ((s.tick t).hears h).epoch h.epoch = false := hr.epoch
  have hact : ((s.tick t).hears h).acting = false := hm.standby
  have hmarch : (((s.tick t).hears h).pwr.march != 0) = false := by
    rw [show ((s.tick t).hears h).pwr.march = 0 from hm.march]
    rfl
  rw [State.mateRecord, if_neg hlink, if_neg (by rw [hr.crc]; decide)]
  extract_lets gap heard asked r
  have hasked : asked = (s.tick t).hears h := if_neg (ne_true_of_eq_false hgap)
  clear_value asked
  subst hasked
  rw [if_neg (ne_true_of_eq_false hepoch)]
  have htakes : s.mate.reqSent = false →
      ¬(((s.tick t).hears h).acting || ((s.tick t).hears h).mate.reqSent || (((s.tick t).hears h).pwr.march != 0)) = true := fun hreq => by
    rw [hact, hmarch, show ((s.tick t).hears h).mate.reqSent = false from hreq]
    exact Bool.false_ne_true
  cases b with
  | heartbeat | stop | handover | resyncReq => exact Bool.noConfusion hb
  | resyncBegin fn =>
    rw [State.takeMirror, MateBody.resync, Bool.not_true, Bool.and_false, if_neg Bool.false_ne_true]
    refine if_neg ?_
    rw [hact, hmarch]
    exact Bool.false_ne_true
  | _ => exact if_neg (htakes (hreq.resolve_right (by rintro ⟨fn, hfn⟩; cases hfn)))

/-- `v` is the standby after it has heard and noted a record: time, the SEQ heard, and registers of TALLY and PAIR. -/
structure Noted (t : Nat) (h : RecHdr) (s v : State) : Prop where
  rest : ∃ r, v = { s.tick t with regs := r, mate := { s.mate with seqIn := some h.seq } }
  reg : ∀ a, a < 0x40040000 ∨ 0x40050000 ≤ a → a ≠ 0x40060024 → a ≠ 0x40060028 → v.reg a = s.reg a

theorem noted (t : Nat) (s : State) (h : RecHdr) (b : MateBody) : Noted t h s (((s.tick t).hears h).noteRec (recordOf h b)) :=
  ⟨noteRec_onlyRegs ((s.tick t).hears h) (recordOf h b), fun _ ha hseq hfn => noteRec_reg ((s.tick t).hears h) (recordOf h b) ha hseq hfn⟩

namespace Noted

variable {v : State} (hv : Noted t h s v)
include hv

theorem rd {f : Fld} (hf : 0x40050000 ≤ f.addr) (hseq : f.addr ≠ 0x40060024) (hfn : f.addr ≠ 0x40060028) : v.rd f = s.rd f := by
  rw [State.rd, State.rd, hv.reg _ (.inr hf) hseq hfn]

theorem fn : v.fn = s.fn := by
  rw [State.fn, State.rd, hv.reg _ (by decide) (by decide) (by decide), ← State.rd, ← State.fn]

theorem mode : v.mode = s.mode := hv.rd (by decide) (by decide) (by decide)

theorem acting : v.acting = s.acting := congrArg (· == 1) (hv.rd (f := F.PAIR_STAT_ACTING) (by decide) (by decide) (by decide))

theorem mate : v.mate = { s.mate with seqIn := some h.seq } := by
  obtain ⟨r, rfl⟩ := hv.rest
  rfl

theorem sel : v.sel = s.sel := by
  obtain ⟨r, rfl⟩ := hv.rest
  rfl

theorem tmg : v.tmg = s.tmg := by
  obtain ⟨r, rfl⟩ := hv.rest
  rfl

theorem map : v.map = s.map := by
  obtain ⟨r, rfl⟩ := hv.rest
  rfl

theorem now : v.now = max s.now t := by
  obtain ⟨r, rfl⟩ := hv.rest
  rfl

theorem samePages : SamePages s v := ⟨hv.rd (by decide) (by decide) (by decide), by rw [hv.map], by rw [hv.map]⟩

end Noted

/-- A mirror in step applies the record at once. -/
theorem inStep_applies (hr : RecordTaken s h b) (hi : InStep s) (hb : b.lamp = false) :
    ∃ v, Noted t h s v ∧ v = ((s.tick t).hears h).noteRec (recordOf h b) ∧ (s.tick t).mateRecord h b = v.applyBody h.last b := by
  refine ⟨_, noted t s h b, rfl, (mateRecord_mirror hr hi.toMirrors hb (.inl hi.req)).trans (if_neg ?_)⟩
  rw [show ((s.tick t).hears h).mate.rs = none from hi.rs]
  exact Bool.false_ne_true

end

/-! ### Entries (R236) -/

/-- One mirrored entry goes into the shadow page and is dirty where it differs from the active one (R63). -/
def State.takeEntry (s : State) (e : Nat × W64) : State :=
  let s := s.setShadow (putEntry s.shadow e.1 e.2)
  if e.1 < lineSlots then
    s.mapMap fun m => { m with dirty := Store.put (fun _ => false) m.dirty e.1 (decide (e.2 ≠ entryAt s.active e.1)) }
  else s

theorem takeEntry_samePages (s : State) (e : Nat × W64) : SamePages (s.setShadow (putEntry s.shadow e.1 e.2)) (s.takeEntry e) := by
  unfold State.takeEntry
  extract_lets u
  split <;> exact ⟨rfl, rfl, rfl⟩

theorem takeEntry_onlyMap (s : State) (e : Nat × W64) : OnlyMap s (s.takeEntry e) := by
  unfold State.takeEntry
  extract_lets u
  have hu : OnlyMap s u := ⟨_, rfl⟩
  split
  · exact hu.trans ⟨_, rfl⟩
  · exact hu

theorem takeEntries_eq (s : State) (es : List (Nat × W64)) :
    s.takeEntries es = ((es.foldl State.takeEntry s).setFlag F.MAP_STATUS_CHECK_VALID false).showDirty := rfl

theorem takeEntry_foldl (es : List (Nat × W64)) (s : State) : OnlyMap s (es.foldl State.takeEntry s) ∧
    (es.foldl State.takeEntry s).shadow = es.foldl (fun p e => putEntry p e.1 e.2) s.shadow ∧ (es.foldl State.takeEntry s).active = s.active := by
  induction es generalizing s with
  | nil => exact ⟨.refl s, rfl, rfl⟩
  | cons e es ih =>
    obtain ⟨hmap, hshadow, hactive⟩ := ih (s.takeEntry e)
    have hone := takeEntry_samePages s e
    refine ⟨(takeEntry_onlyMap s e).trans hmap, ?_, ?_⟩
    · rw [List.foldl_cons, hshadow, hone.shadow, shadow_setShadow, List.foldl_cons]
    · rw [List.foldl_cons, hactive, hone.active, active_setShadow]

theorem takeEntries_sets (s : State) (es : List (Nat × W64)) :
    (s.takeEntries es).shadow = es.foldl (fun p e => putEntry p e.1 e.2) s.shadow ∧ (s.takeEntries es).active = s.active ∧
      (s.takeEntries es).flag F.MAP_STATUS_CHECK_VALID = false ∧ (s.takeEntries es).sel = s.sel := by
  obtain ⟨⟨m, hm⟩, hshadow, hactive⟩ := takeEntry_foldl es s
  have hpages : SamePages (es.foldl State.takeEntry s) (s.takeEntries es) := by
    refine ⟨?_, rfl, rfl⟩
    rw [takeEntries_eq, State.activeNo, State.showDirty, State.rd_wr_apart _ _ (by decide), State.setFlag, State.rd_wr_apart _ _ (by decide),
      State.activeNo]
  refine ⟨hpages.shadow.trans hshadow, hpages.active.trans hactive, ?_, ?_⟩
  · rw [takeEntries_eq, State.showDirty, flag_wr_apart _ _ (by decide), flag_setFlag_same _ (by decide) rfl]
  · exact (congrArg State.sel hm :)

/-! ### Commits (R107, R236) -/

/-- A wish for a resynchronisation leaves the mirrored commit. -/
theorem wantResync_mcommit (s : State) : s.wantResync.mate.mcommit = s.mate.mcommit := by
  unfold State.wantResync
  split
  · rfl
  · extract_lets asks
    split
    · obtain ⟨q, o, hmate⟩ := sendFor_mate asks asks.fn .resyncReq true
      rw [State.mapMate_mate, State.sendRec, hmate]
      rfl
    · rfl

/-- A standby that wants a resynchronisation notes it, whether or not the mate can hear the request. -/
theorem wantResync_asks {s : State} (hact : s.acting = false) (hm : s.mode ≠ 0) : s.wantResync.mate.reqSent = true := by
  have hmode : (s.mode == 0) = false := beq_eq_false_iff_ne.2 hm
  unfold State.wantResync
  rw [hact, hmode, Bool.false_or, Bool.false_or]
  split
  · next hasked => exact (Bool.and_eq_true_iff.1 hasked).1
  · extract_lets asks
    split
    · obtain ⟨q, o, hmate⟩ := sendFor_mate asks asks.fn .resyncReq true
      rw [State.mapMate_mate, State.sendRec, hmate]
      rfl
    · rfl

/-- The mirrored commit is gone, and the discard is shown. -/
def State.dropMirrored (s : State) : State := (s.mapMate fun m => { m with mcommit := none }).raise F.PAIR_INT_DIFF_DISCARD

theorem dropMirrored_rd (s : State) {f : Fld} (h : F.PAIR_INT_DIFF_DISCARD.apart f = true) : s.dropMirrored.rd f = s.rd f :=
  State.rd_wr_apart (s.mapMate _) _ h

/-- A discarded commit leaves the pages. -/
theorem discardMirrored_sets (s : State) (again : Bool) : SamePages s (s.discardMirrored again) ∧
    (s.discardMirrored again).mate.mcommit = none ∧ (s.discardMirrored again).flag F.PAIR_INT_DIFF_DISCARD = true := by
  have hflag : s.dropMirrored.flag F.PAIR_INT_DIFF_DISCARD = true := flag_raise_same _ (by decide) rfl
  have hpages : SamePages s s.dropMirrored := ⟨dropMirrored_rd s (by decide), rfl, rfl⟩
  cases again with
  | false => exact ⟨hpages, rfl, hflag⟩
  | true =>
    obtain ⟨m, hrest⟩ := (wantResync_onlyMate s.dropMirrored).rest
    refine ⟨⟨?_, ?_, ?_⟩, wantResync_mcommit s.dropMirrored, ?_⟩
    · exact (congrArg State.activeNo hrest).trans hpages.no
    · exact (congrArg (fun u : State => u.map.page0) hrest).trans hpages.page0
    · exact (congrArg (fun u : State => u.map.page1) hrest).trans hpages.page1
    · exact (congrArg (State.flag · F.PAIR_INT_DIFF_DISCARD) hrest).trans hflag

/-- Where the commit came too late a standby asks for a resynchronisation. -/
theorem discardMirrored_asks {s : State} (hact : s.acting = false) (hm : s.mode ≠ 0) : (s.discardMirrored true).mate.reqSent = true :=
  wantResync_asks (s := s.dropMirrored) ((congrArg (· == 1) (dropMirrored_rd s (f := F.PAIR_STAT_ACTING) (by decide))).trans hact)
    (ne_of_eq_of_ne (dropMirrored_rd s (by decide)) hm)

theorem preboost_samePages (s : State) (n : Nat) (target : W16) : SamePages s (s.preboost n target) := by
  obtain ⟨hmap, -⟩ := preboost_map_out s n target
  exact ⟨preboost_rd (by decide), by rw [hmap], by rw [hmap]⟩

theorem SamePages.trans {s u w : State} (h : SamePages s u) (g : SamePages u w) : SamePages s w :=
  ⟨g.no.trans h.no, g.page0.trans h.page0, g.page1.trans h.page1⟩

section
variable {t : Nat} {s : State} {h : RecHdr}

theorem mapEntries_taken {es : List (BitVec 25 × W64)} (hi : InStep s) (hr : RecordTaken s h (.mapEntries (es.map fun e => (e.1.toNat, e.2)))) :
    ∃ s', exec (.mapEntries t h es) s = .next s' ∧ s'.shadow = es.foldl (fun p e => putEntry p e.1.toNat e.2) s.shadow ∧
      s'.active = s.active ∧ s'.flag F.MAP_STATUS_CHECK_VALID = false ∧ s'.sel = s.sel := by
  obtain ⟨v, hv, -, hexec⟩ := inStep_applies (t := t) hr hi rfl
  obtain ⟨hshadow, hactive, hvalid, hsel⟩ := takeEntries_sets v (es.map fun e => (e.1.toNat, e.2))
  refine next_of (congrArg Host.Outcome.next hexec) ⟨hshadow.trans ?_, hactive.trans hv.samePages.active, hvalid, hsel.trans hv.sel⟩
  rw [List.foldl_map, hv.samePages.shadow]

theorem commitArm_taken {fn id : W16} {sent : W32} (hi : InStep s) (hr : RecordTaken s h (.commitArm fn id sent)) :
    ∃ s', exec (.commitArm t h fn id sent) s = .next s' ∧ s'.active = s.active ∧ s'.shadow = s.shadow ∧
      (2 ≤ fnDist fn s.fn → fnDist fn s.fn < 32768 → s'.mate.mcommit = some { target := fn, id := id }) ∧
      (¬(2 ≤ fnDist fn s.fn ∧ fnDist fn s.fn < 32768) →
        s'.mate.mcommit = none ∧ s'.flag F.PAIR_INT_DIFF_DISCARD = true ∧ s'.mate.reqSent = true) := by
  obtain ⟨v, hv, -, hexec⟩ := inStep_applies (t := t) hr hi rfl
  refine next_of (u := v.takeArm fn id) (congrArg Host.Outcome.next hexec) ?_
  rw [State.takeArm, hv.fn]
  split
  · next htime =>
    have hboost := hv.samePages.trans (preboost_samePages v v.shadowPeak.1 fn)
    have hpages : SamePages s ((v.preboost v.shadowPeak.1 fn).mapMate fun m => { m with mcommit := some { target := fn, id := id } }) :=
      ⟨hboost.no, hboost.page0, hboost.page1⟩
    exact ⟨hpages.active, hpages.shadow, fun _ _ => rfl, fun hlate => absurd htime hlate⟩
  · next hlate =>
    obtain ⟨hpages, hcommit, hflag⟩ := discardMirrored_sets v true
    have hasked := discardMirrored_asks (hv.acting.trans hi.standby) (hv.mode.trans_ne hr.mode)
    have hboth := hv.samePages.trans hpages
    exact ⟨hboth.active, hboth.shadow, fun hlo hhi => absurd ⟨hlo, hhi⟩ hlate, fun _ => ⟨hcommit, hflag, hasked⟩⟩

theorem commitCancel_taken {fn : W16} (hi : InStep s) (hr : RecordTaken s h (.commitCancel fn)) :
    ∃ s', exec (.commitCancel t h fn) s = .next s' ∧ s'.active = s.active ∧ s'.shadow = s.shadow ∧ s'.mate.reqSent = false ∧
      (∀ c, s.mate.mcommit = some c → c.target = fn → s'.mate.mcommit = none ∧ s'.flag F.PAIR_INT_DIFF_DISCARD = true) ∧
      ((∀ c, s.mate.mcommit = some c → c.target ≠ fn) → s'.mate.mcommit = s.mate.mcommit) := by
  obtain ⟨v, hv, -, hexec⟩ := inStep_applies (t := t) hr hi rfl
  have hcommit : v.mate.mcommit = s.mate.mcommit := by rw [hv.mate]
  have hreq : v.mate.reqSent = false := by rw [hv.mate]; exact hi.req
  refine next_of (u := if v.mate.mcommit.any (fun c : MirrorCommit => decide (c.target = fn)) then v.discardMirrored false else v)
    (congrArg Host.Outcome.next hexec) ?_
  rw [hcommit]
  split
  · next hany =>
    obtain ⟨hpages, hnone, hflag⟩ := discardMirrored_sets v false
    have hboth := hv.samePages.trans hpages
    refine ⟨hboth.active, hboth.shadow, hreq, fun _ _ _ => ⟨hnone, hflag⟩, fun hother => ?_⟩
    obtain ⟨c, hc, hct⟩ := (Option.any_eq_true ..).1 hany
    exact absurd (of_decide_eq_true hct) (hother c hc)
  · next hnot =>
    refine ⟨hv.samePages.active, hv.samePages.shadow, hreq, fun c hc hct => absurd ?_ hnot, fun _ => hcommit⟩
    rw [hc, Option.any_some]
    exact decide_eq_true hct

/-! ### Selectors and history (R237, R239) -/

theorem rd_inc (s : State) {f : Fld} (n : Nat) (h : f.lo + f.w ≤ 32) : (s.inc f n).rd f = min (2 ^ f.w - 1) (s.rd f + n) := by
  have hlt : min (2 ^ f.w - 1) (s.rd f + n) < 2 ^ f.w := by
    have := Nat.two_pow_pos f.w
    omega
  exact rd_wr_lt s h hlt

theorem selState_taken {items : List W64} (hi : InStep s) (hr : RecordTaken s h (.selState items)) :
    ∃ s', exec (.selState t h items) s = .next s' ∧ s'.mate.selQ = s.mate.selQ ++ items ∧ s'.sel = s.sel ∧
      s'.rd F.PAIR_MIR_LATE_COUNT = min (2 ^ F.PAIR_MIR_LATE_COUNT.w - 1)
        (s.rd F.PAIR_MIR_LATE_COUNT + (items.filter fun x => !fnFuture (itemFn x) s.fn).length) := by
  obtain ⟨v, hv, -, hexec⟩ := inStep_applies (t := t) hr hi rfl
  refine next_of (u := v.takeSelState items) (congrArg Host.Outcome.next hexec) ⟨?_, hv.sel, ?_⟩
  · show v.mate.selQ ++ items = _
    rw [hv.mate]
  · rw [State.takeSelState, State.mapMate_rd, rd_inc _ _ (by decide), hv.rd (by decide) (by decide) (by decide), hv.fn]

theorem historyRecord_taken {off : W32} {rec_ : Bool} {fn : W16} (hi : InStep s) (hr : RecordTaken s h (.history off rec_ fn)) :
    ∃ s', exec (.historyRecord t h off rec_ fn) s = .next s' ∧ s'.map = s.map ∧
      s'.tmg = { s.tmg with mateHist := ((if rec_ then [(max s.now t, off.toInt)] else []) ++ s.tmg.mateHist).take 908 } := by
  obtain ⟨v, hv, -, hexec⟩ := inStep_applies (t := t) hr hi rfl
  refine next_of (u := v.mapTmg fun x => { x with mateHist := ((if rec_ then [(v.now, off.toInt)] else []) ++ x.mateHist).take 908 })
    (congrArg Host.Outcome.next hexec) ⟨hv.map, ?_⟩
  rw [State.mapTmg_tmg, hv.tmg, hv.now]

end

/-! ### Mirrored commands (R238) -/

/-- Output settings do not depend on the state. -/
theorem timingOk_outputs {s : State} {d : List W32} (hop : bits (word d 2) 0 4 = 3) (u : State) : timingOk u d = timingOk s d := by
  simp only [timingOk, State.timingCase, hop]

theorem applyCommand_outputs {s : State} {d : List W32} (hopc : opcode d = 0x40) (hop : bits (word d 2) 0 4 = 3) (hok : timingOk s d = true) :
    s.applyCommand d [] = some (s.startOutputs.noteClk (s.startOutputs.setReg 0x40050020 (d.getD 3 0))) := by
  simp only [State.applyCommand, List.isEmpty_nil, if_true, hopc, hok, applyTiming_outputs hop.ge]

theorem startOutputs_map_mate (s : State) : s.startOutputs.map = s.map ∧ s.startOutputs.mate = s.mate := by
  unfold State.startOutputs
  split <;> exact ⟨rfl, rfl⟩

section
variable {t : Nat} {s : State} {h : RecHdr} {off total : W32} {d : List W32} {data : List W8}

/-- The parts of a command that are there once this one is. -/
def State.partsWith (s : State) (off total : W32) (d : List W32) (data : List W8) : List (List W32 × Nat × Nat × List W8) :=
  (if off.toNat = 0 then [] else s.mate.parts) ++ [(d, off.toNat, total.toNat, data)]

/-- The buffer data of parts in turn. -/
def wholeOf (parts : List (List W32 × Nat × Nat × List W8)) : List W8 := parts.flatMap fun p => p.2.2.2

theorem settingsRecord_part (hi : InStep s) (hr : RecordTaken s h (.settings off total d data)) (hlast : h.last = false) :
    ∃ s', exec (.settingsRecord t h off total d data) s = .next s' ∧ s'.map = s.map ∧ s'.sel = s.sel ∧
      s'.mate.parts = s.partsWith off total d data := by
  obtain ⟨v, hv, -, hexec⟩ := inStep_applies (t := t) hr hi rfl
  refine next_of (u := v.mapMate fun m => { m with parts := v.partsWith off total d data }) ?_ ⟨hv.map, hv.sel, ?_⟩
  · refine congrArg Host.Outcome.next (hexec.trans ?_)
    rw [hlast]
    rfl
  · rw [State.mapMate_mate, State.partsWith, hv.mate, State.partsWith]

/-- With its last part a command is applied where all of its data are there. -/
theorem takeSettings_last (s : State) (off total : W32) (d : List W32) (data : List W8) :
    let u := s.mapMate fun m => { m with parts := [] }
    let whole := wholeOf (s.partsWith off total d data)
    s.takeSettings true off.toNat total.toNat d data =
      if whole.length ≠ total.toNat then u.wantResync else (u.applyCommand d whole).getD u.wantResync := by
  unfold State.takeSettings
  extract_lets u whole parts data
  rw [if_pos rfl]
  refine congrArg (ite _ u.wantResync) ?_
  split
  · next happlied => exact (congrArg (Option.getD · u.wantResync) happlied).symm
  · next hnone => exact (congrArg (Option.getD · u.wantResync) hnone).symm

theorem settingsRecord_last (hi : InStep s) (hr : RecordTaken s h (.settings off total d data)) (hlast : h.last = true) :
    let u := (((s.tick t).hears h).noteRec (recordOf h (.settings off total d data))).mapMate fun m => { m with parts := [] }
    let whole := wholeOf (s.partsWith off total d data)
    exec (.settingsRecord t h off total d data) s =
      .next (if whole.length ≠ total.toNat then u.wantResync else (u.applyCommand d whole).getD u.wantResync) := by
  obtain ⟨v, hv, rfl, hexec⟩ := inStep_applies (t := t) hr hi rfl
  have hparts : (((s.tick t).hears h).noteRec (recordOf h (.settings off total d data))).partsWith off total d data =
      s.partsWith off total d data := by rw [State.partsWith, hv.mate, State.partsWith]
  refine congrArg Host.Outcome.next (hexec.trans ?_)
  rw [← hparts, hlast]
  exact takeSettings_last ..

theorem settingsRecord_outputs (hi : InStep s) (hr : RecordTaken s h (.settings off total d data)) (hlast : h.last = true)
    (hwhole : wholeOf (s.partsWith off total d data) = []) (htotal : total = 0) (hopc : opcode d = 0x40) (hop : bits (word d 2) 0 4 = 3)
    (hok : timingOk s d = true) : ∃ s', exec (.settingsRecord t h off total d data) s = .next s' ∧ s'.reg 0x40050020 = d.getD 3 0 ∧
      s'.mate.parts = [] ∧ s'.map = s.map := by
  have hexec := settingsRecord_last (t := t) hi hr hlast
  extract_lets u whole at hexec
  have hv := noted t s h (.settings off total d data)
  have hmap : u.map = s.map := hv.map
  rw [show whole = [] from hwhole, if_neg (by rw [htotal]; decide),
    applyCommand_outputs hopc hop ((timingOk_outputs hop u).trans hok), Option.getD_some] at hexec
  obtain ⟨hstart, hparts⟩ := startOutputs_map_mate u
  exact next_of hexec ⟨(State.reg_setReg ..).trans (if_pos rfl), (congrArg MateSt.parts hparts :), hstart.trans hmap⟩

end

/-- Settles O52: a mirror in step applies each record to the state that has heard and noted it. -/
theorem mirrorRecords : Obligations.MirrorRecords := by
  intro t h es fn id sent off total items rec_ d data s hi
  refine ⟨mapEntries_taken hi, commitArm_taken hi, commitCancel_taken hi, selState_taken hi, historyRecord_taken hi, fun hr => ?_⟩
  exact ⟨settingsRecord_part hi hr, fun hlast hlen => (settingsRecord_last hi hr hlast).trans (congrArg Host.Outcome.next (if_pos hlen)),
    fun hlast hlen => (settingsRecord_last hi hr hlast).trans (congrArg Host.Outcome.next (if_neg (not_not_intro hlen))),
    fun hlast => settingsRecord_outputs hi hr hlast⟩

end Sys2Proof.Machine
end

section
/-! Proofs: a full resynchronisation, and the standby's swap at a mirrored commit (O53; R236, R241, R318). -/
namespace Sys2Proof.Machine

/-! ### The holder's snapshot (R241) -/

namespace HostKept

variable {s u : State} (h : HostKept s u)
include h

theorem samePages : SamePages s u := ⟨h.rd (by decide) (by decide), by rw [h.map], by rw [h.map]⟩

theorem selShown (i : Nat) : u.selShown i = s.selShown i := by
  obtain ⟨r, x, y, o, rfl⟩ := h.rest
  rfl

theorem remaining (k n : Nat) : u.remaining k n = s.remaining k n := by
  obtain ⟨r, x, y, o, rfl⟩ := h.rest
  rfl

theorem lineStateShown {w : Nat} (hw : w < 48) : u.lineStateShown w = s.lineStateShown w := by
  have hstate : u.lineState w = s.lineState w := by rw [State.lineState, State.lineState, h.reg _ (by omega) (by omega)]
  rw [State.lineStateShown, State.lineStateShown, hstate, h.remaining]

theorem groupWords : u.groupWords = s.groupWords := by
  refine List.flatMap_congr fun w hw => ?_
  have hlt := List.mem_range.1 hw
  rw [h.reg _ (by omega) (by omega), h.reg _ (by omega) (by omega), h.lineStateShown hlt]

theorem settings : settingRegs.map (fun x => (x.1, u.reg x.1 &&& x.2)) = settingRegs.map fun x => (x.1, s.reg x.1 &&& x.2) := by
  have hrange : ∀ x ∈ settingRegs, 0x40050000 ≤ x.1 ∧ x.1 < 0x400A0000 := by decide
  refine List.map_congr_left fun x hx => ?_
  obtain ⟨hlo, hhi⟩ := hrange x hx
  rw [h.reg _ hlo hhi]

/-- What replies and resets of masters change is no part of a snapshot. -/
theorem snapshot : u.snapshot = s.snapshot := by
  simp only [State.snapshot, h.samePages.active, h.samePages.shadow, h.map, h.sel, h.tmg, h.groupWords, h.settings, h.selShown]

end HostKept

/-- Nothing of the mate link is part of a snapshot. -/
theorem snapshot_mapMate (s : State) (f : MateSt → MateSt) : (s.mapMate f).snapshot = s.snapshot := rfl

/-! ### Records leave for the mate (R233) -/

/-- From `s` to `u` records with these bodies were sent. -/
structure Sent (s : State) (bs : List MateBody) (u : State) : Prop where
  out : u.mate.out.map (fun r => r.body) = s.mate.out.map (fun r => r.body) ++ bs
  reqPend : u.mate.reqPend = s.mate.reqPend
  map : u.map = s.map
  mode : u.mode = s.mode
  mateUp : u.mateUp = s.mateUp
  acting : u.acting = s.acting

namespace Sent

variable {s u : State} {bs : List MateBody}

theorem refl (s : State) : Sent s [] s := ⟨(List.append_nil _).symm, rfl, rfl, rfl, rfl, rfl⟩

section
variable (hm : s.mode ≠ 0) (hup : s.mateUp = true)
include hm hup

theorem send (h : Sent s bs u) (b : MateBody) (last : Bool) : Sent s (bs ++ [b]) (u.sendRec b last) := by
  obtain ⟨q, o, hmate⟩ := sendFor_mate u u.fn b last
  have hrd : ∀ f : Fld, 0x40050000 ≤ f.addr → f.addr ≠ 0x40060024 → (u.sendRec b last).rd f = u.rd f := fun f hf hseq =>
    ((RegKept.refl f.addr u).sendFor (.inr hf) hseq).rd rfl
  refine ⟨?_, ?_, (sendFor_onlyMirror ..).map.trans h.map, (hrd _ (by decide) (by decide)).trans h.mode,
    (congrArg (· == 1) (hrd _ (by decide) (by decide))).trans h.mateUp, (congrArg (· == 1) (hrd _ (by decide) (by decide))).trans h.acting⟩
  · rw [State.sendRec, sendFor_out (ne_of_eq_of_ne h.mode hm) (h.mateUp.trans hup), h.out, List.append_assoc]
  · rw [State.sendRec, hmate, ← h.reqPend]

theorem sendAll {α : Type} (f : α → MateBody) (l : List α) (h : Sent s bs u) :
    Sent s (bs ++ l.map f) (l.foldl (fun v x => v.sendRec (f x) true) u) := by
  induction l generalizing u bs with
  | nil => rwa [List.map_nil, List.append_nil]
  | cons x l ih =>
    have hl := ih (h.send hm hup (f x) true)
    rwa [List.append_assoc] at hl

end
end Sent

/-- The records of a full resynchronisation, region by region (R241). -/
def State.sendSnapshot (s : State) : State :=
  (s.snapshot.foldl (fun u r => u.sendRec (.resyncAll r) true) (s.sendRec (.resyncBegin s.fn) true)).sendRec
    (.resyncEnd (BitVec.ofNat 32 ((s.snapshot.map Region.records).sum + 2))) true

theorem sendSnapshot_sent {s : State} (hm : s.mode ≠ 0) (hup : s.mateUp = true) :
    Sent s ([.resyncBegin s.fn] ++ s.snapshot.map .resyncAll ++ [.resyncEnd (BitVec.ofNat 32 ((s.snapshot.map Region.records).sum + 2))])
      s.sendSnapshot :=
  (((Sent.refl s).send hm hup (.resyncBegin s.fn) true).sendAll hm hup .resyncAll s.snapshot).send hm hup _ true

/-- The holder heeds the request: unclaimed banks and semaphores go back to their masters, and the request is no longer pending (R294). -/
def State.heedRequest (s : State) : State := (s.resetMaster 7).mapMate fun m => { m with reqPend := false }

/-- From `s` to `u` the request was heeded, and nothing of what the snapshot has or decides changed. -/
structure Heeded (s u : State) : Prop where
  mode : u.mode = s.mode
  mateUp : u.mateUp = s.mateUp
  acting : u.acting = s.acting
  fn : u.fn = s.fn
  map : u.map = s.map
  out : u.mate.out = s.mate.out
  reqPend : u.mate.reqPend = false
  snapshot : u.snapshot = s.snapshot

theorem HostKept.heeded {s u : State} (h : HostKept s u) : Heeded s (u.mapMate fun m => { m with reqPend := false }) :=
  ⟨h.mode, h.mateUp, h.acting, h.fn, h.map, (congrArg MateSt.out h.mate :), rfl, (snapshot_mapMate _ _).trans h.snapshot⟩

theorem heedRequest_heeded (s : State) : Heeded s s.heedRequest := (HostKept.refl s).resetMaster.heeded

section
variable {t : Nat} {s : State}

theorem exec_resyncStart : exec (.resyncStart t) s =
    if s.mate.reqPend = true ∧ s.acting = true ∧ s.core.started = true ∧ max s.now t = s.core.markT ∧ s.mode ≠ 0 ∧
      s.flag F.CORE_STATUS_BG_SUSPENDED = false then .next (s.tick t).heedRequest.sendSnapshot else .next (s.tick t) := rfl

theorem resyncStart_sends (hreq : s.mate.reqPend = true) (hact : s.acting = true) (hmark : s.core.started = true ∧ max s.now t = s.core.markT)
    (hm : s.mode ≠ 0) (hup : s.mateUp = true) (hsusp : s.flag F.CORE_STATUS_BG_SUSPENDED = false) :
    ∃ s', exec (.resyncStart t) s = .next s' ∧ s'.mate.reqPend = false ∧ s'.acting = true ∧ s'.map = s.map ∧
      s'.mate.out.map (fun x => x.body) = s.mate.out.map (fun x => x.body) ++ [.resyncBegin s.fn] ++ (s.tick t).snapshot.map .resyncAll ++
        [.resyncEnd (BitVec.ofNat 32 (((s.tick t).snapshot.map Region.records).sum + 2))] := by
  have hheeded := heedRequest_heeded (s.tick t)
  have hsent := sendSnapshot_sent (ne_of_eq_of_ne hheeded.mode hm) (hheeded.mateUp.trans hup)
  rw [hheeded.snapshot, hheeded.fn] at hsent
  refine next_of (exec_resyncStart.trans (if_pos ⟨hreq, hact, hmark.1, hmark.2, hm, hsusp⟩)) ⟨hsent.reqPend.trans hheeded.reqPend,
    hsent.acting.trans (hheeded.acting.trans hact), hsent.map.trans hheeded.map, ?_⟩
  rw [hsent.out, hheeded.out, ← List.append_assoc, ← List.append_assoc]
  rfl

theorem resyncStart_waits (h : s.mate.reqPend = false ∨ s.flag F.CORE_STATUS_BG_SUSPENDED = true) :
    exec (.resyncStart t) s = .next (s.tick t) := by
  refine if_neg ?_
  rintro ⟨hreq, -, -, -, -, hsusp⟩
  exact h.elim (fun h => Bool.noConfusion (h.symm.trans hreq)) fun h => Bool.noConfusion (h.symm.trans hsusp)

end

/-! ### The standby receives (R231, R241) -/

section
variable {t : Nat} {s : State} {h : RecHdr}

theorem resyncBegin_starts {fn : W16} (hm : Mirrors s) (hr : RecordTaken s h (.resyncBegin fn)) :
    ∃ s', exec (.resyncBegin t h fn) s = .next s' ∧ s'.mate.rs = some { got := [], ended := false, later := [] } ∧
      s'.mate.reqSent = false ∧ s'.map = s.map ∧ s'.flag F.PAIR_STAT_RESYNC = true ∧
      (s.pair.guardAt = none → s'.flag F.PAIR_STAT_READY = false) := by
  have hv := noted t s h (.resyncBegin fn)
  generalize hvdef : ((s.tick t).hears h).noteRec (recordOf h (.resyncBegin fn)) = v at hv
  let w := v.mapMate fun m => { m with rs := some { got := [], ended := false, later := [] }, reqSent := false, reqOut := false, parts := [] }
  have hexec : exec (.resyncBegin t h fn) s = .next w.refreshPair := by
    refine congrArg Host.Outcome.next ((mateRecord_mirror hr hm rfl (.inr ⟨fn, rfl⟩)).trans ?_)
    rw [State.takeMirror, MateBody.resync, Bool.not_true, Bool.and_false, if_neg Bool.false_ne_true, hvdef]
    rfl
  have hresync : w.resyncing = true := by
    have hact : w.acting = false := hv.acting.trans hm.standby
    have hmode : (w.mode != 0) = true := bne_iff_ne.2 (ne_of_eq_of_ne hv.mode hr.mode)
    rw [State.resyncing, hact, hmode]
    exact Bool.or_true _
  have hpair : w.pair = s.pair := by
    obtain ⟨r, hrest⟩ := hv.rest
    exact (congrArg State.pair hrest :)
  refine next_of hexec ⟨by rw [refreshPair_mate]; rfl, by rw [refreshPair_mate]; rfl, (refreshPair_map w).trans hv.map,
    (refreshPair_resyncFlag w).trans hresync, fun hguard => ?_⟩
  rw [refreshPair_readyFlag, State.readyNow, hresync, hpair, hguard]
  exact Bool.and_false _

section
variable {r : Resync} (hm : Mirrors s) (hrs : s.mate.rs = some r) (hreq : s.mate.reqSent = false)
include hm hrs hreq

theorem resyncData_gathers {region : Fin 7} {off : W32} {data : List W8} (hr : RecordTaken s h (.resyncData region.val off data)) :
    ∃ s', exec (.resyncData t h ⟨region, off, data⟩) s = .next s' ∧
      s'.mate.rs = some { r with got := r.got ++ (chunks 8 (data.length / 8) data).zipIdx.map fun b =>
        (region.val, off.toNat / 8 + b.2, BitVec.ofNat 64 (ofLe b.1)) } ∧ s'.map = s.map ∧ s'.sel = s.sel := by
  have hv := noted t s h (.resyncData region.val off data)
  refine next_of (congrArg Host.Outcome.next ((mateRecord_mirror hr hm rfl (.inl hreq)).trans (if_neg ?_))) ⟨?_, hv.map, hv.sel⟩
  · rw [MateBody.resync, Bool.not_true, Bool.and_false]
    exact Bool.false_ne_true
  · rw [State.applyBody, State.mapMate_mate, hv.mate, hrs]
    rfl

theorem resyncEnd_ends {n : W32} (hr : RecordTaken s h (.resyncEnd n)) :
    ∃ s', exec (.resyncEnd t h n) s = .next s' ∧ s'.mate.rs = some { r with ended := true } ∧ s'.map = s.map := by
  have hv := noted t s h (.resyncEnd n)
  refine next_of (congrArg Host.Outcome.next ((mateRecord_mirror hr hm rfl (.inl hreq)).trans (if_neg ?_))) ⟨?_, hv.map⟩
  · rw [MateBody.resync, Bool.not_true, Bool.and_false]
    exact Bool.false_ne_true
  · rw [State.applyBody, State.mapMate_mate, hv.mate, hrs]
    rfl

theorem mapEntries_waits {xs : List (BitVec 25 × W64)} (hr : RecordTaken s h (.mapEntries (xs.map fun e => (e.1.toNat, e.2)))) :
    ∃ s', exec (.mapEntries t h xs) s = .next s' ∧ s'.map = s.map ∧
      s'.mate.rs = some { r with later := r.later ++ [{ body := .mapEntries (xs.map fun e => (e.1.toNat, e.2)), last := h.last,
                                                        seq := h.seq, fn := h.fn, epoch := h.epoch }] } := by
  have hrs' : ((s.tick t).hears h).mate.rs = some r := hrs
  refine next_of (congrArg Host.Outcome.next ((mateRecord_mirror hr hm rfl (.inl hreq)).trans (if_pos ?_))) ⟨rfl, ?_⟩
  · rw [hrs']
    rfl
  · rw [State.mapMate_mate, hrs']
    rfl

end
end

/-! ### The standby's swap at a mirrored commit, or its discard (R236) -/

theorem OnlyLine.mate {s u : State} (h : OnlyLine s u) : u.mate = s.mate := by
  obtain ⟨l, rfl⟩ := h
  rfl

theorem countRefs_onlyRegs (s : State) : OnlyRegs s s.countRefs := OnlyRegs.foldl (fun _ _ hv => hv.wr) _ (.refl s)

theorem showDirty_mate (s : State) : s.showDirty.mate = s.mate := rfl

theorem reherd_mate (s : State) : s.reherd.mate = s.mate := rfl

/-- Of the mate link a swap sets only the entries sent since. -/
theorem swapSample_mate (u : State) : u.swapSample.mate = { u.mate with sent := 0 } := rfl

theorem swapMap_mate (s u : State) : (s.swapMap u).mate = u.mate := rfl

theorem swapPages_mate (s : State) : s.swapPages.mate = { s.mate with sent := 0 } := by
  rw [swapPages_eq, (wakeDemands_onlyLine _).mate, reherd_mate, (countRefs_onlyRegs _).mate, showDirty_mate, swapSample_mate, swapMap_mate,
    (swapRegs_onlyRegs s).mate]

section
variable {t : Nat} {s : State} {c : MirrorCommit} (hc : s.mate.mcommit = some c) (htarget : c.target = s.fn)
  (hmark : s.core.started = true ∧ max s.now t = s.core.markT)
include hc htarget hmark

theorem exec_mirroredSwap : exec (.mirroredSwap t) s = match s.mate.hb.filter fun b => decide (b.fn = s.fn - 1) with
    | some b => if b.body.getLsbD 0 then .next (((s.tick t).mapMap fun m =>
        { m with peakLoad := (s.tick t).shadowPeak.1, peakBank := (s.tick t).shadowPeak.2 }).mapMate fun m => { m with mcommit := none }).swapPages
      else .next ((s.tick t).discardMirrored false)
    | none => .next ((s.tick t).discardMirrored s.mateUp) := by
  show execMirroredSwap t s = _
  rw [execMirroredSwap]
  simp only [State.tick_mate, hc]
  exact if_pos ⟨htarget, hmark.1, hmark.2⟩

theorem mirroredSwap_swaps {b : Beat} (hb : s.mate.hb = some b) (hfn : b.fn = s.fn - 1) (hact : b.body.getLsbD 0 = true) :
    ∃ s', exec (.mirroredSwap t) s = .next s' ∧ s'.active = s.shadow ∧ s'.mate.mcommit = none ∧ s'.rd F.MAP_FN_LAST_SWAP_FN = s.fn.toNat := by
  have hexec := exec_mirroredSwap hc htarget hmark
  rw [hb, Option.filter_some, if_pos (decide_eq_true hfn)] at hexec
  refine next_of (hexec.trans (if_pos hact)) ⟨(swapPages_pages _).1, (congrArg MateSt.mcommit (swapPages_mate _) :), ?_⟩
  rw [swapPages_rd (by decide) (by decide), (swapRegs_rd _).2.1]
  rfl

theorem mirroredSwap_discards (h : (∃ b, s.mate.hb = some b ∧ b.fn = s.fn - 1 ∧ b.body.getLsbD 0 = false) ∨
    (∀ b, s.mate.hb = some b → b.fn ≠ s.fn - 1)) :
    ∃ s', exec (.mirroredSwap t) s = .next s' ∧ s'.active = s.active ∧ s'.shadow = s.shadow ∧
      s'.mate.mcommit = none ∧ s'.flag F.PAIR_INT_DIFF_DISCARD = true := by
  obtain ⟨again, hexec⟩ : ∃ again, exec (.mirroredSwap t) s = .next ((s.tick t).discardMirrored again) := by
    have hexec := exec_mirroredSwap hc htarget hmark
    rcases h with ⟨b, hb, hfn, hact⟩ | hother
    · rw [hb, Option.filter_some, if_pos (decide_eq_true hfn)] at hexec
      exact ⟨false, hexec.trans (if_neg (ne_true_of_eq_false hact))⟩
    · have hnone : s.mate.hb.filter (fun b => decide (b.fn = s.fn - 1)) = none :=
        Option.filter_eq_none_iff.2 fun b hb => by simpa using hother b hb
      rw [hnone] at hexec
      exact ⟨s.mateUp, hexec⟩
  obtain ⟨hpages, hcommit, hflag⟩ := discardMirrored_sets (s.tick t) again
  exact next_of hexec ⟨hpages.active, hpages.shadow, hcommit, hflag⟩

end

/-! ### The received words (R241) -/

/-- The last word that hits decides, where all that hit agree. -/
theorem foldl_of_hit {σ α β : Type} {f : σ → α → σ} {g : σ → β} {hit : α → Prop} {val : α → β}
    (hhit : ∀ s x, hit x → g (f s x) = val x) (hmiss : ∀ s x, ¬hit x → g (f s x) = g s)
    {v : β} {l : List α} (hsame : ∀ x ∈ l, hit x → val x = v)
    {s : σ} (h : g s = v ∨ ∃ x ∈ l, hit x) : g (l.foldl f s) = v := by
  induction l generalizing s with
  | nil => exact h.resolve_right (by rintro ⟨x, hx, -⟩; cases hx)
  | cons y l ih =>
    refine ih (fun x hx => hsame x (List.mem_cons_of_mem _ hx)) ?_
    by_cases hy : hit y
    · exact .inl ((hhit s y hy).trans (hsame y List.mem_cons_self hy))
    · rcases h with hv | ⟨x, hx, hhx⟩
      · exact .inl ((hmiss s y hy).trans hv)
      · rcases List.mem_cons.1 hx with rfl | hx
        · exact absurd hhx hy
        · exact .inr ⟨x, hx, hhx⟩

/-- A selector of which word `k` of region 2 is put anew: the low half with `k` even, the high one with `k` odd. -/
def putHalf (old : W128) (k : Nat) (w : W64) : W128 :=
  BitVec.ofNat 128 (if k % 2 = 0 then old.toNat / 2 ^ 64 * 2 ^ 64 + w.toNat else old.toNat % 2 ^ 64 + w.toNat * 2 ^ 64)

theorem putHalf_even (old : W128) {k : Nat} (w : W64) (hk : k % 2 = 0) :
    (putHalf old k w).toNat % 2 ^ 64 = w.toNat ∧ (putHalf old k w).toNat / 2 ^ 64 = old.toNat / 2 ^ 64 := by
  have hold := old.isLt
  have hw := w.isLt
  rw [putHalf, if_pos hk, BitVec.toNat_ofNat]
  omega

theorem putHalf_odd (old : W128) {k : Nat} (w : W64) (hk : k % 2 = 1) :
    (putHalf old k w).toNat % 2 ^ 64 = old.toNat % 2 ^ 64 ∧ (putHalf old k w).toNat / 2 ^ 64 = w.toNat := by
  have hold := old.isLt
  have hw := w.isLt
  rw [putHalf, if_neg (by omega), BitVec.toNat_ofNat]
  omega

section
variable (s : State) (k : Nat) (w : W64)

theorem putWord_entry : s.putWord (0, k, w) = if k < 2 ^ 25 then s.setPage s.shadowNo (putEntry s.shadow k w) else s := rfl

theorem putWord_sel : s.putWord (2, k, w) =
    if k < 2 ^ 21 then s.mapSel fun y =>
      { y with sels := Store.put selDefault y.sels (k / 2) (putHalf (Store.get selDefault y.sels (k / 2)) k w) }
    else s := rfl

theorem putWord_mon : s.putWord (3, k, w) = if k < 2 ^ 21 then s.mapSel fun y => { y with mons := Store.put monDefault y.mons k w } else s := rfl

end

/-- What a received word leaves alone: the map but for entries, the selectors and the monitors but for their own words, and always the
mate link and the roles of the pages. -/
structure PutKept (i : Nat) (s u : State) : Prop where
  map : i ≠ 0 → u.map = s.map
  sels : i ≠ 2 → u.sel.sels = s.sel.sels
  mons : i ≠ 3 → u.sel.mons = s.sel.mons
  mate : u.mate = s.mate
  activeNo : u.activeNo = s.activeNo

theorem PutKept.refl (i : Nat) (s : State) : PutKept i s s := ⟨fun _ => rfl, fun _ => rfl, fun _ => rfl, rfl, rfl⟩

theorem PutKept.setReg (i : Nat) (s : State) {a : Nat} {v : W32} (ha : a ≠ 0x40070004) : PutKept i s (s.setReg a v) :=
  ⟨fun _ => rfl, fun _ => rfl, fun _ => rfl, rfl, rd_setReg s (f := F.MAP_STATUS_ACTIVE_PAGE) (Ne.symm ha)⟩

theorem putWord_kept (s : State) (i k : Nat) (w : W64) : PutKept i s (s.putWord (i, k, w)) := by
  match i with
  | 0 =>
    rw [putWord_entry]
    split
    · exact ⟨fun h => absurd rfl h, fun _ => rfl, fun _ => rfl, rfl, rfl⟩
    · exact .refl 0 s
  | 2 =>
    rw [putWord_sel]
    split
    · exact ⟨fun _ => rfl, fun h => absurd rfl h, fun _ => rfl, rfl, rfl⟩
    · exact .refl 2 s
  | 3 =>
    rw [putWord_mon]
    split
    · exact ⟨fun _ => rfl, fun _ => rfl, fun h => absurd rfl h, rfl, rfl⟩
    · exact .refl 3 s
  | 4 =>
    simp only [State.putWord]
    split
    · next hreg =>
      refine .setReg 4 s fun ha => ?_
      rw [ha] at hreg
      exact absurd hreg (by decide)
    · exact .refl 4 s
  | 5 =>
    simp only [State.putWord]
    split
    · next y hy =>
      refine .setReg 5 s fun ha => ?_
      have hy1 : decide (y.1 = bits w.toNat 0 32) = true := List.find?_some (p := fun y : Nat × W32 => decide (y.1 = _)) hy
      have hfound : y.1 = 0x40070004 := (of_decide_eq_true hy1).trans ha
      exact absurd hfound ((by decide : ∀ y ∈ settingRegs, y.1 ≠ 0x40070004) y (List.mem_of_find?_eq_some hy))
    · exact .refl 5 s
  | 6 => exact ⟨fun _ => rfl, fun _ => rfl, fun _ => rfl, rfl, rfl⟩
  | 1 => exact .refl 1 s
  | n + 7 => exact .refl (n + 7) s

theorem putWords_keeps (got : List (Nat × Nat × W64)) (s : State) :
    (got.foldl State.putWord s).mate = s.mate ∧ (got.foldl State.putWord s).activeNo = s.activeNo := by
  refine List.foldlRecOn (motive := fun u : State => u.mate = s.mate ∧ u.activeNo = s.activeNo) got _ ⟨rfl, rfl⟩ fun u hu x _ => ?_
  have hx := putWord_kept u x.1 x.2.1 x.2.2
  exact ⟨hx.mate.trans hu.1, hx.activeNo.trans hu.2⟩

/-- Only an entry of region 0 goes into the page that comes into service. -/
theorem putWord_shadow (s : State) (x : Nat × Nat × W64) : (s.putWord x).shadow =
    if (decide (x.1 = 0) && decide (x.2.1 < 2 ^ 25)) = true then putEntry s.shadow x.2.1 x.2.2 else s.shadow := by
  obtain ⟨i, k, w⟩ := x
  by_cases h0 : i = 0
  · subst h0
    rw [putWord_entry]
    by_cases hk : k < 2 ^ 25
    · rw [if_pos hk, if_pos (by simpa using hk)]
      exact shadow_setShadow ..
    · rw [if_neg hk, if_neg (by simpa using hk)]
  · rw [if_neg (by simp [h0])]
    have hkept := putWord_kept s i k w
    exact SamePages.shadow ⟨hkept.activeNo, by rw [hkept.map h0], by rw [hkept.map h0]⟩

theorem putWords_shadow (got : List (Nat × Nat × W64)) (s : State) : (got.foldl State.putWord s).shadow =
    (got.filter fun x => decide (x.1 = 0) && decide (x.2.1 < 2 ^ 25)).foldl (fun p x => putEntry p x.2.1 x.2.2) s.shadow := by
  rw [List.foldl_filter]
  exact (List.foldl_hom State.shadow fun u x => (putWord_shadow u x).symm).symm

/-! Monitors and selectors. -/

theorem putWord_monRaw {m : Nat} (hm : m < 2 ^ 21) (s : State) (x : Nat × Nat × W64) :
    (x.1 = 3 ∧ x.2.1 = m → (s.putWord x).monRaw m = x.2.2) ∧ (¬(x.1 = 3 ∧ x.2.1 = m) → (s.putWord x).monRaw m = s.monRaw m) := by
  obtain ⟨i, k, w⟩ := x
  by_cases h3 : i = 3
  · subst h3
    rw [putWord_mon]
    constructor
    · rintro ⟨-, rfl⟩
      rw [if_pos hm]
      exact Store.get_put_same
    · intro hno
      split
      · exact Store.get_put_other fun hk => hno ⟨rfl, hk⟩
      · rfl
  · refine ⟨fun h => absurd h.1 h3, fun _ => ?_⟩
    rw [State.monRaw, (putWord_kept s i k w).mons h3, State.monRaw]

theorem putWord_selRaw {m : Nat} (hm : m < 2 ^ 20) (s : State) (x : Nat × Nat × W64) :
    (x.1 = 2 ∧ x.2.1 / 2 = m → (s.putWord x).selRaw m = putHalf (s.selRaw m) x.2.1 x.2.2) ∧
      (¬(x.1 = 2 ∧ x.2.1 / 2 = m) → (s.putWord x).selRaw m = s.selRaw m) := by
  obtain ⟨i, k, w⟩ := x
  by_cases h2 : i = 2
  · subst h2
    rw [putWord_sel]
    constructor
    · rintro ⟨-, hk⟩
      have hk : k / 2 = m := hk
      subst hk
      rw [if_pos (by omega)]
      exact Store.get_put_same
    · intro hno
      split
      · exact Store.get_put_other fun hk => hno ⟨rfl, hk⟩
      · rfl
  · refine ⟨fun h => absurd h.1 h2, fun _ => ?_⟩
    rw [State.selRaw, (putWord_kept s i k w).sels h2, State.selRaw]

/-- Each half of a selector is of the word with its index. -/
theorem putWord_halves {m : Nat} (hm : m < 2 ^ 20) (s : State) (i k : Nat) (w : W64) :
    ((s.putWord (i, k, w)).selRaw m).toNat % 2 ^ 64 = (if i = 2 ∧ k = 2 * m then w.toNat else (s.selRaw m).toNat % 2 ^ 64) ∧
      ((s.putWord (i, k, w)).selRaw m).toNat / 2 ^ 64 = (if i = 2 ∧ k = 2 * m + 1 then w.toNat else (s.selRaw m).toNat / 2 ^ 64) := by
  obtain ⟨hhit, hmiss⟩ := putWord_selRaw hm s (i, k, w)
  by_cases hk : i = 2 ∧ k / 2 = m
  · rw [hhit hk]
    rcases Nat.mod_two_eq_zero_or_one k with hpar | hpar
    · rw [if_pos ⟨hk.1, by omega⟩, if_neg (by omega)]
      exact putHalf_even _ _ hpar
    · rw [if_neg (by omega), if_pos ⟨hk.1, by omega⟩]
      exact putHalf_odd _ _ hpar
  · rw [hmiss hk, if_neg (by omega), if_neg (by omega)]
    exact ⟨rfl, rfl⟩

section
variable {got : List (Nat × Nat × W64)} {m : Nat} (s : State)

theorem putWords_monRaw (hm : m < 2 ^ 21) {w : W64} (hw : (3, m, w) ∈ got) (hsame : ∀ v, (3, m, v) ∈ got → v = w) :
    (got.foldl State.putWord s).monRaw m = w := by
  refine foldl_of_hit (g := fun u : State => u.monRaw m) (hit := fun x => x.1 = 3 ∧ x.2.1 = m)
    (fun u x => (putWord_monRaw hm u x).1) (fun u x => (putWord_monRaw hm u x).2) ?_ (.inr ⟨_, hw, rfl, rfl⟩)
  rintro ⟨i, k, v⟩ hx ⟨rfl, rfl⟩
  exact hsame v hx

theorem putWords_selRaw (hm : m < 2 ^ 20) {lo hi : W64} (hlo : (2, 2 * m, lo) ∈ got) (hhi : (2, 2 * m + 1, hi) ∈ got)
    (hlos : ∀ v, (2, 2 * m, v) ∈ got → v = lo) (hhis : ∀ v, (2, 2 * m + 1, v) ∈ got → v = hi) :
    (got.foldl State.putWord s).selRaw m = BitVec.ofNat 128 (lo.toNat + 2 ^ 64 * hi.toNat) := by
  have hlow : ((got.foldl State.putWord s).selRaw m).toNat % 2 ^ 64 = lo.toNat := by
    refine foldl_of_hit (g := fun u : State => (u.selRaw m).toNat % 2 ^ 64) (hit := fun x => x.1 = 2 ∧ x.2.1 = 2 * m) (val := fun x => x.2.2.toNat)
      (fun u x hx => (putWord_halves hm u x.1 x.2.1 x.2.2).1.trans (if_pos hx))
      (fun u x hx => (putWord_halves hm u x.1 x.2.1 x.2.2).1.trans (if_neg hx)) ?_ (.inr ⟨_, hlo, rfl, rfl⟩)
    rintro ⟨i, k, v⟩ hx ⟨rfl, rfl⟩
    exact congrArg BitVec.toNat (hlos v hx)
  have hhigh : ((got.foldl State.putWord s).selRaw m).toNat / 2 ^ 64 = hi.toNat := by
    refine foldl_of_hit (g := fun u : State => (u.selRaw m).toNat / 2 ^ 64) (hit := fun x => x.1 = 2 ∧ x.2.1 = 2 * m + 1)
      (val := fun x => x.2.2.toNat) (fun u x hx => (putWord_halves hm u x.1 x.2.1 x.2.2).2.trans (if_pos hx))
      (fun u x hx => (putWord_halves hm u x.1 x.2.1 x.2.2).2.trans (if_neg hx)) ?_ (.inr ⟨_, hhi, rfl, rfl⟩)
    rintro ⟨i, k, v⟩ hx ⟨rfl, rfl⟩
    exact congrArg BitVec.toNat (hhis v hx)
  rw [← hlow, ← hhigh, Nat.mod_add_div, BitVec.ofNat_toNat, BitVec.setWidth_eq]

end

/-! ### The standby's swap to the received state (R241) -/

/-- The mirror before the received words are put into force: no selectors, monitors or shadow entries. -/
def State.clearMirror (s : State) : State :=
  let s := s.mapMap fun m => { m with before := [], dirty := [], redir := [], moved := [], copy := none }
  let s := s.mapSel fun x => { x with sels := [], mons := [], runs := [], held := [], exer := [], shadow := [] }
  (s.setPage s.shadowNo []).mapTmg fun x => { x with mateHist := [] }

/-- The received page comes into service, and the checked shadow entries go over it into the other page. -/
def State.serveReceived (s : State) (es : List (Nat × W64)) : State :=
  let s := s.wr F.MAP_STATUS_ACTIVE_PAGE s.shadowNo
  (s.setShadow (es.foldl (fun p e => putEntry p e.1 e.2) s.active)).mapMap fun m =>
    { m with dirty := es.foldl (fun d e =>
        if e.1 < lineSlots then Store.put (fun _ => false) d e.1 (decide (e.2 ≠ entryAt s.active e.1)) else d) [] }

/-- What the device shows of the pages now in service. -/
def State.showReceived (s : State) : State :=
  let s := if s.rd F.MAP_STATUS_STATE = 4 then s.wr F.MAP_STATUS_STATE 0 else s
  let s := ((s.wr F.MAP_FN_LAST_SWAP_FN s.fn.toNat).raise F.MAP_INT_SWAP).bump F.MAP_COMMIT_CNT_COUNT 1
  let pk := peak (pageLoads s.checkEnv s.active)
  let s := ((s.wr F.MAP_HERD_USE_IN_USE (herdUsed s.active).length).wr F.MAP_BANK_PEAK_LOAD pk.1).wr F.MAP_BANK_PEAK_BANK pk.2
  let s := ((s.setFlag F.MAP_STATUS_CHECK_VALID false).showDirty.showSelUse.showMonUse).countRefs
  ((s.mapCore fun c => { c with
      samp := { c.samp with page := s.active, pageNo := s.activeNo, sels := s.sel.sels, held := s.sel.held, groups := s.groups } }).mapMate
    fun m => { m with sent := 0, selQ := [] }).reherd

theorem swapReceived_eq (s : State) (got : List (Nat × Nat × W64)) : s.swapReceived got =
    ((got.foldl State.putWord s.clearMirror).timersReceived.serveReceived (shadowEntries got)).showReceived := rfl

/-- From `s` to `u` the pages, their roles, the selectors and what is noted of the resynchronisation are the same. -/
structure Shown (s u : State) : Prop where
  pages : SamePages s u
  sel : u.sel = s.sel
  rs : u.mate.rs = s.mate.rs
  synced : u.mate.synced = s.mate.synced

namespace Shown

variable {s u w : State}

theorem refl (s : State) : Shown s s := ⟨⟨rfl, rfl, rfl⟩, rfl, rfl, rfl⟩

theorem trans (h : Shown s u) (g : Shown u w) : Shown s w :=
  ⟨h.pages.trans g.pages, g.sel.trans h.sel, g.rs.trans h.rs, g.synced.trans h.synced⟩

theorem ite {c : Prop} [Decidable c] (h : Shown s u) (g : Shown s w) : Shown s (if c then u else w) := by
  split <;> assumption

theorem wr (h : Shown s u) {f : Fld} {v : Nat} (hf : f.apart F.MAP_STATUS_ACTIVE_PAGE = true) : Shown s (u.wr f v) :=
  h.trans ⟨⟨State.rd_wr_apart u v hf, rfl, rfl⟩, rfl, rfl, rfl⟩

theorem mapCore (h : Shown s u) {f : CoreSt → CoreSt} : Shown s (u.mapCore f) := h.trans ⟨⟨rfl, rfl, rfl⟩, rfl, rfl, rfl⟩

theorem reherd (h : Shown s u) : Shown s u.reherd := by
  rw [State.reherd]
  exact h.mapCore

theorem forgetSent (h : Shown s u) : Shown s (u.mapMate fun m => { m with sent := 0, selQ := [] }) := h.trans ⟨⟨rfl, rfl, rfl⟩, rfl, rfl, rfl⟩

theorem countRefs (h : Shown s u) : Shown s u.countRefs :=
  List.foldlRecOn (motive := Shown s) _ _ h fun v hv p _ => hv.wr (apart_of_addr (by show 0x40100000 + p * 0x1000 + 0x10 ≠ 0x40070004; omega))

end Shown

theorem showReceived_shown (s : State) : Shown s s.showReceived := by
  unfold State.showReceived
  extract_lets idle swapped pk counted shown
  have hidle : Shown s idle := ((Shown.refl s).wr (by decide)).ite (.refl s)
  have hswapped : Shown s swapped := ((hidle.wr (by decide)).wr (by decide)).wr (by decide)
  have hcounted : Shown s counted := ((hswapped.wr (by decide)).wr (by decide)).wr (by decide)
  have hshown : Shown s shown := ((((hcounted.wr (by decide)).wr (by decide)).wr (by decide)).wr (by decide)).countRefs
  exact hshown.mapCore.forgetSent.reherd

theorem serveReceived_pages (s : State) (es : List (Nat × W64)) : (s.serveReceived es).active = s.shadow ∧
    (s.serveReceived es).shadow = es.foldl (fun p e => putEntry p e.1 e.2) s.shadow := by
  have hno : s.shadowNo < 2 := by rw [State.shadowNo]; omega
  have hactive : (s.wr F.MAP_STATUS_ACTIVE_PAGE s.shadowNo).active = s.shadow := by
    rw [State.active, State.activeNo, rd_wr_lt _ (by decide) hno, State.shadow]
    rfl
  have hpages : SamePages ((s.wr F.MAP_STATUS_ACTIVE_PAGE s.shadowNo).setShadow
      (es.foldl (fun p e => putEntry p e.1 e.2) (s.wr F.MAP_STATUS_ACTIVE_PAGE s.shadowNo).active)) (s.serveReceived es) := ⟨rfl, rfl, rfl⟩
  rw [hpages.active, hpages.shadow, active_setShadow, shadow_setShadow, hactive]
  exact ⟨rfl, rfl⟩

theorem serveReceived_rest (s : State) (es : List (Nat × W64)) : (s.serveReceived es).mate = s.mate ∧
    (s.serveReceived es).sel = s.sel := ⟨rfl, rfl⟩

theorem timersReceived_rest (s : State) : s.timersReceived.mate = s.mate ∧ s.timersReceived.sel.sels = s.sel.sels ∧
    s.timersReceived.sel.mons = s.sel.mons ∧ SamePages s s.timersReceived := ⟨rfl, rfl, rfl, rfl, rfl, rfl⟩

theorem clearMirror_shadow (s : State) : s.clearMirror.shadow = [] :=
  page_setPage_same ..

/-- The state the standby swaps to is the one it received. -/
theorem swapReceived_sets (s : State) (got : List (Nat × Nat × W64)) :
    (s.swapReceived got).mate.rs = s.mate.rs ∧ (s.swapReceived got).mate.synced = s.mate.synced ∧
      (s.swapReceived got).active =
        (got.filter fun x => decide (x.1 = 0) && decide (x.2.1 < 2 ^ 25)).foldl (fun p x => putEntry p x.2.1 x.2.2) [] ∧
      (s.swapReceived got).shadow = (shadowEntries got).foldl (fun p e => putEntry p e.1 e.2) (s.swapReceived got).active ∧
      (∀ m, (s.swapReceived got).monRaw m = (got.foldl State.putWord s.clearMirror).monRaw m) ∧
      (∀ m, (s.swapReceived got).selRaw m = (got.foldl State.putWord s.clearMirror).selRaw m) := by
  obtain ⟨htmate, hsels, hmons, htpages⟩ := timersReceived_rest (got.foldl State.putWord s.clearMirror)
  obtain ⟨hmate, hsel⟩ := serveReceived_rest (got.foldl State.putWord s.clearMirror).timersReceived (shadowEntries got)
  obtain ⟨hactive, hover⟩ := serveReceived_pages (got.foldl State.putWord s.clearMirror).timersReceived (shadowEntries got)
  obtain ⟨hpages, hssel, hrs, hsynced⟩ :=
    showReceived_shown ((got.foldl State.putWord s.clearMirror).timersReceived.serveReceived (shadowEntries got))
  have hkept : (got.foldl State.putWord s.clearMirror).mate = s.mate := (putWords_keeps got s.clearMirror).1
  rw [htpages.shadow, putWords_shadow, clearMirror_shadow] at hactive hover
  rw [hmate, htmate, hkept] at hrs hsynced
  rw [swapReceived_eq, hpages.active, hpages.shadow, hactive, hover]
  refine ⟨hrs, hsynced, rfl, rfl, fun m => ?_, fun m => ?_⟩
  · rw [State.monRaw, hssel, hsel, hmons, State.monRaw]
  · rw [State.selRaw, hssel, hsel, hsels, State.selRaw]

/-- The standby swaps, and shows that the resynchronisation is done. -/
def State.endResync (s : State) (got : List (Nat × Nat × W64)) : State :=
  (((s.mapMate fun m => { m with rs := none, synced := true, seenMate := true }).swapReceived got).setFlag F.PAIR_STAT_STALE false).raise
    F.PAIR_INT_RESYNC_DONE

theorem endResync_shown (s : State) (got : List (Nat × Nat × W64)) :
    Shown ((s.mapMate fun m => { m with rs := none, synced := true, seenMate := true }).swapReceived got) (s.endResync got) :=
  ((Shown.refl _).wr (by decide)).wr (by decide)

theorem endResync_flags (s : State) (got : List (Nat × Nat × W64)) :
    (s.endResync got).flag F.PAIR_STAT_STALE = false ∧ (s.endResync got).flag F.PAIR_INT_RESYNC_DONE = true := by
  unfold State.endResync
  generalize (s.mapMate fun m => { m with rs := none, synced := true, seenMate := true }).swapReceived got = u
  exact ⟨(flag_raise_apart _ (by decide)).trans (flag_setFlag_same u (by decide) rfl), flag_raise_same _ (by decide) rfl⟩

section
variable {t : Nat} {s : State} {r : Resync} (hrs : s.mate.rs = some r)
include hrs

theorem exec_resyncSwap : exec (.resyncSwap t) s =
    if r.ended = true ∧ s.core.started = true ∧ max s.now t = s.core.markT ∧ s.acting = false ∧ s.flag F.CORE_STATUS_BG_SUSPENDED = false then
      .next (r.later.foldl (fun s x => if s.mate.reqSent then s else (s.noteRec x).applyBody x.last x.body) ((s.tick t).endResync r.got)).refreshPair
    else .next (s.tick t) := by
  show execResyncSwap t s = _
  rw [execResyncSwap]
  simp only [State.tick_mate, hrs]
  rfl

theorem resyncSwap_swaps (hend : r.ended = true) (hmark : s.core.started = true ∧ max s.now t = s.core.markT) (hact : s.acting = false)
    (hsusp : s.flag F.CORE_STATUS_BG_SUSPENDED = false) : ∃ u : State, exec (.resyncSwap t) s =
      .next (r.later.foldl (fun s x => if s.mate.reqSent then s else (s.noteRec x).applyBody x.last x.body) u).refreshPair ∧
    u.mate.rs = none ∧ u.mate.synced = true ∧ u.flag F.PAIR_STAT_STALE = false ∧ u.flag F.PAIR_INT_RESYNC_DONE = true ∧
    u.active = (r.got.filter fun x => decide (x.1 = 0) && decide (x.2.1 < 2 ^ 25)).foldl (fun p x => putEntry p x.2.1 x.2.2) [] ∧
    u.shadow = (shadowEntries r.got).foldl (fun p e => putEntry p e.1 e.2) u.active ∧
    (∀ m w, m < 2 ^ 21 → (3, m, w) ∈ r.got → (∀ v, (3, m, v) ∈ r.got → v = w) → u.monRaw m = w) ∧
    (∀ m lo hi, m < 2 ^ 20 → (2, 2 * m, lo) ∈ r.got → (2, 2 * m + 1, hi) ∈ r.got → (∀ v, (2, 2 * m, v) ∈ r.got → v = lo) →
      (∀ v, (2, 2 * m + 1, v) ∈ r.got → v = hi) → u.selRaw m = BitVec.ofNat 128 (lo.toNat + 2 ^ 64 * hi.toNat)) := by
  let v := (s.tick t).mapMate fun m => { m with rs := none, synced := true, seenMate := true }
  obtain ⟨hnone, hsynced, hactive, hshadow, hmon, hsel⟩ := swapReceived_sets v r.got
  have hshown : Shown (v.swapReceived r.got) ((s.tick t).endResync r.got) := endResync_shown (s.tick t) r.got
  obtain ⟨hstale, hdone⟩ := endResync_flags (s.tick t) r.got
  refine ⟨(s.tick t).endResync r.got, (exec_resyncSwap hrs).trans (if_pos ⟨hend, hmark.1, hmark.2, hact, hsusp⟩),
    hshown.rs.trans hnone, hshown.synced.trans hsynced, hstale, hdone, hshown.pages.active.trans hactive, ?_, fun m w hm hw hsame => ?_,
    fun m lo hi hm hlo hhi hlos hhis => ?_⟩
  · rw [hshown.pages.shadow, hshown.pages.active, hshadow]
  · rw [State.monRaw, hshown.sel, ← State.monRaw, hmon, putWords_monRaw v.clearMirror hm hw hsame]
  · rw [State.selRaw, hshown.sel, ← State.selRaw, hsel, putWords_selRaw v.clearMirror hm hlo hhi hlos hhis]

theorem resyncSwap_waits (h : r.ended = false ∨ s.flag F.CORE_STATUS_BG_SUSPENDED = true) : exec (.resyncSwap t) s = .next (s.tick t) := by
  refine (exec_resyncSwap hrs).trans (if_neg ?_)
  rintro ⟨hend, -, -, -, hsusp⟩
  exact h.elim (fun h => Bool.noConfusion (h.symm.trans hend)) fun h => Bool.noConfusion (h.symm.trans hsusp)

end

/-- Settles O53: the holder's records by the snapshot that heeding the request leaves as it was, the standby's swap by the words it puts
into force one by one, a mirrored commit by the heartbeat of the frame before. -/
theorem resynchronisation : Obligations.Resynchronisation := by
  intro t h fn region off data n r xs c b s
  exact ⟨resyncStart_sends, resyncStart_waits, fun hm => ⟨resyncBegin_starts hm,
      fun hrs hreq => ⟨resyncData_gathers hm hrs hreq, resyncEnd_ends hm hrs hreq, mapEntries_waits hm hrs hreq⟩⟩,
    resyncSwap_swaps, resyncSwap_waits,
    fun hc htarget hmark => ⟨mirroredSwap_swaps hc htarget hmark, mirroredSwap_discards hc htarget hmark⟩⟩

end Sys2Proof.Machine
end
